-- ==== Sys2Proof/Word.lean ====
section
/-! DEFINITION. The word types of the LFX-9216: what the manual treats as bits. Counts, sizes and
indices are `Nat`, exact arithmetic is `Int` (R9). -/

namespace Sys2Proof

/-- One byte of a packet, of memory or of a link. -/
abbrev Byte := BitVec 8
/-- A 16-bit field of a packet or structure. -/
abbrev W16 := BitVec 16
/-- A BAR0 register or a 32-bit field (R13). -/
abbrev W32 := BitVec 32
/-- A 64-bit parameter: a host address, an offset or a detail word. -/
abbrev W64 := BitVec 64
/-- A Calliope time stamp in the format of R8: `[15:0]` fraction, `[47:16]` ns, `[95:48]` s. -/
abbrev Time96 := BitVec 96

end Sys2Proof
end

