-- ==== Sys2Proof/Syntax.lean ====
section
/-! DEFINITION. The commands of the LFX-9216: one constructor of `Instr` for each row of the table of
operations and events, with the row's operands. What a step needs from outside the device (the
answer to a read of host memory, the outcome of an ECC check, a measured value) is an operand. -/

namespace Sys2Proof

/-! ### Who sends -/

/-- A PCIe port (R325). -/
inductive Port | ha | hb
deriving DecidableEq, Repr

/-- Where a command packet came from: a submission queue, the MCTP mailbox (with its message tag,
R346), a mesh port on behalf of a gateway ID with the gateway's number for the command (R301, R302),
or Ringmaster firmware (R282). -/
inductive Src
  | sq (q : Nat)
  | mbox (msgTag : Nat)
  | mesh (port gateway id : Nat)
  | fw
deriving DecidableEq, Repr

/-- The 16-byte packet header after the checks of R333: OPCODE and LENGTH are implied by the command. -/
structure Hdr where
  src : Src
  tag : W32
  qseq : W16
  ordered : Bool
  quiet : Bool
  ackEarly : Bool
  gen : W16
deriving DecidableEq, Repr

/-- What the host answers to a read of its memory (R353). -/
inductive HostAns
  | data (bytes : List Byte)
  | refused
  | poisoned
deriving DecidableEq, Repr

/-- The outcome of the error check on a memory read (R253, R260, R418). -/
inductive Ecc
  | clean
  | corrected
  | retried
  | lasting
  /-- An RCD parity or write CRC error on the DRAM bus that recurred on its retry. -/
  | bus
deriving DecidableEq, Repr

/-- What the accesses of one step meet in memory: the outcomes of the error checks of the lines or words they read, in
order (those past the list's end are clean), the outcome of their writes on the DRAM bus (R253), and the assertions of
SPM_BUSY that delayed them (R262). -/
structure MemEnv where
  reads : List Ecc := []
  write : Ecc := .clean
  busy : Nat := 0
deriving DecidableEq, Repr

/-- A read of some bytes, or a write of these bytes. -/
inductive Access
  | read (len : Nat)
  | write (bytes : List Byte)
deriving DecidableEq, Repr

/-! ### Parameters of the command packets

`rsvd` says that some reserved parameter byte or bit outside FLAGS is not 0. -/

/-- R68. -/
structure SceneLoadP where
  slot : Byte
  flags : W16
  argA : W64
  argB : W64
  argC : W32
deriving DecidableEq, Repr

/-- R76: SCENE_PLAY and SCENE_SEEK. -/
structure ScenePlayP where
  slot : Byte
  flags : Byte
  frame : W32
  time : Time96
  rsvd : Bool
deriving DecidableEq, Repr

/-- R76: SCENE_STOP. -/
structure SceneStopP where
  slot : Byte
  flags : Byte
  rsvd : Bool
deriving DecidableEq, Repr

/-- R72. -/
structure FrameSubmitP where
  hostAddr : W64
  recLength : W32
  flags : W32
  target : Time96
  rsvd : Bool
deriving DecidableEq, Repr

/-- R122. -/
structure LayerSetP where
  slot : Byte
  flags : Byte
  disparity : W16
  posX : W16
  posY : W16
  surface : W32
  rsvd : Bool
deriving DecidableEq, Repr

/-- R168. -/
structure CommitP where
  flags : Byte
  target : Time96
  rsvd : Bool
deriving DecidableEq, Repr

/-- R176. -/
structure TimingSetP where
  mode : Byte
  flags : Byte
  hx : W16
  hy : W16
  rateNum : W32
  rateDen : W32
  target : Time96
  rsvd : Bool
deriving DecidableEq, Repr

/-- R155. -/
structure UpdateRegionP where
  rx : W16
  ry : W16
  w : W16
  h : W16
  kind : Byte
  flags : Byte
  timeout : W16
  rsvd : Bool
deriving DecidableEq, Repr

/-- R158. -/
structure WaveformLoadP where
  hostAddr : W64
  length : W32
  rsvd : Bool
deriving DecidableEq, Repr

/-- R286: the three Sideshow commands; `src` is SRC_BASE, or VALUE for a fill. -/
structure BlitP where
  chan : Byte
  flags : Byte
  srcFmt : Byte
  dstFmt : Byte
  src : W64
  srcPitch : W32
  dstBase : W64
  dstPitch : W32
  srcX : W16
  srcY : W16
  dstX : W16
  dstY : W16
  width : W16
  height : W16
  startWm : Byte
  progRow : W16
  rsvd : Bool
deriving DecidableEq, Repr

/-- R276. -/
structure CtnJobP where
  ctx : Byte
  coder : Byte
  elem : Byte
  flags : Byte
  srcAddr : W64
  srcLen : W32
  chainAddr : W64
  chainCount : W16
  rsvd : Bool
deriving DecidableEq, Repr

/-- R279. -/
structure CtnStateP where
  ctx : Byte
  addr : W64
  length : W32
  rsvd : Bool
deriving DecidableEq, Repr

/-- R342. -/
structure SurfaceRegisterP where
  addr : W64
  size : W32
  rsvd : Bool
deriving DecidableEq, Repr

/-- R344. -/
structure SurfaceReleaseP where
  handle : W32
  rsvd : Bool
deriving DecidableEq, Repr

/-- R409. -/
structure FwOpenP where
  target : Byte
  imageLen : W32
  rsvd : Bool
deriving DecidableEq, Repr

/-- R410. -/
structure FwBlockP where
  session : W32
  offset : W32
  crc : W32
  data : List Byte
  rsvd : Bool
deriving DecidableEq, Repr

/-- R411. -/
structure FwCommitP where
  session : W32
  flags : Byte
  rsvd : Bool
deriving DecidableEq, Repr

/-- R412. -/
structure FwAbortP where
  session : W32
  rsvd : Bool
deriving DecidableEq, Repr

/-- R414. -/
structure FwConfirmP where
  version : W32
  rsvd : Bool
deriving DecidableEq, Repr

/-- R431. -/
structure CalRunP where
  items : W16
  flags : Byte
  rsvd : Bool
deriving DecidableEq, Repr

/-- R432. -/
structure CalReadP where
  hostAddr : W64
  set : Byte
  rsvd : Bool
deriving DecidableEq, Repr

/-- R433. -/
structure CalWriteP where
  items : W16
  record : List Byte
  rsvd : Bool
deriving DecidableEq, Repr

/-- R315. -/
structure MeshSendP where
  dst : W16
  msgLen : W32
  hostAddr : W64
  rsvd : Bool
deriving DecidableEq, Repr

/-- R349: UNIT_STATE_GET, UNIT_STATE_SET and RESET_UNIT. -/
structure UnitP where
  cls : Byte
  dest : Byte
  index : W16
  flags : Byte
  rsvd : Bool
deriving DecidableEq, Repr

/-- R370. -/
structure LogReadP where
  flags : Byte
  count : W32
  hostAddr : W64
  rsvd : Bool
deriving DecidableEq, Repr

/-- R341. -/
structure FenceP where
  scope : Byte
  rsvd : Bool
deriving DecidableEq, Repr

/-- A command packet of the catalogue (R339) with its parameters. A command that reads host memory
as it runs carries the host's answer. -/
inductive Cmd
  | nop
  | fence (p : FenceP)
  | sceneLoadOpen (p : SceneLoadP)
  | sceneLoadData (p : SceneLoadP) (ans : HostAns)
  | sceneLoadClose (p : SceneLoadP)
  | sceneLoadFree (p : SceneLoadP)
  | sceneLoadBad (subfn : Byte) (p : SceneLoadP)
  | scenePlay (p : ScenePlayP)
  | sceneStop (p : SceneStopP)
  | sceneSeek (p : ScenePlayP)
  | frameSubmit (p : FrameSubmitP)
  | layerSet (p : LayerSetP)
  | commit (p : CommitP)
  | timingSet (p : TimingSetP)
  | updateRegion (p : UpdateRegionP)
  | waveformLoad (p : WaveformLoadP)
  | blitFill (p : BlitP)
  | blitCopy (p : BlitP)
  | blitConvert (p : BlitP)
  | ctnEncode (p : CtnJobP)
  | ctnDecode (p : CtnJobP)
  | ctnSave (p : CtnStateP)
  | ctnRestore (p : CtnStateP)
  | surfaceRegister (p : SurfaceRegisterP)
  | surfaceRelease (p : SurfaceReleaseP)
  | fwOpen (p : FwOpenP)
  | fwBlock (p : FwBlockP)
  | fwCommit (p : FwCommitP)
  | fwAbort (p : FwAbortP)
  | fwConfirm (p : FwConfirmP)
  | calRun (p : CalRunP)
  | calRead (p : CalReadP)
  | calWrite (p : CalWriteP)
  | meshSend (p : MeshSendP) (ans : HostAns)
  | unitGet (p : UnitP)
  | unitSet (p : UnitP)
  | resetUnit (p : UnitP)
  | logEntries (p : LogReadP)
  | logCodes (p : LogReadP)
  | logSources (p : LogReadP)
  | logBad (subfn : Byte) (p : LogReadP)
deriving DecidableEq, Repr

/-! ### Event-log entries -/

/-- The event-log and journal entries the manual names; their numbers come from the dictionary that
travels with the firmware (R372). `trzBad`, `pxFault` and `wdogRecord` are entries the manual
requires without naming (R314, R206, R392, R396, R243, R387). -/
inductive LogName
  | rmBar0Access | frameBudget | frameLate | frameAbort | framePoison | sceneDegraded
  | homHaloLate | homPoison | homPipeErr | homSelftestFail | homPipeSpared | homLaRange
  | clrOvlPoison
  | crslPriorPoison | crslTblCopy | crslTblAll | crslB7Cut
  | scnCommitLate | scnUnderrun
  | pxTrainFail | pxRetrain | pxBcBad | pxFault | pxPathFault | pxPartnerAbsent | pxMiswired
  | pxGroupSpared
  | pwrState | pwrHeadroomLimit | pwrDerateNosrc | pwrEmitterOpen | pwrEmitterShort
  | jglAddrRange | jglRetrainOk | jglRankSpared | jglFolded | jglLowWidth | jglRowDisturb | jglUe
  | spmUe | spmOffAccess | spmBankSpared | spmWipe
  | ctnTileFail
  | trzLaneSpared | trzDrop | trzHaloPoison | trzHaloTrunc | trzAuthFail | trzBad
  | clpRestep | clpHoldover
  | hqFailover | hqCqDrop
  | unitState | unitReqStale
  | fenceViolation | trnViolation
  | thSensorLost | thSensorSpared | thSiteLost | thPause | thPanelCrit
  | fwLockExpired | fwFallback
  | calMramFail | calRefinLost
  | clkLrefAbsent | clkLrefLost
  | secTamper | brownout | wdogRecord | slotVerify | jglRetrainFail | thTrip
deriving DecidableEq, Repr

/-! ### What the surroundings contribute to an event -/

/-- What a tick finds: whether every part of a due register commit can be applied by line 255
(R167), the result of this tick's pipeline self-test (R106), whether a spare-map commitment to MRAM
made at this tick verifies (R423), and the groups whose pad loopback CRC differed from PRE, with
the PAD value (R209). -/
structure TickEnv where
  commitInTime : Bool
  selfTestPass : Bool
  mramOk : Bool
  pad : List (Nat × W32)
deriving DecidableEq, Repr

/-- What a line finds at its departure (R170): whether it is complete in the scan FIFO, the stage
that failed otherwise, the complete lines standing behind it, and the reads made for it that came
back poisoned or retried. `tiles` names plane, tile column and tile row; `prior` names blocks of
the line's prior-state entries; `retried` names, as `tiles` does, the tiles whose read its retry
cured; `overlays` names an overlay slot with the sample rectangle `x, y, count` (one row of samples)
that a poisoned read delivered; `table` names a waveform-table byte address with the number of
copies, in order, that failed at it (R148). -/
structure LineEnv where
  complete : Bool
  stage : Nat
  lead : Nat
  retried : List (Nat × Nat × Nat)
  tiles : List (Nat × Nat × Nat)
  prior : List Nat
  overlays : List (Nat × Nat × Nat × Nat)
  table : List (Nat × Nat)
deriving DecidableEq, Repr

/-- The TS1 or TS2 a partner or neighbour sent: sixteen bytes under R194 (byte 0 tells TS1 from TS2). -/
abbrev TsBytes := List Byte

/-- A conversion of an on-die sensor or NTC input: its unit index and its reading in 1/16 °C. -/
abbrev Reading := Nat × Int

/-- What a sample period brings (R377, R456): the conversions made, the REFIN measured in
0.1 mV and the internal bandgap check of it. -/
structure SampleEnv where
  readings : List Reading
  refinInRange : Bool
deriving DecidableEq, Repr

/-- The two averaged measurements of a calibration item and the REFIN found (R428, R429). -/
structure CalMeas where
  mLo : Int
  mHi : Int
  refin : Nat
deriving DecidableEq, Repr

/-- A static Turnstile entry of the configuration or the firmware policy (R404, R406): target,
entry index, range, the master masks, FENCE. -/
structure PolicyEntry where
  target : Nat
  index : Nat
  base : W64
  limit : W64
  r : W64
  w : W64
  x : W64
  fence : Bool
deriving DecidableEq, Repr

/-- A dictionary record of the firmware (R372): number, its second field, and the text. -/
structure DictRec where
  number : Nat
  attrs : Nat
  aux : Nat
  text : List Byte
deriving DecidableEq, Repr

/-- The configuration applied at LOAD (R393): the items the configuration image's sections hold, whose byte
layout is the configuration tool's (R397), the record found in the factory calibration blob (R430), and the
sections of the firmware image whose layout the manual leaves to the firmware (dictionary, panel-partner
configuration, R372, R397). -/
structure ConfigItems where
  subsystem : W32
  hbMode : Bool
  failoverMs : Nat
  trzId : Option Nat
  routes : List (Nat × Nat)
  policy : List PolicyEntry
  psens : List (Nat × Byte)
  ntc : Nat
  neighbours : List (Nat × W32)
  confirmWin : Nat
  self : Bool
  spareCh : Nat
  spareRank : Bool
  holdLow : Bool
  factoryRecord : List Byte
  dictCodes : List DictRec
  dictSources : List DictRec
  partnerConfig : List (Nat × W32)
deriving DecidableEq, Repr

/-- What start training found on one channel (R234, R242): `dimms` populated, `ranks` present,
whether its DIMMs equal the reference, and the ranks that failed. -/
structure ChannelTrain where
  channel : Nat
  populated : Bool
  matching : Bool
  ranks : Nat
  failedRanks : List Nat
deriving DecidableEq, Repr

/-- The result of start training: usable bytes of one rank and the channels found. -/
structure TrainEnv where
  rankBytes : Nat
  channels : List ChannelTrain
deriving DecidableEq, Repr

/-- What the CHECK stage finds (R393): the OFFLINE scratchpad banks and sensor spares whose test failed. -/
structure CheckEnv where
  banksFailed : List Nat
  sparesFailed : List Nat
deriving DecidableEq, Repr

/-- The logical banks in which a wipe's first and second verify found a word that is not zero (R266). -/
structure WipeEnv where
  first : List Nat := []
  second : List Nat := []
deriving DecidableEq, Repr

/-- What a trained mesh port found (R296 to R298): the peer's ID and port code, the BAD map it offered, the lanes that failed
this side's checks. -/
structure MeshTrain where
  peer : Nat
  peerPort : Nat
  bad : BitVec 16
  failed : List Nat
deriving DecidableEq, Repr

/-- The content of a MGMT frame (R301, R302): a command packet for this device with its number, or
the completion of a command this gateway sent. The manual gives the content and no byte layout. -/
inductive MgmtMsg
  | command (id : Nat) (packet : List Byte)
  | completion (id : Nat) (status : Byte) (detail : W64)
deriving DecidableEq, Repr

/-- An MCTP control message of R345. -/
inductive McCtrl
  | setEid (eid : Byte)
  | getEid
  | getVersion
  | getTypes
  | getVendor
deriving DecidableEq, Repr

/-- One SMBus packet carrying MCTP (R345, R346): the 7-bit target address, whether its PEC checks, start and end of
message, the packet sequence number, the message tag, and the bytes of the message, of which the first packet's first is
the message type. -/
structure McPacket where
  addr : Nat
  pecOk : Bool
  som : Bool
  eom : Bool
  seq : Nat
  msgTag : Nat
  bytes : List Byte
deriving DecidableEq, Repr

/-- A rail the device monitors (R459). -/
inductive Rail | vcore | vsram | vser | vserh | vddq | vaux | vauxa
deriving DecidableEq, Repr

/-- A panel rail with a power-good input (R214). -/
inductive PnlRail | logic | gate | bias | vledR | vledG | vledB
deriving DecidableEq, Repr

/-- One step of the LFX-9216: a command packet, a register access, or an event of the table of
operations and events. `m` is a master ID of R403, `v` the value written. -/
inductive Instr
  -- command packets and what follows from them
  | nop (h : Hdr)
  | fence (h : Hdr) (p : FenceP)
  | sceneLoadOpen (h : Hdr) (p : SceneLoadP)
  | sceneLoadData (h : Hdr) (p : SceneLoadP) (ans : HostAns)
  | sceneLoadClose (h : Hdr) (p : SceneLoadP)
  | sceneVerifyDone (slot : Nat) (failed : List Nat := [])
  | sceneLoadFree (h : Hdr) (p : SceneLoadP)
  | scenePlay (h : Hdr) (p : ScenePlayP)
  | sceneStop (h : Hdr) (p : SceneStopP)
  | sceneSeek (h : Hdr) (p : ScenePlayP)
  | frameSubmit (h : Hdr) (p : FrameSubmitP)
  | streamedFrameLanded (staging : Nat) (ans : HostAns)
  | layerSet (h : Hdr) (p : LayerSetP)
  | commit (h : Hdr) (p : CommitP)
  | timingSet (h : Hdr) (p : TimingSetP)
  | updateRegion (h : Hdr) (p : UpdateRegionP)
  | waveformLoad (h : Hdr) (p : WaveformLoadP)
  | waveformCheckDone (ans : HostAns)
  | blitFill (h : Hdr) (p : BlitP)
  | blitCopy (h : Hdr) (p : BlitP)
  | blitConvert (h : Hdr) (p : BlitP)
  | shwStagingDone (ch : Nat) (env : MemEnv)
  | shwBurstDone (ch : Nat) (env : MemEnv)
  | ctnEncode (h : Hdr) (p : CtnJobP)
  | ctnDecode (h : Hdr) (p : CtnJobP)
  | ctnJobEnd (ctx : Nat) (env : MemEnv)
  | ctnSaveState (h : Hdr) (p : CtnStateP)
  | ctnRestoreState (h : Hdr) (p : CtnStateP)
  | surfaceRegister (h : Hdr) (p : SurfaceRegisterP)
  | surfaceRelease (h : Hdr) (p : SurfaceReleaseP)
  | fwOpen (h : Hdr) (p : FwOpenP)
  | fwEraseDone (session : W32)
  | fwBlock (h : Hdr) (p : FwBlockP)
  | fwCommit (h : Hdr) (p : FwCommitP)
  | fwCommitCheckDone
  | fwActivateReset
  | fwAbort (h : Hdr) (p : FwAbortP)
  | fwConfirm (h : Hdr) (p : FwConfirmP)
  | fwLockExpiry
  | confirmWindowExpiry
  | lifecycleChange (w : WipeEnv := {})
  | calRun (h : Hdr) (p : CalRunP)
  | calItemDone (item : Nat) (m : CalMeas)
  | calRead (h : Hdr) (p : CalReadP)
  | calWrite (h : Hdr) (p : CalWriteP)
  | meshSend (h : Hdr) (p : MeshSendP) (ans : HostAns)
  | meshSendTimeout (id : Nat)
  | unitStateGet (h : Hdr) (p : UnitP)
  | unitStateSet (h : Hdr) (p : UnitP)
  | resetUnit (h : Hdr) (p : UnitP)
  | logReadEntries (h : Hdr) (p : LogReadP)
  | logReadCodeDictionary (h : Hdr) (p : LogReadP)
  | logReadSourceDictionary (h : Hdr) (p : LogReadP)
  -- queues and host ports
  | sqDoorbell (port : Port) (q : Nat) (v : W32)
  | packetFetch (q : Nat) (ans : HostAns)
  | cqDoorbell (port : Port) (q : Nat) (v : W32)
  | cqInterruptTimer (q : Nat)
  | vecIdleWrite (port : Port) (n : Nat) (v : W32)
  | sqEnable (port : Port)
  | sqDisable (port : Port)
  | sqDrainDone (q : Nat)
  | sqReset (port : Port)
  | sqAdopt (port : Port)
  | cqEnable (port : Port)
  | cqDisable (port : Port)
  | cqReset (port : Port)
  | cqAdopt (port : Port)
  | perst (port : Port)
  | flr (port : Port)
  | portLinkDown (port : Port)
  | portLinkReturn (port : Port)
  | failoverTimeout (port : Port)
  | d3hotEntry (port : Port) (pmeEn : Bool)
  | d0Return (port : Port)
  | hqBar4BaseWrite (port : Port) (high : Bool) (v : W32)
  | bar2Access (port : Port) (addr : Nat) (acc : Access) (reads : List Ecc) (busy : Nat)
  | bar4Access (port : Port) (off : Nat) (acc : Access) (env : MemEnv)
  | bar0BadAccess (m : Nat) (off : Nat) (write : Bool) (len : Nat)
  -- register accesses
  | registerWrite (m : Nat) (off : Nat) (v : W32)
  | rmResetWrite (m : Nat) (v : W32)
  | wdogKick (m : Nat)
  | watchdogExpiry
  | panelOnSet (m : Nat)
  | panelOnClear (m : Nat)
  | pwrseqLegacyWrite (m : Nat) (on : Bool)
  | brkClaim (core : Nat)
  | brkComplete (core : Nat) (v : W32)
  | brkSrcForce (m : Nat)
  | brkCountClear (m : Nat)
  | brkHostPendClear (m : Nat) (reg : Nat) (v : W32)
  | brkRouteWrite (m : Nat) (v : W32)
  | brkSourceEvent (src : Nat) (level : Bool)
  | brkModTimer (core : Nat)
  | coreReset (core : Nat)
  | thAckL3 (m : Nat)
  | thTripClear (m : Nat) (v : W32)
  | thTripDataRead (m : Nat)
  | thLimitsWrite (m : Nat) (v : W32)
  | calJrnlDataRead (m : Nat)
  | clrTblDataAccess (m : Nat) (w : Option W32)
  | trzRouteDataAccess (m : Nat) (w : Option W32)
  | trnEntryApply (m : Nat)
  | shwChAbort (m : Nat)
  | shwDisable (m : Nat)
  | clpSnap (m : Nat) (v : W32)
  | clpTb1Step (m : Nat) (v : W32)
  | clpTb0OffsetWrite (m : Nat) (v : W32)
  | clpTb2OffsetWrite (m : Nat) (v : W32)
  | clpTb3Set (m : Nat) (v : W32)
  | jglFoldAck (m : Nat)
  | trzPortExpectWrite (m : Nat) (v : W32)
  | pxGrpFirWrite (m : Nat) (v : W32)
  | logDropClear (m : Nat) (v : W32)
  | spmBankPwrWrite (m : Nat) (v : W32)
  | spmBankZeroDone (bank : Nat)
  -- the mailbox
  | mctpRequest (msgTag : Nat) (packet : List Byte)
  | mctpControlMessage (c : McCtrl)
  | mctpAssemblyTimeout (msgTag : Nat)
  -- the raster
  | frameTick (env : TickEnv)
  | synthesisStart
  | preflightDecided (poisonedTable : Option Nat)
  | blankLineStart (line : Nat)
  | lineDeparture (env : LineEnv)
  | homPipeErr (pipe : Nat) (line : Nat)
  | watermarkFire (n : Nat)
  | scanEnd
  | holdExtensionEnd
  | linkWake
  | rasterStart
  | retimeRampEnd
  -- panel power
  | headroomLoop
  | pwrHeadroomStaleLimit
  | pnlPowerGoodRise (rail : PnlRail)
  | pwrSettleDone
  | powerGoodBoundExpiry
  | irefRampEnd
  | vledPgFall
  | pwrPgStuck
  | dischargeEnd
  | railDisableStep
  | powerGoodLost (rail : PnlRail)
  | railOvervoltage (colour : Nat)
  | railUndervoltage (colour : Nat) (mv : Nat)
  | pwrUvTimeout
  -- the panel link
  | pxTrainRequest (g : Nat)
  | pxTsRx (g : Nat) (lane : Nat) (ts : TsBytes)
  | pxTrainTimeout (g : Nat)
  | pxTrainDone (g : Nat)
  | headroomRx (g : Nat) (pkt : List Byte)
  | tempRx (g : Nat) (pkt : List Byte)
  | crcreportRx (g : Nat) (pkt : List Byte)
  | crcreportMissing (g : Nat)
  | faultRx (g : Nat) (pkt : List Byte)
  | tempStale (g : Nat)
  | headroomStale (g : Nat)
  | bcLockLost (g : Nat)
  | bcRetrainTimeout (g : Nat)
  | pxGroupSpare (g : Nat)
  | pxGroupCleanWindow (g : Nat)
  -- Carousel and pipelines
  | regionRequestTimeout (slot : Nat)
  | crslTblRewriteDone (copy : Nat)
  | homPipeSpare (pipe : Nat)
  | homPipeCleanWindow (pipe : Nat)
  -- units and DRAM
  | unitRequest
  | storeShrink
  | jglCeLimit (ch : Nat)
  | jglRetrain (ch : Nat)
  | jglRetrainDone (pass : Bool) (failRanks : List Nat)
  | jglRankCopyDone (mramOk : Bool) (bad : List Nat := [])
  | jglChannelCopyDone (mramOk : Bool) (bad : List Nat := [])
  | jglFold (ch : Nat)
  | jglFoldCopyDone (poisoned : List Nat)
  | jglRebase (ch : Nat)
  | jglRebaseDone (bad : List Nat := [])
  | jglRefreshLimit (ch : Nat) (bank : Nat)
  | jglRowDisturb (ch : Nat) (port : Nat)
  | jglRegCutEnd (port : Nat)
  | jglMr4Read (ch : Nat) (rank : Nat) (mult : Nat) (temp : W16 := 0)
  | jglZqCal (ch : Nat) (rank : Nat)
  | jglDqsTrack (ch : Nat) (rank : Nat)
  | jglScrub (line : Nat) (ecc : Ecc)
  | jglSwitchStart
  | jglSwitchDone
  | jglChannelCleanWindow (ch : Nat)
  -- scratchpad
  | spmCeLimit (bank : Nat)
  | spmBankSpare (bank : Nat)
  | spmBankCopyDone (bad : List Nat := [])
  | spmBankCleanWindow (bank : Nat)
  | tamperAssert
  | secureWipeDone (failed : List Nat)
  -- the mesh and time
  | trzTsRx (port : Nat) (ts : TsBytes)
  | trzTrainTimeout (port : Nat)
  | trzTrainDone (port : Nat) (t : MeshTrain)
  | trzFailedRetry (port : Nat)
  | trzLaneWindow (port : Nat) (lane : Nat) (badBlocks : Nat)
  | trzLaneSpare (port : Nat) (lane : Nat) (mramOk : Bool)
  | trzPortCleanWindow (port : Nat)
  | trzAckRx (port : Nat) (lseq : Nat) (frame : List Byte := [])
  | trzNakRx (port : Nat) (lseq : Nat) (frame : List Byte := [])
  | trzCreditRx (port : Nat) (cls : Nat) (n : Nat) (frame : List Byte := [])
  | trzCreditStall (port : Nat)
  | trzSyncRx (port : Nat) (frame : List Byte) (steps : Nat) (tRx : Time96)
  | trzSyncSend
  | trzPdelaySend (port : Nat)
  | trzPdelayReqRx (port : Nat) (frame : List Byte) (tRx : Time96)
  | trzPdelayRespRx (port : Nat) (frame : List Byte) (tRx : Time96)
  | clpHoldover
  | trzHelloRx (port : Nat) (frame : List Byte) (peer : Nat) (nonce ownNonce : List Byte)
  | trzProofRx (port : Nat) (frame : List Byte) (proof : List Byte)
  | trzAuthTimeout (port : Nat)
  | trzAuthRetry (port : Nat) (ownNonce : List Byte)
  | trzHaloFragmentRx (port : Nat) (frame : List Byte)
  | trzHaloCancelRx (port : Nat) (frame : List Byte) (target : Time96)
  | haloSendPhase2
  | trzMgmtRx (port : Nat) (frame : List Byte) (msg : MgmtMsg)
  | trzDataRequestRx (port : Nat) (frame : List Byte) (id addr len : Nat) (ans : HostAns)
  | trzDataResponseRx (port : Nat) (frame : List Byte) (id : Nat) (ans : HostAns)
  | trzUserMsgRx (port : Nat) (frame : List Byte) (id : Nat) (msg : List Byte)
  | trzMsgAckRx (port : Nat) (frame : List Byte) (id : Nat)
  | trzForwardTimeout (port : Nat)
  | trzGwTimeout (id : Nat)
  -- log and journal
  | logEntrySubmit (name : LogName) (core : Nat) (args : List Nat)
  | journalCopy
  -- temperature
  | thSample (env : SampleEnv)
  | thSensorSpare (sensor : Nat) (mramOk : Bool)
  | sensorCleanWindow (sensor : Nat)
  | thermalTrip (sensor : Nat) (temp prev : Int)
  -- resets, start-up and clocks
  | powerOnReset (smbAddr : Nat)
  | resetNAssert (smbAddr : Nat)
  | bootLoadDone (c : ConfigItems)
  | bootTrainDone (t : TrainEnv)
  | bootCheckDone (c : CheckEnv)
  | brownout (rail : Rail)
  | backChannelLock (g : Nat)
  | meshLossOfLock (port : Nat)
  | sceneFrameDue
  | mramCommitRetry (writeOk : Bool)
  | sameBankRefresh (ch bank : Nat) (idle : Bool)
  | pcieLinkUp (port : Port) (speed width : Nat)
  | coreWait (core : Nat) (waiting : Bool)
  | mctpPacket (p : McPacket)
  | mctpResponseCollected
  -- events without operands, last so that the others' numbers stay small
  | bootPorDone (tamper : WipeEnv := {}) (lc : WipeEnv := {})
  | bootRomDone
  | brownoutEnd
  | vaonLoss
  | clkLrefLost
  | clkLrefReturn
  | refinReturn
  | thPause
deriving DecidableEq, Repr

end Sys2Proof
end

