-- ==== Sys2Proof/Decode.lean ====
section
/-! DEFINITION. The command a table word spells. The table of operations and events gives no row any bits:
the LFX-9216 takes commands as packets, register accesses and events, not as words. -/

namespace Sys2Proof

/-- No row of the table of operations and events has bits, so no word spells a command. -/
def decodeTableWord (_nbits _w : Nat) : Option Instr := none

end Sys2Proof
end

