-- ==== Sys2Proof/Config.lean ====
section
/-! DEFINITION. What the manual leaves open: values with no body, so that no proof can see what they are. Each
is named in the assumption log. -/

namespace Sys2Proof

/-- A free value: what the manual leaves undefined or unstated. The machine applies it to its own
counter of free values. -/
opaque Config.freeValue : Nat → BitVec 64

/-- CODE of an event-log entry (R367): fixed by the firmware's dictionary (R372). -/
opaque Config.logCode : LogName → Nat

/-- Severity of an event-log entry (R367, R372). -/
opaque Config.logSeverity : LogName → Nat

/-- The JOURNAL flag of an event-log entry (R367, R372). -/
opaque Config.logJournal : LogName → Bool

/-- SOURCE of an entry whose name carries no register prefix (R367, R372). -/
opaque Config.logSource : LogName → Nat

/-- PAYLOAD of an entry whose layout only the dictionary states (R367), from what the entry names. -/
opaque Config.logPayload : LogName → List Nat → List Byte

/-- The type of a Barker source whose type only the dictionary states (R355): true for a level source. -/
opaque Config.sourceIsLevel : Nat → Bool

/-- The symbols the lossless encoder chooses for a source behind a history (R275): literal count, match
length and offset of each. A choice that would not decode to the source is not used. -/
opaque Config.encoderChoice : List (BitVec 8) → List (BitVec 8) → List (Nat × Nat × Nat)

/-- What the section of a lifecycle token says (R401): the codes of FROM and TO, the integrator's configuration-key
digest and the link-key digest. The manual gives the content and no byte layout. -/
opaque Config.tokenOf : List (BitVec 8) → Nat × Nat × BitVec 384 × BitVec 384

/-- How many 16-byte units of idle fill follow a packet on a panel-link group or a frame on a mesh port (R198, R303): the
manual does not count them. The machine applies it to its counter of free values. -/
opaque Config.idleUnits : Nat → Nat

/-- TYPE of a mesh frame of a class (R303): the manual names the types and gives no codes. -/
opaque Config.meshType : Nat → Nat → BitVec 8

/-- The payload of a mesh frame, by class and type, from the numbers and bytes it carries, where the manual gives the
content and no byte layout (R303 to R305, R312, R315). -/
opaque Config.meshLayout : Nat → Nat → List Nat → List (BitVec 8) → List (BitVec 8)

/-- TS of a mesh frame that carries no time (R303: by class otherwise), from the numbers it carries. -/
opaque Config.meshWord : Nat → Nat → List Nat → BitVec 96

/-- How a lost range (first address and length) is written into one detail word (R40; log entry 104). -/
opaque Config.lostRange : Nat → Nat → BitVec 64

end Sys2Proof
end

