-- ==== Sys2Proof/Machine/State.lean ====
section
/-! DEFINITION. The state of the LFX-9216 as plain data, block by block. A field's default is its value
after reset; its docstring cites the rule that names it. Collections by number (queues, units,
memory cells, table entries) are sparse: a `List (Nat × α)` with strictly rising keys that lists
no entry equal to the default, so that equal contents are equal data. -/

namespace Sys2Proof.Machine

/-- A sparse collection by number in canonical form (see `spWf` in Bits). -/
abbrev Sparse (α : Type) := List (Nat × α)

/-- A byte-addressed memory: a sparse collection of bytes. -/
abbrev Mem := List Host.Cell

/-- A shadowed register (RWS, R14): the shadow that software reads and writes, and the active copy. -/
structure Rws where
  sh : W32
  act : W32
deriving DecidableEq, Repr

/-- A shadowed register after reset: both copies hold the reset value. -/
def Rws.of (v : W32) : Rws := ⟨v, v⟩

/-! ### Completions and what leaves the device -/

/-- The status codes of R335. -/
inductive Status
  | ok | okRetried | queued | busy | stale | lengthRange | access | unsupported | badParam | budget
  | late | fence | timeout | uncorrectable | degraded | aborted | auth | integrity | noResource
deriving DecidableEq, Repr

/-- A completion entry (table "fields of a completion entry", R335, R340). -/
structure Cpl where
  tag : W32
  status : Status
  opcode : Byte
  sq : W16
  qseq : W16
  phase : Bool
  interim : Bool
  time : Time96
  detail : W64
deriving DecidableEq, Repr

/-- What leaves the device on its links and pins, in the order it leaves. -/
inductive Out
  /-- A completion entry written to a completion ring in host memory (R335). -/
  | completion (q index : Nat) (e : Cpl)
  /-- An MSI-X message (R336, R365). -/
  | msix (p : Port) (vector : Nat)
  /-- A power-management event (R338). -/
  | pme (p : Port)
  /-- A write of data to host memory (R373, R432). -/
  | hostWrite (src : Src) (addr : Nat) (bytes : List Byte)
  /-- A mailbox response: its completion entry, and the bytes of the whole message with any records that follow the
  entry (R346, R373). -/
  | mailbox (msgTag : Nat) (e : Cpl) (message : List Byte)
  /-- The answer to an MCTP control message (R345). -/
  | mctpControl (c : McCtrl) (bytes : List Byte)
  /-- The answer to a register read. -/
  | readReg (v : W32)
  /-- The answer to a window read; `poison` is the EP bit (R327). -/
  | readData (bytes : List Byte) (poison : Bool)
  /-- A packet on the panel link of a group (R198), and the block rows that it and the idle fill around it complete: 12
  blocks each, one for a lane (R191, R192). -/
  | px (group : Nat) (packet : List Byte) (rows : List (List (BitVec 130)))
  /-- An ordered set on all lanes of a group (R191, R193), behind the block row that idle fill completes before it. -/
  | pxSet (group : Nat) (rows : List (List (BitVec 130))) (block : BitVec 130)
  /-- A training set on one lane of a group (R191, R194). -/
  | pxTs (group : Nat) (block : BitVec 130)
  /-- A mesh frame: its class, kind, numbers and bytes it carries, the bytes of the whole frame (R303, R304), and the block
  rows that it and the idle fill behind it complete, a block for each active lane (R295). -/
  | mesh (port cls : Nat) (kind : Nat) (words : List Nat) (bytes frame : List Byte) (rows : List (List (BitVec 130)))
  /-- A training set of a mesh port, in its block (R295, R296). -/
  | meshTs (port : Nat) (block : BitVec 130)
  /-- Another ordered set on every active lane of a mesh port (R193, R295). -/
  | meshSet (port : Nat) (block : BitVec 130)
  /-- A read of host memory asked of the host port (R301). -/
  | hostRead (port : Port) (addr len : Nat)
deriving DecidableEq, Repr

/-! ### The unit-state table (R347) -/

/-- R347. -/
inductive UState | online | degraded | offline | spared | test
deriving DecidableEq, Repr

/-- A unit-state entry (R347, R349, R468). -/
structure UnitEntry where
  state : UState
  gen : W16
  cause : Nat
  partner : Option Nat
  /-- Result of the unit's last test (R108, R265, R380, R421). -/
  lastTest : Bool
  /-- A data-path request is waiting (R349). -/
  reqPending : Bool
deriving DecidableEq, Repr

/-- What a data-path request asks (R27): the class and index, the state the block reported, whether
it asks for sparing or retraining (lasting) or only for DEGRADED. -/
structure UnitReq where
  cls : Nat
  idx : Nat
  reported : UState
  lasting : Bool
deriving DecidableEq, Repr

/-! ### Ringmaster: start-up, resets, watchdog -/

/-- RM_BOOT_STATUS.STAGE (R393, R415). -/
inductive Stage | por | rom | load | train | check | ready | recovery
deriving DecidableEq, Repr

/-- The instructions of the test access port (R22). -/
inductive TapInstr | idcode | bypass | extest | samplePreload
deriving DecidableEq, Repr

/-- Ringmaster and reset state (R390 to R393, R415, R446, R450, R455). -/
structure Rm where
  stage : Stage := .por
  runSlot : Nat := 0
  trialIndex : Nat := 0
  cfgCopy : Nat := 0
  /-- RM_RESET_CAUSE [3:0]: reset value 1 (R415). -/
  resetCause : Nat := 1
  /-- RM_RESET_CAUSE [15:8]: resets since power-on. -/
  resets : Nat := 0
  /-- RM_WDOG.TIMEOUT: 1,000 (R415). -/
  wdogTimeout : Nat := 1000
  /-- The watchdog runs from the end of ROM (R392). -/
  wdogRunning : Bool := false
  /-- The MT at which the watchdog's time last started: the end of ROM or a KICK (R392). -/
  wdogStart : Nat := 0
  tamperNow : Bool := false
  tamperSeen : Bool := false
  tamperWipes : Nat := 0
  /-- TAMPER_N latched on VAON, to be carried out as a wipe (R266). -/
  tamperLatch : Bool := false
  /-- A thermal trip holds reset until VAON falls (R386). -/
  tripped : Bool := false
  /-- The rail of a brownout in progress (R450). -/
  brown : Option Rail := none
  /-- VAON is up (R450). -/
  vaon : Bool := true
  /-- LREFCLK present (R455). -/
  lref : Bool := true
  /-- SMB_ADDR sampled as reset ended (R446). -/
  smbAddr : Nat := 0
  /-- A device reset that waits for the native power-down (R391): its cause. -/
  resetAfterDown : Option Nat := none
  /-- FW_COMMIT with ACTIVATE has completed; the reset follows (R411). -/
  activatePending : Bool := false
  /-- THERMTRIP_N driven low (R386, R442). -/
  thermtrip : Bool := false
  /-- The instruction of the JTAG test access port (R22, R452): IDCODE after reset, as IEEE 1149.1 has it. No row of
  the table drives the port. -/
  tap : TapInstr := .idcode
deriving DecidableEq, Repr

/-! ### MRAM (R423 to R426) -/

/-- RM_LIFECYCLE (R400). -/
inductive Lifecycle | manufacture | provisioned | deployed | returned | retired
deriving DecidableEq, Repr

/-- A lifecycle change recorded as pending (R401). -/
structure LcChange where
  dest : Lifecycle
  cfgDigest : BitVec 384
  linkDigest : BitVec 384
deriving DecidableEq, Repr

/-- A spare-map copy (R424). Maps by number list only entries that differ from the factory position. -/
structure SpareMap where
  seq : Nat := 0
  homMap : Sparse Nat := []
  homSpared : List Nat := []
  spmMap : Sparse Nat := []
  spmSpared : List Nat := []
  pxMap : Sparse Nat := []
  pxSpared : List Nat := []
  trzBad : Sparse Nat := []
  thSpare : Sparse Nat := []
  jglRank : Sparse Nat := []
  /-- Channel of each slot as committed by a spare-channel copy: slot and channel. -/
  jglSlot : Sparse Nat := []
  jglSpared : List Nat := []
  /-- MAP_CRC checks. -/
  crcOk : Bool := true
deriving DecidableEq, Repr

/-- A fault-journal entry (R425): header fields and content. -/
structure JEntry where
  seq : Nat
  source : Nat
  valid : Bool
  cleared : Bool
  trip : Bool
  hw : Bool
  name : LogName
  time : Time96
  boot : Nat
  repeatCount : Nat
  /-- MT count at which REPEAT was last raised (R426). -/
  lastRepeat : Nat
  content : List Byte
deriving DecidableEq, Repr

/-- The MRAM contents (R423). -/
structure Mram where
  unitId : BitVec 128 := 0
  lifecycle : Lifecycle := .manufacture
  pending : Option LcChange := none
  bootCount : Nat := 0
  minSvn : Nat := 0
  jrnlSeq : Nat := 0
  fwDigest : BitVec 384 := 0
  cfgDigest : BitVec 384 := 0
  lcDigest : BitVec 384 := 0
  linkDigest : BitVec 384 := 0
  /-- The integrator's configuration-key digest, in force in DEPLOYED (R398, R400): beside Krytfort's, which
  returns to force after RETURN. -/
  intDigest : BitVec 384 := 0
  mapA : SpareMap := {}
  mapB : SpareMap := {}
  journal : Sparse JEntry := []
  jrnlNewest : Nat := 255
  jrnlOverwritten : Nat := 0
deriving DecidableEq, Repr

/-! ### Queues and host ports (R325 to R354) -/

/-- HQ_SQ_STATUS state (R330). -/
inductive SqState | disabled | active | draining | error | orphaned
deriving DecidableEq, Repr

/-- A submission queue (R330 to R333, R354). -/
structure Sq where
  base : W64 := 0
  cfg : W32 := 0x0000000A
  target : W32 := 0x00003FFF
  state : SqState := .disabled
  owner : Port := .ha
  head : Nat := 0
  /-- The tail the last accepted doorbell carried (R332). -/
  tail : Nat := 0
  /-- The QSEQ expected next (R333 step 2). -/
  expect : Nat := 0
  lastSeq : W16 := 0
  /-- Packets taken in the present turn of the round robin (R332). -/
  turn : Nat := 0
deriving DecidableEq, Repr

/-- HQ_CQ_STATUS state (R330). -/
inductive CqState | disabled | active | orphaned
deriving DecidableEq, Repr

/-- A completion queue (R330, R335 to R338, R354). -/
structure Cq where
  base : W64 := 0
  cfg : W32 := 0x00000004
  modr : W32 := 0
  state : CqState := .disabled
  owner : Port := .ha
  overflow : Bool := false
  missedAsleep : Bool := false
  phase : Bool := false
  tail : Nat := 0
  head : Nat := 0
  drop : Nat := 0
  /-- Entries written since the queue's last message: n of R336. -/
  unsignalled : Nat := 0
  /-- An interrupt is owed and has not been sent (R338). -/
  owed : Bool := false
  /-- Completions held in queue spill (R329, R338), oldest first. -/
  held : List Cpl := []
deriving DecidableEq, Repr

/-- One host port (R325 to R329, R338, R354). -/
structure HostPort where
  linkUp : Bool := false
  d3hot : Bool := false
  l1 : Bool := false
  speed : Nat := 0
  width : Nat := 0
  busMaster : Bool := false
  pmeEn : Bool := false
  /-- A PME has been sent in this D3hot stay (R338). -/
  pmeSent : Bool := false
  /-- The failover timer runs (R329). -/
  failover : Bool := false
  bar4 : BitVec 42 := 0
  /-- HQ_VEC_IDLE registers by number (R337). -/
  vecIdle : Sparse W32 := []
  /-- MSI-X table entries by vector (R354); an unlisted entry is masked, as PCIe resets it. -/
  msix : Sparse (BitVec 128) := []
  pba : Sparse Bool := []
deriving DecidableEq, Repr

/-- A command fetched and not completed (R332, R341). -/
structure InFlight where
  id : Nat
  hdr : Hdr
  opcode : Byte
  /-- A reset or link loss of its port has disabled its queue: the completion queue where its entries are discarded
  and counted, whatever becomes of the queue since (R328). -/
  dropCq : Option Nat := none
deriving DecidableEq, Repr

/-- A FENCE that waits for the commands in `waits` (R341). -/
structure FenceWait where
  hdr : Hdr
  waits : List Nat
  count : Nat
deriving DecidableEq, Repr

/-- A host surface (R342 to R344). -/
structure Surface where
  addr : Nat
  size : Nat
  handle : W32
  /-- The SURFACE_RELEASE that retired the handle and waits (R344). -/
  release : Option Hdr
deriving DecidableEq, Repr

/-- A mailbox message being assembled (R346). -/
structure Assembly where
  msgTag : Nat
  bytes : List Byte
  /-- The packet sequence number due next (R345). -/
  seq : Nat
deriving DecidableEq, Repr

/-- A write held from before READY (R394). -/
inductive Early
  | sqEn (p : Port) (q : Nat)
  | cqEn (p : Port) (q : Nat)
  | sqDb (p : Port) (q v : Nat)
  | cqDb (p : Port) (q v : Nat)
deriving DecidableEq, Repr

/-- Host interface (R325 to R354). -/
structure Hq where
  hbMode : Bool := false
  portLock : Bool := false
  failoverMs : Nat := 100
  err : W32 := 0
  qSel : Nat := 0
  ha : HostPort := {}
  hb : HostPort := {}
  sqs : Sparse Sq := []
  cqs : Sparse Cq := []
  /-- Commands fetched and not completed, in order of fetch (R332, R341). -/
  inflight : List InFlight := []
  nextId : Nat := 0
  /-- Commands held back by FENCE, ORDERED, a retime or a power-down, in order (R180, R341). -/
  held : List (Hdr × Cmd) := []
  /-- Unit commands among them, in order of arrival, each with the number of data-path unit requests still ahead of it
  (R348). -/
  unitTurns : List (Hdr × Nat) := []
  fences : List FenceWait := []
  surfaces : Sparse Surface := []
  regCount : Nat := 0
  /-- Enables and doorbells held before READY, in order (R394). -/
  early : List Early := []
  /-- The submission queue the round robin stands at (R332). -/
  rr : Nat := 0
  eid : Byte := 0
  /-- Subsystem vendor and subsystem ID of the configuration space (R325). -/
  subsystem : W32 := 0
  /-- Message tags of the mailbox requests outstanding (R346). -/
  mboxOut : List Nat := []
  /-- Responses the host has not collected, oldest first: message tag, and whether it ends its request (R346, R442). -/
  mboxResp : List (Nat × Bool) := []
  mboxDiscard : Nat := 0
  assembling : List Assembly := []
  /-- SMB_ALERT_N driven low (R442). -/
  alert : Bool := false
deriving DecidableEq, Repr

/-! ### Scenes, frames and the player -/

/-- The package header's fields (R52). -/
structure PkgHdr where
  hx : Nat
  hy : Nat
  mode : Nat
  anyTile : Bool
  tileId : Nat
  maxPlanes : Nat
  frames : Nat
  rateNum : Nat
  rateDen : Nat
  length : Nat
  indexOffset : Nat
  ovlOffset : Nat
  ovlLength : Nat
deriving DecidableEq, Repr

/-- R69. -/
inductive SlotState | empty | loading | verifying | ready | degraded
deriving DecidableEq, Repr

/-- A scene slot and its directory entry (R69, R70, R79). -/
structure SceneSlot where
  state : SlotState := .empty
  /-- First GiB of the store space held, counted from the start of the show store. -/
  base : Nat := 0
  /-- GiB held. -/
  gib : Nat := 0
  /-- The length given to OPEN. -/
  length : Nat := 0
  frames : Nat := 0
  /-- The header as its CLOSE passed it (R66, R67). -/
  hdr : Option PkgHdr := none
  /-- The CLOSE that is running (R70). -/
  closing : Option Hdr := none
  /-- The lost byte range, as package offsets (R79). -/
  lost : Option (Nat × Nat) := none
  /-- The LOST mark of an EMPTY slot (R79). -/
  lostMark : Option Nat := none
deriving DecidableEq, Repr

/-- R75. -/
inductive PlayerState | idle | armed | playing | ended
deriving DecidableEq, Repr

/-- The scene player (R75 to R78). `origin` is in 2^-16 ns of TB0. -/
structure Player where
  state : PlayerState := .idle
  slot : Nat := 0
  /-- The slot the last SCENE_PLAY named, which RM_PLAY_STATE goes on to show. -/
  loop : Bool := false
  origin : Option Int := none
  /-- Set when AT_TIME was clear and the origin is fixed at the next pre-flight start. -/
  startFrame : Nat := 0
  lastSelected : Int := -1
  lastRefused : Int := -1
  shownFrame : Nat := 0
  shown : Nat := 0
  budget : Nat := 0
  late : Nat := 0
  aborted : Nat := 0
  poison : Nat := 0
  skipped : Nat := 0
  lost : Nat := 0
  /-- SCENE_STOPs that wait for the tick at which selection stops, with BLACK (R76). -/
  stopping : List (Hdr × Bool) := []
  /-- SCENE_SEEK that waits for its tick: header, frame, time (R76). -/
  seeking : Option (Hdr × Nat × Option Int) := none
deriving DecidableEq, Repr

/-- A plane descriptor (R55). -/
structure PlaneDesc where
  format : Nat
  halo : Nat
  disparity : Int
  width : Nat
  height : Nat
  ovlFlags : Nat
  tileCount : Nat
  ttOffset : Nat
deriving DecidableEq, Repr

/-- An overlay surface header as read at its passing check (R118, R119), with the surface's address. -/
structure SurfHdr where
  addr : Nat
  format : Nat
  cset : Nat
  srcW : Nat
  srcH : Nat
  dstW : Nat
  dstH : Nat
  gain : Nat
  pitch : Nat
  dataOffset : Nat
deriving DecidableEq, Repr

/-- What an overlay slot shows (R64, R120, R122). -/
structure OvlShow where
  slot : Nat
  disparity : Int
  posX : Int
  posY : Int
  hdr : SurfHdr
  /-- Index of the registered surface, none for a package surface. -/
  surface : Option Nat
deriving DecidableEq, Repr

/-- R36; a RETIRED frame is no longer held. -/
inductive FState | landing | pending | preflight | admitted | scanning | showing
deriving DecidableEq, Repr

/-- Where a frame came from: a FRAME_SUBMIT and its staging slot, or a stored scene. -/
inductive FOrigin
  | stream (h : Hdr) (staging : Nat)
  | scene (slot frame : Nat)
deriving DecidableEq, Repr

/-- A frame between its submission or selection and RETIRED (R36). -/
structure Frame where
  id : Nat
  origin : FOrigin
  state : FState
  /-- DRAM address of the frame index entry. -/
  entryAddr : Nat
  /-- DRAM address of the frame data block. -/
  block : Nat
  length : Nat
  /-- Length of the record or package behind the frame. -/
  room : Nat
  /-- DRAM range of the overlay surface area (R48, R52): address and length. -/
  ovlArea : Nat × Nat
  /-- MAX_PLANES that bounds the frame (R52). -/
  maxPlanes : Nat
  /-- TARGET in 2^-16 ns of TB0 when AT_TIME is set (R73). -/
  target : Option Int
  planes : List PlaneDesc
  overlays : List OvlShow
  /-- Registered surfaces it reads from the start of its pre-flight (R343). -/
  reads : List Nat
  /-- HOM_EDGE captured at line 256 of the tick its pre-flight starts (R99). -/
  edge : Option W32
  cost : Nat
  rowMax : Nat
  /-- TB2 time of its target tick, which names its halo strips (R309). -/
  tb2 : Int
  /-- Its first scan is still to end. -/
  fresh : Bool
  /-- A plane read of its first scan was retried (R40). -/
  retried : Bool
  /-- Poisoned samples of its first scan (R40, R98). -/
  poisoned : Nat
  /-- Strips already counted as late: plane and edge (R91). -/
  haloLate : List (Nat × Nat)
  /-- DATA_CRC as accumulated while the record landed agrees (R67). -/
  dataOk : Bool
  /-- Its staging lay in what a re-base gave up (R80, R248). -/
  stagingLost : Bool
deriving DecidableEq, Repr

/-- Frames, staging and the scene directory (R36 to R43, R69 to R79). -/
structure Scene where
  slots : Sparse SceneSlot := []
  player : Player := {}
  frames : List Frame := []
  nextFrame : Nat := 0
  /-- RM_STORE_SIZE in GiB (R78). -/
  storeSize : Nat := 0
deriving DecidableEq, Repr

/-! ### Hall of Mirrors (R105 to R113) -/

/-- HOM registers and pipelines (R106, R108, R111). -/
structure Hom where
  ctrl : Rws := Rws.of 0
  laLo : Rws := Rws.of 0
  laHi : Rws := Rws.of 0
  edge : Rws := Rws.of 0x03020001
  err : W32 := 0
  pfBusy : Bool := false
  pfOutcome : Nat := 0
  pfRow : Nat := 0xFFFF
  pfCost : Nat := 0
  pfBudget : Nat := 0
  pfRowLim : Nat := 0
  pfRowMax : Nat := 0
  frameFlags : Nat := 0
  poisonCount : Nat := 0
  haloLateCount : Nat := 0
  pipeErrCount : Nat := 0
  /-- HOM_SELFTEST_FAIL0 to 2 as one bit map. -/
  selftestFail : BitVec 72 := 0
  /-- HOM_PIPE_MAP by logical pipeline; unlisted: itself. -/
  pipeMap : Sparse Nat := []
  /-- Shadow of HOM_PIPE_MAP, applied at the next commit window (R108, R110). -/
  pipeMapSh : Option (Sparse Nat) := none
  /-- The bring-in in progress: failed pipeline and the spare that takes its place, if any (R108, R110). -/
  bringIn : Option (Nat × Option Nat × Bool) := none
  /-- The physical pipeline whose self-test comes next (R106). -/
  selftestNext : Nat := 0
  /-- Pipelines with a transient error since, with the clean scans counted (R107). -/
  suspects : Sparse Nat := []
  /-- Results of a decided pre-flight, published at the next tick (R104, R113). -/
  pfNext : Option (Nat × Nat × Nat × Nat × Nat × Nat) := none
  /-- Physical pipelines whose output is suppressed for the rest of the scan, and the first line lost (R106). -/
  suppressed : Option Nat := none
deriving DecidableEq, Repr

/-! ### Layer and colour processing (R122 to R132) -/

/-- A LAYER_SET that waits for its commit window (R123). -/
structure LayerReq where
  hdr : Hdr
  slot : Nat
  release : Bool
  show_ : Option OvlShow
deriving DecidableEq, Repr

/-- CLR registers, tables and slots (R118 to R132). -/
structure Clr where
  ctrl : Rws := Rws.of 0
  err : W32 := 0
  frameFlags : Nat := 0
  clipCount : Nat := 0
  ovlPoisonCount : Nat := 0
  tblSel : W32 := 0
  tblIndex : Nat := 0
  /-- Shadow and active table entries by 2,048 × table + index; unlisted: the reset contents (R131). -/
  tblSh : Sparse W32 := []
  tblAct : Sparse W32 := []
  inmat0 : Sparse Rws := []
  inmat1 : Sparse Rws := []
  outmat : Sparse Rws := []
  /-- Slots under host control and what they show (R65, R123); `none` is a disabled slot. -/
  host : Sparse (Option OvlShow) := []
  layers : List LayerReq := []
  /-- The backing copy of the active tables in the frame-working region (R131), by the same keys; R48 gives it no
  address. -/
  backing : Sparse W32 := []
deriving DecidableEq, Repr

/-! ### Carousel (R133 to R160) -/

/-- R140. -/
inductive RState | idle | run | black
deriving DecidableEq, Repr

/-- R140. -/
inductive WKind | content | clear | wear
deriving DecidableEq, Repr

/-- A region context (R140). -/
structure Region where
  state : RState := .black
  kind : WKind := .content
  phase : Nat := 0
  band : Nat := 0
  first : Bool := false
  diff : Bool := false
  cut : Bool := false
  /-- QV with QKIND and QSLOT: the queued request. -/
  queued : Option (WKind × Nat) := none
  rslot : Option Nat := none
  fromBlack : Bool := false
  /-- The running waveform belongs to a device clear that a later one has replaced in slot 15: the model's own mark
  (R157). -/
  stale : Bool := false
deriving DecidableEq, Repr

/-- Who made an update request: a command, or the device itself (R156, R157). -/
inductive ReqBy
  | host (h : Hdr)
  | retime
  | stop
  | powerDown
deriving DecidableEq, Repr

/-- An update request slot (R155, R156). -/
structure RegionReq where
  by_ : ReqBy
  rx : Nat
  ry : Nat
  w : Nat
  h : Nat
  kind : WKind
  preempt : Bool
  timeout : Nat
  /-- It has entered the queues (step 2 of R141). -/
  entered : Bool
  waited : Nat
  finished : Nat
  notFinished : Nat
  timedOut : Bool
  replaced : Bool
deriving DecidableEq, Repr

/-- A zone's band (R149, R150). -/
structure Zone where
  band : Nat := 2
  nosrc : Bool := false
  /-- A reading has arrived since device reset (R150). -/
  seen : Bool := false
deriving DecidableEq, Repr

/-- Carousel registers, contexts and tables (R133 to R160). -/
structure Crsl where
  ctrl : Rws := Rws.of 0x00000021
  err : W32 := 0
  regions : Sparse Region := []
  reqs : Sparse RegionReq := []
  /-- Requests accepted since the last tick, in order (step 2 of R141). -/
  newReqs : List Nat := []
  quiet : Nat := 0
  cutCount : Nat := 0
  tblErrCount : Nat := 0
  priorPoisonCount : Nat := 0
  priorPitch : Nat := 0xC000
  /-- th[1] to th[7] by number (R151); unlisted: the reset value. -/
  bands : Sparse Rws := []
  zones : Sparse Zone := []
  ctxIndex : Nat := 0
  activeCopy : Nat := 0
  /-- The WAVEFORM_LOAD in progress (R158). -/
  loading : Option Hdr := none
  /-- The checked image waits for the next tick (R159). -/
  loaded : Option Hdr := none
  /-- Copies that a failed read or a switch has left to be rewritten (R148, R159). -/
  rewrite : List Nat := []
  /-- The active copy has been rewritten and comes into use at the next tick (R148). -/
  redone : Bool := false
  /-- Every scan drives black until the next frame tick, after a SCENE_STOP with BLACK at EN = 0 (R157). -/
  blackUntilFrame : Bool := false
deriving DecidableEq, Repr

/-! ### Raster (R161 to R183) -/

/-- R165. -/
inductive RasterState | stopped | run | aborted | hold
deriving DecidableEq, Repr

/-- A timing recorded by TIMING_SET (R176, R177). -/
structure Timing where
  mode : Nat
  hx : Nat
  hy : Nat
  num : Nat
  den : Nat
deriving DecidableEq, Repr

/-- A TIMING_SET in progress (R177 to R179). -/
structure TimingJob where
  hdr : Hdr
  timing : Timing
  /-- TARGET in 2^-16 ns of TB0 when AT_TIME is set. -/
  target : Option Int
  /-- The change needs no black (R178). -/
  seamless : Bool
  /-- A pre-flight began after its acceptance and before its TARGET (R178). -/
  seen : Bool := false
deriving DecidableEq, Repr

/-- A COMMIT that is due (R168, R169). -/
structure CommitReq where
  hdr : Hdr
  target : Option Int
  late : Bool
deriving DecidableEq, Repr

/-- What the scan in progress has found (R98, R113, R132, R171). -/
structure Scan where
  /-- The next active line to depart. -/
  line : Nat := 0
  frame : Option Nat := none
  /-- The scan drives every ray at 0 whatever the frame (R157, R179, R217). -/
  black : Bool := true
  /-- HOLD replaces every LINE of this tick (R109, R178, R243, R247). -/
  holdTick : Bool := false
  complete : Bool := false
  aborted : Bool := false
  synth : Bool := false
  /-- What each overlay slot shows in this scan (R124). -/
  overlays : List OvlShow := []
  /-- Edges and planes whose received strip is on time: plane and edge (R91). -/
  strips : List (Nat × Nat) := []
  /-- Planes and edges whose received strip is late (R91). -/
  late : List (Nat × Nat) := []
  /-- Tiles read poisoned or undecodable in this scan: plane, column, row (R62, R98). -/
  bad : List (Nat × Nat × Nat) := []
  /-- Overlay samples read poisoned in this scan (R125). -/
  ovlBad : List (Nat × Nat × Nat × Nat) := []
  /-- The row of the lens-alignment table that stands read for this scan: its hogel row and its words (R112). -/
  lens : Option (Nat × List Nat) := none
  haloLate : Bool := false
  poison : Bool := false
  dark : Bool := false
  saturated : Bool := false
  poisonCount : Nat := 0
  retried : Bool := false
  clrOvlPoison : Bool := false
  outClip : Bool := false
  ovlClip : Bool := false
  clipCount : Nat := 0
  ovlPoisonCount : Nat := 0
  minLead : Nat := 0
  /-- Diagnostic rows and retests already sent in this tick (R228, R230). -/
  diagSent : Nat := 0
deriving DecidableEq, Repr

/-- Raster state and SCN registers (R161 to R183). -/
structure Scn where
  state : RasterState := .stopped
  /-- The timing recorded since device reset. -/
  timing : Option Timing := none
  /-- The timing the running raster uses. -/
  inForce : Option Timing := none
  jobs : List TimingJob := []
  /-- The seamless change that the next tick applies: its pre-flight has begun with it (R178). -/
  rateDue : Option Timing := none
  retimeStep : Nat := 0
  commits : List CommitReq := []
  commitLate : Bool := false
  underrun : Bool := false
  /-- log2 of the hold multiplier of the last period (R172). -/
  multLog : Nat := 0
  skip : Nat := 0
  line : Nat := 0
  inExtension : Bool := false
  tick : Nat := 0
  /-- No tick has fallen since the raster left STOPPED. -/
  first : Bool := true
  lateCount : Nat := 0
  underrunCount : Nat := 0
  underrunLine : Nat := 0
  underrunStage : Nat := 0
  fifoMin : Nat := 0
  hold : Rws := Rws.of 0x00000003
  holdEnd : Nat := 0
  holdBegun : Nat := 0
  holdSlots : Nat := 0
  /-- The exit cause pending or that ends the extension (R174). -/
  exitCause : Option Nat := none
  /-- Base slots of the extension in progress and those gone by. -/
  extension : Nat := 0
  /-- The scan in progress is the first complete one after an aborted one (R172). -/
  afterAbort : Bool := false
  periodQ : Nat := 0
  lineQ : Nat := 0
  /-- TB2 time of the last tick, 2^-16 ns (R183). -/
  tickTb2 : Int := 0
  /-- TB0 time predicted for the tick whose pre-flight has begun, 2^-16 ns (R77). -/
  pfTime : Option Int := none
  /-- Watermark registers as written and as in force (R181). -/
  wmNew : Sparse W32 := []
  wm : Sparse W32 := []
  wmFired : Nat := 0
  wmMissed : Nat := 0
  /-- Watermarks that have fired in this tick. -/
  wmDone : List Nat := []
  scan : Scan := {}
  /-- Ticks of RESTART begun: 1 from N0, 2 from N1, 3 from N2, 0 when no retime restarts (R179). -/
  restart : Nat := 0
  /-- The tick at which the current base period took effect, from which slots are counted (R162). -/
  gridOrigin : Int := 0
  /-- TB2 time of T3 of the retime in progress (R179). -/
  t3 : Int := 0
deriving DecidableEq, Repr

/-! ### Panel link (R185 to R213) -/

/-- PX_GRP_STATE link state (R195). -/
inductive LinkState | disabled | detect | trainEq | trainCfg | active | sleep | bcRetrain | failed
deriving DecidableEq, Repr

/-- The counters and CRC values of a group as its registers show them (R213). -/
structure GrpShown where
  crcPre : W32 := 0
  crcPad : W32 := 0
  crcFar : W32 := 0
  mismatch : Nat := 0
  missing : Nat := 0
  bcBad : Nat := 0
  lineCrc : Nat := 0
deriving DecidableEq, Repr

/-- A panel-link group (R189 to R213). -/
structure Group where
  link : LinkState := .disabled
  fir : W32 := 0x04330804
  /-- PX_GRP_FIR as the training in progress or last made took it (R190). -/
  firIn : W32 := 0x04330804
  /-- Coefficients in use in the training: PRE and POST (R190, R196). -/
  pre : Nat := 4
  post : Nat := 8
  inputB : Bool := false
  cause : Nat := 0
  /-- the last training failed in DETECT: no partner was detected (R196, R468) -/
  absent : Bool := false
  trainings : Nat := 0
  /-- The training in progress is the second of its attempt (R197). -/
  second : Bool := false
  /-- The training failed MISWIRED (R196). -/
  miswired : Bool := false
  eqOk : Nat := 0
  eqReqs : Nat := 0
  ts2Rx : Nat := 0
  /-- TS2 sent in this training (R195). -/
  ts2Tx : Nat := 0
  /-- The back-channel has lost its lock (R208, R210). -/
  bcDown : Bool := false
  /-- BC_RETRAIN is in its further attempt (R210). -/
  bcSecond : Bool := false
  strap : Nat := 0
  partnerId : W32 := 0
  seq : Nat := 0
  /-- The running CRC register of the span, before the serializer (R209). -/
  spanCrc : W32 := 0xFFFFFFFF
  /-- The group has been ACTIVE throughout the span. -/
  spanWhole : Bool := false
  spanOpen : Bool := false
  crcPre : W32 := 0
  crcPad : W32 := 0
  crcFar : W32 := 0
  /-- PRE of the last closed span is waiting for its CRCREPORT. -/
  awaiting : Bool := false
  mismatch : Nat := 0
  missing : Nat := 0
  bcBad : Nat := 0
  lineCrc : Nat := 0
  /-- TICK of the span in progress, and of the one closed last (R209, R213). -/
  spanTick : Nat := 0
  closedTick : Nat := 0
  /-- A CRCREPORT of the span closed last that came before its PAD comparison: FAR and RX_ERR (R209). -/
  farHeld : Option (W32 × Bool) := none
  /-- Bytes of the block row in progress, and each lane's scrambler (R192, R193). -/
  part : List Byte := []
  lfsr : List (BitVec 23) := []
  /-- What the registers show since the last tick (R213). -/
  shown : GrpShown := {}
  /-- The span closed last is to be compared with PAD at the next tick (R209). -/
  padDue : Bool := false
  /-- The span closed last has mismatched, and as FAR with RX_ERR (R209). -/
  curBad : Bool := false
  curFarErr : Bool := false
  /-- The same of the compared span before it. -/
  prevBad : Bool := false
  prevFarErr : Bool := false
  /-- Spans since the retraining that was the retry of R209. -/
  sinceRetry : Option Nat := none
  tempStale : Bool := false
  headStale : Bool := false
  /-- HEADROOM of the scan that ended at the last tick: three minima and three columns (R205, R223). -/
  headroom : Option (List Nat × List Nat) := none
  /-- MT of the last bad back-channel entry logged (R206). -/
  bcLogged : Option Nat := none
  faultLogged : Sparse Nat := []
  configLost : Bool := false
deriving DecidableEq, Repr

/-- Panel link (R185 to R213). -/
structure Px where
  ctrl : W32 := 0
  err : W32 := 0
  pathFault : W32 := 0
  spSel0 : Nat := 15
  spSel1 : Nat := 15
  spanTick : Nat := 0
  grpSel : Nat := 0
  groups : Sparse Group := []
  /-- PX_SLICE_MAP by slice; unlisted: the slice's own number (R187). -/
  sliceMap : Sparse Nat := []
  sliceMapSh : Option (Sparse Nat) := none
  /-- The bring-in in progress: failed group, spare, slice, forced by UNIT_STATE_SET (R212). -/
  bringIn : Option (Nat × Nat × Nat × Bool) := none
  cmdSeq : Nat := 0
  /-- Spare groups whose check of this start is done (R211, R217 step 2). -/
  checked : List Nat := []
  /-- CMD packets waiting for a blank line: group or none for BROADCAST, entries (R202). -/
  cmds : List (Option Nat × List (Nat × W32)) := []
  /-- The partner configuration carried with the firmware (R202). -/
  config : List (Nat × W32) := []
deriving DecidableEq, Repr

/-! ### Panel power (R214 to R232) -/

/-- PWR_STATUS.STATE (R215). -/
inductive PwrState | off | poweringUp | on | poweringDown | faulted
deriving DecidableEq, Repr

/-- One emitter rail (R223 to R232). -/
structure VRail where
  map : W32 := 0
  lim : W32 := 0
  vset : Int := 0
  code : Nat := 0
  hmin : Nat := 0xFFFF
  hminSlice : Nat := 0
  sns : Nat := 0
  uv : Bool := false
  /-- VLEDx_EN driven (R214). -/
  en : Bool := false
  iref : Rws := Rws.of 0
  /-- Derated code of R227. -/
  eff : Nat := 0
  /-- Code on the IREF output when no ramp runs (R226). -/
  out : Nat := 0
  /-- The output from which a ramp down runs (R219, R222). -/
  base : Nat := 0
deriving DecidableEq, Repr

/-- An IREF ramp in 64 equal steps: its direction, the data-plane cycle of its start, its length in cycles. -/
structure Ramp where
  up : Bool
  start : Nat
  len : Nat
deriving DecidableEq, Repr

/-- A lasting emitter fault (R230, R232). -/
structure Emitter where
  row : Nat
  slice : Nat
  colour : Nat
  short : Bool
  column : Nat
deriving DecidableEq, Repr

/-- Panel power (R214 to R232). -/
structure Pwr where
  ctrl : W32 := 0x0000000C
  state : PwrState := .off
  step : Nat := 0
  headroomLimit : Bool := false
  headroomStale : Bool := false
  derating : Bool := false
  derateNosrc : Bool := false
  fast : Bool := false
  failStep : Nat := 0
  err : W32 := 0
  seq : W32 := 0x00020514
  /-- PWR_RAIL_PG: the power-good inputs by bit (R232). -/
  pg : Nat := 0
  /-- Enables driven: logic, gate, bias (R214). -/
  enLogic : Bool := false
  enGate : Bool := false
  enBias : Bool := false
  disch : Bool := false
  r : VRail := {}
  g : VRail := {}
  b : VRail := {}
  derate : Rws := Rws.of 0x051F03C0
  derateFloor : Rws := Rws.of 0x00008000
  derateF : Nat := 65536
  margin : W32 := 0x0064012C
  stepReg : W32 := 0x001900C8
  diag : W32 := 0x00000020
  diagPtr : Nat := 0
  diagPasses : Nat := 0
  eft : List Emitter := []
  eftDropped : Nat := 0
  eftIndex : Nat := 0
  /-- Emitter faults reported and waiting for a retest, in order of receipt (R230). -/
  retests : List Emitter := []
  /-- Reports received since the last tick, whose retests come from the next one on (R230). -/
  reported : List Emitter := []
  /-- Retests driven in the last diagnostic tick, whose report is awaited. -/
  retested : List Emitter := []
  /-- Slices with a lasting emitter fault since device reset (R230). -/
  sliceFault : List Nat := []
  /-- The 2 MT after a power-good or before the next enable are running (R217, R219). -/
  settling : Bool := false
  /-- The failed power-up is being undone: enables still to clear (R218). -/
  undoing : Bool := false
  /-- Complete black scans of step 5 (R217). -/
  blackScans : Nat := 0
  /-- The power-down ends in FAULTED (R231). -/
  toFaulted : Bool := false
  /-- Consecutive ticks with a stale partner (R225). -/
  staleTicks : Nat := 0
  /-- The last scan that ended was complete (R224). -/
  lastComplete : Bool := false
  /-- MT of the last HEADROOM_LIMIT entry (R225). -/
  limLogged : Option Nat := none
  /-- The clear of power-down step 1 is under way. -/
  clearing : Bool := false
  /-- The IREF ramp that runs (R217, R219, R222). -/
  ramp : Option Ramp := none
  /-- A setting of PANEL_ON waits for OFF or for the end of a calibration run (R222, R431). -/
  onDue : Bool := false
  /-- A fast power-down runs (R221). -/
  fastRun : Bool := false
  /-- The power-down began in POWERING_UP: step 2 is skipped at IREF 0 (R222). -/
  fromUp : Bool := false
  /-- The last tick ended a scan and the loop has not run since (R224). -/
  scanEnded : Bool := false
deriving DecidableEq, Repr

/-! ### Juggler (R233 to R258) -/

/-- JGL_STATUS.STATE (R236). -/
inductive JglState | training | high | low | switching | rebase | noService
deriving DecidableEq, Repr

/-- A DRAM channel (R235, R258); its unit state is in the unit table. -/
structure Chan where
  role : Nat := 0
  ranks : Nat := 0
  rankReplaced : Nat := 0
  rankSpared : Bool := false
  slot : Nat := 0
  ce : Nat := 0
  ceWindow : Nat := 0
  /-- The window's count has passed JGL_CE_LIMIT (R254). -/
  ceOver : Bool := false
  ueLasting : Nat := 0
  ueTransient : Nat := 0
  /-- Lasting uncorrectable errors in the present 1,000 MT window (R243). -/
  ueWindow : Nat := 0
  rh : Nat := 0
  temp : W16 := 0
  mult : Nat := 0
  /-- Refreshes postponed by bank (R249). -/
  postponed : Sparse Nat := []
deriving DecidableEq, Repr

/-- A bandwidth regulator (R250, R258). -/
structure Regulator where
  rate : Nat
  burst : Nat
  tok : Nat
  cut : Bool
  cuts : Nat
deriving DecidableEq, Repr

/-- The retraining or copy that runs (R243 to R248). -/
inductive JglJob
  | retrain (ch : Nat)
  | rankCopy (ch rank : Nat)
  | chanCopy (ch spare : Nat)
  | foldCopy (ch : Nat)
  | rebase (ch : Nat)
deriving DecidableEq, Repr

/-- Juggler (R233 to R258). -/
structure Jgl where
  cfg : W32 := 0x00000004
  state : JglState := .training
  lowWidth : Bool := false
  err : W32 := 0
  n : Nat := 0
  stripes : Nat := 0
  fold : Option Nat := none
  foldTop : Nat := 0
  evacPtr : Nat := 0
  foldAck : Bool := false
  limit : Nat := 0
  ueAddr : Nat := 0
  ceLimit : W32 := 0x000003E8
  ref : W32 := 0x00000002
  rh : W32 := 0x00011000
  scrub : W32 := 0x00000018
  fc : Nat := 0
  /-- JGL_SLOT_MAP by slot; unlisted: identity before training, 0x1F at and above N. -/
  slotMap : Sparse Nat := []
  chSel : Nat := 0
  chans : Sparse Chan := []
  regSel : Nat := 0
  regs : Sparse Regulator := []
  job : Option JglJob := none
  /-- The retraining has begun at a tick (R243 step 1). -/
  jobStarted : Bool := false
  /-- The operating point a switch in progress is going to (R257). -/
  switchTo : Option JglState := none
  /-- A new limit reported and not yet taken by core 0: GiB of show store (R79, R247). -/
  report : Option Nat := none
  /-- Show-store frames above the lost limit may not be scanned again (R247 step 2). -/
  lostFrom : Option Nat := none
  /-- Poisoned 64-byte lines by number (R252). -/
  poisoned : List Nat := []
  /-- Last lasting-UE or range entry per port and MT (R240, R251). -/
  rangeLogged : Sparse Nat := []
  rhLogged : Sparse Nat := []
  selfRefresh : Bool := false
  /-- Bytes one channel gives to the interleave. -/
  capacity : Nat := 0
  idleSpares : List Nat := []
  /-- DRAM contents by system address (R48, R238). -/
  mem : Mem := []
deriving DecidableEq, Repr

/-! ### Scratchpad (R259 to R266, R280) -/

/-- SPM_BANK_STATUS power (R264). -/
inductive BankPower | on | ret | off
deriving DecidableEq, Repr

/-- A physical bank; its unit state and last test are in the unit table. -/
structure Bank where
  power : BankPower
  /-- SPM_BANK_PWR: the power last asked for (R264, R280). -/
  req : Nat
  zeroing : Bool
  ce : Nat
  ceWindow : Nat
  ueLasting : Nat
  ueTransient : Nat
  offLogged : Option Nat
deriving DecidableEq, Repr

/-- Scratchpad (R259 to R266). -/
structure Spm where
  err : W32 := 0
  busyCount : Nat := 0
  wipeActive : Bool := false
  wipePassed : Bool := false
  wipeCause : Nat := 0
  wipes : Nat := 0
  /-- Banks wiped once more after a failed verify (R266). -/
  wipeRetry : List Nat := []
  bankSel : Nat := 0
  banks : Sparse Bank := []
  /-- SPM_BANK_MAP by logical bank; unlisted: the bank of the same number. -/
  map : Sparse Nat := []
  /-- The bring-in in progress: failing bank, spare, copy done, forced by UNIT_STATE_SET (R265). -/
  bringIn : Option (Nat × Nat × Bool × Bool) := none
  /-- Poisoned 32-byte words by number (R260). -/
  poisoned : List Nat := []
  /-- Contents by physical bank × 512 KiB + offset. -/
  mem : Mem := []
deriving DecidableEq, Repr

/-! ### Contortionist (R267 to R281) -/

/-- R276. -/
inductive CtxState | idle | open_ | running | suspended | error
deriving DecidableEq, Repr

/-- A stream context: the fields of its image (R279) and the job on it. -/
structure Ctx where
  state : CtxState := .idle
  coder : Nat := 0
  elem : Nat := 0
  pred : Bool := false
  dir : Bool := false
  headerDone : Bool := false
  stage : Nat := 0
  pendLit : Nat := 0
  pendMatchLen : Nat := 0
  pendMatchOff : Nat := 0
  predLast : List Byte := []
  srcNext : Nat := 0
  srcLeft : Nat := 0
  bytesIn : Nat := 0
  bytesOut : Nat := 0
  /-- History, newest byte first, at most 32,768 bytes (R272). -/
  history : List Byte := []
  /-- What is left of the stream is raw bytes (R271, R275); of a decoded stream whose end token has come, none are left. -/
  raw : Bool := false
  /-- The job that runs: its header, its parameters and the master that submitted it (R276, R277, R403). -/
  job : Option (Hdr × CtnJobP × Nat) := none
  lastStatus : Nat := 0
deriving DecidableEq, Repr

/-- Contortionist (R267 to R281). -/
structure Ctn where
  ctrl : W32 := 0x00000001
  err : W32 := 0
  ctxs : Sparse Ctx := []
  tileFail : Nat := 0
  rawCount : Nat := 0
  jobCount : Nat := 0
  suspendCount : Nat := 0
  ctxSel : Nat := 0
deriving DecidableEq, Repr

/-! ### Sideshow (R282 to R293) -/

/-- R282. -/
inductive ChState | idle | armed | waiting | staging | running
deriving DecidableEq, Repr

/-- Which Sideshow command. -/
inductive BlitKind | fill | copy | convert
deriving DecidableEq, Repr

/-- A command in a channel's FIFO. -/
structure Blit where
  hdr : Hdr
  kind : BlitKind
  p : BlitP
  /-- A WIDTH or HEIGHT of 0: it keeps its place and completes OK (R287). -/
  empty : Bool
  /-- The master that submitted it (R287, R403). -/
  master : Nat
deriving DecidableEq, Repr

/-- A Sideshow channel (R282, R293). -/
structure Channel where
  state : ChState := .idle
  fifo : List Blit := []
  dead : Nat := 15
  rows : Nat := 0
  /-- Bursts of the present row already written. -/
  burst : Nat := 0
  done : Nat := 0
  progressed : Bool := false
  retried : Bool := false
  poisonBursts : Nat := 0
  /-- The area of the work space that holds the head command's staged source (R289), and the bursts of it that were read
  poisoned. -/
  area : Option Nat := none
  stagedPoison : List Nat := []
  /-- The count of fabric cycles at which the dead time after its last burst ends (R283). -/
  readyAt : Nat := 0
deriving DecidableEq, Repr

/-- Sideshow (R282 to R293). -/
structure Shw where
  ctrl : W32 := 0x00000001
  err : W32 := 0
  poisonCount : Nat := 0
  chSel : Nat := 0
  chans : Sparse Channel := []
  staging : Option Nat := none
  /-- The channel that issued the last burst, where the round robin stands (R283). -/
  lastBurst : Nat := 7
deriving DecidableEq, Repr

/-! ### Trapeze (R294 to R315, R323) -/

/-- TRZ_PORT_STATE link state (R296). -/
inductive MeshLink | disabled | training | auth | active | retrain | authFail | failed
deriving DecidableEq, Repr

/-- What a mesh frame's TS holds when it leaves: fixed content, or with STAMP set the TB1 time of its departure, or how far
that lies behind an arrival (R303, R318, R319). -/
inductive MeshTime
  | fixed (ts : Time96)
  | now
  | since (t2 : Int)
deriving DecidableEq, Repr

/-- A frame in a replay buffer or waiting for credits: its class and kind, the numbers and bytes it carries, and its
header fields and payload (R303). -/
structure MeshFrame where
  cls : Nat
  kind : Nat
  words : List Nat
  bytes : List Byte
  payload : List Byte
  dst : Nat
  src : Nat
  hops : Nat
  time : MeshTime
  lseq : Nat
  /-- CTR64 it leaves with; 0 outside an authenticated session (R313). -/
  ctr : Nat
  /-- The port a forwarded frame arrived on (R300). -/
  arrival : Option Nat
deriving DecidableEq, Repr

/-- A mesh port (R295 to R314, R323, R324). -/
structure MeshPort where
  link : MeshLink := .disabled
  w : Nat := 0
  peer : Nat := 0
  peerPort : Nat := 0
  /-- BAD, the lanes this side will not use (R296, R298). -/
  bad : BitVec 16 := 0
  /-- BAD as the peer offered it in this training (R296). -/
  peerBad : BitVec 16 := 0
  /-- Lanes added to BAD whose commit follows the retraining in progress (R298). -/
  sparing : List Nat := []
  /-- Whether the commitment that ends the bring-in under way passes, as its row has it (R298, R424). -/
  commitOk : Bool := true
  active : BitVec 16 := 0
  fir : W32 := 0x04330804
  expect : W32 := 0
  miswired : Bool := false
  /-- TRZ_PORT_FIR as the training in progress or last made took it (R190, R295). -/
  firIn : W32 := 0x04330804
  /-- Coefficients in use in the training, and the requests applied in it (R190, R196). -/
  pre : Nat := 4
  post : Nat := 8
  eqReqs : Nat := 0
  /-- TS1 in a row without a request; whether TS2 are exchanged; TS2 received and sent (R195). -/
  eqOk : Nat := 0
  cfg : Bool := false
  ts2Rx : Nat := 0
  ts2Tx : Nat := 0
  /-- Bytes of the block row in progress, and the scrambler of each active lane (R193, R295). -/
  part : List Byte := []
  lfsr : List (BitVec 23) := []
  /-- A FAILED port is being retried (R314). -/
  retrying : Bool := false
  retry : Nat := 0
  laneErr : Nat := 0
  drop : Nat := 0
  badFrames : Nat := 0
  authBad : Nat := 0
  /-- Consecutive failed trainings (R296). -/
  fails : Nat := 0
  /-- Lanes over the limit in the last window (R297). -/
  laneOver : List Nat := []
  txSeq : Nat := 0
  rxSeq : Nat := 0
  /-- A NAK has been sent and the replay is awaited (R305). -/
  rxNak : Bool := false
  replay : List MeshFrame := []
  /-- Frames unacknowledged before a retraining go out again once the port is up (R298, R305). -/
  again : Bool := false
  naked : Option Nat := none
  /-- LINK frames accepted whose credits are not yet returned, and frames since the last ACK (R304, R305). -/
  linkOwed : Nat := 0
  unacked : Nat := 0
  waiting : List MeshFrame := []
  credits : Sparse Nat := []
  /-- Authentication (R312, R313). -/
  ownNonce : List Byte := []
  peerNonce : List Byte := []
  session : Option (BitVec 384) := none
  txCtr : Nat := 1
  rxCtr : Nat := 0
  /-- MT of the MAC failures of the last second (R313). -/
  macFails : List Nat := []
  authLogged : Option Nat := none
  dropLogged : Option Nat := none
  badLogged : Option Nat := none
  /-- Link delay (R319): t1 of the request in progress, t4 of its response, last eight values. -/
  t1 : Option Int := none
  delays : List Int := []
  delay : Int := 0
  asym : W32 := 0
  off : Int := 0
deriving DecidableEq, Repr

/-- A gateway entry (R301, R323). -/
structure Gateway where
  id : W32 := 0x00003FFF
  base : W64 := 0
  limit : W64 := 0
deriving DecidableEq, Repr

/-- A read of host memory asked of a gateway, in DATA requests of at most 4,096 bytes: the command it is for, and each
request's number with its answer once it has come (R301 to R303). -/
structure DataReq where
  hdr : Hdr
  cmd : Cmd
  parts : List (Nat × Option HostAns)
deriving DecidableEq, Repr

/-- One halo strip being received (R309, R311). -/
structure Strip where
  target : Int
  edge : Nat
  plane : Nat
  port : Nat
  /-- DIM of its fragments (R309). -/
  dim : Nat
  /-- Its fragments as they landed in DRAM: OFFSET, address and length. -/
  frags : List (Nat × Nat × Nat)
  total : Option Nat
  crc : W32
  complete : Bool
  topFilled : Bool
  botFilled : Bool
deriving DecidableEq, Repr

/-- Trapeze (R294 to R315, R323). -/
structure Trz where
  ctrl : W32 := 0
  id : W32 := 0
  err : W32 := 0
  time : W32 := 0x00000077
  sync : W32 := 0x00000007
  gwTimeout : W32 := 0x000000FA
  accept0 : W32 := 0
  accept1 : W32 := 0
  haloTrunc : Nat := 0
  haloBad : Nat := 0
  rxDrop : Nat := 0
  routeIndex : Nat := 0
  /-- Route entries by destination; unlisted: 7, drop (R323). -/
  routes : Sparse Nat := []
  portSel : Nat := 0
  ports : Sparse MeshPort := []
  gwSel : Nat := 0
  gws : Sparse Gateway := []
  /-- TRZ_RX_RING: source, scratchpad address and length of each message, oldest first, and the slot the next one takes
  (R315). -/
  ring : List (Nat × Nat × Nat) := []
  ringNext : Nat := 0
  strips : List Strip := []
  /-- The three frame slots of the halo receive area by number, each with the TARGET that holds it (R311). -/
  haloSlots : List (Nat × Int) := []
  /-- Commands sent as gateway and not yet completed: number and header (R301). -/
  gwOut : List (Nat × Hdr × Byte) := []
  /-- MESH_SENDs that wait for MSG_ACK (R315). -/
  sends : List (Nat × Hdr) := []
  /-- Reads of host memory this device has asked of its gateway (R301, R302). -/
  dataReqs : List DataReq := []
  /-- Command packets that come in several MGMT frames: arrival port, gateway, number and bytes so far (R301, R303). -/
  mgmtIn : List (Nat × Nat × Nat × List Byte) := []
  nextId : Nat := 0
  /-- Halo phase 2 of this frame has been sent (R307). -/
  phase2 : Bool := false
  /-- The link key K in the secure part (R312, R402). -/
  key : Option (BitVec 384) := none
deriving DecidableEq, Repr

/-! ### Calliope (R316 to R324) -/

/-- The servo's state (R320); HOLDOVER and GM of CLP_STATUS stand in fields of their own. -/
inductive Tb1State | unlocked | locked
deriving DecidableEq, Repr

/-- Calliope. TB1 and TB3 are counts of 2^-48 ns (R316). Offsets and residue are in 2^-16 ns. -/
structure Clp where
  /-- Data-plane cycles since power-on: the model's own count of time, and the always-on domain's free-running MT counter
  (R20), which a device reset does not stop. -/
  cycle : Nat := 0
  tb1 : Int := 0
  tb3 : Int := 0
  tb3Set : Bool := false
  state : Tb1State := .unlocked
  holdover : Bool := false
  /-- The device follows its alternate port (R321). -/
  useAlt : Bool := false
  steps : Nat := 0
  resteps : Nat := 0
  snap : Time96 := 0
  spread : W32 := 0
  /-- Increments of TB1 and TB3 carried over a device reset, until a rate is written anew (R391). -/
  keep1 : Option Int := none
  keep3 : Option Int := none
  rate1 : W32 := 0
  rate3 : W32 := 0
  step0 : W32 := 0
  step1 : W32 := 0
  tb0Ofs : Time96 := 0
  tb2Ofs : Time96 := 0
  /-- Offsets in force. -/
  ofs0 : Int := 0
  ofs2 : Int := 0
  /-- A written offset waits: for the next tick (TB0), for STOPPED (TB2) (R317). -/
  ofs0New : Option Int := none
  ofs2New : Option Int := none
  slew : Int := 0
  /-- Part of the slew not yet returned, in 2^-48 ns / 1,000,000 (R317). -/
  slewFrac : Nat := 0
  set0 : W32 := 0
  set1 : W32 := 0
  kp : W32 := 0x00040000
  ki : W32 := 0x00000400
  stepThresh : W32 := 0x03E80000
  outlier : W32 := 0x03E80000
  acc : Int := 0
  bad : Nat := 0
  portSel : Nat := 0
deriving DecidableEq, Repr

/-! ### Barker (R355 to R366, R374) -/

/-- BRK_SRC_STATUS state (R358). -/
inductive SrcState | idle | pending | active | activePending
deriving DecidableEq, Repr

/-- An interrupt source (R355 to R365, R374); its type is fixed in hardware (`srcIsLevel` of Ops). -/
structure Source where
  en : Bool := false
  filt : Nat := 0
  prio : Nat := 0x80
  core : Nat := 0
  coreEn : Bool := true
  vector : Nat := 0
  host : Nat := 0
  state : SrcState := .idle
  filtered : Bool := false
  raw : Bool := false
  count : Nat := 0
  hostPend : Bool := false
  /-- The MSI-X message of the host pending bit is held (R366). -/
  held : Bool := false
deriving DecidableEq, Repr

/-- A Ringmaster core's side of the Barker (R359, R363, R374). -/
structure Core where
  stack : List Nat := []
  modr : W32 := 0
  wait : Bool := false
  /-- TIME has run out for the oldest moderated source (R363). -/
  released : Bool := false
deriving DecidableEq, Repr

/-- Barker (R355 to R366). -/
structure Brk where
  ctrl : W32 := 0x00000103
  err : W32 := 0
  srcSel : Nat := 0
  sources : Sparse Source := []
  cores : Sparse Core := []
deriving DecidableEq, Repr

/-! ### Event log (R367 to R375) -/

/-- An event-log entry (R367). -/
structure LogEntry where
  time : Time96
  source : Nat
  tb3Unset : Bool
  core : Nat
  name : LogName
  /-- What the entry names, in the order the manual names it; the byte layout is the dictionary's
  (R372) but for RM_BAR0_ACCESS (R13) and PWR_STATE (R215). -/
  args : List Nat
deriving DecidableEq, Repr

/-- Event log (R367 to R375). -/
structure Log where
  thresh : W32 := 0x00003000
  head : Nat := 0
  tail : Nat := 0
  seq : Nat := 0
  drop : Nat := 0
  dropFull : Bool := false
  dropQueue : Bool := false
  dictIndex : Nat := 0
  /-- Unconsumed entries, oldest first. -/
  entries : List LogEntry := []
  /-- The writer's input queue, oldest first (R368). -/
  input : List LogEntry := []
  /-- Entries with JOURNAL set that core 3 has not yet copied (R369). -/
  toJournal : List LogEntry := []
  /-- Dictionary records of the firmware: codes and sources (R372). -/
  codes : List DictRec := []
  sources : List DictRec := []
deriving DecidableEq, Repr

/-! ### Tightrope (R376 to R389) -/

/-- A sensor (R376 to R381); its unit state is in the unit table. -/
structure Sensor where
  value : Int := 0
  /-- A reading has been taken. -/
  seen : Bool := false
  lastGood : Int := 0
  /-- The last sample failed; the next is its retry (R378). -/
  failing : Bool := false
  /-- Lastingly failed and substituted, with the substitute's value (R379). -/
  lost : Bool := false
  subst : Bool := false
  transient : Nat := 0
  /-- How many samples in a row gave the same reading (R378). -/
  same : Nat := 0
  lastRaw : Option Int := none
  nbr : W32 := 0x3F3F3F3F
  /-- Sensor whose site this spare serves (R380). -/
  servesFor : Option Nat := none
deriving DecidableEq, Repr

/-- Tightrope (R376 to R389). -/
structure Th where
  ctrl : W32 := 0x00000002
  level : Nat := 0
  skip : Nat := 0
  pauseActive : Bool := false
  fastSample : Bool := false
  l3Forced : Bool := false
  restricted : Bool := false
  tripRecord : Bool := false
  t : Int := 0
  err : W32 := 0
  limits : W32 := 0x06E00640
  panelCrit : W32 := 0x000005A0
  pause : W32 := 0x00001000
  psens : Sparse Byte := []
  ntcEn : Nat := 0
  sensSel : Nat := 0
  sensors : Sparse Sensor := []
  timeL1 : Nat := 0
  timeL2 : Nat := 0
  timeL3 : Nat := 0
  timePause : Nat := 0
  upMs : Nat := 0
  dnMs : Nat := 0
  /-- ACK_L3 waits for the next sample (R381). -/
  ackL3 : Bool := false
  /-- Samples in a row at or above the panel limit, by zone (R385). -/
  crit : Sparse Nat := []
  /-- Milliseconds sampled since device reset: the model's own count for R382, R384 and R387. -/
  ms : Nat := 0
  /-- While skip stands at the ceiling of one level: the samples of it, ms and t, newest first (R384). -/
  ceil : List (Nat × Int) := []
  /-- Sites whose loss has forced level 3 (R381). -/
  sitesLost : List Nat := []
  tripIndex : Nat := 0
  /-- Level changes, newest first: level and ms (R387). -/
  changes : List (Nat × Nat) := []
  /-- Milliseconds of the last 60 s spent at levels 1 to 3 and with pauses, newest first (R387). -/
  recent : List (Nat × Bool) := []
  /-- REFIN out of range in the last sample; on the bandgap (R456). -/
  refinBad : Bool := false
  onBandgap : Bool := false
deriving DecidableEq, Repr

/-! ### Turnstiles (R403 to R406, R416) -/

/-- A Turnstile entry (R404). -/
structure TrnEntry where
  base : W64 := 0
  limit : W64 := 0
  r : W64 := 0
  w : W64 := 0
  x : W64 := 0
  valid : Bool := false
  fence : Bool := false
deriving DecidableEq, Repr

/-- Turnstiles (R403 to R406). -/
structure Trn where
  en : Bool := true
  lock : Bool := false
  err : W32 := 0
  violCount : Nat := 0
  fenceCount : Nat := 0
  info : W32 := 0
  addr : W64 := 0
  sel : W32 := 0
  /-- Live and staged entries by 256 × target + entry; unlisted live entries: `TrnEntry.dflt` of Ops. -/
  live : Sparse TrnEntry := []
  staged : Sparse TrnEntry := []
  /-- MT of the last TRN_VIOLATION entry by master (R405). -/
  logged : Sparse Nat := []
deriving DecidableEq, Repr

/-! ### Firmware update (R395 to R417) -/

/-- R396. -/
inductive FwSlotState | empty | valid | pending | trial | confirmed | rejected
deriving DecidableEq, Repr

/-- A firmware slot in the directory (R396). -/
structure FwSlot where
  state : FwSlotState := .empty
  version : W32 := 0
  svn : Nat := 0
  length : Nat := 0
deriving DecidableEq, Repr

/-- R408. -/
inductive FwSession | idle | opening | receiving | committing
deriving DecidableEq, Repr

/-- Firmware update, flash and Safety Net (R395 to R417). -/
structure Fw where
  session : FwSession := .idle
  sessionId : W32 := 0
  target : Nat := 0
  imageLen : Nat := 0
  holderPath : Nat := 0
  holderQueue : Nat := 0
  /-- The FW_OPEN or FW_COMMIT that is running. -/
  running : Option Hdr := none
  activate : Bool := false
  /-- Blocks received: offset and BLOCK_CRC. -/
  blocks : Sparse W32 := []
  /-- The image of a session that is not written to flash (R408). -/
  inline_ : Mem := []
  err : W32 := 0
  slot0 : FwSlot := {}
  slot1 : FwSlot := {}
  dirSeq : Nat := 0
  /-- Boot index of the trial and boots confirmed (R413). -/
  trialBoot : Nat := 0
  confirms : Nat := 0
  /-- The present boot is confirmed. -/
  bootConfirmed : Bool := false
  activeCfg : Nat := 0
  confirmWin : W32 := 0x00000078
  confirmLock : Bool := false
  /-- The MT at which the open confirm window closes (R413); none when no window is open. -/
  winEnd : Option Nat := none
  policy : W32 := 0
  /-- The accepted lifecycle token of the session (R401). -/
  token : Option LcChange := none
  /-- Serial-flash contents by offset (R395); erased bytes read 0xFF. -/
  flash : Mem := []
deriving DecidableEq, Repr

/-! ### Calibration (R427 to R435) -/

/-- A calibration item's values (R428). -/
structure CalItem where
  gain : Nat := 32768
  off : Int := 0
deriving DecidableEq, Repr

/-- Calibration (R427 to R435). -/
structure Cal where
  running : Option (Hdr × Bool) := none
  /-- Items still to measure, in order. -/
  todo : List Nat := []
  applied : Nat := 0
  failed : Nat := 0
  factoryLoaded : Bool := false
  written : Bool := false
  failItem : Nat := 0x1F
  reason : Nat := 0
  refin : Nat := 0
  err : W32 := 0
  items : Sparse CalItem := []
  /-- The factory record, when it is valid (R430, R432). -/
  factory : Option (List Byte) := none
  /-- Items written while the raster runs, applied at the next tick (R433). -/
  pendItems : Sparse CalItem := []
  divR : W32 := 0x00001F40
  divG : W32 := 0x00001F40
  divB : W32 := 0x00001F40
  jrnlIndex : Nat := 0
  /-- A spare-map commitment failed and is to be tried again (R424). -/
  retryMap : Bool := false
deriving DecidableEq, Repr

/-! ### The whole device -/

/-- The LFX-9216. -/
structure State where
  rm : Rm
  mram : Mram
  hq : Hq
  scene : Scene
  hom : Hom
  clr : Clr
  crsl : Crsl
  scn : Scn
  px : Px
  pwr : Pwr
  jgl : Jgl
  spm : Spm
  ctn : Ctn
  shw : Shw
  trz : Trz
  clp : Clp
  brk : Brk
  log : Log
  th : Th
  trn : Trn
  fw : Fw
  cal : Cal
  /-- Units by 1,024 × class + index (R347); unlisted: as after start without faults. -/
  units : Sparse UnitEntry
  /-- Generation that every unit took at CHECK (R348). -/
  genBase : W16
  /-- Data-path requests waiting for core 0, in order of arrival (R348). -/
  unitReqs : List UnitReq
  /-- UNIT_STATE_SETs that wait for the end of a bring-in: header, class, index, FORCE (R351). -/
  unitSets : List (Hdr × Nat × Nat × Bool)
  /-- What has left the device, newest first: the model's own record of its outputs. -/
  out : List Out
  /-- The model's own counter of free values: each use of a free value advances it. -/
  free : Nat
  /-- Commands waiting to be carried out, first in, first out. -/
  pending : List Instr
deriving DecidableEq, Repr

/-- Why the machine stops with a fault. -/
inductive Fault
  /-- An event names a unit, port, group, channel or slot the device does not have (for example
  panel-link group 32). Raised by the meanings of events through `unitFault`; safe, since nothing of
  the hardware's behaviour is claimed for it. -/
  | noSuchUnit
deriving DecidableEq, Repr

/-- Why the machine refuses a command. -/
inductive Refusal
  /-- No meaning is modelled for the row of this mnemonic. Raised by arms of exec only; safe. -/
  | notModelled (mnemonic : String)
deriving DecidableEq, Repr

/-- The device right after a power-on reset with blank MRAM, an empty boot flash and nothing waiting
(R390, R393, and the reset column of every register table). -/
def State.reset : State where
  rm := {}
  mram := {}
  hq := {}
  scene := {}
  hom := {}
  clr := {}
  crsl := {}
  scn := {}
  px := {}
  pwr := {}
  jgl := {}
  spm := {}
  ctn := {}
  shw := {}
  trz := {}
  clp := {}
  brk := {}
  log := {}
  th := {}
  trn := {}
  fw := {}
  cal := {}
  units := []
  genBase := 0
  unitReqs := []
  unitSets := []
  out := []
  free := 0
  pending := []

end Sys2Proof.Machine
end

