-- ==== Sys2Proof/Machine/Bits.lean ====
section
/-! DEFINITION. Bits, bytes and exact arithmetic of the manual: bit fields, little-endian fields (R7), the
helper functions of R10, CRC-32C (R23), time stamps (R8) and sparse collections. -/

namespace Sys2Proof.Machine

/-! ### Bit fields -/

/-- Bits `[hi:lo]` of a word, as a number (R4). -/
def fld {n : Nat} (w : BitVec n) (hi lo : Nat) : Nat := (w.toNat >>> lo) % 2 ^ (hi + 1 - lo)

/-- Bit `i` of a word (R4). -/
def bitOf {n : Nat} (w : BitVec n) (i : Nat) : Bool := w.getLsbD i

/-- 1 for true. -/
def b2n (b : Bool) : Nat := if b then 1 else 0

/-- A number placed at bit `lo` and up, wrapped to the word. -/
def put {n : Nat} (v lo : Nat) : BitVec n := BitVec.ofNat n v <<< lo

/-- A flag placed at bit `i`. -/
def putB {n : Nat} (b : Bool) (i : Nat) : BitVec n := put (b2n b) i

/-- The word with bit `i` set. -/
def setBit {n : Nat} (w : BitVec n) (i : Nat) : BitVec n := w ||| put 1 i

/-- The word with bit `i` cleared. -/
def clrBit {n : Nat} (w : BitVec n) (i : Nat) : BitVec n := w &&& ~~~(put 1 i)

/-- The word with the bits of `mask` taken from `v`. -/
def merge {n : Nat} (w v mask : BitVec n) : BitVec n := (w &&& ~~~mask) ||| (v &&& mask)

/-- The two's-complement value of the low `n` bits of a number (R6). -/
def sext (n x : Nat) : Int := if x % 2 ^ n < 2 ^ (n - 1) then (x % 2 ^ n : Nat) else (x % 2 ^ n : Nat) - (2 ^ n : Nat)

/-- `wrap` of R10: the value modulo 2^n. -/
def wrapN (n : Nat) (x : Int) : Nat := (x % (2 ^ n : Nat)).toNat

/-- `rshr` of R10: shift right, rounding to nearest with halves toward +∞. -/
def rshr (x : Int) (n : Nat) : Int := if n = 0 then x else (x + 2 ^ (n - 1)) / 2 ^ n

/-- `sat` of R10. -/
def sat (x lo hi : Int) : Int := if x < lo then lo else if hi < x then hi else x

/-- A counter of `n` bits that saturates. -/
def satAdd (n a k : Nat) : Nat := min (a + k) (2 ^ n - 1)

/-- Floor division by a power of two (R9: `>>` on a signed value). -/
def sar (x : Int) (n : Nat) : Int := x / 2 ^ n

/-! ### Bytes -/

/-- The `k` low bytes of a number, least significant first (R7). -/
def leBytes : Nat → Nat → List Byte
  | 0, _ => []
  | k + 1, v => BitVec.ofNat 8 v :: leBytes k (v / 256)

/-- The number little-endian bytes spell (R7). -/
def leNat : List Byte → Nat
  | [] => 0
  | b :: r => b.toNat + 256 * leNat r

/-- Byte `i` of a list, 0 beyond its end. -/
def byteAt (bs : List Byte) (i : Nat) : Byte := bs.getD i 0

/-- The little-endian field of `k` bytes at byte `i`. -/
def leAt (bs : List Byte) (i k : Nat) : Nat := leNat ((bs.drop i).take k)

/-- The `k` bytes at byte `i`. -/
def slice (bs : List Byte) (i k : Nat) : List Byte := (bs.drop i).take k

/-- Every byte from `i` up to, but not including, `j` is 0 (a reserved field, R16). -/
def zeroBytes (bs : List Byte) (i j : Nat) : Bool := ((bs.drop i).take (j - i)).all (· == 0)

/-- `n` bytes of value `b`. -/
def fill (n : Nat) (b : Byte) : List Byte := List.replicate n b

/-- A list cut or padded with zeros to `n` bytes. -/
def fit (n : Nat) (bs : List Byte) : List Byte := (bs ++ fill (n - bs.length) 0).take n

/-- A list with `new` laid over it from byte `i`. -/
def overlay (bs : List Byte) (i : Nat) (new : List Byte) : List Byte :=
  bs.take i ++ new ++ bs.drop (i + new.length)

/-- ASCII text as bytes. -/
def ascii (t : String) : List Byte := t.toList.map fun c => BitVec.ofNat 8 c.toNat

/-! ### CRC-32C (R23) -/

/-- `k` steps of the reflected CRC register. -/
def crcBits : Nat → W32 → W32
  | 0, r => r
  | k + 1, r => crcBits k (if r.getLsbD 0 then (r >>> 1) ^^^ 0x82F63B78#32 else r >>> 1)

/-- The CRC register after one byte. -/
def crcByte (r : W32) (b : Byte) : W32 := crcBits 8 (r ^^^ b.setWidth 32)

/-- The CRC register after some bytes. -/
def crcRun (r : W32) (bs : List Byte) : W32 := bs.foldl crcByte r

/-- CRC-32C of R23. -/
def crc32c (bs : List Byte) : W32 := ~~~(crcRun 0xFFFFFFFF#32 bs)

/-! ### Blocks and scrambling of the panel link and the mesh (R191 to R193, R295) -/

/-- The scrambler's start value for a lane (R193). -/
def lfsrStart (lane : Nat) : BitVec 23 := (0x7FFFFF : BitVec 23) ^^^ BitVec.ofNat 23 (lane * 0x24925)

/-- One step of x^23 + x^21 + x^16 + x^8 + x^5 + x^2 + 1: the output bit and the next register. -/
def lfsrStep (r : BitVec 23) : Bool × BitVec 23 :=
  let o := r.getLsbD 22
  (o, (r <<< 1) ^^^ (if o then (0x210125 : BitVec 23) else 0))

/-- The scrambling byte, least significant bit first (R193). -/
def lfsrByte : Nat → Nat → BitVec 23 → Nat × BitVec 23
  | 0, _, r => (0, r)
  | n + 1, i, r =>
    let p := lfsrStep r
    let q := lfsrByte n (i + 1) p.2
    (b2n p.1 * 2 ^ i + q.1, q.2)

/-- Bytes of one lane scrambled; scrambling again restores them (R193). -/
def scramble : BitVec 23 → List Byte → List Byte
  | _, [] => []
  | r, b :: t =>
    let p := lfsrByte 8 0 r
    (b ^^^ BitVec.ofNat 8 p.1) :: scramble p.2 t

/-- The bytes a lane carries of a group's stream: byte k of a block row is on lane k mod 12 (R192). -/
def laneBytes (lanes lane : Nat) (stream : List Byte) : List Byte :=
  (List.range ((stream.length + lanes - 1 - lane) / lanes)).map fun k => byteAt stream (lanes * k + lane)

/-- The scrambler of a lane after `n` bytes (R193). -/
def lfsrAfter : Nat → BitVec 23 → BitVec 23
  | 0, r => r
  | n + 1, r => lfsrAfter n (lfsrByte 8 0 r).2

/-- A 130-bit block in the order of sending, bit 0 first: the sync header, 10 for data and 01 for an ordered set, then
byte 0 to byte 15, each least significant bit first (R191). -/
def block130 (data : Bool) (bytes : List Byte) : BitVec 130 := BitVec.ofNat 130 ((if data then 1 else 2) + 4 * leNat (fit 16 bytes))

/-- One block row of data on `lanes` lanes, each lane scrambled (R191 to R193). -/
def dataRow (lanes : Nat) (lf : List (BitVec 23)) (row : List Byte) : List (BitVec 130) :=
  (List.range lanes).map fun i => block130 true (scramble (lf.getD i 0) (laneBytes lanes i row))

/-- Bytes of a stream made into block rows: the rows, the bytes of the row not yet full, and the scramblers (R191 to
R193). -/
def dataRows (lanes : Nat) : Nat → List (BitVec 23) → List Byte → List (List (BitVec 130)) × List Byte × List (BitVec 23)
  | 0, lf, bs => ([], bs, lf)
  | n + 1, lf, bs =>
    if bs.length < 16 * lanes then ([], bs, lf)
    else
      let r := dataRows lanes n (lf.map (lfsrAfter 16)) (bs.drop (16 * lanes))
      (dataRow lanes lf (bs.take (16 * lanes)) :: r.1, r.2)

/-- The sixteen bytes of an ordered set that is not a training set, by its byte 0: SDS, EIOS, EIEOS (R193). -/
def setBytes (code : Byte) : List Byte :=
  code :: (if code == 0xE1 then fill 15 0x55 else if code == 0x66 then fill 15 0x66
    else (List.range 15).map fun i => if i % 2 = 0 then 0x00 else 0xFF)

/-- An ordered set's block, the same on every lane (R191, R193). -/
def setBlock (code : Byte) : BitVec 130 := block130 false (setBytes code)

/-! ### Time stamps (R8) -/

/-- The nanoseconds of a time stamp are at most 999,999,999 (R8). -/
def timeOk (t : Time96) : Bool := decide (fld t 47 16 < 1000000000)

/-- A time stamp as a count of 2^-16 ns. -/
def timeQ (t : Time96) : Int :=
  ((fld t 95 48 * 1000000000 + fld t 47 16) * 65536 + fld t 15 0 : Nat)

/-- The time stamp of a count of 2^-16 ns; seconds wrap at 2^48. -/
def qTime (q : Int) : Time96 :=
  let ns := q / 65536
  let s := ns / 1000000000
  put (wrapN 48 s) 48 ||| put (ns % 1000000000).toNat 16 ||| put (q % 65536).toNat 0

/-! ### Sparse collections -/

/-- Entry `i`, or the default where none is listed. -/
def spGet {α : Type} (d : α) : Sparse α → Nat → α
  | [], _ => d
  | (k, v) :: r, i => if k = i then v else spGet d r i

/-- Entry `i` set to `v`; the default is not listed. -/
def spSet {α : Type} [DecidableEq α] (d : α) : Sparse α → Nat → α → Sparse α
  | [], i, v => if v = d then [] else [(i, v)]
  | (k, w) :: r, i, v =>
    if i < k then (if v = d then (k, w) :: r else (i, v) :: (k, w) :: r)
    else if i = k then (if v = d then r else (i, v) :: r)
    else (k, w) :: spSet d r i v

/-- Entry `i` changed by `f`. -/
def spMod {α : Type} [DecidableEq α] (d : α) (m : Sparse α) (i : Nat) (f : α → α) : Sparse α :=
  spSet d m i (f (spGet d m i))

/-- The canonical form: every key above the bound before it, keys rising, no default listed. -/
def spWfFrom {α : Type} [DecidableEq α] (d : α) : Nat → Sparse α → Bool
  | _, [] => true
  | b, (k, v) :: r => decide (b ≤ k) && !decide (v = d) && spWfFrom d (k + 1) r

/-- The canonical form of a sparse collection. -/
def spWf {α : Type} [DecidableEq α] (d : α) (m : Sparse α) : Bool := spWfFrom d 0 m

/-- The collection without the entries from `lo` up to, but not including, `hi`. -/
def spErase {α : Type} (m : Sparse α) (lo hi : Nat) : Sparse α := m.filter fun c => decide (c.1 < lo ∨ hi ≤ c.1)

/-- The entry listed under a number, if any. -/
def lkp {α : Type} (m : Sparse α) (i : Nat) : Option α := (m.find? fun c => c.1 == i).map (·.2)

/-- The collection without the entry of a number. -/
def delAt {α : Type} (m : Sparse α) (i : Nat) : Sparse α := m.filter fun c => c.1 != i

/-- The collection with `v` listed under a number. -/
def putAt {α : Type} (m : Sparse α) (i : Nat) (v : α) : Sparse α :=
  m.filter (fun c => decide (c.1 < i)) ++ (i, v) :: m.filter fun c => decide (i < c.1)

/-- The entry listed under a number, changed. -/
def modAt {α : Type} (m : Sparse α) (i : Nat) (f : α → α) : Sparse α :=
  m.map fun c => if c.1 = i then (c.1, f c.2) else c

/-- Every listed entry that satisfies `p`, changed by `f`. -/
def spUpdate {α : Type} [DecidableEq α] (d : α) (m : Sparse α) (p : α → Bool) (f : α → α) : Sparse α :=
  m.foldl (fun acc c => if p c.2 then spSet d acc c.1 (f c.2) else acc) m

/-- The cells of a memory from `a` up to, but not including, `b`. -/
def memCut (m : Mem) (a b : Nat) : Mem := m.filter fun c => decide (a ≤ c.1 ∧ c.1 < b)

/-- `k` bytes from address `a`, where the listed cells come in rising order and start at or above `a`. -/
def memWalk (d : Byte) : Nat → Nat → Mem → List Byte
  | 0, _, _ => []
  | k + 1, a, [] => d :: memWalk d k (a + 1) []
  | k + 1, a, (b, v) :: r => if b = a then v :: memWalk d k (a + 1) r else d :: memWalk d k (a + 1) ((b, v) :: r)

/-- `k` bytes of a memory from an address; an unlisted byte reads as `d`. -/
def memRead (d : Byte) (m : Mem) (a k : Nat) : List Byte := memWalk d k a (memCut m a (a + k))

/-- The cells some bytes from an address make; a byte equal to `d` is not listed. -/
def memCells (d : Byte) : Nat → List Byte → Mem
  | _, [] => []
  | a, b :: r => if b = d then memCells d (a + 1) r else (a, b) :: memCells d (a + 1) r

/-- Bytes written to a memory from an address up. -/
def memWrite (d : Byte) (m : Mem) (a : Nat) (bs : List Byte) : Mem :=
  m.filter (fun c => decide (c.1 < a)) ++ memCells d a bs ++ m.filter (fun c => decide (a + bs.length ≤ c.1))

/-- `n` bytes of a memory `src` from address `a` laid over a memory `m` at address `b`. -/
def memMove (src : Mem) (a b n : Nat) (m : Mem) : Mem :=
  m.filter (fun c => decide (c.1 < b)) ++ (memCut src a (a + n)).map (fun c => (c.1 - a + b, c.2)) ++
    m.filter (fun c => decide (b + n ≤ c.1))

/-- A memory is in canonical form: addresses rising, and no byte listed that an unlisted address reads as. -/
def Memory.wf (d : Byte) (m : Mem) : Bool := spWf d m

/-- The list without its first element that satisfies `p`. -/
def dropFirst {α : Type} (p : α → Bool) : List α → List α
  | [] => []
  | a :: r => if p a then r else a :: dropFirst p r

/-- The list with `f` applied to its first element that satisfies `p`. -/
def modFirst {α : Type} (p : α → Bool) (f : α → α) : List α → List α
  | [] => []
  | a :: r => if p a then f a :: r else a :: modFirst p f r

/-- A number in a list of numbers, once. -/
def addOnce (l : List Nat) (n : Nat) : List Nat := if l.contains n then l else l ++ [n]

/-- How many numbers below `n` satisfy `p`. -/
def countBelow (n : Nat) (p : Nat → Bool) : Nat := (List.range n).countP p

/-- The least number below `n` that satisfies `p`. -/
def firstBelow (n : Nat) (p : Nat → Bool) : Option Nat := (List.range n).find? p

end Sys2Proof.Machine
end

