-- ==== Sys2Proof/Machine/Ops.lean ====
section
/-! DEFINITION. The operations every block shares: outputs, time, the event log, Barker sources, the unit-state
table, Turnstile checks, free values. -/

namespace Sys2Proof.Machine

/-- The outcome type of a row. -/
abbrev Res := Host.Outcome State Fault Refusal

/-- Something leaves the device. -/
def emit (o : Out) (s : State) : State := { s with out := o :: s.out }

/-- A free value, and the state with the counter of free values advanced. -/
def drawFree (s : State) : W64 × State := (Config.freeValue s.free, { s with free := s.free + 1 })

/-- The event of a unit the device does not have stops; otherwise the row has its effect. -/
def unitFault (present : Bool) (f : State → State) (s : State) : Res :=
  if present then .next (f s) else .fault .noSuchUnit

/-! ### Time (R20, R162, R316, R317) -/

/-- The hardware MT counter (R20), counted in data-plane cycles of 625 ps. -/
def mtOf (s : State) : Nat := s.clp.cycle / 1600000

/-- TB1 in 2^-16 ns (R316). -/
def tb1Q (s : State) : Int := s.clp.tb1 / 2 ^ 32

/-- TB0 in 2^-16 ns: TB1 plus its offset (R317). -/
def tb0Q (s : State) : Int := tb1Q s + s.clp.ofs0

/-- TB2 in 2^-16 ns: TB1 plus its offset and the slew residue (R317). -/
def tb2Q (s : State) : Int := tb1Q s + s.clp.ofs2 + s.clp.slew

/-- TB3 in 2^-16 ns (R316). -/
def tb3Q (s : State) : Int := s.clp.tb3 / 2 ^ 32

/-- The TB3 time stamp (R8). -/
def tb3Stamp (s : State) : Time96 := qTime (tb3Q s)

/-- The TB1 time stamp (R8). -/
def tb1Stamp (s : State) : Time96 := qTime (tb1Q s)

/-! ### MSI-X (R336, R338, R365, R366) -/

/-- The other port's record. -/
def portOf (s : State) (p : Port) : HostPort := match p with | .ha => s.hq.ha | .hb => s.hq.hb

/-- A port's record changed. -/
def modPort (p : Port) (f : HostPort → HostPort) (s : State) : State :=
  match p with
  | .ha => { s with hq := { s.hq with ha := f s.hq.ha } }
  | .hb => { s with hq := { s.hq with hb := f s.hq.hb } }

/-- A port can take a message: its link is up and its function is in D0 with Bus Master Enable set. -/
def portCanSend (p : HostPort) : Bool := p.linkUp && !p.d3hot && p.busMaster

/-- An MSI-X table entry after reset: masked, as PCIe resets it (R354). -/
def msixDflt : BitVec 128 := put 1 96

/-- A vector's mask bit. -/
def msixMasked (p : HostPort) (v : Nat) : Bool := bitOf (spGet msixDflt p.msix v) 96

/-- Send a message on a vector of a port that can take one; a masked vector sets its PBA bit (R336,
R366). The device leaves L1 to send it (R338). -/
def msixSend (p : Port) (v : Nat) (s : State) : State :=
  if msixMasked (portOf s p) v then modPort p (fun h => { h with pba := spSet false h.pba v true }) s
  else emit (.msix p v) (modPort p (fun h => { h with l1 := false }) s)

/-- The first interrupt owed in D3hot with PME_En set causes a PME (R338). -/
def pmeOwed (p : Port) (s : State) : State :=
  let h := portOf s p
  if h.d3hot && h.pmeEn && !h.pmeSent then emit (.pme p) (modPort p (fun h => { h with pmeSent := true }) s)
  else s

/-! ### Barker sources (R355 to R366) -/

/-- The type of a source: true for a level source. Fixed for the sources the manual numbers (R355). -/
def srcIsLevel (n : Nat) : Bool :=
  if n % 32 = 31 then true
  else if n = 256 then true
  else if n = 0 ∨ n = 160 ∨ n = 161 ∨ n = 162 ∨ n = 257 ∨ n = 672 then false
  else if 512 ≤ n ∧ n < 528 then false
  else if 704 ≤ n ∧ n < 720 then false
  else Config.sourceIsLevel n

/-- A source after reset (R374). -/
def srcDflt : Source := {}

/-- A source (R355). -/
def srcOf (s : State) (n : Nat) : Source := spGet srcDflt s.brk.sources n

/-- A source changed. -/
def modSrc (n : Nat) (f : Source → Source) (s : State) : State :=
  { s with brk := { s.brk with sources := spMod srcDflt s.brk.sources n f } }

/-- The port a HOST field names (R365). -/
def hostPortOf (host : Nat) : Option Port := if host = 1 then some .ha else if host = 2 then some .hb else none

/-- Send a source's message to its host port, or hold it while the port cannot take it (R366). -/
def brkSend (n : Nat) (s : State) : State :=
  let src := srcOf s n
  match hostPortOf src.host with
  | none => s
  | some p =>
    if portCanSend (portOf s p) then msixSend p src.vector (modSrc n (fun x => { x with held := false }) s)
    else pmeOwed p (modSrc n (fun x => { x with held := true })
      { s with brk := { s.brk with err := setBit s.brk.err 3 } })

/-- Delivery to a host of an event or asserted level: the host pending bit is set, and the vector sent
when it goes from 0 to 1 (R365). -/
def brkToHost (n : Nat) (s : State) : State :=
  let src := srcOf s n
  if src.en && (hostPortOf src.host).isSome && !src.hostPend then
    brkSend n (modSrc n (fun x => { x with hostPend := true }) s)
  else s

/-- What an event does to the state of a source routed to a core (table of R358). -/
def srcFire (x : Source) (level : Bool) : Source :=
  if !x.en || !x.coreEn then x
  else match x.state with
    | .idle => { x with state := .pending }
    | .active => if level then x else { x with state := .activePending }
    | _ => x

/-- An edge event, or FORCE, at a source: counted, presented and delivered (R356, R357, R365). -/
def brkEvent (n : Nat) (s : State) : State :=
  brkToHost n (modSrc n (fun x => srcFire { x with count := satAdd 8 x.count 1 } false) s)

/-- The filtered level of a level source becomes `v` (R356, R357, R365). -/
def brkLevel (n : Nat) (v : Bool) (s : State) : State :=
  let x := srcOf s n
  if v then
    let s1 := modSrc n (fun x =>
      srcFire { x with filtered := true, raw := true,
                       count := if x.filtered then x.count else satAdd 8 x.count 1 } true) s
    if x.filtered then s1 else brkToHost n s1
  else modSrc n (fun x => { x with filtered := false, raw := false }) s

/-! ### The event log (R367 to R369) -/

/-- SOURCE of an entry: the block its name carries (R367), else the dictionary's (R372). -/
def logSlot : LogName → Nat
  | .rmBar0Access => 0
  | .homHaloLate | .homPoison | .homPipeErr | .homSelftestFail | .homPipeSpared | .homLaRange => 18
  | .clrOvlPoison => 19
  | .crslPriorPoison | .crslTblCopy | .crslTblAll | .crslB7Cut => 17
  | .scnCommitLate | .scnUnderrun => 16
  | .pxTrainFail | .pxRetrain | .pxBcBad | .pxFault | .pxPathFault | .pxPartnerAbsent | .pxMiswired
  | .pxGroupSpared => 20
  | .pwrState | .pwrHeadroomLimit | .pwrDerateNosrc | .pwrEmitterOpen | .pwrEmitterShort => 5
  | .jglAddrRange | .jglRetrainOk | .jglRankSpared | .jglFolded | .jglLowWidth | .jglRowDisturb | .jglUe => 25
  | .spmUe | .spmOffAccess | .spmBankSpared | .spmWipe => 24
  | .ctnTileFail => 23
  | .trzLaneSpared | .trzDrop | .trzHaloPoison | .trzHaloTrunc | .trzAuthFail | .trzBad => 21
  | .clpRestep | .clpHoldover => 3
  | .hqFailover | .hqCqDrop => 27
  | .trnViolation => 2
  | .thSensorLost | .thSensorSpared | .thSiteLost | .thPause | .thPanelCrit => 4
  | .fwLockExpired | .fwFallback => 7
  | .calMramFail | .calRefinLost => 6
  | n => Config.logSource n

/-- A drop: counted with its cause, and source LOG_DROP raised on the first since LOG_DROP was cleared
(R47, R368). -/
def logDrop (full : Bool) (s : State) : State :=
  let l := s.log
  let s1 := { s with log := { l with
    drop := satAdd 24 l.drop 1, dropFull := l.dropFull || full, dropQueue := l.dropQueue || !full } }
  if l.drop = 0 && !l.dropFull && !l.dropQueue then brkEvent 257 s1 else s1

/-- A block submits an entry: stamped with TB3, queued, or dropped when the input queue holds 64 (R367,
R368). `core` is the Ringmaster core of a firmware entry. -/
def logFrom (core : Nat) (name : LogName) (args : List Nat) (s : State) : State :=
  if 64 ≤ s.log.input.length then logDrop false s
  else { s with log := { s.log with input := s.log.input ++ [
    { time := tb3Stamp s, source := logSlot name, tb3Unset := !s.clp.tb3Set, core := core,
      name := name, args := args }] } }

/-- A block submits an entry. -/
def log (name : LogName) (args : List Nat) (s : State) : State := logFrom 0 name args s

/-- LOG_CTRL.THRESH: 0 is taken as 16,384 (R375). -/
def logThresh (s : State) : Nat := let t := fld s.log.thresh 14 0; if t = 0 then 16384 else t

/-- Source LOG_THRESH follows the number of unconsumed entries (R368). -/
def logLevel (s : State) : State := brkLevel 256 (decide (logThresh s ≤ s.log.entries.length)) s

/-- One fabric cycle of the log writer: it takes the entry at the head of its queue and appends it, or
drops it when the log is full (R368). -/
def logDrain1 (s : State) : State :=
  match s.log.input with
  | [] => s
  | e :: rest =>
    let s1 := { s with log := { s.log with input := rest } }
    if 16384 ≤ s.log.entries.length then logDrop true s1
    else
      let l := s1.log
      logLevel { s1 with log := { l with
        entries := l.entries ++ [e], tail := (l.tail + 1) % 16384, seq := (l.seq + 1) % 2 ^ 32,
        toJournal := if Config.logJournal e.name then l.toJournal ++ [e] else l.toJournal } }

/-- Some fabric cycles of the log writer. -/
def logDrainN : Nat → State → State
  | 0, s => s
  | n + 1, s => logDrainN n (logDrain1 s)

/-- The writer empties its input queue (R368). -/
def logDrain (s : State) : State := logDrainN s.log.input.length s

/-! ### The unit-state table (R347, R348, R468) -/

/-- The key of a unit. -/
def unitKey (cls idx : Nat) : Nat := 1024 * cls + idx

/-- CLASS and INDEX name a unit (R347). -/
def unitExists (cls idx : Nat) : Bool :=
  match cls with
  | 0 => idx < 24
  | 1 => idx < 544
  | 2 => idx < 72
  | 3 => idx < 32
  | 4 => idx < 6
  | 5 => idx < 284
  | _ => false

/-- A unit after start without faults: spares are OFFLINE with cause SPARE, panel sensors and NTC inputs
not declared, mesh ports not yet found; the spares that HOM_STATUS and SPM_STATUS show as passing
are (R468, R105, R111, R264, R280, R211, R376). -/
def unitDflt (gen : W16) (cls idx : Nat) : UnitEntry :=
  let e (st : UState) (c : Nat) (tested : Bool) : UnitEntry := ⟨st, gen, c, none, tested, false⟩
  match cls with
  | 0 => e .offline 1 false
  | 1 => if idx < 512 then e .online 0 false else e .offline 5 true
  | 2 => if idx < 64 then e .online 0 false else e .offline 5 true
  | 3 => if idx < 30 then e .online 0 false else e .offline 5 false
  | 4 => e .offline 1 false
  | 5 => if idx < 36 then e .online 0 false else if idx < 40 then e .offline 5 true else e .offline 9 false
  | _ => e .offline 1 false

/-- A unit's entry. -/
def unitOf (s : State) (cls idx : Nat) : UnitEntry :=
  spGet (unitDflt s.genBase cls idx) s.units (unitKey cls idx)

/-- A unit's entry changed without a transition. -/
def modUnit (cls idx : Nat) (f : UnitEntry → UnitEntry) (s : State) : State :=
  { s with units := spMod (unitDflt s.genBase cls idx) s.units (unitKey cls idx) f }

/-- The code of a unit state (R349). -/
def uCode : UState → Nat
  | .online => 0 | .degraded => 1 | .offline => 2 | .spared => 3 | .test => 4

/-- A transition of a unit: the generation advances, UNIT_STATE is logged and UNIT_CHANGE raised
(R348, R468). -/
def unitTo (cls idx : Nat) (st : UState) (cause : Nat) (s : State) : State :=
  let u := unitOf s cls idx
  brkEvent 0 (logFrom 0 .unitState [cls, idx, uCode u.state, uCode st, (u.gen + 1).toNat]
    (modUnit cls idx (fun u => { u with state := st, gen := u.gen + 1, cause := cause }) s))

/-- A unit in service: ONLINE or DEGRADED. -/
def unitUp (u : UnitEntry) : Bool := u.state == .online || u.state == .degraded

/-- The register-block slot whose UNIT_REQ carries a class's requests (R355). -/
def classSlot : Nat → Nat
  | 0 => 25 | 1 => 24 | 2 => 18 | 3 => 20 | 4 => 21 | _ => 4

/-- The state a data-path block reports with a request: the one its unit has once a DEGRADED request made
before has been applied (R348, R254). -/
def reported (cls idx : Nat) (s : State) : UState :=
  if s.unitReqs.any (fun r => r.cls == cls && r.idx == idx && !r.lasting) then .degraded else (unitOf s cls idx).state

/-- A data-path block requests a transition: the request waits for core 0 and UNIT_REQ is asserted (R27,
R348, R418). A request that already waits for the unit is not made twice. -/
def unitReq (cls idx : Nat) (lasting : Bool) (s : State) : State :=
  if s.unitReqs.any (fun r => r.cls == cls && r.idx == idx && r.lasting == lasting) then s
  else brkLevel (32 * classSlot cls + 31) true
    (modUnit cls idx (fun u => { u with reqPending := true })
      { s with unitReqs := s.unitReqs ++ [⟨cls, idx, reported cls idx s, lasting⟩] })

/-- A transient fault of a unit in service asks for DEGRADED where it is ONLINE (R418). -/
def unitTransient (cls idx : Nat) (s : State) : State :=
  if (unitOf s cls idx).state == .online then unitReq cls idx false s else s

/-- A lasting fault of a unit in service raises the request that core 0 answers (R418). -/
def unitLasting (cls idx : Nat) (s : State) : State :=
  if unitUp (unitOf s cls idx) then unitReq cls idx true s else s

/-- Core 0's queue of unit requests becomes `rest`, after a request of unit (cls, idx) has left it: REQ_PENDING and the
request line of its class follow the queue, and unit commands behind it come nearer to their turn (R348, R349). -/
def unitReqsLeft (cls idx : Nat) (rest : List UnitReq) (s : State) : State :=
  let s1 := { s with
    unitReqs := rest
    hq := { s.hq with
      unitTurns := s.hq.unitTurns.map fun t => (t.1, ((s.unitReqs.take t.2).filter rest.contains).length) } }
  let s2 := if rest.any (fun q => q.cls == cls && q.idx == idx) then s1
    else modUnit cls idx (fun u => { u with reqPending := false }) s1
  if rest.any (fun q => classSlot q.cls == classSlot cls) then s2
  else brkLevel (32 * classSlot cls + 31) false s2

/-- The request at the front of the queue is taken; UNIT_REQ falls when its block has none left. -/
def unitReqPop (r : UnitReq) (s : State) : State := unitReqsLeft r.cls r.idx (s.unitReqs.drop 1) s

/-! ### Turnstiles (R403 to R406) -/

/-- What a Turnstile asks of an entry. -/
inductive Perm | r | w | x
deriving DecidableEq, Repr

/-- The granule of a target (R404). -/
def trnGranule : Nat → Nat
  | 0 => 4096 | 1 => 524288 | 2 => 4096 | _ => 256

/-- Masters 3 to 6 and 17. -/
def trnBootMask : W64 := 0x20078

/-- A live entry after reset (R406). -/
def trnDflt (key : Nat) : TrnEntry :=
  if key % 256 = 255 then
    { base := 0, limit := 0xFFFFFFFFFFFFFFFF, r := trnBootMask, w := trnBootMask, x := trnBootMask, valid := true }
  else if key = 2 * 256 + 254 then { r := 0xFFFFFFFFFFFFFFFF, valid := true }
  else {}

/-- A live entry of a target (R404). -/
def trnLive (s : State) (target entry : Nat) : TrnEntry :=
  spGet (trnDflt (256 * target + entry)) s.trn.live (256 * target + entry)

/-- A live entry written. -/
def trnSet (target entry : Nat) (e : TrnEntry) (s : State) : State :=
  let k := 256 * target + entry
  { s with trn := { s.trn with live := spSet (trnDflt k) s.trn.live k e } }

/-- The lowest-numbered VALID entry that contains a granule (R405). -/
def trnFind (s : State) (target g : Nat) : Option Nat :=
  firstBelow 256 fun i =>
    let e := trnLive s target i
    e.valid && decide (e.base.toNat ≤ g ∧ g ≤ e.limit.toNat)

/-- An entry grants a master. -/
def trnGrants (e : TrnEntry) (m : Nat) : Perm → Bool
  | .r => bitOf e.r m
  | .w => bitOf e.w m
  | .x => bitOf e.x m

/-- The result of a Turnstile check. -/
inductive TrnRes
  | pass
  | refused (g : Nat) (entry : Option Nat) (fence : Bool)
deriving DecidableEq, Repr

/-- The first refused granule of an access (R405). -/
def trnScan (s : State) (target m : Nat) (p : Perm) : Nat → Nat → TrnRes
  | 0, _ => .pass
  | n + 1, g =>
    match trnFind s target g with
    | none => .refused g none false
    | some i =>
      if trnGrants (trnLive s target i) m p then trnScan s target m p n (g + trnGranule target)
      else .refused g (some i) (trnLive s target i).fence

/-- The Turnstile of a target checks every granule an access of `len` bytes touches (R405). -/
def trnCheck (s : State) (target m : Nat) (p : Perm) (addr len : Nat) : TrnRes :=
  if !s.trn.en || len = 0 then .pass
  else
    let gr := trnGranule target
    let g0 := addr / gr
    trnScan s target m p ((addr + len - 1) / gr - g0 + 1) (g0 * gr)

/-- What a refusal leaves behind: flags, counts, the first refusal's record and the log entry (R405, R416). -/
def trnNote (target m : Nat) (p : Perm) (addr : Nat) (entry : Option Nat) (fence : Bool) (s : State) : State :=
  let t := s.trn
  let first := t.err == 0
  let info : W32 := put m 0 ||| put target 8 ||| putB (p == .w) 10 ||| putB fence 11 |||
    put (entry.getD 0) 12 ||| putB entry.isNone 20
  let t1 := { t with
    err := setBit t.err (if fence then 1 else 0)
    violCount := if fence then t.violCount else satAdd 32 t.violCount 1
    fenceCount := if fence then satAdd 32 t.fenceCount 1 else t.fenceCount
    info := if first then info else t.info
    addr := if first then BitVec.ofNat 64 addr else t.addr }
  if fence then log .fenceViolation [m, target, addr] { s with trn := t1 }
  else if spGet 0 t.logged m = mtOf s + 1 then { s with trn := t1 }
  else log .trnViolation [m, target, addr] { s with trn := { t1 with logged := spSet 0 t.logged m (mtOf s + 1) } }

/-- An access checked at a target: none when it passes, else the status of the command that carries it and
the state with the refusal recorded (R405). -/
def trnAccess (target m : Nat) (p : Perm) (addr len : Nat) (s : State) : Option Status × State :=
  match trnCheck s target m p addr len with
  | .pass => (none, s)
  | .refused g e f => (some (if f then .fence else .access), trnNote target m p g e f s)

end Sys2Proof.Machine
end

