-- ==== Sys2Proof/Machine/MeshOps.lean ====
section
/-! DEFINITION. Sending on the Trapeze: credits, priorities, the replay buffer and routes (R300 to R305). -/

namespace Sys2Proof.Machine

/-- A mesh port (R294). -/
def meshPort (s : State) (p : Nat) : MeshPort := spGet {} s.trz.ports p

/-- A mesh port changed. -/
def modMesh (p : Nat) (f : MeshPort → MeshPort) (s : State) : State :=
  { s with trz := { s.trz with ports := spMod {} s.trz.ports p f } }

/-- TRZ_ERR bit `i` set (R323). -/
def trzErr (i : Nat) (s : State) : State := { s with trz := { s.trz with err := setBit s.trz.err i } }

/-- Credits a port starts with, by class (R304). -/
def creditDflt : Nat → Nat
  | 0 => 4 | 1 => 4 | 2 => 2 | 3 => 32 | 4 => 16 | 5 => 32 | 6 => 8 | _ => 0

/-- Credits of a class. -/
def creditOf (m : MeshPort) (cls : Nat) : Nat := spGet (creditDflt cls) m.credits cls

/-- A link state passes a class (R296). -/
def meshPasses (l : MeshLink) (cls : Nat) : Bool :=
  match l with
  | .active => cls < 7
  | .auth | .authFail => cls == 0 || cls == 2
  | _ => false

/-- Kinds of mesh content, the model's own numbers within each class (R304). -/
def kAck : Nat := 0
def kNak : Nat := 1
def kCredit : Nat := 2
def kSync : Nat := 0
def kPdelayReq : Nat := 1
def kPdelayResp : Nat := 2
def kHello : Nat := 0
def kProof : Nat := 1
def kFragment : Nat := 0
def kCancel : Nat := 1
def kCommand : Nat := 0
def kCompletion : Nat := 1
def kRequest : Nat := 0
def kResponse : Nat := 1
def kMessage : Nat := 0
def kMsgAck : Nat := 1

/-! ### The bytes of a frame (R303, R313) -/

/-- The payload of a frame: a fragment's is laid out by R309; of the others the manual gives the content and no layout.
At most 4,096 bytes, in whole units (R303). -/
def meshPayload (cls kind : Nat) (words : List Nat) (bytes : List Byte) : List Byte :=
  let b := (if cls = 3 ∧ kind = kFragment then bytes else Config.meshLayout cls kind words bytes).take 4096
  fit ((b.length + 15) / 16 * 16) b

/-- TS of a frame that is no SYNC and no PDELAY: a halo fragment's carries TARGET (R309), others what their class puts there
(R303). -/
def meshTsOf (cls kind : Nat) (words : List Nat) : MeshTime :=
  .fixed (if cls = 3 ∧ kind = kFragment then BitVec.ofNat 96 (words.headD 0) else Config.meshWord cls kind words)

/-- What TS carries at departure (R318, R319). -/
def meshStamp (t : MeshTime) (s : State) : Time96 :=
  match t with
  | .fixed ts => ts
  | .now => qTime (tb1Q s)
  | .since t2 => qTime (tb1Q s - t2)

/-- FLAGS of a frame: STAMP (R303). -/
def meshFlags : MeshTime → Nat
  | .fixed _ => 0
  | _ => 1

/-- The header of a frame, with its HCRC (R303). -/
def meshHeader (ts : Time96) (f : MeshFrame) : List Byte :=
  let b := leBytes 1 f.cls ++ [Config.meshType f.cls f.kind] ++ leBytes 2 (3 + f.payload.length / 16) ++ leBytes 2 f.dst ++
    leBytes 2 f.src ++ leBytes 1 f.hops ++ leBytes 1 f.lseq ++ leBytes 1 (meshFlags f.time) ++ [0] ++ leBytes 12 ts.toNat ++
    leBytes 4 (f.ctr % 2 ^ 32) ++ [0, 0]
  b ++ leBytes 2 ((crc32c b).toNat % 65536)

/-- The payload of a frame: what stands between the header and the tail. -/
def framePayload (b : List Byte) : List Byte := slice b 32 (b.length - 48)

/-- The MAC of a frame (R313). -/
def frameMac (ks : BitVec 384) (ctr : Nat) (b : List Byte) : List Byte :=
  (hmac384 (leBytes 48 ks.toNat) (leBytes 8 ctr ++ slice b 0 12 ++ slice b 24 6 ++ framePayload b)).take 12

/-- The bytes of a frame: header, payload, MAC or zeros, PCRC (R303, R313). -/
def meshBytes (session : Option (BitVec 384)) (ts : Time96) (f : MeshFrame) : List Byte :=
  let body := meshHeader ts f ++ f.payload
  let mac := match session with
    | some ks => if f.ctr = 0 then fill 12 0 else frameMac ks f.ctr (body ++ fill 16 0)
    | none => fill 12 0
  body ++ mac ++ leBytes 4 (crc32c f.payload).toNat

/-- Units of idle fill: byte 0 is 0xFF, and the others are 0 (DESIGN CHOICE, log entry 157). -/
def idleFill (n : Nat) : List Byte := (List.replicate n ((0xFF : Byte) :: fill 15 0)).flatten

/-- A port's stream goes on by some bytes: the block rows they fill leave with them (R295). -/
def meshStream (p : Nat) (bytes : List Byte) (s : State) : List (List (BitVec 130)) × State :=
  let m := meshPort s p
  let all := m.part ++ bytes
  let r := dataRows m.w (all.length / (16 * m.w)) m.lfsr all
  (r.1, modMesh p (fun m => { m with part := r.2.1, lfsr := r.2.2 }) s)

/-- A frame leaves, for the first time or again, with the stamp of its departure; idle fill follows it (R303, R318). A
PDELAY_REQ's departure is t1 (R319). -/
def meshDepart (p : Nat) (f : MeshFrame) (s : State) : State :=
  let frame := meshBytes (meshPort s p).session (meshStamp f.time s) f
  let (rows, s1) := meshStream p (frame ++ idleFill (Config.idleUnits s.free)) { s with free := s.free + 1 }
  emit (.mesh p f.cls f.kind f.words f.bytes frame rows)
    (if f.cls = 1 ∧ f.kind = kPdelayReq then modMesh p (fun m => { m with t1 := some (tb1Q s) }) s1 else s1)

/-! ### Credits, priorities and the replay buffer (R304, R305) -/

/-- Bytes a frame takes in the replay buffer (R303). -/
def meshFrameSize (f : MeshFrame) : Nat := 48 + f.payload.length

/-- The replay buffer has room for a frame (R305). -/
def replayRoom (m : MeshPort) (f : MeshFrame) : Bool :=
  decide ((m.replay.map meshFrameSize).sum + meshFrameSize f ≤ 262144)

/-- A frame may leave now: its class passes, and it has a credit and room in the replay buffer (R304, R305). -/
def meshReady (m : MeshPort) (f : MeshFrame) : Bool :=
  meshPasses m.link f.cls && decide (0 < creditOf m f.cls) && replayRoom m f

/-- The frame of best priority that may leave: the lowest class, first come first (R304). -/
def meshNext (m : MeshPort) : Option MeshFrame :=
  (List.range 7).findSome? fun c => m.waiting.find? fun f => f.cls == c && meshReady m f

/-- A frame of a class carries the counter and MAC of the session: every one but those of a handshake (R313). -/
def meshAuthed (m : MeshPort) (cls : Nat) : Bool := m.session.isSome && cls != 2

/-- A frame leaves: it takes a credit, a link sequence number and the counter of an authenticated link, and stays in the
replay buffer (R303 to R305, R313). -/
def meshTx (p : Nat) (f : MeshFrame) (s : State) : State :=
  let m := meshPort s p
  let g := { f with lseq := m.txSeq, ctr := if meshAuthed m f.cls then m.txCtr else 0 }
  modMesh p (fun m => { m with
    credits := spSet (creditDflt f.cls) m.credits f.cls (creditOf m f.cls - 1)
    replay := m.replay ++ [g]
    txSeq := (m.txSeq + 1) % 256
    txCtr := if meshAuthed m f.cls then m.txCtr + 1 else m.txCtr }) (meshDepart p g s)

/-- Every waiting frame that may leave does, in order of priority. -/
def meshPumpN (p : Nat) : Nat → State → State
  | 0, s => s
  | n + 1, s =>
    match meshNext (meshPort s p) with
    | none => s
    | some f => meshPumpN p n (meshTx p f (modMesh p (fun m => { m with waiting := m.waiting.erase f }) s))

/-- A port sends what it can (R304). -/
def meshPump (p : Nat) (s : State) : State := meshPumpN p (meshPort s p).waiting.length s

/-- A frame is handed to a port (R304). -/
def meshQueue (p : Nat) (f : MeshFrame) (s : State) : State :=
  meshPump p (modMesh p (fun m => { m with waiting := m.waiting ++ [f] }) s)

/-- This device's ID (R299). -/
def trzId (s : State) : Nat := fld s.trz.id 13 0

/-- TRZ_ID.VALID (R299). -/
def trzValid (s : State) : Bool := bitOf s.trz.id 30

/-- A frame of this device, to a destination. -/
def ownFrame (s : State) (dst hops cls kind : Nat) (time : MeshTime) (words : List Nat) (bytes : List Byte) : MeshFrame :=
  ⟨cls, kind, words, bytes, meshPayload cls kind words bytes, dst, trzId s, hops, time, 0, 0, none⟩

/-- A hop-local frame is handed to a port: from this device to the peer, HOPS 0 (R303). -/
def meshSendTimed (p cls kind : Nat) (time : MeshTime) (words : List Nat) (bytes : List Byte) (s : State) : State :=
  meshQueue p (ownFrame s (meshPort s p).peer 0 cls kind time words bytes) s

/-- A hop-local frame without a stamp. -/
def meshSendFrame (p cls kind : Nat) (words : List Nat) (bytes : List Byte) (s : State) : State :=
  meshSendTimed p cls kind (meshTsOf cls kind words) words bytes s

/-! ### Routes (R299, R300) -/

/-- A port's route entry for a destination (R300, R323). -/
def routeOf (s : State) (dst : Nat) : Nat := spGet 7 s.trz.routes dst

/-- A port is ACTIVE. -/
def meshActive (s : State) (p : Nat) : Bool := (meshPort s p).link == .active

/-- A routed frame leaves this device as its origin: HOPS 64, by the route table; it is dropped where the
entry names no ACTIVE port (R300, R303). -/
def meshRoute (dst cls kind : Nat) (words : List Nat) (bytes : List Byte) (s : State) : State :=
  let e := routeOf s dst
  if e < 6 && meshActive s e then meshQueue e (ownFrame s dst 64 cls kind (meshTsOf cls kind words) words bytes) s else s

end Sys2Proof.Machine
end

