-- ==== Sys2Proof/Machine/Hq.lean ====
section
/-! DEFINITION. The host interface: queues, completions, interrupts and moderation, failover (R325 to R338,
R353, R394). -/

namespace Sys2Proof.Machine

/-- HQ_ERR bit `i` set (R354): 0 FETCH, 1 DOORBELL, 2 CONFIG, 3 CQ_WRITE, 4 CQ_OVERFLOW, 5 FAILOVER, 6 MBOX. -/
def hqErr (i : Nat) (s : State) : State := { s with hq := { s.hq with err := setBit s.hq.err i } }

/-- A submission queue. -/
def sqOf (s : State) (q : Nat) : Sq := spGet {} s.hq.sqs q

/-- A completion queue. -/
def cqOf (s : State) (q : Nat) : Cq := spGet {} s.hq.cqs q

/-- A submission queue changed. -/
def modSq (q : Nat) (f : Sq → Sq) (s : State) : State :=
  { s with hq := { s.hq with sqs := spMod {} s.hq.sqs q f } }

/-- A completion queue changed. -/
def modCq (q : Nat) (f : Cq → Cq) (s : State) : State :=
  { s with hq := { s.hq with cqs := spMod {} s.hq.cqs q f } }

/-- The completion queue a submission queue names (R330, R354). -/
def sqCq (s : State) (q : Nat) : Nat := fld (sqOf s q).cfg 17 8

/-- Dwords of a submission ring. -/
def sqSize (x : Sq) : Nat := 2 ^ fld x.cfg 4 0

/-- Entries of a completion ring. -/
def cqSize (x : Cq) : Nat := 2 ^ fld x.cfg 4 0

/-- The master ID of a port's host function (R403). -/
def portMaster : Port → Nat | .ha => 0 | .hb => 1

/-- The master ID a command acts under (R302, R346, R403). -/
def srcMaster (s : State) : Src → Nat
  | .sq q => portMaster (sqOf s q).owner
  | .mbox _ => 2
  | .mesh p _ _ => 18 + p
  | .fw => 3

/-! ### Status codes -/

/-- The code of a status (R335). -/
def statusCode : Status → Nat
  | .ok => 0x00 | .okRetried => 0x01 | .queued => 0x02 | .busy => 0x10 | .stale => 0x11
  | .lengthRange => 0x12 | .access => 0x13 | .unsupported => 0x14 | .badParam => 0x15 | .budget => 0x16
  | .late => 0x17 | .fence => 0x18 | .timeout => 0x19 | .uncorrectable => 0x1A | .degraded => 0x1B
  | .aborted => 0x1C | .auth => 0x1D | .integrity => 0x1E | .noResource => 0x1F

/-! ### Interrupts of a completion queue (R336 to R338) -/

/-- The idle hint of a vector (R337). -/
def idleHint (h : HostPort) (v : Nat) : Bool := bitOf (spGet (0 : W32) h.vecIdle (v / 32)) (v % 32)

/-- The idle hint of a vector cleared. -/
def clearHint (p : Port) (v : Nat) (s : State) : State :=
  modPort p (fun h => { h with vecIdle := spMod 0 h.vecIdle (v / 32) fun w => clrBit w (v % 32) }) s

/-- The entries a queue has to signal make a message due: COUNT is reached, TIME is 0, or the vector's
idle hint is set (R336, R337). -/
def cqDue (h : HostPort) (c : Cq) (n : Nat) : Bool :=
  decide (0 < n) && (decide (max (fld c.modr 7 0) 1 ≤ n) || decide (fld c.modr 23 8 = 0) ||
    idleHint h (fld c.cfg 26 16))

/-- A queue's message is sent, or pends behind the vector's mask: its count restarts, and the vector's idle hint is
cleared as the message leaves (R336, R337). -/
def cqSend (q : Nat) (s : State) : State :=
  let c := cqOf s q
  let v := fld c.cfg 26 16
  let s1 := modCq q (fun c => { c with unsignalled := 0, owed := false }) s
  msixSend c.owner v (if msixMasked (portOf s1 c.owner) v then s1 else clearHint c.owner v s1)

/-- A queue signals when a message is due (R336). -/
def cqSignal (q : Nat) (s : State) : State :=
  let c := cqOf s q
  if cqDue (portOf s c.owner) c c.unsignalled then cqSend q s else s

/-! ### Writing and holding entries (R329, R335, R338) -/

/-- A dropped entry is counted and logged with its tag and status (R47, R335). -/
def cqDrop (q : Nat) (e : Cpl) (s : State) : State :=
  log .hqCqDrop [e.tag.toNat, statusCode e.status] (modCq q (fun c => { c with drop := satAdd 32 c.drop 1 }) s)

/-- A full ring drops the newest entry (R47, R335). -/
def cqOverflow (q : Nat) (e : Cpl) (s : State) : State :=
  cqDrop q e (hqErr 4 (modCq q (fun c => { c with overflow := true }) s))

/-- The queue is full: the entry after the tail is the head (R335). -/
def cqFull (c : Cq) : Bool := (c.tail + 1) % cqSize c == c.head

/-- An entry is written at the tail of an ACTIVE queue, or dropped when it is full (R335, R336). -/
def cqWrite (q : Nat) (e : Cpl) (s : State) : State :=
  let c := cqOf s q
  if cqFull c then cqOverflow q e s
  else
    let next := (c.tail + 1) % cqSize c
    cqSignal q (emit (.completion q c.tail { e with phase := c.phase }) (modCq q (fun c => { c with
      tail := next, phase := if next = 0 then !c.phase else c.phase, unsignalled := c.unsignalled + 1 }) s))

/-- An entry is held in queue spill; beyond 65,536 it is dropped and counted (R329). In D3hot a message
that falls due is owed (R338). -/
def cqHold (q : Nat) (e : Cpl) (s : State) : State :=
  let c := cqOf s q
  if 65536 ≤ c.held.length then cqDrop q e s
  else
    let s1 := modCq q (fun c => { c with held := c.held ++ [e] }) s
    let n := c.unsignalled + c.held.length + 1
    if cqDue (portOf s c.owner) c n then pmeOwed c.owner (modCq q (fun c => { c with owed := true }) s1) else s1

/-- A port's entries are held: its link is lost under failover, or its function is in D3hot (R329, R338). -/
def portHolds (h : HostPort) : Bool := !h.linkUp || h.d3hot

/-- An entry goes to its completion queue (R329, R335, R338). -/
def cqDeliver (q : Nat) (e : Cpl) (s : State) : State :=
  let c := cqOf s q
  match c.state with
  | .disabled => cqDrop q e (hqErr 3 s)
  | .orphaned => cqHold q e s
  | .active => if portHolds (portOf s c.owner) then cqHold q e s else cqWrite q e s

/-- Entries written in order. -/
def cqWriteAll (q : Nat) : List Cpl → State → State
  | [], s => s
  | e :: r, s => cqWriteAll q r (cqWrite q e s)

/-- The held entries of a queue are written, in the order in which they were produced (R329, R338). -/
def cqRelease (q : Nat) (s : State) : State :=
  cqWriteAll q (cqOf s q).held (modCq q (fun c => { c with held := [] }) s)

/-! ### Completing a command -/

/-- The SQ field of a completion entry. -/
def sqField : Src → W16
  | .sq q => BitVec.ofNat 16 (q % 1024)
  | .mbox _ => 0x8000
  | _ => 0

/-- A completion entry for a command. -/
def mkCpl (h : Hdr) (op : Byte) (st : Status) (interim : Bool) (detail : W64) (s : State) : Cpl :=
  { tag := h.tag, status := st, opcode := op, sq := sqField h.src, qseq := h.qseq, phase := false,
    interim := interim, time := tb3Stamp s, detail := detail }

/-- The 32 bytes of a completion entry (table "fields of a completion entry"). -/
def cplBytes (e : Cpl) : List Byte :=
  leBytes 4 e.tag.toNat ++ leBytes 1 (statusCode e.status) ++ leBytes 1 e.opcode.toNat ++ leBytes 2 e.sq.toNat ++
    leBytes 2 e.qseq.toNat ++ leBytes 1 (b2n e.phase + 2 * b2n e.interim) ++ fill 1 0 ++ leBytes 12 e.time.toNat ++
    leBytes 8 e.detail.toNat

/-- The vendor ID of the mailbox's messages (R325). -/
def vendorId : Nat := 0x1F2B

/-- A mailbox response message: the vendor ID, MB_TYPE, three reserved bytes, the completion entry, and any records
(R346, R373). -/
def mailboxMessage (e : Cpl) (records : List Byte) : List Byte :=
  leBytes 2 vendorId ++ leBytes 1 (if records.isEmpty then 2 else 3) ++ fill 3 0 ++ cplBytes e ++ records

/-- QUIET suppresses a final OK or OK_RETRIED entry of a queue (header table of R333). -/
def quieted (h : Hdr) (st : Status) (interim : Bool) : Bool :=
  h.quiet && !interim && (st == .ok || st == .okRetried)

/-- The completion queue where a command's entries are discarded since a reset of its port (R328). -/
def discardedTo (h : Hdr) (s : State) : Option Nat :=
  (s.hq.inflight.find? fun f => f.hdr == h).bind (·.dropCq)

/-- An entry goes where its command came from: the completion queue, the mailbox or the gateway (R301,
R302, R328, R335, R346). `records` follow the entry in a mailbox response (R373). -/
def deliver (h : Hdr) (e : Cpl) (records : List Byte) (s : State) : State :=
  match h.src with
  | .sq q =>
    if quieted h e.status e.interim then s
    else match discardedTo h s with
      | some c => cqDrop c e (hqErr 3 s)
      | none => cqDeliver (sqCq s q) e s
  | .mbox t =>
    emit (.mailbox t e (mailboxMessage e records)) { s with hq := { s.hq with mboxResp := s.hq.mboxResp ++ [(t, !e.interim)], alert := true } }
  | .mesh _ gw id => meshRoute gw 4 kCompletion [id, statusCode e.status, e.detail.toNat] [] s
  | .fw => s

/-- A command is no longer in flight. -/
def unflight (h : Hdr) (s : State) : State :=
  { s with hq := { s.hq with inflight := dropFirst (fun f => f.hdr == h) s.hq.inflight } }

/-- A command completes with a final entry (R335). -/
def completeWith (op : Byte) (h : Hdr) (st : Status) (detail : W64) (records : List Byte) (s : State) : State :=
  unflight h (deliver h (mkCpl h op st false detail s) records s)

/-- A command completes with a final entry (R335). -/
def complete (op : Byte) (h : Hdr) (st : Status) (detail : W64) (s : State) : State :=
  completeWith op h st detail [] s

/-- A packet that was never taken into flight completes with a final entry (R333, R346). -/
def refuse (op : Byte) (h : Hdr) (st : Status) (detail : W64) (s : State) : State :=
  deliver h (mkCpl h op st false detail s) [] s

/-- A command that has been accepted and will not complete at once: QUEUED and INTERIM with ACK_EARLY
(R340). -/
def accepted (op : Byte) (h : Hdr) (s : State) : State :=
  if h.ackEarly then deliver h (mkCpl h op .queued true 0 s) [] s else s

/-- A command is recorded as fetched (R332); firmware's own commands come from no queue. -/
def toFlight (op : Byte) (h : Hdr) (s : State) : State :=
  if h.src == .fw || s.hq.inflight.any (fun f => f.hdr == h) then s
  else { s with hq := { s.hq with
    inflight := s.hq.inflight ++ [⟨s.hq.nextId, h, op, none⟩], nextId := s.hq.nextId + 1 } }

/-- A command is in flight. -/
def isFlight (h : Hdr) (s : State) : Bool := s.hq.inflight.any (fun f => f.hdr == h)

/-- Commands of a submission queue fetched and not completed (R332). -/
def sqInflight (s : State) (q : Nat) : Nat := s.hq.inflight.countP fun f => f.hdr.src == .sq q

/-- Commands of every submission queue fetched and not completed (R332, R354). -/
def allInflight (s : State) : Nat :=
  s.hq.inflight.countP fun f => match f.hdr.src with | .sq _ => true | _ => false

/-! ### Register access before READY (R394) -/

/-- The device is READY. -/
def isReady (s : State) : Bool := s.rm.stage == .ready

/-- The ring of a queue's enables is held until READY (R394). -/
def heldEarly (s : State) : Bool := !isReady s && s.rm.stage != .recovery

/-- In RECOVERY only queues 0 of port HA are served (R394, R399). -/
def recoveryQueue (p : Port) (q : Nat) : Bool := p == .ha && q == 0

/-- A write that only the owner of a queue in service may make; another port's is ignored with CONFIG
(R331). -/
def ownerOnly (inService : Bool) (owner p : Port) (f : State → State) (s : State) : State :=
  if inService && owner != p then hqErr 2 s else f s

/-! ### Submission queues (R330 to R332) -/

/-- A gateway entry is VALID for an ID (R301, R331). -/
def gwEntry (s : State) (id : Nat) : Option Nat :=
  firstBelow 64 fun i =>
    let g := spGet ({} : Gateway) s.trz.gws i
    bitOf g.id 31 && fld g.id 13 0 == id

/-- The configuration lets a queue be enabled through a port (R331). -/
def sqValid (s : State) (p : Port) (q : Nat) : Bool :=
  let x := sqOf s q
  let c := cqOf s (fld x.cfg 17 8)
  c.state == .active && c.owner == p && decide (10 ≤ fld x.cfg 4 0 ∧ fld x.cfg 4 0 ≤ 18) &&
    (!bitOf x.target 31 || (gwEntry s (fld x.target 13 0)).isSome)

/-- EN set on a DISABLED queue (R330, R331): numbering and the ring start at 0. -/
def sqEnableNow (p : Port) (q : Nat) (s : State) : State :=
  if (sqOf s q).state != .disabled then s
  else if !sqValid s p q then hqErr 2 s
  else modSq q (fun x => { x with state := .active, owner := p, head := 0, tail := 0, expect := 0, turn := 0 }) s

/-- EN set on a submission queue, as its owner's write (R331). -/
def sqEnableOwn (p : Port) (q : Nat) (s : State) : State :=
  ownerOnly ((sqOf s q).state == .active || (sqOf s q).state == .draining) (sqOf s q).owner p (sqEnableNow p q) s

/-- EN set: held before READY; in RECOVERY only queue 0 of HA (R394). -/
def sqEnable (p : Port) (q : Nat) (s : State) : State :=
  if heldEarly s then { s with hq := { s.hq with early := s.hq.early ++ [.sqEn p q] } }
  else if s.rm.stage == .recovery && !recoveryQueue p q then hqErr 2 s
  else sqEnableOwn p q s

/-- EN cleared: DRAINING (R330). -/
def sqDisable (p : Port) (q : Nat) (s : State) : State :=
  ownerOnly ((sqOf s q).state == .active || (sqOf s q).state == .draining) (sqOf s q).owner p
    (fun s => if (sqOf s q).state == .active then modSq q (fun x => { x with state := .draining }) s else s) s

/-- The last command in flight of a DRAINING queue has completed (R330). -/
def sqDrained (q : Nat) (s : State) : State :=
  if (sqOf s q).state == .draining && sqInflight s q == 0 then
    modSq q (fun x => { x with state := .disabled }) s
  else s

/-- RESET: DISABLED (R330). -/
def sqReset (p : Port) (q : Nat) (s : State) : State :=
  ownerOnly ((sqOf s q).state == .active || (sqOf s q).state == .draining) (sqOf s q).owner p
    (modSq q (fun x => { x with state := .disabled })) s

/-- ADOPT of an ORPHANED queue by the other port, after its completion queue: the new ring starts empty at
dword 0 and numbering continues from LAST_SEQ + 1 (R329). The write is a register write of the queue, which only
the owner of an ACTIVE or DRAINING one may make (R331). -/
def sqAdopt (p : Port) (q : Nat) (s : State) : State :=
  let x := sqOf s q
  let c := cqOf s (fld x.cfg 17 8)
  ownerOnly (x.state == .active || x.state == .draining) x.owner p (fun s =>
    if x.state == .orphaned && x.owner != p && c.state == .active && c.owner == p then
      modSq q (fun x => { x with state := .active, owner := p, head := 0, tail := 0, turn := 0,
                                 expect := (x.lastSeq + 1).toNat }) s
    else s) s

/-- The distance from the head forward to an index, modulo the ring size (R332). -/
def sqDist (x : Sq) (i : Nat) : Nat := (i + sqSize x - x.head % sqSize x) % sqSize x

/-- A tail doorbell that is checked and taken (R332). -/
def sqDoorbellNow (p : Port) (q v : Nat) (s : State) : State :=
  let x := sqOf s q
  if sqSize x ≤ v ∨ x.state ≠ .active ∨ x.owner ≠ p then hqErr 1 s
  else modSq q (fun x => { x with tail := v }) s

/-- A tail doorbell: held before READY (R332, R394). -/
def sqDoorbell (p : Port) (q v : Nat) (s : State) : State :=
  if heldEarly s then { s with hq := { s.hq with early := s.hq.early ++ [.sqDb p q v] } }
  else sqDoorbellNow p q v s

/-! ### Completion queues (R330, R335) -/

/-- SIZE of a completion queue lies from 4 to 16 (R330). -/
def cqValid (c : Cq) : Bool := decide (4 ≤ fld c.cfg 4 0 ∧ fld c.cfg 4 0 ≤ 16)

/-- EN set on a DISABLED completion queue: the ring starts at entry 0 with PHASE 1 (R330, R335). -/
def cqEnableNow (p : Port) (q : Nat) (s : State) : State :=
  if (cqOf s q).state != .disabled then s
  else if !cqValid (cqOf s q) then hqErr 2 s
  else modCq q (fun c => { c with state := .active, owner := p, head := 0, tail := 0, phase := true,
                                  unsignalled := 0, owed := false }) s

/-- EN set on a completion queue, as its owner's write (R331). -/
def cqEnableOwn (p : Port) (q : Nat) (s : State) : State :=
  ownerOnly ((cqOf s q).state == .active) (cqOf s q).owner p (cqEnableNow p q) s

/-- EN set: held before READY; in RECOVERY only queue 0 of HA (R394). -/
def cqEnable (p : Port) (q : Nat) (s : State) : State :=
  if heldEarly s then { s with hq := { s.hq with early := s.hq.early ++ [.cqEn p q] } }
  else if s.rm.stage == .recovery && !recoveryQueue p q then hqErr 2 s
  else cqEnableOwn p q s

/-- EN cleared or RESET: DISABLED (R330). -/
def cqDisable (p : Port) (q : Nat) (s : State) : State :=
  ownerOnly ((cqOf s q).state == .active) (cqOf s q).owner p
    (fun s => if (cqOf s q).state == .active then modCq q (fun c => { c with state := .disabled }) s else s) s

/-- RESET: DISABLED from any state (R330). -/
def cqReset (p : Port) (q : Nat) (s : State) : State :=
  ownerOnly ((cqOf s q).state == .active) (cqOf s q).owner p
    (modCq q (fun c => { c with state := .disabled, held := [] })) s

/-- ADOPT of an ORPHANED completion queue: the held completions are written first (R329). Of an ACTIVE queue only the
owner's write is taken (R331). -/
def cqAdopt (p : Port) (q : Nat) (s : State) : State :=
  let c := cqOf s q
  ownerOnly (c.state == .active) c.owner p (fun s =>
    if c.state == .orphaned && c.owner != p then
      cqRelease q (modCq q (fun c => { c with state := .active, owner := p, head := 0, tail := 0, phase := true,
                                              unsignalled := 0, owed := false }) s)
    else s) s

/-- A head doorbell that is checked and taken (R335). -/
def cqDoorbellNow (p : Port) (q v : Nat) (s : State) : State :=
  let c := cqOf s q
  let n := cqSize c
  if n ≤ v ∨ c.state ≠ .active ∨ c.owner ≠ p ∨ (c.tail + n - c.head) % n < (v + n - c.head) % n then hqErr 1 s
  else modCq q (fun c => { c with head := v }) s

/-- A head doorbell: held before READY (R335, R394). -/
def cqDoorbell (p : Port) (q v : Nat) (s : State) : State :=
  if heldEarly s then { s with hq := { s.hq with early := s.hq.early ++ [.cqDb p q v] } }
  else cqDoorbellNow p q v s

/-- The oldest unsignalled entry has reached TIME (R336); in D3hot the message is owed (R338). -/
def cqTimer (q : Nat) (s : State) : State :=
  let c := cqOf s q
  if c.state != .active then s
  else if portHolds (portOf s c.owner) then
    if c.unsignalled + c.held.length = 0 then s
    else pmeOwed c.owner (modCq q (fun c => { c with owed := true }) s)
  else if c.unsignalled = 0 then s
  else cqSend q s

/-- Writes held from before READY are applied in order (R331, R394). -/
def applyEarly : List Early → State → State
  | [], s => s
  | .sqEn p q :: r, s => applyEarly r (sqEnableOwn p q s)
  | .cqEn p q :: r, s => applyEarly r (cqEnableOwn p q s)
  | .sqDb p q v :: r, s => applyEarly r (sqDoorbellNow p q v s)
  | .cqDb p q v :: r, s => applyEarly r (cqDoorbellNow p q v s)

/-! ### Ports: resets, links, power states (R328, R329, R338) -/

/-- Every submission queue a port owns, changed. -/
def mapSqs (p : Port) (f : Sq → Sq) (s : State) : State :=
  let m := spUpdate {} s.hq.sqs (fun x => x.owner == p && x.state != .disabled) f
  { s with hq := { s.hq with sqs := m } }

/-- Every completion queue a port owns, changed. -/
def mapCqs (p : Port) (f : Cq → Cq) (s : State) : State :=
  let m := spUpdate {} s.hq.cqs (fun x => x.owner == p && x.state != .disabled) f
  { s with hq := { s.hq with cqs := m } }

/-- The completion queues a port owns that are ACTIVE. -/
def ownedCqs (s : State) (p : Port) : List Nat :=
  (s.hq.cqs.filter fun c => c.2.owner == p && c.2.state == .active).map (·.1)

/-- A step for every number of a list. -/
def eachNat (f : Nat → State → State) : List Nat → State → State
  | [], s => s
  | n :: r, s => eachNat f r (f n s)

/-- The commands in flight of the submission queues a port owns, whose entries are discarded from now on (R328). -/
def discardFlight (p : Port) (s : State) : State :=
  let mark (f : InFlight) : InFlight :=
    match f.hdr.src with
    | .sq q => if (sqOf s q).owner == p && f.dropCq.isNone then { f with dropCq := some (sqCq s q) } else f
    | _ => f
  { s with hq := { s.hq with inflight := s.hq.inflight.map mark } }

/-- Every queue of a port is disabled; entries held for it, and those its commands in flight will still produce, are
discarded and counted (R328). -/
def disableQueues (p : Port) (s : State) : State :=
  mapCqs p (fun c => { c with state := .disabled, drop := satAdd 32 c.drop c.held.length, held := [] })
    (mapSqs p (fun x => { x with state := .disabled }) (discardFlight p s))

/-- A port's configuration state after its reset or link loss (R328, R329). -/
def portConfigLost (h : HostPort) : HostPort :=
  { h with busMaster := false, d3hot := false, l1 := false, pmeEn := false, pmeSent := false, failover := false }

/-- A conventional reset of a port (R328). -/
def perst (p : Port) (s : State) : State :=
  modPort p (fun h => { portConfigLost h with linkUp := false, speed := 0, width := 0 }) (disableQueues p s)

/-- A function-level reset of a port: its queues, BAR4 base, idle hints and MSI-X structures (R328, R354). -/
def flr (p : Port) (s : State) : State :=
  modPort p (fun h => { portConfigLost h with bar4 := 0, vecIdle := [], msix := [], pba := [] }) (disableQueues p s)

/-- DL_Down or hot reset of a port: with HB_MODE = 1 the failover timer starts, otherwise the port's queues
are disabled (R329, R353). -/
def linkDown (p : Port) (s : State) : State :=
  let f (h : HostPort) : HostPort := { portConfigLost h with linkUp := false, speed := 0, width := 0 }
  if s.hq.hbMode then modPort p (fun h => { f h with failover := true }) s
  else modPort p f (disableQueues p s)

/-- The Barker messages a port now can take are sent (R366). -/
def brkRelease (p : Port) (s : State) : State :=
  eachNat brkSend ((s.brk.sources.filter fun c => c.2.held && hostPortOf c.2.host == some p).map (·.1)) s

/-- A port's held entries are written, MISSED_ASLEEP set where `asleep`, and owed messages sent (R329, R338). -/
def portRelease (p : Port) (asleep : Bool) (s : State) : State :=
  let one (q : Nat) (s : State) : State :=
    let had := !(cqOf s q).held.isEmpty
    let s1 := cqRelease q (if asleep && had then modCq q (fun c => { c with missedAsleep := true }) s else s)
    if (cqOf s1 q).owed then (if (cqOf s1 q).unsignalled = 0 then modCq q (fun c => { c with owed := false }) s1
      else cqSend q s1) else s1
  brkRelease p (eachNat one (ownedCqs s p) s)

/-- The link of a port returns within the failover time: its queues resume (R329). -/
def linkReturn (p : Port) (s : State) : State :=
  if (portOf s p).failover then
    portRelease p false (modPort p (fun h => { h with linkUp := true, busMaster := true, failover := false }) s)
  else s

/-- The failover timer expires: every queue the port owns becomes ORPHANED (R329). -/
def failoverExpire (p : Port) (s : State) : State :=
  if (portOf s p).failover then
    log .hqFailover [portMaster p] (hqErr 5 (mapCqs p (fun c => { c with state := .orphaned })
      (mapSqs p (fun x => { x with state := .orphaned }) (modPort p (fun h => { h with failover := false }) s))))
  else s

/-- D3hot: no fetch and no entry written (R338). The link of a function in D3hot goes to L1, as PCIe has it (PRESUMED,
log entry 124). -/
def d3hot (p : Port) (pme : Bool) (s : State) : State :=
  if (portOf s p).linkUp then
    modPort p (fun h => { h with d3hot := true, l1 := true, pmeEn := pme, pmeSent := false }) s
  else s

/-- Return to D0 with Bus Master Enable set: held entries and owed messages go out (R338). -/
def d0Return (p : Port) (s : State) : State :=
  if (portOf s p).d3hot then
    portRelease p true (modPort p (fun h => { h with d3hot := false, l1 := false, busMaster := true, pmeSent := false }) s)
  else s

/-- The queues of a port that were ORPHANED and not adopted return to it (R330). -/
def takeBack (p : Port) (s : State) : State :=
  mapCqs p (fun c => if c.state == .orphaned then { c with state := .active } else c)
    (mapSqs p (fun x => if x.state == .orphaned then { x with state := .active } else x) s)

/-- A port's link comes up; port HB trains only with HB_MODE = 1 (R326, R330). -/
def linkUp (p : Port) (speed width : Nat) (s : State) : State :=
  if p == .hb && !s.hq.hbMode then s
  else portRelease p false (takeBack p (modPort p (fun h => { h with
    linkUp := true, busMaster := true, failover := false, speed := speed, width := width }) s))

end Sys2Proof.Machine
end

