-- ==== Sys2Proof/Machine/Ident.lean ====
section
/-! DEFINITION. What the device shows of itself outside its own registers: the PCIe configuration space of a host port
(R22, R325), the address on SMBus (R345) and the test access port (R22, R452). -/

namespace Sys2Proof.Machine

/-! ### PCIe (R325) -/

/-- Device ID. -/
def pciDevice : Nat := 0x9216
/-- Revision ID. -/
def pciRevision : Nat := 0xB0
/-- Class code: other display controller. -/
def pciClass : Nat := 0x038000

/-- A BAR: its number, size in bytes and whether it is prefetchable; all are 64-bit memory. -/
structure PciBar where
  bar : Nat
  size : Nat
  prefetch : Bool
deriving DecidableEq, Repr

/-- The BARs of a function. -/
def pciBars : List PciBar := [⟨0, 0x2000000, false⟩, ⟨2, 0x10000000, true⟩, ⟨4, 0x1000000000, true⟩]

/-- The low bits of a BAR: 64-bit memory, prefetchable or not. -/
def pciBarType (b : PciBar) : W32 := put 2 1 ||| putB b.prefetch 3

/-- Extended capabilities of a function. -/
inductive PciExt
  | aer | serialNumber | l1PmSubstates | secondaryPcie | phy16 | phy32 | laneMargining
deriving DecidableEq, Repr

/-- The extended capabilities present. -/
def pciExtended : List PciExt :=
  [.aer, .serialNumber, .l1PmSubstates, .secondaryPcie, .phy16, .phy32, .laneMargining]

/-- The Device Serial Number: the low 64 bits of the device identity. -/
def pciSerial (s : State) : W64 := s.mram.unitId.setWidth 64

/-- Max payload sizes, the largest read request, outstanding non-posted requests and MSI-X vectors. -/
structure PciLimits where
  payloadMin : Nat
  payloadMax : Nat
  readMax : Nat
  tags : Nat
  vectors : Nat
deriving DecidableEq, Repr

/-- The limits of a function. -/
def pciLimits : PciLimits := ⟨128, 512, 4096, 768, 2048⟩

/-- A port presents a function: HB only with HB_MODE = 1 (R326). -/
def pciPresent (s : State) (p : Port) : Bool := p == .ha || s.hq.hbMode

/-- The dwords of the configuration header that R325 fixes: identity, class, subsystem, and the types of the BARs. -/
def pciHeader (s : State) (p : Port) (dword : Nat) : W32 :=
  if !pciPresent s p then 0xFFFFFFFF
  else match dword with
    | 0 => put vendorId 0 ||| put pciDevice 16
    | 2 => put pciRevision 0 ||| put pciClass 8
    | 11 => s.hq.subsystem
    | n => match pciBars.find? fun b => 4 + b.bar == n with | some b => pciBarType b | none => 0

/-! ### SMBus (R345, R446) -/

/-- The device's 7-bit address on SMBus. -/
def smbusAddress (s : State) : Nat := 0x40 + s.rm.smbAddr % 8

/-! ### The test access port (R22, R452) -/

/-- The JTAG IDCODE: version 0xB, part 0x9216, manufacturer 0x53D, and 1. -/
def jtagIdcode : W32 := put 1 0 ||| put 0x53D 1 ||| put 0x9216 12 ||| put 0xB 28

/-- What the data register of the TAP's instruction captures, least significant bit first: the IDCODE, or BYPASS's one
bit 0. The boundary cells of EXTEST and SAMPLE/PRELOAD hold the levels of the pads, which are no state of the device. -/
def tapCapture (s : State) : List Bool :=
  match s.rm.tap with
  | .idcode => (List.range 32).map (bitOf jtagIdcode)
  | .bypass => [false]
  | .extest => []
  | .samplePreload => []

end Sys2Proof.Machine
end

