-- ==== Sys2Proof/Machine/Barker.lean ====
section
/-! DEFINITION. The Barker: claims, completions, routes, moderation (R355 to R366). -/

namespace Sys2Proof.Machine

/-- A source number names a source: slots 9 to 15 and 28 to 31 hold none (R355). -/
def srcExists (n : Nat) : Bool :=
  decide (n < 1024) && !(decide (9 ≤ n / 32) && decide (n / 32 < 16)) && decide (n / 32 < 28)

/-- A core's side of the Barker. -/
def coreOf (s : State) (n : Nat) : Core := spGet {} s.brk.cores n

/-- A core's side changed. -/
def modCore (n : Nat) (f : Core → Core) (s : State) : State :=
  { s with brk := { s.brk with cores := spMod {} s.brk.cores n f } }

/-- BRK_ERR bit `i` set (R374). -/
def brkErr (i : Nat) (s : State) : State := { s with brk := { s.brk with err := setBit s.brk.err i } }

/-- The group of a priority under PRIGROUP (R358). -/
def groupOf (s : State) (prio : Nat) : Nat := prio >>> fld s.brk.ctrl 2 0

/-- A source is routed to a core. -/
def routedTo (n : Nat) (x : Source) : Bool := x.coreEn && x.core == n

/-- The better ranked of two sources: lower group, lower sub-priority, lower number (R358). -/
def better (a b : Nat × Source) : Bool := decide (a.2.prio < b.2.prio) || (a.2.prio == b.2.prio && decide (a.1 < b.1))

/-- The best-ranked of some sources. -/
def bestOf : List (Nat × Source) → Option (Nat × Source)
  | [] => none
  | c :: r => match bestOf r with
    | none => some c
    | some d => if better c d then some c else some d

/-- The PENDING sources of a core. -/
def pendingOf (s : State) (n : Nat) : List (Nat × Source) :=
  s.brk.sources.filter fun c => c.2.state == .pending && routedTo n c.2

/-- A group pre-empts the top of a core's stack (R359). -/
def preempts (s : State) (n g : Nat) : Bool :=
  match (coreOf s n).stack with
  | [] => true
  | t :: _ => decide (g < groupOf s (srcOf s t).prio)

/-- A core's moderation is on (R363). -/
def modOn (c : Core) : Bool := decide (fld c.modr 15 8 ≠ 0) && decide (fld c.modr 31 16 ≠ 0)

/-- A source is moderated on a core: its group is at or above GROUP (R363). -/
def moderated (s : State) (n : Nat) (x : Source) : Bool :=
  modOn (coreOf s n) && decide (fld (coreOf s n).modr 7 0 ≤ groupOf s x.prio)

/-- The moderated PENDING sources of a core. -/
def modPending (s : State) (n : Nat) : List (Nat × Source) := (pendingOf s n).filter fun c => moderated s n c.2

/-- Moderation holds a core's moderated sources: fewer than COUNT are PENDING, TIME has not run out and the
core does not wait (R363). -/
def modHolds (s : State) (n : Nat) : Bool :=
  let c := coreOf s n
  decide ((modPending s n).length < fld c.modr 15 8) && !c.released && !c.wait

/-- The core's interrupt is asserted (R359). -/
def coreIrq (s : State) (n : Nat) : Bool :=
  bitOf s.brk.ctrl 8 &&
  match bestOf (pendingOf s n) with
  | none => false
  | some c => preempts s n (groupOf s c.2.prio) && !(moderated s n c.2 && modHolds s n)

/-- TIME restarts when no moderated source is left PENDING (R363). -/
def modSettle (n : Nat) (s : State) : State :=
  if (modPending s n).isEmpty && (coreOf s n).released then modCore n (fun c => { c with released := false }) s else s

/-- The core that takes TRZ_MSG takes the messages of the receive ring with it (R315; DESIGN CHOICE, log entry 80: the manual
does not say what empties the ring). -/
def ringEmptied (src : Nat) (s : State) : State := if src = 672 then { s with trz := { s.trz with ring := [] } } else s

/-- A claim by a core (R360). -/
def brkClaim (n : Nat) (s : State) : State :=
  match bestOf (pendingOf s n) with
  | none => emit (.readReg 0) s
  | some (k, x) =>
    if !preempts s n (groupOf s x.prio) then emit (.readReg 0) s
    else if 8 ≤ (coreOf s n).stack.length then emit (.readReg 0) (brkErr 1 s)
    else emit (.readReg (put k 0 ||| put 1 31)) (modSettle n (ringEmptied k
      (modCore n (fun c => { c with stack := k :: c.stack }) (modSrc k (fun x => { x with state := .active }) s))))

/-- What completion does to a source (R361). -/
def srcDone (level : Bool) (x : Source) : Source :=
  if !x.en then { x with state := .idle }
  else if x.state == .activePending then { x with state := .pending }
  else if level && x.filtered then { x with state := .pending }
  else { x with state := .idle }

/-- A completion by a core (R361). -/
def brkComplete (n k : Nat) (s : State) : State :=
  match (coreOf s n).stack with
  | t :: rest =>
    if t = k then modSrc k (srcDone (srcIsLevel k)) (modCore n (fun c => { c with stack := rest }) s)
    else brkErr 0 s
  | [] => brkErr 0 s

/-- A filtered change of a source's input (R356). -/
def brkInput (n : Nat) (v : Bool) (s : State) : State :=
  if srcIsLevel n then brkLevel n v s
  else
    let was := (srcOf s n).filtered
    let s1 := modSrc n (fun x => { x with filtered := v, raw := v }) s
    if v && !was then brkEvent n s1 else s1

/-- A source's asserted level presents and delivers itself after EN or the route changed (R358, R365). -/
def brkRearm (n : Nat) (s : State) : State :=
  if srcIsLevel n && (srcOf s n).filtered then brkToHost n (modSrc n (fun x => srcFire x true) s) else s

/-- EN, FILT and PRIO of a source written (R374); EN cleared while PENDING returns it to IDLE (R358). -/
def srcCtrlWrite (n : Nat) (v : W32) (s : State) : State :=
  brkRearm n (modSrc n (fun x => { x with
    en := bitOf v 0, filt := fld v 15 8, prio := fld v 23 16,
    state := if !bitOf v 0 && x.state == .pending then .idle else x.state }) s)

/-- A route written; HOST = 3 is ignored with ROUTE_INVALID, and UNIT_REQ keeps its route (R355, R365). -/
def srcRouteWrite (n : Nat) (v : W32) (s : State) : State :=
  if fld v 17 16 = 3 then brkErr 2 s
  else if n % 32 = 31 then s
  else brkRearm n (modSrc n (fun x => { x with
    core := fld v 1 0, coreEn := bitOf v 2, vector := fld v 14 4, host := fld v 17 16 }) s)

/-- The host clears a host pending bit; a level still asserted sets it again and sends again (R365). -/
def hostPendClear (n : Nat) (s : State) : State :=
  let s1 := modSrc n (fun x => { x with hostPend := false }) s
  if srcIsLevel n && (srcOf s n).filtered then brkToHost n s1 else s1

/-- TIME has run out for the oldest moderated source of a core (R363). -/
def modTimer (n : Nat) (s : State) : State :=
  if (modPending s n).isEmpty then s else modCore n (fun c => { c with released := true }) s

/-- A core is reset: its stack empties and no event is lost (R364). -/
def coreReset (n : Nat) (s : State) : State :=
  let f (k : Nat) (x : Source) : Source :=
    if !routedTo n x then x
    else if srcIsLevel k then { x with state := if x.en && x.filtered then .pending else .idle }
    else if x.state == .active || x.state == .activePending then
      { x with state := if x.en then .pending else .idle }
    else x
  let m := s.brk.sources.foldl (fun acc c => spSet srcDflt acc c.1 (f c.1 c.2)) s.brk.sources
  modCore n (fun c => { c with stack := [], released := false }) { s with brk := { s.brk with sources := m } }

/-- BRK_SRC_STATUS of a source; PEND stays while it is not IDLE (R362, R374). -/
def srcStatus (x : Source) : W32 :=
  let st := match x.state with | .idle => 0 | .pending => 1 | .active => 2 | .activePending => 3
  put st 0 ||| putB (x.state != .idle) 2

end Sys2Proof.Machine
end

