-- ==== Sys2Proof/Machine/Package.lean ====
section
/-! DEFINITION. Morlum scene packages and frames: layouts and the three steps of checks (R51 to R67, R118,
R119). A reader gives the bytes at an offset of the structure it stands for. -/

namespace Sys2Proof.Machine

/-- The bytes at an offset, and how many. -/
abbrev Reader := Nat → Nat → List Byte

/-- A failed check: the status and the detail word of R66. -/
abbrev Failure := Status × W64

/-- The detail word of a failed check (R66). -/
def failDetail (frame item struct check : Nat) : W64 :=
  put (frame % 2 ^ 24) 0 ||| put item 24 ||| put struct 32 ||| put check 40

/-- A check: `bad` fails it. -/
def chk (bad : Bool) (st : Status) (frame item struct check : Nat) : Option Failure :=
  if bad then some (st, failDetail frame item struct check) else none

/-- A failed bounds check. -/
def bnd (bad : Bool) (frame item struct check : Nat) : Option Failure := chk bad .lengthRange frame item struct check

/-- A failed CRC or contents check. -/
def cnt (bad : Bool) (frame item struct check : Nat) : Option Failure := chk bad .integrity frame item struct check

/-- The first failure of a list of checks, in order (R66). -/
def firstFail (l : List (Option Failure)) : Option Failure := l.findSome? id

/-- A number of `k` bytes is all ones (R333). -/
def ones (k v : Nat) : Bool := v == 256 ^ k - 1

/-- Rounded up to a multiple of 64. -/
def up64 (n : Nat) : Nat := (n + 63) / 64 * 64

/-- The last four bytes of a structure hold the CRC-32C of those before. -/
def crcTail (bs : List Byte) : Bool :=
  leAt bs (bs.length - 4) 4 == (crc32c (bs.take (bs.length - 4))).toNat

/-! ### Headers -/

/-- The header read from its 256 bytes (R52). -/
def parseHdr (b : List Byte) : PkgHdr where
  hx := leAt b 8 2
  hy := leAt b 10 2
  mode := leAt b 12 1
  anyTile := leAt b 14 2 % 2 == 1
  tileId := leAt b 16 2 % 16384
  maxPlanes := leAt b 18 1
  frames := leAt b 20 4
  rateNum := leAt b 24 4
  rateDen := leAt b 28 4
  length := leAt b 32 8
  indexOffset := leAt b 40 8
  ovlOffset := leAt b 48 8
  ovlLength := leAt b 56 8

/-- The whole package is named by frame number 0xFF_FFFF and item 0xFF (R66). -/
def noFrame : Nat := 0xFFFFFF

/-- MAGIC, VERSION_MAJOR and HDR_SIZE, before anything else (R66). -/
def hdrPre (b : List Byte) : Option Failure := firstFail [
  cnt (b.take 4 != ascii "MLPK") noFrame 0xFF 0 0,
  chk (leAt b 5 1 != 1) .unsupported noFrame 0xFF 0 1,
  cnt (leAt b 6 2 != 256) noFrame 0xFF 0 2]

/-- Two byte ranges overlap. -/
def overlaps (a la b lb : Nat) : Bool := decide (0 < la ∧ 0 < lb ∧ a < b + lb ∧ b < a + la)

/-- The bounds step of the header, the frame index and the overlay area against the opened length (R51, R66). The table
of STRUCT codes names none for the overlay area itself: its failures carry the header's, 0 (DESIGN CHOICE, log entry
125). -/
def hdrBounds (h : PkgHdr) (opened : Nat) : Option Failure :=
  let idx := 32 * h.frames
  firstFail [
    bnd (ones 8 h.length || decide (opened < 256)) noFrame 0xFF 0 3,
    bnd (h.length != opened) noFrame 0xFF 0 14,
    bnd (ones 4 h.frames || ones 8 h.indexOffset || decide (opened < h.indexOffset + idx)) noFrame 0xFF 1 3,
    bnd (h.indexOffset % 64 != 0) noFrame 0xFF 1 4,
    bnd (overlaps h.indexOffset idx 0 256) noFrame 0xFF 1 5,
    bnd (ones 8 h.ovlOffset || ones 8 h.ovlLength || decide (opened < h.ovlOffset + h.ovlLength)) noFrame 0xFF 0 3,
    bnd (h.ovlOffset % 64 != 0 || h.ovlLength % 64 != 0) noFrame 0xFF 0 4,
    bnd (overlaps h.ovlOffset h.ovlLength 0 256 || overlaps h.ovlOffset h.ovlLength h.indexOffset idx)
      noFrame 0xFF 0 5]

/-- The contents step of the header (R52, R66). -/
def hdrContents (b : List Byte) : Option Failure :=
  let h := parseHdr b
  firstFail [
    cnt (!zeroBytes b 13 14 || leAt b 14 2 / 2 != 0 || leAt b 16 2 / 16384 != 0 || !zeroBytes b 19 20 ||
      !zeroBytes b 80 252) noFrame 0xFF 0 7,
    cnt (decide (h.hx < 1 ∨ 4096 < h.hx ∨ h.hy < 1 ∨ 2160 < h.hy ∨ 4 < h.mode ∨ 64 < h.maxPlanes ∨
      16777215 < h.frames ∨ h.rateNum < 1 ∨ 480000 < h.rateNum ∨ h.rateDen < 1 ∨ 1001 < h.rateDen) ||
      (h.ovlLength == 0 && h.ovlOffset != 0)) noFrame 0xFF 0 8]

/-! ### Frame index entries, planes, overlay references -/

/-- A frame index entry (R54). -/
structure Entry where
  offset : Nat
  length : Nat
  planes : Nat
  overlays : Nat
  dataCrc : Nat
deriving DecidableEq, Repr

/-- A frame index entry read from its 32 bytes (R54). -/
def parseEntry (b : List Byte) : Entry := ⟨leAt b 0 8, leAt b 8 4, leAt b 12 1, leAt b 13 1, leAt b 16 4⟩

/-- A plane descriptor read from its 64 bytes (R55). -/
def parseDesc (b : List Byte) : PlaneDesc where
  format := leAt b 0 1
  halo := leAt b 1 1
  disparity := sext 16 (leAt b 2 2)
  width := leAt b 4 2
  height := leAt b 6 2
  ovlFlags := leAt b 8 1
  tileCount := leAt b 10 2
  ttOffset := leAt b 12 4

/-- An overlay reference (R64). -/
structure OvlRef where
  slot : Nat
  enable : Bool
  registered : Bool
  disparity : Int
  posX : Int
  posY : Int
  surface : Nat
deriving DecidableEq, Repr

/-- An overlay reference read from its 32 bytes (R64). -/
def parseOvl (b : List Byte) : OvlRef :=
  ⟨leAt b 0 1, leAt b 1 1 % 2 == 1, leAt b 1 1 / 2 % 2 == 1, sext 16 (leAt b 2 2), sext 16 (leAt b 4 2),
    sext 16 (leAt b 6 2), leAt b 8 4⟩

/-- Bit `i` of a number. -/
def nbit (n i : Nat) : Nat := n / 2 ^ i % 2

/-- Tile columns of a plane (before R59). -/
def tileCols (d : PlaneDesc) : Nat := (d.width + 63) / 64 + nbit d.halo 0 + nbit d.halo 1

/-- Tile rows of a plane. -/
def tileRows (d : PlaneDesc) : Nat := (d.height + 63) / 64 + nbit d.halo 2 + nbit d.halo 3

/-- Offset of the entries in a tile table: the bitmap is 16 bytes for each tile row (R59). -/
def ttEntries (d : PlaneDesc) : Nat := 16 * tileRows d

/-- Bytes of a tile table before its padding (R59). -/
def ttBytes (d : PlaneDesc) : Nat := ttEntries d + 8 * d.tileCount + 4

/-- Bit (t, r) of an occupancy bitmap (R59). -/
def ttBit (tt : List Byte) (t r : Nat) : Bool := (byteAt tt (16 * r + t / 8)).getLsbD (t % 8)

/-- The set bits of a bitmap before tile (t, r), in row-major order. -/
def ttBefore (tt : List Byte) (cols t r : Nat) : Nat :=
  countBelow (r * cols + t) fun k => ttBit tt (k % cols) (k / cols)

/-- Bits of a bitmap, all of its rows and columns. -/
def ttCount (d : PlaneDesc) (tt : List Byte) : Nat :=
  countBelow (128 * tileRows d) fun k => ttBit tt (k % 128) (k / 128)

/-- A tile entry (R60). -/
structure TileEntry where
  offset : Nat
  length : Nat
  coder : Nat
  rsvd : Nat
deriving DecidableEq, Repr

/-- A tile entry read from its word (R60). -/
def parseTile (w : Nat) : TileEntry := ⟨w % 2 ^ 32, w / 2 ^ 32 % 512, w / 2 ^ 41 % 8, w / 2 ^ 44⟩

/-- The coded length a coder admits (R60). -/
def coderLenOk (coder len : Nat) : Bool :=
  match coder with
  | 0 => len == 256
  | 1 => decide (1 ≤ len ∧ len ≤ 257)
  | 2 => len == 128
  | 3 => len == 86
  | 4 => len == 64
  | _ => false

/-- The tile at (t, r) lies inside its frame data block of `len` bytes. -/
def tileInside (e : TileEntry) (len : Nat) : Bool :=
  !ones 4 e.offset && e.length != 511 && decide (64 * (e.offset + e.length) ≤ len)

/-- What a frame's checks run against: its block, its entry, the room behind it, the grid of R57, the overlay
area, and how a surface handle resolves (address and size of a registered surface). -/
structure FrameCtx where
  entry : List Byte
  block : Reader
  number : Nat
  room : Nat
  streamed : Bool
  hx : Nat
  hy : Nat
  maxPlanes : Nat
  ovl : Reader
  ovlLength : Nat
  handle : Nat → Option (Nat × Nat)
  dram : Reader
  /-- The checks are a pre-flight's, the one point of R67 that checks the header of a registered surface (R119). -/
  preflight : Bool

/-- The plane descriptors of a frame, in order. -/
def FrameCtx.planes (c : FrameCtx) : List (Nat × PlaneDesc) :=
  (List.range (parseEntry c.entry).planes).map fun i => (i, parseDesc (c.block (64 * i) 64))

/-- The overlay references of a frame, in order. -/
def FrameCtx.refs (c : FrameCtx) : List (Nat × OvlRef) :=
  let e := parseEntry c.entry
  (List.range e.overlays).map fun i => (i, parseOvl (c.block (64 * e.planes + 32 * i) 32))

/-- A plane's tile table. -/
def FrameCtx.tt (c : FrameCtx) (d : PlaneDesc) : List Byte := c.block (64 * d.ttOffset) (ttBytes d)

/-- A plane's tile entries, in order. -/
def FrameCtx.tiles (c : FrameCtx) (d : PlaneDesc) : List TileEntry :=
  let tt := c.tt d
  (List.range d.tileCount).map fun k => parseTile (leAt tt (ttEntries d + 8 * k) 8)

/-! ### Overlay surface headers (R118, R119) -/

/-- A surface header read from its 64 bytes at an address (R118). -/
def parseSurf (addr : Nat) (b : List Byte) : SurfHdr where
  addr := addr
  format := leAt b 0 1
  cset := leAt b 1 1
  srcW := leAt b 2 2
  srcH := leAt b 4 2
  dstW := leAt b 6 2
  dstH := leAt b 8 2
  gain := leAt b 10 2
  pitch := leAt b 12 4
  dataOffset := leAt b 16 4

/-- The bounds step of a surface header with `room` bytes from the header on (R119). -/
def surfBounds (frame item : Nat) (h : SurfHdr) (room : Nat) : Option Failure :=
  bnd (ones 2 h.srcW || ones 2 h.srcH || ones 4 h.pitch || ones 4 h.dataOffset ||
    decide (room < 64 * h.dataOffset + h.pitch * h.srcH)) frame item 7 3

/-- The CRC step of a surface header. -/
def surfCrc (frame item : Nat) (b : List Byte) : Option Failure := cnt (!crcTail b) frame item 7 6

/-- The contents step of a surface header: ranges of R118 and limits of R119. -/
def surfContents (frame item : Nat) (b : List Byte) : Option Failure :=
  let h := parseSurf 0 b
  firstFail [
    cnt (!zeroBytes b 20 60) frame item 7 7,
    cnt (decide (1 < h.format ∨ 1 < h.cset ∨ h.srcW < 1 ∨ 4096 < h.srcW ∨ h.srcH < 1 ∨ 2160 < h.srcH ∨
      h.dstW < 1 ∨ 16384 < h.dstW ∨ h.dstH < 1 ∨ 8640 < h.dstH ∨ h.pitch % 64 ≠ 0 ∨ h.pitch < 4 * h.srcW ∨
      h.dataOffset < 1)) frame item 7 8,
    cnt (decide (4 * h.srcW < h.dstW ∨ 2 * h.dstW < h.srcW ∨ 4 * h.srcH < h.dstH ∨ h.dstH < h.srcH)) frame item 7 9]

/-- Where a reference's surface header lies: its bytes and the room from it on; none for an unknown handle. -/
def FrameCtx.surf (c : FrameCtx) (r : OvlRef) : Option (List Byte × Nat) :=
  if r.registered then (c.handle r.surface).map fun a => (c.dram a.1 64, a.2)
  else some (c.ovl (64 * r.surface) 64, c.ovlLength - 64 * r.surface)

/-- The surface header that these checks cover: a package surface's always, a registered one's at pre-flight only
(R67, R119); a streamed frame has no package surface. -/
def FrameCtx.checkedSurf (c : FrameCtx) (r : OvlRef) : Option (List Byte × Nat) :=
  if if r.registered then !c.preflight else c.streamed then none else c.surf r

/-! ### The three steps of a frame (R66) -/

/-- The bounds step of a frame index entry (R54, R66, R73). -/
def entryBounds (c : FrameCtx) : Option Failure :=
  let e := parseEntry c.entry
  firstFail [
    bnd (ones 8 e.offset || ones 4 e.length || ones 1 e.planes || ones 1 e.overlays ||
      (c.streamed && e.offset != 32) || decide (c.room < e.offset + e.length ∨
        e.length < 64 * e.planes + 32 * e.overlays)) c.number 0xFF 1 3,
    bnd ((!c.streamed && e.offset % 64 != 0) || e.length % 64 != 0) c.number 0xFF 1 4]

/-- The bounds step of a plane: descriptor, tile table, tile entries (R55, R59, R60, R66). -/
def planeBounds (c : FrameCtx) (i : Nat) (d : PlaneDesc) : Option Failure :=
  let len := (parseEntry c.entry).length
  firstFail [
    bnd (ones 2 d.tileCount) c.number i 3 3,
    bnd (ones 4 d.ttOffset || decide (len < 64 * d.ttOffset + up64 (ttBytes d))) c.number i 4 3,
    bnd ((c.tiles d).any fun t => !tileInside t len) c.number i 5 3]

/-- The bounds step of an overlay reference and its surface header (R64, R66, R119). -/
def refBounds (c : FrameCtx) (i : Nat) (r : OvlRef) : Option Failure :=
  if !r.registered && c.streamed then none
  else firstFail [
    bnd (!r.registered && (ones 4 r.surface || decide (c.ovlLength < 64 * r.surface + 64))) c.number i 6 3,
    match c.checkedSurf r with
    | none => none
    | some (b, room) => surfBounds c.number i (parseSurf 0 b) room]

/-- The bounds step of a frame (R66). -/
def frameBounds (c : FrameCtx) : Option Failure :=
  (entryBounds c).or (((c.planes).findSome? fun p => planeBounds c p.1 p.2).or
    ((c.refs).findSome? fun r => refBounds c r.1 r.2))

/-- DATA_CRC does not check over a frame's block (R54). -/
def dataCrcBad (c : FrameCtx) : Bool :=
  let e := parseEntry c.entry
  (crc32c (c.block 0 e.length)).toNat != e.dataCrc

/-- The CRC step of a frame; `entry` tells whether ENTRY_CRC is checked, and `dataBad` whether DATA_CRC fails
(R66, R67). -/
def frameCrcs (c : FrameCtx) (entry dataBad : Bool) : Option Failure :=
  let e := parseEntry c.entry
  firstFail [
    cnt (entry && !crcTail c.entry) c.number 0xFF 1 6,
    cnt dataBad c.number 0xFF 2 6,
    (c.planes).findSome? fun p => firstFail [
      cnt (!crcTail (c.block (64 * p.1) 64)) c.number p.1 3 6,
      cnt (!crcTail (c.tt p.2)) c.number p.1 4 6],
    (c.refs).findSome? fun r => firstFail [
      cnt (!crcTail (c.block (64 * e.planes + 32 * r.1) 32)) c.number r.1 6 6,
      match c.checkedSurf r.2 with | none => none | some (b, _) => surfCrc c.number r.1 b]]

/-- The contents step of a plane (R55, R57, R59, R60). -/
def planeContents (c : FrameCtx) (i : Nat) (d : PlaneDesc) : Option Failure :=
  let b := c.block (64 * i) 64
  firstFail [
    cnt (leAt b 1 1 / 16 != 0 || !zeroBytes b 9 10 || !zeroBytes b 16 60) c.number i 3 7,
    cnt (decide (1 < d.format ∨ d.disparity < -1024 ∨ 1024 < d.disparity ∨ d.width < 1 ∨ 4096 < d.width ∨
      d.height < 1 ∨ 2160 < d.height ∨ 2376 < d.tileCount)) c.number i 3 8,
    cnt (decide (4 * d.width < c.hx ∨ 2 * c.hx < d.width ∨ 4 * d.height < c.hy ∨ c.hy < d.height)) c.number i 3 9,
    cnt (ttCount d (c.tt d) != d.tileCount || (List.range (tileRows d)).any fun r =>
      (List.range 128).any fun t => decide (tileCols d ≤ t) && ttBit (c.tt d) t r) c.number i 4 10,
    cnt ((c.tiles d).any fun t => t.rsvd != 0) c.number i 5 7,
    cnt ((c.tiles d).any fun t => !coderLenOk t.coder t.length) c.number i 5 8]

/-- The contents step of an overlay reference (R64, R65, R73). -/
def refContents (c : FrameCtx) (i : Nat) (r : OvlRef) : Option Failure :=
  let e := parseEntry c.entry
  let b := c.block (64 * e.planes + 32 * i) 32
  firstFail [
    cnt (leAt b 1 1 / 4 != 0 || !zeroBytes b 12 28) c.number i 6 7,
    cnt (decide (7 < r.slot ∨ r.disparity < -1024 ∨ 1024 < r.disparity)) c.number i 6 8,
    cnt ((c.refs).any fun q => decide (q.1 < i) && q.2.slot == r.slot) c.number i 6 11,
    cnt (!r.registered && c.streamed) c.number i 6 12,
    cnt (r.registered && (c.handle r.surface).isNone) c.number i 6 15,
    match c.checkedSurf r with | none => none | some (s, _) => surfContents c.number i s]

/-- The contents step of a frame: the ranges of R54, PLANES against MAX_PLANES, then planes and references (R66). -/
def frameContents (c : FrameCtx) : Option Failure :=
  let e := parseEntry c.entry
  firstFail [
    cnt (!zeroBytes c.entry 14 16 || !zeroBytes c.entry 20 28) c.number 0xFF 1 7,
    cnt (decide (1879048192 < e.length ∨ 8 < e.overlays)) c.number 0xFF 1 8,
    cnt (decide (c.maxPlanes < e.planes)) c.number 0xFF 1 13,
    (c.planes).findSome? fun p => planeContents c p.1 p.2,
    (c.refs).findSome? fun r => refContents c r.1 r.2]

/-- A failure at pre-flight refuses the frame with INTEGRITY, a bounds failure included (R67). -/
def asIntegrity (f : Option Failure) : Option Failure := f.map fun x => (.integrity, x.2)

/-! ### The whole package -/

/-- The frame index entry number `n` of a package. -/
def pkgEntry (rd : Reader) (h : PkgHdr) (n : Nat) : List Byte := rd (h.indexOffset + 32 * n) 32

/-- A frame's block overlaps the header, the frame index, the overlay area or another frame's block (R51). -/
def blockOverlap (rd : Reader) (h : PkgHdr) (n : Nat) : Bool :=
  let e := parseEntry (pkgEntry rd h n)
  overlaps e.offset e.length 0 256 || overlaps e.offset e.length h.indexOffset (32 * h.frames) ||
  overlaps e.offset e.length h.ovlOffset h.ovlLength ||
  (List.range h.frames).any fun m => m != n &&
    (let f := parseEntry (pkgEntry rd h m); overlaps e.offset e.length f.offset f.length)

/-- The context of a stored frame, at CLOSE or at its pre-flight. -/
def pkgCtx (preflight : Bool) (rd dram : Reader) (handle : Nat → Option (Nat × Nat)) (h : PkgHdr) (hx hy n : Nat) :
    FrameCtx where
  entry := pkgEntry rd h n
  block := fun o l => rd ((parseEntry (pkgEntry rd h n)).offset + o) l
  number := n
  room := h.length
  streamed := false
  hx := hx
  hy := hy
  maxPlanes := h.maxPlanes
  ovl := fun o l => rd (h.ovlOffset + o) l
  ovlLength := h.ovlLength
  handle := handle
  dram := dram
  preflight := preflight

/-- The bounds step of a stored frame, placement included (R51, R66). -/
def storedBounds (rd : Reader) (h : PkgHdr) (c : FrameCtx) : Option Failure :=
  (entryBounds c).or ((bnd (blockOverlap rd h c.number) c.number 0xFF 2 5).or (frameBounds c))

/-- The checks of CLOSE: the header checks, then each step over the header and every frame (R66, R67). R66 orders the
steps and not the structures within one: the model goes header, frame index and overlay area, then frame by frame the
entry, the planes and the overlay references (DESIGN CHOICE, log entry 126). -/
def pkgCheck (rd dram : Reader) (handle : Nat → Option (Nat × Nat)) (opened : Nat) : Option Failure :=
  let b := rd 0 256
  let h := parseHdr b
  let frames := (List.range h.frames).map fun n => pkgCtx false rd dram handle h h.hx h.hy n
  (hdrPre b).or <| (hdrBounds h opened).or <| (frames.findSome? (storedBounds rd h)).or <|
  (cnt (!crcTail b) noFrame 0xFF 0 6).or <| (frames.findSome? fun c => frameCrcs c true (dataCrcBad c)).or <|
  (hdrContents b).or (frames.findSome? frameContents)

end Sys2Proof.Machine
end

