-- ==== Sys2Proof/Machine/Coder.lean ====
section
/-! DEFINITION. The stream formats of the Contortionist: fixed-ratio blocks, lossless streams (R268 to R275). -/

namespace Sys2Proof.Machine

/-! ### Fixed ratio (R268 to R270) -/

/-- The shape of a fixed-ratio format: columns, rows, coded bytes, index bits of colour and alpha. -/
structure FixFmt where
  cols : Nat
  rows : Nat
  coded : Nat
  qColour : Nat
  qAlpha : Nat
deriving DecidableEq, Repr

/-- The tile formats of coders 2, 3 and 4 (R268). -/
def fixFmt : Nat → FixFmt
  | 2 => ⟨8, 8, 128, 4, 3⟩
  | 3 => ⟨16, 8, 172, 3, 1⟩
  | _ => ⟨8, 8, 64, 2, 1⟩

/-- The prior-state format: 8 entries of three levels (R268). -/
def fixPrior : FixFmt := ⟨8, 1, 6, 1, 1⟩

/-- Channel widths by element: RGBA8888, RGBA1010102, prior state (R268). -/
def chanBits : Nat → List Nat
  | 0 => [8, 8, 8, 8]
  | 1 => [10, 10, 10, 2]
  | _ => [4, 4, 4]

/-- Index bits of channel `c`. -/
def idxBits (f : FixFmt) (c : Nat) : Nat := if c = 3 then f.qAlpha else f.qColour

/-- `w` bits of a bit string from bit `o` (R268). -/
def bitsAt (n o w : Nat) : Nat := n / 2 ^ o % 2 ^ w

/-- The bit at which the lo of channel `c` stands: lo and hi of each channel before it. -/
def loPos (ws : List Nat) (c : Nat) : Nat := 2 * (ws.take c).sum

/-- The bit at which the index of sample `k`, channel `c`, stands. -/
def idxPos (f : FixFmt) (ws : List Nat) (k c : Nat) : Nat :=
  2 * ws.sum + k * ((List.range ws.length).map (idxBits f)).sum + ((List.range c).map (idxBits f)).sum

/-- A channel value reconstructed from lo, hi and an index (R269). -/
def fixValue (lo hi r q : Nat) : Nat :=
  if hi < lo then lo else lo + ((hi - lo) * r + (2 ^ q - 1) / 2) / (2 ^ q - 1)

/-- Channel `c` of sample `k` of a coded block (R269). -/
def fixDecode (f : FixFmt) (ws : List Nat) (block : Nat) (k c : Nat) : Nat :=
  let w := ws.getD c 0
  let lo := bitsAt block (loPos ws c) w
  let hi := bitsAt block (loPos ws c + w) w
  fixValue lo hi (bitsAt block (idxPos f ws k c) (idxBits f c)) (idxBits f c)

/-- The channels of a sample packed into its element, first channel lowest. -/
def packChans (ws vs : List Nat) : Nat :=
  (List.range ws.length).foldl (fun a c => a + vs.getD c 0 * 2 ^ (ws.take c).sum) 0

/-- The channels of an element. -/
def unpackChans (ws : List Nat) (v : Nat) : List Nat :=
  (List.range ws.length).map fun c => bitsAt v ((ws.take c).sum) (ws.getD c 0)

/-- The element of sample `k` of a coded block. -/
def fixElem (f : FixFmt) (ws : List Nat) (block k : Nat) : Nat :=
  packChans ws ((List.range ws.length).map fun c => fixDecode f ws block k c)

/-- The index the encoder gives a value (R270). -/
def fixIndex (lo hi v q : Nat) : Nat :=
  if hi = lo then 0 else ((v - lo) * (2 ^ q - 1) * 2 + (hi - lo)) / (2 * (hi - lo))

/-- A block of elements coded (R268, R270). -/
def fixEncode (f : FixFmt) (ws : List Nat) (elems : List Nat) : List Byte :=
  let un := elems.map (unpackChans ws)
  let chs := (List.range ws.length).map fun c => un.map fun x => x.getD c 0
  let ch (c : Nat) : List Nat := chs.getD c []
  let los := chs.map fun x => (x.min?).getD 0
  let his := chs.map fun x => (x.max?).getD 0
  let lo (c : Nat) : Nat := los.getD c 0
  let hi (c : Nat) : Nat := his.getD c 0
  let ends := (List.range ws.length).foldl
    (fun a c => a + lo c * 2 ^ loPos ws c + hi c * 2 ^ (loPos ws c + ws.getD c 0)) 0
  let one (k : Nat) (c : Nat) : Nat :=
    fixIndex (lo c) (hi c) ((ch c).getD k 0) (idxBits f c) * 2 ^ idxPos f ws k c
  let idx := (List.range elems.length).foldl
    (fun a k => (List.range ws.length).foldl (fun b c => b + one k c) a) 0
  leBytes f.coded (ends + idx)

/-- Blocks across a 64-sample row of a tile. -/
def fixAcross (f : FixFmt) : Nat := 64 / f.cols

/-- The sample at column `x`, row `y` of a fixed-ratio tile: its block's index and its place in the block. -/
def fixPlace (f : FixFmt) (x y : Nat) : Nat × Nat :=
  (y / f.rows * fixAcross f + x / f.cols, y % f.rows * f.cols + x % f.cols)

/-- The 16,384 bytes of a fixed-ratio tile decoded in raster order. -/
def fixTile (coder elem : Nat) (bs : List Byte) : List Byte :=
  let f := fixFmt coder
  (List.range 4096).flatMap fun i =>
    let p := fixPlace f (i % 64) (i / 64)
    leBytes 4 (fixElem f (chanBits elem) (leNat (slice bs (p.1 * f.coded) f.coded)) p.2)

/-- The blocks of a raw tile coded in order (R268). -/
def fixTileEncode (coder elem : Nat) (raw : List Byte) : List (List Byte) :=
  let f := fixFmt coder
  (List.range (4096 / (f.cols * f.rows))).map fun b =>
    fixEncode f (chanBits elem) ((List.range (f.cols * f.rows)).map fun k =>
      let x := b % fixAcross f * f.cols + k % f.cols
      let y := b / fixAcross f * f.rows + k / f.cols
      leAt raw (4 * (64 * y + x)) 4)

/-- Level entries are 12 bits; 8 of them take 12 bytes (R268). -/
def priorEntries (bs : List Byte) : List Nat := (List.range 8).map fun k => bitsAt (leNat bs) (12 * k) 12

/-- Eight prior-state entries coded (R268, R270). -/
def priorEncode (bs : List Byte) : List Byte := fixEncode fixPrior (chanBits 2) (priorEntries bs)

/-- Eight prior-state entries decoded into 12 bytes (R269). -/
def priorDecode (bs : List Byte) : List Byte :=
  leBytes 12 ((List.range 8).foldl
    (fun a k => a + fixElem fixPrior (chanBits 2) (leNat bs) k * 2 ^ (12 * k)) 0)

/-! ### Lossless (R271 to R275) -/

/-- Where a lossless decoder stands: the stage of R279, literals to copy, match length and offset, and the
history with its newest byte first. -/
structure Lz where
  stage : Nat
  lit : Nat
  mlen : Nat
  moff : Nat
  hist : List Byte
deriving DecidableEq, Repr

/-- How a run of the decoder ends. -/
inductive LzEnd | ended | input | room | failed
deriving DecidableEq, Repr

/-- A byte of token output joins the history of 32,768 bytes (R272). -/
def lzPush (st : Lz) (b : Byte) : Lz := { st with hist := (b :: st.hist).take 32768 }

/-- The stage after the literals: the offset when a match follows, else a token. -/
def lzAfter (st : Lz) : Lz := { st with stage := if st.mlen = 0 then 0 else 3 }

/-- What a token byte starts (R272). -/
def lzToken (st : Lz) (b : Byte) : Lz :=
  let l := b.toNat % 16
  let m := b.toNat / 16
  let s1 := { st with lit := l, mlen := if m = 0 then 0 else m + 3, moff := 0 }
  if l = 15 then { s1 with stage := 1 } else if l = 0 then lzAfter s1 else { s1 with stage := 2 }

/-- A run of the decoder over an input with room for some output: the output newest first, the input left
and the end reached (R272, R274). -/
def lzRun : Nat → Nat → Lz → List Byte → List Byte → Lz × List Byte × List Byte × LzEnd
  | 0, _, st, inp, out => (st, out, inp, .failed)
  | n + 1, room, st, inp, out =>
    if st.stage = 0 ∧ st.mlen ≠ 0 then
      if room = 0 then (st, out, inp, .room)
      else
        let b := st.hist.getD (st.moff - 1) 0
        lzRun n (room - 1) (lzPush { st with mlen := st.mlen - 1 } b) inp (b :: out)
    else if st.stage = 2 ∧ st.lit = 0 then lzRun n room (lzAfter st) inp out
    else match inp with
      | [] => (st, out, [], .input)
      | b :: r =>
        match st.stage with
        | 0 => if b = 0 then (st, out, r, .ended) else lzRun n room (lzToken st b) r out
        | 1 => lzRun n room { st with lit := st.lit + b.toNat, stage := if b = 255 then 1 else 2 } r out
        | 2 => if room = 0 then (st, out, inp, .room)
          else lzRun n (room - 1) (lzPush { st with lit := st.lit - 1 } b) r (b :: out)
        | 3 => lzRun n room { st with moff := b.toNat, stage := 4 } r out
        | 4 =>
          let off := st.moff + 256 * b.toNat
          if off = 0 ∨ 32768 < off ∨ st.hist.length < off then ({ st with moff := off }, out, inp, .failed)
          else lzRun n room { st with moff := off, stage := if st.mlen = 18 then 5 else 0 } r out
        | _ => lzRun n room { st with mlen := st.mlen + b.toNat, stage := if b = 255 then 5 else 0 } r out

/-- Enough steps for any input and room: each step reads a byte, writes a byte or ends a literal run. -/
def lzFuel (inp room : Nat) : Nat := 2 * (inp + room) + 16

/-- The prediction of R273 over token output in order, with the last four output bytes, oldest first. -/
def unpredict : List Byte → List Byte → List Byte
  | _, [] => []
  | last, d :: r =>
    let o := d + last.getD 0 0
    o :: unpredict (last.drop 1 ++ [o]) r

/-- The difference stream of R273 of a source, with the last four source bytes, oldest first. -/
def predict : List Byte → List Byte → List Byte
  | _, [] => []
  | last, o :: r => (o - last.getD 0 0) :: predict (last.drop 1 ++ [o]) r

/-- A decoder at the start of a stream. -/
def lzStart : Lz := ⟨0, 0, 0, 0, []⟩

/-- The header of a lossless stream is well formed (R271, R274). -/
def lzHeaderOk (b : List Byte) : Bool :=
  b.length == 8 && byteAt b 0 == 0xC7 && decide (leAt b 1 1 < 4) && zeroBytes b 2 4 &&
    (leAt b 1 1 % 2 == 1 || leAt b 4 4 == 0)

/-- A whole lossless stream decoded to exactly `size` bytes; none where it fails (R271 to R274). -/
def llDecode (bs : List Byte) (size : Nat) : Option (List Byte) :=
  let h := bs.take 8
  let body := bs.drop 8
  if !lzHeaderOk h then none
  else if leAt h 1 1 % 2 = 1 then
    if leAt h 4 4 = size ∧ size ≤ body.length then some (body.take size) else none
  else
    let (_, out, _, e) := lzRun (lzFuel body.length size) size lzStart body []
    if e = .ended ∧ out.length = size then
      some (if leAt h 1 1 / 2 = 1 then unpredict [0, 0, 0, 0] out.reverse else out.reverse)
    else none

/-- Extension bytes of a count above its field (R272). -/
def extBytes : Nat → Nat → List Byte
  | 0, _ => []
  | n + 1, v => if v < 255 then [BitVec.ofNat 8 v] else 255 :: extBytes n (v - 255)

/-- The bytes of one symbol: token, extensions, literals, offset (R272, R275). -/
def symBytes (lits : List Byte) (mlen off : Nat) : List Byte :=
  let l := lits.length
  let m := mlen - 3
  BitVec.ofNat 8 (min l 15 + 16 * (if mlen = 0 then 0 else min m 15)) ::
    ((if 15 ≤ l then extBytes (l + 1) (l - 15) else []) ++ lits ++
      (if mlen = 0 then [] else leBytes 2 off ++ (if 15 ≤ m then extBytes (m + 1) (m - 15) else [])))

/-- Symbols fit a source behind a history: runs and matches of at most 1,024 bytes that reproduce it (R272,
R275). The history has its newest byte first. -/
def parseOk : List Byte → List Byte → List (Nat × Nat × Nat) → Bool
  | _, src, [] => src.isEmpty
  | hist, src, (l, m, off) :: r =>
    let lits := src.take l
    let h1 := lits.reverse ++ hist
    let after := src.drop l
    let copy := (List.range m).foldl (fun (h : List Byte) _ => h.getD (off - 1) 0 :: h) h1
    decide (l ≤ 1024 ∧ m ≤ 1024 ∧ (m = 0 ∨ 4 ≤ m) ∧ 0 < l + m ∧ lits.length = l ∧ (m = 0 ∨
      (1 ≤ off ∧ off ≤ 32768 ∧ off ≤ min h1.length 32768))) &&
    (copy.take m).reverse == after.take m && decide (m ≤ after.length) && parseOk copy (after.drop m) r

/-- Literal runs of 1,024 bytes. -/
def litRuns : Nat → Nat → List (Nat × Nat × Nat)
  | 0, _ => []
  | n + 1, len => if len = 0 then [] else (min len 1024, 0, 0) :: litRuns n (len - min len 1024)

/-- The symbols the encoder emits for a source behind a history (R275): its own choice where it decodes to
the source, else literal runs. -/
def encSymbols (hist src : List Byte) : List (Nat × Nat × Nat) :=
  let c := Config.encoderChoice hist src
  if parseOk hist src c then c else litRuns (src.length + 1) src.length

/-- The symbols of a source as bytes, with the source bytes each covers. -/
def symList : List Byte → List (Nat × Nat × Nat) → List (List Byte × Nat)
  | _, [] => []
  | src, (l, m, off) :: r => (symBytes (src.take l) m off, l + m) :: symList (src.drop (l + m)) r

/-- The header of a coded stream (R271). -/
def lzHeader (raw pred : Bool) (rawLen : Nat) : List Byte :=
  [0xC7, BitVec.ofNat 8 (b2n raw + 2 * b2n pred), 0, 0] ++ leBytes 4 (if raw then rawLen else 0)

/-- A source coded whole, with raw fallback where the token form would be longer (R275). -/
def llEncode (pred : Bool) (src : List Byte) : List Byte :=
  let d := if pred then predict [0, 0, 0, 0] src else src
  let toks := (symList d (encSymbols [] d)).flatMap (·.1) ++ [0]
  if src.length < toks.length then lzHeader true false src.length ++ src else lzHeader false pred 0 ++ toks

end Sys2Proof.Machine
end

