-- ==== Sys2Proof/Machine/Synth.lean ====
section
/-! DEFINITION. Ray synthesis in the Hall of Mirrors and the pre-flight cost model, exact (R30, R81 to R102,
R467). -/

namespace Sys2Proof.Machine

/-! ### Geometry (R30, R84, R85) -/

/-- U and V of a view-lattice mode (R30). -/
def modeUV : Nat → Nat × Nat
  | 0 => (16, 16) | 1 => (32, 8) | 2 => (16, 8) | 3 => (8, 8) | _ => (24, 24)

/-- The scale factor of one axis: plane samples per hogel, U2.16 (R84). -/
def scaleOf (w n : Nat) : Nat := (w * 65536 + n / 2) / n

/-- A doubled view offset: 2u − (U − 1) (R21, R85). -/
def dblOff (u n : Nat) : Int := 2 * (u : Int) - ((n : Int) - 1)

/-- A position on one axis in hogels with 10 fraction bits (R85). -/
def hogelPos (h : Nat) (disp off corr : Int) : Int := (h : Int) * 1024 + 512 + disp * off * 2 + corr

/-- A position on one axis in samples with 8 fraction bits (R85). -/
def samplePos (q : Int) (scale : Nat) : Int := rshr (q * scale - 2 ^ 25) 18

/-- A lens-alignment entry: corrections and DARK (R86). -/
structure Lens where
  dx : Int
  dy : Int
  dark : Bool
deriving DecidableEq, Repr

/-- A lens-alignment entry read from its word (R86). -/
def parseLens (w : Nat) : Lens := ⟨sext 12 w, sext 12 (w / 4096), w / 2 ^ 24 % 2 == 1⟩

/-- No correction (R87). -/
def noLens : Lens := ⟨0, 0, false⟩

/-! ### Samples (R88 to R93) -/

/-- The expansion of an n-bit channel to 0 to 65,536 (R88). -/
def expand (c n : Nat) : Nat := (c * 65536 + (2 ^ n - 1) / 2) / (2 ^ n - 1)

/-- The four expanded channels R, G, B, A of a sample word (R88). -/
def sampleRGBA (format w : Nat) : List Nat :=
  let ws := chanBits (if format = 0 then 0 else 1)
  (List.range 4).map fun c => expand ((unpackChans ws w).getD c 0) (ws.getD c 1)

/-- The transparent sample. -/
def zero4 : List Nat := [0, 0, 0, 0]

/-- What lies beyond one edge of a plane: a received strip on time, the embedded halo tiles, and whether the
edge clamps (R63, R90, R91). -/
structure EdgeSrc where
  strip : Bool
  embedded : Bool
  clamp : Bool
deriving DecidableEq, Repr

/-- The edge has data beyond the image. -/
def EdgeSrc.hasData (e : EdgeSrc) : Bool := e.strip || e.embedded

/-- Where a plane's samples come from: its size, its edges left, right, top, bottom, the sample word of a tile
at a tile position (none where it is poisoned or empty), and a strip's sample word. -/
structure PlaneSrc where
  desc : PlaneDesc
  edges : Nat → EdgeSrc
  tile : Nat → Nat → Nat → Nat → Nat
  strip : Nat → Int → Int → Nat

/-- The tile word of image or halo tile `(t, r)` at `(c, k)`. -/
def PlaneSrc.word (p : PlaneSrc) (t r c k : Int) : Nat := p.tile t.toNat r.toNat c.toNat k.toNat

/-- Column position of an image sample: tile column and column in it (after R59). -/
def imgCol (d : PlaneDesc) (x : Int) : Int × Int := (x / 64 + nbit d.halo 0, x % 64)

/-- Row position of an image sample. -/
def imgRow (d : PlaneDesc) (y : Int) : Int × Int := (y / 64 + nbit d.halo 2, y % 64)

/-- Column position in an embedded left or right halo tile (R467). -/
def haloCol (d : PlaneDesc) (x : Int) : Int × Int :=
  if x < 0 then (0, x + 64) else ((tileCols d : Int) - 1, x - d.width)

/-- Row position in an embedded top or bottom halo tile (R467). -/
def haloRow (d : PlaneDesc) (y : Int) : Int × Int :=
  if y < 0 then (0, y + 64) else ((tileRows d : Int) - 1, y - d.height)

/-- The edge a coordinate lies beyond, among `a` below 0 and `b` at or above `n`. -/
def beyond (x : Int) (n a b : Nat) : Option Nat := if x < 0 then some a else if (n : Int) ≤ x then some b else none

/-- A sample inside the data rectangle (R90 steps 1 and 2, R467). -/
def inRect (p : PlaneSrc) (x y : Int) : Nat :=
  let d := p.desc
  match beyond x d.width 0 1, beyond y d.height 2 3 with
  | none, none =>
    let c := imgCol d x; let r := imgRow d y
    p.word c.1 r.1 c.2 r.2
  | some e, none =>
    if (p.edges e).strip then p.strip e x y
    else let c := haloCol d x; let r := imgRow d y
      p.word c.1 r.1 c.2 r.2
  | none, some e =>
    if (p.edges e).strip then p.strip e x y
    else let c := imgCol d x; let r := haloRow d y
      p.word c.1 r.1 c.2 r.2
  | some e, some f =>
    if (p.edges e).strip then p.strip e x y
    else if nbit d.halo e = 1 ∧ nbit d.halo f = 1 then
      let c := haloCol d x; let r := haloRow d y
      p.word c.1 r.1 c.2 r.2
    else 0

/-- The outermost coordinates of the data rectangle on one axis (R90). -/
def extent (p : PlaneSrc) (n a b : Nat) : Int × Int :=
  (if (p.edges a).hasData then -64 else 0, (n : Int) - 1 + if (p.edges b).hasData then 64 else 0)

/-- A coordinate outside the data rectangle under its edge's treatment: none for TRANSPARENT (R90 step 3). -/
def treat (p : PlaneSrc) (v : Int) (n a b : Nat) : Option Int :=
  let e := extent p n a b
  if v < e.1 then (if (p.edges a).clamp then some e.1 else none)
  else if e.2 < v then (if (p.edges b).clamp then some e.2 else none)
  else some v

/-- The sample word at plane coordinates (R90). -/
def resolve (p : PlaneSrc) (x y : Int) : Nat :=
  match treat p x p.desc.width 0 1, treat p y p.desc.height 2 3 with
  | some x1, some y1 => inRect p x1 y1
  | _, _ => 0

/-- Bilinear interpolation of one channel (R93). -/
def bilinear (e00 e10 e01 e11 fx fy : Nat) : Nat :=
  let top := e00 * (256 - fx) + e10 * fx
  let bot := e01 * (256 - fx) + e11 * fx
  (rshr ((top * (256 - fy) + bot * fy : Nat) : Int) 16).toNat

/-- The bilinear sample of a plane at a sample position with 8 fraction bits (R85, R93). -/
def planeSample (p : PlaneSrc) (sx sy : Int) : List Nat :=
  let ix := sx / 256; let fx := (sx % 256).toNat
  let iy := sy / 256; let fy := (sy % 256).toNat
  let e (dx dy : Int) : List Nat := sampleRGBA p.desc.format (resolve p (ix + dx) (iy + dy))
  let e00 := e 0 0; let e10 := e 1 0; let e01 := e 0 1; let e11 := e 1 1
  (List.range 4).map fun c => bilinear (e00.getD c 0) (e10.getD c 0) (e01.getD c 0) (e11.getD c 0) fx fy

/-! ### Compositing (R94 to R97) -/

/-- What a ray leaves the Hall of Mirrors with: its colours before the clip, its transmittance, and the tap of
each enabled overlay slot (R97). -/
structure RayOut where
  acc : List Nat
  t : Nat
  taps : List (Nat × List Nat × Nat)
deriving DecidableEq, Repr

/-- The ray's colours as handed over (R94). -/
def RayOut.out (r : RayOut) : List Nat := r.acc.map fun a => min a 65536

/-- A product scaled by 2^-16, rounded (R94). -/
def mul16 (a b : Nat) : Nat := (rshr ((a * b : Nat) : Int) 16).toNat

/-- One plane composited (R94). -/
def compose (acc : List Nat) (t : Nat) (s : List Nat) : List Nat × Nat :=
  ((List.range 3).map fun c => acc.getD c 0 + mul16 t (s.getD c 0), mul16 t (65536 - s.getD 3 0))

/-- The planes of a ray from plane `i` on, front to back, with taps and early termination (R94 to R96). `k` is
the slots' insertion points; a plane that is not occupied gives none. -/
def compositeFrom (k : List (Nat × Nat)) : Nat → List Nat → Nat → List (Nat × List Nat × Nat) →
    List (Option (List Nat)) → RayOut
  | _, acc, t, taps, [] =>
    ⟨acc, t, taps ++ (k.filter fun s => !taps.any fun q => q.1 == s.1).map fun s => (s.1, acc, t)⟩
  | i, acc, t, taps, p :: rest =>
    let taps1 := taps ++ (k.filter fun s => s.2 == i).map fun s => (s.1, acc, t)
    match p with
    | none => compositeFrom k (i + 1) acc t taps1 rest
    | some s =>
      let (a1, t1) := compose acc t s
      if t1 < 64 then
        ⟨a1, t1, taps1 ++ (k.filter fun s => !taps1.any fun q => q.1 == s.1).map fun s => (s.1, a1, t1)⟩
      else compositeFrom k (i + 1) a1 t1 taps1 rest

/-- The plane in front of which an overlay is inserted (R96). -/
def insertAt (planes : List PlaneDesc) (slot : Nat) (disp : Int) : Nat :=
  (firstBelow planes.length fun i =>
    match planes[i]? with
    | some d => nbit d.ovlFlags slot == 1 || decide (disp ≤ d.disparity)
    | none => false).getD planes.length

/-- A ray of a DARK hogel (R97). -/
def darkRay (k : List (Nat × Nat)) : RayOut := ⟨[0, 0, 0], 0, k.map fun s => (s.1, [0, 0, 0], 0)⟩

/-! ### Footprints and cost (R100 to R102) -/

/-- The samples a span of hogels can reach on one axis (R100). -/
def reach (lo hi : Nat) (disp : Int) (n scale : Nat) : Int × Int :=
  let r : Int := disp.natAbs * (n - 1) * 2 + 2048
  (rshr (((lo : Int) * 1024 + 512 - r) * scale - 2 ^ 25) 18 / 256,
   rshr (((hi : Int) * 1024 + 512 + r) * scale - 2 ^ 25) 18 / 256 + 1)

/-- A bit of the bitmap within a span of tile columns and rows, clipped to the plane's grid (R100). -/
def anyTile (d : PlaneDesc) (tt : List Byte) (c0 c1 r0 r1 : Int) : Bool :=
  let lo (x : Int) : Nat := (max x 0).toNat
  let hi (x : Int) (n : Nat) : Nat := (min (x + 1) n).toNat
  (List.range (hi r1 (tileRows d) - lo r0)).any fun j =>
    (List.range (hi c1 (tileCols d) - lo c0)).any fun i => ttBit tt (lo c0 + i) (lo r0 + j)

/-- HALO_EN of an edge in HOM_EDGE: 0 left, 1 right, 2 top, 3 bottom (R111). -/
def edgeHaloEn (edge : W32) (e : Nat) : Bool := bitOf edge (8 * e + 3)

/-- CLAMP of an edge (R111). -/
def edgeClamp (edge : W32) (e : Nat) : Bool := bitOf edge (8 * e + 4)

/-- PORT of an edge (R111). -/
def edgePort (edge : W32) (e : Nat) : Nat := fld edge (8 * e + 2) (8 * e)

/-- A plane is occupied in a region (R100); a plane with no coded tile never is (R58). -/
def occupied (d : PlaneDesc) (tt : List Byte) (edge : W32) (hx hy u v rx ry : Nat) : Bool :=
  let x := reach (8 * rx) (min (8 * rx + 7) (hx - 1)) d.disparity u (scaleOf d.width hx)
  let y := reach (4 * ry) (min (4 * ry + 3) (hy - 1)) d.disparity v (scaleOf d.height hy)
  let h0 : Int := nbit d.halo 0
  let h2 : Int := nbit d.halo 2
  let c0 := x.1 / 64 + h0; let c1 := x.2 / 64 + h0
  let r0 := y.1 / 64 + h2; let r1 := y.2 / 64 + h2
  let left := decide (x.1 < 0); let right := decide ((d.width : Int) - 1 < x.2)
  let top := decide (y.1 < 0); let bottom := decide ((d.height : Int) - 1 < y.2)
  let tx : Int := tileCols d - 1; let ty : Int := tileRows d - 1
  let hr := nbit d.halo 1 == 1; let hb := nbit d.halo 3 == 1
  d.tileCount != 0 && (anyTile d tt c0 c1 r0 r1 || (right && hr && anyTile d tt tx tx r0 r1) ||
    (bottom && hb && anyTile d tt c0 c1 ty ty) || (right && bottom && hr && hb && anyTile d tt tx tx ty ty) ||
    (left && edgeHaloEn edge 0) || (right && edgeHaloEn edge 1) || (top && edgeHaloEn edge 2) ||
    (bottom && edgeHaloEn edge 3))

/-- Regions across a grid. -/
def regionsX (hx : Nat) : Nat := (hx + 7) / 8

/-- Region rows of a grid. -/
def regionsY (hy : Nat) : Nat := (hy + 3) / 4

/-- Hogel rows of region row `j` (R102). -/
def rowHeight (hy j : Nat) : Nat := min (4 * j + 4) hy - 4 * j

/-- Hogel columns of region column `i`. -/
def colWidth (hx i : Nat) : Nat := min (8 * i + 8) hx - 8 * i

/-- The cost of a region row (R101). -/
def rowCost (planes : List (PlaneDesc × List Byte)) (edge : W32) (hx hy u v j : Nat) : Nat :=
  ((List.range (regionsX hx)).map fun i =>
    (planes.countP fun p => occupied p.1 p.2 edge hx hy u v i j) * (colWidth hx i * rowHeight hy j * u * v)).sum

/-- n_base: whole data-plane cycles of the base period (R32). -/
def nBase (periodPs : Nat) : Nat := periodPs / 625

/-- A budget scaled to the pipelines in service: below 62, multiplied by n and shifted right by 6 (R109). -/
def scaleBudget (n b : Nat) : Nat := if 62 ≤ n then b else b * n / 64

/-- frame_budget (R32, R109). -/
def frameBudget (nb n : Nat) : Nat := scaleBudget n (2720 * nb)

/-- l_row of a region row of `h` hogel rows (R102, R109). -/
def rowLimit (nb n h hy : Nat) : Nat := scaleBudget n (2720 * (h * nb / hy))

/-- What the pre-flight unit computes of a frame: total cost, highest row cost, first failing row (R101, R102). -/
structure Cost where
  total : Nat
  rowMax : Nat
  failRow : Option Nat
deriving DecidableEq, Repr

/-- The cost of a frame against the region-row limits (R101, R102). -/
def frameCost (planes : List (PlaneDesc × List Byte)) (edge : W32) (hx hy u v nb n : Nat) : Cost :=
  let rows := (List.range (regionsY hy)).map fun j => (j, rowCost planes edge hx hy u v j)
  { total := (rows.map (·.2)).sum
    rowMax := (rows.map (·.2)).foldl max 0
    failRow := (rows.find? fun r => decide (rowLimit nb n (rowHeight hy r.1) hy < r.2)).map (·.1) }

end Sys2Proof.Machine
end

