-- ==== Sys2Proof/Machine/Colour.lean ====
section
/-! DEFINITION. Layer and colour processing, exact (R114 to R131). -/

namespace Sys2Proof.Machine

/-! ### Tables (R130, R131) -/

/-- The size of a selectable table (R131). -/
def tblSize (t : Nat) : Nat := if t ≤ 5 then 1025 else if t = 6 then 1089 else if t ≤ 9 then 1025 else if t = 10 then 256 else 0

/-- The stored bits of a table's entries (R130). -/
def tblBits (t : Nat) : Nat := if t ≤ 5 then 26 else if t = 6 then 17 else if t ≤ 9 then 16 else if t = 10 then 10 else 0

/-- The input at which tone-map index `i` stands: 64 steps in each octave (R126). -/
def tmInput (i : Nat) : Nat :=
  let n := min (i / 64) 16
  if n = 0 then i * 16 else 2 ^ (n + 9) + (i - 64 * n) * 2 ^ (n + 3)

/-- A table entry after reset (R131). -/
def tblReset (t i : Nat) : Nat :=
  if t ≤ 5 then i * 16384
  else if t = 6 then min (rshr (tmInput i : Int) 8).toNat 65536
  else if t ≤ 9 then (i * 65472 + 512) / 1024
  else match i % 4 with
    | 1 => 256 - 4 * (i / 4)
    | 2 => 4 * (i / 4)
    | _ => 0

/-- The key of a table entry. -/
def tblKey (t i : Nat) : Nat := 2048 * t + i

/-- A table entry of a copy. -/
def tblGet (m : Sparse W32) (t i : Nat) : Nat := (spGet (BitVec.ofNat 32 (tblReset t i)) m (tblKey t i)).toNat

/-- A table entry written, in its stored bits (R130). -/
def tblSet (m : Sparse W32) (t i v : Nat) : Sparse W32 :=
  spSet (BitVec.ofNat 32 (tblReset t i)) m (tblKey t i) (BitVec.ofNat 32 (v % 2 ^ tblBits t))

/-- A filter tap: a signed 10-bit field (R120). -/
def filterTap (m : Sparse W32) (phase tap : Nat) : Int := sext 10 (tblGet m 10 (4 * phase + tap))

/-- Every phase of the filter sums to 256 (R120, R131). -/
def filterOk (m : Sparse W32) : Bool :=
  (List.range 64).all fun p => ((List.range 4).map fun k => filterTap m p k).sum == 256

/-- The entries of one table in a copy. -/
def tblPart (m : Sparse W32) (t : Nat) : Sparse W32 :=
  m.filter fun c => decide (tblKey t 0 ≤ c.1 ∧ c.1 < tblKey (t + 1) 0)

/-- The shadow copies become active together; a bad filter keeps its previous active copy (R130, R131). -/
def tblCommit (sh act : Sparse W32) : Sparse W32 × Bool :=
  if filterOk sh then (sh, true)
  else ((sh.filter fun c => decide (c.1 < tblKey 10 0)) ++ tblPart act 10, false)

/-! ### Linearization (R115 to R117) -/

/-- The largest linear value. -/
def linMax : Int := 2 ^ 26 - 1

/-- One channel decoded through a table (R115). -/
def decodeCh (m : Sparse W32) (t x : Nat) : Nat :=
  let i := x / 64
  let f := x % 64
  let a : Int := tblGet m t i
  let dd : Int := if i = 1024 then 0 else (tblGet m t (i + 1) : Int) - a
  (sat (a + rshr (dd * f) 6) 0 linMax).toNat

/-- A matrix coefficient of a row-major S3.12 matrix held in five registers (R132). -/
def matCoef (regs : Nat → W32) (r j : Nat) : Int :=
  let k := 3 * r + j
  sext 16 (fld (regs (k / 2)) (16 * (k % 2) + 15) (16 * (k % 2)))

/-- A matrix applied, rounded and clipped to 0 to `hi` (R116, R128). -/
def matApply (regs : Nat → W32) (v : List Nat) (hi : Int) : List Nat :=
  (List.range 3).map fun r =>
    (sat (rshr (((List.range 3).map fun j => matCoef regs r j * (v.getD j 0 : Int)).sum) 12) 0 hi).toNat

/-- What the colour pipeline works with: the active tables and matrices, TM_EN and OVL_DIS. -/
structure ClrCfg where
  tbl : Sparse W32
  inmat : Nat → Nat → W32
  outmat : Nat → W32
  tmEn : Bool
  ovlDis : Bool

/-- lin_s: decode set `st` and input matrix `st` (R116). -/
def linOf (k : ClrCfg) (st : Nat) (v : List Nat) : List Nat :=
  matApply (k.inmat st) ((List.range 3).map fun c => decodeCh k.tbl (3 * st + c) (v.getD c 0)) linMax

/-! ### Overlay samples (R118 to R121) -/

/-- A surface's sample word at a column and row; the reader gives 0 where a read was poisoned (R118, R125). -/
abbrev SurfRd := Nat → Nat → Nat

/-- An overlay sample of a ray: R, G, B, A, and whether a colour was clamped to alpha (R120). -/
def overlaySample (tbl : Sparse W32) (h : SurfHdr) (rd : SurfRd) (xq yq : Int) : List Nat × Bool :=
  if xq < 0 ∨ (h.dstW : Int) * 1024 ≤ xq ∨ yq < 0 ∨ (h.dstH : Int) * 1024 ≤ yq then (zero4, false)
  else
    let sx := rshr (xq * scaleOf h.srcW h.dstW - 2 ^ 25) 18
    let sy := rshr (yq * scaleOf h.srcH h.dstH - 2 ^ 25) 18
    let ix := sx / 256; let ph := ((sx % 256).toNat) / 4
    let iy := sy / 256; let fy : Int := sy % 256
    let clampTo (x : Int) (n : Nat) : Nat := (sat x 0 ((n : Int) - 1)).toNat
    let row (y : Int) : List Int :=
      let px := (List.range 4).map fun (k : Nat) =>
        sampleRGBA h.format (rd (clampTo (ix - 1 + k) h.srcW) (clampTo y h.srcH))
      (List.range 4).map fun c =>
        ((List.range 4).map fun k => filterTap tbl ph k * ((px.getD k zero4).getD c 0 : Int)).sum
    let h0 := row iy
    let h1 := row (iy + 1)
    let val (c : Nat) : Int := rshr (h0.getD c 0 * (256 - fy) + h1.getD c 0 * fy) 16
    let a := sat (val 3) 0 65536
    let ch (c : Nat) : Nat := (sat (val c) 0 a).toNat
    ([ch 0, ch 1, ch 2, a.toNat], (List.range 3).any fun c => decide (a < val c))

/-- One overlay inserted at its tap (R121). -/
def insertOverlay (k : ClrCfg) (h : SurfHdr) (o tapAcc : List Nat) (tapT : Nat) (c : List Nat) : List Nat :=
  let lo := linOf k (if h.cset = 0 then 0 else 1) (o.take 3)
  let lt := linOf k 0 (tapAcc.map fun a => min a 65536)
  let oa := o.getD 3 0
  (List.range 3).map fun i =>
    let l := sat (rshr ((lo.getD i 0 * h.gain : Nat) : Int) 12) 0 linMax
    let base : Int := lt.getD i 0
    let b := max ((c.getD i 0 : Int) - base) 0
    (sat (base + rshr ((tapT : Int) * l) 16 + rshr ((65536 - (oa : Int)) * b) 16) 0 linMax).toNat

/-! ### Tone mapping, output matrix, emitter response (R126 to R129) -/

/-- Tone mapping of one channel (R126). -/
def toneMap (k : ClrCfg) (x : Nat) : Nat :=
  if !k.tmEn then min (rshr (x : Int) 8).toNat 65536
  else
    let n := if x < 1024 then 0 else Nat.log2 x - 9
    let base := if n = 0 then 0 else 2 ^ (n + 9)
    let sh := if n = 0 then 4 else n + 3
    let idx := 64 * n + (x - base) / 2 ^ sh
    let r : Int := ((x - base) % 2 ^ sh : Nat)
    let a : Int := tblGet k.tbl 6 idx
    (sat (a + rshr (((tblGet k.tbl 6 (idx + 1) : Int) - a) * r) sh) 0 65536).toNat

/-- Any channel of the output matrix leaves 0 to 65,536 (R128). -/
def outClips (k : ClrCfg) (v : List Nat) : Bool :=
  (List.range 3).any fun r =>
    let x := rshr (((List.range 3).map fun j => matCoef k.outmat r j * (v.getD j 0 : Int)).sum) 12
    decide (x < 0 ∨ 65536 < x)

/-- The emitter response of one colour: a 10-bit target (R129). -/
def response (k : ClrCfg) (c x : Nat) : Nat :=
  let i := x / 64
  let f : Int := (x % 64 : Nat)
  let a : Int := tblGet k.tbl (7 + c) i
  let d : Int := if i = 1024 then 0 else (tblGet k.tbl (7 + c) (i + 1) : Int) - a
  (sat (rshr (a * 64 + d * f) 12) 0 1023).toNat

/-- An overlay slot enabled in a scan, with how its surface reads. -/
structure OvlIn where
  show_ : OvlShow
  rd : SurfRd

/-- What the colour pipeline makes of a ray: targets, OUT_CLIP and OVL_CLIP. -/
structure ClrOut where
  targets : List Nat
  outClip : Bool
  ovlClip : Bool
deriving DecidableEq, Repr

/-- Slots in order of insertion: decreasing k, then the higher slot first (R121). -/
def insertOrder (ks : List (Nat × Nat)) : List Nat :=
  (ks.mergeSort fun a b => decide (b.2 < a.2 ∨ (a.2 = b.2 ∧ b.1 ≤ a.1))).map (·.1)

/-- The colour pipeline for one ray (R114). `pos` gives a slot's position on the hogel grid (R120). -/
def clrRay (k : ClrCfg) (r : RayOut) (ks : List (Nat × Nat)) (ovl : List OvlIn) (pos : OvlShow → Int × Int) : ClrOut :=
  let start : List Nat × Bool := (linOf k 0 r.out, false)
  let put1 (st : List Nat × Bool) (slot : Nat) : List Nat × Bool :=
    match ovl.find? (fun o => o.show_.slot == slot), r.taps.find? (fun t => t.1 == slot) with
    | some o, some (_, acc, t) =>
      let p := pos o.show_
      let (smp, clip) := overlaySample k.tbl o.show_.hdr o.rd p.1 p.2
      (insertOverlay k o.show_.hdr smp acc t st.1, st.2 || clip)
    | _, _ => st
  let (c, clip) := if k.ovlDis || ks.isEmpty then start else (insertOrder ks).foldl put1 start
  let tm := c.map (toneMap k)
  let o := matApply k.outmat tm 65536
  { targets := (List.range 3).map fun i => response k i (o.getD i 0)
    outClip := outClips k tm
    ovlClip := clip }

end Sys2Proof.Machine
end

