-- ==== Sys2Proof/Machine/Mem.lean ====
section
/-! DEFINITION. The two memories as every block reaches them: DRAM by system address (R48, R238 to R240, R252 to
R254) and the scratchpad by logical address (R50, R259 to R265). -/

namespace Sys2Proof.Machine

/-! ### DRAM -/

/-- JGL_SLOT_MAP of a slot: identity before training (R258). -/
def slotChan (s : State) (slot : Nat) : Nat := spGet slot s.jgl.slotMap slot

/-- JGL_ERR bit `i` set (R258). -/
def jglErr (i : Nat) (s : State) : State := { s with jgl := { s.jgl with err := setBit s.jgl.err i } }

/-- A channel (R258). -/
def chanOf (s : State) (c : Nat) : Chan := spGet {} s.jgl.chans c

/-- A channel changed. -/
def modChan (c : Nat) (f : Chan → Chan) (s : State) : State :=
  { s with jgl := { s.jgl with chans := spMod {} s.jgl.chans c f } }

/-! ### The address map (R238, R239) -/

/-- A fold's copy is under way (R247). -/
def evacuating (j : Jgl) : Bool := match j.job with | some (.foldCopy _) => true | _ => false

/-- The slot and stripe of a system address (R238). -/
def mapSlot (j : Jgl) (a : Nat) : Nat × Nat :=
  let g := a / 256
  let sl := g % j.n
  let z := g / j.n
  match j.fold with
  | none => (sl, z)
  | some f =>
    if sl = f ∧ z < j.foldTop ∧ (!evacuating j || decide (z < j.evacPtr)) = true then
      let k := z % (j.n - 1)
      (if k < f then k else k + 1, j.foldTop + z / (j.n - 1))
    else (sl, z)

/-- The channel that serves a stripe of a slot: during a spare-channel copy the spare serves the lines below the copy
pointer (R245). -/
def servingChan (s : State) (slot z : Nat) : Nat :=
  match s.jgl.job with
  | some (.chanCopy c d) => if slotChan s slot = c ∧ z < s.jgl.evacPtr then d else slotChan s slot
  | _ => slotChan s slot

/-- The channel and channel-local address of a system address (R238, R245). -/
def mapAddr (s : State) (a : Nat) : Nat × Nat :=
  let m := mapSlot s.jgl a
  (servingChan s m.1 m.2, m.2 * 256 + a % 256)

/-- JGL_LIMIT without a fold (R239). -/
def fullLimit (n z : Nat) : Nat := n * z * 256

/-- RM_STORE_SIZE for a limit (R239). -/
def storeGib (limit : Nat) : Nat := limit / 2 ^ 30 - 8

/-- The Juggler port of Ringmaster (R250). -/
def portRm : Nat := 10

/-- The Juggler's own port for copies and scrub (R250). -/
def portCopy : Nat := 11

/-- The scan-out ports (R250 gives their range, 12 to 15, and not which engine has which: DESIGN CHOICE, log entry 130):
plane reads, overlay reads, prior state. -/
def portHom : Nat := 12
@[inherit_doc portHom] def portClr : Nat := 13
@[inherit_doc portHom] def portCrsl : Nat := 14

/-- The Juggler port that carries a submitter's data (R250): the host port that owns its queue, its mesh port, or
Ringmaster's. -/
def jglPortOf (s : State) : Src → Nat
  | .sq q => portMaster (sqOf s q).owner
  | .mbox _ => portRm
  | .mesh p _ _ => 2 + p
  | .fw => portRm

/-! ### Accesses (R240, R252, R253) -/

/-- At most one entry per port per MT: whether an entry is due, by the MT recorded for a key (R240, R251). -/
def perMt (m : Sparse Nat) (key : Nat) (s : State) : Bool := spGet 0 m key != mtOf s + 1

/-- An access beyond JGL_LIMIT: flag and log entry (R240). -/
def dramRange (port addr : Nat) (s : State) : State :=
  let s1 := jglErr 2 s
  if perMt s.jgl.rangeLogged port s then
    log .jglAddrRange [port, addr] { s1 with jgl := { s1.jgl with
      rangeLogged := spSet 0 s1.jgl.rangeLogged port (mtOf s + 1) } }
  else s1

/-- The access lies below JGL_LIMIT. -/
def dramInside (s : State) (addr len : Nat) : Bool := decide (addr + len ≤ s.jgl.limit)

/-- An access that reaches past JGL_LIMIT leaves its flag and entry, at the first address past it (R240). -/
def dramNote (port addr len : Nat) (s : State) : State :=
  if dramInside s addr len then s else dramRange port (max addr s.jgl.limit) s

/-- The 64-byte lines of a range. -/
def linesOf (addr len : Nat) : List Nat :=
  if len = 0 then [] else (List.range ((addr + len - 1) / 64 - addr / 64 + 1)).map (addr / 64 + ·)

/-- A line's own mark is set in a range (R252). -/
def lineMarked (s : State) (addr len : Nat) : Bool :=
  s.jgl.poisoned.any fun l => decide (addr < 64 * l + 64 ∧ 64 * l < addr + len)

/-- A read of a range comes back poisoned whatever its error check: it touches a poisoned line or reaches past
JGL_LIMIT (R240, R252). -/
def dramPoisoned (s : State) (addr len : Nat) : Bool := !dramInside s addr len || lineMarked s addr len

/-- The bytes of DRAM at an address; what nothing has written reads 0, and so does what lies past JGL_LIMIT, whose reads
touch no memory (R240). -/
def dramBytes (s : State) (addr len : Nat) : List Byte :=
  memWalk 0 len addr (memCut s.jgl.mem addr (min (addr + len) s.jgl.limit))

/-- A channel's corrected errors exceed JGL_CE_LIMIT in a window: the flag, a DEGRADED and a retraining request
(R254). -/
def ceLimit (c : Nat) (s : State) : State :=
  unitLasting 0 c (unitTransient 0 c (jglErr 0 (modChan c (fun x => { x with ceOver := true }) s)))

/-- A corrected read; the limit is passed once in a window (R254). -/
def dramCorrected (addr : Nat) (s : State) : State :=
  let c := (mapAddr s addr).1
  let s1 := modChan c (fun x => { x with ce := satAdd 32 x.ce 1, ceWindow := x.ceWindow + 1 }) s
  if s1.jgl.ceLimit.toNat < (chanOf s1 c).ceWindow ∧ !(chanOf s1 c).ceOver then ceLimit c s1 else s1

/-- A read that a retry cured (R253). -/
def dramTransient (addr : Nat) (s : State) : State :=
  modChan (mapAddr s addr).1 (fun x => { x with ueTransient := satAdd 16 x.ueTransient 1 }) s

/-- A lasting uncorrectable error: counted, recorded and logged; the fourth of a channel within 1,000 MT asks for
a retraining (R243, R253). -/
def dramLasting (port addr : Nat) (s : State) : State :=
  let c := (mapAddr s addr).1
  let s1 := modChan c (fun x => { x with ueLasting := satAdd 16 x.ueLasting 1, ueWindow := x.ueWindow + 1 }) s
  let s2 := log .jglUe [port, addr] (jglErr 1 { s1 with jgl := { s1.jgl with ueAddr := addr } })
  if (chanOf s2 c).ueWindow = 4 then unitLasting 0 c s2 else s2

/-- An RCD parity or write CRC error that recurred on its retry: lasting, and a retraining request (R243, R253). -/
def dramBus (port addr : Nat) (s : State) : State :=
  unitLasting 0 (mapAddr s addr).1 (dramLasting port addr s)

/-- What the error check of one line leaves behind (R253, R254). -/
def lineEcc (port addr : Nat) (ecc : Ecc) (s : State) : State :=
  match ecc with
  | .clean => s
  | .corrected => dramCorrected addr s
  | .retried => dramTransient addr s
  | .lasting => dramLasting port addr s
  | .bus => dramBus port addr s

/-- The error check leaves no data: it has failed its retry. -/
def eccFailed : Ecc → Bool
  | .lasting | .bus => true
  | _ => false

/-- The error checks of a read's lines, in order of address: the first at `addr`, the others at the lines after it;
lines past the list's end are clean. -/
def eccRun (port : Nat) : Nat → List Ecc → State → State
  | _, [], s => s
  | addr, e :: r, s => eccRun port (addr / 64 * 64 + 64) r (lineEcc port addr e s)

/-- What a read gives: its bytes, whether they are poisoned, and whether a retry was needed (R253). -/
structure MemRes where
  bytes : List Byte
  poison : Bool
  retried : Bool
deriving DecidableEq, Repr

/-- A read of DRAM by a port, with the outcomes of its lines' error checks (R240, R252, R253). -/
def dramRead (port addr len : Nat) (eccs : List Ecc) (s : State) : MemRes × State :=
  if !dramInside s addr len then (⟨fill len 0, true, false⟩, dramRange port addr s)
  else
    let es := eccs.take (linesOf addr len).length
    (⟨dramBytes s addr len, dramPoisoned s addr len || es.any eccFailed, es.any (· == .retried)⟩, eccRun port addr es s)

/-- A write into a poisoned line that does not cover the line leaves it poisoned (R252). -/
def keepsPoison (addr len l : Nat) : Bool := !decide (addr ≤ 64 * l ∧ 64 * l + 64 ≤ addr + len)

/-- Bytes written below JGL_LIMIT; a line covered whole loses its mark (R252). -/
def dramPut (addr : Nat) (bs : List Byte) (s : State) : State :=
  let j := s.jgl
  { s with jgl := { j with
    mem := memWrite 0 j.mem addr bs, poisoned := j.poisoned.filter fun l => keepsPoison addr bs.length l } }

/-- A write of DRAM by a port; one past JGL_LIMIT is discarded (R240, R252). -/
def dramStore (port addr : Nat) (bs : List Byte) (s : State) : State :=
  if bs.isEmpty then s
  else if !dramInside s addr bs.length then dramRange port addr s
  else dramPut addr bs s

/-- A write of DRAM with the outcome of its write CRC and parity checks, and whether its response carries poison (R252,
R253). A write whose error recurs on its retry is a lasting error: it stores nothing (DEDUCED, log entry 131). -/
def dramWrite (port addr : Nat) (bs : List Byte) (ecc : Ecc) (s : State) : Bool × State :=
  if bs.isEmpty || !dramInside s addr bs.length then (false, dramStore port addr bs s)
  else if eccFailed ecc then (true, dramBus port addr s)
  else
    let s1 := dramStore port addr bs (if ecc == .retried then dramTransient addr s else s)
    (lineMarked s1 addr bs.length, s1)

/-- Lines marked poisoned. -/
def dramPoison (lines : List Nat) (s : State) : State :=
  { s with jgl := { s.jgl with poisoned := lines.foldl addOnce s.jgl.poisoned } }

/-! ### Scratchpad -/

/-- SPM_ERR bit `i` set (R280). -/
def spmErr (i : Nat) (s : State) : State := { s with spm := { s.spm with err := setBit s.spm.err i } }

/-- A physical bank after reset (R264, R280): ON for banks 0 to 511, OFF for the spares. -/
def bankDflt (b : Nat) : Bank := ⟨if b < 512 then .on else .off, if b < 512 then 0 else 2, false, 0, 0, 0, 0, none⟩

/-- A physical bank. -/
def bankOf (s : State) (b : Nat) : Bank := spGet (bankDflt b) s.spm.banks b

/-- A physical bank changed. -/
def modBank (b : Nat) (f : Bank → Bank) (s : State) : State :=
  { s with spm := { s.spm with banks := spMod (bankDflt b) s.spm.banks b f } }

/-- The physical bank behind a logical one (R259). -/
def bankPhys (s : State) (l : Nat) : Nat := spGet l s.spm.map l

/-- The logical bank a physical one serves (R280). -/
def bankLogical (s : State) (b : Nat) : Option Nat := firstBelow 512 fun l => bankPhys s l == b

/-- The physical bank serves the secure part (R259). -/
def bankSecure (s : State) (b : Nat) : Bool := (List.range 16).any fun l => bankPhys s l == b

/-- Bytes of a bank. -/
def bankSize : Nat := 524288

/-- What a logical bank is used for (R50). -/
inductive BankUse
  | secure | lineBuffer | scanFifo | priorCache | haloStaging | waveform | tableCache | ringmaster | eventLog | general
deriving DecidableEq, Repr

/-- The use of a logical bank. R50 gives each use its number of banks and R259 places the secure part at 0 to 15; the
others follow in the order of R50's table (DESIGN CHOICE, log entry 132). A spare takes over the use with the logical
number. -/
def bankUse (l : Nat) : BankUse :=
  if l < 16 then .secure else if l < 336 then .lineBuffer else if l < 366 then .scanFifo
  else if l < 398 then .priorCache else if l < 430 then .haloStaging else if l < 438 then .waveform
  else if l < 454 then .tableCache else if l < 486 then .ringmaster else if l < 487 then .eventLog else .general

/-- A bank's content is lost (R264). -/
def bankLose (b : Nat) (s : State) : State :=
  let p := s.spm
  { s with spm := { p with
    mem := spErase p.mem (b * bankSize) ((b + 1) * bankSize)
    poisoned := p.poisoned.filter fun w => w / 16384 != b } }

/-- A bank's content copied to another (R265). -/
def bankCopy (a b : Nat) (s : State) : State :=
  let p := s.spm
  let words := (p.poisoned.filter fun w => w / 16384 == a).map fun w => w % 16384 + b * 16384
  { s with spm := { p with
    mem := memMove p.mem (a * bankSize) (b * bankSize) bankSize p.mem
    poisoned := words.foldl addOnce (p.poisoned.filter fun w => w / 16384 != b) } }

/-! ### Accesses (R260, R263, R264) -/

/-- An access of a bank that is OFF: flag, and an entry at most once per bank per MT (R264). -/
def bankOffAccess (b : Nat) (s : State) : State :=
  let s1 := spmErr 2 s
  if (bankOf s b).offLogged = some (mtOf s) then s1
  else log .spmOffAccess [b] (modBank b (fun x => { x with offLogged := some (mtOf s) }) s1)

/-- An access wakes a bank in RET (R264). -/
def bankWake (b : Nat) (s : State) : State :=
  modBank b (fun x => { x with power := if x.power == .ret then .on else x.power }) s

/-- More than 64 corrected reads of a bank within 1,000 MT (R260). -/
def spmCeLimit (b : Nat) (s : State) : State := unitLasting 1 b s

/-- What the error check of a bank read leaves behind (R260); the scratchpad has no bus whose errors recur, so that
outcome is a lasting one here. -/
def bankEcc (b word : Nat) (ecc : Ecc) (s : State) : State :=
  match ecc with
  | .clean => s
  | .corrected =>
    let s1 := spmErr 0 (modBank b (fun x => { x with ce := satAdd 32 x.ce 1, ceWindow := x.ceWindow + 1 }) s)
    if (bankOf s1 b).ceWindow = 65 then spmCeLimit b s1 else s1
  | .retried => unitTransient 1 b (modBank b (fun x => { x with ueTransient := satAdd 16 x.ueTransient 1 }) s)
  | .lasting | .bus =>
    unitLasting 1 b (log .spmUe [b, word]
      (spmErr 1 (modBank b (fun x => { x with ueLasting := satAdd 16 x.ueLasting 1 }) s)))

/-- A piece of an access that lies in one word (R263). -/
def pieceLen (a len : Nat) : Nat := min len (32 - a % 32)

/-- The word of a logical address, as the list of poisoned words numbers it. -/
def spmWord (s : State) (a : Nat) : Nat := bankPhys s (a / bankSize) * 16384 + a % bankSize / 32

/-- A read of one word's bytes: bytes and poison. While a wipe runs the secure part reads zeros (R266). -/
def wordRead (ecc : Ecc) (a len : Nat) (s : State) : (List Byte × Bool) × State :=
  let l := a / bankSize
  let b := bankPhys s l
  let off := a % bankSize
  if l < 16 && s.spm.wipeActive then ((fill len 0, false), s)
  else if (bankOf s b).power == .off then ((fill len 0, false), bankOffAccess b s)
  else
    let s1 := bankWake b s
    ((memRead 0 s1.spm.mem (b * bankSize + off) len, s1.spm.poisoned.contains (spmWord s a) || eccFailed ecc),
      bankEcc b (off / 32) ecc s1)

/-- A read of scratchpad logical addresses, word by word, with the outcome of each word's error check; words past the
list's end are clean (R263). -/
def spmReadN : Nat → List Ecc → Nat → Nat → State → (List Byte × Bool) × State
  | 0, _, _, _, s => (([], false), s)
  | n + 1, ecc, a, len, s =>
    if len = 0 then (([], false), s)
    else
      let k := pieceLen a len
      let (r, s1) := wordRead (ecc.headD .clean) a k s
      let (q, s2) := spmReadN n (ecc.drop 1) (a + k) (len - k) s1
      ((r.1 ++ q.1, r.2 || q.2), s2)

/-- A read of scratchpad logical addresses (R263). -/
def spmRead (ecc : List Ecc) (a len : Nat) (s : State) : (List Byte × Bool) × State := spmReadN (len / 32 + 2) ecc a len s

/-- Bytes stored in a physical bank: a full-word write clears poison (R260). -/
def bankStore (b off : Nat) (bs : List Byte) (s : State) : State :=
  let p := s.spm
  { s with spm := { p with
    mem := memWrite 0 p.mem (b * bankSize + off) bs
    poisoned := if bs.length = 32 then p.poisoned.erase (b * 16384 + off / 32) else p.poisoned } }

/-- The spare that a bank's writes are mirrored to (R265 step 2). -/
def mirrorOf (s : State) (b : Nat) : Option Nat :=
  match s.spm.bringIn with
  | some (f, spare, _, _) => if f = b then some spare else none
  | none => none

/-- A write of one word's bytes, mirrored to a spare that is being brought in; while a wipe runs a write to the secure
part is dropped (R263 to R266). -/
def wordWrite (a : Nat) (bs : List Byte) (s : State) : State :=
  let l := a / bankSize
  let b := bankPhys s l
  let off := a % bankSize
  if l < 16 && s.spm.wipeActive then s
  else if (bankOf s b).power == .off then bankOffAccess b s
  else
    let s1 := bankStore b off bs (bankWake b s)
    match mirrorOf s1 b with
    | some spare => bankStore spare off bs s1
    | none => s1

/-- A write of scratchpad logical addresses, word by word (R263). -/
def spmWriteN : Nat → Nat → List Byte → State → State
  | 0, _, _, s => s
  | n + 1, a, bs, s =>
    if bs.isEmpty then s
    else
      let k := pieceLen a bs.length
      spmWriteN n (a + k) (bs.drop k) (wordWrite a (bs.take k) s)

/-- A write of scratchpad logical addresses (R263). -/
def spmWrite (a : Nat) (bs : List Byte) (s : State) : State := spmWriteN (bs.length / 32 + 2) a bs s

/-- Cells of a memory laid into one bank, and into the spare it is being mirrored to: `n` of them from `a` to offset `off`.
Words covered whole lose their mark; a bank that is OFF drops them (R260, R264, R265). -/
def bankLay (l off n : Nat) (src : Mem) (a : Nat) (s : State) : State :=
  let lay (b : Nat) (s : State) : State :=
    let p := s.spm
    { s with spm := { p with
      mem := memMove src a (b * bankSize + off) n p.mem
      poisoned := p.poisoned.filter fun w =>
        !decide (b * bankSize + off ≤ 32 * w ∧ 32 * w + 32 ≤ b * bankSize + off + n) } }
  let b := bankPhys s l
  if (bankOf s b).power == .off then bankOffAccess b s
  else
    let s1 := lay b (bankWake b s)
    match mirrorOf s1 b with
    | some spare => lay spare s1
    | none => s1

/-- A byte of the scratchpad at a logical address; none where its word is poisoned (R259, R260). -/
def spmCell (s : State) (a : Nat) : Option Byte :=
  if s.spm.poisoned.contains (spmWord s a) then none
  else some (spGet 0 s.spm.mem (bankPhys s (a / bankSize) * bankSize + a % bankSize))

/-- Words of physical banks marked poisoned. -/
def wordsPoison (words : List Nat) (s : State) : State :=
  { s with spm := { s.spm with poisoned := words.foldl addOnce s.spm.poisoned } }

/-- Scratchpad words of a range written poisoned, in a spare being brought in as well (R260, R265, R292). -/
def spmPoison (a n : Nat) (s : State) : State :=
  let words := (List.range ((a + n - 1) / 32 - a / 32 + 1)).map fun k => spmWord s (32 * (a / 32 + k))
  let twins := words.filterMap fun w => (mirrorOf s (w / 16384)).map fun sp => sp * 16384 + w % 16384
  wordsPoison (words ++ twins) s

/-- The lines of DRAM, or the words of the scratchpad, that an access touches: each has its error check (R252, R260). -/
def unitsOf (spm : Bool) (a n : Nat) : Nat :=
  if spm then (if n = 0 then 0 else (a + n - 1) / 32 - a / 32 + 1) else (linesOf a n).length

/-- Assertions of SPM_BUSY counted, to whichever port they came (R262, R280). -/
def spmBusy (n : Nat) (s : State) : State :=
  { s with spm := { s.spm with busyCount := satAdd 32 s.spm.busyCount n } }

end Sys2Proof.Machine
end

