-- ==== Sys2Proof/Machine/Carousel.lean ====
section
/-! DEFINITION. The Carousel: regions, bands, waveforms, prior state, update requests (R133 to R160). -/

namespace Sys2Proof.Machine

/-- CRSL_ERR bit `i` set (R160): 0 BAND_ORDER, 1 TBL_COPY, 2 TBL_ALL, 3 PRIOR_POISON, 4 B7_CUT. -/
def crslErr (i : Nat) (s : State) : State := { s with crsl := { s.crsl with err := setBit s.crsl.err i } }

/-- The current timing: the one the raster uses, else the one recorded (R176, R177). -/
def curTiming (s : State) : Option Timing :=
  if s.scn.state == .stopped then s.scn.timing.or s.scn.inForce else s.scn.inForce.or s.scn.timing

/-- The region indices of a timing's grid, in rising order (R133). -/
def gridRegions (t : Timing) : List Nat :=
  (List.range (regionsY t.hy)).flatMap fun ry => (List.range (regionsX t.hx)).map fun rx => ry * 512 + rx

/-- The region indices of the current grid. -/
def curRegions (s : State) : List Nat := match curTiming s with | some t => gridRegions t | none => []

/-- A region context; unlisted: BLACK as after reset (R140). -/
def regionOf (s : State) (r : Nat) : Region := spGet {} s.crsl.regions r

/-- The zone of a region (R134). -/
def zoneOfRegion (r : Nat) : Nat := r / 512 / 18

/-- A zone. -/
def zoneOf (s : State) (g : Nat) : Zone := spGet {} s.crsl.zones g

/-- CRSL_CTRL in force. -/
def crslEn (s : State) : Bool := bitOf s.crsl.ctrl.act 0

/-! ### The waveform table (R146 to R148) -/

/-- The bytes of a waveform image. -/
def imageLen : Nat := 1220608

/-- The scratchpad address of a byte of a copy: the copies stand one behind the other in the waveform area, at its offsets
0x00_0000, 0x12_A000 and 0x25_4000 (R50, R148). -/
def waveAddr (n off : Nat) : Nat := 430 * bankSize + n * imageLen + off

/-- A byte of a copy of the image; none where its word is poisoned (R148, R260). -/
def waveCell (s : State) (n off : Nat) : Option Byte := spmCell s (waveAddr n off)

/-- A copy has bytes in a logical bank. -/
def waveIn (l n : Nat) : Bool := decide (waveAddr n 0 < (l + 1) * bankSize ∧ l * bankSize < waveAddr n imageLen)

/-- A copy replaced by an image whose bytes stand in a memory from address `a` (R148, R159). -/
def setCopy (n : Nat) (src : Mem) (a : Nat) (s : State) : State :=
  eachNat (fun l s =>
    let lo := max (waveAddr n 0) (l * bankSize)
    let hi := min (waveAddr n imageLen) ((l + 1) * bankSize)
    bankLay l (lo % bankSize) (hi - lo) src (a + (lo - waveAddr n 0)) s) (((List.range 8).map (430 + ·)).filter (waveIn · n)) s

/-- The address of the backing copy of the image in the frame-working region: R48 gives its part of the region, 0x1_D800_0000
to 0x1_E7FF_FFFF, and no address in it (DESIGN CHOICE, log entry 135). -/
def waveBacking : Nat := 0x1E7C00000

/-- A copy rewritten from the backing copy (R131, R148, R159). -/
def waveReload (n : Nat) (s : State) : State := setCopy n s.jgl.mem waveBacking s

/-- How many copies, from the active one on, fail at a byte: those the read's error checks failed and those whose word is
poisoned (R148). -/
def waveFails (s : State) (failed addr : Nat) : Nat :=
  let bad (k : Nat) : Bool := (waveCell s ((s.crsl.activeCopy + k) % 3) addr).isNone
  ((List.range 3).find? fun k => decide (failed ≤ k) && !bad k).getD 3

/-- A byte of the table, served from the first copy that does not fail; 0 when all three do (R148). -/
def waveByte (s : State) (failed addr : Nat) : Nat :=
  let k := waveFails s failed addr
  if 3 ≤ k then 0 else ((waveCell s ((s.crsl.activeCopy + k) % 3) addr).getD 0).toNat

/-- A table read that failed in the active copy, and how many copies it failed in: each copy whose word is not poisoned
yet has had a lasting error (R148, R260). -/
def tableFail (f : Nat × Nat) (s : State) : State :=
  if f.2 = 0 then s
  else
    let c := s.crsl
    let copies := (List.range (min f.2 3)).map fun i => (c.activeCopy + i) % 3
    let s0 := copies.foldl (fun s n =>
      if (waveCell s n f.1).isNone then s
      else bankEcc (bankPhys s (waveAddr n f.1 / bankSize)) (waveAddr n f.1 % bankSize / 32) .lasting s) s
    let s1 := log .crslTblCopy [f.1] (crslErr 1 { s0 with crsl := { c with
      tblErrCount := satAdd 32 c.tblErrCount 1, rewrite := copies.foldl addOnce c.rewrite } })
    if 3 ≤ f.2 then log .crslTblAll [f.1] (crslErr 2 s1) else s1

/-- The code of a waveform kind (R140). -/
def kindCode : WKind → Nat | .content => 0 | .clear => 1 | .wear => 2

/-- A waveform descriptor (R147). -/
structure Desc where
  len : Nat
  exit : Nat
  shift : Nat
deriving DecidableEq, Repr

/-- A descriptor read from its word (R147). -/
def parseWaveDesc (w : Nat) : Desc := ⟨w % 64, w / 256 % 64, w / 65536 % 4⟩

/-- The address of a descriptor (R146). -/
def descAddr (k : WKind) (band : Nat) : Nat := 0x40 + 4 * (kindCode k * 8 + band)

/-- The descriptor of a kind and band, from the first copy whose word does not fail (R146, R148). -/
def descOf (s : State) (k : WKind) (band : Nat) : Desc :=
  parseWaveDesc (leNat ((List.range 4).map fun i => BitVec.ofNat 8 (waveByte s 0 (descAddr k band + i))))

/-- The descriptor reads of a tick that fail because their word is poisoned: one read of each descriptor that a running
region uses (R148; DESIGN CHOICE, log entry 136: the manual does not count a tick's reads). -/
def descFails (s : State) : List (Nat × Nat) :=
  let used := s.crsl.regions.foldl (fun l c =>
    if c.2.state == .run then addOnce l (descAddr c.2.kind c.2.band) else l) []
  (used.map fun a => (a, waveFails s 0 a)).filter fun f => decide (0 < f.2)

/-- A descriptor word lies within the ranges of R147. -/
def descOk (w : Nat) : Bool :=
  let d := parseWaveDesc w
  decide (1 ≤ d.len ∧ d.len ≤ 48 ∧ d.exit < d.len ∧ d.len - d.exit ≤ 4 ∧ d.shift ≤ 2 ∧
    w = d.len + 256 * d.exit + 65536 * d.shift)

/-- Address of a content offset (R147). -/
def woffAddr (b p j ph c : Nat) : Nat := 0x1000 + ((b * 16 + p) * 64 + j) * 144 + ph * 3 + c

/-- Address of a clear offset (R147). -/
def coffAddr (b p ph c : Nat) : Nat := 0x121000 + (b * 16 + p) * 144 + ph * 3 + c

/-- Address of a wear offset (R147). -/
def wofAddr (b p ph c : Nat) : Nat := 0x125800 + (b * 16 + p) * 144 + ph * 3 + c

/-- The first failing offset of an image: MAGIC, VERSION, LENGTH, IMG_CRC, descriptors, reserved fields
(R146, R147, R158). -/
def imageBad (b : List Byte) : Option Nat :=
  let crcBytes := overlay b 0xC [0, 0, 0, 0]
  let reserved := [5, 6, 7] ++ (List.range 48).map (0x10 + ·) ++ (List.range 3936).map (0xA0 + ·)
  if b.take 4 != ascii "CRWV" then some 0
  else if leAt b 4 1 != 1 then some 4
  else if leAt b 8 4 != imageLen then some 8
  else if leAt b 0xC 4 != (crc32c (fit imageLen crcBytes)).toNat then some 0xC
  else ((firstBelow 24 fun n => !descOk (leAt b (0x40 + 4 * n) 4)).map fun n => 0x40 + 4 * n).or
    (reserved.find? fun a => byteAt b a != 0)

/-! ### Driving a ray (R143, R144) -/

/-- How table reads of this line fail: a byte address with the number of copies that failed at it (R148). -/
abbrev TableFails := List (Nat × Nat)

/-- A signed table offset as read in this line (R148). -/
def tableAt (s : State) (fails : TableFails) (addr : Nat) : Int :=
  sext 8 (waveByte s (((fails.find? fun f => f.1 == addr).map (·.2)).getD 0) addr)

/-- The driven code of one colour (R143). `p` is the prior level, already 0 in a BLACK region. -/
def drive (s : State) (fails : TableFails) (x : Region) (p tgt c : Nat) : Nat :=
  if !crslEn s then tgt
  else match x.state with
    | .idle => tgt
    | .black => 0
    | .run =>
      let sh := (descOf s x.kind x.band).shift
      match x.kind with
      | .content =>
        let j := tgt / 16
        let f : Int := (tgt % 16 : Nat)
        let o0 := tableAt s fails (woffAddr x.band p j x.phase c)
        let o1 := if j = 63 then o0 else tableAt s fails (woffAddr x.band p (j + 1) x.phase c)
        let oi := rshr ((o0 * 16 + (o1 - o0) * f) * 2 ^ sh) 4
        (sat ((tgt : Int) + oi) 0 1023).toNat
      | .clear => (sat (tableAt s fails (coffAddr x.band p x.phase c) * 2 ^ sh) 0 1023).toNat
      | .wear =>
        let t0 : Int := if x.fromBlack then 0 else tgt
        (sat (t0 + tableAt s fails (wofAddr x.band p x.phase c) * 2 ^ sh) 0 1023).toNat

/-- The table bytes a driven colour reads (R143). -/
def driveReads (s : State) (x : Region) (p tgt c : Nat) : List Nat :=
  if !crslEn s || x.state != .run then []
  else match x.kind with
    | .content => [woffAddr x.band p (tgt / 16) x.phase c, woffAddr x.band p (min 63 (tgt / 16 + 1)) x.phase c]
    | .clear => [coffAddr x.band p x.phase c]
    | .wear => [wofAddr x.band p x.phase c]

/-- A ray differs from its prior levels in some colour (R144). -/
def differs (prior tgts : List Nat) : Bool := (List.range 3).any fun c => tgts.getD c 0 / 64 != prior.getD c 0

/-! ### The prior-state buffer (R135 to R139) -/

/-- Entries of a line: one per ray, at VL24x24 one per two views (R136). -/
def priorPerLine (t : Timing) : Nat := t.hx * (if t.mode = 4 then 12 else (modeUV t.mode).1)

/-- The line pitch in bytes: 192 for each block of 256 entries (R136). -/
def priorPitch (t : Timing) : Nat := (priorPerLine t + 255) / 256 * 192

/-- The entry line of an active line (R136). -/
def priorLine (t : Timing) (a : Nat) : Nat := if t.mode = 4 then a / 2 else a

/-- The entry of a ray in its line (R136). -/
def priorEntry (t : Timing) (hx u : Nat) : Nat := if t.mode = 4 then hx * 12 + u / 2 else hx * (modeUV t.mode).1 + u

/-- The levels of an entry of a coded line (R136, R269). -/
def priorLevels (line : List Byte) (e : Nat) : List Nat :=
  let n := leNat (slice line (e / 8 * 6) 6)
  (List.range 3).map fun c => fixDecode fixPrior (chanBits 2) n (e % 8) c

/-- A line of entries coded block by block, the last block padded with zero entries (R136, R270). -/
def priorCode (entries : List Nat) (pitch : Nat) : List Byte :=
  (List.range (pitch / 6)).flatMap fun u =>
    fixEncode fixPrior (chanBits 2) ((List.range 8).map fun k => entries.getD (8 * u + k) 0)

/-! ### Update requests (R154 to R157) -/

/-- A request changed. -/
def modReq (k : Nat) (f : RegionReq → RegionReq) (s : State) : State :=
  { s with crsl := { s.crsl with reqs := modAt s.crsl.reqs k f } }

/-- The regions of a request's rectangle. -/
def reqRegions (q : RegionReq) : List Nat :=
  (List.range q.h).flatMap fun j => (List.range q.w).map fun i => (q.ry + j) * 512 + q.rx + i

/-- The request that the end of a region's waveform counts for: none for a content waveform, nor for a device clear that
a later one has replaced in slot 15 (R156, R157). -/
def runSlot (x : Region) : Option Nat := if x.stale then none else x.rslot

/-- A region of a request ends: its waveform finishes (R156). -/
def reqFinished (k : Nat) (s : State) : State := modReq k (fun q => { q with finished := q.finished + 1 }) s

/-- A region of a request ends replaced or aborted (R154, R156). -/
def reqReplaced (k : Nat) (s : State) : State :=
  modReq k (fun q => { q with notFinished := q.notFinished + 1, replaced := true }) s

/-- A region of a request ends timed out (R156). -/
def reqTimedOut (k : Nat) (s : State) : State :=
  modReq k (fun q => { q with notFinished := q.notFinished + 1, timedOut := true }) s

/-- A request is complete: each of its regions has ended (R156). -/
def reqDone (q : RegionReq) : Bool := q.entered && q.finished + q.notFinished == q.w * q.h

/-- The opcode of UPDATE_REGION (R339). -/
def opUpdateRegion : Byte := 0x40

/-- A finished request completes and frees its slot (R156). -/
def reqClose (k : Nat) (s : State) : State :=
  match lkp s.crsl.reqs k with
  | none => s
  | some q =>
    if !reqDone q then s
    else
      let s1 := { s with crsl := { s.crsl with reqs := delAt s.crsl.reqs k } }
      match q.by_ with
      | .host h =>
        let st := if q.timedOut then .timeout else if q.replaced then .aborted else .ok
        complete opUpdateRegion h st (put q.finished 0 ||| put q.notFinished 32) s1
      | _ => s1

/-- Every finished request completes. -/
def reqCloseAll (s : State) : State := eachNat reqClose (List.range 16) s

/-- A free slot for a host's request: 0 to 14 (R156). -/
def freeReqSlot (s : State) : Option Nat := firstBelow 15 fun k => (lkp s.crsl.reqs k).isNone

/-- The device starts a clear of the whole grid through slot 15; it replaces an earlier one, whose waveforms that already
run end without counting for it (R157). -/
def deviceClear (by_ : ReqBy) (preempt : Bool) (s : State) : State :=
  match curTiming s with
  | none => s
  | some t =>
    let q : RegionReq := {
      by_ := by_, rx := 0, ry := 0, w := regionsX t.hx, h := regionsY t.hy, kind := .clear,
      preempt := preempt, timeout := 0, entered := false, waited := 0, finished := 0, notFinished := 0,
      timedOut := false, replaced := false }
    let c := s.crsl
    { s with crsl := { c with
      reqs := putAt c.reqs 15 q, newReqs := c.newReqs.erase 15 ++ [15]
      regions := c.regions.map fun r => (r.1, if r.2.rslot = some 15 then { r.2 with stale := true } else r.2) } }

/-- Every region of the current grid is BLACK (R157). -/
def allBlack (s : State) : Bool := (curRegions s).all fun r => (regionOf s r).state == .black

/-- Some region of the current grid is in RUN (R153). -/
def anyRun (s : State) : Bool := (curRegions s).any fun r => (regionOf s r).state == .run

/-! ### Temperature bands (R149 to R151) -/

/-- A sensor is declared: on-die sensors always, panel sensors by TH_PSENS, NTC inputs by their enables (R376). -/
def sensDeclared (s : State) (i : Nat) : Bool :=
  if i < 40 then true
  else if i < 280 then (spGet (0 : Byte) s.th.psens ((i - 40) / 8)).getLsbD ((i - 40) % 8)
  else decide (i < 284) && nbit s.th.ntcEn (i - 280) == 1

/-- A declared sensor reports, itself or through its substitute (R149, R379). -/
def sensReports (s : State) (i : Nat) : Bool :=
  let x := spGet ({} : Sensor) s.th.sensors i
  sensDeclared s i && (!x.lost || x.subst)

/-- The present reading of a declared sensor that has given one, after substitution (R149, R379). -/
def sensReading (s : State) (i : Nat) : Option Int :=
  let x := spGet ({} : Sensor) s.th.sensors i
  if sensReports s i && x.seen then some x.value else none

/-- The highest of some readings. -/
def maxReading (s : State) (l : List Nat) : Option Int := (l.filterMap (sensReading s)).max?

/-- The panel sensors of a partner (R347). -/
def partnerSensors (g : Nat) : List Nat := (List.range 8).map (40 + 8 * g + ·)

/-- All panel sensors. -/
def panelSensors : List Nat := (List.range 240).map (40 + ·)

/-- The NTC inputs. -/
def ntcSensors : List Nat := (List.range 4).map (280 + ·)

/-- The sensors a zone takes its temperature from, and whether any source exists (R149). -/
def zoneSources (s : State) (g : Nat) : List Nat :=
  let own := (partnerSensors g).filter (sensReports s)
  let panel := panelSensors.filter (sensReports s)
  let ntc := ntcSensors.filter (sensReports s)
  if bitOf s.crsl.ctrl.act 1 && !panel.isEmpty then panel
  else if !own.isEmpty then own else if !panel.isEmpty then panel else ntc

/-- A threshold's reset value (R160). -/
def bandReset (n : Nat) : W32 :=
  match n with
  | 1 => 0xA0 | 2 => 0x140 | 3 => 0x1E0 | 4 => 0x280 | 5 => 0x320 | 6 => 0x3C0 | _ => 0x4B0

/-- A threshold register. -/
def bandReg (s : State) (n : Nat) : Rws := spGet (Rws.of (bandReset n)) s.crsl.bands n

/-- th[n] in force, 1/16 °C (R151). -/
def bandTh (s : State) (n : Nat) : Int := sext 16 (bandReg s n).act.toNat

/-- A rising temperature enters bands (R150). -/
def bandUp (th : Nat → Int) (temp : Int) : Nat → Nat → Nat
  | 0, b => b
  | n + 1, b => if b < 7 ∧ th (b + 1) ≤ temp then bandUp th temp n (b + 1) else b

/-- A falling temperature leaves bands at 2 °C below their thresholds (R150). -/
def bandDown (th : Nat → Int) (temp : Int) : Nat → Nat → Nat
  | 0, b => b
  | n + 1, b => if 0 < b ∧ temp < th b - 32 then bandDown th temp n (b - 1) else b

/-- A zone's band from a temperature (R150). -/
def bandEval (th : Nat → Int) (temp : Int) (b : Nat) : Nat := bandDown th temp 8 (bandUp th temp 8 b)

/-- A zone's new band; until its first reading it holds BAND_DEFAULT (R149, R150). -/
def zoneEval (s : State) (g : Nat) : Zone :=
  let src := zoneSources s g
  if src.isEmpty then { zoneOf s g with band := fld s.crsl.ctrl.act 6 4, nosrc := true }
  else match maxReading s src with
    | none => { zoneOf s g with
        band := if (zoneOf s g).seen then (zoneOf s g).band else fld s.crsl.ctrl.act 6 4, nosrc := false }
    | some t => { band := bandEval (bandTh s) t (zoneOf s g).band, nosrc := false, seen := true }

/-- Every zone's band is evaluated; the zones that entered B7 (R141 step 3, R152). -/
def evalBands (s : State) : State × List Nat :=
  let new := (List.range 30).map fun g => (g, zoneEval s g)
  let entered := (new.filter fun z => z.2.band == 7 && decide ((zoneOf s z.1).band < 7)).map (·.1)
  let zs := new.foldl (fun m z => spSet ({} : Zone) m z.1 z.2) s.crsl.zones
  ({ s with crsl := { s.crsl with zones := zs } }, entered)

/-- The shadow thresholds rise by at least 4 °C (R151). -/
def bandsOk (s : State) : Bool :=
  (List.range 6).all fun i =>
    decide (sext 16 (bandReg s (i + 1)).sh.toNat + 64 ≤ sext 16 (bandReg s (i + 2)).sh.toNat)

/-- The thresholds at a commit (R151). -/
def commitBands (s : State) : State :=
  let new := (List.range 7).foldl
    (fun m i => spMod (Rws.of (bandReset (i + 1))) m (i + 1) fun r => ⟨r.sh, r.sh⟩) s.crsl.bands
  if bandsOk s then { s with crsl := { s.crsl with bands := new } } else crslErr 0 s

/-! ### The steps of a tick (R141) -/

/-- A region replaced. -/
def setRegion (r : Nat) (x : Region) (s : State) : State :=
  { s with crsl := { s.crsl with regions := spSet {} s.crsl.regions r x } }

/-- A region's waveform ends (R141 step 1). Of the other fields the manual gives only that KIND is valid in RUN and that BAND
is the band latched at a start: PHASE, KIND, CUT and FROM_BLACK are cleared and BAND is kept (R140; DESIGN CHOICE, log
entry 137). -/
def regionEnd (r : Nat) (x : Region) (s : State) : State :=
  let dest : RState := match x.kind with
    | .content => .idle | .clear => .black | .wear => if x.fromBlack then .black else .idle
  let s1 := setRegion r { x with state := dest, first := false, diff := false, cut := false, rslot := none,
                                 fromBlack := false, phase := 0, kind := .content, stale := false } s
  match runSlot x with | some k => reqFinished k s1 | none => s1

/-- Step 1 for one region: advance after a complete scan (R141). -/
def advanceRegion (r : Nat) (s : State) : State :=
  let x := regionOf s r
  if x.state != .run then s
  else if x.kind == .content && x.first && !x.diff && !x.cut then regionEnd r x s
  else if (descOf s x.kind x.band).len ≤ x.phase + 1 then regionEnd r x s
  else setRegion r { x with phase := x.phase + 1, first := false, diff := false } s

/-- After an incomplete scan: DIFF is discarded, and a phase beyond a newly loaded LEN ends (R141, R159). -/
def discardRegion (r : Nat) (s : State) : State :=
  let x := regionOf s r
  if x.state != .run then s
  else if (descOf s x.kind x.band).len ≤ x.phase then regionEnd r x s
  else setRegion r { x with diff := false } s

/-- A region is cut to its early exit (R141 steps 2 and 6). -/
def cutRegion (r : Nat) (s : State) : State :=
  let x := regionOf s r
  let e := (descOf s x.kind x.band).exit
  if x.state == .run && decide (x.phase < e) then setRegion r { x with phase := e, cut := true } s else s

/-- Step 2 for one region: a request enters its queue, replacing a queued one; PREEMPT cuts (R141). -/
def enqueueRegion (k : Nat) (q : RegionReq) (r : Nat) (s : State) : State :=
  let x := regionOf s r
  let s1 := match x.queued with | some (_, old) => if old = k then s else reqReplaced old s | none => s
  let s2 := setRegion r { x with queued := some (q.kind, k) } s1
  if q.preempt then cutRegion r s2 else s2

/-- Step 2: a request enters the queues of its regions (R141). -/
def enterReq (k : Nat) (s : State) : State :=
  match lkp s.crsl.reqs k with
  | none => s
  | some q => eachNat (enqueueRegion k q) (reqRegions q) (modReq k (fun q => { q with entered := true }) s)

/-- Step 4 for one region: a retarget (R141). -/
def retargetRegion (frame : Bool) (r : Nat) (s : State) : State :=
  let x := regionOf s r
  let applies := frame || x.state == .idle || (x.state == .run && x.kind == .content)
  if !applies then s
  else
    let s1 := match runSlot x with | some k => if x.state == .run then reqReplaced k s else s | none => s
    setRegion r { x with state := .run, kind := .content, phase := 0, band := (zoneOf s (zoneOfRegion r)).band,
                         first := true, diff := false, cut := false, rslot := none, fromBlack := false, stale := false } s1

/-- A request's TIMEOUT has passed (R156). -/
def reqExpired (q : RegionReq) : Bool := decide (0 < q.timeout ∧ q.timeout ≤ q.waited)

/-- Step 5 for one region: a queued request starts in a region not in RUN (R141). A request whose TIMEOUT has passed at the
very tick its region becomes free times out and does not start: R156 gives no order (DESIGN CHOICE, log entry 138). -/
def startRegion (r : Nat) (s : State) : State :=
  let x := regionOf s r
  match x.queued with
  | none => s
  | some (kind, k) =>
    let expired := match lkp s.crsl.reqs k with | some q => reqExpired q | none => false
    if x.state == .run || expired then s
    else setRegion r { x with state := .run, kind := kind, phase := 0, band := (zoneOf s (zoneOfRegion r)).band,
                              first := true, diff := false, cut := false, queued := none, rslot := some k,
                              fromBlack := x.state == .black, stale := false } s

/-- Step 6: a zone entered B7 (R141, R152). -/
def criticalCut (zones : List Nat) (s : State) : State :=
  if zones.isEmpty then s
  else
    let s1 := eachNat cutRegion (curRegions s) s
    let s2 := crslErr 4 { s1 with crsl := { s1.crsl with cutCount := satAdd 32 s1.crsl.cutCount 1 } }
    eachNat (fun g s => log .crslB7Cut [g] s) zones s2

/-- A region taken out of use: IDLE, with the band it last latched (R140, R160). -/
def idleRegion (x : Region) : Region := { state := .idle, band := x.band }

/-- Every region of a grid is IDLE; the contexts outside the grid keep their state (R133, R160). -/
def regionsIdle (t : Timing) (s : State) : State :=
  eachNat (fun r s => setRegion r (idleRegion (regionOf s r)) s) (gridRegions t) s

/-- A context outside the grid when CRSL_CTRL.EN is cleared: it keeps its state, but a waveform or request it still holds
ends (R133, R160). -/
def outsideEnds (x : Region) : Region :=
  { x with queued := none, state := if x.state == .run then .idle else x.state, rslot := none, stale := false }

/-- CRSL_CTRL.EN is cleared: every waveform and request ends aborted, every region of the grid is IDLE (R156, R160). -/
def crslDisable (s : State) : State :=
  let abort1 (s : State) (c : Nat × Region) : State :=
    let x := c.2
    let s1 := match x.queued with | some (_, k) => reqReplaced k s | none => s
    match runSlot x with | some k => if x.state == .run then reqReplaced k s1 else s1 | none => s1
  let s1 := eachNat enterReq s.crsl.newReqs s
  let s2 := s1.crsl.regions.foldl (fun s c => setRegion c.1 (outsideEnds c.2) (abort1 s c))
    { s1 with crsl := { s1.crsl with newReqs := [] } }
  reqCloseAll (match curTiming s with | some t => regionsIdle t s2 | none => s2)

/-- The request has waited one more tick. -/
def waitReqs (s : State) : State :=
  eachNat (fun k => modReq k fun q => if q.entered then { q with waited := q.waited + 1 } else q) (List.range 16) s

/-- The switch to a checked image at a tick: a spare becomes active, and the old copy is to be rewritten (R159). Without a
new image, an active copy that has been rewritten comes back into use (R148). -/
def waveSwitch (s : State) : State :=
  match s.crsl.loaded with
  | none => if s.crsl.redone then waveReload s.crsl.activeCopy { s with crsl := { s.crsl with redone := false } } else s
  | some h =>
    let old := s.crsl.activeCopy
    complete 0x41 h .ok 0 { s with crsl := { s.crsl with
      activeCopy := (old + 1) % 3, loaded := none, redone := false, rewrite := addOnce s.crsl.rewrite old } }

/-- Steps 1 to 6 of the tick that ends a scan (R141). `frame` and `commit` tell a frame tick and a commit tick
(R142). -/
def carouselTick (complete_ frame commit : Bool) (s : State) : State :=
  let rs := curRegions s
  let s0 := (descFails s).foldl (fun s f => tableFail f s) (waveSwitch (waitReqs s))
  let s1 := eachNat (if complete_ then advanceRegion else discardRegion) rs s0
  let s2 := if crslEn s then eachNat enterReq s1.crsl.newReqs s1 else s1
  let (s3, hot) := evalBands { s2 with crsl := { s2.crsl with newReqs := [] } }
  let s4 := if crslEn s && (frame || commit) then eachNat (retargetRegion frame) rs s3 else s3
  let s5 := if crslEn s then eachNat startRegion rs s4 else s4
  let s6 := criticalCut hot s5
  let quiet := !frame && !commit && !anyRun s6
  reqCloseAll { s6 with crsl := { s6.crsl with quiet := if quiet then satAdd 32 s6.crsl.quiet 1 else 0 } }

/-- A request's still queued regions are timed out (R156). -/
def requestTimeout (k : Nat) (s : State) : State :=
  match lkp s.crsl.reqs k with
  | none => s
  | some q =>
    if !reqExpired q then s
    else
      let one (r : Nat) (s : State) : State :=
        let x := regionOf s r
        match x.queued with
        | some (_, j) => if j = k then reqTimedOut k (setRegion r { x with queued := none } s) else s
        | none => s
      reqClose k (eachNat one (reqRegions q) s)

/-- A region context as CRSL_CTX_DATA reads it (R140). -/
def regionWord (x : Region) : W32 :=
  let st := match x.state with | .idle => 0 | .run => 1 | .black => 2
  put st 0 ||| put (kindCode x.kind) 2 ||| put x.phase 4 ||| put x.band 10 ||| putB x.first 13 ||| putB x.diff 14 |||
    putB x.cut 15 ||| putB x.queued.isSome 16 ||| put ((x.queued.map fun q => kindCode q.1).getD 0) 17 |||
    put ((x.queued.map (·.2)).getD 0) 19 ||| put (x.rslot.getD 0) 23 ||| putB x.rslot.isSome 27 |||
    putB x.fromBlack 28

/-! ### Commands (R155, R158) -/

/-- UPDATE_REGION (R155, R156). -/
def doUpdateRegion (h : Hdr) (p : UpdateRegionP) (s : State) : State :=
  let fin (st : Status) : State := complete opUpdateRegion h st 0 s
  let rx := p.rx.toNat; let ry := p.ry.toNat; let w := p.w.toNat; let hh := p.h.toNat
  let beyond := match curTiming s with
    | some t => decide (regionsX t.hx < rx + w ∨ regionsY t.hy < ry + hh)
    | none => true
  if ones 2 rx || ones 2 ry || ones 2 w || ones 2 hh then fin .lengthRange
  else if w = 0 ∨ hh = 0 then fin .ok
  else if beyond then fin .lengthRange
  else if p.rsvd || decide (2 ≤ p.flags.toNat) || decide (p.kind.toNat ≠ 1 ∧ p.kind.toNat ≠ 2) then fin .badParam
  else if !crslEn s then fin .unsupported
  else match freeReqSlot s with
    | none => fin .noResource
    | some k =>
      let q : RegionReq := {
        by_ := .host h, rx := rx, ry := ry, w := w, h := hh,
        kind := if p.kind.toNat = 1 then .clear else .wear, preempt := bitOf p.flags 0, timeout := p.timeout.toNat,
        entered := false, waited := 0, finished := 0, notFinished := 0, timedOut := false, replaced := false }
      let c := s.crsl
      { s with crsl := { c with reqs := putAt c.reqs k q, newReqs := c.newReqs ++ [k] } }

/-- WAVEFORM_LOAD (R158). -/
def doWaveformLoad (h : Hdr) (p : WaveformLoadP) (s : State) : State :=
  let fin (st : Status) : State := complete 0x41 h st 0 s
  if p.length.toNat = 0 then fin .ok
  else if p.length.toNat ≠ imageLen then fin .lengthRange
  else if p.hostAddr.toNat % 64 ≠ 0 || p.rsvd then fin .badParam
  else if s.crsl.loading.isSome || s.crsl.loaded.isSome then fin .busy
  else { s with crsl := { s.crsl with loading := some h } }

/-- The image has been copied into the backing copy in the frame-working region and checked (R48, R158, R159, R353). -/
def waveformChecked (ans : HostAns) (s : State) : State :=
  match s.crsl.loading with
  | none => s
  | some h =>
    let s0 := { s with crsl := { s.crsl with loading := none } }
    match ans with
    | .refused => complete 0x41 h .access 0 s0
    | .poisoned => complete 0x41 h .uncorrectable 0 s0
    | .data bs =>
      let img := fit imageLen bs
      let m := memWrite 0 [] 0 img
      let s1 := dramStore portRm waveBacking img s0
      match imageBad img with
      | some off => complete 0x41 h .integrity (put off 0) s1
      | none =>
        let a := s.crsl.activeCopy
        let s2 := setCopy ((a + 1) % 3) m 0 (setCopy ((a + 2) % 3) m 0 s1)
        { s2 with crsl := { s2.crsl with loaded := some h } }

/-- Core 0 has rewritten a copy from the backing copy (R148, R159). What it wrote to the active copy comes into use only at
a tick, and not at all when that tick switches to a newly loaded image. -/
def tableRewritten (n : Nat) (s : State) : State :=
  if s.crsl.rewrite.contains n then
    let s1 := { s with crsl := { s.crsl with rewrite := s.crsl.rewrite.erase n } }
    if n = s.crsl.activeCopy then { s1 with crsl := { s1.crsl with redone := true } } else waveReload n s1
  else s

end Sys2Proof.Machine
end

