-- ==== Sys2Proof/Machine/Manage.lean ====
section
/-! DEFINITION. The management path: completing commands, event-log bytes, the fault journal and the spare map
in MRAM, unit-state details (R27, R348, R349, R367, R419, R423 to R426). -/

namespace Sys2Proof.Machine

/-! ### Completing commands -/

/-- The opcode a command in flight was fetched with. -/
def opFor (h : Hdr) (s : State) : Byte :=
  ((s.hq.inflight.find? fun f => f.hdr == h).map (·.opcode)).getD 0

/-- A command in flight completes (R335). -/
def fin (h : Hdr) (st : Status) (detail : W64) (s : State) : State := complete (opFor h s) h st detail s

/-- Commands completed in order with one status. -/
def finAll (st : Status) : List Hdr → State → State
  | [], s => s
  | h :: r, s => finAll st r (fin h st 0 s)

/-! ### Event-log entries as bytes (R13, R215, R367) -/

/-- The PAYLOAD of an entry: stated for RM_BAR0_ACCESS (R13) and PWR_STATE (R215), else the dictionary's. -/
def logPayload (e : LogEntry) : List Byte :=
  let a (i : Nat) : Nat := e.args.getD i 0
  match e.name with
  | .rmBar0Access => leBytes 4 (a 0) ++ leBytes 1 (a 1) ++ leBytes 1 (a 2) ++ leBytes 2 (min (a 3) 0xFFFF) ++ fill 8 0
  | .pwrState => leBytes 1 (a 0) ++ leBytes 1 (a 1) ++ leBytes 1 (a 2) ++ leBytes 1 (a 3) ++ fill 12 0
  | n => fit 16 (Config.logPayload n e.args)

/-- The 32 bytes of an event-log entry (R367). -/
def logBytes (e : LogEntry) : List Byte :=
  leBytes 12 e.time.toNat ++ leBytes 1 e.source ++
  leBytes 1 (Config.logSeverity e.name % 4 + 4 * b2n (Config.logJournal e.name) + 8 * b2n e.tb3Unset +
    16 * (e.core % 4)) ++ leBytes 2 (Config.logCode e.name) ++ logPayload e

/-! ### The fault journal (R425, R426) -/

/-- CAL_ERR bit `i` set (R435). -/
def calErr (i : Nat) (s : State) : State := { s with cal := { s.cal with err := setBit s.cal.err i } }

/-- A journal slot holds an uncleared trip record. -/
def tripHeld (s : State) (i : Nat) : Bool :=
  match lkp s.mram.journal i with | some e => e.valid && e.trip && !e.cleared | none => false

/-- Uncleared trip records. -/
def tripCount (s : State) : Nat := countBelow 256 (tripHeld s)

/-- The slots of the ring in the order in which a new entry tries them (R426). -/
def ringOrder (s : State) : List Nat := (List.range 256).map fun k => (s.mram.jrnlNewest + 1 + k) % 256

/-- The slot a new entry takes: the first that holds no uncleared trip record, and for a ninth trip the oldest
uncleared trip record (R426). -/
def journalSlot (trip : Bool) (s : State) : Option Nat :=
  if trip && decide (8 ≤ tripCount s) then (ringOrder s).find? (tripHeld s)
  else (ringOrder s).find? fun i => !tripHeld s i

/-- Content bytes 16 to 19, which with CODE tell a repetition (R426). -/
def repeatKey (bs : List Byte) : List Byte := fit 4 (slice bs 16 4)

/-- The entry of the present boot that an entry repeats (R426). -/
def journalRepeat (name : LogName) (content : List Byte) (s : State) : Option Nat :=
  (s.mram.journal.find? fun c => c.2.valid && decide (Config.logCode c.2.name = Config.logCode name) &&
    c.2.boot == s.mram.bootCount && repeatKey c.2.content == repeatKey content).map (·.1)

/-- An entry is written to the journal, or counted as a repetition (R425, R426). -/
def journalWrite (name : LogName) (source : Nat) (trip hw : Bool) (content : List Byte) (s : State) : State :=
  let m := s.mram
  match journalRepeat name content s with
  | some i =>
    { s with mram := { m with journal := modAt m.journal i fun e =>
        if e.lastRepeat + 1000 ≤ mtOf s then { e with repeatCount := satAdd 16 e.repeatCount 1, lastRepeat := mtOf s }
        else e } }
  | none =>
    match journalSlot trip s with
    | none => s
    | some i =>
      let ovw := (lkp m.journal i).isSome && !(trip && tripHeld s i)
      let e : JEntry := { seq := (m.jrnlSeq + 1) % 2 ^ 32, source := source, valid := true, cleared := false,
                          trip := trip, hw := hw, name := name, time := tb1Stamp s, boot := m.bootCount,
                          repeatCount := 0, lastRepeat := mtOf s, content := content.take 224 }
      let s1 := { s with mram := { m with
        journal := putAt m.journal i e, jrnlNewest := i, jrnlSeq := (m.jrnlSeq + 1) % 2 ^ 32,
        jrnlOverwritten := if ovw then satAdd 16 m.jrnlOverwritten 1 else m.jrnlOverwritten } }
      if ovw then calErr 4 s1 else s1

/-- A record that the device writes directly (R425); its content is the dictionary's. -/
def journalRecord (name : LogName) (hw : Bool) (args : List Nat) (s : State) : State :=
  journalWrite name (logSlot name) false hw ((Config.logPayload name args).take 224) s

/-- Calibration items written while the raster ran are in force from this tick (R433). -/
def calTick (c : Cal) : Cal :=
  { c with items := c.pendItems.foldl (fun m x => spSet {} m x.1 x.2) c.items, pendItems := [] }

/-! ### The spare map (R423, R424) -/

/-- Units of a class below `n` that are SPARED. -/
def sparedList (s : State) (cls n : Nat) : List Nat := (List.range n).filter fun i => (unitOf s cls i).state == .spared

/-- The map in force, as a commitment writes it (R424). -/
def mapNow (s : State) : SpareMap where
  homMap := s.hom.pipeMap
  homSpared := sparedList s 2 72
  spmMap := s.spm.map
  spmSpared := sparedList s 1 544
  pxMap := s.px.sliceMap
  pxSpared := sparedList s 3 32
  trzBad := (List.range 6).foldl (fun m p => spSet 0 m p (spGet ({} : MeshPort) s.trz.ports p).bad.toNat) []
  thSpare := s.th.sensors.filterMap fun c => c.2.servesFor.map fun f => (c.1, f)
  jglRank := s.jgl.chans.filterMap fun c => if c.2.rankSpared then some (c.1, c.2.rankReplaced) else none
  jglSlot := s.jgl.slotMap
  jglSpared := sparedList s 0 24

/-- The copy in force: its CRC checks and its SEQ is higher (R424). -/
def mapInForce (m : Mram) : SpareMap :=
  if !m.mapA.crcOk then (if m.mapB.crcOk then m.mapB else {})
  else if !m.mapB.crcOk then m.mapA
  else if m.mapA.seq < m.mapB.seq then m.mapB else m.mapA

/-- A commitment of the map in force to the copy not in force; a write that fails its verify twice sets
MRAM_COMMIT and is to be tried again (R423, R424). -/
def commitMap (ok : Bool) (s : State) : State :=
  if ok then
    let m := s.mram
    let toB := mapInForce m == m.mapA
    let new : SpareMap := { mapNow s with seq := (mapInForce m).seq + 1 }
    { s with
      mram := if toB then { m with mapB := new } else { m with mapA := new }
      cal := { s.cal with retryMap := false } }
  else log .calMramFail [] (calErr 3 { s with cal := { s.cal with retryMap := true } })

/-! ### Unit states (R349, R351, R419) -/

/-- The detail word of a unit (R349). -/
def unitDetail (s : State) (cls idx : Nat) : W64 :=
  let u := unitOf s cls idx
  put (uCode u.state) 0 ||| putB u.reqPending 3 ||| put u.cause 8 ||| put u.gen.toNat 16 |||
    put (u.partner.getD 0xFFFF) 32

/-- A unit's partner recorded (R347). -/
def unitPair (cls a b : Nat) (s : State) : State :=
  modUnit cls b (fun u => { u with partner := some a }) (modUnit cls a (fun u => { u with partner := some b }) s)

/-- A UNIT_STATE_SET waits for this unit. -/
def setWaits (s : State) (cls idx : Nat) : Bool := s.unitSets.any fun w => w.2.1 == cls && w.2.2.1 == idx

/-- The UNIT_STATE_SETs that wait for a unit complete (R351). -/
def unitSetsDone (st : Status) (cls idx : Nat) (s : State) : State :=
  let mine := s.unitSets.filter fun w => w.2.1 == cls && w.2.2.1 == idx
  let s1 := { s with unitSets := s.unitSets.filter fun w => !(w.2.1 == cls && w.2.2.1 == idx) }
  mine.foldl (fun s w => fin w.1 st (unitDetail s cls idx) s) s1

/-- A retraining, copy or bring-in is in progress: it is never abandoned for a later request (R243, R419). -/
def bringInBusy (s : State) : Bool :=
  s.jgl.job.isSome || s.spm.bringIn.isSome || s.hom.bringIn.isSome || s.px.bringIn.isSome

/-- The unit commands that wait, in order of arrival, each with the data-path requests still ahead of it (R348). -/
def unitTurns (s : State) : List (Hdr × Nat) := s.hq.unitTurns.filter fun t => s.hq.held.any fun x => x.1 == t.1

/-- The request at the front of core 0's queue, unless a unit command that came before it waits, or it must wait for a
bring-in (R348, R419). -/
def frontReq (s : State) : Option UnitReq :=
  match s.unitReqs with
  | [] => none
  | r :: _ => if (r.lasting && bringInBusy s) || (unitTurns s).any (fun t => t.2 == 0) then none else some r

/-- The lasting request of one unit is at the front and its unit is still in the state it reported (R348). -/
def lastingTurn (s : State) (cls idx : Nat) : Bool :=
  match frontReq s with
  | some r => r.lasting && r.cls == cls && r.idx == idx && (unitOf s cls idx).state == r.reported
  | none => false

/-- The request at the front is taken from the queue. -/
def frontPop (s : State) : State := match s.unitReqs with | [] => s | r :: _ => unitReqPop r s

/-- Core 0 applies a data-path request (R348): a stale one is dropped, a transient fault makes its unit
DEGRADED; a lasting one is answered by the step of its class. -/
def unitRequest (s : State) : State :=
  match frontReq s with
  | none => s
  | some r =>
    if (unitOf s r.cls r.idx).state != r.reported then log .unitReqStale [r.cls, r.idx] (unitReqPop r s)
    else if r.lasting then s
    else if r.reported == .online then unitTo r.cls r.idx .degraded 6 (unitReqPop r s)
    else unitReqPop r s

/-- The end of a unit's clean window: DEGRADED returns to ONLINE (R235, R418). -/
def cleanWindow (cls idx : Nat) (s : State) : State :=
  if (unitOf s cls idx).state == .degraded then unitTo cls idx .online 6 s else s

end Sys2Proof.Machine
end

