-- ==== Sys2Proof/Machine/Dram.lean ====
section
/-! DEFINITION. The Juggler: retraining, copies, folds, re-base, refresh, regulators (R233 to R255). -/

namespace Sys2Proof.Machine

/-! ### Regulators (R250) -/

/-- A regulator after reset (R250). -/
def regDflt (p : Nat) : Regulator :=
  if p < 2 then ⟨1024, 4096, 4096, false, 0⟩
  else if p = 8 ∨ p = 9 then ⟨256, 4096, 4096, false, 0⟩
  else ⟨64, 1024, 1024, false, 0⟩

/-- A port's regulator. -/
def regOf (s : State) (p : Nat) : Regulator := spGet (regDflt p) s.jgl.regs p

/-- The rate in force: cut, a sixteenth of the rate set (R250, R251). -/
def regRate (r : Regulator) : Nat := if r.cut then max (r.rate / 16) 1 else r.rate

/-- The burst in force (R250, R251). -/
def regMax (r : Regulator) : Nat := if r.cut then max (r.burst / 16) 4 else max r.burst 4

/-- The tokens a refill brings a port whose requests spend them as they come. -/
def refillGain (r : Regulator) : Nat := min (regRate r) (regMax r)

/-- A port's regulator changed. -/
def modReg (p : Nat) (f : Regulator → Regulator) (s : State) : State :=
  { s with jgl := { s.jgl with regs := spMod (regDflt p) s.jgl.regs p f } }

/-! ### Retraining, copies, fold, re-base (R243 to R248) -/

/-- A copy is in progress. -/
def copyActive (j : Jgl) : Bool :=
  match j.job with | some (.retrain _) => false | some _ => true | none => false

/-- JGL_CFG.SPARE_CH; 3 is taken as 0 (R245). -/
def spareChCount (s : State) : Nat := let n := fld s.jgl.cfg 1 0; if n = 3 then 0 else n

/-- SPARE_RANK is in effect: it needs at least 2 ranks in each channel of the interleave (R244). -/
def spareRankOn (s : State) : Bool :=
  bitOf s.jgl.cfg 3 && decide (0 < s.jgl.n) && (List.range s.jgl.n).all fun i => decide (2 ≤ (chanOf s (slotChan s i)).ranks)

/-- The cause of a channel's transitions in a removal: 7 HOST when a UNIT_STATE_SET asked for it, else 6 FAULT (R468). -/
def removalCause (s : State) (c : Nat) : Nat := if setWaits s 0 c then 7 else 6

/-- A spare channel that can take a slot: OFFLINE, idle and its last test passed (R245, R421). -/
def spareChannel (s : State) : Option Nat :=
  s.jgl.idleSpares.find? fun c => (unitOf s 0 c).state == .offline && (unitOf s 0 c).lastTest

/-- A channel's copy role (R258). -/
def setRole (c r : Nat) (s : State) : State := modChan c (fun x => { x with role := r }) s

/-- Core 0 accepts the retraining request at the front of its queue (R243). -/
def retrainStart (c : Nat) (s : State) : State :=
  if !lastingTurn s 0 c then s
  else
    let s1 := frontPop s
    let s2 := if (unitOf s1 0 c).state == .online then unitTo 0 c .degraded 6 s1 else s1
    setRole c 1 { s2 with jgl := { s2.jgl with job := some (.retrain c), jobStarted := false } }

/-- A copy, fold or re-base of a channel in service is set up, and DEGRADED where it is not already (R235, R243). -/
def removalStart (c : Nat) (failRanks : List Nat) (allowRank : Bool) (s : State) : State :=
  let s1 := if (unitOf s 0 c).state == .online then unitTo 0 c .degraded (removalCause s c) s else s
  let go (j : JglJob) (s : State) : State := { s with jgl := { s.jgl with job := some j, jobStarted := false, evacPtr := 0 } }
  match failRanks, spareChannel s1 with
  | [r], sp =>
    if allowRank && spareRankOn s1 && !(chanOf s1 c).rankSpared then setRole c 2 (go (.rankCopy c r) s1)
    else match sp with
      | some d => setRole d 3 (setRole c 2 (go (.chanCopy c d) s1))
      | none => if s1.jgl.fold.isNone then setRole c 2 (go (.foldCopy c) s1) else go (.rebase c) s1
  | _, some d => setRole d 3 (setRole c 2 (go (.chanCopy c d) s1))
  | _, none => if s1.jgl.fold.isNone then setRole c 2 (go (.foldCopy c) s1) else go (.rebase c) s1

/-- A retraining ends: a pass is a transient fault, a failure takes the first applicable action (R243). -/
def retrainDone (pass : Bool) (failRanks : List Nat) (s : State) : State :=
  match s.jgl.job with
  | some (.retrain c) =>
    let s1 := setRole c 0 { s with jgl := { s.jgl with job := none, jobStarted := false } }
    if pass then log .jglRetrainOk [c] s1
    else journalRecord .jglRetrainFail false [c] (removalStart c failRanks true (jglErr 5 s1))
  | _ => s

/-- Lines of 256 bytes that the copy in progress moves: the failing slot's below the fold's top, the local space of a
channel, or one of its ranks (R244, R245, R247). -/
def copyTotal (s : State) : Nat :=
  match s.jgl.job with
  | some (.foldCopy _) => s.jgl.foldTop
  | some (.chanCopy _ _) => s.jgl.stripes
  | some (.rankCopy c _) => s.jgl.stripes / max 1 ((chanOf s c).ranks - 1)
  | _ => 0

/-- The copy in progress runs: a fold's needs its limit reported and JGL_FOLD_ACK (R247 step 3). -/
def copyRuns (j : Jgl) : Bool :=
  match j.job with
  | some (.foldCopy _) => j.fold.isSome && j.foldAck
  | some (.chanCopy _ _) | some (.rankCopy _ _) => true
  | _ => false

/-- The lines that a copy's reads found lastingly bad: each an uncorrectable error of its own (R253). -/
def copyErrors (lines : List Nat) (s : State) : State := lines.foldl (fun s l => dramLasting portCopy (64 * l) s) s

/-- A job ends; a copy has moved all its lines. -/
def jobEnd (s : State) : State :=
  { s with jgl := { s.jgl with job := none, jobStarted := false,
                               evacPtr := if copyActive s.jgl then copyTotal s else s.jgl.evacPtr } }

/-- A rank copy ends; lines that failed their retry stay in the spare rank as poisoned lines (R244, R253). -/
def rankCopyDone (mramOk : Bool) (bad : List Nat) (s0 : State) : State :=
  let s := dramPoison bad (copyErrors bad s0)
  match s0.jgl.job with
  | some (.rankCopy c r) =>
    let s1 := modChan c (fun x => { x with rankReplaced := r, rankSpared := true, role := 0 }) (jobEnd s)
    unitTo 0 c .online 6 (log .jglRankSpared [c, r] (commitMap mramOk s1))
  | _ => s0

/-- A spare-channel copy ends: the spare takes the slot (R245); a channel taken out by UNIT_STATE_SET ends
OFFLINE (R351). Lines that failed their retry are in the spare as poisoned lines (R253). -/
def chanCopyDone (mramOk : Bool) (bad : List Nat) (s0 : State) : State :=
  let s := dramPoison bad (copyErrors bad s0)
  match s0.jgl.job with
  | some (.chanCopy c d) =>
    let slot := (chanOf s c).slot
    let byHost := setWaits s 0 c
    let s1 := setRole c 0 (modChan d (fun x => { x with slot := slot, role := 0 }) (jobEnd s))
    let j := s1.jgl
    let s2 := { s1 with jgl := { j with slotMap := spMod slot j.slotMap slot (fun _ => d),
                                        idleSpares := j.idleSpares.erase d } }
    let s3 := unitTo 0 d .online (removalCause s c) s2
    let s4 := if byHost then unitTo 0 c .offline 7 s3 else unitTo 0 c .spared 6 s3
    unitSetsDone .ok 0 c (commitMap mramOk (unitPair 0 c d s4))
  | _ => s0

/-- A fold starts: the new top and limit, and the report to core 0 (R246, R247). -/
def foldStart (c : Nat) (s : State) : State :=
  match s.jgl.job with
  | some (.foldCopy k) =>
    if k ≠ c ∨ s.jgl.fold.isSome then s
    else
      let j := s.jgl
      let f := (j.stripes + j.n - 1) / j.n
      let top := j.stripes - f
      let lim := top * j.n * 256
      { s with jgl := { j with fold := some (chanOf s c).slot, foldTop := top, limit := lim, evacPtr := 0,
                               report := some (storeGib lim), lostFrom := some lim } }
  | _ => s

/-- JGL_FOLD_ACK is set, once the new limit has been reported, and the copy starts (R247 steps 1 and 3). -/
def foldAck (s : State) : State :=
  match s.jgl.job with
  | some (.foldCopy _) => if s.jgl.fold.isSome then { s with jgl := { s.jgl with foldAck := true } } else s
  | _ => s

/-- A line of 64 bytes lies in the part of the folded slot that a fold's copy moves (R238, R246). -/
def foldMoves (j : Jgl) (l : Nat) : Bool :=
  match j.fold with
  | some f => decide (64 * l / 256 % j.n = f ∧ 64 * l / 256 / j.n < j.foldTop)
  | none => false

/-- The fold's copy ends (R247 steps 4 and 5). `lines` names lines that failed their retry: each is a lasting error of its
own (R253). They and the lines of the slot that were poisoned already are written as poisoned lines, and counted. -/
def foldCopyDone (lines : List Nat) (s : State) : State :=
  match s.jgl.job with
  | some (.foldCopy c) =>
    if !copyRuns s.jgl then s
    else
      let fresh := (lines.filter fun l => foldMoves s.jgl l && !s.jgl.poisoned.contains l).foldl addOnce []
      let old := s.jgl.poisoned.filter (foldMoves s.jgl)
      let s1 := dramPoison fresh (copyErrors fresh s)
      let s2 := if fresh.isEmpty && old.isEmpty then s1
        else jglErr 7 (modChan c (fun x => { x with ueLasting := satAdd 16 x.ueLasting old.length }) s1)
      let s3 := setRole c 0 (jobEnd { s2 with jgl := { s2.jgl with foldAck := false } })
      unitSetsDone .ok 0 c (log .jglFolded [c] (unitTo 0 c .offline 4 s3))
  | _ => s

/-- A re-base starts: the report of 8 GiB (R248). The retime it passes through is the raster's. -/
def rebaseStart (c : Nat) (s : State) : State :=
  match s.jgl.job with
  | some (.rebase k) =>
    if k ≠ c then s
    else
      let j := s.jgl
      { s with jgl := { j with
        state := .rebase, jobStarted := true, limit := 2 ^ 33, report := some 0, lostFrom := some (2 ^ 33) } }
  | _ => s

/-- The part of the frame-working region a re-base keeps (R248 step 1). -/
def rebaseKeeps : Nat × Nat := (0x1B8000000, 0x200000000)

/-- The channels that can still hold a slot after a re-base: those in the interleave but the failed one. -/
def rebaseChannels (s : State) (c : Nat) : List Nat :=
  (List.range 24).filter fun k => k != c && unitUp (unitOf s 0 k)

/-- The map built over some channels: slots in increasing channel order (R242, R248). -/
def buildMap (chs : List Nat) (stripes : Nat) (s : State) : State :=
  let j := s.jgl
  let n := chs.length
  let map := (List.range n).foldl (fun m i => spSet i m i (chs.getD i 0)) ([] : Sparse Nat)
  let s1 := { s with jgl := { j with n := n, stripes := stripes, fold := none, foldTop := stripes, evacPtr := 0,
                                     limit := fullLimit n stripes, slotMap := map } }
  (List.range n).foldl (fun s i => modChan (chs.getD i 0) (fun x => { x with slot := i }) s) s1

/-- LOW_WIDTH and its entry with 8 to 15 channels (R237). -/
def widthCheck (s : State) : State :=
  if 8 ≤ s.jgl.n ∧ s.jgl.n ≤ 15 then log .jglLowWidth [s.jgl.n] { s with jgl := { s.jgl with lowWidth := true } }
  else { s with jgl := { s.jgl with lowWidth := false } }

/-- The interleave is rebuilt in step 4 of the retime, or too few channels remain (R179, R248). `bad` names lines of the
saved part that failed their retry: they are saved as poisoned lines (R248 step 1, R253). -/
def rebaseDone (bad : List Nat) (s0 : State) : State :=
  match s0.jgl.job with
  | some (.rebase c) =>
    if s0.jgl.state != .rebase || s0.scn.state != .stopped then s0
    else
      let lost := bad.filter fun l => decide (rebaseKeeps.1 ≤ 64 * l ∧ 64 * l < rebaseKeeps.2)
      let s := dramPoison lost (copyErrors lost s0)
      let chs := rebaseChannels s c
      let s1 := unitTo 0 c .offline 4 (jobEnd s)
      let s2 := buildMap chs s1.jgl.stripes s1
      let j := s2.jgl
      let s3 := { s2 with jgl := { j with
        mem := memCut j.mem rebaseKeeps.1 rebaseKeeps.2, lostFrom := none,
        poisoned := j.poisoned.filter fun l => decide (rebaseKeeps.1 ≤ 64 * l ∧ 64 * l < rebaseKeeps.2) } }
      let s4 := if chs.length < 8 then { s3 with jgl := { s3.jgl with state := .noService } }
        else widthCheck { s3 with jgl := { s3.jgl with
          state := if s3.th.restricted then .low else .high, report := some (storeGib s3.jgl.limit) } }
      unitSetsDone .ok 0 c s4
  | _ => s0

/-! ### Refresh, row disturbance, scrub (R249 to R255) -/

/-- JGL_REF.POSTPONE: larger values are taken as 4 (R258). -/
def postponeMax (s : State) : Nat := min (fld s.jgl.ref 2 0) 4

/-- A bank's refresh interval elapses (R249). -/
def sameBankRefresh (c bank : Nat) (idle : Bool) (s : State) : State :=
  let owed := spGet 0 (chanOf s c).postponed bank
  let put1 (n : Nat) : State → State := modChan c fun x => { x with postponed := spSet 0 x.postponed bank n }
  if idle then put1 0 s
  else if owed + 1 ≤ postponeMax s then put1 (owed + 1) s
  else jglErr 8 s

/-- A postponed refresh reaches its limit and is issued at once (R249). -/
def refreshLimit (c bank : Nat) (s : State) : State :=
  jglErr 8 (modChan c (fun x => { x with postponed := spMod 0 x.postponed bank fun n => n - 1 }) s)

/-- A row reaches the activation threshold (R251). -/
def rowDisturb (c port : Nat) (s : State) : State :=
  let s1 := jglErr 3 (modChan c (fun x => { x with rh := satAdd 32 x.rh 1 }) s)
  let s2 := if port < 12 then modReg port (fun r =>
    { r with cut := true, cuts := if r.cut then r.cuts else satAdd 16 r.cuts 1 }) s1 else s1
  if perMt s2.jgl.rhLogged port s2 then
    log .jglRowDisturb [port, c] { s2 with jgl := { s2.jgl with
      rhLogged := spSet 0 s2.jgl.rhLogged port (mtOf s2 + 1) } }
  else s2

/-- A port's cut expires (R251). -/
def regCutEnd (port : Nat) (s : State) : State := modReg port (fun r => { r with cut := false }) s

/-- Patrol scrub of a line (R255): off with HOURS 0, paused during copies and switches; an uncorrectable line is
neither written nor poisoned. -/
def scrubLine (line : Nat) (ecc : Ecc) (s : State) : State :=
  if fld s.jgl.scrub 7 0 = 0 || copyActive s.jgl || s.jgl.state == .switching || !dramInside s (64 * line) 64 then s
  else (dramRead portCopy (64 * line) 64 [ecc] s).2

/-- A channel's clean window ends; a channel being retrained or copied stays DEGRADED (R235). -/
def channelClean (c : Nat) (s : State) : State := if (chanOf s c).role = 0 then cleanWindow 0 c s else s

/-! ### Commands in NO_SERVICE (R237) -/

/-- The Juggler is in NO_SERVICE. -/
def noService (s : State) : Bool := s.jgl.state == .noService

end Sys2Proof.Machine
end

