-- ==== Sys2Proof/Machine/Spm.lean ====
section
/-! DEFINITION. The scratchpad's BAR2 window, bank power, sparing, and the wipe of the secure part (R262 to R266,
R280). -/

namespace Sys2Proof.Machine

/-- Bytes of an access that lie in the secure part, logical banks 0 to 15, before the rest of it (R259). -/
def secureBytes (addr n : Nat) : Nat := min n (16 * bankSize - addr)

/-- A host access through BAR2; assertions of SPM_BUSY delayed it (R262, R263). The secure part reads as zero and takes no
write (R327). -/
def bar2Access (addr : Nat) (acc : Access) (env : MemEnv) (s : State) : State :=
  let s0 := spmBusy env.busy s
  match acc with
  | .read n =>
    let k := secureBytes addr n
    let (r, s1) := spmRead (env.reads.drop (unitsOf true addr k)) (addr + k) (n - k) s0
    emit (.readData (fill k 0 ++ r.1) r.2) s1
  | .write bs =>
    let k := secureBytes addr bs.length
    spmWrite (addr + k) (bs.drop k) s0

/-! ### Bank power (R264) -/

/-- SPM_BANK_PWR written by Ringmaster firmware: the power it asks for reads back, and banks of the secure part stay ON
(R264, R280). -/
def bankPower (b v : Nat) (s0 : State) : State :=
  let s := if 544 ≤ b || 3 ≤ v % 4 then s0 else modBank b (fun x => { x with req := v % 4 }) s0
  if 544 ≤ b || bankSecure s b then s
  else
    let x := bankOf s b
    match v % 4, x.power with
    | 0, .off => modBank b (fun x => { x with power := .on, zeroing := true }) (bankLose b s)
    | 0, _ => modBank b (fun x => { x with power := .on }) s
    | 1, .on => modBank b (fun x => { x with power := .ret }) s
    | 2, _ => modBank b (fun x => { x with power := .off, zeroing := false }) (bankLose b s)
    | _, _ => s

/-- A bank has zeroed its words (R264). -/
def bankZeroed (b : Nat) (s : State) : State := modBank b (fun x => { x with zeroing := false }) s

/-! ### Sparing (R265) -/

/-- The spare core 0 chooses: the lowest-numbered OFFLINE bank whose last test passed (R265). -/
def spareBank (s : State) : Option Nat :=
  firstBelow 544 fun b => (unitOf s 1 b).state == .offline && (unitOf s 1 b).lastTest

/-- A bring-in of a spare bank starts: the spare is powered ON and mirrors (R265). -/
def bankBringIn (b spare : Nat) (byHost : Bool) (s : State) : State :=
  let s1 := modBank spare (fun x => { x with power := .on, req := 0, zeroing := false }) (bankLose spare s)
  { s1 with spm := { s1.spm with bringIn := some (b, spare, false, byHost) } }

/-- Core 0 answers a sparing request (R265): without a spare the bank stays mapped in DEGRADED. -/
def bankSpare (b : Nat) (s : State) : State :=
  if !lastingTurn s 1 b then s
  else
    let s1 := frontPop s
    match spareBank s1 with
    | some sp => bankBringIn b sp false s1
    | none =>
      let s2 := spmErr 4 s1
      if (unitOf s2 1 b).state == .online then unitTo 1 b .degraded 11 s2 else s2

/-- The copy to the spare ends; a bank of the secure part is replaced by a wiped spare (R265, R266). `bad` names the words
of the bank that stayed uncorrectable after their retry: each is a lasting error, and the spare holds it poisoned. -/
def bankCopyDone (bad : List Nat) (s : State) : State :=
  match s.spm.bringIn with
  | some (b, sp, _, f) =>
    let words := bad.filter (· < 16384)
    let s0 := words.foldl (fun s w => bankEcc b w .lasting s) s
    let s1 := if bankSecure s b then bankLose sp s0 else wordsPoison (words.map (sp * 16384 + ·)) (bankCopy b sp s0)
    { s1 with spm := { s1.spm with bringIn := some (b, sp, true, f) } }
  | none => s

/-- A table with a backing copy is reloaded from it when its bank has been spared (R131, R148, R265 step 5): the copies of
the waveform image that lie in the bank, or the colour tables. The tables have no stated places among their banks, so
each of those banks reloads them all. -/
def tableReload (l : Nat) (s : State) : State :=
  match bankUse l with
  | .waveform => eachNat (fun n s => if waveIn l n then waveReload n s else s) (List.range 3) s
  | .tableCache => { s with clr := { s.clr with tblAct := s.clr.backing } }
  | _ => s

/-- At line 0 of the tick after the copy the new map entry applies (R265 steps 4 and 5). -/
def bankMapApply (mramOk : Bool) (s : State) : State :=
  match s.spm.bringIn with
  | some (b, sp, true, byHost) =>
    match bankLogical s b with
    | none => { s with spm := { s.spm with bringIn := none } }
    | some l =>
      let p := s.spm
      let s1 := { s with spm := { p with map := spSet l p.map l sp, bringIn := none } }
      let s2 := modBank b (fun x => { x with power := .off, req := 2 }) (bankLose b s1)
      let s3 := if byHost then unitTo 1 b .offline 7 s2 else unitTo 1 b .spared 6 s2
      let s4 := unitPair 1 b sp (unitTo 1 sp .online (if byHost then 7 else 6) s3)
      unitSetsDone .ok 1 b (tableReload l (log .spmBankSpared [b, sp] (commitMap mramOk s4)))
  | _ => s

/-- 1,000 MT without error: a DEGRADED bank returns to ONLINE (R264). -/
def bankClean (b : Nat) (s : State) : State := cleanWindow 1 b s

/-! ### The wipe of the secure part (R266) -/

/-- A wipe starts: every word of the 16 banks is written 0. -/
def wipeStart (cause : Nat) (s : State) : State :=
  let s1 := eachNat (fun l s => bankLose (bankPhys s l) s) (List.range 16) s
  { s1 with spm := { s1.spm with wipeActive := true, wipePassed := false, wipeCause := cause, wipeRetry := [] } }

/-- A bank that failed its second verify: powered OFF at once, and a sparing request (R266). -/
def wipeBankFail (l : Nat) (s : State) : State :=
  let b := bankPhys s l
  unitLasting 1 b (modBank b (fun x => { x with power := .off }) (bankLose b s))

/-- A wipe and its verify end; `failed` names the logical banks with a non-zero word. The first failure wipes
them once more, a second is lasting (R266). -/
def wipeDone (failed : List Nat) (s : State) : State :=
  if !s.spm.wipeActive then s
  else if s.spm.wipeRetry.isEmpty && !failed.isEmpty then
    { s with spm := { s.spm with wipeRetry := failed } }
  else
    let bad := failed.filter fun l => decide (l < 16) && s.spm.wipeRetry.contains l
    let passed := bad.isEmpty
    let p := s.spm
    let s1 := { s with spm := { p with
      wipeActive := false, wipeRetry := [], wipePassed := passed, wipes := satAdd 16 p.wipes 1 } }
    let s2 := if passed then s1 else spmErr 3 (eachNat wipeBankFail bad s1)
    log .spmWipe [p.wipeCause, b2n passed] s2

/-- A wipe and its verify end; a second verify is of the banks wiped once more. -/
def wipeRun (first second : List Nat) (s : State) : State :=
  let s1 := wipeDone first s
  if s1.spm.wipeActive then wipeDone second s1 else s1

/-- Banks in service and spares OFFLINE and passing (R280). -/
def spareBanksLeft (s : State) : Nat :=
  countBelow 544 fun b => (unitOf s 1 b).state == .offline && (unitOf s 1 b).lastTest

end Sys2Proof.Machine
end

