-- ==== Sys2Proof/Machine/Clock.lean ====
section
/-! DEFINITION. Time: how data-plane cycles move the time bases and everything that follows them in hardware
(R20, R250, R254, R316, R317, R368), regulated accesses and the host windows (R250, R263, R327), the raster's own
arithmetic of periods and lines (R161 to R164, R175, R383), and the Juggler's operating points (R256, R257). -/

namespace Sys2Proof.Machine

/-! ### Data-plane cycles -/

/-- One nominal data-plane cycle in 2^-48 ns (R316). -/
def nomCycle : Int := 40960 * 2 ^ 32

/-- The increment of a time base per data-plane cycle (R316). -/
def tbInc (rate spread : W32) : Int := nomCycle + rshr (nomCycle * (sext 32 rate.toNat + sext 32 spread.toNat)) 40

/-- The increment of TB1: after a device reset its last one, until its rate is written (R316, R391). -/
def tb1Inc (c : Clp) : Int := c.keep1.getD (tbInc c.rate1 c.spread)

/-- The increment of TB3. -/
def tb3Inc (c : Clp) : Int := c.keep3.getD (tbInc c.rate3 c.spread)

/-- The slew residue after some elapsed time in 2^-48 ns, returned at 50 ppm (R317). -/
def slewRun (slew : Int) (frac : Nat) (elapsed : Int) : Int × Nat :=
  if slew = 0 then (0, 0)
  else
    let acc := (frac : Int) + elapsed * 50
    let step := acc / (1000000 * 2 ^ 32)
    let rest := (acc % (1000000 * 2 ^ 32)).toNat
    if slew.natAbs ≤ step.natAbs then (0, 0)
    else (if slew < 0 then slew + step else slew - step, rest)

/-- A token bucket after some refills (R250). -/
def regRefills (k : Nat) (r : Regulator) : Regulator :=
  if k = 0 then r else { r with tok := min (r.tok + k * regRate r) (regMax r) }

/-- Some refills of the copy port while a copy runs: it spends 4 tokens for each line of 256 bytes (R244, R245, R247,
R250). -/
def copyRefill (k : Nat) (s : State) : State :=
  let r := regOf s portCopy
  let avail := r.tok + k * refillGain r
  let n := min (avail / 4) (copyTotal s - s.jgl.evacPtr)
  modReg portCopy (fun r => { r with tok := min (avail - 4 * n) (regMax r) })
    { s with jgl := { s.jgl with evacPtr := s.jgl.evacPtr + n } }

/-- Every regulator is refilled some times; the copy port's tokens carry a copy in progress on (R250). -/
def refillAll (k : Nat) (s : State) : State :=
  if k = 0 then s
  else if copyRuns s.jgl then copyRefill k ((List.range 11).foldl (fun s p => modReg p (regRefills k) s) s)
  else (List.range 12).foldl (fun s p => modReg p (regRefills k) s) s

/-- The error-counting windows of the Juggler and the scratchpad restart every 1,000 MT (R243, R254, R260). -/
def windowsRestart (s : State) : State :=
  let ch := s.jgl.chans.foldl (fun m c => spSet {} m c.1 { c.2 with ceWindow := 0, ueWindow := 0, ceOver := false }) s.jgl.chans
  let bk := s.spm.banks.foldl (fun m c => spSet (bankDflt c.1) m c.1 { c.2 with ceWindow := 0 }) s.spm.banks
  { s with jgl := { s.jgl with chans := ch }, spm := { s.spm with banks := bk } }

/-- Fabric cycles in some data-plane cycles: 1.2 GHz against 1.6 GHz (R20). -/
def fabricCycles (n : Nat) : Nat := 3 * n / 4

/-- Some data-plane cycles pass. -/
def clockRun (n : Nat) (s : State) : State :=
  let c := s.clp
  let after := c.cycle + n
  let i1 := tb1Inc c
  let sl := slewRun c.slew c.slewFrac (i1 * n)
  let s1 := { s with clp := { c with
    cycle := after, tb1 := c.tb1 + i1 * n, tb3 := c.tb3 + tb3Inc c * n, slew := sl.1, slewFrac := sl.2 } }
  let fab := fabricCycles after - fabricCycles c.cycle
  let s2 := logDrainN (min fab s1.log.input.length) s1
  let s3 := refillAll (fabricCycles after / 256 - fabricCycles c.cycle / 256) s2
  if after / 1600000 / 1000 = c.cycle / 1600000 / 1000 then s3 else windowsRestart s3

/-- The clock runs until TB2 reaches a time, if that lies ahead: an event of the raster falls at the first
data-plane cycle at or after its computed time (R162). -/
def clockTo (tb2 : Int) (s : State) : State :=
  let ahead := (tb2 - tb2Q s) * 2 ^ 32
  let inc := tb1Inc s.clp
  if ahead ≤ 0 ∨ inc ≤ 0 then s else clockRun ((ahead + inc - 1) / inc).toNat s

/-! ### Regulated accesses (R250, R327) -/

/-- Data flits of an access: 64 bytes each (R44, R250). -/
def flits (addr len : Nat) : Nat := (linesOf addr len).length

/-- Data-plane cycles until the `n`-th refill from now (R20, R250). -/
def cyclesToRefill (n : Nat) (s : State) : Nat :=
  (4 * (256 * (fabricCycles s.clp.cycle / 256 + n)) + 2) / 3 - s.clp.cycle

/-- Tokens of a port spent on `k` flits; while they are short, refills that the flits spend as they come are waited for
(R250). -/
def regSpend (p k : Nat) (s : State) : State :=
  let r := regOf s p
  let n := if k ≤ r.tok then 0 else (k - r.tok + refillGain r - 1) / refillGain r
  let s1 := if n = 0 then s else clockRun (cyclesToRefill n s) s
  modReg p (fun x => { x with tok := if n = 0 then r.tok - k else r.tok + n * refillGain r - k }) s1

/-- A port can issue `k` flits: it has the tokens, or refills will bring them. A port with RATE 0 issues nothing once its
bucket is empty (R250). -/
def regIssues (p k : Nat) (s : State) : Bool := decide (k ≤ (regOf s p).tok ∨ 0 < refillGain (regOf s p))

/-- A row whose accesses go through a regulated port: the row stands for the access as it is issued, so it waits for its
tokens, and at a port that issues nothing it has not come yet (R250; DESIGN CHOICE, log entry 133). -/
def regulated (p k : Nat) (f : State → State) (s : State) : State :=
  if 12 ≤ p ∨ k = 0 then f s else if regIssues p k s then f (regSpend p k s) else s

/-- Tokens drained by data that moves behind a command or in the background, in as many requests as it takes: its delay is
not followed (R250; DESIGN CHOICE, log entry 133). -/
def regDrain (p k : Nat) (s : State) : State := modReg p (fun r => { r with tok := r.tok - k }) s

/-- Data that a command or a background builder moves through a regulated port: nothing is issued while the port issues
nothing (R250; DESIGN CHOICE, log entry 133). -/
def regBulk (p k : Nat) (f : State → State) (s : State) : State :=
  if 12 ≤ p ∨ k = 0 then f s else if regIssues p k s then f (regDrain p k s) else s

/-- Bytes an access moves. -/
def accLen : Access → Nat
  | .read n => n
  | .write bs => bs.length

/-- A host access through BAR4 of its port (R240, R250, R253, R327). -/
def bar4Access (p : Port) (off : Nat) (acc : Access) (env : MemEnv) (s : State) : State :=
  let a := (portOf s p).bar4.toNat + off
  let jp := portMaster p
  regulated jp (flits a (accLen acc)) (fun s => match acc with
    | .read n =>
      let (r, s1) := dramRead jp a n env.reads s
      emit (.readData r.bytes r.poison) s1
    | .write bs => (dramWrite jp a bs env.write s).2) s

/-! ### The raster's arithmetic (R161 to R164, R175) -/

/-- Active lines of a timing (R161). -/
def linesA (t : Timing) : Nat := t.hy * (modeUV t.mode).2

/-- Blank lines of a timing (R161). -/
def linesB (t : Timing) : Nat := max ((linesA t + 23) / 24) 512

/-- Lines of a frame period (R161). -/
def linesVt (t : Timing) : Nat := linesA t + linesB t

/-- The base period in 2^-16 ns (R162). -/
def basePeriod (t : Timing) : Nat := (t.den * 65536 * 1000000000 + t.num / 2) / t.num

/-- The base line period in 2^-16 ns (R162). -/
def baseLine (t : Timing) : Nat := basePeriod t / linesVt t

/-- The base period in picoseconds (R162). -/
def periodPs (t : Timing) : Nat := basePeriod t * 1000 / 65536

/-- Bytes a line takes in the scan FIFO (R161). -/
def lineBytes (t : Timing) : Nat := t.hx * (modeUV t.mode).1 * 15 / 4

/-- Lines the scan FIFO holds (R164). -/
def fifoLines (t : Timing) : Nat := min 128 (15728640 / lineBytes t)

/-- The period a skip gives, with and without GRID_LOCK (R175, R383). -/
def stretched (t : Timing) (skip : Nat) (gridLock : Bool) : Nat :=
  let p := basePeriod t
  if skip = 0 then p
  else if gridLock then (if skip ≤ 8 then 2 * p else 4 * p)
  else (p * 16 + (16 - skip) - 1) / (16 - skip)

/-- A mode's maximum rate (R30). -/
def maxRate : Nat → Nat | 0 => 120 | 1 => 120 | 2 => 240 | 3 => 480 | _ => 50

/-- A rate a mode permits (R163). -/
def rateOk (mode num den : Nat) : Bool :=
  (den == 1 && decide (24 ≤ num ∧ num ≤ maxRate mode)) ||
  (den == 1001 && num % 1000 == 0 && decide (24 ≤ num / 1000 ∧ num / 1000 ≤ maxRate mode))

/-- RAY_BUDGET, rays per second (R12, R31). -/
def rayBudget : Nat := 272000000000

/-- The first slot boundary of a grid at or after a time, counted from an origin (R175, R177, R179). -/
def slotAtOrAfter (origin time : Int) (period : Nat) : Int :=
  origin + (time - origin + (period - 1 : Nat)) / period * period

/-! ### Operating points (R256, R257) -/

/-- The extension in progress goes on for more than 128 base lines: no exit cause has fixed its end, and its planned end
lies further ahead (R174, R256). -/
def extensionGoesOn (s : State) : Bool :=
  s.scn.inExtension && s.scn.exitCause.isNone && (match s.scn.inForce with
    | some t => decide (tb2Q s + (128 * baseLine t : Nat) < s.scn.tickTb2 + ((s.scn.extension + 1) * basePeriod t : Nat))
    | none => true)

/-- The device wants the low point: restricted mode, or HOLD_LOW in a hold extension that goes on (R256). -/
def wantsLow (s : State) : Bool := s.th.restricted || (bitOf s.jgl.cfg 2 && extensionGoesOn s)

/-- A retraining or re-base runs. -/
def noSwitch (j : Jgl) : Bool := match j.job with | some (.retrain _) => true | some (.rebase _) => true | _ => false

/-- A switch begins: every rank in self-refresh (R257). -/
def switchStart (s : State) : State :=
  let go (d : JglState) : State := { s with jgl := { s.jgl with state := .switching, switchTo := some d, selfRefresh := true } }
  if noSwitch s.jgl then s
  else match s.jgl.state with
    | .high => if wantsLow s then go .low else s
    | .low => if wantsLow s then s else go .high
    | _ => s

/-- The switch ends with the other timing set loaded (R257). -/
def switchDone (s : State) : State :=
  match s.jgl.state, s.jgl.switchTo with
  | .switching, some d =>
    { s with jgl := { s.jgl with state := d, switchTo := none, selfRefresh := false, fc := satAdd 16 s.jgl.fc 1 } }
  | _, _ => s

end Sys2Proof.Machine
end

