-- ==== Sys2Proof/Machine/Px.lean ====
section
/-! DEFINITION. The panel link: packets, training, readback, partners' reports, spares (R185 to R213). -/

namespace Sys2Proof.Machine

/-- PX_ERR bit `i` set (R213): 0 PATH_FAULT, 1 PARTNER_ABSENT, 2 MISWIRED, 3 BC_BAD, 4 CRCREPORT_MISSING,
5 TRAIN_FAIL, 6 PARTNER_FAULT, 7 TEMP_STALE, 8 HEADROOM_STALE, 9 FIR_INVALID. -/
def pxErr (i : Nat) (s : State) : State := { s with px := { s.px with err := setBit s.px.err i } }

/-- A group. -/
def grp (s : State) (g : Nat) : Group := spGet {} s.px.groups g

/-- A group changed. -/
def modGrp (g : Nat) (f : Group → Group) (s : State) : State :=
  { s with px := { s.px with groups := spMod {} s.px.groups g f } }

/-- PX_CTRL.DUAL_INPUT. -/
def dualInput (s : State) : Bool := bitOf s.px.ctrl 1

/-! ### Slices and groups (R185 to R187) -/

/-- The group that serves a slice. -/
def sliceGrp (s : State) (sl : Nat) : Nat := spGet sl s.px.sliceMap sl

/-- The slice a group serves. -/
def grpSlice (s : State) (g : Nat) : Option Nat := firstBelow 30 fun sl => sliceGrp s sl == g

/-- First hogel column of a slice (R186). -/
def hxFirst (hx sl : Nat) : Nat := sl * hx / 30

/-- A group serves a slice and is ONLINE or DEGRADED. -/
def serves (s : State) (g : Nat) : Bool := (grpSlice s g).isSome && unitUp (unitOf s 3 g)

/-- The serving groups. -/
def servingGroups (s : State) : List Nat := (List.range 32).filter (serves s)

/-- Downstream data flows on a group's link (R195). -/
def flows (l : LinkState) : Bool := l == .active || l == .bcRetrain

/-- PX_SPSEL of a half. -/
def spSel (s : State) (h : Nat) : Nat := if h = 0 then s.px.spSel0 else s.px.spSel1

/-- PX_SPSEL of a half set. -/
def setSel (h v : Nat) (s : State) : State :=
  if h = 0 then { s with px := { s.px with spSel0 := v } } else { s with px := { s.px with spSel1 := v } }

/-- The slice whose partner a group trains against: the one it serves, or for a spare the one its select names
(R196, R211, R212). -/
def trainSlice (s : State) (g : Nat) : Option Nat :=
  (grpSlice s g).or (if 30 ≤ g && decide (spSel s (g - 30) < 15) then some (15 * (g - 30) + spSel s (g - 30)) else none)

/-! ### The stream of a group (R191 to R193) -/

/-- A group's stream goes on by some bytes: the block rows they fill leave with them (R191, R192). -/
def streamOn (g : Nat) (bytes : List Byte) (s : State) : List (List (BitVec 130)) × State :=
  let x := grp s g
  let all := x.part ++ bytes
  let r := dataRows 12 (all.length / 192) x.lfsr all
  (r.1, modGrp g (fun x => { x with part := r.2.1, lfsr := r.2.2 }) s)

/-- The bytes of idle fill to the next block row (R191, R198). -/
def rowPad (x : Group) : List Byte := fill ((192 - x.part.length % 192) % 192) 0

/-- An ordered set on all lanes of a group; idle fill first completes the block row in progress. SDS resets the scramblers
and opens a new row (R191, R193). -/
def sendSet (g : Nat) (code : Byte) (s : State) : State :=
  let (rows, s1) := streamOn g (rowPad (grp s g)) s
  let s2 := if code == 0xE1 then modGrp g (fun x => { x with part := [], lfsr := (List.range 12).map lfsrStart }) s1 else s1
  emit (.pxSet g rows (setBlock code)) s2

/-! ### Packets (R198 to R202) -/

/-- A packet header with its HCRC (R198). -/
def pxHeader (ty flags len line tick pos seq : Nat) : List Byte :=
  let b := leBytes 1 ty ++ leBytes 1 flags ++ leBytes 2 len ++ leBytes 4 line ++ leBytes 2 tick ++ leBytes 1 pos ++
    leBytes 1 seq ++ [0, 0]
  b ++ leBytes 2 (crc32c b).toNat

/-- Units of a packet with a payload (R199). -/
def pxLen (payload : List Byte) : Nat := if payload.isEmpty then 1 else 1 + (payload.length + 19) / 16

/-- Payload, PCRC and padding (R199). -/
def pxBody (payload : List Byte) : List Byte :=
  if payload.isEmpty then [] else fit (16 * (pxLen payload - 1)) (payload ++ leBytes 4 (crc32c payload).toNat)

/-- The packet that ends a readback span: ABORT, or the HOLD that opens an extension (R209). -/
def endsSpan (ty flags : Nat) : Bool := ty == 0x13 || (ty == 0x14 && flags % 2 == 1)

/-- A packet leaves on a group whose downstream data flows: it takes the next SEQ, a LINE starts on the first byte of a
block row, and idle fill follows it (R198). The fill belongs to the readback span, except behind the packet that ends
it (R209). -/
def pxSend (g ty flags line tick pos : Nat) (payload : List Byte) (s : State) : State :=
  let x := grp s g
  if !flows x.link then s
  else
    let pkt := (if ty = 0x11 then rowPad x else []) ++ pxHeader ty flags (pxLen payload) line tick pos x.seq ++ pxBody payload
    let idle := fill (16 * Config.idleUnits s.free) (0 : Byte)
    let span := if endsSpan ty flags then pkt else pkt ++ idle
    let (rows, s1) := streamOn g (pkt ++ idle) s
    emit (.px g (pxHeader ty flags (pxLen payload) line tick pos x.seq ++ pxBody payload) rows) (modGrp g (fun x => { x with
      seq := (x.seq + 1) % 256, spanCrc := if x.spanOpen then crcRun x.spanCrc span else x.spanCrc })
      { s1 with free := s1.free + 1 })

/-- A packet on the group of a slice. -/
def pxSendSlice (ty flags line : Nat) (payload : Nat → List Byte) (sl : Nat) (s : State) : State :=
  let g := sliceGrp s sl
  if serves s g then pxSend g ty flags line (s.scn.tick % 65536) sl (payload sl) s else s

/-- A packet on every group that serves a slice (R201). -/
def pxSendAll (ty flags line : Nat) (payload : Nat → List Byte) (s : State) : State :=
  eachNat (pxSendSlice ty flags line payload) (List.range 30) s

/-- The payload of a CMD: entries two to a unit, then the closing unit's first 12 bytes (R202). -/
def cmdPayload (cmdSeq : Nat) (es : List (Nat × W32)) : List Byte :=
  let body := es.flatMap fun e => leBytes 4 (e.1 % 65536) ++ leBytes 4 e.2.toNat
  fit ((es.length + 1) / 2 * 16) body ++ leBytes 1 cmdSeq ++ leBytes 1 es.length ++ fill 10 0

/-- The ray codes of a LINE packet: ray k in bits [30k + 29 : 30k] (R200). -/
def rayBits : List (List Nat) → Nat
  | [] => 0
  | r :: t => r.getD 0 0 % 1024 + r.getD 1 0 % 1024 * 1024 + r.getD 2 0 % 1024 * 1048576 + 2 ^ 30 * rayBits t

/-- Ray codes as bytes: 15 for each four rays (R200). -/
def rayBytes : List (List Nat) → List Byte
  | a :: b :: c :: d :: t => leBytes 15 (rayBits [a, b, c, d]) ++ rayBytes t
  | [] => []
  | t => leBytes 15 (rayBits t)

/-! ### CMD packets (R202, R203) -/

/-- Entries cut into packets of at most 120 (R202). -/
def cmdChunks : Nat → List (Nat × W32) → List (List (Nat × W32))
  | 0, _ => []
  | n + 1, es => if es.isEmpty then [] else es.take 120 :: cmdChunks n (es.drop 120)

/-- Entries queued for a group, or for every serving group with BROADCAST (R202). -/
def queueCmd (g : Option Nat) (es : List (Nat × W32)) (s : State) : State :=
  { s with px := { s.px with cmds := s.px.cmds ++ (cmdChunks (es.length + 1) es).map fun c => (g, c) } }

/-- The geometry of a slice in the partner base registers (R203); a partner served by a spare takes input B
(R212). PB_LATENCY is the partner configuration's. -/
def geometry (s : State) (t : Timing) (sl : Nat) : List (Nat × W32) :=
  let f := hxFirst t.hx sl
  [(0x0000, put f 0 ||| put (hxFirst t.hx (sl + 1) - f) 16), (0x0004, put sl 0),
   (0x0008, put t.hx 0 ||| put t.hy 16),
   (0x000C, put (modeUV t.mode).1 0 ||| put (modeUV t.mode).2 8 ||| put t.mode 16), (0x0010, put (linesB t) 0),
   (0x0018, putB (decide (30 ≤ sliceGrp s sl)) 0)]

/-- Configuration and geometry for one partner. -/
def queuePartner (config : Bool) (sl : Nat) (s : State) : State :=
  match curTiming s with
  | none => s
  | some t => queueCmd (some (sliceGrp s sl)) ((if config then s.px.config else []) ++ geometry s t sl) s

/-- The partner configuration at a start, and the geometry (R202). -/
def queueConfig (s : State) : State := eachNat (queuePartner true) (List.range 30) s

/-- The geometry at a retime's step 4 (R202). -/
def queueGeometry (s : State) : State := eachNat (queuePartner false) (List.range 30) s

/-- The slice a CMD to a group names: the one it serves or trains for. -/
def cmdPos (s : State) (g : Nat) : Nat := (trainSlice s g).getD 0

/-- The CMD packets due leave after a blank line's BLANK; a spare's PB_INPUT brings the new map to the shadow
(R201, R202, R212 step 3). -/
def sendCmds (line : Nat) (s : State) : State :=
  let one (s : State) (c : Option Nat × List (Nat × W32)) : State :=
    let n := s.px.cmdSeq
    let s1 := { s with px := { s.px with cmdSeq := (n + 1) % 256 } }
    match c.1 with
    | some g => pxSend g 0x15 0 line (s1.scn.tick % 65536) (cmdPos s1 g) (cmdPayload n c.2) s1
    | none => pxSendAll 0x15 1 line (fun _ => cmdPayload n c.2) s1
  let s1 := s.px.cmds.foldl one { s with px := { s.px with cmds := [] } }
  match s.px.bringIn with
  | some (_, sp, sl, _) =>
    if (grp s sp).link == .active && s.px.sliceMapSh.isNone && !s.px.cmds.isEmpty then
      { s1 with px := { s1.px with sliceMapSh := some (spSet sl s1.px.sliceMap sl sp) } }
    else s1
  | none => s1

/-! ### Readback spans (R209) -/

/-- A group's span ends; one during which the group was not ACTIVE throughout is not compared (R209). -/
def spanClose (x : Group) : Group :=
  if !x.spanOpen then x
  else if !x.spanWhole then { x with spanOpen := false, awaiting := false, padDue := false, farHeld := none }
  else { x with
    spanOpen := false, awaiting := true, padDue := true, crcPre := ~~~x.spanCrc, closedTick := x.spanTick, farHeld := none,
    prevBad := x.curBad, prevFarErr := x.curFarErr, curBad := false, curFarErr := false,
    sinceRetry := x.sinceRetry.bind fun k => if k < 1000 then some (k + 1) else none }

/-- A group's span begins with the BLANK of line 0 (R209). -/
def spanOpenNow (tick : Nat) (x : Group) : Group :=
  { x with spanOpen := true, spanWhole := x.link == .active, spanCrc := 0xFFFFFFFF#32, spanTick := tick % 65536 }

/-- A group's link state changes; leaving ACTIVE spoils the span in progress (R209). -/
def linkTo (g : Nat) (l : LinkState) (s : State) : State :=
  modGrp g (fun x => { x with link := l, spanWhole := x.spanWhole && l == .active }) s

/-! ### Training (R189, R190, R194 to R197) -/

/-- PRE and POST of a preset (R189). -/
def presetFir : Nat → Nat × Nat
  | 0 => (0, 0) | 1 => (0, 6) | 2 => (0, 12) | 3 => (0, 18) | 4 => (4, 8) | 5 => (6, 12) | 6 => (4, 16) | _ => (8, 18)

/-- A combination of coefficients is valid (R189). -/
def firOk (pre post : Nat) : Bool := decide (pre ≤ 15 ∧ post ≤ 24 ∧ 24 + pre + post ≤ 63)

/-- The coefficients a training starts from (R190). -/
def firStart (w : W32) : Nat × Nat := if bitOf w 31 then (fld w 3 0, fld w 12 8) else presetFir (fld w 26 24)

/-- A write of PX_GRP_FIR (R190). -/
def firWrite (g : Nat) (v : W32) (s : State) : State :=
  if bitOf v 31 && !firOk (fld v 3 0) (fld v 12 8) then pxErr 9 s
  else
    let w : W32 := put (fld v 3 0) 0 ||| put (fld v 12 8) 8 |||
      put (wrapN 6 (63 - (fld v 3 0 : Int) - fld v 12 8)) 16 ||| put (fld v 26 24) 24 ||| putB (bitOf v 31) 31
    modGrp g (fun x => { x with fir := w }) s

/-- The device's training set on a lane (R194). -/
def deviceTs (kind g lane flags pre post preset : Nat) : List Byte :=
  let b := leBytes 1 kind ++ leBytes 1 lane ++ leBytes 1 g ++ leBytes 1 flags ++ leBytes 1 pre ++ leBytes 1 post ++
    leBytes 1 preset ++ leBytes 4 0x921600B0 ++ fill 4 0
  b ++ leBytes 1 (b.map (·.toNat)).sum

/-- The 12 lanes of a group send a training set, each in an ordered-set block (R191, R194). -/
def sendTs (g kind flags : Nat) (s : State) : State :=
  let x := grp s g
  eachNat (fun l => emit (.pxTs g (block130 false (deviceTs kind g l flags x.pre x.post (fld x.firIn 26 24))))) (List.range 12) s

/-- A group sends sixteen TS2 on each lane (R195). -/
def sendTs2 (g : Nat) (s : State) : State :=
  eachNat (fun _ s => modGrp g (fun x => { x with ts2Tx := x.ts2Tx + 1 }) (sendTs g 0x2D 0 s)) (List.range 16) s

/-- A training begins in DETECT, with PX_GRP_FIR as it stands: a later write waits for the next training (R190, R195). -/
def trainStart (g : Nat) (second : Bool) (s : State) : State :=
  modGrp g (fun x => { x with
    link := .detect, second := second, miswired := false, spanWhole := false,
    firIn := x.fir, pre := (firStart x.fir).1, post := (firStart x.fir).2, trainings := satAdd 8 x.trainings 1,
    eqOk := 0, eqReqs := 0, ts2Rx := 0, ts2Tx := 0, bcDown := false }) s

/-- A link in training. -/
def inTraining (l : LinkState) : Bool := l == .detect || l == .trainEq || l == .trainCfg

/-- A spare that serves a slice has its select on the slice's partner (R212). -/
def selectServing (g : Nat) (s : State) : State :=
  match grpSlice s g with
  | some sl => if 30 ≤ g then setSel (g - 30) (sl - 15 * (g - 30)) s else s
  | none => s

/-- A group may train: a spare group only with DUAL_INPUT set (R211). -/
def mayTrain (s : State) (g : Nat) : Bool := decide (g < 30) || dualInput s

/-- Training is requested (R195): a serving group with EN set, or with DUAL_INPUT set an idle spare against the
first partner of its half (R211). -/
def trainRequest (g : Nat) (s : State) : State :=
  let x := grp s g
  if !bitOf s.px.ctrl 0 || !(x.link == .disabled || x.link == .failed) then s
  else if !mayTrain s g then s
  else if serves s g then trainStart g false (selectServing g s)
  else if 30 ≤ g && (unitOf s 3 g).state == .offline && s.px.bringIn.isNone then
    trainStart g false (setSel (g - 30) 0 s)
  else s

/-- A PX bring-in ends without its spare: the failed group becomes OFFLINE (R212 steps 1 and 2). -/
def bringInFail (cause : Nat) (s : State) : State :=
  match s.px.bringIn with
  | none => s
  | some (f, sp, _, byHost) =>
    let s1 := setSel (sp - 30) 15 { s with px := { s.px with bringIn := none } }
    let s2 := unitTo 3 sp .offline cause (modUnit 3 sp (fun u => { u with lastTest := false }) (linkTo sp .disabled s1))
    let force := s2.unitSets.any fun w => w.2.1 == 3 && w.2.2.1 == f && w.2.2.2
    if byHost && !force then unitSetsDone .noResource 3 f s2
    else unitSetsDone .ok 3 f (unitTo 3 f .offline (if byHost then 7 else 11) (linkTo f .disabled s2))

/-- DUAL_INPUT is cleared: both spare groups are DISABLED with their selects at 15, and a bring-in ends without its spare
(R211, R212 step 1). -/
def sparesOff (s : State) : State :=
  let s1 := eachNat (fun g s => setSel (g - 30) 15 (linkTo g .disabled s)) [30, 31] s
  match s.px.bringIn with
  | none => s1
  | some (f, _, _, byHost) =>
    let s2 := { s1 with px := { s1.px with bringIn := none, sliceMapSh := none } }
    unitSetsDone .ok 3 f (unitTo 3 f .offline (if byHost then 7 else 11) (linkTo f .disabled s2))

/-- A spare's check ends (R211): its result is kept and the select returns to 15. -/
def spareChecked (g : Nat) (pass : Bool) (s : State) : State :=
  let s1 := setSel (g - 30) 15 (linkTo g .disabled s)
  let s2 := { s1 with px := { s1.px with checked := addOnce s1.px.checked g } }
  modUnit 3 g (fun u => { u with lastTest := pass }) s2

/-- The spare of the bring-in in progress. -/
def bringInSpare (s : State) (g : Nat) : Bool := match s.px.bringIn with | some (_, sp, _, _) => sp == g | none => false

/-- A training failed for good: the group enters FAILED with its log entry and a sparing request; a spare's check
or bring-in ends instead (R197, R211, R212). -/
def trainFailed (g phase cause : Nat) (s : State) : State :=
  let s1 := log .pxTrainFail [g, phase, cause] (pxErr 5 (modGrp g (fun x => { x with second := false, absent := phase == 1 }) s))
  if bringInSpare s g then bringInFail 3 s1
  else if 30 ≤ g && (grpSlice s g).isNone then spareChecked g false s1
  else unitLasting 3 g (linkTo g .failed s1)

/-- A training phase by the link state it fails in. -/
def trainPhase : LinkState → Nat | .detect => 1 | .trainEq => 2 | _ => 3

/-- A group in TEST exchanges TS1 with its partner without end (R211). -/
def linkTest (s : State) (g : Nat) : Bool := (unitOf s 3 g).state == .test

/-- A training phase times out (R196, R197, R210). -/
def trainTimeout (g : Nat) (s : State) : State :=
  let x := grp s g
  if !inTraining x.link || linkTest s g then s
  else if !x.second then trainStart g true s
  else
    let s1 := if x.link == .detect then log .pxPartnerAbsent [g] (pxErr 1 s) else s
    trainFailed g (trainPhase x.link) 0 s1

/-- A training fails MISWIRED (R196, R210): no second training and no sparing request. -/
def miswire (g : Nat) (s : State) : State :=
  let s1 := log .pxMiswired [g] (pxErr 2 (modGrp g (fun x => { x with miswired := true, second := false })
    (linkTo g .disabled s)))
  if bringInSpare s g then bringInFail 8 s1
  else if 30 ≤ g && (grpSlice s g).isNone then spareChecked g false s1 else s1

/-- CHECK of a training set: the sum of bytes 0 to 14 (R194). -/
def tsCheck (ts : List Byte) : Bool :=
  ts.length == 16 && ((ts.take 15).map (·.toNat)).sum % 256 == (byteAt ts 15).toNat

/-- A TS1 in TRAIN_EQ: a request is applied or refused, and eight in a row without REQ end the phase (R195,
R196); in TEST each is answered with a TS1 (R211). -/
def ts1Rx (g : Nat) (ts : List Byte) (s : State) : State :=
  let x := grp s g
  let req := bitOf (byteAt ts 3) 0
  let want := if bitOf (byteAt ts 3) 2 then presetFir (fld (byteAt ts 6) 2 0)
    else (fld (byteAt ts 4) 3 0, fld (byteAt ts 5) 4 0)
  let asked := req || bitOf (byteAt ts 3) 2
  let ok := firOk want.1 want.2 && !bitOf x.firIn 31 && decide (x.eqReqs < 32)
  let n := if req then 0 else x.eqOk + 1
  let s1 := if !asked then modGrp g (fun x => { x with eqOk := n }) s
    else if ok then sendTs g 0x1E 0 (modGrp g (fun x => { x with
      eqOk := n, pre := want.1, post := want.2, eqReqs := x.eqReqs + 1 }) s)
    else sendTs g 0x1E 2 (modGrp g (fun x => { x with eqOk := n }) s)
  if linkTest s g then (if asked then s1 else sendTs g 0x1E 0 s1)
  else if 8 ≤ n then sendTs2 g (linkTo g .trainCfg s1) else s1

/-- A TS2 in TRAIN_CFG: identity, band strap and input (R196). -/
def ts2Rx (g : Nat) (ts : List Byte) (s : State) : State :=
  let strap := fld (byteAt ts 2) 4 0
  let inB := bitOf (byteAt ts 2) 7
  let s1 := modGrp g (fun x => { x with partnerId := BitVec.ofNat 32 (leAt ts 7 4), strap := strap, inputB := inB }) s
  let selected := decide (30 ≤ g) && decide (spSel s (g - 30) < 15)
  if trainSlice s g != some strap || (inB && !selected) then miswire g s1
  else modGrp g (fun x => { x with ts2Rx := x.ts2Rx + 1 }) s1

/-- A partner's TS1 or TS2 (R194, R196); one whose CHECK is wrong is ignored. -/
def tsRx (g : Nat) (ts : List Byte) (s : State) : State :=
  let x := grp s g
  if !tsCheck ts then s
  else if byteAt ts 0 == 0x1E && x.link == .trainEq then ts1Rx g ts s
  else if byteAt ts 0 == 0x2D && x.link == .trainCfg then ts2Rx g ts s
  else s

/-- The back-channel receivers gain lock: DETECT and BC_RETRAIN end (R195); a sleeping group's is noted for its wake
(R208). -/
def backLock (g : Nat) (s : State) : State :=
  match (grp s g).link with
  | .detect => sendTs g 0x1E 0 (linkTo g .trainEq s)
  | .bcRetrain => modGrp g (fun x => { x with bcSecond := false, bcDown := false }) (linkTo g .active s)
  | .sleep => modGrp g (fun x => { x with bcDown := false }) s
  | _ => s

/-- A bring-in's spare has trained: PB_INPUT goes to the failed group and the spare in the next blank; with the
raster STOPPED the map applies directly (R212, R218). -/
def bringInTrained (s : State) : State :=
  match s.px.bringIn with
  | some (f, sp, sl, _) =>
    if s.scn.state == .stopped then { s with px := { s.px with sliceMapSh := some (spSet sl s.px.sliceMap sl sp) } }
    else queueCmd (some sp) [(0x0018, 1)] (queueCmd (some f) [(0x0018, 1)] s)
  | none => s

/-- The new slice map applies (R212 step 4): the failed group SPARED, or OFFLINE where the host took it out (R351). -/
def sliceMapApply (mramOk : Bool) (s : State) : State :=
  match s.px.sliceMapSh, s.px.bringIn with
  | some m, some (f, sp, _, byHost) =>
    let s1 := linkTo f .disabled { s with px := { s.px with sliceMap := m, sliceMapSh := none, bringIn := none } }
    let s2 := if byHost then unitTo 3 f .offline 7 s1 else unitTo 3 f .spared 6 s1
    let s3 := unitPair 3 f sp (unitTo 3 sp .online (if byHost then 7 else 6) s2)
    unitSetsDone .ok 3 f (log .pxGroupSpared [f, sp] (commitMap mramOk s3))
  | _, _ => s

/-- A spare that came in while the raster stands gets its partner's configuration queued, input B with it (R202, R212,
R218). -/
def spareConfig (b : Option (Nat × Nat × Nat × Bool)) (s : State) : State :=
  match b with | some (_, _, sl, _) => queuePartner true sl s | none => s

/-- A group completes TRAIN_CFG (R195, R197): SDS, ACTIVE; a second training that succeeds is a transient fault; a
spare's check passes, or its bring-in goes on. -/
def trainDone (g : Nat) (s : State) : State :=
  let x := grp s g
  if !(x.link == .trainCfg) || decide (x.ts2Rx < 16 ∨ x.ts2Tx < 16) then s
  else
    let s1 := sendSet g 0xE1 (modGrp g (fun x => { x with second := false }) (linkTo g .active s))
    let s2 := if x.second then unitTransient 3 g (log .pxRetrain [g] s1) else s1
    if bringInSpare s g then
      let s3 := bringInTrained s2
      if s.scn.state == .stopped then spareConfig s.px.bringIn (sliceMapApply true s3) else s3
    else if 30 ≤ g && (grpSlice s g).isNone && (unitOf s 3 g).state == .offline then spareChecked g true s2
    else s2

/-- A group retrains once, as the retry of R209 (R210). -/
def retrainRetry (g : Nat) (s : State) : State :=
  unitTransient 3 g (trainStart g false (modGrp g (fun x => { x with sinceRetry := some 0 }) s))

/-! ### Comparing spans (R209, R210) -/

/-- A mismatching span (R209): `far` tells FAR from NEAR, `rxErr` the CRCREPORT's RX_ERR. -/
def spanMismatch (g : Nat) (far rxErr : Bool) (s : State) : State :=
  let x := grp s g
  let s1 := modGrp g (fun x => { x with
    cause := if far then 2 else 1, mismatch := satAdd 16 x.mismatch 1, curBad := true, curFarErr := far && rxErr }) s
  let s2 := log .pxPathFault [g, if far then 2 else 1]
    (pxErr 0 { s1 with px := { s1.px with pathFault := setBit s1.px.pathFault g } })
  if x.sinceRetry.isSome then unitLasting 3 g s2
  else if x.prevBad then
    if far && rxErr && x.prevFarErr then retrainRetry g s2 else unitLasting 3 g s2
  else unitTransient 3 g s2

/-- PRE of the span closed last is compared with FAR, PRE and PAD having been found equal (R209). -/
def farCompare (g : Nat) (far : W32) (rxErr : Bool) (s : State) : State :=
  let x := grp s g
  if far != x.crcPre && !x.curBad then spanMismatch g true rxErr s else s

/-- At the tick, PRE is compared with PAD; `pad` names the groups whose loopback differed. A CRCREPORT that came before
the tick, of a span that ended early, is compared after it (R209). -/
def padCompare (pad : List (Nat × W32)) (g : Nat) (s : State) : State :=
  let x := grp s g
  if !x.padDue then s
  else
    let p := (pad.find? fun c => c.1 == g).map (·.2)
    let v := p.getD x.crcPre
    let s1 := modGrp g (fun x => { x with padDue := false, farHeld := none, crcPad := v })
      { s with px := { s.px with spanTick := x.closedTick } }
    if v != x.crcPre then (if x.curBad then s1 else spanMismatch g false false s1)
    else match x.farHeld with
      | some (far, rxErr) => farCompare g far rxErr s1
      | none => s1

/-- Acceptance of a back-channel packet (R206). -/
def bcOk (x : Group) (ty len : Nat) (pkt : List Byte) : Bool :=
  pkt.length == 16 * len && leAt pkt 0 1 == ty && leAt pkt 2 2 == len &&
  leAt pkt 14 2 == (crc32c (pkt.take 14)).toNat % 65536 &&
  leAt pkt (16 * len - 4) 4 == (crc32c (slice pkt 16 (16 * len - 20))).toNat && leAt pkt 10 1 == x.strap

/-- A discarded back-channel packet: counted, and logged at most once per group per MT (R206). -/
def bcDiscard (g : Nat) (s : State) : State :=
  let s1 := pxErr 3 (modGrp g (fun x => { x with bcBad := satAdd 32 x.bcBad 1 }) s)
  if (grp s g).bcLogged = some (mtOf s) then s1
  else log .pxBcBad [g] (modGrp g (fun x => { x with bcLogged := some (mtOf s) }) s1)

/-- The back-channel of a group is awake and locked (R195, R207). -/
def bcAwake (x : Group) : Bool := (x.link == .active || x.link == .sleep) && !x.bcDown

/-- A packet of a type and length is accepted and handled, or discarded (R206). -/
def bcTake (g ty len : Nat) (pkt : List Byte) (f : State → State) (s : State) : State :=
  if !bcAwake (grp s g) then s
  else if bcOk (grp s g) ty len pkt then f s
  else bcDiscard g s

/-- HEADROOM (R205): three minima in mV and their emitter columns. -/
def headroomTake (g : Nat) (pkt : List Byte) (s : State) : State :=
  let u (i : Nat) : Nat := leAt pkt (16 + 2 * i) 2
  modGrp g (fun x => { x with headroom := some ([u 0, u 1, u 2], [u 3, u 4, u 5]), headStale := false }) s

/-- CRCREPORT: FAR is compared once PRE and PAD have been (R205, R209). -/
def crcreportTake (g : Nat) (pkt : List Byte) (s : State) : State :=
  let x := grp s g
  let far : W32 := BitVec.ofNat 32 (leAt pkt 16 4)
  let s1 := modGrp g (fun x => { x with crcFar := far }) s
  let rxErr := bitOf (byteAt pkt 22) 2
  if !x.awaiting || leAt pkt 20 2 != x.closedTick then s1
  else
    let s2 := modGrp g (fun x => { x with awaiting := false }) s1
    if x.padDue then modGrp g (fun x => { x with farHeld := some (far, rxErr) }) s2
    else farCompare g far rxErr { s2 with px := { s2.px with spanTick := x.closedTick } }

/-- No CRCREPORT at 200 µs (R209). -/
def crcreportMissing (g : Nat) (s : State) : State :=
  if !(grp s g).awaiting then s
  else pxErr 4 (modGrp g (fun x => { x with awaiting := false, missing := satAdd 16 x.missing 1 }) s)

/-- A FAULT entry in the log, at most one per group and code per MT (R206). -/
def faultLog (g code : Nat) (pkt : List Byte) (s : State) : State :=
  if spGet 0 (grp s g).faultLogged code = mtOf s + 1 then s
  else log .pxFault [g, code, leAt pkt 18 2, leAt pkt 20 2, leAt pkt 22 1, leAt pkt 24 4]
    (modGrp g (fun x => { x with faultLogged := spSet 0 x.faultLogged code (mtOf s + 1) }) s)

/-- LINK_LOST: one retraining as the retry of R209; a further one within its 1,000 spans is lasting (R210). -/
def linkLost (g : Nat) (s : State) : State :=
  if (grp s g).sinceRetry.isSome then unitLasting 3 g s else retrainRetry g s

/-- The part of a FAULT's handling that stays on the link, by code (R205). -/
def faultTake (g : Nat) (pkt : List Byte) (s : State) : State :=
  let code := leAt pkt 16 1
  let s1 := faultLog g code pkt (pxErr 6 s)
  match code with
  | 1 | 2 | 3 | 4 | 5 | 9 => s1
  | 6 => linkLost g s1
  | 7 => modGrp g (fun x => { x with lineCrc := satAdd 32 x.lineCrc (leAt pkt 24 4) }) s1
  | 8 => modGrp g (fun x => { x with configLost := true }) s1
  | _ => bcDiscard g s

/-- Back-channel retraining begins, with PB_BC_CTRL sent at the next blank (R210). -/
def bcRetrainStart (g : Nat) (s : State) : State :=
  queueCmd (some g) [(0x001C, 1)] (modGrp g (fun x => { x with bcSecond := false, bcDown := true }) (linkTo g .bcRetrain s))

/-- Back-channel lock is lost (R210): BC_RETRAIN; a sleeping group's wake will find it (R208). -/
def bcLost (g : Nat) (s : State) : State :=
  match (grp s g).link with
  | .active => bcRetrainStart g s
  | .sleep => modGrp g (fun x => { x with bcDown := true }) s
  | _ => s

/-- Back-channel retraining times out: one further attempt, then a lasting fault (R195, R210). -/
def bcTimeout (g : Nat) (s : State) : State :=
  let x := grp s g
  if !(x.link == .bcRetrain) then s
  else if !x.bcSecond then queueCmd (some g) [(0x001C, 1)] (modGrp g (fun x => { x with bcSecond := true }) s)
  else unitLasting 3 g (modGrp g (fun x => { x with bcSecond := false, bcDown := false }) (linkTo g .active s))

/-- HEADROOM has been missing for 2 ticks (R210). -/
def headStale (g : Nat) (s : State) : State :=
  if (grpSlice s g).isNone then s else pxErr 8 (modGrp g (fun x => { x with headStale := true }) s)

/-! ### Ticks, extensions and stops (R201, R207, R208) -/

/-- The counters and CRC values as the registers show them: those of this tick (R213). -/
def grpPublish (x : Group) : Group :=
  { x with shown := ⟨x.crcPre, x.crcPad, x.crcFar, x.mismatch, x.missing, x.bcBad, x.lineCrc⟩ }

/-- A group's span ends and is compared at a tick, and its registers follow (R209, R213). -/
def tickClose (pad : List (Nat × W32)) (g : Nat) (s : State) : State :=
  modGrp g grpPublish (padCompare pad g (modGrp g spanClose s))

/-- A group's span is compared and a new one opened at a tick (R209). -/
def tickGroup (pad : List (Nat × W32)) (tick : Nat) (g : Nat) (s : State) : State :=
  modGrp g (spanOpenNow tick) (tickClose pad g s)

/-- Partners that lost their configuration get it again at the next tick (R205). -/
def resendConfig (g : Nat) (s : State) : State :=
  if !(grp s g).configLost then s
  else match grpSlice s g with
    | some sl => queuePartner true sl (modGrp g (fun x => { x with configLost := false }) s)
    | none => modGrp g (fun x => { x with configLost := false }) s

/-- Measurements of HEADROOM older than the scan that ended are not used (R223). -/
def headroomAge (s : State) : State := eachNat (fun g => modGrp g fun x => { x with headroom := none }) (List.range 32) s

/-- A group closes its span and sleeps; a back-channel being retrained stays without lock (R207, R208). -/
def sleepGroup (g : Nat) (s : State) : State :=
  if flows (grp s g).link then sendSet g 0x66 (linkTo g .sleep (modGrp g spanClose s)) else s

/-- A sleeping group wakes: four EIEOS and one SDS. One whose back-channel has no lock goes on under R210 (R208). -/
def wakeGroup (g : Nat) (s : State) : State :=
  if (grp s g).link == .sleep then
    let s1 := sendSet g 0xE1 (eachNat (fun _ => sendSet g 0x33) (List.range 4) s)
    if (grp s g).bcDown then bcRetrainStart g s1 else linkTo g .active s1
  else s

/-- A group goes DISABLED at a power-down, after EIOS where it was sending (R219). -/
def stopGroup (g : Nat) (s : State) : State :=
  let s1 := if flows (grp s g).link then sendSet g 0x66 s else s
  modGrp g (fun x => { x with spanOpen := false, second := false }) (linkTo g .disabled s1)

/-- The payload of a HOLD (R199). -/
def holdPayload (slots : Nat) : List Byte := leBytes 4 slots ++ fill 8 0

/-- ABORT on every serving group, which ends their spans (R201, R209). -/
def sendAbort (line : Nat) (s : State) : State :=
  eachNat (fun g => modGrp g spanClose) (List.range 32) (pxSendAll 0x13 0 line (fun _ => []) s)

/-- Core 0 answers a sparing request (R212 steps 1 and 2): with a passed OFFLINE spare of the half and DUAL_INPUT
its training begins, otherwise the group becomes OFFLINE. -/
def bringInStart (g : Nat) (byHost : Bool) (s : State) : State :=
  match grpSlice s g with
  | none => s
  | some sl =>
    let h := sl / 15
    trainStart (30 + h) false (setSel h (sl - 15 * h) { s with px := { s.px with bringIn := some (g, 30 + h, sl, byHost) } })

/-- The spare of a slice's half is ready (R212 step 1). -/
def spareReady (s : State) (g : Nat) : Bool :=
  match grpSlice s g with
  | none => false
  | some sl => dualInput s && (unitOf s 3 (30 + sl / 15)).state == .offline && (unitOf s 3 (30 + sl / 15)).lastTest

/-- PX_GROUP_SPARE (R212). -/
def groupSpare (g : Nat) (s : State) : State :=
  if !lastingTurn s 3 g then s
  else
    let s1 := frontPop s
    if spareReady s1 g then bringInStart g false s1
    else unitTo 3 g .offline 11 (linkTo g .disabled s1)

end Sys2Proof.Machine
end

