-- ==== Sys2Proof/Machine/Scene.lean ====
section
/-! DEFINITION. Registered surfaces and their fences, the show store, the scene player's commands (R68 to R79,
R174, R342 to R344, R406, R407). -/

namespace Sys2Proof.Machine

/-! ### Exit causes of a hold extension (R174) -/

/-- TB2 time of base slot `j` after the last tick. -/
def slotTime (s : State) (t : Timing) (j : Nat) : Int := s.scn.tickTb2 + (j * basePeriod t : Nat)

/-- The first slot boundary at least 128 base lines after now, counted from the last tick (R174). -/
def exitSlot (s : State) (t : Timing) : Nat :=
  max 1 ((tb2Q s + (128 * baseLine t : Nat) - s.scn.tickTb2 + (basePeriod t - 1 : Nat)) / basePeriod t).toNat

/-- An exit cause, or a power-down request as cause 5: it is pending until the next tick, and ends an extension
in progress at a slot boundary, unless it comes too late for any boundary but the planned one (R172, R174, R219). -/
def holdExit (cause : Nat) (s : State) : State :=
  let set (ext : Nat) : State := { s with scn := { s.scn with exitCause := some cause, extension := ext } }
  if s.scn.exitCause.isSome || s.scn.state == .stopped then s
  else match s.scn.inExtension, s.scn.inForce with
    | true, some t => if exitSlot s t ≤ s.scn.extension + 1 then set (exitSlot s t - 1) else s
    | _, _ => set s.scn.extension

/-! ### Registered surfaces (R342 to R344, R406) -/

/-- A registered surface. -/
def surfaceOf (s : State) (i : Nat) : Option Surface := lkp s.hq.surfaces i

/-- The index of a handle that is known: registered and not released (R342, R344). -/
def handleIndex (s : State) (h : Nat) : Option Nat :=
  (s.hq.surfaces.find? fun c => c.2.handle.toNat == h && c.2.release.isNone).map (·.1)

/-- The states in which a frame reads its surfaces (R343). -/
def readingState : FState → Bool
  | .preflight | .admitted | .scanning | .showing => true
  | _ => false

/-- A frame reads a surface, a host-controlled slot shows it, or the scan in progress shows it (R343, R344). -/
def surfaceRead (s : State) (i : Nat) : Bool :=
  s.scene.frames.any (fun f => readingState f.state && f.reads.contains i) ||
  s.clr.host.any (fun c => match c.2 with | some o => o.surface == some i | none => false) ||
  (s.scn.state == .run && s.scn.scan.overlays.any (fun o => o.surface == some i))

/-- Every master of R403 but the debug port and the reserved ones. -/
def allMasters : W64 := 0x1FFFF7F

/-- Masters acting for a host or a mesh port (R343): 0, 1, 2 and 18 to 23. -/
def hostMasters : W64 := 0xFC0007

/-- The fence of a surface (R343, R406): read-only to every master acting for a host or a mesh port. -/
def fenceEntry (a : Nat) (len : Nat) : TrnEntry where
  base := BitVec.ofNat 64 a
  limit := BitVec.ofNat 64 (a + len - 4096)
  r := allMasters
  w := allMasters &&& ~~~hostMasters
  valid := true
  fence := true

/-- The opcode of SURFACE_RELEASE (R339). -/
def opSurfaceRelease : Byte := 0x71

/-- A surface's fence follows its readers, and a waiting release completes when none is left (R343, R344, R406). -/
def surfaceSettle (i : Nat) (s : State) : State :=
  match surfaceOf s i with
  | none => s
  | some x =>
    if surfaceRead s i then trnSet 0 i (fenceEntry x.addr x.size) s
    else
      let s1 := trnSet 0 i {} s
      match x.release with
      | some h => complete opSurfaceRelease h .ok 0 { s1 with hq := { s1.hq with surfaces := delAt s1.hq.surfaces i } }
      | none => s1

/-- Every surface's fence and release follow its readers. -/
def surfacesSettle (s : State) : State := eachNat surfaceSettle (s.hq.surfaces.map (·.1)) s

/-- The overlay surface area (R48, R342): first byte and the byte after its last. -/
def ovlArea : Nat × Nat := (0x1B8000000, 0x1D8000000)

/-- A surface's range lies in the overlay surface area or in the show store below JGL_LIMIT (R342). -/
def surfaceRangeOk (s : State) (a n : Nat) : Bool :=
  decide (ovlArea.1 ≤ a ∧ a + n ≤ ovlArea.2) || decide (2 ^ 33 ≤ a ∧ a + n ≤ s.jgl.limit)

/-- SURFACE_REGISTER (R342). -/
def doSurfaceRegister (h : Hdr) (p : SurfaceRegisterP) (s : State) : State :=
  let fin (st : Status) (d : W64) (s : State) : State := complete 0x70 h st d s
  let a := p.addr.toNat
  let n := p.size.toNat
  if n = 0 then fin .ok 0 s
  else if ones 4 n || ones 8 a || decide (2 ^ 28 < n) || !surfaceRangeOk s a n then fin .lengthRange 0 s
  else if a % 4096 ≠ 0 || n % 4096 ≠ 0 || p.rsvd then fin .badParam 0 s
  else if s.hq.surfaces.any (fun c => overlaps a n c.2.addr c.2.size) then fin .badParam 0 s
  else match firstBelow 64 (fun i => (surfaceOf s i).isNone) with
    | none => fin .noResource 0 s
    | some i =>
      let cnt := if (s.hq.regCount + 1) % 2 ^ 26 = 0 then 1 else (s.hq.regCount + 1) % 2 ^ 26
      let hd : W32 := put i 0 ||| put cnt 6
      fin .ok (put hd.toNat 0) { s with hq := { s.hq with
        regCount := cnt, surfaces := putAt s.hq.surfaces i ⟨a, n, hd, none⟩ } }

/-- SURFACE_RELEASE (R344). -/
def doSurfaceRelease (h : Hdr) (p : SurfaceReleaseP) (s : State) : State :=
  if p.rsvd then complete opSurfaceRelease h .badParam 0 s
  else match handleIndex s p.handle.toNat with
    | none => complete opSurfaceRelease h .badParam 0 s
    | some i => surfaceSettle i { s with hq := { s.hq with
        surfaces := modAt s.hq.surfaces i fun x => { x with release := some h } } }

/-! ### The show store (R68 to R71, R79, R407) -/

/-- A scene slot. -/
def slotOf (s : State) (n : Nat) : SceneSlot := spGet {} s.scene.slots n

/-- A scene slot changed. -/
def modSlot (n : Nat) (f : SceneSlot → SceneSlot) (s : State) : State :=
  { s with scene := { s.scene with slots := spMod {} s.scene.slots n f } }

/-- Bytes of a GiB. -/
def gib : Nat := 2 ^ 30

/-- First system address of a slot's package: the show store begins at 8 GiB (R48, R49). -/
def slotAddr (x : SceneSlot) : Nat := 2 ^ 33 + x.base * gib

/-- A GiB of the show store is held by a slot. -/
def gibHeld (s : State) (g : Nat) : Bool :=
  s.scene.slots.any fun c => c.2.state != .empty && decide (c.2.base ≤ g ∧ g < c.2.base + c.2.gib)

/-- The free runs of the show store: first GiB and length, in rising order. -/
def freeRuns (s : State) : Nat → Nat → List (Nat × Nat)
  | 0, _ => []
  | n + 1, g =>
    let rest := freeRuns s n (g + 1)
    if gibHeld s g then rest
    else match rest with
      | (b, l) :: r => if b = g + 1 then (g, l + 1) :: r else (g, 1) :: rest
      | [] => [(g, 1)]

/-- The free runs of the whole store. -/
def storeRuns (s : State) : List (Nat × Nat) := freeRuns s s.scene.storeSize 0

/-- RM_STORE_FREE: the largest free run in GiB (R78). -/
def storeFree (s : State) : Nat := (storeRuns s).foldl (fun m r => max m r.2) 0

/-- The slot is playing: the player holds it and is not IDLE. -/
def slotPlaying (s : State) (n : Nat) : Bool := s.scene.player.state != .idle && s.scene.player.slot == n

/-- Slots in LOADING (R407). -/
def loadingCount (s : State) : Nat := s.scene.slots.countP fun c => c.2.state == .loading

/-- The Turnstile entry that makes a LOADING slot writable to host DMA (R71, R406). -/
def loadEntry (x : SceneSlot) : TrnEntry where
  base := BitVec.ofNat 64 (slotAddr x)
  limit := BitVec.ofNat 64 (slotAddr x + x.gib * gib - 4096)
  r := allMasters
  w := allMasters
  valid := true

/-- The entry among 64 to 127 that serves a slot's range, or the first free one. -/
def loadEntryOf (s : State) (x : SceneSlot) : Option Nat :=
  (firstBelow 64 fun i => (trnLive s 0 (64 + i)).valid && (trnLive s 0 (64 + i)).base == (loadEntry x).base).map (64 + ·)

/-- A slot enters LOADING: its range becomes writable (R71). -/
def loadGrant (x : SceneSlot) (s : State) : State :=
  match firstBelow 64 fun i => !(trnLive s 0 (64 + i)).valid with
  | some i => trnSet 0 (64 + i) (loadEntry x) s
  | none => s

/-- A slot leaves LOADING (R71). -/
def loadRevoke (x : SceneSlot) (s : State) : State :=
  match loadEntryOf s x with | some i => trnSet 0 i {} s | none => s

/-- A slot's space is returned. -/
def slotRelease (n : Nat) (s : State) : State :=
  let x := slotOf s n
  modSlot n (fun _ => {}) (if x.state == .loading then loadRevoke x s else s)

/-- The opcode of SCENE_LOAD (R339). -/
def opSceneLoad : Byte := 0x10

/-- Any subfunction on a slot in VERIFYING completes with BUSY (R70). -/
def sceneVerifying (h : Hdr) (p : SceneLoadP) (s : State) (f : State) : State :=
  if (slotOf s p.slot.toNat).state == .verifying then complete opSceneLoad h .busy 0 s else f

/-- FLAGS has a reserved bit set; REPLACE belongs to OPEN only (R68). -/
def sceneFlagsBad (p : SceneLoadP) (isOpen : Bool) : Bool :=
  if isOpen then decide (2 ≤ p.flags.toNat) else decide (p.flags.toNat ≠ 0)

/-- OPEN reserves the lowest run that can hold the length (R70, R407). -/
def sceneReserve (h : Hdr) (n len : Nat) (s : State) : State :=
  let need := (len + gib - 1) / gib
  if 64 ≤ loadingCount s then complete opSceneLoad h .noResource 0 s
  else match (storeRuns s).find? fun r => decide (need ≤ r.2) with
    | none => complete opSceneLoad h .noResource 0 s
    | some r =>
      let x : SceneSlot := { state := .loading, base := r.1, gib := need, length := len }
      complete opSceneLoad h .ok 0 (loadGrant x (modSlot n (fun _ => x) s))

/-- SCENE_LOAD OPEN (R68, R70, R79, R407). -/
def doSceneOpen (h : Hdr) (p : SceneLoadP) (s : State) : State :=
  let n := p.slot.toNat
  let x := slotOf s n
  sceneVerifying h p s <|
    if ones 8 p.argA.toNat then complete opSceneLoad h .lengthRange 0 s
    else if p.argA.toNat = 0 then complete opSceneLoad h .ok 0 s
    else if sceneFlagsBad p true then complete opSceneLoad h .badParam 0 s
    else if x.state == .empty then sceneReserve h n p.argA.toNat (slotRelease n s)
    else if bitOf p.flags 0 && (x.state == .ready || x.state == .degraded) && !slotPlaying s n then
      sceneReserve h n p.argA.toNat (slotRelease n s)
    else complete opSceneLoad h .busy 0 s

/-- A chunk read from the host lands in the package (R70, R71, R250, R343, R353, R405). -/
def sceneDataLand (h : Hdr) (p : SceneLoadP) (ans : HostAns) (s : State) : State :=
  let x := slotOf s p.slot.toNat
  let len := p.argC.toNat
  let addr := slotAddr x + p.argA.toNat
  match ans with
  | .refused => complete opSceneLoad h .access 0 s
  | .poisoned => complete opSceneLoad h .uncorrectable 0 s
  | .data bs =>
    regBulk (jglPortOf s h.src) (flits addr len) (fun s => match trnAccess 0 (srcMaster s h.src) .w addr len s with
      | (some st, s1) => complete opSceneLoad h st 0 s1
      | (none, s1) => complete opSceneLoad h .ok 0 (dramStore (jglPortOf s1 h.src) addr (fit len bs) s1)) s

/-- SCENE_LOAD DATA (R68, R70, R79). -/
def doSceneData (h : Hdr) (p : SceneLoadP) (ans : HostAns) (s : State) : State :=
  let x := slotOf s p.slot.toNat
  let a := p.argA.toNat
  let c := p.argC.toNat
  sceneVerifying h p s <|
    match x.lostMark with
    | some o => complete opSceneLoad h .degraded (put o 0) s
    | none =>
      if ones 8 a || ones 4 c || decide (2 ^ 26 < c) then complete opSceneLoad h .lengthRange 0 s
      else if c = 0 then complete opSceneLoad h .ok 0 s
      else if x.state == .loading && decide (x.length < a + c) then complete opSceneLoad h .lengthRange 0 s
      else if a % 64 ≠ 0 || p.argB.toNat % 64 ≠ 0 || c % 64 ≠ 0 || sceneFlagsBad p false then
        complete opSceneLoad h .badParam 0 s
      else if x.state != .loading then complete opSceneLoad h .access 0 s
      else sceneDataLand h p ans s

/-- SCENE_LOAD CLOSE: the checks begin (R69, R70, R79). -/
def doSceneClose (h : Hdr) (p : SceneLoadP) (s : State) : State :=
  let n := p.slot.toNat
  let x := slotOf s n
  sceneVerifying h p s <|
    if sceneFlagsBad p false then complete opSceneLoad h .badParam 0 s
    else match x.lostMark with
      | some o => complete opSceneLoad h .degraded (put o 0) s
      | none =>
        if x.state != .loading then complete opSceneLoad h .badParam 0 s
        else modSlot n (fun x => { x with state := .verifying, closing := some h }) (loadRevoke x s)

/-- SCENE_LOAD FREE (R70, R79). -/
def doSceneFree (h : Hdr) (p : SceneLoadP) (s : State) : State :=
  let n := p.slot.toNat
  sceneVerifying h p s <|
    if sceneFlagsBad p false then complete opSceneLoad h .badParam 0 s
    else if slotPlaying s n then complete opSceneLoad h .busy 0 s
    else complete opSceneLoad h .ok 0 (slotRelease n s)

/-- A reader over a package in the show store. -/
def pkgReader (s : State) (x : SceneSlot) : Reader := fun o l => dramBytes s (slotAddr x + o) l

/-- A reader over system addresses. -/
def dramReader (s : State) : Reader := fun a l => dramBytes s a l

/-- A surface's address and size by handle, for the checks (R66). -/
def handleAt (s : State) (h : Nat) : Option (Nat × Nat) :=
  ((handleIndex s h).bind (surfaceOf s)).map fun x => (x.addr, x.size)

/-- What the package's reads leave behind: the lines that failed their retry, and the part above JGL_LIMIT (R240,
R253). -/
def verifyReads (x : SceneSlot) (failed : List Nat) (s : State) : State :=
  let s1 := (failed.filter fun l => decide (slotAddr x < 64 * l + 64 ∧ 64 * l < slotAddr x + x.length)).foldl
    (fun s l => dramLasting portRm (64 * l) s) s
  if dramInside s1 (slotAddr x) x.length then s1 else dramRange portRm (max (slotAddr x) s1.jgl.limit) s1

/-- What the checks of a CLOSE said: the slot is emptied, or READY with the package's header (R66, R68). -/
def verifyVerdict (n : Nat) (x : SceneSlot) (h : Hdr) (p : PkgHdr) (o : Option (Status × W64)) (s : State) : State :=
  match o with
  | some (st, d) => complete opSceneLoad h st d (slotRelease n s)
  | none =>
    let y := { x with closing := none, frames := p.frames, hdr := some p, state := SlotState.ready }
    complete opSceneLoad h .ok (put p.frames 0) (modSlot n (fun _ => y) s)

/-- The checks of CLOSE end (R66, R67, R69, R70): a package with a poisoned line, or with a part above JGL_LIMIT whose
reads are poisoned (R240), cannot be read. `failed` names the 64-byte lines that failed their retry (R253). -/
def verifyDone (n : Nat) (failed : List Nat) (s0 : State) : State :=
  let x := slotOf s0 n
  match x.state, x.closing with
  | .verifying, some h =>
    let s := verifyReads x failed s0
    if dramPoisoned s (slotAddr x) x.length || failed.any (fun l => decide (slotAddr x < 64 * l + 64 ∧ 64 * l < slotAddr x + x.length)) then
      complete opSceneLoad h .uncorrectable 0 (slotRelease n s)
    else
      verifyVerdict n x h (parseHdr (pkgReader s x 0 256)) (pkgCheck (pkgReader s x) (dramReader s) (handleAt s) x.length) s
  | _, _ => s0

/-- One slot at a capacity shrink to `lim` GiB (R79): READY becomes DEGRADED, a reservation is removed. A slot that is
DEGRADED already only has its lost range grow, with an entry when it does; a slot in VERIFYING is left to its CLOSE,
whose reads of the lost part come back poisoned (R240): R79 speaks of neither (DESIGN CHOICE, log entry 127). -/
def shrinkSlot (lim n : Nat) (s : State) : State :=
  let x := slotOf s n
  if x.state == .empty || decide (x.base + x.gib ≤ lim) then s
  else
    let off := (lim - x.base) * gib
    let lost := (min off x.length, x.length)
    match x.state with
    | .ready => log .sceneDegraded [n, lost.1, lost.2] (modSlot n (fun x => { x with state := .degraded, lost := some lost }) s)
    | .degraded =>
      if ((x.lost.map (·.1)).getD x.length) ≤ lost.1 then s
      else log .sceneDegraded [n, lost.1, lost.2] (modSlot n (fun x => { x with lost := some lost }) s)
    | .verifying => s
    | .loading => modSlot n (fun _ => { lostMark := some off }) (slotRelease n s)
    | .empty => s

/-- Core 0 acts on a new show-store limit (R79, R247 step 3, R248). -/
def storeShrink (s : State) : State :=
  match s.jgl.report with
  | none => s
  | some lim =>
    let s1 := eachNat (shrinkSlot lim) (s.scene.slots.map (·.1)) { s with scene := { s.scene with storeSize := lim } }
    { s1 with jgl := { s1.jgl with report := none } }

/-! ### The player's commands (R74 to R78) -/

/-- The player changed. -/
def modPlayer (f : Player → Player) (s : State) : State := { s with scene := { s.scene with player := f s.scene.player } }

/-- The package header of a slot as its CLOSE passed it: no later point checks the header again, and a rewrite of it in
DRAM changes nothing (R67; DEDUCED, log entry 128). -/
def slotHdr (s : State) (n : Nat) : PkgHdr := ((slotOf s n).hdr).getD (parseHdr [])

/-- The frame due at a TB0 time (R77). -/
def dueAt (num den : Nat) (origin : Int) (start : Nat) (t : Int) : Int :=
  if den = 0 then start else start + (t - origin) * num / (den * 65536000000000 : Nat)

/-- A package's rate divides the display rate by a whole number from 1 to 8 (R76). -/
def rateDivides (t : Timing) (num den : Nat) : Bool :=
  let a := t.num * den
  let b := t.den * num
  b != 0 && a % b == 0 && decide (1 ≤ a / b ∧ a / b ≤ 8)

/-- A package plays under the current timing on this device (R53, R67, R76, R299). -/
def pkgPlayable (s : State) (h : PkgHdr) : Bool :=
  match curTiming s with
  | none => false
  | some t => h.mode == t.mode && h.hx == t.hx && h.hy == t.hy && rateDivides t h.rateNum h.rateDen &&
      (h.anyTile || (trzValid s && trzId s == h.tileId))

/-- A streamed frame is PENDING, in PREFLIGHT or ADMITTED (R74). -/
def streamPending (s : State) : Bool :=
  s.scene.frames.any fun f => match f.origin with
    | .stream _ _ => f.state == .pending || f.state == .preflight || f.state == .admitted
    | .scene _ _ => false

/-- The TB0 time of the tick whose pre-flight begins next: one period after the next tick (R77). -/
def nextSelectTime (s : State) : Int := (s.scn.pfTime.getD (tb0Q s)) + s.scn.periodQ

/-- A time parameter that its command uses is out of range (R8). -/
def badTime (used : Bool) (t : Time96) : Bool := used && !timeOk t

/-- The player's origin set for a start frame; ARMED when nothing is due at the next selection (R75 to R77). -/
def playerStart (n f : Nat) (time : Option Int) (s : State) : State :=
  let h := slotHdr s n
  let armed := match time with
    | some t => decide (dueAt h.rateNum h.rateDen t f (nextSelectTime s) < 0)
    | none => false
  modPlayer (fun p => { p with
    state := if armed then .armed else .playing, slot := n, origin := time, startFrame := f,
    lastSelected := (f : Int) - 1, lastRefused := (f : Int) - 1 }) s

/-- SCENE_PLAY (R74 to R78, R216). Where several refusals apply, BUSY comes before DEGRADED and DEGRADED before the
rest of BAD_PARAM; a SCENE_SEEK still waiting when SCENE_PLAY is accepted completes ABORTED: the spec orders and says
neither (DESIGN CHOICE, log entry 129). -/
def doScenePlay (h : Hdr) (p : ScenePlayP) (s : State) : State :=
  let fin (st : Status) (d : W64) (s : State) : State := complete 0x11 h st d s
  let n := p.slot.toNat
  let x := slotOf s n
  let pl := s.scene.player
  let free := pl.state == .idle || (pl.state == .ended && pl.slot == n && pl.stopping.isEmpty)
  if p.rsvd || decide (4 ≤ p.flags.toNat) then fin .badParam 0 s
  else if s.pwr.state != .on || streamPending s || !free then fin .busy 0 s
  else if x.state == .degraded then fin .degraded (put ((x.lost.map (·.1)).getD 0) 0) s
  else if x.state != .ready || badTime (bitOf p.flags 1) p.time || decide (x.frames ≤ p.frame.toNat) ||
    !pkgPlayable s (slotHdr s n) then fin .badParam 0 s
  else
    let s1 := match pl.seeking with | some (k, _, _) => complete 0x13 k .aborted 0 s | none => s
    let s2 := modPlayer (fun _ => { ({} : Player) with loop := bitOf p.flags 0 }) s1
    fin .ok 0 (holdExit 2 (playerStart n p.frame.toNat (if bitOf p.flags 1 then some (timeQ p.time) else none) s2))

/-- SCENE_STOP (R76, R157). -/
def doSceneStop (h : Hdr) (p : SceneStopP) (s : State) : State :=
  if p.rsvd || decide (2 ≤ p.flags.toNat) then complete 0x12 h .badParam 0 s
  else if !slotPlaying s p.slot.toNat then complete 0x12 h .ok 0 s
  else holdExit 2 (modPlayer (fun pl => { pl with stopping := pl.stopping ++ [(h, bitOf p.flags 0)] }) s)

/-- SCENE_SEEK (R76, R216). -/
def doSceneSeek (h : Hdr) (p : ScenePlayP) (s : State) : State :=
  let fin (st : Status) (s : State) : State := complete 0x13 h st 0 s
  let pl := s.scene.player
  if p.rsvd || decide (4 ≤ p.flags.toNat) || bitOf p.flags 0 then fin .badParam s
  else if s.pwr.state != .on then fin .busy s
  else if !slotPlaying s p.slot.toNat || badTime (bitOf p.flags 1) p.time ||
    decide ((slotOf s p.slot.toNat).frames ≤ p.frame.toNat) then fin .badParam s
  else
    let s1 := match pl.seeking with | some (k, _, _) => complete 0x13 k .aborted 0 s | none => s
    holdExit 2 (modPlayer (fun pl => { pl with
      seeking := some (h, p.frame.toNat, if bitOf p.flags 1 then some (timeQ p.time) else none) }) s1)

end Sys2Proof.Machine
end

