-- ==== Sys2Proof/Machine/Halo.lean ====
section
/-! DEFINITION. The coded tiles of a frame as the device reads them, and the halo strips that neighbours exchange
(R59 to R62, R98, R306 to R311). -/

namespace Sys2Proof.Machine

/-! ### Reading tiles (R59 to R62, R98, R405) -/

/-- A read by a hardware block: its bytes, or none where it comes back poisoned, refused or beyond JGL_LIMIT
(R98, R240, R252, R405). -/
def vcRead (s : State) (m addr len : Nat) : Option (List Byte) :=
  if dramInside s addr len && !dramPoisoned s addr len && trnCheck s 0 m .r addr len == .pass then
    some (dramBytes s addr len)
  else none

/-- A coded tile decoded to its 16,384 bytes; none where it fails to decode (R60, R274). -/
def decodeTile (coder format : Nat) (bs : List Byte) : Option (List Byte) :=
  match coder with
  | 0 => some bs
  | 1 => llDecode bs 16384
  | 2 | 3 | 4 => some (fixTile coder format bs)
  | _ => none

/-- The tile entry of a coded tile (R59). -/
def tileEntryAt (d : PlaneDesc) (tt : List Byte) (t r : Nat) : TileEntry :=
  parseTile (leAt tt (ttEntries d + 8 * ttBefore tt (tileCols d) t r) 8)

/-- The tile table of a plane as it stands in DRAM. -/
def liveTable (s : State) (f : Frame) (d : PlaneDesc) : List Byte := dramBytes s (f.block + 64 * d.ttOffset) (ttBytes d)

/-- The address and length of a coded tile; none where its entry reaches outside the block (R67). -/
def tileSpan (f : Frame) (d : PlaneDesc) (tt : List Byte) (t r : Nat) : Option (Nat × Nat × Nat) :=
  let e := tileEntryAt d tt t r
  if tileInside e f.length && coderLenOk e.coder e.length then some (f.block + 64 * e.offset, 64 * e.length, e.coder)
  else none

/-- A coded tile read by a master and decoded; none where it is poisoned or does not decode (R62, R98). -/
def tileData (s : State) (m : Nat) (f : Frame) (d : PlaneDesc) (tt : List Byte) (t r : Nat) : Option (List Byte) :=
  (tileSpan f d tt t r).bind fun a => (vcRead s m a.1 a.2.1).bind (decodeTile a.2.2 d.format)

/-! ### Strip streams (R306, R309) -/

/-- A strip runs down a plane's side: left or right. -/
def strpUpright (edge : Nat) : Bool := decide (edge < 2)

/-- Blocks of a strip: 64 rows each for a side strip with its corners, 64 columns each for a top or bottom strip
(R309). -/
def stripBlocks (d : PlaneDesc) (edge : Nat) : Nat :=
  if strpUpright edge then (d.height + 128 + 63) / 64 else (d.width + 63) / 64

/-- Plane coordinates of sample `(c, r)` of block `b` of the strip sent from an edge (R306, R309). -/
def sentPos (d : PlaneDesc) (edge b c r : Nat) : Int × Int :=
  match edge with
  | 0 => ((c : Int), (64 * b + r : Nat) - 64)
  | 1 => ((d.width : Int) - 64 + c, (64 * b + r : Nat) - 64)
  | 2 => ((64 * b + c : Nat), (r : Int))
  | _ => ((64 * b + c : Nat), (d.height : Int) - 64 + r)

/-- The bytes of a strip received so far, in order, as they stand in the halo receive area (R48, R311). -/
def stripStream (s : State) (st : Strip) : List Byte :=
  let parts := st.frags.map fun f => (f.1, dramBytes s f.2.1 f.2.2)
  (List.range (st.total.getD 0)).map fun i =>
    match parts.find? fun f => decide (f.1 ≤ i ∧ i < f.1 + f.2.length) with
    | some f => byteAt f.2 (i - f.1)
    | none => 0

/-- The blocks of a strip stream by number (R309): those whose bit is set, each a length and a lossless stream. -/
def streamBlocks : Nat → Nat → Nat → List Byte → List (Nat × List Byte)
  | 0, _, _, _ => []
  | n + 1, b, occ, bs =>
    if nbit occ b = 1 then
      let len := leAt bs 0 4
      (b, slice bs 4 len) :: streamBlocks n (b + 1) occ (bs.drop (4 + len))
    else streamBlocks n (b + 1) occ bs

/-- The sample word of a received strip at `(c, r)` of block `b` (R309); a block not sent is all zero. -/
def stripSample (s : State) (st : Strip) (b c r : Nat) : Nat :=
  let bs := stripStream s st
  match (streamBlocks 64 0 (leAt bs 0 8) (bs.drop 8)).find? fun x => x.1 == b with
  | none => 0
  | some x => match llDecode x.2 16384 with | none => 0 | some raw => leAt raw (4 * (64 * r + c)) 4

/-- The sample word of a received strip at plane coordinates of the receiver (R90, R306). -/
def stripAt (s : State) (d : PlaneDesc) (st : Strip) (x y : Int) : Nat :=
  match st.edge with
  | 0 => stripSample s st ((y + 64) / 64).toNat (x + 64).toNat ((y + 64) % 64).toNat
  | 1 => stripSample s st ((y + 64) / 64).toNat (x - d.width).toNat ((y + 64) % 64).toNat
  | 2 => stripSample s st (x / 64).toNat (x % 64).toNat (y + 64).toNat
  | _ => stripSample s st (x / 64).toNat (x % 64).toNat (y - d.height).toNat

/-- The complete strip held for a frame, edge and plane (R311). -/
def stripHeld (s : State) (target : Int) (edge plane : Nat) : Option Strip :=
  s.trz.strips.find? fun st => st.target == target && st.edge == edge && st.plane == plane && st.complete

/-! ### Building strips (R306, R308) -/

/-- A sample word of a strip, and the coded tile it could not be read from, if any (R308). -/
abbrev SentWord := Nat × Option (Nat × Nat)

/-- A sample of the frame's own image for a strip: 0 where its tile is poisoned or does not decode (R308). -/
def ownSample (s : State) (f : Frame) (d : PlaneDesc) (tt : List Byte) (x y : Int) : SentWord :=
  if x < 0 ∨ (d.width : Int) ≤ x ∨ y < 0 ∨ (d.height : Int) ≤ y then (0, none)
  else
    let c := imgCol d x
    let r := imgRow d y
    if !ttBit tt c.1.toNat r.1.toNat then (0, none)
    else match tileData s 24 f d tt c.1.toNat r.1.toNat with
      | some bs => (leAt bs (4 * (64 * r.2.toNat + c.2.toNat)) 4, none)
      | none => (0, some (c.1.toNat, r.1.toNat))

/-- A sample of the strip sent from an edge: corner rows come from the top and bottom strips held, or repeat the
image's first or last row (R306). -/
def sentSample (s : State) (f : Frame) (plane : Nat) (d : PlaneDesc) (tt : List Byte) (x y : Int) : SentWord :=
  if x < 0 ∨ (d.width : Int) ≤ x then (0, none)
  else if -64 ≤ y ∧ y < 0 then
    match stripHeld s f.tb2 2 plane with
    | some st => (stripAt s d st x y, none)
    | none => ownSample s f d tt x 0
  else if (d.height : Int) ≤ y ∧ y < d.height + 64 then
    match stripHeld s f.tb2 3 plane with
    | some st => (stripAt s d st x y, none)
    | none => ownSample s f d tt x (d.height - 1)
  else ownSample s f d tt x y

/-- The samples of a block of the strip sent from an edge, row by row. -/
def sentBlock (s : State) (f : Frame) (plane edge : Nat) (d : PlaneDesc) (tt : List Byte) (b : Nat) : List SentWord :=
  (List.range 4096).map fun i =>
    let p := sentPos d edge b (i % 64) (i / 64)
    if strpUpright edge then sentSample s f plane d tt p.1 p.2 else ownSample s f d tt p.1 p.2

/-- The strip stream sent from an edge, and the tiles of it that could not be read (R308, R309). -/
def sentStream (s : State) (f : Frame) (plane edge : Nat) (d : PlaneDesc) : List Byte × List (Nat × Nat) :=
  let tt := liveTable s f d
  let blocks := (List.range (stripBlocks d edge)).map fun b => (b, sentBlock s f plane edge d tt b)
  let sent := blocks.filter fun x => x.2.any fun w => w.1 != 0
  let occ := (sent.map fun x => 2 ^ x.1).sum
  let body := sent.flatMap fun x =>
    let z := llEncode false (x.2.flatMap fun w => leBytes 4 w.1)
    leBytes 4 z.length ++ z
  (leBytes 8 occ ++ body, (blocks.flatMap fun x => x.2.filterMap (·.2)).eraseDups)

/-- The allowance of an edge (R310). -/
def edgeAllowance (edge : Nat) : Nat := if strpUpright edge then 8388608 else 12582912

/-- The subheader and data of one fragment (R309). -/
def fragmentBytes (plane edge flags off dim : Nat) (crc : W32) (dat : List Byte) : List Byte :=
  leBytes 1 plane ++ leBytes 1 edge ++ leBytes 1 flags ++ [0] ++ leBytes 4 off ++ leBytes 2 dim ++ [0, 0] ++
    leBytes 4 crc.toNat ++ fit ((dat.length + 15) / 16 * 16) dat

/-- The first address of the halo area, whose first 120 MiB receive and whose last 8 MiB hold send buffers (R48, R311). -/
def haloArea : Nat := 0x1E8000000

/-- The send buffer of a port: 1 MiB each, in order of port (R311 gives all of them 8 MiB and no place: DESIGN CHOICE, log
entry 145). -/
def haloSendBuf (port : Nat) : Nat := haloArea + 0x7800000 + port * 0x100000

/-- A strip stream leaves in fragments of 4,080 bytes (R303, R309), each through the send buffer, written under master
24 (R308). -/
def sendFragments (port : Nat) (target : Int) (plane edge flags dim : Nat) (stream : List Byte) : Nat → Nat → State → State
  | 0, _, s => s
  | n + 1, off, s =>
    let dat := slice stream off 4080
    let last := decide (stream.length ≤ off + 4080)
    let fl := flags % 8 / 2 * 2 + (if last then 1 + flags / 8 * 8 else 0)
    let s1 := regBulk (2 + port) (flits (haloSendBuf port) dat.length) (fun s =>
      match trnAccess 0 24 .w (haloSendBuf port) dat.length s with
      | (some _, s1) => s1
      | (none, s1) => meshSendFrame port 3 kFragment [(qTime target).toNat]
          (fragmentBytes plane edge fl off dim (if last then crc32c stream else 0) dat)
          (dramStore (2 + port) (haloSendBuf port) dat s1)) s
    if last then s1 else sendFragments port target plane edge flags dim stream n (off + 4080) s1

/-- What the builder's reads of a plane that failed leave behind (R240, R308): the flag and an entry for each tile, and the
Turnstiles' record of a read they refused. -/
def haloPoison (port plane : Nat) (f : Frame) (d : PlaneDesc) (bad : List (Nat × Nat)) (s : State) : State :=
  let tt := liveTable s f d
  bad.foldl (fun s x =>
    let s1 := log .trzHaloPoison [plane, x.1, x.2] (trzErr 7 s)
    match tileSpan f d tt x.1 x.2 with
    | some a => dramNote (2 + port) a.1 a.2.1 (trnAccess 0 24 .r a.1 a.2.1 s1).2
    | none => s1) s

/-- The planes of a frame are sent from an edge in order, as far as the allowance goes (R306, R309, R310). -/
def sendPlanes (port edge used : Nat) (f : Frame) : Nat → List PlaneDesc → State → State
  | _, [], s => s
  | i, d :: rest, s =>
    let (stream, bad) := sentStream s f i edge d
    let s1 := haloPoison port i f d bad s
    let counted (s : State) : State :=
      log .trzHaloTrunc [port, edge, i] { s with trz := { s.trz with haloTrunc := satAdd 32 s.trz.haloTrunc 1 } }
    let next := match rest with | n :: _ => (sentStream s f (i + 1) edge n).1.length | [] => 0
    let trunc := decide (edgeAllowance edge < used + stream.length + next)
    let filled := if strpUpright edge then
        2 * b2n (stripHeld s f.tb2 2 i).isNone + 4 * b2n (stripHeld s f.tb2 3 i).isNone else 0
    let dim := if strpUpright edge then d.height else d.width
    if edgeAllowance edge < used + stream.length then (if i = 0 then counted s1 else s1)
    else
      let s2 := sendFragments port f.tb2 i edge (filled + 8 * b2n (trunc && !rest.isEmpty)) dim stream
        (stream.length / 4080 + 1) 0 s1
      if trunc && !rest.isEmpty then counted s2
      else sendPlanes port edge (used + stream.length) f (i + 1) rest s2

/-- HOM_EDGE as a frame uses it: captured, or before that the active value (R99, R307). -/
def frameEdge (s : State) (f : Frame) : W32 := f.edge.getD s.hom.edge.act

/-- The strips of a frame leave from some edges that have HALO_EN and an ACTIVE port (R306, R307). -/
def sendStrips (edges : List Nat) (f : Frame) (s : State) : State :=
  let e := frameEdge s f
  eachNat (fun edge s =>
    if edgeHaloEn e edge && meshActive s (edgePort e edge) then sendPlanes (edgePort e edge) edge 0 f 0 f.planes s else s)
    edges s

/-- The ports of the edges with HALO_EN. -/
def haloPorts (e : W32) : List Nat :=
  ((List.range 4).filter (edgeHaloEn e)).foldl (fun l k => addOnce l (edgePort e k)) []

/-- A refused frame's halo is cancelled on every halo port (R307). -/
def haloCancel (f : Frame) (s : State) : State :=
  eachNat (fun p s => if meshActive s p then meshSendFrame p 3 kCancel [(qTime f.tb2).toNat] [] s else s)
    (haloPorts (frameEdge s f)) s

/-! ### Receiving strips (R311) -/

/-- Strips are discarded. -/
def dropStrips (p : Strip → Bool) (s : State) : State :=
  { s with trz := { s.trz with strips := s.trz.strips.filter fun st => !p st } }

/-- The frame slot of a target is freed with its strips (R311). -/
def haloFree (target : Int) (s : State) : State :=
  let s1 := dropStrips (fun st => st.target == target) s
  { s1 with trz := { s1.trz with haloSlots := s1.trz.haloSlots.filter fun c => c.2 != target } }

/-- A HALO_CANCEL discards the strips its port brought for its TARGET (R307). R311 frees the slot at a HALO_CANCEL and
keeps in its example the strips of the other edges: the slot goes with its last strip (DEDUCED, log entry 146). -/
def cancelStrips (port : Nat) (target : Int) (s : State) : State :=
  let s1 := dropStrips (fun st => st.port == port && st.target == target) s
  if s1.trz.strips.any fun st => st.target == target then s1 else haloFree target s1

/-- A fragment that fails its checks (R311). -/
def haloBad (geometry : Bool) (s : State) : State :=
  let s1 := trzErr 0 { s with trz := { s.trz with haloBad := satAdd 32 s.trz.haloBad 1 } }
  if geometry then trzErr 1 s1 else s1

/-- The receiver's edge that a port serves with HALO_EN, if any. -/
def edgeOfPort (s : State) (port : Nat) : Option Nat :=
  firstBelow 4 fun e => edgeHaloEn s.hom.edge.act e && edgePort s.hom.edge.act e == port

/-- The edge of the sender that faces an edge: right to left, bottom to top, and the reverse (R306). -/
def facingEdge : Nat → Nat | 0 => 1 | 1 => 0 | 2 => 3 | _ => 2

/-- TB2 times of the next two ticks, and the targets whose frame holds a slot (R311). -/
def targetOk (s : State) (target : Int) : Bool :=
  let t1 := s.scn.tickTb2 + s.scn.periodQ
  target == t1 || target == t1 + s.scn.periodQ ||
    s.scene.frames.any fun f => readingState f.state && f.tb2 == target

/-- The frame of a target, once it is in PREFLIGHT or later. -/
def frameOfTarget (s : State) (target : Int) : Option Frame :=
  s.scene.frames.find? fun f => readingState f.state && f.tb2 == target

/-- PLANE and DIM agree with a frame (R311). -/
def stripFits (f : Frame) (edge plane dim : Nat) : Bool :=
  match f.planes[plane]? with
  | none => false
  | some d => dim == if strpUpright edge then d.height else d.width

/-- PLANE and DIM agree with the receiver's own frame of the target, where it is known (R311). -/
def geometryOk (s : State) (target : Int) (edge plane dim : Nat) : Bool :=
  match frameOfTarget s target with
  | none => decide (plane < 64)
  | some f => stripFits f edge plane dim

/-- The strips held for a frame are checked against it as it becomes known: the fragments of one that does not fit are
discarded as R311 says of each (DEDUCED, log entry 147). -/
def haloRecheck (f : Frame) (s : State) : State :=
  let bad (st : Strip) : Bool := st.target == f.tb2 && !stripFits f st.edge st.plane st.dim
  let n := ((s.trz.strips.filter bad).map fun st => st.frags.length).sum
  eachNat (fun _ s => haloBad true s) (List.range n) (dropStrips bad s)

/-- Where an edge allowance starts in a frame slot: left, right, top, bottom (R310, R311; the order is a DESIGN CHOICE, log
entry 145). -/
def edgeBase : Nat → Nat | 0 => 0 | 1 => 0x800000 | 2 => 0x1000000 | _ => 0x1C00000

/-- The first address of an edge allowance. -/
def edgeAddr (slot edge : Nat) : Nat := haloArea + slot * 0x2800000 + edgeBase edge

/-- The frame slot of a target. -/
def haloSlot (s : State) (target : Int) : Option Nat := (s.trz.haloSlots.find? fun c => c.2 == target).map (·.1)

/-- The frame slot that a fragment's data goes to: its target's, or a free one (R311). -/
def haloRoom (s : State) (target : Int) : Option Nat :=
  (haloSlot s target).or (firstBelow 3 fun k => (lkp s.trz.haloSlots k).isNone)

/-- Where a fragment's data lands in its edge allowance: over an earlier copy of it, else behind all that landed there
(R311; DESIGN CHOICE, log entry 145). -/
def fragAddr (s : State) (slot : Nat) (target : Int) (edge plane off len : Nat) : Nat :=
  let mine := s.trz.strips.filter fun st => st.target == target && st.edge == edge
  let same := (mine.filter fun st => st.plane == plane).flatMap (·.frags)
  match same.find? fun f => f.1 == off && f.2.2 == len with
  | some f => f.2.1
  | none => ((mine.flatMap (·.frags)).map fun f => f.2.1 + f.2.2).foldl max (edgeAddr slot edge)

/-- The fragments of a strip cover it from 0 to its end. -/
def strpCovered (st : Strip) (n : Nat) : Bool :=
  (List.range n).all fun i => st.frags.any fun f => decide (f.1 ≤ i ∧ i < f.1 + f.2.2)

/-- A strip with its new fragment; complete when covered and STRIP_CRC checks (R311). -/
def strpAdd (s : State) (st : Strip) (off addr len : Nat) (last : Bool) (crc : W32) : Strip :=
  let st1 := { st with
    frags := (st.frags.filter fun (f : Nat × Nat × Nat) => f.1 != off) ++ [(off, addr, len)]
    total := if last then some (off + len) else st.total
    crc := if last then crc else st.crc }
  match st1.total with
  | some n => { st1 with complete := strpCovered st1 n && crc32c (stripStream s st1) == st1.crc }
  | none => st1

/-- The length of a fragment's data: what its payload holds, less padding in the LAST fragment, whose stream
length the blocks themselves give (R309). -/
def streamLength : Nat → Nat → Nat → List Byte → Nat → Nat
  | 0, _, _, _, pos => pos
  | n + 1, b, occ, bs, pos =>
    if nbit occ b = 1 then streamLength n (b + 1) occ (bs.drop (4 + leAt bs 0 4)) (pos + 4 + leAt bs 0 4)
    else streamLength n (b + 1) occ bs pos

/-- The stream of a strip cut to the length its own blocks give, once its LAST fragment is there. -/
def strpTrim (s : State) (st : Strip) : Strip :=
  match st.total with
  | none => st
  | some n =>
    let bs := stripStream s st
    let len := min n (streamLength 64 0 (leAt bs 0 8) (bs.drop 8) 8)
    let st1 := { st with total := some len }
    { st1 with complete := strpCovered st1 len && crc32c (stripStream s st1) == st1.crc }

/-- A fragment's data has landed: its strip is extended (R311). -/
def haloKeep (port : Nat) (target : Int) (e addr len : Nat) (payload : List Byte) (s : State) : State :=
  let plane := leAt payload 0 1
  let flags := byteAt payload 2
  let mine (st : Strip) : Bool := st.target == target && st.edge == e && st.plane == plane
  let old := (s.trz.strips.find? mine).getD
    { target := target, edge := e, plane := plane, port := port, dim := leAt payload 8 2, frags := [], total := none, crc := 0,
      complete := false, topFilled := false, botFilled := false }
  let new := strpTrim s (strpAdd s { old with
    topFilled := old.topFilled || bitOf flags 1, botFilled := old.botFilled || bitOf flags 2 }
    (leAt payload 4 4) addr len (bitOf flags 0) (BitVec.ofNat 32 (leAt payload 12 4)))
  { s with trz := { s.trz with strips := s.trz.strips.filter (fun st => !mine st) ++ [new] } }

/-- A halo fragment that passed its checks lands under its port's master ID, through the port's regulator (R302, R311). -/
def haloLand (port : Nat) (target : Int) (e slot addr : Nat) (payload : List Byte) (s : State) : State :=
  let dat := payload.drop 16
  regBulk (2 + port) (flits addr dat.length) (fun s =>
    match trnAccess 0 (18 + port) .w addr dat.length s with
    | (some _, s1) => s1
    | (none, s1) =>
      let s2 := dramStore (2 + port) addr dat s1
      haloKeep port target e addr dat.length payload
        { s2 with trz := { s2.trz with haloSlots := putAt s2.trz.haloSlots slot target } }) s

/-- A halo fragment's payload arrives on a port for a target (R309, R311). The spec says nothing of a fragment that no frame
slot is free for: it counts as one that fails its checks (DESIGN CHOICE, log entry 139). -/
def haloFragment (port : Nat) (target : Int) (payload : List Byte) (s : State) : State :=
  let plane := leAt payload 0 1
  let off := leAt payload 4 4
  let len := payload.length - 16
  match edgeOfPort s port with
  | none => haloBad false s
  | some e =>
    if leAt payload 1 1 != facingEdge e || !targetOk s target then haloBad false s
    else if !geometryOk s target e plane (leAt payload 8 2) then haloBad true s
    else match haloRoom s target with
      | none => haloBad false s
      | some slot =>
        let addr := fragAddr s slot target e plane off len
        if (stripHeld s target e plane).isSome || decide (edgeAllowance e < off + len) ||
          decide (edgeAddr slot e + edgeAllowance e < addr + len) then haloBad false s
        else haloLand port target e slot addr payload s

/-- A slot whose TARGET has passed without a frame of that tick being admitted is freed (R311). -/
def haloExpire (s : State) : State :=
  let old := (s.trz.haloSlots.map (·.2)).filter fun t => decide (t ≤ s.scn.tickTb2) && (frameOfTarget s t).isNone
  old.foldl (fun s t => haloFree t s) s

/-- The top and bottom strips of a frame are complete on every edge where they are enabled (R307). -/
def topBottomHeld (s : State) (f : Frame) : Bool :=
  [2, 3].all fun e => !edgeHaloEn (frameEdge s f) e ||
    (List.range f.planes.length).all fun i => (stripHeld s f.tb2 e i).isSome

/-- Halo phase 2 begins: left and right strips of the frame in PREFLIGHT or ADMITTED for the next tick (R307). -/
def haloPhase2 (s : State) : State :=
  if s.trz.phase2 then s
  else match s.scene.frames.find? fun f => f.state == .preflight || f.state == .admitted with
    | none => s
    | some f =>
      if topBottomHeld s f || decide ((((s.scn.inForce.map linesVt).getD 0) / 2 : Nat) ≤ s.scn.line) then
        sendStrips [0, 1] f { s with trz := { s.trz with phase2 := true } }
      else s

end Sys2Proof.Machine
end

