-- ==== Sys2Proof/Machine/Frames.lean ====
section
/-! DEFINITION. Frames from submission or selection to RETIRED: staging, pre-flight, admission, the ticks' part in
their states, the player's selection (R36 to R43, R67, R72 to R80, R99 to R104, R109). -/

namespace Sys2Proof.Machine

/-- The opcode of FRAME_SUBMIT (R339). -/
def opFrameSubmit : Byte := 0x14

/-- The staging slots of plane staging: address and size (R48, R49). -/
def stagingAddr (k : Nat) : Nat := 0x68000000 + k * 0x54000000

/-- Bytes of one staging slot (R49). -/
def stagingSize : Nat := 0x54000000

/-- A frame changed. -/
def modFrame (id : Nat) (f : Frame → Frame) (s : State) : State :=
  { s with scene := { s.scene with frames := s.scene.frames.map fun x => if x.id = id then f x else x } }

/-- The frame in a state, if any. -/
def frameIn (s : State) (st : FState) : Option Frame := s.scene.frames.find? fun f => f.state == st

/-- A frame by its number. -/
def frameById (s : State) (id : Nat) : Option Frame := s.scene.frames.find? fun f => f.id == id

/-- A free staging slot (R43). -/
def freeStaging (s : State) : Option Nat :=
  firstBelow 4 fun k => !s.scene.frames.any fun f => match f.origin with | .stream _ j => j == k | .scene _ _ => false

/-- A frame comes from a scene. -/
def isScene (f : Frame) : Bool := match f.origin with | .scene _ _ => true | .stream _ _ => false

/-! ### Leaving: refusal, abort, retirement (R36 to R41) -/

/-- A frame is RETIRED: no block reads it, its surfaces are released and its halo slot is freed (R36, R311, R343). -/
def retireFrame (f : Frame) (s : State) : State :=
  surfacesSettle (haloFree f.tb2
    { s with scene := { s.scene with frames := s.scene.frames.filter fun x => x.id != f.id } })

/-- What a scene's frame reports of a refusal or abort (R39, R77, R78). -/
def sceneReport (slot n : Nat) (st : Status) (s : State) : State :=
  match st with
  | .budget => log .frameBudget [slot, n] (modPlayer (fun p => { p with budget := satAdd 32 p.budget 1 }) s)
  | .late => log .frameLate [slot, n] (modPlayer (fun p => { p with late := satAdd 32 p.late 1 }) s)
  | .degraded => modPlayer (fun p => { p with lost := satAdd 32 p.lost 1 }) s
  | .aborted => log .frameAbort [slot, n] (modPlayer (fun p => { p with aborted := satAdd 32 p.aborted 1 }) s)
  | _ => s

/-- A frame's outcome is reported where it came from (R39). -/
def frameReport (f : Frame) (st : Status) (detail : W64) (s : State) : State :=
  match f.origin with
  | .stream h _ => complete opFrameSubmit h st detail s
  | .scene slot n => sceneReport slot n st s

/-- A frame is refused before its first scan (R37, R40, R77): its halo is cancelled when the pre-flight refuses it, and a
frame that never entered PREFLIGHT has none (R307). -/
def refuseFrame (f : Frame) (st : Status) (detail : W64) (s : State) : State :=
  let s1 := if f.state == .pending then s else haloCancel f s
  let s2 := match f.origin with
    | .scene _ n => modPlayer (fun p => { p with lastRefused := n }) s1
    | .stream _ _ => s1
  frameReport f st detail (retireFrame f s2)

/-- Frames are retired with ABORTED, without a count for a scene's (R179, R216); PREFLIGHT_BUSY falls with a frame in
PREFLIGHT (R111). -/
def abortFrames (p : Frame → Bool) (s : State) : State :=
  let s1 := (s.scene.frames.filter p).foldl (fun s f =>
    match f.origin with
    | .stream h _ => complete opFrameSubmit h .aborted 0 (retireFrame f s)
    | .scene _ _ => retireFrame f s) s
  { s1 with hom := { s1.hom with pfBusy := s1.hom.pfBusy && (frameIn s1 .preflight).isSome } }

/-! ### FRAME_SUBMIT (R72 to R74) -/

/-- A frame that lands in a staging slot. -/
def newStream (s : State) (h : Hdr) (p : FrameSubmitP) (k : Nat) : Frame where
  id := s.scene.nextFrame
  origin := .stream h k
  state := .landing
  entryAddr := stagingAddr k
  block := stagingAddr k + 32
  length := 0
  room := p.recLength.toNat
  ovlArea := (0, 0)
  maxPlanes := 64
  target := if bitOf p.flags 0 then some (timeQ p.target) else none
  planes := []
  overlays := []
  reads := []
  edge := none
  cost := 0
  rowMax := 0
  tb2 := 0
  fresh := true
  retried := false
  poisoned := 0
  haloLate := []
  dataOk := true
  stagingLost := false

/-- A frame added. -/
def addFrame (f : Frame) (s : State) : State :=
  { s with scene := { s.scene with frames := s.scene.frames ++ [f], nextFrame := s.scene.nextFrame + 1 } }

/-- What a FRAME_SUBMIT completes with before it takes a staging slot; none where it goes on to one (R49, R72 to R74,
R216). -/
def submitRefusal (p : FrameSubmitP) (s : State) : Option Status :=
  let n := p.recLength.toNat
  if n = 0 then some .ok
  else if ones 4 n || decide (stagingSize < n) then some .lengthRange
  else if p.hostAddr.toNat % 64 ≠ 0 || p.rsvd || decide (2 ≤ p.flags.toNat) ||
    badTime (bitOf p.flags 0) p.target then some .badParam
  else if s.pwr.state != .on || s.scene.player.state == .armed || s.scene.player.state == .playing then some .busy
  else none

/-- FRAME_SUBMIT (R40, R49, R72 to R74, R216). A FRAME_SUBMIT that no staging slot can take is not fetched (R43). -/
def doFrameSubmit (h : Hdr) (p : FrameSubmitP) (s : State) : State :=
  match submitRefusal p s with
  | some st => complete opFrameSubmit h st 0 s
  | none => match freeStaging s with
    | none => s
    | some k => addFrame (newStream s h p k) s

/-- What a frame's checks run against (R66, R67), at its pre-flight or before it. A surface that the frame already reads
keeps its handle (R344). -/
def frameCtx (preflight : Bool) (s : State) (f : Frame) : FrameCtx where
  entry := dramBytes s f.entryAddr 32
  block := fun o l => dramBytes s (f.block + o) l
  number := match f.origin with | .scene _ n => n | .stream _ _ => 0
  room := f.room
  streamed := !isScene f
  hx := ((curTiming s).map (·.hx)).getD 0
  hy := ((curTiming s).map (·.hy)).getD 0
  maxPlanes := f.maxPlanes
  ovl := fun o l => dramBytes s (f.ovlArea.1 + o) l
  ovlLength := f.ovlArea.2
  handle := fun h =>
    (handleAt s h).or ((s.hq.surfaces.find? fun c => c.2.handle.toNat == h && f.reads.contains c.1).map
      fun c => (c.2.addr, c.2.size))
  dram := dramReader s
  preflight := preflight

/-- The surface index a handle has, released or not. -/
def handleSlot (s : State) (h : Nat) : Option Nat := (s.hq.surfaces.find? fun c => c.2.handle.toNat == h).map (·.1)

/-- What an enabled reference of a frame shows (R64, R120, R124). -/
def refShow (s : State) (f : Frame) (c : FrameCtx) (r : OvlRef) : Option OvlShow :=
  if !r.enable then none
  else
    let addr := if r.registered then (c.handle r.surface).map (·.1) else some (f.ovlArea.1 + 64 * r.surface)
    match addr, c.surf r with
    | some a, some (b, _) => some {
        slot := r.slot, disparity := r.disparity, posX := r.posX, posY := r.posY, hdr := parseSurf a b,
        surface := if r.registered then handleSlot s r.surface else none }
    | _, _ => none

/-- A frame's structures read again from DRAM: planes, overlays and the surfaces it names (R343). -/
def captureFrame (s : State) (f : Frame) : Frame :=
  let c := frameCtx true s f
  let e := parseEntry c.entry
  if entryBounds c != none then f
  else
    let g := { f with length := e.length }
    let c1 := frameCtx true s g
    { g with
      planes := c1.planes.map (·.2)
      overlays := c1.refs.filterMap fun r => refShow s g c1 r.2
      reads := c1.refs.filterMap fun r =>
        if r.2.registered && (c1.handle r.2.surface).isSome then handleSlot s r.2.surface else none }

/-- A record stands in staging: bounds, DATA_CRC, and PENDING, or LATE when the pre-flight of its target tick has begun
(R37, R67, R73, R174). -/
def frameChecked (f : Frame) (s2 : State) : State :=
  let c := frameCtx false s2 f
  match frameBounds c with
  | some (st, d) => frameReport f st d (retireFrame f s2)
  | none =>
    let g := { f with state := FState.pending, length := (parseEntry c.entry).length, dataOk := !dataCrcBad c }
    let s3 := holdExit 1 (modFrame f.id (fun _ => g) s2)
    match g.target, s3.scn.pfTime with
    | some t, some now => if decide (t ≤ now) && s3.scn.retimeStep == 0 then frameReport g .late 0 (retireFrame g s3) else s3
    | _, _ => s3

/-- The record lands in staging (R67, R73, R250, R353, R405). -/
def frameLanded (k : Nat) (ans : HostAns) (s : State) : State :=
  match s.scene.frames.find? fun f => f.state == .landing && (match f.origin with | .stream _ j => j == k | _ => false) with
  | none => s
  | some f =>
    match ans with
    | .refused => frameReport f .access 0 (retireFrame f s)
    | .poisoned => frameReport f .uncorrectable 0 (retireFrame f s)
    | .data bs =>
      let h := match f.origin with | .stream h _ => h.src | .scene _ _ => .fw
      regBulk (jglPortOf s h) (flits (stagingAddr k) f.room) (fun s =>
        match trnAccess 0 (srcMaster s h) .w (stagingAddr k) f.room s with
        | (some st, s1) => frameReport f st 0 (retireFrame f s1)
        | (none, s1) => frameChecked f (dramStore (jglPortOf s1 h) (stagingAddr k) (fit f.room bs) s1)) s

/-! ### Pre-flight (R28, R32, R37, R66, R67, R99 to R104, R109) -/

/-- The timing a pre-flight costs with: a seamless change due at its tick counts (R178). -/
def pfTiming (s : State) : Option Timing := s.scn.rateDue.or (curTiming s)

/-- A logical pipeline is mapped by a map (R110). -/
def pipeMapped (m : Sparse Nat) (p : Nat) : Bool := spGet p m p != 0x7F

/-- Pipelines in service under a map (R110, R111). -/
def pipesIn (m : Sparse Nat) : Nat := countBelow 64 (pipeMapped m)

/-- Pipelines the pre-flight counts with: a reduction already written to the shadow counts (R109). -/
def pfPipes (s : State) : Nat := pipesIn (s.hom.pipeMapSh.getD s.hom.pipeMap)

/-- The planes of a frame with their tile tables. -/
def planeTables (s : State) (f : Frame) : List (PlaneDesc × List Byte) := f.planes.map fun d => (d, liveTable s f d)

/-- A frame's cost under a timing (R100 to R102). -/
def costOf (s : State) (f : Frame) (t : Timing) (n : Nat) : Cost :=
  frameCost (planeTables s f) (frameEdge s f) t.hx t.hy (modeUV t.mode).1 (modeUV t.mode).2 (nBase (periodPs t)) n

/-- frame_budget and l_row of a full region row, as applied (R32, R102, R109, R111). -/
def pfBudget (t : Timing) (n : Nat) : Nat × Nat :=
  (frameBudget (nBase (periodPs t)) n, rowLimit (nBase (periodPs t)) n (rowHeight t.hy 0) t.hy)

/-- A SHOWING frame still fits the limits (R109, R178). -/
def frameFits (s : State) (t : Timing) (n : Nat) (f : Frame) : Bool :=
  let c := costOf s f t n
  c.failRow.isNone && decide (c.total ≤ (pfBudget t n).1)

/-- The result of a pre-flight, published at the next tick (R104, R113). -/
def pfRecord (outcome row cost rowMax : Nat) (s : State) : State :=
  let b := match pfTiming s with | some t => pfBudget t (pfPipes s) | none => (0, 0)
  { s with hom := { s.hom with pfBusy := false, pfNext := some (outcome, row, cost, b.1, b.2, rowMax) } }

/-- The code of a refusal in HOM_PF_RESULT (R111). -/
def pfCode : Status → Nat | .late => 3 | .integrity => 4 | _ => 5

/-- A pre-flight ends in a refusal without a complete cost (R104). -/
def pfRefuse (f : Frame) (st : Status) (detail : W64) (s : State) : State :=
  refuseFrame f st detail (pfRecord (pfCode st) 0xFFFF 0 0 s)

/-- The bounds step of a frame at its pre-flight: a stored frame's with its placement in the package (R51, R67). -/
def pfBounds (s : State) (f : Frame) : Option Failure :=
  let c := frameCtx true s f
  match f.origin with
  | .scene slot _ => storedBounds (pkgReader s (slotOf s slot)) (slotHdr s slot) c
  | .stream _ _ => frameBounds c

/-- The checks of a frame at its pre-flight (R66, R67). -/
def pfChecks (s : State) (f : Frame) : Option Failure :=
  let c := frameCtx true s f
  asIntegrity ((pfBounds s f).or ((frameCrcs c (!isScene f) (!isScene f && !f.dataOk)).or (frameContents c)))

/-- A frame's staging lay in what a re-base has given up (R80, R248). -/
def frameLost (f : Frame) : Bool := f.stagingLost

/-- The detail word of a frame whose staging was given up: the lost range, in a form R40 does not give (log entry 104). -/
def lostDetail (f : Frame) : W64 :=
  match f.origin with
  | .stream _ k => Config.lostRange (stagingAddr k) f.room
  | .scene _ _ => Config.lostRange f.block f.length

/-- A re-base gives up plane staging: the frames that landed there are lost (R80, R248). -/
def stagingGivenUp (s : State) : State :=
  let fs : List Frame := s.scene.frames.map fun f =>
    if !isScene f && f.state != .landing then { f with stagingLost := true } else f
  { s with scene := { s.scene with frames := fs } }

/-- The BUDGET detail word (R104). -/
def budgetDetail (c : Cost) : W64 := put (c.failRow.getD 0xFFFF) 0 ||| put (c.total / 65536 % 2 ^ 48) 16

/-- A frame that passed its checks is admitted or refused by cost (R32, R102, R104). -/
def pfCost (f : Frame) (t : Timing) (s : State) : State :=
  let n := pfPipes s
  let c := costOf s f t n
  if c.failRow.isSome || decide ((pfBudget t n).1 < c.total) then
    refuseFrame f .budget (budgetDetail c)
      (pfRecord (if c.failRow.isSome then 2 else 1) (c.failRow.getD 0xFFFF) c.total c.rowMax s)
  else
    let s1 := pfRecord 0 0xFFFF c.total c.rowMax
      (modFrame f.id (fun x => { x with state := .admitted, cost := c.total, rowMax := c.rowMax }) s)
    match f.origin with
    | .scene _ k => modPlayer (fun p => { p with lastSelected := k }) s1
    | .stream _ _ => s1

/-- What the pre-flight unit reads of a frame: its entry, its descriptors and overlay references, its tile tables and the
headers of its overlay surfaces (R67, R119): address and length. -/
def pfReads (s : State) (f : Frame) : List (Nat × Nat) :=
  let c := frameCtx true s f
  let e := parseEntry c.entry
  (f.entryAddr, 32) :: (f.block, 64 * e.planes + 32 * e.overlays) ::
    ((c.planes.map fun p => (f.block + 64 * p.2.ttOffset, ttBytes p.2)) ++
      c.refs.filterMap fun r => if r.2.registered then (c.handle r.2.surface).map fun a => (a.1, 64)
        else some (f.ovlArea.1 + 64 * r.2.surface, 64))

/-- The pre-flight unit's reads leave their notes of what lies past JGL_LIMIT (R240). -/
def pfNotes (f : Frame) (s : State) : State := (pfReads s f).foldl (fun s r => dramNote portHom r.1 r.2 s) s

/-- The address and size of a plane's tile table. -/
def pfTable (f : Frame) (i : Nat) : Nat × Nat :=
  match f.planes[i]? with | some d => (f.block + 64 * d.ttOffset, ttBytes d) | none => (f.block, 0)

/-- The first plane whose tile table comes back poisoned whatever its error check (R104, R252). -/
def tablePoisoned (s : State) (f : Frame) : Option Nat :=
  firstBelow f.planes.length fun i => dramPoisoned s (pfTable f i).1 (pfTable f i).2

/-- The plane whose tile table cannot be read, and the state after the failed error check that `poison` reports for one
(R104, R253). -/
def tableRead (poison : Option Nat) (f : Frame) (s : State) : Option Nat × State :=
  match poison with
  | some i =>
    (some i, if (f.planes[i]?).isSome && !dramPoisoned s (pfTable f i).1 (pfTable f i).2
      then dramLasting portHom (pfTable f i).1 s else s)
  | none => (tablePoisoned s f, s)

/-- The pre-flight unit decides (R37, R40, R67, R80, R104); `poison` names a plane whose tile table read stayed
poisoned. -/
def preflightDecided (poison : Option Nat) (s : State) : State :=
  match frameIn s .preflight, pfTiming s with
  | some f, some t =>
    if f.edge.isNone then s
    else if frameLost f then pfRefuse f .degraded (lostDetail f) s
    else
      let n := match f.origin with | .scene _ n => n | .stream _ _ => 0
      match tableRead poison f (pfNotes f s) with
      | (some i, s1) => pfRefuse f .integrity (failDetail n i 4 6) s1
      | (none, s1) =>
        match pfChecks s1 f with
        | some (st, d) => pfRefuse f st d s1
        | none =>
          let g := captureFrame s1 f
          surfacesSettle (pfCost g t (modFrame f.id (fun _ => g) s1))
  | _, _ => s

/-! ### The player's selection (R75 to R78) -/

/-- A frame of a scene as it enters PREFLIGHT. -/
def newScene (s : State) (slot n : Nat) : Frame :=
  let x := slotOf s slot
  let h := slotHdr s slot
  let base := slotAddr x
  let e := parseEntry (dramBytes s (base + h.indexOffset + 32 * n) 32)
  { id := s.scene.nextFrame, origin := .scene slot n, state := .preflight, entryAddr := base + h.indexOffset + 32 * n,
    block := base + e.offset, length := e.length, room := h.length, ovlArea := (base + h.ovlOffset, h.ovlLength),
    maxPlanes := h.maxPlanes, target := none, planes := [], overlays := [], reads := [], edge := none, cost := 0,
    rowMax := 0, tb2 := 0, fresh := true, retried := false, poisoned := 0, haloLate := [], dataOk := true, stagingLost := false }

/-- A frame starts its pre-flight for the tick at a TB2 time (R104, R307, R343). PREFLIGHT_BUSY is set with the frame's
entry into PREFLIGHT at line 0, not with the evaluation from line 256 on: the spec does not say which (DESIGN CHOICE, log
entry 140). -/
def startPreflight (f : Frame) (tb2 : Int) (s : State) : State :=
  let g := captureFrame s { f with state := .preflight, tb2 := tb2, edge := none }
  let s1 := haloRecheck g (surfacesSettle (modFrame f.id (fun _ => g) s))
  sendStrips [2, 3] g { s1 with hom := { s1.hom with pfBusy := true } }

/-- A selected frame lies in a lost store range: the one recorded for its slot (R79), or what lies past the limit now
(R77). -/
def sceneLost (s : State) (slot : Nat) (f : Frame) : Bool :=
  let x := slotOf s slot
  decide (s.jgl.limit < f.block + f.length) || decide (s.jgl.limit < f.entryAddr + 32) || (match x.lost with
    | some (a, b) => overlaps f.block f.length (slotAddr x + a) (b - a) || overlaps f.entryAddr 32 (slotAddr x + a) (b - a)
    | none => false)

/-- The frame due at TB0 time `tk` is selected (R77). -/
def selectFrame (tk tb2 : Int) (s : State) : State :=
  let p := s.scene.player
  let h := slotHdr s p.slot
  let count := (slotOf s p.slot).frames
  let origin := p.origin.getD tk
  let raw := dueAt h.rateNum h.rateDen origin p.startFrame tk
  let s0 := modPlayer (fun p => { p with origin := some origin }) s
  if raw < 0 ∨ count = 0 then s0
  else
    let past := decide ((count : Int) ≤ raw)
    let due : Int := if p.loop then raw % count else if past then count - 1 else raw
    let s1 := modPlayer (fun p => { p with state := if past && !p.loop then .ended else .playing }) s0
    if due = p.lastSelected ∨ due = p.lastRefused then s1
    else
      let last := max p.lastSelected p.lastRefused
      let s2 := if last + 1 < due then
          modPlayer (fun p => { p with skipped := satAdd 32 p.skipped (due - last - 1).toNat }) s1 else s1
      let f := newScene s2 p.slot due.toNat
      if sceneLost s2 p.slot f then modPlayer (fun p => { p with lost := satAdd 32 p.lost 1, lastRefused := due }) s2
      else startPreflight f tb2 (addFrame f s2)

/-- A SCENE_SEEK takes effect (R76): an ARMED player stays so until its selection finds a frame due (R75, R77). -/
def applySeek (s : State) : State :=
  match s.scene.player.seeking with
  | none => s
  | some (h, f, t) =>
    complete 0x13 h .ok 0 (modPlayer (fun p => { p with
      seeking := none, state := if p.state == .armed then .armed else .playing, origin := t, startFrame := f,
      lastSelected := (f : Int) - 1, lastRefused := (f : Int) - 1 }) s)

/-- The play counter in SCENE_STOP's detail word (R76). -/
def stopDone (h : Hdr) (s : State) : State := complete 0x12 h .ok (put s.scene.player.shown 0) s

/-- The SHOWING frame is RETIRED (R36). -/
def showingOut (s : State) : State := match frameIn s .showing with | some f => retireFrame f s | none => s

/-- One SCENE_STOP at the tick from which selection stops (R36, R76, R157): at EN = 0, BLACK waits for a tick that is no
frame tick, at which the SHOWING frame is left. -/
def stopOne (frame : Bool) (s : State) (w : Hdr × Bool) : State :=
  if !w.2 then stopDone w.1 s
  else if crslEn s then stopDone w.1 (deviceClear .stop false s)
  else if frame then modPlayer (fun p => { p with stopping := p.stopping ++ [w] }) s
  else stopDone w.1 (showingOut { s with crsl := { s.crsl with blackUntilFrame := true } })

/-- The SCENE_STOPs that wait take effect; the player goes IDLE (R75, R76), and a SCENE_SEEK still waiting ends as ABORTED
(DESIGN CHOICE, log entry 129). -/
def applyStops (frame : Bool) (s : State) : State :=
  let ws := s.scene.player.stopping
  if ws.isEmpty then s
  else
    let s1 := match s.scene.player.seeking with
      | some (h, _, _) => complete 0x13 h .aborted 0 (modPlayer (fun p => { p with seeking := none }) s)
      | none => s
    ws.foldl (stopOne frame) (modPlayer (fun p => { p with state := .idle, stopping := [] }) s1)

/-- The player goes IDLE as under SCENE_STOP, at a power-down (R216). -/
def playerStop (s : State) : State :=
  let p := s.scene.player
  let s1 := match p.seeking with | some (h, _, _) => complete 0x13 h .aborted 0 s | none => s
  let s2 := p.stopping.foldl (fun s w => stopDone w.1 s) s1
  modPlayer (fun p => { p with state := .idle, seeking := none, stopping := [] }) s2

/-! ### The ticks' part (R36 to R38, R73, R104) -/

/-- A streamed frame is due for a tick at a TB0 time (R37, R73). -/
def streamDue (tk : Int) (f : Frame) : Bool :=
  f.state == .pending && (match f.target with | some t => decide (t ≤ tk) | none => true)

/-- The streamed frames due take the tick: the first starts its pre-flight, another one with a target misses
(R37, R73). -/
def startStream (tk tb2 : Int) (s : State) : State :=
  match s.scene.frames.filter (streamDue tk) with
  | [] => s
  | f :: rest =>
    let s1 := (rest.filter fun g => g.target.isSome).foldl (fun s g => refuseFrame g .late 0 s) s
    startPreflight f tb2 s1

/-- The pre-flight for the next tick starts (R37, R77, R104). -/
def preflightStart (frame : Bool) (s : State) : State :=
  let tk := tb0Q s + s.scn.periodQ
  let tb2 := s.scn.tickTb2 + s.scn.periodQ
  let s0 := applyStops frame { s with scn := { s.scn with pfTime := some tk }, trz := { s.trz with phase2 := false } }
  if s.pwr.state != .on then s0
  else
    let s1 := applySeek s0
    if s1.scene.player.state == .armed || s1.scene.player.state == .playing then selectFrame tk tb2 s1
    else startStream tk tb2 s1

/-- A frame whose first scan was complete enters SHOWING, and the one before it is RETIRED (R36, R39, R40). -/
def frameShown (f : Frame) (s : State) : State :=
  let s1 := match frameIn s .showing with | some old => retireFrame old s | none => s
  let s2 := modFrame f.id (fun x => { x with state := .showing, fresh := false }) s1
  match f.origin with
  | .stream h _ =>
    if 0 < f.poisoned then complete opFrameSubmit h .uncorrectable (put f.poisoned 0) s2
    else complete opFrameSubmit h (if f.retried then .okRetried else .ok) 0 s2
  | .scene slot n =>
    let s3 := modPlayer (fun p => { p with
      shownFrame := n, shown := satAdd 32 p.shown 1, poison := if 0 < f.poisoned then satAdd 32 p.poison 1 else p.poison }) s2
    if 0 < f.poisoned then log .framePoison [slot, n, f.poisoned] s3 else s3

/-- An underrun retires the frame of its first scan (R40, R41); a SHOWING frame stays. -/
def frameAborted (a : Nat) (s : State) : State :=
  match frameIn s .scanning with
  | none => s
  | some f => frameReport f .aborted (put a 0) (retireFrame f s)

/-- Frames at a tick: the scan that ended, an undecided pre-flight, and the frame to be scanned (R36 to R38, R104).
`hold`: no frame may be scanned in this tick (R243). -/
def framesTick (complete_ hold : Bool) (s : State) : State :=
  let s1 := match frameIn s .scanning with
    | some f => if complete_ then frameShown f s else frameReport f .aborted 0 (retireFrame f s)
    | none => s
  let s2 := match frameIn s1 .preflight with | some f => pfRefuse f .late 0 s1 | none => s1
  match frameIn s2 .admitted with
  | none => s2
  | some f =>
    if hold then refuseFrame f .late 0 (pfRecord 3 0xFFFF 0 0 s2)
    else modFrame f.id (fun x => { x with state := .scanning }) s2

/-- The results of the pre-flight decided before the tick are published (R104, R113). -/
def publishPf (s : State) : State :=
  match s.hom.pfNext with
  | none => s
  | some (o, row, cost, b, rl, rm) => { s with hom := { s.hom with
      pfNext := none, pfOutcome := o, pfRow := row, pfCost := cost, pfBudget := b, pfRowLim := rl, pfRowMax := rm } }

/-- At a retime's step 1 the frames not yet scanned return to the queue (R40, R179). -/
def framesDrain (s : State) : State :=
  let early (f : Frame) : Bool := f.state == .pending || f.state == .preflight || f.state == .admitted
  let s1 := abortFrames (fun f => early f && isScene f) s
  let fs : List Frame := s1.scene.frames.map fun f =>
    if early f then { f with state := .pending, target := none, edge := none, reads := [], overlays := [] } else f
  { s1 with
    scene := { s1.scene with frames := fs },
    hom := { s1.hom with pfBusy := false } }

/-- A frame's slice of time has passed while the raster was away: frames that landed meanwhile take the first ticks
(R40, R179). -/
def framesResume (s : State) : State :=
  let due (f : Frame) : Bool := f.state == .pending &&
    (match f.target with | some t => decide (t ≤ tb0Q s + s.scn.periodQ) | none => false)
  let fs : List Frame := s.scene.frames.map fun f => if due f then { f with target := none } else f
  { s with scene := { s.scene with frames := fs } }

end Sys2Proof.Machine
end

