-- ==== Sys2Proof/Machine/Pwr.lean ====
section
/-! DEFINITION. Panel power: the sequences, the headroom loop, dimming and derating, diagnostic rows, faults (R214
to R232). -/

namespace Sys2Proof.Machine

/-- PWR_ERR bit `i` set (R232): 0 SEQ_FAIL, 1 OV, 2 UV, 3 PG_LOST, 4 EMITTER_FAULT, 5 EFT_FULL, 6 MAP_INVALID,
7 PG_STUCK, 8 NO_TIMING. -/
def pwrErr (i : Nat) (s : State) : State := { s with pwr := { s.pwr with err := setBit s.pwr.err i } }

/-- PWR_STATUS.STATE (R232). -/
def pwrCode : PwrState → Nat | .off => 0 | .poweringUp => 1 | .on => 2 | .poweringDown => 3 | .faulted => 4

/-- Panel power enters a state and step; a change of state is logged, and ON, OFF and FAULTED raise their sources
(R215). -/
def pwrTo (st : PwrState) (step : Nat) (s : State) : State :=
  let old := s.pwr.state
  let s1 := { s with pwr := { s.pwr with state := st, step := step } }
  if old == st then s1
  else
    let s2 := log .pwrState [pwrCode old, pwrCode st, step, s.pwr.failStep] s1
    match st with
    | .on => brkEvent 160 s2
    | .off => brkEvent 161 s2
    | .faulted => brkEvent 162 s2
    | _ => s2

/-- An emitter rail by colour. -/
def vrail (s : State) (c : Nat) : VRail := match c with | 0 => s.pwr.r | 1 => s.pwr.g | _ => s.pwr.b

/-- An emitter rail changed. -/
def modRail (c : Nat) (f : VRail → VRail) (s : State) : State :=
  match c with
  | 0 => { s with pwr := { s.pwr with r := f s.pwr.r } }
  | 1 => { s with pwr := { s.pwr with g := f s.pwr.g } }
  | _ => { s with pwr := { s.pwr with b := f s.pwr.b } }

/-- Every emitter rail changed. -/
def allRails (f : VRail → VRail) (s : State) : State := modRail 2 f (modRail 1 f (modRail 0 f s))

/-- VMIN and VMAX of a rail in mV. -/
def vMin (x : VRail) : Int := fld x.lim 15 0
/-- VMAX of a rail in mV. -/
def vMax (x : VRail) : Int := fld x.lim 31 16

/-- The setpoint code before saturation (R224). -/
def vCodeRaw (x : VRail) (vset : Int) : Int :=
  let slope : Int := fld x.map 31 16
  ((vset - fld x.map 15 0) * 1000 + slope / 2) / slope

/-- The setpoint code of a vset (R224). -/
def vCode (x : VRail) (vset : Int) : Nat := (sat (vCodeRaw x vset) 0 4095).toNat

/-- A rail's setpoint becomes `v` (R224); with SLOPE 0, which the manual gives no code for, the code is a free
value. -/
def setV (c : Nat) (v : Int) (s : State) : State :=
  if fld (vrail s c).map 31 16 = 0 then
    let (x, s1) := drawFree s
    modRail c (fun r => { r with vset := v, code := x.toNat % 4096 }) s1
  else modRail c (fun r => { r with vset := v, code := vCode r v }) s

/-- A rail's map and limits allow a power-up (R217). -/
def mapOk (x : VRail) : Bool :=
  fld x.map 31 16 != 0 && decide (vMin x < vMax x) && decide (vCodeRaw x (vMax x) ≤ 4095)

/-! ### IREF outputs (R217, R219, R222, R226, R227) -/

/-- The code on an IREF output: a ramp runs in 64 equal steps (R217, R222, R226). -/
def irefOut (s : State) (c : Nat) : Nat :=
  let x := vrail s c
  match s.pwr.ramp with
  | none => x.out
  | some r =>
    let k := min 64 ((s.clp.cycle - r.start) * 64 / max r.len 1)
    if r.up then (rshr (x.eff * k : Nat) 6).toNat else (rshr (x.base * (64 - k) : Nat) 6).toNat

/-- Data-plane cycles in some MT (R20). -/
def mtCycles (n : Nat) : Nat := n * 1600000

/-- The outputs ramp up to their effective values over RAMP_UP (R217, R222). -/
def rampUp (s : State) : State :=
  { s with pwr := { s.pwr with ramp := some ⟨true, s.clp.cycle, mtCycles (fld s.pwr.seq 7 0)⟩ } }

/-- The outputs ramp down to 0 over some MT, from what they carry (R219) or from their effective values (R222). -/
def rampDown (fromEff : Bool) (ms : Nat) (s : State) : State :=
  let v (c : Nat) : Nat := if fromEff then (vrail s c).eff else irefOut s c
  let s1 := eachNat (fun c => modRail c fun x => { x with base := v c }) [0, 1, 2] s
  { s1 with pwr := { s1.pwr with ramp := some ⟨false, s.clp.cycle, mtCycles ms⟩ } }

/-- A ramp has ended: the outputs stay at its end. -/
def rampEnd (s : State) : State :=
  match s.pwr.ramp with
  | none => s
  | some r => allRails (fun x => { x with out := if r.up then x.eff else 0 }) { s with pwr := { s.pwr with ramp := none } }

/-- Every IREF output at 0. -/
def irefZero (s : State) : State := allRails (fun x => { x with out := 0 }) { s with pwr := { s.pwr with ramp := none } }

/-- f of a panel temperature (R227). -/
def derateOf (s : State) (temp : Int) : Nat :=
  let above := max (temp - sext 16 (fld s.pwr.derate.act 15 0)) 0
  let red := fld s.pwr.derate.act 31 16 * above.toNat / 16
  max (65536 - min red 65536) (fld s.pwr.derateFloor.act 16 0)

/-- At line 0 the IREF codes are derated by the hottest zone (R227). -/
def derateTick (s : State) : State :=
  let temps := (List.range 30).filterMap fun g => maxReading s (zoneSources s g)
  let nosrc := (List.range 30).all fun g => (zoneSources s g).isEmpty
  let f := match temps with
    | [] => if nosrc then fld s.pwr.derateFloor.act 16 0 else s.pwr.derateF
    | t :: r => derateOf s (r.foldl max t)
  let s1 := allRails (fun x =>
    let e := (rshr (fld x.iref.act 11 0 * f : Nat) 16).toNat % 4096
    { x with eff := e, out := if s.pwr.state == .on then e else x.out }) s
  let s2 := { s1 with pwr := { s1.pwr with derateF := f, derating := decide (f < 65536), derateNosrc := nosrc } }
  if nosrc && !s.pwr.derateNosrc then log .pwrDerateNosrc [] s2 else s2

/-! ### Rail enables (R214, R217 to R221) -/

/-- Power-good inputs 3 to 5 are all low. -/
def vledPgLow (s : State) : Bool := s.pwr.pg / 8 % 8 == 0

/-- The bit of a power-good input (R232). -/
def pgBit : PnlRail → Nat | .logic => 0 | .gate => 1 | .bias => 2 | .vledR => 3 | .vledG => 4 | .vledB => 5

/-- A power-good input is high. -/
def pgHigh (s : State) (b : Nat) : Bool := s.pwr.pg / 2 ^ b % 2 == 1

/-- A power-good input becomes high or low. -/
def setPg (b : Nat) (v : Bool) (s : State) : State :=
  if pgHigh s b == v then s
  else { s with pwr := { s.pwr with pg := if v then s.pwr.pg + 2 ^ b else s.pwr.pg - 2 ^ b } }

/-- The three emitter rails' power-good inputs go low. -/
def vledPgFall (s : State) : State := setPg 3 false (setPg 4 false (setPg 5 false s))

/-- A rail's enable is driven (R214). -/
def railEn (s : State) : PnlRail → Bool
  | .logic => s.pwr.enLogic | .gate => s.pwr.enGate | .bias => s.pwr.enBias
  | .vledR => s.pwr.r.en | .vledG => s.pwr.g.en | .vledB => s.pwr.b.en

/-- The emitter rails are disabled, their setpoints at code 0 (R219, R221). -/
def vledOff (s : State) : State := allRails (fun x => { x with en := false, code := 0 }) s

/-- Any emitter rail is enabled or up. -/
def vledUp (s : State) : Bool := s.pwr.r.en || s.pwr.g.en || s.pwr.b.en || !vledPgLow s

/-- The highest-ranking rail enable still driven falls: bias, then gate, then logic (R219, R221). -/
def railOff (s : State) : State :=
  if s.pwr.enBias then { s with pwr := { s.pwr with enBias := false } }
  else if s.pwr.enGate then { s with pwr := { s.pwr with enGate := false } }
  else { s with pwr := { s.pwr with enLogic := false } }

/-- Some rail enable is driven. -/
def railsOn (s : State) : Bool := s.pwr.enBias || s.pwr.enGate || s.pwr.enLogic

/-! ### The raster as panel power stops it (R174, R179, R219, R221) -/

/-- A hold extension ends with its cause after some slots (R174, R183). -/
def extensionClose (cause slots : Nat) (s : State) : State :=
  if !s.scn.inExtension then s
  else { s with scn := { s.scn with
    inExtension := false, extension := 0, holdEnd := cause, holdSlots := satAdd 32 s.scn.holdSlots slots } }

/-- Slot boundaries of the base grid that have fallen since the last tick. -/
def slotsPassed (s : State) : Nat :=
  match s.scn.inForce with | some t => ((tb2Q s - s.scn.tickTb2) / basePeriod t).toNat | none => 0

/-- The raster enters STOPPED (R165); a TB2 offset that waited for it applies (R317), and a pipeline error of the scan that
ends is over (R106). -/
def rasterStop (s : State) : State :=
  let s1 := extensionClose 5 (slotsPassed s) s
  { s1 with
    scn := { s1.scn with state := .stopped, scan := {}, exitCause := none, first := true, pfTime := none, multLog := 0,
                         afterAbort := false, line := 0, wmDone := [] },
    hom := { s1.hom with suppressed := none },
    clp := { s1.clp with ofs2 := s1.clp.ofs2New.getD s1.clp.ofs2, ofs2New := none } }

/-- A timing is recorded while the raster is STOPPED, or as while it is (R177, R222). -/
def timingRecord (t : Timing) (s : State) : State :=
  let s1 := { s with
    scn := { s.scn with timing := some t },
    crsl := { s.crsl with priorPitch := priorPitch t } }
  if crslEn s then s1 else regionsIdle t s1

/-- The changes of timing accepted end at their current step: the timing is recorded as under R177, and they complete when
OFF is reached (R222). -/
def retimeEnd (s : State) : State :=
  let s1 := s.scn.jobs.foldl (fun s j => timingRecord j.timing s) s
  { s1 with scn := { s1.scn with retimeStep := 0, restart := 0, rateDue := none } }

/-- What every power-down does first: frames before their scan are retired and the player goes IDLE (R216, R222). -/
def downStart (s : State) : State :=
  retimeEnd (playerStop (abortFrames (fun f =>
    f.state == .landing || f.state == .pending || f.state == .preflight || f.state == .admitted) s))

/-- Every region context becomes BLACK and every request ends as aborted (R221). -/
def regionsBlack (s : State) : State :=
  let s1 := crslDisable s
  { s1 with crsl := { s1.crsl with regions := [] } }

/-! ### The start of a power-up (R217) -/

/-- PANEL_ON takes effect in OFF (R217, R237, R431). -/
def powerUp (s : State) : State :=
  if s.pwr.state != .off || noService s then s
  else if s.cal.running.isSome then { s with pwr := { s.pwr with onDue := true } }
  else
    let s0 := { s with pwr := { s.pwr with onDue := false, fast := false, blackScans := 0 } }
    if s.scn.timing.isNone then pwrTo .faulted 0 (pwrErr 8 s0)
    else if !(mapOk s.pwr.r && mapOk s.pwr.g && mapOk s.pwr.b) then pwrTo .faulted 0 (pwrErr 6 s0)
    else pwrTo .poweringUp 1 { s0 with pwr := { s0.pwr with enLogic := true } }

/-- A waiting setting of PANEL_ON takes effect (R222, R431). -/
def panelOnDue (s : State) : State :=
  if s.pwr.onDue && s.pwr.state == .off && s.cal.running.isNone then powerUp s else s

/-! ### The native power-down (R219, R220, R222) -/

/-- Every group is stopped (R219). -/
def linksStop (s : State) : State := eachNat stopGroup (List.range 32) { s with px := { s.px with checked := [], cmds := [] } }

/-- OFF is reached: the changes of timing that a power-down ended complete, and a PANEL_ON set meanwhile starts the next
power-up (R222). -/
def offReached (s : State) : State :=
  let s1 := pwrTo .off 0 s
  let own := s1.scn.jobs.filter fun j => j.hdr.src != .fw
  panelOnDue (finAll .ok (own.map (·.hdr)) { s1 with scn := { s1.scn with jobs := [] } })

/-- The end of a power-down: OFF, or FAULTED after a fast power-down or a fault (R215, R219, R221, R231). -/
def downDone (s : State) : State :=
  let p := s.pwr
  let s1 := { s with pwr := { p with
    toFaulted := false, fastRun := false, fast := p.fastRun || p.fast, clearing := false, settling := false } }
  if p.fastRun || p.toFaulted then pwrTo .faulted 0 s1 else offReached s1

/-- Step 6 RAILS: the first enable falls (R219, R221). -/
def downRails (s : State) : State :=
  let s1 := { s with pwr := { s.pwr with step := 6 } }
  if railsOn s1 then railOff s1 else downDone s1

/-- Step 5 STOP: at once when the raster already stands, otherwise at the next tick (R219). -/
def downStop (s : State) : State :=
  let s1 := { s with pwr := { s.pwr with step := 5 } }
  if s.scn.state == .stopped then downRails (linksStop s1) else s1

/-- Step 4 DISCH, legacy only (R219, R220, R221). -/
def downDisch (s : State) : State :=
  if bitOf s.pwr.ctrl 1 then { s with pwr := { s.pwr with step := 4, disch := true } }
  else if s.pwr.fastRun then downRails (linksStop s) else downStop s

/-- Step 3's power-goods are low: the native power-down waits 2 MT more (R219), the fast one goes on (R221). -/
def downVledLow (s : State) : State :=
  if s.pwr.fastRun then downDisch s else { s with pwr := { s.pwr with settling := true } }

/-- Step 3 VLED_OFF (R219, R221), which a native power-down passes when no emitter rail is up (R222). -/
def downVled (s : State) : State :=
  let s1 := vledOff { s with pwr := { s.pwr with step := 3, settling := false } }
  if !vledUp s then downDisch s1 else if vledPgLow s1 then downVledLow s1 else s1

/-- Step 2 DIM, which a power-down from POWERING_UP skips when IREF is 0 (R219, R222). -/
def downDim (s : State) : State :=
  let s1 := { s with pwr := { s.pwr with step := 2 } }
  if s.pwr.fromUp ∧ irefOut s 0 = 0 ∧ irefOut s 1 = 0 ∧ irefOut s 2 = 0 then downVled (irefZero s1)
  else rampDown false (fld s.pwr.seq 15 8) s1

/-- The ramp of power-up step 7 stops where it stands (R222). -/
def rampStop (s : State) : State :=
  let out (c : Nat) : Nat := irefOut s c
  let s1 := eachNat (fun c => modRail c fun x => { x with out := out c }) [0, 1, 2] s
  { s1 with pwr := { s1.pwr with ramp := none } }

/-- A native power-down starts, from the first step whose condition has been reached (R216, R219, R222). -/
def powerDown (toFaulted : Bool) (s : State) : State :=
  if !(s.pwr.state == .on || s.pwr.state == .poweringUp) || s.pwr.undoing then s
  else
    let up := s.pwr.state == .poweringUp
    let s1 := pwrTo .poweringDown 1 (holdExit 5 (downStart (if up then rampStop s else s)))
    let s2 := { s1 with
      pwr := { s1.pwr with toFaulted := toFaulted, clearing := false, settling := false, onDue := false, fromUp := up } }
    if !vledUp s || s.scn.state == .stopped then downDim s2 else s2

/-- DISCHARGE_END (R220, R221). -/
def dischargeEnd (s : State) : State :=
  if !s.pwr.disch then s
  else
    let s1 := { s with pwr := { s.pwr with disch := false } }
    if s.pwr.fastRun then downRails (linksStop s1) else downStop s1

/-! ### The failed power-up (R218) -/

/-- The next enable of a failed power-up is cleared, in reverse order of setting; after the last, FAULTED, where STEP goes
on showing the step that failed (R218; DEDUCED, log entry 49). -/
def undoStep (s : State) : State :=
  let s1 := if vledUp s then vledPgFall (vledOff s) else railOff s
  if railsOn s1 then s1 else pwrTo .faulted s1.pwr.failStep { s1 with pwr := { s1.pwr with undoing := false } }

/-- A power-up fails at a step (R218). -/
def powerFail (step : Nat) (s : State) : State :=
  let s1 := linksStop (rasterStop s)
  undoStep (pwrErr 0 { s1 with pwr := { s1.pwr with failStep := step, undoing := true, settling := false } })

/-! ### The fast power-down (R221) -/

/-- The rest of a fast power-down from the step that a power-down had reached: a discharge that is over is not repeated, and
rails that are falling go on doing so (R221, R222). -/
def fastFrom (step : Nat) (s : State) : State :=
  match step with
  | 4 => { s with pwr := { s.pwr with step := 4 } }
  | 5 => downRails (linksStop s)
  | 6 => if railsOn s then { s with pwr := { s.pwr with step := 6 } } else downDone s
  | _ => downVled s

/-- The fast power-down, from the point reached (R221, R222). -/
def fastPowerDown (s : State) : State :=
  if s.pwr.fastRun then s
  else if s.pwr.state == .off || s.pwr.state == .faulted then
    pwrTo .faulted 0 { s with pwr := { s.pwr with fast := true } }
  else
    let at_ := if s.pwr.state == .poweringDown then s.pwr.step else 3
    let s1 := frameAborted s.scn.scan.line (downStart (irefZero s))
    let s2 := regionsBlack (rasterStop (sendAbort s.scn.line s1))
    fastFrom at_ (pwrTo .poweringDown (max 3 at_) { s2 with pwr := { s2.pwr with
      fastRun := true, undoing := false, settling := false, clearing := false, onDue := false } })

/-- The fast power-down runs to its end, where a reset follows it in the same step (R386, R391). -/
def fastPowerDownWhole (s : State) : State :=
  let s1 := fastPowerDown s
  let s2 := if s1.pwr.fastRun && s1.pwr.step == 3 then downDisch (vledPgFall s1) else s1
  let s3 := dischargeEnd s2
  let one (s : State) : State := if s.pwr.fastRun then (if railsOn s then railOff s else downDone s) else s
  one (one (one (one s3)))

/-! ### The native power-up (R217, R218) -/

/-- PANEL_ON is set (R217, R222, R237). -/
def panelOnSet (s : State) : State :=
  let s1 := { s with pwr := { s.pwr with ctrl := setBit s.pwr.ctrl 0 } }
  match s.pwr.state with
  | .off => powerUp s1
  | .poweringDown => if s.pwr.fastRun || s.pwr.toFaulted then s1 else { s1 with pwr := { s1.pwr with onDue := true } }
  | _ => s1

/-- PANEL_ON is cleared (R215, R219, R222): FAULTED is left for OFF. -/
def panelOnClear (s : State) : State :=
  let s1 := { s with pwr := { s.pwr with ctrl := clrBit s.pwr.ctrl 0, onDue := false } }
  match s.pwr.state with
  | .on | .poweringUp => powerDown false s1
  | .faulted => offReached s1
  | _ => s1

/-- PWRSEQ_LEGACY is written, in OFF only (R220). -/
def legacyWrite (on : Bool) (s : State) : State :=
  if s.pwr.state != .off then s
  else { s with pwr := { s.pwr with ctrl := if on then setBit s.pwr.ctrl 1 else clrBit s.pwr.ctrl 1 } }

/-- Step 2 LINK begins: EN is set and the partners' configuration queued (R217). -/
def linkBegin (s : State) : State :=
  let s1 := { s with pwr := { s.pwr with step := 2 }, px := { s.px with ctrl := setBit s.px.ctrl 0, checked := [] } }
  queueConfig s1

/-- A serving group's training of step 2 is over (R217). -/
def groupTrained (s : State) (g : Nat) : Bool :=
  let x := grp s g
  x.link == .active || x.link == .failed || (x.link == .disabled && x.miswired)

/-- A spare's check is due at this start (R211). -/
def spareDue (s : State) (g : Nat) : Bool :=
  dualInput s && (grpSlice s g).isNone && (unitOf s 3 g).state == .offline && !s.px.checked.contains g

/-- Serving groups left DISABLED by a MISWIRED training become OFFLINE (R218). -/
def miswiredOff (g : Nat) (s : State) : State :=
  if serves s g && (grp s g).miswired && (grp s g).link == .disabled then unitTo 3 g .offline 8 s else s

/-- The sparing requests of a PX group leave core 0's queue. -/
def grpReqsLeft (g : Nat) (s : State) : State :=
  unitReqsLeft 3 g (s.unitReqs.filter fun r => !(r.lasting && r.cls == 3 && r.idx == g)) s

/-- A serving group that is FAILED at step 2 is handled before the raster starts, and its sparing requests end with it
(R218, R468): with DUAL_INPUT core 0 brings the spare of its half in, one at a time, and the map applies directly while the
raster stands; without it, or without a spare that passed, the group becomes OFFLINE (R212 step 1). -/
def failedOff (g : Nat) (s : State) : State :=
  if !(serves s g && (grp s g).link == .failed) then s
  else if !dualInput s then unitTo 3 g .offline (if (grp s g).absent then 1 else 3) (grpReqsLeft g s)
  else if !spareReady s g then unitTo 3 g .offline 11 (linkTo g .disabled (grpReqsLeft g s))
  else if s.px.bringIn.isNone then bringInStart g false (grpReqsLeft g s)
  else s

/-- The groups still FAILED while the raster has not started are handled as the bring-in before them ends (R218). -/
def failedNext (s : State) : State :=
  if s.pwr.state == .poweringUp && decide (2 < s.pwr.step) && !s.pwr.undoing && s.scn.state == .stopped && s.px.bringIn.isNone
  then eachNat failedOff (List.range 32) s else s

/-- Step 2 ends: step 3 GATE, or the failure of a link without an ACTIVE group (R217, R218). -/
def linkEnd (s : State) : State :=
  if (servingGroups s).any fun g => (grp s g).link == .active then
    let s1 := eachNat failedOff (List.range 32) (eachNat miswiredOff (List.range 32) s)
    { s1 with pwr := { s1.pwr with step := 3, enGate := true } }
  else powerFail 2 s

/-- After each training event of step 2: its end when every serving group and every spare's check is done (R211,
R217). -/
def linkCheck (s : State) : State :=
  if s.pwr.state == .poweringUp && s.pwr.step == 2 && !s.pwr.undoing && (servingGroups s).all (groupTrained s) &&
    !spareDue s 30 && !spareDue s 31 then linkEnd s
  else failedNext s

/-- A power-good input rises (R217). -/
def powerGoodRise (r : PnlRail) (s : State) : State :=
  let s1 := setPg (pgBit r) true s
  let due := match s.pwr.step, r with
    | 1, .logic => true | 3, .gate => true | 4, .bias => true
    | 6, .vledR | 6, .vledG | 6, .vledB => s1.pwr.pg / 8 % 8 == 7
    | _, _ => false
  if s.pwr.state == .poweringUp && !s.pwr.undoing && due then { s1 with pwr := { s1.pwr with settling := true } } else s1

/-- The 2 MT after a power-good have passed: the next step (R217, R219). -/
def settleDone (s : State) : State :=
  if s.pwr.state == .poweringDown && s.pwr.step == 3 && s.pwr.settling then
    downDisch { s with pwr := { s.pwr with settling := false } }
  else if !(s.pwr.state == .poweringUp && s.pwr.settling) then s
  else
    let s1 := { s with pwr := { s.pwr with settling := false } }
    let p := s1.pwr
    match p.step with
    | 1 => linkCheck (linkBegin s1)
    | 3 => { s1 with pwr := { p with step := 4, enBias := true } }
    | 4 => { s1 with pwr := { p with step := 5, blackScans := 0 } }
    | 6 => rampUp { s1 with pwr := { p with step := 7 } }
    | _ => s1

/-- A bound of a power-up step has expired (R217, R218). -/
def boundExpiry (s : State) : State :=
  if s.pwr.state != .poweringUp || s.pwr.undoing || s.pwr.settling then s
  else match s.pwr.step with
    | 1 => powerFail 1 s
    | 2 => linkEnd s
    | 3 => powerFail 3 s
    | 4 => powerFail 4 s
    | 6 => powerFail 6 s
    | _ => s

/-- Step 6 VLED: the setpoints at VMAX, the enables high (R217). -/
def vledBegin (s : State) : State :=
  let s1 := { s with pwr := { s.pwr with step := 6 } }
  let s2 := eachNat (fun c s => setV c (vMax (vrail s c)) s) [0, 1, 2] s1
  let s3 := allRails (fun x => { x with en := true, uv := false }) s2
  { s3 with pwr := { s3.pwr with staleTicks := 0, headroomStale := false, headroomLimit := false } }

/-- IREF_RAMP_END (R217, R219, R222). -/
def irefRampEnd (s : State) : State :=
  match s.pwr.ramp with
  | none => s
  | some r =>
    if r.up then
      let s1 := rampEnd s
      if s.pwr.state == .poweringUp && s.pwr.step == 7 then pwrTo .on 0 s1 else s1
    else if s.pwr.state == .poweringDown && s.pwr.step == 2 then downVled (rampEnd s) else s

/-- VLED_PG_FALL (R219, R221). -/
def vledFell (s : State) : State :=
  if s.pwr.state == .poweringDown && s.pwr.step == 3 then (if s.pwr.settling then s else downVledLow (vledPgFall s))
  else if s.pwr.r.en || s.pwr.g.en || s.pwr.b.en then s else vledPgFall s

/-- PWR_PG_STUCK (R219, R221). -/
def pgStuck (s : State) : State :=
  if s.pwr.state == .poweringDown && s.pwr.step == 3 && !vledPgLow s then downDisch (pwrErr 7 s) else s

/-- RAIL_DISABLE_STEP (R218, R219, R221). -/
def railStep (s : State) : State :=
  if s.pwr.undoing then undoStep s
  else if s.pwr.state == .poweringDown && s.pwr.step == 6 then
    if railsOn s then
      let s1 := railOff s
      if s.pwr.fastRun && !railsOn s1 then downDone s1 else s1
    else downDone s
  else s

/-! ### Faults (R231) -/

/-- A power-good input falls (R231). -/
def powerGoodLost (r : PnlRail) (s : State) : State :=
  if !pgHigh s (pgBit r) then s
  else
    let s1 := setPg (pgBit r) false s
    if railEn s r && s.pwr.state != .poweringDown && !s.pwr.undoing then fastPowerDown (pwrErr 3 s1)
    else if s.pwr.state == .poweringDown && s.pwr.step == 3 && !vledPgLow s && vledPgLow s1 then downVledLow s1
    else s1

/-- A rail's sense, or a partner, reports overvoltage (R231). -/
def overvoltage (s : State) : State := fastPowerDown (pwrErr 1 s)

/-- A rail's sense reports a value that may be an undervoltage (R231). -/
def undervoltage (c mv : Nat) (s : State) : State :=
  let low := decide ((mv * 10 : Nat) < 9 * (vrail s c).vset)
  let s1 := modRail c (fun x => { x with sns := mv, uv := low }) s
  if low then pwrErr 2 s1 else s1

/-- A partner reports undervoltage of a colour (R205, R231). -/
def supplyUv (c : Nat) (s : State) : State :=
  if c < 3 then modRail c (fun x => { x with uv := true }) (pwrErr 2 s) else pwrErr 2 s

/-- 10 MT of undervoltage at VMAX (R231). -/
def uvTimeout (s : State) : State :=
  if [0, 1, 2].any fun c => (vrail s c).uv && decide ((vrail s c).vset = vMax (vrail s c)) then powerDown true s else s

/-- At a tick the setpoint of a rail under undervoltage steps up (R231). -/
def uvTick (c : Nat) (s : State) : State :=
  let x := vrail s c
  if x.uv && x.en then setV c (min (x.vset + fld s.pwr.stepReg 15 0) (vMax x)) s else s

/-! ### The headroom loop (R223 to R225) -/

/-- A column of a slice holds a lasting EMITTER_OPEN of a colour (R223). -/
def openAt (s : State) (sl c col : Nat) : Bool :=
  s.pwr.eft.any fun e => e.slice == sl && e.colour == c && e.column == col && !e.short

/-- The measurements the loop uses for a colour, with their slices (R223). -/
def headrooms (s : State) (c : Nat) : List (Nat × Nat) :=
  (servingGroups s).filterMap fun g =>
    match (grp s g).headroom, grpSlice s g with
    | some (ms, cols), some sl =>
      let m := ms.getD c 0xFFFF
      if m = 0xFFFF ∨ openAt s sl c (cols.getD c 0) then none else some (m, sl)
    | _, _ => none

/-- The least measurement. -/
def hminOf (s : State) (c : Nat) : Option (Nat × Nat) :=
  match headrooms s c with
  | [] => none
  | a :: r => some (r.foldl (fun m x => if x.1 < m.1 then x else m) a)

/-- Some serving partner's HEADROOM is stale. -/
def anyStale (s : State) : Bool := (servingGroups s).any fun g => (grp s g).headStale

/-- The loop's step of one colour (R224, R225). -/
def loopStep (c : Nat) (s : State) : State :=
  let x := vrail s c
  let h := hminOf s c
  let err : Int := match h with | some (m, _) => (m : Int) - fld s.pwr.margin 15 0 | none => 0
  let dead : Int := fld s.pwr.margin 31 16
  let down := s.pwr.lastComplete && !anyStale s && !x.uv
  let v1 := if h.isNone then x.vset
    else if err < 0 then x.vset + min (-err) (fld s.pwr.stepReg 15 0)
    else if dead < err ∧ down then x.vset - min ((err - dead) / 2) (fld s.pwr.stepReg 31 16)
    else x.vset
  let v := sat v1 (vMin x) (vMax x)
  let s1 := setV c v (modRail c (fun x => { x with
    hmin := match h with | some (m, _) => m | none => 0xFFFF,
    hminSlice := match h with | some (_, sl) => sl | none => 0 }) s)
  if v = vMax x ∧ err < 0 then
    let s2 := { s1 with pwr := { s1.pwr with headroomLimit := true } }
    let recent := match s1.pwr.limLogged with | some k => decide (mtOf s < k + 1000) | none => false
    if recent then s2
    else log .pwrHeadroomLimit [c] { s2 with pwr := { s2.pwr with limLogged := some (mtOf s) } }
  else s1

/-- The loop is armed (R224). -/
def loopArmed (s : State) : Bool :=
  s.pwr.state == .on || (s.pwr.state == .poweringUp && !s.pwr.undoing && decide (6 ≤ s.pwr.step))

/-- HEADROOM_LOOP: 100 µs after a tick that ended a scan (R224, R225). -/
def headroomLoop (s : State) : State :=
  if !loopArmed s || !s.pwr.scanEnded then s
  else
    let s1 := { s with pwr := { s.pwr with scanEnded := false, headroomLimit := false } }
    if bitOf s.pwr.ctrl 3 then eachNat loopStep [0, 1, 2] s1
    else eachNat (fun c s => setV c (vMax (vrail s c)) s) [0, 1, 2] s1

/-- PWR_HEADROOM_STALE_LIMIT (R225). -/
def staleLimit (s : State) : State :=
  if loopArmed s && decide (8 ≤ s.pwr.staleTicks) then
    let s1 := eachNat (fun c s => setV c (vMax (vrail s c)) s) [0, 1, 2] s
    { s1 with pwr := { s1.pwr with headroomStale := true } }
  else s

/-! ### Diagnostic rows and emitter faults (R228 to R230) -/

/-- Diagnostic rows of a tick (R228). -/
def diagRows (t : Timing) : Nat := (linesA t + 63) / 64

/-- Diagnostic rows are driven in this tick (R228). -/
def diagOn (s : State) : Bool :=
  s.scn.state == .run && bitOf s.pwr.ctrl 2 && (s.pwr.state == .on || (s.pwr.state == .poweringUp && s.pwr.step == 7))

/-- The distinct rows that wait for a retest, in order of receipt (R230). -/
def retestRows (s : State) : List Nat := s.pwr.retests.foldl (fun l e => addOnce l e.row) []

/-- A DIAG packet for a row on every serving group (R199, R228). -/
def sendDiag (line row : Nat) (s : State) : State :=
  pxSendAll 0x16 0 line (fun _ => leBytes 2 row ++ leBytes 1 (fld s.pwr.diag 7 0) ++ leBytes 1 7 ++ fill 8 0) s

/-- The pointer moves on after the scheduled rows of a tick (R228). -/
def diagAdvance (t : Timing) (s : State) : State :=
  let n := s.pwr.diagPtr + diagRows t
  { s with pwr := { s.pwr with
    diagPtr := n % linesA t, diagPasses := if linesA t ≤ n then satAdd 32 s.pwr.diagPasses 1 else s.pwr.diagPasses } }

/-- The DIAG of a blank line: a scheduled row, or the retest of a reported one (R228, R230). -/
def diagLine (line : Nat) (s : State) : State :=
  match s.scn.inForce with
  | none => s
  | some t =>
    if !diagOn s || line < 256 || linesB t ≤ line then s
    else
      let i := line - 256
      let n := diagRows t
      if i < n then
        let s1 := sendDiag line ((s.pwr.diagPtr + i) % linesA t) s
        if i + 1 = n then diagAdvance t s1 else s1
      else if 64 ≤ s.scn.scan.diagSent then s
      else match retestRows s with
        | [] => s
        | r :: _ =>
          let p := s.pwr
          sendDiag line r { s with
            pwr := { p with retests := p.retests.filter (fun e => e.row != r),
                            retested := p.retested ++ p.retests.filter (fun e => e.row == r) },
            scn := { s.scn with scan := { s.scn.scan with diagSent := s.scn.scan.diagSent + 1 } } }

/-- A lasting emitter fault (R230). One that the table holds already takes no second entry (DESIGN CHOICE, log entry 148). -/
def emitterLasting (e : Emitter) (s : State) : State :=
  let p := s.pwr
  let s1 := if p.eft.contains e then s else if p.eft.length < 1024 then { s with pwr := { p with eft := p.eft ++ [e] } }
    else pwrErr 5 { s with pwr := { p with eftDropped := satAdd 16 p.eftDropped 1 } }
  let name := if e.short then LogName.pwrEmitterShort else .pwrEmitterOpen
  let s2 := log name [e.row, e.slice, e.colour, e.column] (pwrErr 4 s1)
  if p.sliceFault.contains e.slice then s2
  else journalRecord name false [e.row, e.slice, e.colour, e.column]
    { s2 with pwr := { s2.pwr with sliceFault := e.slice :: p.sliceFault } }

/-- A partner reports an open or short emitter: one that does not answer a retest waits for its own from the next
diagnostic tick on (R205, R230). -/
def emitterReport (e : Emitter) (s : State) : State :=
  if s.pwr.retested.contains e then
    emitterLasting e { s with pwr := { s.pwr with retested := s.pwr.retested.erase e } }
  else if s.pwr.retests.contains e || s.pwr.reported.contains e then s
  else { s with pwr := { s.pwr with reported := s.pwr.reported ++ [e] } }

/-- At a tick the reports received since the last one come up for their retest, and a retest that drew no report is over: its
fault was transient (R230). -/
def retestTick (s : State) : State :=
  s.pwr.retested.foldl (fun s e =>
    log (if e.short then .pwrEmitterShort else .pwrEmitterOpen) [e.row, e.slice, e.colour, e.column, 1] s)
    { s with pwr := { s.pwr with retested := [], retests := s.pwr.retests ++ s.pwr.reported, reported := [] } }

/-! ### The tick's part (R217, R219, R224, R225, R227, R231) -/

/-- Panel power at a tick: derating, undervoltage, stale partners, retests. `scan` tells that the tick ended a scan,
`complete_` that it was complete. -/
def pwrTick (scan complete_ : Bool) (s : State) : State :=
  let s1 := retestTick (derateTick (eachNat uvTick [0, 1, 2] s))
  let st := anyStale s1
  { s1 with pwr := { s1.pwr with
    scanEnded := scan, lastComplete := complete_, staleTicks := if st then s1.pwr.staleTicks + 1 else 0,
    headroomStale := s1.pwr.headroomStale && st,
    blackScans := if s1.pwr.state == .poweringUp && s1.pwr.step == 5 && complete_ then s1.pwr.blackScans + 1
      else s1.pwr.blackScans } }

/-- Step 5 of power-up ends after its complete black scans (R217). -/
def blackTick (s : State) : State :=
  if s.pwr.state == .poweringUp && s.pwr.step == 5 && !s.pwr.undoing &&
    decide (max 2 (fld s.pwr.seq 23 16) ≤ s.pwr.blackScans) then vledBegin s else s

/-- Step 1 of power-down at a tick: the clear enters (R157, R219). -/
def clearTick (s : State) : State :=
  if s.pwr.state == .poweringDown && s.pwr.step == 1 && !s.pwr.clearing then
    let s1 := { s with pwr := { s.pwr with clearing := true } }
    if crslEn s then deviceClear .powerDown true s1 else s1
  else s

/-- Step 1 of power-down ends when every region is BLACK, or at EN = 0 at the tick after the black one (R157, R219);
`was` tells that the clear was already under way before this tick. -/
def clearDone (was : Bool) (s : State) : State :=
  if s.pwr.state == .poweringDown && s.pwr.step == 1 && s.pwr.clearing && (if crslEn s then allBlack s else was)
  then downDim s else s

/-- The scan that begins at this tick is the one black scan of power-down step 1 at EN = 0 (R157); `was` tells that the clear
was already under way before this tick. -/
def clearBlack (was : Bool) (s : State) : Bool :=
  s.pwr.state == .poweringDown && s.pwr.step == 1 && !crslEn s && !was

end Sys2Proof.Machine
end

