-- ==== Sys2Proof/Machine/Line.lean ====
section
/-! DEFINITION. One active line from synthesis to the panel link: planes, overlays, colour, waveforms, prior state,
LINE packets (R35, R82 to R98, R114 to R130, R135 to R148, R200). -/

namespace Sys2Proof.Machine

/-- HOM_ERR bit `i` set (R111): 0 LA_RANGE, 1 HALO_LATE, 2 POISON, 3 PIPE_ERR, 4 SELFTEST_FAIL. -/
def homErr (i : Nat) (s : State) : State := { s with hom := { s.hom with err := setBit s.hom.err i } }

/-- CLR_ERR bit `i` set (R132): 0 TBL_RANGE, 1 OVL_POISON, 2 FILTER_SUM. -/
def clrErr (i : Nat) (s : State) : State := { s with clr := { s.clr with err := setBit s.clr.err i } }

/-- CTN_ERR bit `i` set (R281): 0 TILE_DECODE, 1 POISON_IN, 2 JOB_INTEGRITY, 3 ACCESS, 4 CTX_INTEGRITY. -/
def ctnErr (i : Nat) (s : State) : State := { s with ctn := { s.ctn with err := setBit s.ctn.err i } }

/-- What the scan in progress has found, changed. -/
def modScan (f : Scan → Scan) (s : State) : State := { s with scn := { s.scn with scan := f s.scn.scan } }

/-- The frame that the scan in progress shows. -/
def scanFrame (s : State) : Option Frame := s.scn.scan.frame.bind (frameById s)

/-! ### Planes as the scan reads them (R59 to R63, R90, R91, R98) -/

/-- What lies beyond an edge of a plane in this scan (R63, R90, R91). -/
def edgeSrc (s : State) (edge : W32) (i : Nat) (d : PlaneDesc) (e : Nat) : EdgeSrc :=
  let onTime := s.scn.scan.strips.contains (i, e)
  if edgeHaloEn edge e then { strip := onTime, embedded := false, clamp := !onTime || edgeClamp edge e }
  else { strip := false, embedded := nbit d.halo e == 1, clamp := edgeClamp edge e }

/-- The sample word of a tile position in this scan: 0 in an empty tile, and in a poisoned one (R60, R62, R98). -/
def tileWord (s : State) (f : Frame) (i : Nat) (d : PlaneDesc) (tt : List Byte) (t r c k : Nat) : Nat :=
  if !ttBit tt t r || s.scn.scan.bad.contains (i, t, r) then 0
  else match tileData s 12 f d tt t r with
    | none => 0
    | some bs => leAt bs (4 * (64 * k + c)) 4

/-- The sample word of a received strip (R90). -/
def stripWord (s : State) (f : Frame) (i : Nat) (d : PlaneDesc) (e : Nat) (x y : Int) : Nat :=
  match stripHeld s f.tb2 e i with
  | some st => stripAt s d st x y
  | none => 0

/-- The 32-bit words of some bytes, lowest byte first. -/
def wordsOf : Array Nat → List Byte → Array Nat
  | acc, a :: b :: c :: d :: r => wordsOf (acc.push (leNat [a, b, c, d])) r
  | acc, _ => acc

/-- The words of one decoded tile, by column and row. -/
abbrev TileWords := (Nat × Nat) × Array Nat

/-- A plane as the scan reads it; `tiles` holds the words of decoded tiles whose words are known already. -/
def planeSrc (s : State) (f : Frame) (i : Nat) (d : PlaneDesc) (tiles : List TileWords) : PlaneSrc :=
  let tt := liveTable s f d
  let word (t r c k : Nat) : Nat :=
    match tiles.find? fun x => x.1.1 == t && x.1.2 == r with
    | some x => x.2.getD (64 * k + c) 0
    | none => tileWord s f i d tt t r c k
  { desc := d, edges := edgeSrc s (frameEdge s f) i d, tile := word, strip := stripWord s f i d }

/-- A plane row held to the data rectangle where its edge clamps. -/
def rowHeld (p : PlaneSrc) (y : Int) : Int := (treat p y p.desc.height 2 3).getD y

/-- The tile rows that the hogel row `hy` can reach in a plane (R90, R100). -/
def rowsReached (p : PlaneSrc) (hyGrid v hy : Nat) : List Nat :=
  let d := p.desc
  let y := reach hy hy d.disparity v (scaleOf d.height hyGrid)
  let r0 := rowHeld p y.1 / 64 + nbit d.halo 2
  let r1 := rowHeld p y.2 / 64 + nbit d.halo 2
  (List.range (tileRows d)).filter fun (r : Nat) => decide (r0 ≤ (r : Int) ∧ (r : Int) ≤ r1) ||
    (nbit d.halo 3 == 1 && r + 1 == tileRows d && decide ((d.height : Int) ≤ y.2))

/-- The coded tiles of some tile rows. -/
def codedTiles (d : PlaneDesc) (tt : List Byte) (rows : List Nat) : List (Nat × Nat) :=
  rows.flatMap fun r => ((List.range (tileCols d)).filter fun t => ttBit tt t r).map fun t => (t, r)

/-- The words of the tiles that a line's reads of a plane can reach, each decoded once. -/
def lineTiles (s : State) (t : Timing) (hy : Nat) (f : Frame) (i : Nat) (d : PlaneDesc) : List TileWords :=
  let tt := liveTable s f d
  let tiles := codedTiles d tt (rowsReached (planeSrc s f i d []) t.hy (modeUV t.mode).2 hy)
  tiles.filterMap fun x =>
    if s.scn.scan.bad.contains (i, x.1, x.2) then none
    else (tileData s 12 f d tt x.1 x.2).map fun bs => (x, wordsOf #[] bs)

/-- A tile cannot be used in this scan: its read came back poisoned, or it does not decode (R62, R98). -/
def tileBad (s : State) (f : Frame) (d : PlaneDesc) (tt : List Byte) (poisoned : Bool) (t r : Nat) : Bool :=
  poisoned || (tileData s 12 f d tt t r).isNone

/-- What the read of a tile that gave nothing leaves behind outside the Hall of Mirrors (R240, R253, R274, R405): `failed`
tells that its error check failed on the retry. A tile that reaches outside its block, or has no coder, is not read at all,
and fails to decode whatever its entry says (R67). -/
def tileNotes (f : Frame) (d : PlaneDesc) (tt : List Byte) (failed : Bool) (t r : Nat) (s : State) : State :=
  let e := tileEntryAt d tt t r
  let ctn (s : State) : State := log .ctnTileFail [f.block + 64 * e.offset]
    (ctnErr 0 { s with ctn := { s.ctn with tileFail := satAdd 32 s.ctn.tileFail 1 } })
  match tileSpan f d tt t r with
  | none => ctn s
  | some (a, len, coder) =>
    let s1 := if failed && !dramPoisoned s a len then dramLasting portHom a s else s
    dramNote portHom a len (trnAccess 0 12 .r a len (if coder = 1 then ctn s1 else s1)).2

/-- What a poisoned tile leaves behind (R62, R98): its 4,096 samples, the frame's count while its first scan runs. -/
def tilePoison (f : Frame) (i : Nat) (d : PlaneDesc) (tt : List Byte) (failed : Bool) (t r : Nat) (s : State) : State :=
  let s1 := log .homPoison [i, t, r] (homErr 2 (modScan (fun x => { x with
    bad := (i, t, r) :: x.bad, poison := true, poisonCount := satAdd 32 x.poisonCount 4096 }) s))
  let s2 := modFrame f.id (fun x => if x.fresh then { x with poisoned := x.poisoned + 4096 } else x) s1
  tileNotes f d tt failed t r s2

/-- The tiles that a line's plane reads bring in are checked, once a scan each (R98). -/
def fillPlane (t : Timing) (hy : Nat) (poisoned : List (Nat × Nat × Nat)) (f : Frame) (i : Nat) (d : PlaneDesc)
    (s : State) : State :=
  if d.tileCount = 0 then s
  else
    let tt := liveTable s f d
    let tiles := codedTiles d tt (rowsReached (planeSrc s f i d []) t.hy (modeUV t.mode).2 hy)
    tiles.foldl (fun s x =>
      if s.scn.scan.bad.contains (i, x.1, x.2) then s
      else
        let failed := poisoned.contains (i, x.1, x.2)
        if tileBad s f d tt failed x.1 x.2 then tilePoison f i d tt failed x.1 x.2 s else s) s

/-- Every plane's tiles for a line. -/
def fillPlanes (t : Timing) (hy : Nat) (poisoned : List (Nat × Nat × Nat)) (f : Frame) (s : State) : State :=
  (List.range f.planes.length).foldl (fun s i =>
    match f.planes[i]? with | some d => fillPlane t hy poisoned f i d s | none => s) s

/-! ### Lens alignment (R86, R87, R112) -/

/-- HOM_LA_BASE in force. -/
def laBase (s : State) : Nat := fld s.hom.laHi.act 9 0 * 2 ^ 32 + fld s.hom.laLo.act 31 6 * 64

/-- The word of the lens-alignment table for a hogel as DRAM holds it; what a poisoned read of it gives is a free value. -/
def lensWord (s : State) (hx hy : Nat) : Nat :=
  match vcRead s 8 (laBase s + hy * 16384 + hx * 4) 4 with
  | some bs => leNat bs
  | none => (Config.freeValue (s.free + hx)).toNat % 2 ^ 32

/-- The row of the lens-alignment table is read, once in a scan (R112). -/
def lensFill (t : Timing) (hy : Nat) (s : State) : State :=
  if !bitOf s.hom.ctrl.act 0 || (match s.scn.scan.lens with | some (r, _) => r == hy | none => false) then s
  else
    let row := (List.range t.hx).map fun hx => lensWord s hx hy
    let a := laBase s + hy * 16384
    let s1 := dramNote portHom a (4 * t.hx) (trnAccess 0 8 .r a (4 * t.hx) s).2
    modScan (fun x => { x with lens := some (hy, row) }) { s1 with free := s1.free + t.hx }

/-- The lens-alignment entry of a hogel (R86, R87), of the row that stands read for the scan (R112). -/
def lensOf (s : State) (hx hy : Nat) : Lens :=
  if !bitOf s.hom.ctrl.act 0 then noLens
  else match s.scn.scan.lens with
    | some (r, ws) => if r = hy then parseLens (ws.getD hx 0) else noLens
    | none => noLens

/-! ### Overlays (R96, R118 to R125) -/

/-- The slots of a scan with their insertion points (R96). -/
def ovlPoints (planes : List PlaneDesc) (ovl : List OvlShow) : List (Nat × Nat) :=
  ovl.map fun o => (o.slot, insertAt planes o.slot o.disparity)

/-- The address of a surface sample (R118). -/
def ovlAddr (h : SurfHdr) (x y : Nat) : Nat := h.addr + 64 * h.dataOffset + h.pitch * y + 4 * x

/-- A surface sample read poisoned in this scan (R125). -/
def ovlPoisoned (s : State) (slot x y : Nat) : Bool :=
  s.scn.scan.ovlBad.any fun b => b.1 == slot && b.2.2.1 == y && decide (b.2.1 ≤ x ∧ x < b.2.1 + b.2.2.2)

/-- How the scan reads a surface. -/
def ovlRead (s : State) (o : OvlShow) : SurfRd := fun x y =>
  if ovlPoisoned s o.slot x y then 0 else leNat (dramBytes s (ovlAddr o.hdr x y) 4)

/-- An overlay's position for a ray (R120). -/
def ovlPos (t : Timing) (l : Lens) (hx hy u v : Nat) (o : OvlShow) : Int × Int :=
  let uv := modeUV t.mode
  (hogelPos hx o.disparity (dblOff u uv.1) l.dx - o.posX * 1024, hogelPos hy o.disparity (dblOff v uv.2) l.dy - o.posY * 1024)

/-- The surface rows a line's rays read (R120). -/
def ovlRows (s : State) (t : Timing) (hy v : Nat) (o : OvlShow) : List Nat :=
  (List.range t.hx).foldl (fun l hx =>
    let y := (ovlPos t (lensOf s hx hy) hx hy 0 v o).2
    if y < 0 ∨ (o.hdr.dstH : Int) * 1024 ≤ y then l
    else
      let iy := rshr (y * scaleOf o.hdr.srcH o.hdr.dstH - 2 ^ 25) 18 / 256
      let c (z : Int) : Nat := (sat z 0 ((o.hdr.srcH : Int) - 1)).toNat
      addOnce (addOnce l (c iy)) (c (iy + 1))) []

/-- A poisoned overlay read of some samples of a row (R125). -/
def ovlPoison (slot x y n : Nat) (s : State) : State :=
  log .clrOvlPoison [slot] (clrErr 1 (modScan (fun b => { b with
    ovlBad := (slot, x, y, n) :: b.ovlBad, clrOvlPoison := true, ovlPoisonCount := satAdd 32 b.ovlPoisonCount n }) s))

/-- The reads of a surface row: 64 bytes, 16 samples each, all of them once a scan when a line first reaches the row. The spec
gives no size of an overlay read, which is what a poisoned read's count of samples is taken over (R125; DESIGN CHOICE, log
entry 143). -/
def fillOvlRow (o : OvlShow) (y : Nat) (s : State) : State :=
  (List.range ((o.hdr.srcW + 15) / 16)).foldl (fun s j =>
    let x := 16 * j
    if ovlPoisoned s o.slot x y || (vcRead s 9 (ovlAddr o.hdr x y) 64).isSome then s
    else ovlPoison o.slot x y (min 16 (o.hdr.srcW - x))
      (dramNote portClr (ovlAddr o.hdr x y) 64 (trnAccess 0 9 .r (ovlAddr o.hdr x y) 64 s).2)) s

/-- An overlay read whose error check failed on its retry: a lasting error of the Juggler (R125, R253). -/
def ovlFailed (b : Nat × Nat × Nat × Nat) (s : State) : State :=
  match s.scn.scan.overlays.find? fun o => o.slot == b.1 with
  | some o =>
    let a := ovlAddr o.hdr b.2.1 b.2.2.1
    if dramPoisoned s a 64 then s else dramLasting portClr a s
  | none => s

/-- The overlay reads of a line. -/
def fillOvl (t : Timing) (hy v : Nat) (env : List (Nat × Nat × Nat × Nat)) (s : State) : State :=
  let s1 := env.foldl (fun s b => if s.scn.scan.ovlBad.contains b then s
    else ovlPoison b.1 b.2.1 b.2.2.1 b.2.2.2 (ovlFailed b s)) s
  if bitOf s.clr.ctrl.act 1 then s1
  else s1.scn.scan.overlays.foldl (fun s o => (ovlRows s t hy v o).foldl (fun s y => fillOvlRow o y s) s) s1

/-! ### Rays (R85 to R97, R114 to R129) -/

/-- The reset value of a colour matrix register (R132). -/
def matReset (m : Nat) : W32 := if m % 2 = 0 then 0x1000 else 0

/-- A matrix register. -/
def matReg (m : Sparse Rws) (i : Nat) : Rws := spGet (Rws.of (matReset i)) m i

/-- The colour pipeline's active configuration. -/
def clrCfg (s : State) : ClrCfg where
  tbl := s.clr.tblAct
  inmat := fun st m => (matReg (if st = 0 then s.clr.inmat0 else s.clr.inmat1) m).act
  outmat := fun m => (matReg s.clr.outmat m).act
  tmEn := bitOf s.clr.ctrl.act 0
  ovlDis := bitOf s.clr.ctrl.act 1

/-- A ray as the Hall of Mirrors hands it over (R85, R94, R97). -/
def rayOut (t : Timing) (edge : W32) (ps : List (PlaneSrc × List Byte)) (k : List (Nat × Nat)) (l : Lens)
    (hx hy u v : Nat) : RayOut :=
  if l.dark then darkRay k
  else
    let uv := modeUV t.mode
    compositeFrom k 0 [0, 0, 0] 65536 [] (ps.map fun p =>
      let d := p.1.desc
      if occupied d p.2 edge t.hx t.hy uv.1 uv.2 (hx / 8) (hy / 4) then
        some (planeSample p.1 (samplePos (hogelPos hx d.disparity (dblOff u uv.1) l.dx) (scaleOf d.width t.hx))
          (samplePos (hogelPos hy d.disparity (dblOff v uv.2) l.dy) (scaleOf d.height t.hy)))
      else none)

/-- What one ray of a line comes to. -/
structure RayRes where
  hx : Nat
  u : Nat
  targets : List Nat
  outClip : Bool
  ovlClip : Bool
  saturated : Bool
  dark : Bool
deriving DecidableEq, Repr

/-- The rays of a line in order of emitter column (R82). -/
def lineRays (s : State) (t : Timing) (hy v : Nat) : List RayRes :=
  let f := scanFrame s
  let planes := (f.map (·.planes)).getD []
  let edge := (f.map (frameEdge s)).getD 0
  let ps := match f with
    | some f => (List.range planes.length).filterMap fun i => planes[i]?.map fun d => (planeSrc s f i d (lineTiles s t hy f i d), liveTable s f d)
    | none => []
  let ovl := s.scn.scan.overlays
  let k := if bitOf s.clr.ctrl.act 1 then [] else ovlPoints planes ovl
  let cfg := clrCfg s
  let ins : List OvlIn := ovl.map fun o => ⟨o, ovlRead s o⟩
  (List.range t.hx).flatMap fun hx =>
    let l := lensOf s hx hy
    (List.range (modeUV t.mode).1).map fun u =>
      let r := rayOut t edge ps k l hx hy u v
      let c := clrRay cfg r k ins (ovlPos t l hx hy u v)
      ⟨hx, u, c.targets, c.outClip, c.ovlClip, r.acc.any fun a => decide (65536 < a), l.dark⟩

/-! ### Prior state and drive (R135 to R145, R148) -/

/-- The region of a hogel (R133). -/
def hogelRegion (hx hy : Nat) : Nat := hy / 4 * 512 + hx / 8

/-- A prior-state line is read: a poisoned block reads as zeros (R138). -/
def priorRead (t : Timing) (a : Nat) (env : List Nat) (s : State) : List Byte × State :=
  let pitch := priorPitch t
  let base := priorLine t a * pitch
  match trnAccess 0 10 .r base pitch s with
  | (some _, s1) => (fill pitch 0, s1)
  | (none, s1) =>
    let bad (b : Nat) : Bool := env.contains b || dramPoisoned s (base + 192 * b) 192
    let blocks := List.range (pitch / 192)
    let bytes := blocks.flatMap fun b => if bad b then fill 192 0 else dramBytes s (base + 192 * b) 192
    let s2 := (blocks.filter bad).foldl (fun s b =>
      let failed := env.contains b && !dramPoisoned s1 (base + 192 * b) 192
      log .crslPriorPoison [priorLine t a] (crslErr 3 (
        (if failed then dramLasting portCrsl (base + 192 * b) else id) { s with crsl := { s.crsl with
          priorPoisonCount := satAdd 32 s.crsl.priorPoisonCount 1 } }))) s1
    (bytes, dramNote portCrsl base pitch s2)

/-- A ray driven: its codes, and whether it sets DIFF (R139, R143, R144, R157). -/
def rayDrive (s : State) (fails : TableFails) (prior : List Byte) (t : Timing) (hy : Nat) (r : RayRes) :
    List Nat × Bool :=
  let x := regionOf s (hogelRegion r.hx hy)
  if s.scn.scan.black then ([0, 0, 0], false)
  else
    let p := if x.state == .black then [0, 0, 0] else priorLevels prior (priorEntry t r.hx r.u)
    let codes := (List.range 3).map fun c => drive s fails x (p.getD c 0) (r.targets.getD c 0) c
    (codes, crslEn s && x.state == .run && x.kind == .content && x.first && differs p r.targets)

/-- The table reads of a line that fail: those whose error checks failed, and those that meet a poisoned word (R148). -/
def tableReads (s : State) (fails : TableFails) (prior : List Byte) (t : Timing) (hy : Nat) (rays : List RayRes) :
    TableFails :=
  if s.scn.scan.black || !s.spm.poisoned.any (fun w => bankUse ((bankLogical s (w / 16384)).getD 0) == .waveform) then fails
  else
    let reads (r : RayRes) : List Nat :=
      let x := regionOf s (hogelRegion r.hx hy)
      let p := if x.state == .black then [0, 0, 0] else priorLevels prior (priorEntry t r.hx r.u)
      (List.range 3).flatMap fun c => driveReads s x (p.getD c 0) (r.targets.getD c 0) c
    let all := (rays.flatMap reads).foldl addOnce []
    fails ++ ((all.filter fun a => !fails.any (·.1 == a)).map fun a => (a, waveFails s 0 a)).filter fun f => decide (0 < f.2)

/-- A prior-state entry from driven codes (R136, R143). -/
def levelWord (codes : List Nat) : Nat :=
  codes.getD 0 0 / 64 % 16 + codes.getD 1 0 / 64 % 16 * 16 + codes.getD 2 0 / 64 % 16 * 256

/-- The prior-state line is written back (R136 to R138). -/
def priorWrite (t : Timing) (a v : Nat) (codes : List (RayRes × List Nat)) (s : State) : State :=
  if t.mode = 4 ∧ v % 2 = 1 then s
  else
    let es := (if t.mode = 4 then codes.filter fun c => c.1.u % 2 == 0 else codes).map fun c => levelWord c.2
    let pitch := priorPitch t
    match trnAccess 0 10 .w (priorLine t a * pitch) pitch s with
    | (some _, s1) => s1
    | (none, s1) => dramStore portCrsl (priorLine t a * pitch) (priorCode es pitch) s1

/-- Regions found to differ get DIFF (R144). -/
def setDiff (regions : List Nat) (s : State) : State :=
  eachNat (fun r s => setRegion r { regionOf s r with diff := true } s) (regions.foldl addOnce []) s

/-- Plane reads that a retry cured: a transient error each, and the frame of a first scan completes as retried (R40, R98,
R253). -/
def tilesRetried (tiles : List (Nat × Nat × Nat)) (f : Frame) (s : State) : State :=
  let one (s : State) (x : Nat × Nat × Nat) : State :=
    match (f.planes[x.1]?).bind fun d => tileSpan f d (liveTable s f d) x.2.1 x.2.2 with
    | some a => dramTransient a.1 s
    | none => s
  if tiles.isEmpty then s
  else modFrame f.id (fun x => if x.fresh then { x with retried := true } else x) (tiles.foldl one s)

/-- One complete line: synthesized, coloured, driven, written back and sent (R82, R98, R114, R138, R143, R200). -/
def lineSend (t : Timing) (a : Nat) (env : LineEnv) (s : State) : State :=
  let vv := (modeUV t.mode).2
  let hy := a / vv
  let v := a % vv
  let s1 := lensFill t hy (match scanFrame s with
    | some f => tilesRetried env.retried f (fillPlanes t hy env.tiles f s)
    | none => s)
  let s2 := fillOvl t hy v env.overlays s1
  let rays := lineRays s2 t hy v
  let s3 := modScan (fun x => { x with
    dark := x.dark || rays.any (·.dark), saturated := x.saturated || rays.any (·.saturated),
    outClip := x.outClip || rays.any (·.outClip), ovlClip := x.ovlClip || rays.any (·.ovlClip),
    clipCount := satAdd 32 x.clipCount (rays.countP (·.outClip)) }) s2
  let (prior, s4) := priorRead t a env.prior s3
  let s5 := (tableReads s4 env.table prior t hy rays).foldl (fun s f => tableFail f s) s4
  let driven := rays.map fun r => (r, rayDrive s4 env.table prior t hy r)
  let s6 := setDiff ((driven.filter fun d => d.2.2).map fun d => hogelRegion d.1.hx hy) s5
  let codes := driven.map fun d => (d.1, d.2.1)
  let s7 := priorWrite t a v codes s6
  let slice (sl : Nat) : List (List Nat) :=
    (codes.filter fun c => decide (hxFirst t.hx sl ≤ c.1.hx ∧ c.1.hx < hxFirst t.hx (sl + 1))).map (·.2)
  pxSendAll 0x11 (b2n (a + 1 == linesA t)) a (fun sl => rayBytes (slice sl)) s7

end Sys2Proof.Machine
end

