-- ==== Sys2Proof/Machine/Hom.lean ====
section
/-! DEFINITION. The pipelines of the Hall of Mirrors: errors in service, self-tests, sparing and removal (R105 to
R110). -/

namespace Sys2Proof.Machine

/-- The logical pipeline a physical one serves (R105). -/
def pipeLogical (s : State) (q : Nat) : Option Nat := firstBelow 64 fun p => spGet p s.hom.pipeMap p == q

/-- A pipeline's error is no longer under suspicion: its next scan or self-test passed (R107). -/
def pipeClear (q : Nat) (s : State) : State := { s with hom := { s.hom with suspects := delAt s.hom.suspects q } }

/-- A pipeline has failed: the first time a transient fault, again at the retry a lasting one (R107, R418). `n` is 0
while the scan of the error still runs. -/
def pipeFail (n q : Nat) (s : State) : State :=
  match lkp s.hom.suspects q with
  | none => unitTransient 2 q { s with hom := { s.hom with suspects := putAt s.hom.suspects q n } }
  | some 0 => s
  | some _ => unitLasting 2 q s

/-- A parity or residue error in service (R106): the rays of the pipeline are lost from `line` on. -/
def homPipeErr (q line : Nat) (s : State) : State :=
  let sc := s.scn.scan
  if (pipeLogical s q).isNone || s.scn.state != .run || sc.complete || sc.holdTick then s
  else
    let a := if sc.synth then max line sc.line else 0
    let h := s.hom
    let s1 := log .homPipeErr [q] (homErr 3 { s with hom := { h with
      pipeErrCount := satAdd 32 h.pipeErrCount 1,
      suppressed := some (match h.suppressed with | some b => min a b | none => a) } })
    pipeFail 0 q s1

/-- One complete or aborted scan has passed for every pipeline under suspicion: a scan without an error of its
own clears it (R107). -/
def pipesScanned (complete_ : Bool) (s : State) : State :=
  let one (s : State) (c : Nat × Nat) : State :=
    if c.2 = 0 then { s with hom := { s.hom with suspects := putAt s.hom.suspects c.1 1 } }
    else if complete_ then pipeClear c.1 s else s
  s.hom.suspects.foldl one s

/-- A self-test passes or fails (R106, R107). A test that passes leaves an earlier failure's HOM_SELFTEST_FAIL bit until it is
written (R111 makes it W1C and says of a bit that its pipeline failed its last self-test: DESIGN CHOICE, log entry 142). -/
def pipeTested (q : Nat) (pass : Bool) (s : State) : State :=
  let s1 := modUnit 2 q (fun u => { u with lastTest := pass }) s
  if pass then (if (lkp s.hom.suspects q).isSome then pipeClear q s1 else s1)
  else
    let s2 := log .homSelftestFail [q] (homErr 4 { s1 with hom := { s1.hom with
      selftestFail := setBit s1.hom.selftestFail q } })
    if unitUp (unitOf s2 2 q) then pipeFail 1 q s2 else s2

/-- A self-test whose outcome no row brings: it is a free value (R107, R352). -/
def pipeDrawn (q : Nat) (s : State) : State :=
  let (v, s1) := drawFree s
  pipeTested q (bitOf v 0) s1

/-- The tick's self-test, in rotation over the 72 pipelines (R106), and those of the pipelines in TEST, which run without end
(R107; the model has one a tick: DESIGN CHOICE, log entry 149). -/
def selfTestTick (pass : Bool) (s : State) : State :=
  let q := s.hom.selftestNext
  let s1 := pipeTested q pass { s with hom := { s.hom with selftestNext := (q + 1) % 72 } }
  eachNat pipeDrawn ((List.range 72).filter fun k => k != q && (unitOf s 2 k).state == .test) s1

/-- Spare pipelines OFFLINE with a passed self-test (R108, R111). -/
def pipeSpares (s : State) : List Nat :=
  (List.range 72).filter fun q => (unitOf s 2 q).state == .offline && (unitOf s 2 q).lastTest

/-- Core 0 begins to bring in the lowest spare, or to take the pipeline out of service (R108, R109, R110). A removal
is written to the shadow at the next tick, so that the frame scanned when it applies was costed with it. -/
def pipeBringIn (q : Nat) (byHost : Bool) (s : State) : State :=
  match pipeLogical s q, pipeSpares s with
  | some p, sp :: _ => { s with hom := { s.hom with
      bringIn := some (q, some sp, byHost), pipeMapSh := some (spSet p s.hom.pipeMap p sp) } }
  | some _, [] => { s with hom := { s.hom with bringIn := some (q, none, byHost) } }
  | none, _ => s

/-- HOM_PIPE_SPARE (R107, R108, R419). -/
def pipeSpare (q : Nat) (s : State) : State :=
  if lastingTurn s 2 q then pipeBringIn q false (frontPop s) else s

/-- The commit window's part: a shadow map applies (R108, R110). -/
def pipeMapTick (mramOk : Bool) (s : State) : State :=
  match s.hom.bringIn with
  | none => s
  | some (q, sp, byHost) =>
    match s.hom.pipeMapSh with
    | none =>
      match pipeLogical s q with
      | some p => { s with hom := { s.hom with pipeMapSh := some (spSet p s.hom.pipeMap p 0x7F) } }
      | none => unitSetsDone .ok 2 q { s with hom := { s.hom with bringIn := none } }
    | some m =>
      let s1 := pipeClear q { s with hom := { s.hom with pipeMap := m, pipeMapSh := none, bringIn := none } }
      match sp with
      | some r =>
        let s2 := if byHost then unitTo 2 q .offline 7 s1 else unitTo 2 q .spared 6 s1
        let s3 := unitPair 2 q r (unitTo 2 r .online (if byHost then 7 else 6) s2)
        unitSetsDone .ok 2 q (log .homPipeSpared [q, r] (commitMap mramOk s3))
      | none => unitSetsDone .ok 2 q (unitTo 2 q .offline (if byHost then 7 else 11) s1)

/-- 1,000 clean scans (R107). -/
def pipeClean (q : Nat) (s : State) : State := cleanWindow 2 q s

/-! ### The scan's results (R113, R132) -/

/-- HOM and CLR flags and counts of the scan that ended at this tick (R98, R111, R113, R132). -/
def publishScan (s : State) : State :=
  let c := s.scn.scan
  { s with
    hom := { s.hom with
      frameFlags := b2n c.haloLate + 2 * b2n c.poison + 4 * b2n c.dark + 8 * b2n c.saturated + 16 * b2n c.aborted,
      poisonCount := c.poisonCount, suppressed := none },
    clr := { s.clr with
      frameFlags := b2n c.clrOvlPoison + 2 * b2n c.outClip + 4 * b2n c.ovlClip,
      clipCount := c.clipCount, ovlPoisonCount := c.ovlPoisonCount } }

end Sys2Proof.Machine
end

