-- ==== Sys2Proof/Machine/Raster.lean ====
section
/-! DEFINITION. The raster: ticks and their commit windows, lines, underruns, hold extensions, changes of timing,
watermarks, and COMMIT, LAYER_SET and TIMING_SET (R41, R122 to R124, R161 to R183, R222). -/

namespace Sys2Proof.Machine

/-! ### Commits and layers (R122, R123, R168, R169) -/

/-- The opcodes of LAYER_SET, COMMIT and TIMING_SET (R339). -/
def opLayerSet : Byte := 0x30
/-- COMMIT. -/
def opCommit : Byte := 0x31
/-- TIMING_SET. -/
def opTimingSet : Byte := 0x38

/-- TB0 time of the last tick. -/
def lastTb0 (s : State) : Int := tb0Q s - (tb2Q s - s.scn.tickTb2)

/-- A commit misses its window (R169). -/
def commitMiss (s : State) : State :=
  log .scnCommitLate [s.scn.tick] { s with scn := { s.scn with
    commitLate := true, lateCount := satAdd 32 s.scn.lateCount 1 } }

/-- COMMIT (R168, R169, R174). -/
def doCommit (h : Hdr) (p : CommitP) (s : State) : State :=
  let at_ := bitOf p.flags 0
  if p.rsvd || decide (2 ≤ p.flags.toNat) || badTime at_ p.target then complete opCommit h .badParam 0 s
  else
    let s1 := holdExit 2 s
    let t := timeQ p.target
    if at_ && s.scn.state != .stopped && !s.scn.first && decide (t ≤ lastTb0 s) then
      let s2 := commitMiss s1
      { s2 with scn := { s2.scn with commits := s2.scn.commits ++ [⟨h, none, true⟩] } }
    else { s1 with scn := { s1.scn with commits := s1.scn.commits ++ [⟨h, if at_ then some t else none, false⟩] } }

/-- The checks of a registered surface that a LAYER_SET names (R119): the header read and the first failure. The spec says
nothing of a header whose line reads poisoned: the stored bytes are taken (DESIGN CHOICE, log entry 144). A failure's detail
word has STRUCT 7 and the CHECK of R66; no frame or item is at hand, and it names none (DESIGN CHOICE, log entry 150). -/
def layerSurf (s : State) (i : Nat) : Option (SurfHdr × Option Failure) :=
  (surfaceOf s i).map fun x =>
    let b := dramBytes s x.addr 64
    let h := parseSurf x.addr b
    (h, (surfBounds noFrame 0xFF h x.size).or ((surfCrc noFrame 0xFF b).or (surfContents noFrame 0xFF b)))

/-- LAYER_SET passes its checks: an earlier one for its slot that still waits ends with ABORTED (R123). -/
def layerAccept (h : Hdr) (slot : Nat) (release : Bool) (o : Option OvlShow) (s : State) : State :=
  let s1 := (s.clr.layers.filter fun l => l.slot == slot).foldl (fun s l => complete opLayerSet l.hdr .aborted 0 s) s
  let rest := s1.clr.layers.filter fun l => l.slot != slot
  holdExit 2 { s1 with clr := { s1.clr with layers := rest ++ [⟨h, slot, release, o⟩] } }

/-- LAYER_SET (R65, R119, R122, R123). -/
def doLayerSet (h : Hdr) (p : LayerSetP) (s : State) : State :=
  let fin (st : Status) : State := complete opLayerSet h st 0 s
  let n := p.slot.toNat
  let d := sext 16 p.disparity.toNat
  if p.rsvd || decide (4 ≤ p.flags.toNat ∨ 8 ≤ n) then fin .badParam
  else if bitOf p.flags 1 then layerAccept h n true none s
  else if !bitOf p.flags 0 then layerAccept h n false none s
  else if d < -1024 ∨ 1024 < d then fin .badParam
  else match handleIndex s p.surface.toNat with
    | none => fin .badParam
    | some i =>
      match layerSurf s i with
      | some (hd, none) =>
        layerAccept h n false (some ⟨n, d, sext 16 p.posX.toNat, sext 16 p.posY.toNat, hd, some i⟩) s
      | some (_, some (st, d)) => complete opLayerSet h st d s
      | none => fin .badParam

/-- The LAYER_SETs due apply and complete (R65, R123). -/
def layersApply (s : State) : State :=
  let one (s : State) (l : LayerReq) : State :=
    let c := s.clr
    complete opLayerSet l.hdr .ok 0 { s with clr := { c with
      host := if l.release then delAt c.host l.slot else putAt c.host l.slot l.show_ } }
  surfacesSettle (s.clr.layers.foldl one { s with clr := { s.clr with layers := [] } })

/-- HOM_LA_BASE at a commit window (R112): a new base whose table leaves the frame-working region is not applied. -/
def laCommit (s : State) : State :=
  let h := s.hom
  let a := fld h.laHi.sh 9 0 * 2 ^ 32 + fld h.laLo.sh 31 6 * 64
  if h.laHi.sh = h.laHi.act ∧ h.laLo.sh = h.laLo.act then s
  else if a + 2160 * 16384 ≤ 2 ^ 33 then
    { s with hom := { h with laHi := ⟨h.laHi.sh, h.laHi.sh⟩, laLo := ⟨h.laLo.sh, h.laLo.sh⟩ } }
  else log .homLaRange [] (homErr 0 s)

/-- A shadowed register applies. -/
def rwsApply (r : Rws) : Rws := ⟨r.sh, r.sh⟩

/-- A matrix's registers apply. -/
def matApplyAll (m : Sparse Rws) : Sparse Rws := m.map fun c => (c.1, rwsApply c.2)

/-- CLR tables at a commit window, and their backing copy with them (R130, R131). -/
def tablesCommit (s : State) : State :=
  let (act, ok) := tblCommit s.clr.tblSh s.clr.tblAct
  let s1 := { s with clr := { s.clr with tblAct := act, backing := act } }
  if ok then s1 else clrErr 2 s1

/-- Every shadowed register and table of every block applies as one change (R14, R167). -/
def commitApply (s : State) : State :=
  let s1 := tablesCommit (commitBands (laCommit s))
  let enOff := crslEn s && !bitOf s1.crsl.ctrl.sh 0
  let iref (x : VRail) : VRail := { x with iref := rwsApply x.iref }
  let c := s1.clr
  let s2 := { s1 with
    hom := { s1.hom with ctrl := rwsApply s1.hom.ctrl, edge := rwsApply s1.hom.edge },
    clr := { c with ctrl := rwsApply c.ctrl, inmat0 := matApplyAll c.inmat0, inmat1 := matApplyAll c.inmat1,
                    outmat := matApplyAll c.outmat },
    crsl := { s1.crsl with ctrl := rwsApply s1.crsl.ctrl },
    scn := { s1.scn with hold := rwsApply s1.scn.hold },
    pwr := { s1.pwr with derate := rwsApply s1.pwr.derate, derateFloor := rwsApply s1.pwr.derateFloor } }
  let s3 := allRails iref s2
  if enOff then crslDisable s3 else s3

/-- A COMMIT is due at a tick at this TB0 time (R168). -/
def commitDue (tb0 : Int) (c : CommitReq) : Bool := match c.target with | some t => decide (t ≤ tb0) | none => true

/-- The COMMITs due apply and complete together, or all miss the window (R167 to R169). -/
def commitsTick (inTime : Bool) (s : State) : State :=
  let due := s.scn.commits.filter (commitDue (tb0Q s))
  let rest := s.scn.commits.filter fun c => !commitDue (tb0Q s) c
  if due.isEmpty then s
  else if inTime then
    let s1 := commitApply { s with scn := { s.scn with commits := rest } }
    due.foldl (fun s c => complete opCommit c.hdr .ok (put s.scn.tick 0 &&& 0xFFFFFFFF ||| putB c.late 32) s) s1
  else
    let late := due.map fun c => { c with target := none, late := true }
    due.foldl (fun s _ => commitMiss s) { s with scn := { s.scn with commits := rest ++ late } }

/-! ### TIMING_SET (R176 to R180, R222) -/

/-- The timing a TIMING_SET names. -/
def timingOf (p : TimingSetP) : Timing := ⟨p.mode.toNat, p.hx.toNat, p.hy.toNat, p.rateNum.toNat, p.rateDen.toNat⟩

/-- A timing passes R31, R163, R176 and, in restricted mode, R388. -/
def timingOk (restricted : Bool) (t : Timing) : Bool :=
  let uv := modeUV t.mode
  decide (t.mode < 5 ∧ 1 ≤ t.hx ∧ t.hx ≤ 4096 ∧ 1 ≤ t.hy ∧ t.hy ≤ 2160) && rateOk t.mode t.num t.den &&
    decide (t.hx * t.hy * uv.1 * uv.2 * t.num ≤ rayBudget * t.den) && !(restricted && decide (60 * t.den < t.num))

/-- A change of timing that needs no black (R177). -/
def timingSeamless (s : State) (t : Timing) : Bool :=
  match curTiming s with | some c => c.mode == t.mode && c.hx == t.hx && c.hy == t.hy | none => false

/-- A retime has been accepted and N1 has not come (R180). -/
def retimeHolds (s : State) : Bool :=
  s.scn.jobs.any (fun j => !j.seamless) || s.scn.restart == 1

/-- A new retime may begin its step 1: no earlier one stands before N1 (R180), and no power-down has ended the one at
the head (R222). -/
def retimeReady (s : State) : Bool :=
  s.pwr.state != .poweringDown && (s.scn.retimeStep == 0 || decide (2 ≤ s.scn.restart))

/-- Step 1 DRAIN begins (R179). -/
def retimeBegin (s : State) : State :=
  framesDrain { s with scn := { s.scn with retimeStep := 1, restart := 0, pfTime := none } }

/-- A change of timing is accepted (R177 to R179). -/
def timingAccept (j : TimingJob) (s : State) : State :=
  let s1 := { s with scn := { s.scn with jobs := s.scn.jobs ++ [j] } }
  if !j.seamless && j.target.isNone && s.scn.jobs.isEmpty && retimeReady s then retimeBegin s1 else s1

/-- TIMING_SET (R31, R163, R176, R177, R388). -/
def doTimingSet (h : Hdr) (p : TimingSetP) (s : State) : State :=
  let fin (st : Status) (s : State) : State := complete opTimingSet h st 0 s
  let t := timingOf p
  let at_ := bitOf p.flags 0
  if p.rsvd || decide (2 ≤ p.flags.toNat) || !timingOk s.th.restricted t || badTime at_ p.target then fin .badParam s
  else if s.scene.player.state != .idle then fin .busy s
  else if curTiming s = some t then fin .ok s
  else if s.scn.state == .stopped then fin .ok (holdExit 2 (timingRecord t s))
  else timingAccept ⟨h, t, if at_ then some (timeQ p.target) else none, timingSeamless s t, false⟩ (holdExit 2 s)

/-- A change of timing completes (R178, R179); one the device made itself has no command. -/
def timingDone (s : State) : State :=
  match s.scn.jobs with
  | [] => s
  | j :: rest =>
    let s1 := { s with scn := { s.scn with jobs := rest } }
    if j.hdr.src == .fw then s1 else complete opTimingSet j.hdr .ok 0 s1

/-- The device's own retime for a re-base (R248): its timing is the one in force. -/
def deviceRetime (s : State) : State :=
  match curTiming s with
  | some t =>
    if s.scn.state == .stopped then s
    else timingAccept ⟨⟨.fw, 0, 0, false, true, false, 0⟩, t, none, false, false⟩ (holdExit 2 s)
  | none => s

/-! ### When the next tick falls (R162, R172, R175, R177, R383) -/

/-- TB2 time of the next tick of a running raster. -/
def nextTick (s : State) : Int :=
  match s.scn.inForce with
  | none => s.scn.tickTb2
  | some t =>
    if s.scn.state == .hold then s.scn.tickTb2 + ((s.scn.extension + 1) * basePeriod t : Nat)
    else
      let e := s.scn.tickTb2 + s.scn.periodQ
      if 0 < s.scn.skip ∧ (s.th.skip = 0 ∨ bitOf s.th.ctrl 2) then slotAtOrAfter s.scn.gridOrigin e (basePeriod t) else e

/-- The next tick can fall: the scan, or the extension after it, has ended (R165). -/
def tickAllowed (s : State) : Bool :=
  match s.scn.state with
  | .run => s.scn.scan.complete || s.scn.scan.holdTick
  | .aborted => true
  | .hold => !s.scn.inExtension
  | .stopped => false

/-- The period and line period in force (R162, R175, R383). -/
def setPeriod (t : Timing) (s : State) : State :=
  let p := stretched t s.scn.skip (bitOf s.th.ctrl 2)
  { s with scn := { s.scn with inForce := some t, periodQ := p, lineQ := p / linesVt t } }

/-! ### The parts of a tick (R166) -/

/-- A running scan begins: number, time, skip, watermarks (R162, R175, R181, R183). -/
def tickBegin (time : Int) (s : State) : State :=
  let c := s.scn
  { s with
    scn := { c with
      state := .run, tick := if c.first then 0 else (c.tick + 1) % 2 ^ 64, first := false, tickTb2 := time,
      skip := s.th.skip, line := 0, exitCause := none, multLog := 0, extension := 0, scan := {}, wm := c.wmNew, wmDone := [] }
    clp := { s.clp with ofs0 := s.clp.ofs0New.getD s.clp.ofs0, ofs0New := none }
    cal := calTick s.cal }

/-- The seamless change that a tick brings: the one its pre-flight began with, or one that was accepted before that and whose
TARGET the tick has reached after all, a hold extension or a stretch having moved it (R178). -/
def rateNow (s : State) : Option Timing :=
  s.scn.rateDue.or (match s.scn.jobs with
    | j :: _ => if j.seamless && j.seen && s.pwr.state != .poweringDown &&
        (match j.target with | some t => decide (t ≤ tb0Q s) | none => false) then some j.timing else none
    | [] => none)

/-- A seamless change applies: this tick is the new grid origin (R178). -/
def rateApply (time : Int) (s : State) : State :=
  match rateNow s with
  | some t => timingDone { s with scn := { s.scn with
      rateDue := none, inForce := some t, timing := some t, gridOrigin := time } }
  | none => s

/-- A seamless change becomes due at the next tick: its pre-flight begins with the new rate (R178). -/
def rateStart (s : State) : State :=
  match s.scn.jobs with
  | j :: _ =>
    if j.seamless && s.scn.rateDue.isNone && s.pwr.state != .poweringDown &&
      (match j.target with | some t => decide (t ≤ tb0Q s + s.scn.periodQ) | none => true)
    then { s with scn := { s.scn with rateDue := some j.timing } }
    else { s with scn := { s.scn with jobs := s.scn.jobs.map fun j => { j with seen := true } } }
  | [] => s

/-- No frame may be scanned in this tick while a channel retrains in place (R243). -/
def retrainHolds (s : State) : Bool := match s.jgl.job with | some (.retrain _) => true | _ => false

/-- The retraining's first tick has come (R243 step 1). -/
def retrainTick (s : State) : State :=
  if retrainHolds s then { s with jgl := { s.jgl with jobStarted := true } } else s

/-- A SHOWING frame reads show store that a fold has lost (R247). -/
def readsLost (s : State) (f : Frame) : Bool :=
  match s.jgl.lostFrom with
  | none => false
  | some l => decide (l < f.block + f.length) || decide (l < f.entryAddr + 32 ∧ isScene f) ||
      f.overlays.any fun o => decide (l < o.hdr.addr + 64 * o.hdr.dataOffset + o.hdr.pitch * o.hdr.srcH)

/-- The panel link sends HOLD in this tick in place of every LINE (R109, R178, R243, R247). -/
def tickHolds (t : Timing) (f : Option Frame) (s : State) : Bool :=
  retrainHolds s || match f with
    | some f => f.state == .showing && (readsLost s f || !frameFits s t (pipesIn s.hom.pipeMap) f)
    | none => false

/-- What each overlay slot shows in a scan (R65, R123, R124). -/
def scanOverlays (s : State) (f : Option Frame) : List OvlShow :=
  (List.range 8).filterMap fun n =>
    match lkp s.clr.host n with
    | some o => o
    | none => (f.map (·.overlays)).bind fun l => l.find? fun o => o.slot == n

/-- The frame a tick scans: the one newly admitted, or the SHOWING one again (R38). -/
def frameToScan (s : State) : Option Frame := (frameIn s .scanning).or (frameIn s .showing)

/-- The scan of this tick is set up (R38, R124, R157, R164, R179, R217). -/
def scanBegin (t : Timing) (black : Bool) (s : State) : State :=
  let f := frameToScan s
  let hold := tickHolds t f s
  modScan (fun c => { c with
    frame := if hold then none else f.map (·.id), black := black, holdTick := hold,
    overlays := scanOverlays s f, minLead := fifoLines t - 1 }) s

/-- Every group's span is closed, compared and opened (R182, R209). -/
def spansTick (pad : List (Nat × W32)) (s : State) : State :=
  eachNat resendConfig (List.range 32) (eachNat (tickGroup pad s.scn.tick) (List.range 32) s)

/-- Every group's span ends and is compared at a tick that begins no scan (R182, R209). -/
def spansEnd (pad : List (Nat × W32)) (s : State) : State := eachNat (tickClose pad) (List.range 32) s

/-- T3: the raster enters STOPPED and the IREF outputs ramp to 0 (R179 step 3, R182, R222). -/
def retimeDark (pad : List (Nat × W32)) (s : State) : State :=
  let s1 := rasterStop (showingOut (spansEnd pad s))
  rampDown true 1 { s1 with scn := { s1.scn with t3 := s.scn.tickTb2 } }

/-- A retime with a TARGET begins at its tick (R179). -/
def retimeDue (s : State) : Bool :=
  match s.scn.jobs with
  | j :: _ => !j.seamless && retimeReady s && (match j.target with | some t => decide (t ≤ tb0Q s) | none => true)
  | [] => false

/-- The retime's part before the Carousel: T1 brings the clear in (R157, R179 step 2). -/
def retimeClear (s : State) : State :=
  if s.scn.retimeStep = 1 then
    let s1 := { s with scn := { s.scn with retimeStep := 2 } }
    if crslEn s then deviceClear .retime true s1 else s1
  else s

/-- The retime's part after the commit window (R179): `before` is the step the tick found. The tick's scan is black at
T2, in the single tick of EN = 0, and at N0. -/
def retimeTick (before : Nat) (s : State) : State :=
  match before with
  | 1 => if crslEn s && allBlack s then { s with scn := { s.scn with retimeStep := 3 } } else s
  | 2 => if !crslEn s || allBlack s then { s with scn := { s.scn with retimeStep := 3 } } else s
  | 5 =>
    let r := s.scn.restart + 1
    if retimeDue s then retimeBegin s
    else if 4 ≤ r then { s with scn := { s.scn with retimeStep := 0, restart := 0 } }
    else
      let s1 := { s with scn := { s.scn with restart := r } }
      if r = 2 then framesResume s1 else s1
  | _ => if retimeDue s then retimeBegin s else s

/-- The scan of this tick drives every ray at 0 (R157, R179, R217): `before` is the retime step the tick found. -/
def scanBlack (before : Nat) (frame wasClear : Bool) (s : State) : Bool :=
  (before == 1 && !crslEn s) || (s.scn.retimeStep == 3 && decide (before < 3)) || clearBlack wasClear s ||
    (s.crsl.blackUntilFrame && !frame) || (s.pwr.state == .poweringUp && s.pwr.step == 5)

/-- The pre-flight unit admits frames at this tick (R179). -/
def admits (s : State) : Bool := s.scn.retimeStep == 0 || (s.scn.retimeStep == 5 && decide (2 ≤ s.scn.restart))

/-- Power-down step 5: the raster stops at this tick (R182, R219). -/
def powerStop (pad : List (Nat × W32)) (s : State) : Option State :=
  if s.pwr.state == .poweringDown && s.pwr.step == 5 then some (downRails (linksStop (rasterStop (spansEnd pad s)))) else none

/-- A SCENE_STOP's clear has made every region BLACK: the SHOWING frame is left (R36, R76). -/
def stopCleared (was : Bool) (s : State) : State :=
  if was && !(s.crsl.reqs.any fun c => c.2.by_ == .stop) && allBlack s then showingOut s else s

/-- What a tick does after the raster has taken its number and time (R141, R166, R167). `complete_` and `ended`
describe the scan before it; `first` tells N0 or a start. -/
def tickBody (env : TickEnv) (complete_ ended first : Bool) (t : Timing) (s : State) : State :=
  let before := s.scn.retimeStep
  let wasClear := s.pwr.clearing
  let wasStop := s.crsl.reqs.any fun c => c.2.by_ == .stop
  let s1 := haloExpire (framesTick complete_ (retrainHolds s) s)
  let frame := (frameIn s1 .scanning).isSome
  let commit := !frame && ((env.commitInTime && s1.scn.commits.any (commitDue (tb0Q s1))) || !s1.clr.layers.isEmpty)
  let s2 := carouselTick complete_ frame commit (clearTick (if first then s1 else retimeClear s1))
  let s3 := layersApply (commitsTick env.commitInTime s2)
  let s4 := sliceMapApply env.mramOk (pipeMapTick env.mramOk (bankMapApply env.mramOk s3))
  let s5 := stopCleared wasStop (if first then s4 else retimeTick before s4)
  if before = 3 ∧ !first then retimeDark env.pad s5
  else
    let s6 := pwrTick ended complete_ s5
    match powerStop env.pad s6 with
    | some s7 => s7
    | none =>
      let black := scanBlack before frame wasClear s6 || first
      let s8 := clearDone wasClear (blackTick s6)
      let s9 := if frame then { s8 with crsl := { s8.crsl with blackUntilFrame := false } } else s8
      let s10 := selfTestTick env.selfTestPass (spansTick env.pad (scanBegin t black s9))
      if admits s10 then publishPf (preflightStart frame (rateStart s10)) else publishPf s10

/-- The scan that ends at a tick is accounted for (R107, R113). -/
def scanClose (s : State) : State :=
  headroomAge (pipesScanned s.scn.scan.complete (publishScan s))

/-- FRAME_TICK (R166). -/
def frameTick (env : TickEnv) (s : State) : State :=
  if !tickAllowed s then s
  else
    let time := nextTick s
    let complete_ := s.scn.scan.complete
    let s1 := rateApply time (tickBegin time (scanClose (clockTo time s)))
    match s1.scn.inForce with
    | none => s
    | some t => tickBody env complete_ true false t (retrainTick (setPeriod t s1))

/-! ### Start (R177, R179, R217) -/

/-- No group that failed at step 2 of power-up is left to be handled (R218). -/
def failedHandled (s : State) : Bool :=
  s.px.bringIn.isNone && !(List.range 32).any fun g => serves s g && (grp s g).link == .failed

/-- The raster may leave STOPPED: panel power-up is complete for it, or a retime is at step 4 with the memory back
(R165, R217, R218, R248). -/
def startAllowed (s : State) : Bool :=
  s.scn.state == .stopped &&
    ((s.pwr.state == .poweringUp && s.pwr.step == 5 && failedHandled s) ||
     (s.scn.retimeStep == 4 && (match s.jgl.job with | some (.rebase _) => false | _ => true)))

/-- RASTER_START: the first tick of the new grid, counted from TB2 time 0 (R177, R179). Its environment is quiet:
nothing that could miss its window is due to a scan before it. -/
def rasterStart (s : State) : State :=
  match s.scn.timing with
  | none => s
  | some t =>
    if !startAllowed s then s
    else
      let retime := s.scn.retimeStep == 4
      let from_ := if retime then max (tb2Q s) (s.scn.t3 + 2000000 * 65536) else tb2Q s
      let time := slotAtOrAfter 0 from_ (basePeriod t)
      let s1 := tickBegin time (clockTo time s)
      let s2 := setPeriod t { s1 with scn := { s1.scn with gridOrigin := time, afterAbort := false } }
      let s3 := if retime then
          let s4 := { s2 with
            scn := { s2.scn with retimeStep := 5, restart := 1 },
            pwr := { s2.pwr with diagPtr := 0 } }
          timingDone (if s4.pwr.state == .on then rampUp s4 else s4)
        else s2
      tickBody ⟨true, true, true, []⟩ false false true t (retrainTick s3)

/-- RETIME_RAMP_END: step 4 SWITCH begins (R179, R222). -/
def retimeRampEnd (s : State) : State :=
  match s.scn.retimeStep, s.scn.jobs with
  | 3, j :: _ =>
    if s.scn.state != .stopped then s
    else
      let s1 := clockTo (s.scn.t3 + 1000000 * 65536) (rampEnd s)
      queueGeometry (timingRecord j.timing { s1 with scn := { s1.scn with retimeStep := 4 } })
  | _, _ => s

/-! ### Lines (R41, R91, R166, R170, R171, R201) -/

/-- The TB2 time at which raster line `l` starts (R162). -/
def lineTime (s : State) (l : Nat) : Int := s.scn.tickTb2 + (l * s.scn.lineQ : Nat)

/-- BLANK_LINE_START (R201, R202, R228). -/
def blankLine (l : Nat) (s : State) : State :=
  match s.scn.inForce with
  | none => s
  | some t =>
    if s.scn.state != .run || decide (linesB t ≤ l) || (l != 0 && decide (l ≤ s.scn.line)) then s
    else
      let s1 := clockTo (lineTime s l) { s with scn := { s.scn with line := l } }
      let st := 2 * b2n (decide (0 < s.scn.skip))
      if l = 0 then
        pxSendAll 0x12 (1 + st) 0 (fun _ => leBytes 12 (qTime s.scn.tickTb2).toNat) s1
      else diagLine l (sendCmds l (pxSendAll 0x12 st l (fun _ => []) s1))

/-- The strips of a scanned frame at line 256 (R90, R91): those on time, and those late with their first report. -/
def stripsCheck (s : State) : State :=
  match scanFrame s with
  | none => s
  | some f =>
    let edge := frameEdge s f
    let want : List (Nat × Nat) := (List.range f.planes.length).flatMap fun i =>
      ((List.range 4).filter fun e => edgeHaloEn edge e).map fun e => (i, e)
    let ready (x : Nat × Nat) : Bool := match stripHeld s f.tb2 x.2 x.1 with | some st => st.complete | none => false
    let late := want.filter fun x => !ready x
    let s1 := modScan (fun c => { c with strips := want.filter ready, late := late, haloLate := !late.isEmpty }) s
    let new := late.filter fun x => !f.haloLate.contains x
    let one (s : State) (x : Nat × Nat) : State :=
      log .homHaloLate [x.1, x.2] (homErr 1 { s with hom := { s.hom with
        haloLateCount := satAdd 32 s.hom.haloLateCount 1 } })
    modFrame f.id (fun x => if x.fresh then { x with haloLate := x.haloLate ++ new } else x)
      (if f.fresh then new.foldl one s1 else s1)

/-- SYNTHESIS_START: line 256 (R91, R99, R104, R166). -/
def synthesisStart (s : State) : State :=
  if s.scn.state != .run || s.scn.scan.synth || s.scn.scan.complete then s
  else
    let s1 := stripsCheck (clockTo (lineTime s 256) s)
    let s2 := modScan (fun c => { c with synth := true }) { s1 with scn := { s1.scn with line := max s1.scn.line 256 } }
    match frameIn s2 .preflight with
    | some f => modFrame f.id (fun x => { x with edge := some s2.hom.edge.act }) s2
    | none => s2

/-- The underrun of an active line (R41, R171, R172). -/
def underrun (a stage : Nat) (s : State) : State :=
  let c := s.scn
  let s1 := { s with scn := { c with
    state := .aborted, underrun := true, underrunCount := satAdd 32 c.underrunCount 1, underrunLine := a,
    underrunStage := stage, afterAbort := true } }
  frameAborted a (sendAbort s.scn.line (log .scnUnderrun [a, stage] (modScan (fun x => { x with aborted := true }) s1)))

/-- The pipeline error that takes this line, if any (R106). -/
def pipeTakes (s : State) (a : Nat) : Bool := match s.hom.suppressed with | some b => decide (b ≤ a) | none => false

/-- LINE_DEPARTURE: the next active line (R35, R109, R170, R201). -/
def lineDeparture (env : LineEnv) (s : State) : State :=
  match s.scn.inForce with
  | none => s
  | some t =>
    let a := s.scn.scan.line
    if s.scn.state != .run || !s.scn.scan.synth || decide (linesA t ≤ a) then s
    else
      let l := linesB t + a
      let s1 := clockTo (lineTime s l) { s with scn := { s.scn with line := l } }
      let next := modScan fun x => { x with line := a + 1 }
      if s.scn.scan.holdTick then
        next (if a = 0 then pxSendAll 0x14 0 l (fun _ => holdPayload 0) s1 else s1)
      else if pipeTakes s a then underrun a 4 s1
      else if !env.complete then underrun a env.stage s1
      else
        next (lineSend t a env (modScan (fun x => { x with
          minLead := min x.minLead (min env.lead (fifoLines t - 1)) }) s1))

/-! ### The end of a scan and hold extensions (R172 to R174, R207) -/

/-- A frame is to be scanned from the next tick on: the exit cause that brought it is still pending, so that it is scanned one
base period after the tick its pre-flight began at (R172, R174). -/
def frameComing (s : State) : Bool := s.scene.frames.any fun f => f.state == .preflight || f.state == .admitted

/-- log2 of the hold multiplier (R172). -/
def holdMult (s : State) : Nat :=
  let q := s.crsl.quiet
  let m := if q < 8 then 0 else if q < 16 then 1 else if q < 24 then 2 else 3
  if 0 < s.scn.skip || 0 < s.th.skip || s.scn.retimeStep != 0 || retimeHolds s || s.scn.afterAbort ||
    s.scn.exitCause.isSome || frameComing s then 0
  else min m (fld s.scn.hold.act 1 0)

/-- SCAN_END: the last active line has departed (R171, R172, R173). -/
def scanEnd (s : State) : State :=
  match s.scn.inForce with
  | none => s
  | some t =>
    let c := s.scn
    if c.state != .run || c.scan.holdTick || c.scan.complete || decide (c.scan.line < linesA t) then s
    else
      let s0 := clockTo (c.tickTb2 + (c.periodQ : Nat)) s
      let k := holdMult s
      let s1 := modScan (fun x => { x with complete := true }) { s0 with scn := { s0.scn with
        fifoMin := c.scan.minLead, multLog := k, afterAbort := false } }
      if k = 0 then s1
      else
        let s2 := { s1 with scn := { s1.scn with
          state := .hold, inExtension := true, extension := 2 ^ k - 1, holdBegun := satAdd 16 c.holdBegun 1 } }
        eachNat sleepGroup (List.range 32)
          (pxSendAll 0x14 1 (linesVt t - 1) (fun _ => holdPayload (2 ^ k - 1)) s2)

/-- HOLD_EXTENSION_END: the slot boundary that ends the extension (R174, R183). -/
def holdExtensionEnd (s : State) : State :=
  match s.scn.inForce with
  | none => s
  | some t =>
    if s.scn.state != .hold || !s.scn.inExtension then s
    else
      let c := s.scn
      let s1 := clockTo (c.tickTb2 + ((c.extension + 1) * basePeriod t : Nat))
        (extensionClose (c.exitCause.getD 0) c.extension s)
      { s1 with scn := { s1.scn with extension := c.extension } }

/-- LINK_WAKE (R173, R208). -/
def linkWake (s : State) : State :=
  if s.scn.state == .hold then eachNat wakeGroup (List.range 32) s else s

/-- SCENE_FRAME_DUE: a played scene's frame falls due; it ends an extension, and one that falls due during a scan stays
pending as R172 says (R174). -/
def sceneFrameDue (s : State) : State :=
  if s.scene.player.state == .armed || s.scene.player.state == .playing then holdExit 3 s else s

/-! ### Registers of the raster (R183) -/

/-- The code of a raster state (R183). -/
def rasterCode : RasterState → Nat | .stopped => 0 | .run => 1 | .aborted => 2 | .hold => 3

end Sys2Proof.Machine
end

