-- ==== Sys2Proof/Machine/Thermal.lean ====
section
/-! DEFINITION. The Tightrope: sensors and their substitutes, throttle levels, the panel limit, pauses, the trip
record; and the partner reports that feed it and panel power (R205, R206, R210, R376 to R389, R456). -/

namespace Sys2Proof.Machine

/-! ### Sensors (R376 to R381) -/

/-- TH_ERR bit `i` set (R389): 0 SENSOR_LOST, 1 SENSOR_TRANSIENT, 2 SPARE_EXHAUSTED, 3 SITE_LOST, 4 PAUSE_FALLBACK,
5 PANEL_CRIT, 6 LIMIT_ORDER, 7 NO_FALLBACK. -/
def thErr (i : Nat) (s : State) : State := { s with th := { s.th with err := setBit s.th.err i } }

/-- A sensor. -/
def sensor (s : State) (i : Nat) : Sensor := spGet {} s.th.sensors i

/-- A sensor changed. -/
def modSensor (i : Nat) (f : Sensor → Sensor) (s : State) : State :=
  { s with th := { s.th with sensors := spMod {} s.th.sensors i f } }

/-- A sensor is read and used: on-die ones by their unit state, the others when declared (R376, R378, R468). -/
def sensServes (s : State) (i : Nat) : Bool :=
  let u := unitOf s 5 i
  if i < 40 then unitUp u else sensDeclared s i && (unitUp u || (u.state == .offline && u.cause == 9))

/-- A sensor gives a reading of its own. -/
def sensValid (s : State) (i : Nat) : Bool := sensServes s i && (sensor s i).seen && !(sensor s i).lost

/-- The highest of the valid readings of some sensors. -/
def hottest (s : State) (l : List Nat) : Option Int := ((l.filter (sensValid s)).map fun i => (sensor s i).value).max?

/-- The site of an on-die sensor: its own, or that of the sensor a spare serves for (R376, R389). -/
def sensSite (s : State) (i : Nat) : Nat :=
  if i < 36 then i / 2
  else if i < 40 then (match (sensor s i).servesFor with | some f => f / 2 | none => 0x1F)
  else 0x1F

/-- The spare that covers a site (R376). -/
def siteSpare (k : Nat) : Nat := if k < 5 then 36 else if k < 10 then 37 else if k < 15 then 38 else 39

/-- The declared neighbours of an on-die sensor (R379, R389). -/
def sensNbrs (s : State) (i : Nat) : List Nat :=
  [0, 8, 16, 24].filterMap fun b =>
    let n := (sensor s i).nbr.toNat / 2 ^ b % 64
    if n < 40 then some n else none

/-- The panel sensors of partners p − 1, p and p + 1. -/
def sensNear (p : Nat) : List Nat := ([p, p - 1, p + 1].filter (· < 30)).flatMap partnerSensors

/-- The reading a substitute is built on, if there is one (R379). -/
def substBase (s : State) (i : Nat) : Option Int :=
  if i < 40 then (hottest s (sensNbrs s i)).or (hottest s (List.range 40))
  else if i < 280 then hottest s (sensNear ((i - 40) / 8))
  else none

/-- The substitute of a lost sensor is put in its place (R379). Where no on-die reading is valid, which the manual
gives no substitute for, an on-die sensor's substitute is a free value. -/
def substApply (i : Nat) (s : State) : State :=
  match substBase s i with
  | some v => modSensor i (fun x => { x with value := v + 128, subst := true, seen := true }) s
  | none =>
    if i < 40 then
      let (w, s1) := drawFree s
      modSensor i (fun x => { x with value := sext 16 (w.toNat % 2 ^ 16), subst := true, seen := true }) s1
    else modSensor i (fun x => { x with subst := false, seen := false }) s

/-- A sensor fails lastingly (R379). -/
def sensorLose (i : Nat) (s : State) : State :=
  let s1 := substApply i (thErr 0 (modSensor i (fun x => { x with lost := true, failing := false }) s))
  unitLasting 5 i (log .thSensorLost [i, wrapN 16 (sensor s1 i).value] s1)

/-- A spare's first conversion replaces the substitute of the sensor it serves for (R380). -/
def spareReads (i : Nat) (s : State) : State :=
  match (sensor s i).servesFor with
  | some f => if (sensor s f).lost then modSensor f (fun x => { x with lost := false, subst := false, seen := false }) s else s
  | none => s

/-- One sample of a sensor: a reading, or none when it failed to arrive (R376, R378). -/
def sensorSample (i : Nat) (r : Option Int) (s : State) : State :=
  let x := sensor s i
  if !sensServes s i || x.lost then s
  else
    match r.filter fun v => decide (-640 ≤ v ∧ v ≤ 2400) with
    | some v =>
      let same := if x.lastRaw = some v then x.same + 1 else 1
      let s1 := modSensor i (fun x => { x with
        value := v, lastGood := v, seen := true, failing := false, same := same, lastRaw := some v,
        transient := if x.failing then satAdd 8 x.transient 1 else x.transient }) s
      if 8 ≤ same then sensorLose i s1
      else
        let s2 := if x.failing then unitTransient 5 i (thErr 1 s1) else s1
        if 36 ≤ i ∧ i < 40 then spareReads i s2 else s2
    | none =>
      if x.failing then sensorLose i s
      else modSensor i (fun x => { x with value := x.lastGood, failing := true, same := 0, lastRaw := none }) s

/-- Every declared sensor of a partner fails one sample (R206, R210, R378). -/
def partnerFails (p : Nat) (s : State) : State :=
  ((partnerSensors p).filter (sensDeclared s)).foldl (fun s i => sensorSample i none s) s

/-- Every substitute in force follows the readings (R379). -/
def substRefresh (s : State) : State :=
  (s.th.sensors.filter fun c => c.2.lost).foldl (fun s c => substApply c.1 s) s

/-- On-die sensors whose value counts: those in service and those substituted (R381, R382). -/
def dieUsed (s : State) : List Nat :=
  (List.range 40).filter fun i => (unitUp (unitOf s 5 i) || (sensor s i).lost) && (sensor s i).seen

/-- An on-die substitution is in force (R381). -/
def substActive (s : State) : Bool := (List.range 40).any fun i => (sensor s i).lost

/-- A spare serves for a sensor and is not lost itself. -/
def spareServes (s : State) (f : Nat) : Bool :=
  [36, 37, 38, 39].any fun q => (sensor s q).servesFor == some f && unitUp (unitOf s 5 q) && !(sensor s q).lost

/-- Both sensors of a site have failed lastingly and no spare serves the site (R381). -/
def siteLost (s : State) (k : Nat) : Bool :=
  let gone (f : Nat) : Bool := ((sensor s f).lost || !unitUp (unitOf s 5 f)) && !spareServes s f
  gone (2 * k) && gone (2 * k + 1)

/-- Sites newly lost force level 3 (R381). -/
def sitesCheck (s : State) : State :=
  let lost := (List.range 18).filter (siteLost s)
  let new := lost.filter fun k => !s.th.sitesLost.contains k
  let s1 := { s with th := { s.th with sitesLost := lost } }
  if new.isEmpty then s1
  else new.foldl (fun s k => log .thSiteLost [k] s) (thErr 3 { s1 with th := { s1.th with l3Forced := true, ackL3 := false } })

/-! ### Levels and skip (R382, R384) -/

/-- ONSET and SEVERE. -/
def thOnset (s : State) : Int := sext 16 (fld s.th.limits 15 0)
/-- SEVERE. -/
def thSevere (s : State) : Int := sext 16 (fld s.th.limits 31 16)

/-- TRIP, fixed at 125.0 °C (R382). -/
def thTrip : Int := 2000

/-- The least and greatest skip of a level (R382). -/
def skipLo : Nat → Nat | 0 => 0 | 1 => 1 | 2 => 5 | _ => 12
/-- The greatest skip of a level. -/
def skipHi : Nat → Nat | 0 => 0 | 1 => 4 | 2 => 8 | _ => 12

/-- The level from t (R382). -/
def levelRule (lvl : Nat) (t onset severe : Int) (subst : Bool) : Nat :=
  let l1 := if severe ≤ t then 2 else if onset ≤ t then max lvl 1 else lvl
  if subst then l1
  else
    let l2 := if l1 = 2 ∧ t < severe - 80 then 1 else l1
    if l2 = 1 ∧ t < onset - 80 then 0 else l2

/-- The skip, up_ms and dn_ms from t (R382). -/
def skipRule (lvl skip up dn : Nat) (t onset severe : Int) (subst : Bool) : Nat × Nat × Nat :=
  let entry := if lvl = 2 then severe else onset
  let mid := lvl == 1 || lvl == 2
  let clamp (k : Nat) : Nat := min (max k (skipLo lvl)) (skipHi lvl)
  if mid && decide (entry ≤ t ∧ 4 ≤ up) then (clamp (min (skip + 1) (skipHi lvl)), 0, dn)
  else if mid && decide (t < entry - 48 ∧ 20 ≤ dn) && !subst then (clamp (max (skip - 1) (skipLo lvl)), up, 0)
  else (clamp skip, up, dn)

/-- A new level and skip: the change is kept for a trip record, a falling level ends the pauses, and a skip above 0 is
an exit cause (R174, R384, R387). -/
def levelSet (lvl skip up dn : Nat) (s : State) : State :=
  let h := s.th
  let s1 := { s with th := { h with
    level := lvl, skip := skip, upMs := up, dnMs := dn,
    pauseActive := h.pauseActive && decide (h.level ≤ lvl),
    changes := if lvl = h.level then h.changes else ((lvl, h.ms) :: h.changes).take 4 } }
  if 0 < skip ∧ skip ≠ h.skip then holdExit 4 s1 else s1

/-- The samples at the ceiling of the present level (R384). -/
def ceilTrack (oldLevel : Nat) (s : State) : State :=
  let h := s.th
  if (h.level = 1 ∨ h.level = 2) ∧ h.skip = skipHi h.level then
    let l := if h.level = oldLevel then h.ceil else []
    { s with th := { h with ceil := ((h.ms, h.t) :: l).take 64 } }
  else { s with th := { h with ceil := [] } }

/-- The level and skip at the end of a sample period (R381, R382). -/
def levelEval (s : State) : State :=
  let h := s.th
  let on := thOnset s
  let sv := thSevere s
  let sub := substActive s
  if h.l3Forced && !h.ackL3 then ceilTrack h.level (levelSet 3 12 h.upMs h.dnMs s)
  else
    let ack := h.l3Forced && h.ackL3
    let lvl := levelRule (if ack then 0 else h.level) h.t on sv (sub && !ack)
    let k := skipRule lvl h.skip h.upMs h.dnMs h.t on sv (sub && !ack)
    let s1 := { s with th := { h with l3Forced := false, ackL3 := false } }
    ceilTrack h.level (levelSet lvl k.1 k.2.1 k.2.2 s1)

/-- Skip has stood at its ceiling for 50 ms and t has not fallen by 1 °C over them (R384). -/
def ceilStuck (s : State) : Bool :=
  match s.th.ceil.find? fun c => decide (c.1 + 50 ≤ s.th.ms) with
  | some (_, t0) => decide (t0 - s.th.t < 16)
  | none => false

/-- TH_PAUSE: the fallback to pauses (R384). -/
def thPause (s : State) : State :=
  let h := s.th
  if h.level = 0 ∨ !(ceilStuck s || bitOf h.ctrl 0) then s
  else if !bitOf h.ctrl 1 then thErr 7 s
  else if h.pauseActive then s
  else log .thPause [h.level] (thErr 4 { s with th := { h with pauseActive := true } })

/-! ### The panel limit (R385) -/

/-- A zone's temperature (R149). -/
def zoneTemp (s : State) (g : Nat) : Option Int := maxReading s (zoneSources s g)

/-- One sample of the panel limit for a zone; the eighth in a row calls for a native power-down (R385). -/
def critZone (s : State) (g : Nat) : State :=
  let hot := match zoneTemp s g with | some t => decide (sext 16 (fld s.th.panelCrit 15 0) ≤ t) | none => false
  let n := if hot then spGet 0 s.th.crit g + 1 else 0
  let s1 := { s with th := { s.th with crit := spSet 0 s.th.crit g n } }
  if n = 8 then powerDown false (log .thPanelCrit [g] (thErr 5 s1)) else s1

/-- A zone takes its temperature from its own partner's sensors: its samples come with that partner's TEMP (R149,
R377). -/
def ownSampled (s : State) (g : Nat) : Bool := (zoneSources s g).any fun i => (partnerSensors g).contains i

/-- The panel limit after a TEMP of partner `p`, or its failure (R377, R385). -/
def critOwn (p : Nat) (s : State) : State := if ownSampled s p then critZone s p else s

/-! ### The sample (R377, R382, R456) -/

/-- Milliseconds of the sample period in force (R377). -/
def samplePeriod (s : State) : Nat := if s.th.fastSample then 1 else 10

/-- NTC readings hold while an NTC item or item 0 is measured (R431). -/
def ntcHeld (s : State) : Bool :=
  match s.cal.todo with | i :: _ => s.cal.running.isSome && (i == 0 || decide (10 ≤ i)) | [] => false

/-- The milliseconds of a period are counted (R382, R387, R389). -/
def periodCount (n : Nat) (s : State) : State :=
  let h := s.th
  let add (b : Bool) (k : Nat) : Nat := if b then satAdd 32 k n else k
  { s with th := { h with
    ms := h.ms + n, upMs := satAdd 16 h.upMs n, dnMs := satAdd 16 h.dnMs n,
    timeL1 := add (h.level == 1) h.timeL1, timeL2 := add (h.level == 2) h.timeL2, timeL3 := add (h.level == 3) h.timeL3,
    timePause := add h.pauseActive h.timePause,
    recent := (List.replicate n (h.level, h.pauseActive) ++ h.recent).take 60000 } }

/-- REFIN against the bandgap (R456). -/
def refinSample (good : Bool) (s : State) : State :=
  if !good && s.th.refinBad && !s.th.onBandgap then
    log .calRefinLost [] (calErr 1 { s with th := { s.th with onBandgap := true } })
  else { s with th := { s.th with refinBad := !good } }

/-- REFIN has been in range for 1 s (R456). -/
def refinReturn (s : State) : State :=
  if s.th.onBandgap && !s.th.refinBad then { s with th := { s.th with onBandgap := false } } else s

/-- TH_SAMPLE: the end of a sample period (R377 to R382, R385, R456). -/
def thSample (env : SampleEnv) (s : State) : State :=
  let s1 := refinSample env.refinInRange (periodCount (samplePeriod s) s)
  let held := ntcHeld s1
  let due := env.readings.filter fun r => decide (r.1 < 40) || (decide (280 ≤ r.1 ∧ r.1 < 284) && sensDeclared s r.1 && !held)
  let s2 := sitesCheck (substRefresh (due.foldl (fun s r => sensorSample r.1 (some r.2) s) s1))
  let t := (((dieUsed s2).map fun i => (sensor s2 i).value).max?).getD s2.th.t
  let s3 := levelEval { s2 with th := { s2.th with t := t } }
  let near := min (thOnset s3) (min (thSevere s3) thTrip) - 80
  let fast := (List.range 40).any fun i => sensValid s3 i && decide (near ≤ (sensor s3 i).value)
  ((List.range 30).filter fun g => !ownSampled s3 g).foldl critZone { s3 with th := { s3.th with fastSample := fast } }

/-! ### Sparing (R380) -/

/-- Core 0 answers a lost sensor: the covering spare, or OFFLINE (R380). -/
def sensorBringIn (i : Nat) (byHost mramOk : Bool) (s : State) : State :=
  let q := siteSpare (i / 2)
  let u := unitOf s 5 q
  let dest (s : State) : State := if byHost then unitTo 5 i .offline 7 s else unitTo 5 i .spared 6 s
  let keep (s : State) : State := modSensor i (fun x => { x with lost := true, failing := false }) s
  if i < 36 ∧ u.state == .offline ∧ u.lastTest then
    let s1 := modSensor q (fun x => { x with servesFor := some i, seen := false, failing := false, lost := false }) (keep s)
    let s2 := unitPair 5 i q (unitTo 5 q .online (if byHost then 7 else 6) (dest s1))
    unitSetsDone .ok 5 i (log .thSensorSpared [i, q] (commitMap mramOk s2))
  else
    let s1 := unitTo 5 i .offline (if byHost then 7 else 11) (substApply i (keep s))
    unitSetsDone .ok 5 i (if i < 40 then thErr 2 s1 else s1)

/-- TH_SENSOR_SPARE (R380). -/
def sensorSpare (i : Nat) (mramOk : Bool) (s : State) : State :=
  if lastingTurn s 5 i then sensorBringIn i false mramOk (frontPop s) else s

/-- 1,000 good samples (R378). -/
def sensorClean (i : Nat) (s : State) : State := cleanWindow 5 i s

/-! ### Registers that act (R381, R382, R388, R389) -/

/-- ACK_L3 (R381). -/
def ackL3 (s : State) : State := if s.th.l3Forced then { s with th := { s.th with ackL3 := true } } else s

/-- TH_LIMITS written (R382). -/
def limitsWrite (v : W32) (s : State) : State :=
  let on := min (sext 16 (fld v 15 0)) 0x640
  let sv := min (sext 16 (fld v 31 16)) 0x6E0
  if sv - on < 64 then thErr 6 s
  else { s with th := { s.th with limits := put (wrapN 16 on) 0 ||| put (wrapN 16 sv) 16 } }

/-- The newest uncleared trip record: its slot (R388, R389). -/
def tripSlot (s : State) : Option Nat :=
  (ringOrder s).reverse.find? (tripHeld s)

/-- A word of the trip record; 0 when none is uncleared (R389). -/
def tripWord (s : State) : W32 :=
  match (tripSlot s).bind (lkp s.mram.journal) with
  | some e => BitVec.ofNat 32 (leAt e.content (4 * (s.th.tripIndex % 32)) 4)
  | none => 0

/-- A read of TH_TRIP_DATA moves the index on (R389). -/
def tripRead (s : State) : State := { s with th := { s.th with tripIndex := (s.th.tripIndex + 1) % 32 } }

/-- TH_TRIP_CLEAR: the record whose REC_CRC is written is cleared and restricted mode ends (R388). -/
def tripClear (v : W32) (s : State) : State :=
  match (List.range 256).find? fun i => tripHeld s i &&
      (match lkp s.mram.journal i with | some e => leAt e.content 124 4 == v.toNat | none => false) with
  | none => s
  | some i =>
    let s1 := { s with mram := { s.mram with journal := modAt s.mram.journal i fun e => { e with cleared := true } } }
    { s1 with th := { s1.th with restricted := false, tripRecord := decide (0 < tripCount s1) } }

/-- The 128 bytes of a trip record as captured at detection (R387). -/
def tripRecord (i : Nat) (temp prev : Int) (s : State) : List Byte :=
  let h := s.th
  let last (p : Nat × Bool → Bool) : List Byte := leBytes 2 (h.recent.countP p)
  let die := (List.range 36).flatMap fun j => leBytes 2 (wrapN 16 (sensor s j).value)
  let chg := (List.range 4).flatMap fun j =>
    match h.changes[j]? with
    | some (l, at_) => leBytes 2 (l % 4 + 4 * min (h.ms - at_) 16383)
    | none => leBytes 2 0
  let body := leBytes 12 (tb1Stamp s).toNat ++ leBytes 12 (if s.clp.tb3Set then (tb3Stamp s).toNat else 0) ++
    leBytes 2 i ++ leBytes 2 (wrapN 16 temp) ++ leBytes 2 (wrapN 16 prev) ++
    leBytes 1 (h.level % 4 + 128 * b2n (substActive s)) ++ leBytes 1 s.scn.skip ++ die ++
    last (fun r => r.1 == 1) ++ last (fun r => r.1 == 2) ++ last (fun r => r.1 == 3) ++ last (fun r => r.2) ++ chg ++ fill 4 0
  body ++ leBytes 4 (crc32c body).toNat

/-! ### Partner reports (R205, R206, R210, R230, R231) -/

/-- TEMP: readings 0 to COUNT − 1 with their VALID bits (R205, R377, R378). -/
def tempTake (g : Nat) (pkt : List Byte) (s : State) : State :=
  match grpSlice s g with
  | none => s
  | some p =>
    let n := leAt pkt 16 1
    let one (s : State) (i : Nat) : State :=
      if !sensDeclared s (40 + 8 * p + i) then s
      else
        let raw := leAt pkt (20 + 2 * i) 2
        let ok := decide (i < n) && bitOf (byteAt pkt 36) i && raw != 0x8000
        sensorSample (40 + 8 * p + i) (if ok then some (sext 16 raw) else none) s
    critOwn p ((List.range 8).foldl one (modGrp g (fun x => { x with tempStale := false }) s))

/-- TEMP_RX: a TEMP that fails its checks is a failed sample of each of the partner's sensors (R206, R378). -/
def tempRx (g : Nat) (pkt : List Byte) (s : State) : State :=
  let s1 := bcTake g 0x22 3 pkt (tempTake g pkt) s
  if bcAwake (grp s g) && !bcOk (grp s g) 0x22 3 pkt then
    match grpSlice s g with | some p => critOwn p (partnerFails p s1) | none => s1
  else s1

/-- TEMP_STALE: a partner's TEMP is older than 10 ms (R210, R378). -/
def tempStaleEv (g : Nat) (s : State) : State :=
  match grpSlice s g with
  | none => s
  | some p => critOwn p (partnerFails p (pxErr 7 (modGrp g (fun x => { x with tempStale := true }) s)))

/-- FAULT OVERTEMP: one sample at the panel limit for each declared sensor of the partner (R205, R385). -/
def overtemp (p : Nat) (s : State) : State :=
  let lim := sext 16 (fld s.th.panelCrit 15 0)
  critZone (((partnerSensors p).filter (sensDeclared s)).foldl (fun s i => sensorSample i (some lim) s) s) p

/-- FAULT accepted: the link's part, then panel power's or the Tightrope's (R205, R230, R231, R385). -/
def faultForward (g : Nat) (pkt : List Byte) (s : State) : State :=
  let s1 := faultTake g pkt s
  match grpSlice s g with
  | none => s1
  | some p =>
    let c := leAt pkt 22 1
    let e (short : Bool) : Emitter := ⟨leAt pkt 18 2, p, c, short, leAt pkt 20 2⟩
    match leAt pkt 16 1 with
    | 1 => emitterReport (e false) s1
    | 2 => emitterReport (e true) s1
    | 3 => supplyUv c s1
    | 4 => overvoltage s1
    | 5 => overtemp p s1
    | _ => s1

/-- FAULT_RX (R205, R206). -/
def faultRx (g : Nat) (pkt : List Byte) (s : State) : State := bcTake g 0x24 2 pkt (faultForward g pkt) s

end Sys2Proof.Machine
end

