-- ==== Sys2Proof/Machine/Shw.lean ====
section
/-! DEFINITION. The Sideshow: formats, checks, channels, bursts, staging, and the raster watermarks that start it
(R181, R282 to R293). -/

namespace Sys2Proof.Machine

/-! ### Formats and conversion (R284, R285) -/

/-- Bytes of an element (R284). -/
def blitSize : Nat → Nat | 0 => 1 | 1 => 2 | 2 => 4 | 3 => 8 | 4 => 4 | 5 => 4 | 6 => 1 | 7 => 8 | _ => 1

/-- The alignment of BASE and PITCH (R284). -/
def blitAlign : Nat → Nat | 0 => 1 | 1 => 2 | 2 => 4 | 3 => 8 | _ => 64

/-- Channel widths R, G, B, A of an RGBA format, in rising bit order (R88, R284). -/
def blitChans : Nat → List Nat | 4 => [8, 8, 8, 8] | 5 => [10, 10, 10, 2] | 7 => [16, 16, 16, 16] | _ => []

/-- A channel's expansion to 65,536 (R88, R285). -/
def blitExpand (n c : Nat) : Nat := (c * 65536 + (2 ^ n - 1) / 2) / (2 ^ n - 1)

/-- A channel's reduction to `m` bits (R285). -/
def blitReduce (m e : Nat) : Nat := (e * (2 ^ m - 1) + 32768) / 65536

/-- An element's four expanded channels (R285). -/
def blitTake (fmt w : Nat) : List Nat :=
  if fmt = 6 then List.replicate 4 (blitExpand 8 (w % 256))
  else
    let ws := blitChans fmt
    ((List.range 4).zip (unpackChans ws w)).map fun c => blitExpand (ws.getD c.1 8) c.2

/-- Four expanded channels as an element (R285). -/
def blitPut (fmt : Nat) (es : List Nat) : Nat :=
  if fmt = 6 then blitReduce 8 (es.getD 3 0)
  else
    let ws := blitChans fmt
    packChans ws ((List.range 4).map fun i => blitReduce (ws.getD i 8) (es.getD i 0))

/-- An element converted; equal formats copy it (R285). -/
def blitConv (sf df w : Nat) : Nat := if sf = df then w else blitPut df (blitTake sf w)

/-! ### Geometry (R284, R288, R289) -/

/-- The source lies in scratchpad, the destination lies in scratchpad. -/
def srcSpm (b : Blit) : Bool := b.kind != .fill && bitOf b.p.flags 0
/-- The destination lies in scratchpad. -/
def dstSpm (b : Blit) : Bool := bitOf b.p.flags 1

/-- The address of a source element. -/
def srcAt (p : BlitP) (x y : Nat) : Nat :=
  p.src.toNat + (p.srcY.toNat + y) * p.srcPitch.toNat + (p.srcX.toNat + x) * blitSize p.srcFmt.toNat

/-- The address of a destination element. -/
def dstAt (p : BlitP) (x y : Nat) : Nat :=
  p.dstBase.toNat + (p.dstY.toNat + y) * p.dstPitch.toNat + (p.dstX.toNat + x) * blitSize p.dstFmt.toNat

/-- The byte range of a rectangle: first byte and the byte after the last (R284). -/
def rectRange (base pitch x y w h size : Nat) : Nat × Nat :=
  (base + y * pitch, base + (y + h - 1) * pitch + (x + w) * size)

/-- The source's byte range. -/
def srcRange (p : BlitP) : Nat × Nat :=
  rectRange p.src.toNat p.srcPitch.toNat p.srcX.toNat p.srcY.toNat p.width.toNat p.height.toNat (blitSize p.srcFmt.toNat)

/-- The destination's byte range. -/
def dstRange (p : BlitP) : Nat × Nat :=
  rectRange p.dstBase.toNat p.dstPitch.toNat p.dstX.toNat p.dstY.toNat p.width.toNat p.height.toNat
    (blitSize p.dstFmt.toNat)

/-- A copy or conversion is congruent (R288). -/
def congruent (b : Blit) : Bool :=
  b.kind != .fill && srcSpm b == dstSpm b && b.p.src == b.p.dstBase && b.p.srcPitch == b.p.dstPitch &&
    blitSize b.p.srcFmt.toNat == blitSize b.p.dstFmt.toNat

/-- A command is staged (R289). -/
def staged (b : Blit) : Bool :=
  b.kind != .fill && !congruent b && srcSpm b == dstSpm b &&
    decide ((srcRange b.p).1 < (dstRange b.p).2 ∧ (dstRange b.p).1 < (srcRange b.p).2)

/-- Rows run bottom-up (R288). -/
def bottomUp (b : Blit) : Bool := congruent b && decide (b.p.srcY.toNat < b.p.dstY.toNat)

/-- Elements run right-to-left (R288). -/
def rightToLeft (b : Blit) : Bool := congruent b && decide (b.p.srcX.toNat < b.p.dstX.toNat)

/-- Elements of one burst of 256 bytes (R283). -/
def burstElems (b : Blit) : Nat :=
  256 / (if b.kind == .fill then blitSize b.p.dstFmt.toNat else max (blitSize b.p.srcFmt.toNat) (blitSize b.p.dstFmt.toNat))

/-- The first element and the element count of burst `j` of a row (R283, R288). -/
def burstSpan (b : Blit) (j : Nat) : Nat × Nat :=
  let w := b.p.width.toNat
  let m := burstElems b
  let n := min m (w - j * m)
  (if rightToLeft b then w - j * m - n else j * m, n)

/-- The row of the rectangle that is `r`-th in order (R288). -/
def rowOf (b : Blit) (r : Nat) : Nat := if bottomUp b then b.p.height.toNat - 1 - r else r

/-! ### Checks (R287) -/

/-- A range lies in its space (R284). -/
def spaceOk (s : State) (spm : Bool) (r : Nat × Nat) : Bool :=
  decide (r.2 ≤ if spm then 0x10000000 else s.jgl.limit)

/-- Step 3 of the checks (R287): the LENGTH_RANGE failures. -/
def blitRangeBad (s : State) (b : Blit) : Bool :=
  let p := b.p
  let cp := b.kind != .fill
  ones 2 p.width.toNat || ones 2 p.height.toNat || ones 2 p.dstX.toNat || ones 2 p.dstY.toNat ||
    decide (2 ^ 24 < p.dstPitch.toNat) || !spaceOk s (dstSpm b) (dstRange p) ||
    (cp && (ones 2 p.srcX.toNat || ones 2 p.srcY.toNat || decide (2 ^ 24 < p.srcPitch.toNat) ||
      !spaceOk s (srcSpm b) (srcRange p)))

/-- A format may be used by a command (R284, R286). -/
def fmtOk (b : Blit) : Bool :=
  let sf := b.p.srcFmt.toNat
  let df := b.p.dstFmt.toNat
  match b.kind with
  | .fill => decide (df < 8)
  | .copy => decide (df < 8) && sf == df
  | .convert => decide (4 ≤ sf ∧ sf < 8 ∧ 4 ≤ df ∧ df < 8)

/-- Step 4 of the checks (R284, R287): the BAD_PARAM failures. -/
def blitParamBad (b : Blit) : Bool :=
  let p := b.p
  let sa := blitAlign p.srcFmt.toNat
  let da := blitAlign p.dstFmt.toNat
  let srcBad := b.kind != .fill && (p.src.toNat % sa != 0 || p.srcPitch.toNat % sa != 0 ||
    decide (p.srcPitch.toNat < (p.srcX.toNat + p.width.toNat) * blitSize p.srcFmt.toNat))
  let fillBad := b.kind == .fill && (bitOf p.flags 0 || p.srcFmt != 0 || p.srcPitch != 0 || p.srcX != 0 || p.srcY != 0)
  !fmtOk b || srcBad || fillBad || p.dstBase.toNat % da != 0 || p.dstPitch.toNat % da != 0 ||
    decide (p.dstPitch.toNat < (p.dstX.toNat + p.width.toNat) * blitSize p.dstFmt.toNat) ||
    (bitOf p.flags 3 && decide (p.progRow.toNat < 1 ∨ p.height.toNat < p.progRow.toNat)) ||
    decide (16 ≤ p.flags.toNat ∨ 8 ≤ p.startWm.toNat) || p.rsvd

/-! ### Channels (R282, R289, R290) -/

/-- SHW_ERR bit `i` set (R293): 0 ACCESS, 1 FENCE, 2 POISON, 3 ABORT. -/
def shwErr (i : Nat) (s : State) : State := { s with shw := { s.shw with err := setBit s.shw.err i } }

/-- A channel after reset: channels 0 and 1 have no dead time (R283, R293). -/
def chDflt (c : Nat) : Channel := { dead := if c < 2 then 0 else 15 }

/-- A channel. -/
def chanShw (s : State) (c : Nat) : Channel := spGet (chDflt c) s.shw.chans c

/-- A channel changed. -/
def modCh (c : Nat) (f : Channel → Channel) (s : State) : State :=
  { s with shw := { s.shw with chans := spMod (chDflt c) s.shw.chans c f } }

/-- The opcode of a Sideshow command (R339). -/
def blitOp : BlitKind → Byte | .fill => 0x50 | .copy => 0x51 | .convert => 0x52

/-- The areas of the work space (R48, R289): three of 64 MiB, behind the queue spill, the contexts and the firmware's data.
The spec gives their region and no place or number; a staged source stays in its area until it is written out, while the
next one stages (DESIGN CHOICE, log entry 151). -/
def stageAddr (k : Nat) : Nat := 0x1F4000000 + k * 0x4000000

/-- A free area of the work space. -/
def freeArea (s : State) : Option Nat := firstBelow 3 fun k => !(List.range 8).any fun c => (chanShw s c).area == some k

/-- The head command of a channel ends with a status and detail, and leaves the FIFO. -/
def chanPop (c : Nat) (st : Status) (detail : W64) (s : State) : State :=
  match (chanShw s c).fifo with
  | [] => s
  | b :: _ =>
    let s1 := modCh c (fun x => { x with
      state := .idle, fifo := x.fifo.drop 1, rows := 0, burst := 0, progressed := false, retried := false,
      poisonBursts := 0, area := none, stagedPoison := [], done := satAdd 32 x.done 1 }) s
    complete (blitOp b.kind) b.hdr st detail
      { s1 with shw := { s1.shw with staging := if s1.shw.staging = some c then none else s1.shw.staging } }

/-- A head command that nothing holds back starts; a staged one waits at the head while another channel stages (R289). The
table of states has none for such a head: it shows as STAGING (DESIGN CHOICE, log entry 152). -/
def blitStart (c : Nat) (b : Blit) (s : State) : State :=
  if !staged b then modCh c (fun x => { x with state := .running }) s
  else if 2 ^ 26 < b.p.width.toNat * b.p.height.toNat * blitSize b.p.srcFmt.toNat then chanPop c .noResource 0 s
  else match s.shw.staging, freeArea s with
    | none, some k => modCh c (fun x => { x with state := .staging, area := some k }) { s with shw := { s.shw with staging := some c } }
    | _, _ => modCh c (fun x => { x with state := .waiting }) s

/-- The head of a channel that does not run is looked at: an empty command completes, an armed one waits, another starts, and
one that waits to stage does so when it can (R282, R287, R289, R290). -/
def chanKick1 (c : Nat) (s : State) : State :=
  let x := chanShw s c
  match x.state, x.fifo with
  | .idle, b :: _ =>
    if b.empty then chanPop c .ok 0 s
    else if bitOf b.p.flags 2 then modCh c (fun x => { x with state := .armed }) s
    else blitStart c b s
  | .waiting, b :: _ => blitStart c b s
  | _, _ => s

/-- Every channel's head, until none moves: at most as often as commands wait. -/
def chansKick (s : State) : State :=
  let round (s : State) : State := eachNat chanKick1 (List.range 8) s
  (List.range 17).foldl (fun s _ => round s) s

/-- The command of a packet as a channel holds it (R287). -/
def blitOf (kind : BlitKind) (h : Hdr) (p : BlitP) (s : State) : Blit :=
  ⟨h, kind, p, p.width == 0 || p.height == 0, srcMaster s h.src⟩

/-- What a Sideshow command completes with before it enters its channel; none where it enters (R282, R286, R287,
R292). -/
def blitRefusal (kind : BlitKind) (h : Hdr) (p : BlitP) (s : State) : Option Status :=
  let c := p.chan.toNat
  let b := blitOf kind h p s
  if h.src != .fw && decide (c < 2) then some .access
  else if !bitOf s.shw.ctrl 0 then some .unsupported
  else if 8 ≤ c then some .badParam
  else if !b.empty && blitRangeBad s b then some .lengthRange
  else if !b.empty && blitParamBad b then some .badParam
  else none

/-- A channel's FIFO of 16 commands is full (R282). -/
def fifoFull (s : State) (c : Nat) : Bool := decide (16 ≤ (chanShw s c).fifo.length)

/-- BLIT_FILL, BLIT_COPY, BLIT_CONVERT (R282, R286, R287, R292). A command whose channel is full is not fetched. -/
def doBlit (kind : BlitKind) (h : Hdr) (p : BlitP) (s : State) : State :=
  match blitRefusal kind h p s with
  | some st => complete (blitOp kind) h st 0 s
  | none =>
    if fifoFull s p.chan.toNat then s
    else chansKick (modCh p.chan.toNat (fun x => { x with fifo := x.fifo ++ [blitOf kind h p s] }) s)

/-! ### Bursts (R283, R287, R289, R291, R292) -/

/-- A read of some bytes under a master's permissions: the refusal, or bytes, poison and retry; `eccs` are the outcomes of
its lines or words (R253, R260). -/
def shwRead (m : Nat) (spm : Bool) (a n : Nat) (eccs : List Ecc) (s : State) : Option Status × MemRes × State :=
  match trnAccess (if spm then 1 else 0) m .r a n s with
  | (some st, s1) => (some st, ⟨[], false, false⟩, s1)
  | (none, s1) =>
    if spm then
      let (r, s2) := spmRead eccs a n s1
      (none, ⟨r.1, r.2, (eccs.take (unitsOf spm a n)).any (· == .retried)⟩, s2)
    else
      let (r, s2) := dramRead 8 a n eccs s1
      (none, r, s2)

/-- A write of some bytes under a master's permissions, and whether its response carries poison (R252, R287, R292). -/
def shwWrite (m : Nat) (spm : Bool) (a : Nat) (bs : List Byte) (poison : Bool) (ecc : Ecc) (s : State) : Option Status × State :=
  match trnAccess (if spm then 1 else 0) m .w a bs.length s with
  | (some st, s1) => (some st, s1)
  | (none, s1) =>
    let s2 := if spm then spmWrite a bs s1 else (dramWrite 8 a bs ecc s1).2
    (none, if !poison then s2 else if spm then spmPoison a bs.length s2 else dramPoison (linesOf a bs.length) s2)

/-- A command stops at a refused access (R292). -/
def chanStop (c : Nat) (st : Status) (s : State) : State :=
  chanPop c st (put (chanShw s c).rows 0) (shwErr (if st == .fence then 1 else 0) s)

/-- What a burst writes, from its source bytes (R285, R286). -/
def burstBytes (b : Blit) (n : Nat) (src : List Byte) : List Byte :=
  let ds := blitSize b.p.dstFmt.toNat
  match b.kind with
  | .fill => (List.range n).flatMap fun _ => leBytes ds b.p.src.toNat
  | .copy => src
  | .convert =>
    let ss := blitSize b.p.srcFmt.toNat
    (List.range n).flatMap fun i => leBytes ds (blitConv b.p.srcFmt.toNat b.p.dstFmt.toNat (leAt src (ss * i) ss))

/-- Bursts of a row. -/
def rowBursts (b : Blit) : Nat := (b.p.width.toNat + burstElems b - 1) / burstElems b

/-- A burst has been written: rows, progress, completion (R291, R292). -/
def burstWritten (c : Nat) (b : Blit) (poison : Bool) (s : State) : State :=
  let x := chanShw s c
  let whole := decide (rowBursts b ≤ x.burst + 1)
  let rows := if whole then x.rows + 1 else x.rows
  let pb := x.poisonBursts + b2n poison
  let s1 := modCh c (fun x => { x with rows := rows, burst := if whole then 0 else x.burst + 1, poisonBursts := pb })
    (if poison then shwErr 2 { s with shw := { s.shw with poisonCount := satAdd 32 s.shw.poisonCount 1 } } else s)
  let s2 := if whole && bitOf b.p.flags 3 && !x.progressed && decide (rows = b.p.progRow.toNat) then
      brkEvent (704 + c) (modCh c (fun x => { x with progressed := true }) s1)
    else s1
  if rows < b.p.height.toNat then s2
  else
    let st : Status := if 0 < pb then .uncorrectable else if (chanShw s2 c).retried then .okRetried else .ok
    chanPop c st (put rows 0 ||| put pb 32) s2

/-- Where a source element stands in the work space: the rectangle's rows one behind the other (R289). -/
def stagedAt (k : Nat) (b : Blit) (x y : Nat) : Nat :=
  stageAddr k + (y * b.p.width.toNat + x) * blitSize b.p.srcFmt.toNat

/-- The source of a burst: nothing for a fill, the work space for a staged command (under its own master ID 13, R403), else
memory. -/
def burstSource (c : Nat) (b : Blit) (x0 n y : Nat) (eccs : List Ecc) (s : State) : Option Status × MemRes × State :=
  let x := chanShw s c
  let bytes := n * blitSize b.p.srcFmt.toNat
  if b.kind == .fill then (none, ⟨[], false, false⟩, s)
  else match x.area with
    | some k =>
      let (st, r, s1) := shwRead 13 false (stagedAt k b x0 y) bytes eccs s
      (st, { r with poison := r.poison || x.stagedPoison.contains (y * rowBursts b + x.burst) }, s1)
    | none => shwRead b.master (srcSpm b) (srcAt b.p x0 y) bytes eccs s

/-- The flits of a burst that go through port 8 (R250, R283): those of its read and of its write that go to DRAM. -/
def burstFlits (c : Nat) (b : Blit) (x0 n y : Nat) (s : State) : Nat :=
  let bytes := n * blitSize b.p.srcFmt.toNat
  let rd := if b.kind == .fill then 0 else match (chanShw s c).area with
    | some k => flits (stagedAt k b x0 y) bytes
    | none => if srcSpm b then 0 else flits (srcAt b.p x0 y) bytes
  rd + if dstSpm b then 0 else flits (dstAt b.p x0 y) (n * blitSize b.p.dstFmt.toNat)

/-- One burst of a running channel (R287, R292). -/
def burstRun (c : Nat) (b : Blit) (env : MemEnv) (s : State) : State :=
  let x := chanShw s c
  let (x0, n) := burstSpan b x.burst
  let y := rowOf b x.rows
  let s0 := if srcSpm b || dstSpm b then spmBusy env.busy s else s
  match burstSource c b x0 n y env.reads s0 with
  | (some st, _, s1) => chansKick (chanStop c st s1)
  | (none, r, s1) =>
    let s2 := if r.retried then modCh c (fun x => { x with retried := true }) s1 else s1
    match shwWrite b.master (dstSpm b) (dstAt b.p x0 y) (burstBytes b n r.bytes) r.poison env.write s2 with
    | (some st, s3) => chansKick (chanStop c st s3)
    | (none, s3) => chansKick (burstWritten c b r.poison s3)

/-- A channel is ready to offer a burst: it runs, and its dead time has passed (R283). -/
def chReady (s : State) (c : Nat) : Bool :=
  (chanShw s c).state == .running && decide ((chanShw s c).readyAt ≤ fabricCycles s.clp.cycle)

/-- The clock runs until a channel's dead time has passed (R283). -/
def deadPass (c : Nat) (s : State) : State :=
  let n := (4 * (chanShw s c).readyAt + 2) / 3 - s.clp.cycle
  if n = 0 then s else clockRun n s

/-- It is a channel's turn: none of the ready channels comes before it in the round robin (R283). -/
def burstTurn (c : Nat) (s : State) : Bool :=
  ((List.range 8).map fun k => (s.shw.lastBurst + 1 + k) % 8).find? (chReady s) == some c

/-- A channel has issued a burst: its dead time begins, and the round robin goes on behind it (R283). -/
def burstIssued (c : Nat) (s : State) : State :=
  let s1 := modCh c (fun x => { x with readyAt := fabricCycles s.clp.cycle + x.dead }) s
  { s1 with shw := { s1.shw with lastBurst := c } }

/-- SHW_BURST_DONE: the next burst of a running channel, once its dead time has passed, its turn has come and port 8 has the
tokens (R250, R283, R287, R292). -/
def burstDone (c : Nat) (env : MemEnv) (s : State) : State :=
  match (chanShw s c).state, (chanShw s c).fifo with
  | .running, b :: _ =>
    let s0 := deadPass c s
    if !burstTurn c s0 then s
    else
      let x := chanShw s0 c
      let (x0, n) := burstSpan b x.burst
      let k := burstFlits c b x0 n (rowOf b x.rows) s0
      if k != 0 && !regIssues 8 k s0 then s
      else regulated 8 k (fun s => burstRun c b env (burstIssued c s)) s0
  | _, _ => s

/-- One burst of a staging: read under the submitter's master ID, written to the work space under its own (R289, R403). -/
def stageBurst (c k : Nat) (b : Blit) (y j : Nat) (eccs : List Ecc) (ecc : Ecc) (s : State) : Option Status × State :=
  let (x0, n) := burstSpan b j
  match shwRead b.master (srcSpm b) (srcAt b.p x0 y) (n * blitSize b.p.srcFmt.toNat) eccs s with
  | (some st, _, s1) => (some st, s1)
  | (none, r, s1) =>
    shwWrite 13 false (stagedAt k b x0 y) r.bytes false ecc (modCh c (fun x => { x with
      retried := x.retried || r.retried,
      stagedPoison := if r.poison then (y * rowBursts b + j) :: x.stagedPoison else x.stagedPoison }) s1)

/-- The source reads of a staging, burst by burst; each takes the outcomes of its own lines or words. -/
def stageReads (c k : Nat) (b : Blit) : List (Nat × Nat) → List Ecc → Ecc → State → Option Status × State
  | [], _, _, s => (none, s)
  | (y, j) :: rest, eccs, ecc, s =>
    let (x0, n) := burstSpan b j
    match stageBurst c k b y j eccs ecc s with
    | (some st, s1) => (some st, s1)
    | (none, s1) => stageReads c k b rest
        (eccs.drop (unitsOf (srcSpm b) (srcAt b.p x0 y) (n * blitSize b.p.srcFmt.toNat))) ecc s1

/-- SHW_STAGING_DONE: the source stands in the work space, and the next staged command may stage (R289). -/
def stagingDone (c : Nat) (env : MemEnv) (s : State) : State :=
  let x := chanShw s c
  match x.state, x.fifo, x.area with
  | .staging, b :: _, some k =>
    let bursts := (List.range b.p.height.toNat).flatMap fun y => (List.range (rowBursts b)).map fun j => (y, j)
    let bytes := b.p.width.toNat * b.p.height.toNat * blitSize b.p.srcFmt.toNat
    regBulk 8 (bytes / 64 * (if srcSpm b then 1 else 2) + 1) (fun s =>
      let s0 := if srcSpm b then spmBusy env.busy s else s
      match stageReads c k b bursts env.reads env.write s0 with
      | (some st, s1) => chansKick (chanStop c st s1)
      | (none, s1) => chansKick (modCh c (fun x => { x with state := .running })
          { s1 with shw := { s1.shw with staging := none } })) s
  | _, _, _ => s

/-- SHW_CH_CTRL.ABORT (R292). -/
def shwAbort (c : Nat) (s : State) : State :=
  let x := chanShw s c
  if x.state == .idle then s else chansKick (chanPop c .aborted (put x.rows 0) (shwErr 3 s))

/-- SHW_CTRL.EN cleared (R292). -/
def shwDisable (s : State) : State := { s with shw := { s.shw with ctrl := clrBit s.shw.ctrl 0 } }

/-! ### Watermarks (R181, R290) -/

/-- Watermark register `n` in force, and as written (R181). -/
def wmOf (s : State) (n : Nat) : W32 := spGet 0 s.scn.wm n

/-- One firing starts every channel ARMED on the watermark; a staged head that cannot stage yet goes on waiting without it
(R289, R290). -/
def wmStart (n : Nat) (s : State) : State :=
  let one (c : Nat) (s : State) : State :=
    match (chanShw s c).state, (chanShw s c).fifo with
    | .armed, b :: _ =>
      if b.p.startWm.toNat = n then blitStart c b (modCh c (fun x => { x with state := .idle }) s) else s
    | _, _ => s
  chansKick (eachNat one (List.range 8) s)

/-- A watermark's point can have come in the running scan (R181): a DEPART watermark's line has started; a SYNTH watermark's
line has been synthesized, so it stands in the scan FIFO or has departed, and a blank line has started. -/
def wmReached (t : Timing) (w : W32) (s : State) : Bool :=
  let l := fld w 16 0
  if bitOf w 17 && decide (linesB t ≤ l) then
    s.scn.scan.synth && decide (l - linesB t < s.scn.scan.line + fifoLines t)
  else decide (l ≤ s.scn.line)

/-- WATERMARK_FIRE: the watermark's point in the tick has come (R181). In a tick that an underrun has ended, one at the line
that failed or behind it does not fire and is marked missed. -/
def watermarkFire (n : Nat) (s : State) : State :=
  let w := wmOf s n
  match s.scn.inForce with
  | none => s
  | some t =>
    if !bitOf w 31 || decide (linesVt t ≤ fld w 16 0) || s.scn.wmDone.contains n then s
    else if s.scn.state == .aborted then
      if fld w 16 0 < s.scn.line then s
      else { s with scn := { s.scn with wmMissed := s.scn.wmMissed ||| 2 ^ n, wmDone := n :: s.scn.wmDone } }
    else if s.scn.state != .run || !wmReached t w s then s
    else
      let s1 := brkEvent (512 + n) { s with scn := { s.scn with
        wmFired := s.scn.wmFired ||| 2 ^ n, wmDone := n :: s.scn.wmDone } }
      if bitOf w 18 then wmStart n s1 else s1

end Sys2Proof.Machine
end

