-- ==== Sys2Proof/Machine/CtnJobs.lean ====
section
/-! DEFINITION. The job engine of the Contortionist: CTN_ENCODE, CTN_DECODE, CTN_SAVE_STATE and
CTN_RESTORE_STATE (R276 to R279). -/

namespace Sys2Proof.Machine

/-- A stream context. -/
def ctxOf (s : State) (c : Nat) : Ctx := spGet {} s.ctn.ctxs c

/-- A stream context changed. -/
def modCtx (c : Nat) (f : Ctx → Ctx) (s : State) : State :=
  { s with ctn := { s.ctn with ctxs := spMod {} s.ctn.ctxs c f } }

/-- The opcode of a job (R339). -/
def jobOp (decode : Bool) : Byte := if decode then 0x61 else 0x60

/-- 64 MiB. -/
def jobMax : Nat := 67108864

/-- FLAGS of a job (R276). -/
def jobFirst (p : CtnJobP) : Bool := bitOf p.flags 0
def jobLast (p : CtnJobP) : Bool := bitOf p.flags 1
def jobResume (p : CtnJobP) : Bool := bitOf p.flags 3
def jobSrcSpm (p : CtnJobP) : Bool := bitOf p.flags 4
def jobDstSpm (p : CtnJobP) : Bool := bitOf p.flags 5

/-! ### Acceptance (R276, R277) -/

/-- Step 1 of R277: lengths and ranges. RESUME ignores SRC_ADDR and SRC_LEN (R278). -/
def jobRangeBad (s : State) (p : CtnJobP) : Bool :=
  let srcBad := !jobResume p && (decide (jobMax < p.srcLen.toNat) ||
    !spaceOk s (jobSrcSpm p) (p.srcAddr.toNat, p.srcAddr.toNat + p.srcLen.toNat))
  let n := p.chainCount.toNat
  srcBad || decide (n < 1 ∨ 256 < n) || !spaceOk s (jobDstSpm p) (p.chainAddr.toNat, p.chainAddr.toNat + 16 * n)

/-- The parameters of R276 and step 2 of R277. -/
def jobParamBad (decode : Bool) (p : CtnJobP) : Bool :=
  let coder := p.coder.toNat
  let elem := p.elem.toNat
  let fixed := decide (coder ≠ 1)
  let part := if elem = 2 then 384 else 16384
  decide (64 ≤ p.ctx.toNat) || decide (coder < 1 ∨ 4 < coder) ||
    (fixed && (decide (2 < elem) || (elem == 2 && coder != 2))) || decide (64 ≤ p.flags.toNat) || p.rsvd ||
    decide (p.chainAddr.toNat % 16 ≠ 0) ||
    (fixed && !decode && !jobResume p && decide (p.srcLen.toNat % part ≠ 0))

/-- The collisions of R277: RESUME needs a SUSPENDED stream, which FIRST discards; without FIRST the context holds
a stream of the same direction and coder. -/
def jobStateBad (decode : Bool) (p : CtnJobP) (x : Ctx) : Bool :=
  if jobResume p then x.state != .suspended || jobFirst p || x.dir != decode
  else if jobFirst p then false
  else x.state == .idle || x.state == .error || x.dir != decode || x.coder != p.coder.toNat

/-- The context as a job starts on it (R277, R278). -/
def jobCtx (decode : Bool) (h : Hdr) (p : CtnJobP) (m : Nat) (x : Ctx) : Ctx :=
  if jobResume p then { x with state := .running, job := some (h, p, m) }
  else
    let base : Ctx := if jobFirst p then
        { coder := p.coder.toNat, elem := p.elem.toNat, pred := !decode && bitOf p.flags 2, dir := decode,
          predLast := [0, 0, 0, 0], lastStatus := x.lastStatus }
      else if decode then x
      else { x with pendLit := 0, pendMatchLen := 0, pendMatchOff := 0 }
    { base with state := .running, job := some (h, p, m), srcNext := p.srcAddr.toNat, srcLeft := p.srcLen.toNat }

/-- A job that completes as it is accepted: it counts, and its status is the last of its context, where it has one that does
not run (R281; DEDUCED, log entry 155). -/
def jobAtOnce (decode : Bool) (h : Hdr) (c : Nat) (st : Status) (s : State) : State :=
  let s1 := { s with ctn := { s.ctn with jobCount := satAdd 32 s.ctn.jobCount 1 } }
  let s2 := if 64 ≤ c ∨ (ctxOf s c).state = .running then s1 else modCtx c (fun x => { x with lastStatus := statusCode st }) s1
  complete (jobOp decode) h st 0 s2

/-- CTN_ENCODE and CTN_DECODE: the checks, and the start of the job (R276, R277). -/
def doJob (decode : Bool) (h : Hdr) (p : CtnJobP) (s : State) : State :=
  let c := p.ctx.toNat
  let fin (st : Status) : State := jobAtOnce decode h c st s
  let x := ctxOf s c
  if !bitOf s.ctn.ctrl 0 then complete (jobOp decode) h .unsupported 0 s
  else if jobRangeBad s p then fin .lengthRange
  else if jobParamBad decode p then fin .badParam
  else if x.state == .running then fin .busy
  else if jobStateBad decode p x then fin .badParam
  else if !jobResume p && p.srcLen == 0 && (decode || !jobLast p) then fin .ok
  else modCtx c (jobCtx decode h p (srcMaster s h.src)) s

/-! ### The coders as engines -/

/-- What a job still has to put out: pieces that are never split, each with the source bytes it uses up. -/
abbrev Pieces := List (List Byte × Nat)

/-- Why an engine stops. -/
inductive EngEnd | done | input | room | failed
deriving DecidableEq, Repr

/-- An engine in its run: a lossless decoder over its input, or pieces to place. -/
inductive Engine
  | lz (st : Lz) (inp : List Byte)
  | pieces (l : Pieces)
deriving DecidableEq, Repr

/-- Pieces placed in some room: the bytes, the room and source used, the rest (R278). -/
def placePieces : Nat → Pieces → List (List Byte) → Nat → List (List Byte) × Nat × Pieces
  | _, [], acc, n => (acc, n, [])
  | room, (bs, k) :: r, acc, n =>
    if bs.length ≤ room then placePieces (room - bs.length) r (bs :: acc) (n + k) else (acc, n, (bs, k) :: r)

/-- An engine runs until it needs more room, fails or has no more to do: its output, the source bytes used. -/
def engRun (room : Nat) : Engine → Engine × List Byte × Nat × EngEnd
  | .lz st inp =>
    let (st2, out, rest, e) := lzRun (lzFuel inp.length room) room st inp []
    (.lz st2 rest, out.reverse, inp.length - rest.length,
      match e with | .ended => .done | .input => .input | .room => .room | .failed => .failed)
  | .pieces l =>
    let (acc, n, rest) := placePieces room l [] 0
    (.pieces rest, acc.reverse.flatten, n, if rest.isEmpty then .done else .room)

/-! ### The chain (R276 to R278) -/

/-- The bytes of a buffer or a table, read under the submitter's permissions (R277); `eccs` are the outcomes of its lines or
words (R253, R260). -/
def jobRead (m : Nat) (spm : Bool) (a n : Nat) (eccs : List Ecc) (s : State) : Option Status × MemRes × State :=
  match trnAccess (if spm then 1 else 0) m .r a n s with
  | (some st, s1) => (some st, ⟨[], false, false⟩, s1)
  | (none, s1) =>
    if spm then
      let (r, s2) := spmRead eccs a n s1
      (none, ⟨r.1, r.2, (eccs.take (unitsOf spm a n)).any (· == .retried)⟩, s2)
    else
      let (r, s2) := dramRead 9 a n eccs s1
      (none, r, s2)

/-- Bytes written to a space, through port 9 where it is DRAM (R250, R253). -/
def jobStore (spm : Bool) (a : Nat) (bs : List Byte) (ecc : Ecc) (s : State) : State :=
  if spm then spmWrite a bs s else (dramWrite 9 a bs ecc (regDrain 9 (flits a bs.length) s)).2

/-- Entry `i` of a chain taken: its address and length, or the status that ends the job (R277). The spec says nothing of an
entry that reads poisoned: it is not used, and ends the job as a poisoned read of an operand would, with the context left as
a refused entry leaves it (DESIGN CHOICE, log entry 153). -/
def takeEntry (m : Nat) (p : CtnJobP) (lossEnc : Bool) (i : Nat) (eccs : List Ecc) (s : State) :
    Sum Status (Nat × Nat) × State :=
  let spm := jobDstSpm p
  let a := p.chainAddr.toNat + 16 * i
  match jobRead m spm a 16 eccs s with
  | (some st, _, s1) => (.inl st, s1)
  | (none, r, s1) =>
    if r.poison then (.inl .uncorrectable, s1) else
    let addr := leAt r.bytes 0 8
    let len := leAt r.bytes 8 4
    if len < (if lossEnc then 4096 else 64) ∨ jobMax < len ∨ len % 64 ≠ 0 ∨ !spaceOk s1 spm (addr, addr + len) then
      (.inl .lengthRange, s1)
    else
      match trnAccess (if spm then 1 else 0) m .w addr len s1 with
      | (some st, s2) => (.inl st, s2)
      | (none, s2) =>
        match trnAccess (if spm then 1 else 0) m .w (a + 12) 4 s2 with
        | (some st, s3) => (.inl st, s3)
        | (none, s3) => (.inr (addr, len), s3)

/-- How a job's run over its chain ends: all is put out, or the input has run out in a token stream. -/
inductive JobEnd
  | done
  | input
  | failed
  | noEntry
  | entryBad (st : Status)
deriving DecidableEq, Repr

/-- The result of a job's run: the engine, the source bytes used, the output produced (before R273). -/
structure JobRun where
  eng : Engine
  used : Nat
  made : Nat
  /-- The last four output bytes (R273). -/
  last : List Byte
  how : JobEnd
  /-- Outcomes of the error checks still to come. -/
  eccs : List Ecc
deriving DecidableEq, Repr

/-- The last four bytes of what has gone out. -/
def lastFour (last out : List Byte) : List Byte := (last ++ out).drop ((last ++ out).length - 4)

/-- A job fills its chain from entry `i` (R278). `pred` undoes the prediction of a decoded stream. -/
def chainRun (m : Nat) (p : CtnJobP) (lossEnc pred : Bool) (ecc : Ecc) : Nat → Nat → JobRun → State → JobRun × State
  | 0, _, j, s => (j, s)
  | n + 1, i, j, s =>
    match engRun 0 j.eng with
    | (e0, _, k0, .done) => ({ j with eng := e0, used := j.used + k0, how := .done }, s)
    | (e0, _, k0, .input) => ({ j with eng := e0, used := j.used + k0, how := .input }, s)
    | (e0, _, k0, .failed) => ({ j with eng := e0, used := j.used + k0, how := .failed }, s)
    | (e0, _, k0, .room) =>
      let j0 := { j with eng := e0, used := j.used + k0 }
      if p.chainCount.toNat ≤ i then ({ j0 with how := .noEntry }, s)
      else match takeEntry m p lossEnc i j.eccs s with
        | (.inl st, s1) => ({ j0 with how := .entryBad st }, s1)
        | (.inr (a, len), s1) =>
          let (e1, out, k1, how) := engRun len e0
          let bytes := if pred then unpredict j0.last out else out
          let s2 := jobStore (jobDstSpm p) (p.chainAddr.toNat + 16 * i + 12) (leBytes 4 bytes.length) ecc
            (jobStore (jobDstSpm p) a bytes ecc s1)
          let j1 : JobRun := ⟨e1, j0.used + k1, j0.made + bytes.length, lastFour j0.last bytes,
            match how with | .failed => .failed | .input => .input | _ => .done,
            j.eccs.drop (unitsOf (jobDstSpm p) (p.chainAddr.toNat + 16 * i) 16)⟩
          match how with
          | .room => chainRun m p lossEnc pred ecc n (i + 1) j1 s2
          | _ => (j1, s2)

/-! ### What a job has to put out -/

/-- Single bytes, each a piece. -/
def bytePieces (k : Nat) (bs : List Byte) : Pieces := bs.map fun b => ([b], k)

/-- A unit of a fixed-ratio stream: coded bytes and plain bytes (R268). -/
def fixUnit (coder elem : Nat) : Nat × Nat :=
  if elem = 2 then (6, 12) else (4096 / (fixFmt coder).cols / (fixFmt coder).rows * (fixFmt coder).coded, 16384)

/-- The plain bytes of one unit. -/
def fixPlain (coder elem : Nat) (bs : List Byte) : List Byte :=
  if elem = 2 then priorDecode bs else fixTile coder elem bs

/-- A source cut into whole units of `n` bytes. -/
def units (n : Nat) (src : List Byte) : List (List Byte) :=
  (List.range (src.length / n)).map fun i => slice src (i * n) n

/-- A fixed-ratio decode: a unit's source is used up with the last byte of its output. -/
def fixDecPieces (x : Ctx) (src : List Byte) : Pieces :=
  let (cin, pout) := fixUnit x.coder x.elem
  let one (u : List Byte) : Pieces :=
    let bs := fixPlain x.coder x.elem u
    bytePieces 0 (bs.take (pout - 1)) ++ bytePieces cin (bs.drop (pout - 1))
  ((units cin src).flatMap one).drop (x.bytesOut % pout)

/-- A fixed-ratio encode: its blocks (R268, R270). A unit's source is used up with its last block. -/
def fixEncPieces (x : Ctx) (src : List Byte) : Pieces :=
  let (cin, pin) := fixUnit x.coder x.elem
  let blocks (u : List Byte) : List (List Byte) :=
    if x.elem = 2 then [priorEncode u] else fixTileEncode x.coder x.elem u
  let one (u : List Byte) : Pieces :=
    let bs := blocks u
    (bs.take (bs.length - 1)).map (fun b => (b, 0)) ++ (bs.drop (bs.length - 1)).map fun b => (b, pin)
  let done := x.bytesOut % cin / (if x.elem = 2 then 6 else (fixFmt x.coder).coded)
  ((units pin src).flatMap one).drop done

/-- The symbols of a lossless encode: the pending one first (R275, R278). -/
def encPieces (x : Ctx) (d : List Byte) : Pieces :=
  let n := x.pendLit + x.pendMatchLen
  let syms := if n = 0 then encSymbols x.history d
    else (x.pendLit, x.pendMatchLen, x.pendMatchOff) ::
      encSymbols ((d.take n).reverse ++ x.history) (d.drop n)
  symList d syms

/-- A lossless encode (R271, R273, R275): header, symbols and end token, or the raw fallback. An empty source gives header and
end token (R277). A raw stream whose header found no room yet still has it before it (R278). -/
def lossEncPieces (p : CtnJobP) (x : Ctx) (src : List Byte) : Pieces × Bool :=
  let d := if x.pred then predict x.predLast src else src
  let head : Pieces := if x.headerDone then [] else [(lzHeader false x.pred 0, 0)]
  let body := encPieces x d
  let tail : Pieces := if jobLast p then [([0], 0)] else []
  let toks := ((body ++ tail).map fun c => c.1.length).sum
  if x.raw then ((if x.headerDone then [] else [(lzHeader true false src.length, 0)]) ++ bytePieces 1 src, true)
  else if jobFirst p && jobLast p && !src.isEmpty && decide (src.length < toks) then
    ((lzHeader true false src.length, 0) :: bytePieces 1 src, true)
  else (head ++ body ++ tail, false)

/-- The pending symbol of a suspended encode, counted from its pieces: the first of the symbols left. -/
def pendSym (d : List Byte) (x : Ctx) (used : Nat) : Nat × Nat × Nat :=
  let n := x.pendLit + x.pendMatchLen
  let syms := if n = 0 then encSymbols x.history d
    else (x.pendLit, x.pendMatchLen, x.pendMatchOff) ::
      encSymbols ((d.take n).reverse ++ x.history) (d.drop n)
  let rec go : Nat → List (Nat × Nat × Nat) → Nat × Nat × Nat
    | _, [] => (0, 0, 0)
    | k, (l, m, o) :: r => if k < l + m then (l, m, o) else go (k - (l + m)) r
  go used syms

/-! ### The end of a job (R277, R278) -/

/-- The job of a context completes with its detail word: source bytes used, output bytes made (R278). -/
def jobFinish (c : Nat) (st : Status) (state : CtxState) (used made : Nat) (s : State) : State :=
  let x := ctxOf s c
  match x.job with
  | none => s
  | some (h, _) =>
    let s1 := modCtx c (fun x => { x with
      state := state, job := none, lastStatus := statusCode st, bytesIn := x.bytesIn + used,
      bytesOut := x.bytesOut + made, srcNext := x.srcNext + used, srcLeft := x.srcLeft - used }) s
    let n := s1.ctn
    let n1 := { n with
      jobCount := satAdd 32 n.jobCount 1
      suspendCount := if st == .noResource then satAdd 32 n.suspendCount 1 else n.suspendCount }
    complete (jobOp x.dir) h st (put used 0 ||| put made 32) { s1 with ctn := n1 }

/-- How a run ends the job: status and the context's state. `short` says that the input ended in mid-stream under
LAST (R274, R278). -/
def jobVerdict (how : JobEnd) (short closed retried : Bool) : Status × CtxState :=
  match how with
  | .noEntry => (.noResource, .suspended)
  | .entryBad st => (st, .suspended)
  | .failed => (.integrity, .error)
  | .done | .input =>
    if short then (.integrity, .error)
    else (if retried then .okRetried else .ok, if closed then .idle else .open_)

/-- The flags a status leaves (R281). -/
def jobErrs (st : Status) (s : State) : State :=
  match st with
  | .integrity => ctnErr 2 s
  | .access => ctnErr 3 s
  | .fence => ctnErr 3 s
  | .uncorrectable => ctnErr 1 s
  | _ => s

/-- A fixed-ratio job or an encode runs over its pieces. -/
def runPieces (c m : Nat) (p : CtnJobP) (env : MemEnv) (x : Ctx) (src : List Byte) (retried : Bool) (s : State) : State :=
  let loss := decide (x.coder = 1)
  let d := if loss && x.pred then predict x.predLast src else src
  let (ps, raw) := if loss then lossEncPieces p x src
    else if x.dir then (fixDecPieces x src, false) else (fixEncPieces x src, false)
  let s0 := if raw && !x.raw then { s with ctn := { s.ctn with rawCount := satAdd 32 s.ctn.rawCount 1 } } else s
  let (j, s1) := chainRun m p (loss && !x.dir) false env.write (p.chainCount.toNat + 2) 0 ⟨.pieces ps, 0, 0, [], .done, env.reads⟩ s0
  let (l, ml, o) := if loss && !raw && j.how != .done then pendSym d x j.used else (0, 0, 0)
  let s2 := modCtx c (fun y => { y with
    raw := raw, headerDone := y.headerDone || decide (0 < j.made), pendLit := l, pendMatchLen := ml, pendMatchOff := o,
    history := if loss then ((d.take j.used).reverse ++ y.history).take 32768 else y.history,
    predLast := if loss then lastFour y.predLast (src.take j.used) else y.predLast }) s1
  let (st, state) := jobVerdict j.how false (jobLast p) retried
  jobFinish c st state j.used j.made (jobErrs st s2)

/-- A raw stream decoded: `x.pendLit` bytes of it are left (R271). -/
def runRaw (c m : Nat) (p : CtnJobP) (env : MemEnv) (left head : Nat) (src : List Byte) (retried : Bool) (s : State) : State :=
  let (j, s1) := chainRun m p false false env.write (p.chainCount.toNat + 2) 0
    ⟨.pieces (bytePieces 1 (src.take left)), 0, 0, [], .done, env.reads⟩ s
  let rest := left - j.used
  let (st, state) := jobVerdict j.how (jobLast p && decide (rest ≠ 0)) (jobLast p) retried
  jobFinish c st state (head + j.used) j.made (jobErrs st (modCtx c (fun y => { y with stage := 2, pendLit := rest }) s1))

/-- A token stream decoded (R272, R273). Behind its end token nothing is left of it: later bytes are ignored (R271). -/
def runTokens (c m : Nat) (p : CtnJobP) (env : MemEnv) (head : Nat) (src : List Byte) (retried : Bool) (s : State) : State :=
  let x := ctxOf s c
  let lz : Lz := ⟨x.stage, x.pendLit, x.pendMatchLen, x.pendMatchOff, x.history⟩
  let (j, s1) := chainRun m p false x.pred env.write (p.chainCount.toNat + 2) 0 ⟨.lz lz src, 0, 0, x.predLast, .done, env.reads⟩ s
  let st2 : Lz := match j.eng with | .lz l _ => l | _ => lz
  let ended := j.how == .done
  let (st, state) := jobVerdict j.how (jobLast p && !ended) (jobLast p) retried
  jobFinish c st state (head + j.used) j.made (jobErrs st (modCtx c (fun y => { y with
    raw := ended, stage := if ended then 2 else st2.stage, pendLit := if ended then 0 else st2.lit, pendMatchLen := st2.mlen, pendMatchOff := st2.moff, history := st2.hist,
    predLast := j.last }) s1))

/-- A lossless decode: the header, when it has not been taken, and the stream behind it (R271, R274). -/
def runDecode (c m : Nat) (p : CtnJobP) (env : MemEnv) (x : Ctx) (src : List Byte) (retried : Bool) (s : State) : State :=
  if x.headerDone then
    if x.raw then runRaw c m p env x.pendLit 0 src retried s else runTokens c m p env 0 src retried s
  else if src.length < 8 then
    let (st, state) := jobVerdict .done (jobLast p) false retried
    jobFinish c st state 0 0 (jobErrs st s)
  else if !lzHeaderOk (src.take 8) then jobFinish c .integrity .error 0 0 (jobErrs .integrity s)
  else
    let fl := leAt src 1 1
    let raw := decide (fl % 2 = 1)
    let s1 := modCtx c (fun y => { y with headerDone := true, raw := raw, pred := decide (fl / 2 = 1) }) s
    if raw then runRaw c m p env (leAt src 4 4) 8 (src.drop 8) retried s1 else runTokens c m p env 8 (src.drop 8) retried s1

/-- A job reads its source, fills its chain and completes (R277, R278). -/
def jobRun (c m : Nat) (p : CtnJobP) (env : MemEnv) (s : State) : State :=
  let x := ctxOf s c
  let s0 := if jobSrcSpm p || jobDstSpm p then spmBusy env.busy s else s
  match jobRead m (jobSrcSpm p) x.srcNext x.srcLeft env.reads s0 with
  | (some st, _, s1) => jobFinish c st .error 0 0 (jobErrs st s1)
  | (none, r, s1) =>
    let env1 := { env with reads := env.reads.drop (unitsOf (jobSrcSpm p) x.srcNext x.srcLeft) }
    if r.poison then jobFinish c .uncorrectable .error 0 0 (jobErrs .uncorrectable s1)
    else if x.dir && x.coder == 1 then runDecode c m p env1 x r.bytes r.retried s1
    else runPieces c m p env1 x r.bytes r.retried s1

/-- CTN_JOB_END: the job of a RUNNING context has run, its DRAM traffic through port 9 (R250, R267). -/
def jobEndEvent (c : Nat) (env : MemEnv) (s : State) : State :=
  let x := ctxOf s c
  match x.state, x.job with
  | .running, some (_, p, m) =>
    let dram := (if jobSrcSpm p then 0 else flits x.srcNext x.srcLeft) + if jobDstSpm p then 0 else 1
    regBulk 9 dram (jobRun c m p env) s
  | _, _ => s

/-! ### Saving and restoring a context (R279) -/

/-- The code of a context state (R279, R281). -/
def ctxCode : CtxState → Nat | .idle => 0 | .open_ => 1 | .running => 2 | .suspended => 3 | .error => 4

/-- The context a code names; none for a code no image may hold. -/
def ctxState : Nat → Option CtxState
  | 0 => some .idle | 1 => some .open_ | 3 => some .suspended | 4 => some .error | _ => none

/-- PEND_MATCH_OFF of a context image. The image has no field that says that what is left of a stream is raw bytes: an offset
of 1 without a match length says so, which no token stream has in literals and no encoder's pending symbol without any
(DESIGN CHOICE, log entry 154). -/
def imageOff (x : Ctx) : Nat := if x.raw then 1 else x.pendMatchOff

/-- An image tells of raw bytes (log entry 154). -/
def imageRaw (b : List Byte) : Bool :=
  leAt b 28 2 == 1 && leAt b 24 4 == 0 && (if bitOf (byteAt b 8) 1 then leAt b 9 1 == 2 else leAt b 20 4 == 0)

/-- Bytes 0 to 251 of a context image (R279). -/
def ctxHead (x : Ctx) : List Byte :=
  ascii "CTNX" ++ [1] ++ leBytes 1 (ctxCode x.state) ++ leBytes 1 x.coder ++ leBytes 1 x.elem ++
    leBytes 1 (b2n x.pred + 2 * b2n x.dir + 4 * b2n x.headerDone) ++ leBytes 1 x.stage ++ fill 2 0 ++
    leBytes 4 x.history.length ++ leBytes 4 (x.history.length % 32768) ++ leBytes 4 x.pendLit ++
    leBytes 4 x.pendMatchLen ++ leBytes 2 (imageOff x) ++ fill 2 0 ++ fit 4 x.predLast ++
    leBytes 8 x.srcNext ++ leBytes 4 x.srcLeft ++ fill 16 0 ++ leBytes 8 x.bytesIn ++ leBytes 8 x.bytesOut ++
    fill 172 0

/-- The image of a context (R279): the history ring starts at its oldest byte. -/
def ctxImage (x : Ctx) : List Byte :=
  let head := ctxHead x
  let ring := fit 32768 x.history.reverse
  head ++ leBytes 4 (crc32c (head ++ ring)).toNat ++ ring

/-- The history of a ring of `len` bytes that ends before index `head`, newest byte first. -/
def ringHistory (ring : List Byte) (len head : Nat) : List Byte :=
  (ring.drop head ++ ring.take head).reverse.take len

/-- Every field of an image lies in its range, and MAGIC, VERSION and CTX_CRC check (R279). -/
def imageOk (b : List Byte) : Bool :=
  let coder := leAt b 6 1
  slice b 0 4 == ascii "CTNX" && byteAt b 4 == 1 && (ctxState (leAt b 5 1)).isSome &&
    decide (coder ≤ 4 ∧ (coder = 0 → leAt b 5 1 = 0 ∨ leAt b 5 1 = 4)) &&
    decide (coder ≤ 1 ∨ leAt b 7 1 < 2 ∨ (leAt b 7 1 = 2 ∧ coder = 2)) && decide (leAt b 8 1 < 8 ∧ leAt b 9 1 ≤ 5) && zeroBytes b 10 12 &&
    decide (leAt b 12 4 ≤ 32768 ∧ leAt b 16 4 < 32768 ∧ leAt b 28 2 ≤ 32768) && zeroBytes b 30 32 &&
    decide (leAt b 44 4 ≤ jobMax) && zeroBytes b 48 64 && zeroBytes b 80 252 &&
    leAt b 252 4 == (crc32c (b.take 252 ++ b.drop 256)).toNat

/-- The context an image describes (R279). -/
def imageCtx (b : List Byte) : Ctx :=
  { state := (ctxState (leAt b 5 1)).getD .idle, coder := leAt b 6 1, elem := leAt b 7 1,
    pred := bitOf (byteAt b 8) 0, dir := bitOf (byteAt b 8) 1, headerDone := bitOf (byteAt b 8) 2,
    stage := leAt b 9 1, pendLit := leAt b 20 4, pendMatchLen := leAt b 24 4, pendMatchOff := leAt b 28 2,
    predLast := slice b 32 4, srcNext := leAt b 36 8, srcLeft := leAt b 44 4, bytesIn := leAt b 64 8,
    bytesOut := leAt b 72 8, raw := imageRaw b, history := ringHistory (b.drop 256) (leAt b 12 4) (leAt b 16 4) }

/-- CTN_SAVE_STATE and CTN_RESTORE_STATE: the checks both share, then `go`, through port 9 (R250, R279). The job engine serves
both (R267), so JOB_EN = 0 refuses them (R281). -/
def ctxCommand (op : Byte) (h : Hdr) (p : CtnStateP) (go : State → State) (s : State) : State :=
  let fin (st : Status) : State := complete op h st 0 s
  if !bitOf s.ctn.ctrl 0 then fin .unsupported
  else if p.length == 0 then fin .ok
  else if p.length != 33024 then fin .lengthRange
  else if !spaceOk s false (p.addr.toNat, p.addr.toNat + 33024) then fin .lengthRange
  else if 64 ≤ p.ctx.toNat ∨ p.addr.toNat % 64 ≠ 0 ∨ p.rsvd then fin .badParam
  else if (ctxOf s p.ctx.toNat).state == .running then fin .busy
  else regBulk 9 (flits p.addr.toNat 33024) go s

/-- CTN_SAVE_STATE (R279). -/
def doCtxSave (h : Hdr) (p : CtnStateP) (s : State) : State :=
  ctxCommand 0x62 h p (fun s =>
    match trnAccess 0 (srcMaster s h.src) .w p.addr.toNat 33024 s with
    | (some st, s1) => complete 0x62 h st 0 (ctnErr 3 s1)
    | (none, s1) => complete 0x62 h .ok 0 (dramStore 9 p.addr.toNat (ctxImage (ctxOf s1 p.ctx.toNat)) s1)) s

/-- CTN_RESTORE_STATE (R279). -/
def doCtxRestore (h : Hdr) (p : CtnStateP) (s : State) : State :=
  ctxCommand 0x63 h p (fun s =>
    match jobRead (srcMaster s h.src) false p.addr.toNat 33024 [] s with
    | (some st, _, s1) => complete 0x63 h st 0 (ctnErr 3 s1)
    | (none, r, s1) =>
      if r.poison then complete 0x63 h .uncorrectable 0 (ctnErr 1 s1)
      else if !imageOk r.bytes then complete 0x63 h .integrity 0 (ctnErr 4 s1)
      else complete 0x63 h .ok 0 (modCtx p.ctx.toNat
        (fun x => { imageCtx r.bytes with lastStatus := x.lastStatus }) s1)) s

end Sys2Proof.Machine
end

