-- ==== Sys2Proof/Machine/Trz.lean ====
section
/-! DEFINITION. Receiving and training on the Trapeze: link states, lanes, frame checks, replay, routes, gateway,
authentication and MESH_SEND (R294 to R305, R311 to R315). -/

namespace Sys2Proof.Machine

/-- TRZ_CTRL.AUTH_REQ of a port (R323). -/
def authReq (s : State) (p : Nat) : Bool := bitOf s.trz.ctrl (8 + p)

/-- A port may train: EN, a valid ID, not MISWIRED, and its unit not in TEST, where PRBS runs on every lane and no frames
(R296, R299). -/
def meshEnabled (s : State) (p : Nat) : Bool :=
  bitOf s.trz.ctrl 0 && trzValid s && !(meshPort s p).miswired && (unitOf s 4 p).state != .test

/-- The unit of a port that is no longer ACTIVE becomes OFFLINE (R296, R468). -/
def meshOffline (p cause : Nat) (s : State) : State :=
  if unitUp (unitOf s 4 p) then unitTo 4 p .offline cause s else s

/-- The unit of a port that has become ACTIVE (R296): ONLINE at w = 15, DEGRADED at w = 7. -/
def meshOnline (p : Nat) (s : State) : State :=
  let w := (meshPort s p).w
  match (unitOf s 4 p).state with
  | .offline => unitTo 4 p (if w = 15 then .online else .degraded) 0 s
  | .online => if w = 15 then s else unitTo 4 p .degraded 6 s
  | _ => s

/-! ### Training (R194 to R196, R295 to R298) -/

/-- The training set a port sends on a lane (R194, R296). -/
def meshTs (s : State) (kind p lane flags : Nat) : List Byte :=
  let m := meshPort s p
  let b := leBytes 1 kind ++ leBytes 1 lane ++ leBytes 1 p ++ leBytes 1 flags ++ leBytes 1 m.pre ++ leBytes 1 m.post ++
    leBytes 1 (fld m.firIn 26 24) ++ leBytes 2 (trzId s) ++ leBytes 2 m.bad.toNat ++ fill 4 0
  b ++ leBytes 1 (b.map (·.toNat)).sum

/-- A port sends a training set on every lane that is not in BAD. -/
def meshSendTs (p kind flags : Nat) (s : State) : State :=
  eachNat (fun l s => if bitOf (meshPort s p).bad l then s else emit (.meshTs p (block130 false (meshTs s kind p l flags))) s)
    (List.range 16) s

/-- A port goes on to TS2: sixteen on each lane (R195, R296). -/
def meshConfig (p : Nat) (s : State) : State :=
  eachNat (fun _ s => modMesh p (fun m => { m with ts2Tx := m.ts2Tx + 1 }) (meshSendTs p 0x2D 0 s)) (List.range 16)
    (modMesh p (fun m => { m with cfg := true }) s)

/-- A training begins on a port, with TRZ_PORT_FIR as it stands; what is unacknowledged goes out again behind it (R190,
R295, R296, R305). -/
def meshTrain (p : Nat) (link : MeshLink) (s : State) : State :=
  meshSendTs p 0x1E 0 (modMesh p (fun m => { m with
    link := link, firIn := m.fir, pre := (firStart m.fir).1, post := (firStart m.fir).2, eqReqs := 0, eqOk := 0, cfg := false,
    ts2Rx := 0, ts2Tx := 0, peerBad := 0, session := none, ownNonce := [], peerNonce := [], laneOver := [],
    again := !m.replay.isEmpty }) s)

/-- A port starts from DISABLED: sequence numbers, credits and buffers as new. -/
def meshStart (p : Nat) (s : State) : State :=
  meshTrain p .training (modMesh p (fun m => { m with
    fails := 0, txSeq := 0, rxSeq := 0, rxNak := false, replay := [], naked := none, waiting := [], credits := [],
    linkOwed := 0, unacked := 0 }) s)

/-- Every port that may train and is DISABLED starts (R296). -/
def meshStartAll (s : State) : State :=
  eachNat (fun p s => if meshEnabled s p && (meshPort s p).link == .disabled then meshStart p s else s)
    (List.range 6) s

/-- A port is DISABLED. -/
def meshDisable (p cause : Nat) (s : State) : State :=
  meshOffline p cause (modMesh p (fun m => { m with
    link := .disabled, session := none, retrying := false, waiting := [], replay := [] }) s)

/-- TRZ_CTRL written (R296, R323). -/
def trzCtrlWrite (v : W32) (s : State) : State :=
  let s1 := { s with trz := { s.trz with ctrl := v &&& 0x3F01 } }
  if bitOf v 0 then meshStartAll s1 else eachNat (fun p => meshDisable p 7) (List.range 6) s1

/-- The peer is not the one TRZ_PORT_EXPECT names: MISWIRED (R296). -/
def meshMiswire (p : Nat) (s : State) : State :=
  trzErr 5 (meshDisable p 8 (modMesh p (fun m => { m with miswired := true }) s))

/-- The peer's ID is one the port may train with (R296). -/
def meshExpects (m : MeshPort) (peer : Nat) : Bool := !bitOf m.expect 31 || fld m.expect 13 0 == peer

/-- A port is in a training. -/
def meshTraining (m : MeshPort) : Bool := m.link == .training || m.link == .retrain || (m.link == .failed && m.retrying)

/-- A TS1: a request for coefficients is applied or refused, and eight in a row without REQ end the phase (R195, R196). -/
def meshTs1 (p : Nat) (ts : List Byte) (s : State) : State :=
  let m := meshPort s p
  let req := bitOf (byteAt ts 3) 0
  let want := if bitOf (byteAt ts 3) 2 then presetFir (fld (byteAt ts 6) 2 0)
    else (fld (byteAt ts 4) 3 0, fld (byteAt ts 5) 4 0)
  let n := if req then 0 else m.eqOk + 1
  let s1 := modMesh p (fun m => { m with eqOk := n }) s
  let s2 := if !(req || bitOf (byteAt ts 3) 2) then s1
    else if firOk want.1 want.2 && !bitOf m.firIn 31 && decide (m.eqReqs < 32) then
      meshSendTs p 0x1E 0 (modMesh p (fun m => { m with pre := want.1, post := want.2, eqReqs := m.eqReqs + 1 }) s1)
    else meshSendTs p 0x1E 2 s1
  if 8 ≤ n then meshConfig p s2 else s2

/-- TRZ_TS_RX: a training set that checks: the peer's identity and BAD map, and what its phase makes of it (R194 to R196,
R296). -/
def meshTsRx (p : Nat) (ts : List Byte) (s : State) : State :=
  let m := meshPort s p
  if !meshTraining m || !tsCheck ts || !(byteAt ts 0 == 0x1E || byteAt ts 0 == 0x2D) then s
  else
    let peer := leAt ts 7 2
    if !meshExpects m peer then meshMiswire p s
    else
      let s1 := modMesh p (fun m => { m with
        peer := peer % 16384, peerPort := fld (byteAt ts 2) 2 0, peerBad := m.peerBad ||| BitVec.ofNat 16 (leAt ts 9 2) }) s
      if byteAt ts 0 == 0x1E then (if m.cfg then s1 else meshTs1 p ts s1)
      else if m.cfg then modMesh p (fun m => { m with ts2Rx := m.ts2Rx + 1 }) s1
      else s1

/-- The lowest `w` lanes that are good. -/
def goodLanes (bad : BitVec 16) (w : Nat) : BitVec 16 :=
  (((List.range 16).filter fun l => !bitOf bad l).take w).foldl setBit 0

/-- The lanes in use for a BAD map (R298): 15, 7 or none. -/
def meshWidth (bad : BitVec 16) : Nat :=
  let good := countBelow 16 fun l => !bitOf bad l
  if 15 ≤ good then 15 else if 7 ≤ good then 7 else 0

/-- A nonce: 32 bytes the manual calls random (R312). -/
def drawNonce (s : State) : List Byte × State :=
  let (a, s1) := drawFree s
  let (b, s2) := drawFree s1
  let (c, s3) := drawFree s2
  let (d, s4) := drawFree s3
  (leBytes 8 a.toNat ++ leBytes 8 b.toNat ++ leBytes 8 c.toNat ++ leBytes 8 d.toNat, s4)

/-- A port sends HELLO with a nonce (R312). -/
def sendHello (p : Nat) (nonce : List Byte) (s : State) : State :=
  meshSendFrame p 2 kHello [trzId s] nonce (modMesh p (fun m => { m with ownNonce := nonce, peerNonce := [] }) s)

/-- A port enters AUTH: the handshake begins with its HELLO (R312). -/
def meshAuth (p : Nat) (s : State) : State :=
  let (nonce, s1) := drawNonce s
  sendHello p nonce (modMesh p (fun m => { m with link := .auth, session := none }) s1)

/-- The unacknowledged frames are sent again, each stamped anew (R305, R318). -/
def meshReplay (p lseq : Nat) (s : State) : State :=
  ((meshPort s p).replay.dropWhile fun f => f.lseq != lseq).foldl (fun s f => meshDepart p f s) s

/-- Frames that leave again in a new session take its counters, those of a handshake none (R313). -/
def meshRenumber (authed : Bool) : Nat → List MeshFrame → List MeshFrame × Nat
  | n, [] => ([], n)
  | n, f :: t =>
    let counted := authed && f.cls != 2
    let r := meshRenumber authed (if counted then n + 1 else n) t
    ({ f with ctr := if counted then n else 0 } :: r.1, r.2)

/-- A port becomes ACTIVE: what stood unacknowledged before its training goes out again, then what waits (R296, R298,
R305). -/
def meshUp (p : Nat) (s : State) : State :=
  let s1 := meshOnline p (modMesh p (fun m => { m with link := .active }) s)
  let m := meshPort s1 p
  let r := meshRenumber m.session.isSome m.txCtr m.replay
  let s2 := match m.again, m.replay with
    | true, f :: _ => meshReplay p f.lseq (modMesh p (fun m => { m with replay := r.1, txCtr := r.2 }) s1)
    | _, _ => s1
  meshPump p (modMesh p (fun m => { m with again := false }) s2)

/-- Core 0 commits BAD after the retraining of a lane bring-in and logs each lane (R298 step 3). A retraining that fails
twice leaves the commit to the next one that passes (DESIGN CHOICE, log entry 158). -/
def laneCommit (p : Nat) (lanes : List Nat) (s : State) : State :=
  lanes.foldl (fun s l => log .trzLaneSpared [p, l] s)
    (commitMap (meshPort s p).commitOk (modMesh p (fun m => { m with sparing := [] }) s))

/-- The data stream of a port begins: SDS on every active lane, and each lane's scrambler at its start (R193, R195,
R295). -/
def meshSds (p : Nat) (s : State) : State :=
  emit (.meshSet p (setBlock 0xE1)) (modMesh p (fun m => { m with
    part := [], lfsr := ((List.range 16).filter fun l => bitOf m.active l).map lfsrStart }) s)

/-- Lanes that failed their check in a training are lasting faults (R297). -/
def lanesFailed (p : Nat) (lanes : List Nat) (s : State) : State :=
  eachNat (fun _ s => unitLasting 4 p (trzErr 6 s)) lanes s

/-- TRZ_TRAIN_DONE: sixteen TS2 have come after sixteen sent (R195). The lanes used are those in neither BAD map that passed
this training. A lane that failed it joins BAD in a lane bring-in, and otherwise is a lasting fault (R295 to R298). -/
def meshTrained (p : Nat) (t : MeshTrain) (s : State) : State :=
  let m := meshPort s p
  if !meshTraining m || decide (m.ts2Rx < 16 ∨ m.ts2Tx < 16) then s
  else if !meshExpects m t.peer then meshMiswire p s
  else
    let lost := (t.failed.filter fun l => decide (l < 16) && !bitOf m.bad l).eraseDups
    let peerBad := m.peerBad ||| t.bad
    let out := lost.foldl setBit (m.bad ||| peerBad)
    let w := meshWidth out
    let s1 := modMesh p (fun m => { m with
      peer := t.peer % 16384, peerPort := t.peerPort % 8, peerBad := peerBad, w := w, active := goodLanes out w,
      retrying := false, rxNak := false, naked := none }) s
    let s2 := if m.sparing.isEmpty then s1
      else laneCommit p (m.sparing ++ lost) (modMesh p (fun m => { m with bad := lost.foldl setBit m.bad }) s1)
    if w = 0 then meshOffline p 6 (modMesh p (fun m => { m with link := .failed }) s2)
    else
      let s3 := meshSds p (modMesh p (fun m => { m with fails := 0 }) s2)
      let s4 := if authReq s3 p then meshAuth p s3 else meshUp p s3
      if m.sparing.isEmpty then lanesFailed p lost s4 else s4

/-- TRZ_TRAIN_TIMEOUT: one further training, then FAILED (R296, R314). -/
def meshTrainTimeout (p : Nat) (s : State) : State :=
  let m := meshPort s p
  if !meshTraining m then s
  else if m.link == .failed then modMesh p (fun m => { m with retrying := false }) s
  else if m.fails = 0 then meshTrain p m.link (modMesh p (fun m => { m with fails := 1 }) s)
  else
    let cause := if m.link == .retrain then 3 else 1
    meshOffline p cause (modMesh p (fun m => { m with link := .failed, fails := 2 }) s)

/-- TRZ_FAILED_RETRY (R314). -/
def meshFailedRetry (p : Nat) (s : State) : State :=
  if (meshPort s p).link == .failed && meshEnabled s p then
    modMesh p (fun m => { m with retrying := true }) (meshTrain p .failed s)
  else s

/-- A port moves to RETRAIN: credits are frozen and a new handshake will follow (R296, R298, R313). -/
def meshRetrain (p : Nat) (s : State) : State :=
  match (meshPort s p).link with
  | .active | .auth => meshTrain p .retrain (modMesh p (fun m => { m with fails := 0 }) s)
  | _ => s

/-- TRZ_PORT_EXPECT written: a MISWIRED port may train again (R296). -/
def expectWrite (p : Nat) (v : W32) (s : State) : State :=
  meshStartAll (modMesh p (fun m => { m with expect := v &&& 0x80003FFF, miswired := false }) s)

/-- A write of TRZ_PORT_FIR (R190, R323). -/
def meshFirWrite (p : Nat) (v : W32) (s : State) : State :=
  if bitOf v 31 && !firOk (fld v 3 0) (fld v 12 8) then s
  else
    let w : W32 := put (fld v 3 0) 0 ||| put (fld v 12 8) 8 |||
      put (wrapN 6 (63 - (fld v 3 0 : Int) - fld v 12 8)) 16 ||| put (fld v 26 24) 24 ||| putB (bitOf v 31) 31
    modMesh p (fun m => { m with fir := w }) s

/-! ### Lanes (R297, R298) -/

/-- TRZ_LANE_WINDOW: a window over the limit is transient when the next is clean, lasting when it follows another
(R297). -/
def laneWindow (p lane bad : Nat) (s : State) : State :=
  let m := meshPort s p
  if m.link != .active || decide (16 ≤ lane) then s
  else if 16 < bad then
    if m.laneOver.contains lane then unitLasting 4 p (trzErr 6 s)
    else modMesh p (fun m => { m with laneOver := addOnce m.laneOver lane }) s
  else if m.laneOver.contains lane then
    unitTransient 4 p (modMesh p (fun m => { m with
      laneOver := m.laneOver.filter (· != lane), laneErr := satAdd 32 m.laneErr 1 }) s)
  else s

/-- TRZ_LANE_SPARE: core 0 adds the lane to BAD and moves the port to RETRAIN; the commit follows (R298, R420). -/
def laneSpare (p lane : Nat) (mramOk : Bool) (s : State) : State :=
  if !lastingTurn s 4 p || decide (16 ≤ lane) then s
  else
    meshRetrain p (modUnit 4 p (fun u => { u with gen := u.gen + 1 })
      (modMesh p (fun m => { m with bad := setBit m.bad lane, sparing := addOnce m.sparing lane, commitOk := mramOk })
        (frontPop s)))

/-- TRZ_PORT_CLEAN_WINDOW (R296). -/
def meshClean (p : Nat) (s : State) : State :=
  let m := meshPort s p
  if m.link == .active && m.w == 15 then cleanWindow 4 p s else s

/-! ### Receiving a frame (R303, R305, R313, R314) -/

/-- Header fields of a received frame (R303). -/
def frameDst (b : List Byte) : Nat := leAt b 4 2 % 16384
def frameSrc (b : List Byte) : Nat := leAt b 6 2 % 16384
def frameHops (b : List Byte) : Nat := leAt b 8 1
def frameLseq (b : List Byte) : Nat := leAt b 9 1
def frameTs (b : List Byte) : Time96 := BitVec.ofNat 96 (leAt b 12 12)

/-- HCRC and PCRC check (R303). -/
def frameCrcOk (b : List Byte) : Bool :=
  decide (48 ≤ b.length) && decide (leAt b 30 2 = (crc32c (b.take 30)).toNat % 65536) &&
    decide (leAt b (b.length - 4) 4 = (crc32c (framePayload b)).toNat)

/-- Reserved fields are 0, LEN lies in range and names the frame's length, class and type are the row's (R303, R314). LEN
counts every unit, header and tail included: 3 for an empty payload, 259 for one of 4,096 bytes, which the table's 2 to 258
does not reach (DEDUCED, log entry 159). -/
def frameFormOk (cls kind : Nat) (b : List Byte) : Bool :=
  let units := leAt b 2 2
  decide (3 ≤ units ∧ units ≤ 259 ∧ b.length = 16 * units) && decide (leAt b 0 1 = cls) &&
    byteAt b 1 == Config.meshType cls kind && decide (leAt b 4 2 < 16384) && decide (leAt b 10 1 < 2) && byteAt b 11 == 0 &&
    zeroBytes b 28 30

/-- The counter and the MAC of a frame are the session's next; frames of a handshake carry neither (R313). -/
def frameMacOk (m : MeshPort) (cls : Nat) (b : List Byte) : Bool :=
  match m.session with
  | none => true
  | some ks => cls == 2 ||
    (decide (leAt b 24 4 = (m.rxCtr + 1) % 2 ^ 32) && slice b (b.length - 16) 12 == frameMac ks (m.rxCtr + 1) b)

/-- A frame that fails is NAKed; later frames are discarded without another until the replay arrives, and a replay that
fails again is NAKed again (R305). -/
def sendNak (p lseq : Nat) (s : State) : State :=
  let m := meshPort s p
  if m.rxNak && lseq != m.rxSeq then s
  else meshSendFrame p 0 kNak [m.rxSeq] [] (modMesh p (fun m => { m with rxNak := true }) s)

/-- A frame that fails its MAC or counter (R313): counted; three in one second move the port to AUTH. -/
def macFail (p : Nat) (s : State) : State :=
  let m := meshPort s p
  let fails := mtOf s :: m.macFails.filter fun t => decide (mtOf s < t + 1000)
  let s1 := modMesh p (fun m => { m with authBad := satAdd 32 m.authBad 1, macFails := fails }) s
  if 3 ≤ fails.length then meshAuth p (meshOffline p 6 (modMesh p (fun m => { m with macFails := [] }) s1))
  else sendNak p m.rxSeq s1

/-- A malformed frame is discarded (R314). -/
def meshBad (p : Nat) (s : State) : State :=
  let m := meshPort s p
  let s1 := modMesh p (fun m => { m with badFrames := satAdd 32 m.badFrames 1, badLogged := some (mtOf s) }) s
  if m.badLogged = some (mtOf s) then s1 else log .trzBad [p] s1

/-- An ACK of everything accepted so far (R305). -/
def sendAck (p lseq : Nat) (s : State) : State :=
  meshSendFrame p 0 kAck [lseq] [] (modMesh p (fun m => { m with unacked := 0 }) s)

/-- A frame accepted by the link is acknowledged and its credit returned: at once, but for a LINK frame, whose credit goes
back with every second and whose ACK with every sixteenth (R304, R305; DESIGN CHOICE, log entry 73). -/
def meshTake (p cls : Nat) (s : State) : State :=
  let m := meshPort s p
  let s1 := modMesh p (fun m => { m with
    rxSeq := (m.rxSeq + 1) % 256, rxNak := false, unacked := m.unacked + 1,
    linkOwed := if cls = 0 then m.linkOwed + 1 else m.linkOwed
    rxCtr := if meshAuthed m cls then m.rxCtr + 1 else m.rxCtr }) s
  let s2 := if cls ≠ 0 ∨ 16 ≤ m.unacked + 1 then sendAck p m.rxSeq s1 else s1
  if cls ≠ 0 then meshSendFrame p 0 kCredit [cls, 1] [] s2
  else if 2 ≤ m.linkOwed + 1 then
    meshSendFrame p 0 kCredit [0, m.linkOwed + 1] [] (modMesh p (fun m => { m with linkOwed := 0 }) s2)
  else s2

/-- A received frame of a class and type goes through the checks of the link; `f` acts on one that passes. -/
def meshRx (p cls kind : Nat) (b : List Byte) (f : State → State) (s : State) : State :=
  let m := meshPort s p
  if !meshPasses m.link cls then s
  else if !frameCrcOk b || frameLseq b != m.rxSeq then sendNak p (frameLseq b) s
  else if !frameMacOk m cls b then macFail p s
  else if !frameFormOk cls kind b then meshBad p (meshTake p cls s)
  else f (meshTake p cls s)

/-! ### Acknowledgement and credits (R304, R305, R314) -/

/-- The frames up to the one acknowledged leave the replay buffer; one that passed on replay is a transient fault
(R305). -/
def ackTake (p lseq : Nat) (s : State) : State :=
  let m := meshPort s p
  if !(m.replay.any fun f => f.lseq == lseq) then s
  else
    let gone := m.replay.takeWhile (fun f => f.lseq != lseq)
    let left := (m.replay.dropWhile fun f => f.lseq != lseq).drop 1
    let cured := match m.naked with | some k => k == lseq || (gone.any fun f => f.lseq == k) | none => false
    let s1 := modMesh p (fun m => { m with
      replay := left, naked := if cured then none else m.naked,
      retry := if cured then satAdd 32 m.retry 1 else m.retry }) s
    meshPump p (if cured then unitTransient 4 p s1 else s1)

/-- TRZ_ACK_RX (R305). -/
def ackRx (p : Nat) (b : List Byte) (lseq : Nat) (s : State) : State := meshRx p 0 kAck b (ackTake p lseq) s

/-- The sender replays from the frame NAKed; a second NAK of it is a lasting fault (R305). -/
def nakTake (p lseq : Nat) (s : State) : State :=
  let m := meshPort s p
  if !(m.replay.any fun f => f.lseq == lseq) then s
  else if m.naked = some lseq then meshRetrain p s
  else meshReplay p lseq (modMesh p (fun m => { m with naked := some lseq }) s)

/-- TRZ_NAK_RX (R305). -/
def nakRx (p : Nat) (b : List Byte) (lseq : Nat) (s : State) : State := meshRx p 0 kNak b (nakTake p lseq) s

/-- TRZ_CREDIT_RX (R304). -/
def creditRx (p : Nat) (b : List Byte) (cls n : Nat) (s : State) : State :=
  meshRx p 0 kCredit b (fun s =>
    if 7 ≤ cls then s
    else meshPump p (modMesh p (fun m => { m with
      credits := spSet (creditDflt cls) m.credits cls (creditOf m cls + n) }) s)) s

/-- TRZ_CREDIT_STALL: no credit for 10 ms with frames waiting (R314). -/
def creditStall (p : Nat) (s : State) : State :=
  let m := meshPort s p
  if m.link == .active && !m.waiting.isEmpty then meshRetrain p s else s

/-- MESH_LOSS_OF_LOCK (R296). -/
def meshLockLost (p : Nat) (s : State) : State := if (meshPort s p).link == .active then meshRetrain p s else s

/-! ### Routing (R300) -/

/-- A routed frame is dropped (R300). -/
def meshDrop (p : Nat) (s : State) : State :=
  let m := meshPort s p
  let s1 := trzErr 4 (modMesh p (fun m => { m with drop := satAdd 32 m.drop 1, dropLogged := some (mtOf s) }) s)
  if m.dropLogged = some (mtOf s) then s1 else log .trzDrop [p] s1

/-- A routed frame that has arrived is delivered here, forwarded with its own payload and TS, or dropped (R300). -/
def meshForward (p cls kind : Nat) (b : List Byte) (words : List Nat) (bytes : List Byte) (here : State → State)
    (s : State) : State :=
  let dst := frameDst b
  let e := routeOf s dst
  if dst = trzId s ∨ e = 6 then here s
  else if frameHops b ≤ 1 ∨ 6 ≤ e ∨ !meshActive s e then meshDrop p s
  else meshQueue e ⟨cls, kind, words, bytes, framePayload b, dst, frameSrc b, frameHops b - 1, .fixed (frameTs b), 0, 0, some p⟩ s

/-- TRZ_FORWARD_TIMEOUT: the first routed frame that waits at a port has waited 1 ms (R300). -/
def forwardTimeout (p : Nat) (s : State) : State :=
  match (meshPort s p).waiting.find? fun f => decide (4 ≤ f.cls) with
  | none => s
  | some f =>
    let s1 := modMesh p (fun m => { m with waiting := m.waiting.erase f }) s
    match f.arrival with
    | some a => meshDrop a s1
    | none => s1

/-! ### Authentication (R312) -/

/-- The link key; before one is installed, and after a wipe, zeros (R312, R266). -/
def linkKey (s : State) : List Byte := leBytes 48 (s.trz.key.getD 0).toNat

/-- PROOF of one side over the other (R312). -/
def proofOf (s : State) (own peer : Nat) (ownNonce peerNonce : List Byte) : List Byte :=
  hmac384 (linkKey s) (ascii "TRZA" ++ leBytes 2 own ++ leBytes 2 peer ++ ownNonce ++ peerNonce)

/-- The session key (R312). -/
def sessionOf (s : State) (m : MeshPort) : BitVec 384 :=
  let (a, b) := if trzId s ≤ m.peer then (m.ownNonce, m.peerNonce) else (m.peerNonce, m.ownNonce)
  BitVec.ofNat 384 (leNat (hmac384 (linkKey s) (ascii "TRZS" ++ a ++ b)))

/-- A failed handshake (R312): AUTH_FAIL, and at most one log entry per port and second. -/
def authFail (p : Nat) (s : State) : State :=
  let m := meshPort s p
  let quiet := match m.authLogged with | some t => decide (mtOf s < t + 1000) | none => false
  let s1 := trzErr 2 (meshOffline p 6 (modMesh p (fun m => { m with link := .authFail, session := none }) s))
  if quiet then s1 else log .trzAuthFail [p] (modMesh p (fun m => { m with authLogged := some (mtOf s) }) s1)

/-- TRZ_HELLO_RX: HELLO is answered with PROOF, and first with this side's own where that has not been sent in this
handshake: a HELLO behind one already taken begins another (R312). -/
def helloRx (p : Nat) (b : List Byte) (peer : Nat) (nonce ownNonce : List Byte) (s : State) : State :=
  meshRx p 2 kHello b (fun s =>
    let fresh := (meshPort s p).ownNonce.isEmpty || !(meshPort s p).peerNonce.isEmpty
    let s1 := if fresh then sendHello p ownNonce s else s
    let s2 := modMesh p (fun m => { m with peer := peer % 16384, peerNonce := nonce }) s1
    let m := meshPort s2 p
    meshSendFrame p 2 kProof [] (proofOf s2 (trzId s2) m.peer m.ownNonce m.peerNonce) s2) s

/-- TRZ_PROOF_RX (R312, R313). -/
def proofRx (p : Nat) (b proof : List Byte) (s : State) : State :=
  meshRx p 2 kProof b (fun s =>
    let m := meshPort s p
    if m.ownNonce.isEmpty || m.peerNonce.isEmpty then s
    else if proof != proofOf s m.peer (trzId s) m.peerNonce m.ownNonce then authFail p s
    else
      let ks := sessionOf s m
      let s1 := modMesh p (fun m => { m with session := some ks, txCtr := 1, rxCtr := 0, macFails := [] }) s
      if m.link == .auth || m.link == .authFail then meshUp p s1 else s1) s

/-- TRZ_AUTH_TIMEOUT (R312). -/
def authTimeout (p : Nat) (s : State) : State := if (meshPort s p).link == .auth then authFail p s else s

/-- TRZ_AUTH_RETRY: the handshake of an AUTH_FAIL port runs again (R296). -/
def authRetry (p : Nat) (nonce : List Byte) (s : State) : State :=
  if (meshPort s p).link == .authFail then sendHello p nonce s else s

/-! ### Halo frames (R307, R311) -/

/-- TRZ_HALO_FRAGMENT_RX (R309, R311). -/
def halofragRx (p : Nat) (b : List Byte) (s : State) : State :=
  meshRx p 3 kFragment b (haloFragment p (timeQ (frameTs b)) (framePayload b)) s

/-- TRZ_HALO_CANCEL_RX (R307). -/
def halocancelRx (p : Nat) (b : List Byte) (target : Time96) (s : State) : State :=
  meshRx p 3 kCancel b (cancelStrips p (timeQ target)) s

/-! ### Gateway and user messages (R301, R302, R315) -/

/-- The number of this device's next mesh request. -/
def nextMeshId (s : State) : Nat × State := (s.trz.nextId, { s with trz := { s.trz with nextId := s.trz.nextId + 1 } })

/-- The status a code of a completion names (R335). -/
def statusOf (n : Nat) : Status :=
  let all : List Status := [.okRetried, .queued, .busy, .stale, .lengthRange, .access, .unsupported, .badParam, .budget,
    .late, .fence, .timeout, .uncorrectable, .degraded, .aborted, .auth, .integrity, .noResource]
  (all.find? fun x => statusCode x == n).getD .ok

/-- MGMT commands are accepted from a gateway ID (R302). -/
def gwAccepted (s : State) (id : Nat) : Bool :=
  let ok (w : W32) : Bool := bitOf w 31 && fld w 13 0 == id
  ok s.trz.accept0 || ok s.trz.accept1

/-- A remote completion returns to the command that was sent (R301); a later one is discarded. -/
def gwCompletion (id : Nat) (status : Byte) (detail : W64) (s : State) : State :=
  match s.trz.gwOut.find? fun g => g.1 == id with
  | none => s
  | some (_, h, op) =>
    if status = 0x02 then deliver h (mkCpl h op .queued true detail s) [] s
    else complete op h (statusOf status.toNat) detail
      { s with trz := { s.trz with gwOut := s.trz.gwOut.filter fun g => g.1 != id } }

/-- TRZ_GW_TIMEOUT (R301). -/
def gwTimeout (id : Nat) (s : State) : State :=
  match s.trz.gwOut.find? fun g => g.1 == id with
  | none => s
  | some (_, h, op) =>
    complete op h .timeout 0 { s with trz := { s.trz with gwOut := s.trz.gwOut.filter fun g => g.1 != id } }

/-- Bytes cut into pieces of at most 4,096, the most a frame carries (R303). -/
def meshPieces : Nat → List Byte → List (List Byte)
  | 0, _ => []
  | n + 1, bs => if bs.length ≤ 4096 then [bs] else bs.take 4096 :: meshPieces n (bs.drop 4096)

/-- Bytes leave for another device in as many routed frames as they need, each with the offset of its piece (R301, R303). -/
def routePieces (dst cls kind : Nat) (words : List Nat) (bs : List Byte) (s : State) : State :=
  ((meshPieces (bs.length / 4096 + 1) bs).foldl
    (fun x piece => (x.1 + 4096, meshRoute dst cls kind (words ++ [x.1]) piece x.2)) (0, s)).2

/-- A command of a queue bound to a remote ID goes out in MGMT frames (R301). -/
def gwSend (h : Hdr) (op : Byte) (dst : Nat) (packet : List Byte) (s : State) : State :=
  let (id, s1) := nextMeshId s
  routePieces dst 4 kCommand [id] packet { s1 with trz := { s1.trz with gwOut := s1.trz.gwOut ++ [(id, h, op)] } }

/-- The port whose link is up, for a gateway's reads (R301). -/
def hostLink (s : State) : Option Port :=
  if s.hq.ha.linkUp then some .ha else if s.hq.hb.linkUp then some .hb else none

/-- A requester's window holds a range (R301). -/
def gwWindow (s : State) (id addr len : Nat) : Bool :=
  match gwEntry s id with
  | none => false
  | some i =>
    let g := spGet ({} : Gateway) s.trz.gws i
    decide (g.base.toNat ≤ addr ∧ addr + len ≤ g.limit.toNat + 1)

/-- TRZ_DATA_REQUEST_RX: a gateway's answer to a remote read (R301). -/
def dataRequest (p : Nat) (b : List Byte) (id addr len : Nat) (ans : HostAns) (s : State) : State :=
  meshRx p 5 kRequest b (meshForward p 5 kRequest b [id, addr, len] [] fun s =>
    let src := frameSrc b
    let answer (st : Status) (bytes : List Byte) (s : State) : State :=
      routePieces src 5 kResponse [id, statusCode st] bytes s
    match hostLink s with
    | none => s
    | some port =>
      if !gwWindow s src addr len then answer .access [] s
      else
        let s1 := emit (.hostRead port addr len) s
        match ans with
        | .data bs => answer .ok bs s1
        | .refused => answer .access [] s1
        | .poisoned => answer .uncorrectable [] s1) s

/-- The frames an answer of the host makes (R302). -/
def ansWords (ans : HostAns) : Nat × List Byte :=
  match ans with
  | .data bs => (statusCode .ok, bs)
  | .refused => (statusCode .access, [])
  | .poisoned => (statusCode .uncorrectable, [])

/-- The scratchpad address of a slot of TRZ_RX_RING (R315): 4,096 bytes each, from the first bank of Ringmaster data in
the order of R50 (DESIGN CHOICE, log entry 80: the manual gives no place). -/
def ringSlot (n : Nat) : Nat := 454 * bankSize + n % 64 * 4096

/-- A user message lands in the receive ring (R315); true where there was room. Core 3's claim of TRZ_MSG empties the ring
(`brkClaim`; DESIGN CHOICE, log entry 80). -/
def ringPut (src : Nat) (msg : List Byte) (s : State) : Bool × State :=
  if 64 ≤ s.trz.ring.length then (false, { s with trz := { s.trz with rxDrop := satAdd 32 s.trz.rxDrop 1 } })
  else
    let a := ringSlot s.trz.ringNext
    let s1 := spmWrite a msg s
    (true, brkEvent 672 { s1 with trz := { s1.trz with
      ring := s1.trz.ring ++ [(src, a, msg.length)], ringNext := (s1.trz.ringNext + 1) % 64 } })

/-- TRZ_USER_MSG_RX (R315). -/
def userMsg (p : Nat) (b : List Byte) (id : Nat) (msg : List Byte) (s : State) : State :=
  meshRx p 6 kMessage b (meshForward p 6 kMessage b [id] msg fun s =>
    let (ok, s1) := ringPut (frameSrc b) msg s
    if ok then meshRoute (frameSrc b) 6 kMsgAck [id] [] s1 else s1) s

/-- A MESH_SEND that waits ends with a status (R315). -/
def sendEnd (id : Nat) (st : Status) (s : State) : State :=
  match s.trz.sends.find? fun x => x.1 == id with
  | none => s
  | some (_, h) => complete 0xA0 h st 0 { s with trz := { s.trz with sends := s.trz.sends.filter fun x => x.1 != id } }

/-- TRZ_MSG_ACK_RX (R315). -/
def msgAck (p : Nat) (b : List Byte) (id : Nat) (s : State) : State :=
  meshRx p 6 kMsgAck b (meshForward p 6 kMsgAck b [id] [] (sendEnd id .ok)) s

/-- MESH_SEND (R315). -/
def doMeshSend (h : Hdr) (p : MeshSendP) (ans : HostAns) (s : State) : State :=
  let fin (st : Status) (s : State) : State := complete 0xA0 h st 0 s
  let dst := p.dst.toNat
  if !trzValid s then fin .unsupported s
  else if 4096 < p.msgLen.toNat then fin .lengthRange s
  else if p.rsvd ∨ 16384 ≤ dst then fin .badParam s
  else if p.msgLen = 0 then fin .ok s
  else if routeOf s dst = 7 then fin .badParam s
  else match ans with
    | .refused => fin .access s
    | .poisoned => fin .uncorrectable s
    | .data bs =>
      let msg := fit p.msgLen.toNat bs
      if dst = trzId s ∨ routeOf s dst = 6 then
        let (ok, s1) := ringPut (trzId s) msg s
        if ok then fin .ok s1
        else
          let (id, s2) := nextMeshId s1
          { s2 with trz := { s2.trz with sends := s2.trz.sends ++ [(id, h)] } }
      else
        let (id, s1) := nextMeshId s
        meshRoute dst 6 kMessage [id] msg { s1 with trz := { s1.trz with sends := s1.trz.sends ++ [(id, h)] } }

end Sys2Proof.Machine
end

