-- ==== Sys2Proof/Machine/Clp.lean ====
section
/-! DEFINITION. Calliope: steps, offsets, link delay, the servo, holdover (R316 to R321, R324). -/

namespace Sys2Proof.Machine

/-- A signed time value in the format of R8, in 2^-16 ns: the seconds are signed (R324). -/
def signedQ (t : Time96) : Int := (sext 48 (fld t 95 48) * 1000000000 + fld t 47 16) * 65536 + fld t 15 0

/-- Word `n` of a time value replaced. -/
def setWord (t : Time96) (n : Nat) (v : W32) : Time96 :=
  merge t (put v.toNat (32 * n)) (put 0xFFFFFFFF (32 * n))

/-- TB1 steps by an offset in 2^-16 ns; while the raster is not STOPPED the slew residue takes it back from TB2
(R317). -/
def tb1Step (q : Int) (s : State) : State :=
  let c := s.clp
  { s with clp := { c with
    tb1 := c.tb1 + q * 2 ^ 32, slew := if s.scn.state == .stopped then c.slew else c.slew - q } }

/-- A latched time base (R324). -/
def clpSnap (n : Nat) (s : State) : State :=
  let q := match n % 4 with | 0 => tb0Q s | 1 => tb1Q s | 2 => tb2Q s | _ => tb3Q s
  { s with clp := { s.clp with snap := qTime q } }

/-- The write of CLP_TB1_STEP2 (R321, R324): only the grandmaster steps. -/
def clpTb1Step (v : W32) (s : State) : State :=
  let t : Time96 := put v.toNat 64 ||| put s.clp.step1.toNat 32 ||| put s.clp.step0.toNat 0
  if bitOf s.trz.time 8 then tb1Step (signedQ t) s else s

/-- The write of CLP_TB0_OFFSET2: the offset applies at the next tick (R317). -/
def tb0OffsetWrite (v : W32) (s : State) : State :=
  let t := setWord s.clp.tb0Ofs 2 v
  { s with clp := { s.clp with tb0Ofs := t, ofs0New := some (signedQ t) } }

/-- The write of CLP_TB2_OFFSET2: the offset applies while the raster is STOPPED (R317). -/
def tb2OffsetWrite (v : W32) (s : State) : State :=
  let t := setWord s.clp.tb2Ofs 2 v
  let c := { s.clp with tb2Ofs := t }
  { s with clp := if s.scn.state == .stopped then { c with ofs2 := signedQ t, ofs2New := none }
    else { c with ofs2New := some (signedQ t) } }

/-- The write of CLP_TB3_SET2 (R316, R324). -/
def tb3SetWrite (v : W32) (s : State) : State :=
  let t : Time96 := put v.toNat 64 ||| put s.clp.set1.toNat 32 ||| put s.clp.set0.toNat 0
  { s with clp := { s.clp with tb3 := timeQ t * 2 ^ 32, tb3Set := true } }

/-! ### The time tree (R318, R319, R321) -/

/-- The device is the grandmaster (R321). -/
def isGm (s : State) : Bool := bitOf s.trz.time 8

/-- The parent port the device follows now: its parent, or its alternate once taken (R321). -/
def parentPort (s : State) : Nat := if s.clp.useAlt then fld s.trz.time 6 4 else fld s.trz.time 2 0

/-- STEPS this device sends: one above its own (R321). -/
def stepsSent (s : State) : Nat := if isGm s then 1 else s.clp.steps + 1

/-- The stamp of an arrival, with the port's asymmetry (R318). -/
def arrivalQ (m : MeshPort) (t : Time96) : Int := timeQ t + sext 32 m.asym.toNat

/-- TRZ_SYNC_SEND: SYNC leaves every ACTIVE port but the parent, with the TB1 time of its departure (R318, R319, R321). -/
def syncSend (s : State) : State :=
  eachNat (fun p s =>
    if meshActive s p && (isGm s || p != parentPort s) then
      meshSendTimed p 1 kSync .now [stepsSent s] [] s
    else s) (List.range 6) s

/-- TRZ_PDELAY_SEND: a request leaves a port with a parent role, its departure t1 (R319). -/
def pdelaySend (p : Nat) (s : State) : State :=
  if meshActive s p && !isGm s && (fld s.trz.time 2 0 == p || fld s.trz.time 6 4 == p) then
    meshSendTimed p 1 kPdelayReq .now [] [] s
  else s

/-- TRZ_PDELAY_REQ_RX: the answer carries t3 - t2, the time from the request's arrival to the answer's departure (R319). -/
def pdelayReq (p : Nat) (b : List Byte) (tRx : Time96) (s : State) : State :=
  meshRx p 1 kPdelayReq b (fun s => meshSendTimed p 1 kPdelayResp (.since (arrivalQ (meshPort s p) tRx)) [] [] s) s

/-- TRZ_PDELAY_RESP_RX: the link delay, averaged over the last eight (R319). -/
def pdelayResp (p : Nat) (b : List Byte) (tRx : Time96) (s : State) : State :=
  meshRx p 1 kPdelayResp b (fun s =>
    let m := meshPort s p
    match m.t1 with
    | none => s
    | some t1 =>
      let d := ((arrivalQ m tRx - t1) - timeQ (frameTs b)) / 2
      let ds := (d :: m.delays).take 8
      modMesh p (fun m => { m with t1 := none, delays := ds, delay := ds.sum / ds.length }) s) s

/-! ### The servo (R320, R321) -/

/-- One correction of TB1 (R320). -/
def servo (off : Int) (s : State) : State :=
  let c := s.clp
  match c.state with
  | .unlocked =>
    let s1 := if (c.stepThresh.toNat : Int) < off.natAbs then tb1Step off s else s
    { s1 with clp := { s1.clp with acc := 0, state := .locked } }
  | .locked =>
    if (c.outlier.toNat : Int) < off.natAbs then
      let s1 := { s with clp := { c with bad := c.bad + 1 } }
      if c.bad + 1 = 8 then
        log .clpRestep [] { s1 with clp := { s1.clp with state := .unlocked, resteps := satAdd 16 c.resteps 1 } }
      else s1
    else
      let acc := sat (c.acc + off) (-(2 ^ 47)) (2 ^ 47 - 1)
      let rate := sat (rshr (off * sext 32 c.kp.toNat) 24 + rshr (acc * sext 32 c.ki.toNat) 32) (-(2 ^ 31)) (2 ^ 31 - 1)
      { s with clp := { c with bad := 0, acc := acc, rate1 := BitVec.ofInt 32 rate, keep1 := none } }

/-- A SYNC on a port is one the device follows: on its parent always, on its alternate while it follows it, or in
holdover where STEPS permits (R321). -/
def syncFollows (s : State) (p steps : Nat) : Bool :=
  !isGm s && (fld s.trz.time 2 0 == p || (fld s.trz.time 6 4 == p &&
    (s.clp.useAlt || (s.clp.holdover && decide (steps < 64 ∧ steps < stepsSent s)))))

/-- TRZ_SYNC_RX (R318 to R321). -/
def syncRx (p : Nat) (b : List Byte) (steps : Nat) (tRx : Time96) (s : State) : State :=
  meshRx p 1 kSync b (fun s =>
    let m := meshPort s p
    let off := timeQ (frameTs b) + m.delay - arrivalQ m tRx
    let s1 := modMesh p (fun m => { m with off := off }) s
    if !syncFollows s p steps then s1
    else
      let onAlt := fld s.trz.time 2 0 != p
      servo off { s1 with clp := { s1.clp with holdover := false, useAlt := onAlt, steps := steps % 256 } }) s

/-- CLP_HOLDOVER: 8 SYNC intervals without a valid SYNC (R321). -/
def clpHoldover (s : State) : State :=
  if isGm s || s.clp.holdover then s
  else log .clpHoldover [] { s with clp := { s.clp with holdover := true, useAlt := false } }

/-- CLP_STATUS.TB1 state (R324). -/
def tb1Code (s : State) : Nat :=
  if isGm s then 3 else if s.clp.holdover then 2 else match s.clp.state with | .unlocked => 0 | .locked => 1

end Sys2Proof.Machine
end

