-- ==== Sys2Proof/Machine/Units.lean ====
section
/-! DEFINITION. The unit commands: UNIT_STATE_GET, UNIT_STATE_SET and RESET_UNIT (R349 to R352). -/

namespace Sys2Proof.Machine

/-- A result of a class test: the manual gives no rule for it, so it is free (R352). -/
def drawTest (s : State) : Bool × State :=
  let (v, s1) := drawFree s
  (bitOf v 0, s1)

/-- UNIT_STATE_GET (R349, R350). -/
def doUnitGet (h : Hdr) (p : UnitP) (s : State) : State :=
  let cls := p.cls.toNat
  let idx := p.index.toNat
  if !unitExists cls idx then complete 0xB0 h .badParam 0 s
  else if p.rsvd ∨ p.dest ≠ 0 ∨ p.flags ≠ 0 then complete 0xB0 h .badParam (unitDetail s cls idx) s
  else complete 0xB0 h .ok (unitDetail s cls idx) s

/-- The states of R349 by code. -/
def uOfCode : Nat → Option UState
  | 0 => some .online | 1 => some .degraded | 2 => some .offline | 3 => some .spared | 4 => some .test | _ => none

/-- A class's spare can take the unit's place now (R351, R420, R421). -/
def spareFor (s : State) (cls idx : Nat) : Bool :=
  match cls with
  | 0 => (spareChannel s).isSome
  | 1 => (spareBank s).isSome
  | 2 => !(pipeSpares s).isEmpty
  | 3 => spareReady s idx
  | 5 => decide (idx < 36) && (unitOf s 5 (siteSpare (idx / 2))).state == .offline &&
      (unitOf s 5 (siteSpare (idx / 2))).lastTest
  | _ => false

/-- UNIT_STATE_SET to OFFLINE of a unit in service (R351): its bring-in, or its removal. -/
def unitOut (h : Hdr) (cls idx : Nat) (force : Bool) (s : State) : State :=
  let wait : State := { s with unitSets := s.unitSets ++ [(h, cls, idx, force)] }
  let done (s : State) : State := complete 0xB1 h .ok (unitDetail s cls idx) s
  if !spareFor s cls idx && !force then complete 0xB1 h .noResource (unitDetail s cls idx) s
  else match cls with
    | 0 => removalStart idx [] false wait
    | 1 =>
      match spareBank s with
      | some sp => bankBringIn idx sp true wait
      | none => done (let s1 := spmErr 4 s
          if (unitOf s1 1 idx).state == .online then unitTo 1 idx .degraded 7 s1 else s1)
    | 2 => pipeBringIn idx true wait
    | 3 => if spareReady s idx then bringInStart idx true wait else done (unitTo 3 idx .offline 7 (linkTo idx .disabled s))
    | 4 => done (meshDisable idx 7 s)
    | _ => sensorBringIn idx true true wait

/-- The window counters of a unit are cleared (R351). -/
def windowsClear (cls idx : Nat) (s : State) : State :=
  match cls with
  | 0 => modChan idx (fun x => { x with ceWindow := 0, ueWindow := 0 }) s
  | 1 => modBank idx (fun x => { x with ceWindow := 0 }) s
  | 2 => pipeClear idx s
  | 3 => modGrp idx (fun x => { x with sinceRetry := none }) s
  | 4 => modMesh idx (fun m => { m with laneOver := [] }) s
  | _ => modSensor idx (fun x => { x with same := 0 }) s

/-- The logic of a unit that is out of service is reset (R352): its link, where it has one, is DISABLED, and a mesh
port trains anew. -/
def unitLogicReset (cls idx : Nat) (s : State) : State :=
  match cls with
  | 3 => linkTo idx .disabled s
  | 4 =>
    let s1 := modMesh idx (fun m => { m with link := .disabled, session := none, retrying := false }) s
    if (unitOf s1 4 idx).state == .offline then meshStartAll s1 else s1
  | _ => s

/-- A class test's result is the unit's last test; a pipeline's is that of its self-test (R106, R107, R352). -/
def unitTested (cls idx : Nat) (pass : Bool) (s : State) : State :=
  if cls = 2 then pipeTested idx pass s else modUnit cls idx (fun u => { u with lastTest := pass }) s

/-- A unit in TEST begins its class's test: a panel-link group exchanges TS1 with its partner (R211); a pipeline's self-test
runs with those of every tick (R107); a mesh port's lanes carry PRBS, whose content the manual does not state and the model
does not show (R296; log entry 160). -/
def testStart (cls idx : Nat) (s : State) : State :=
  match cls with
  | 3 => trainStart idx false s
  | _ => s

/-- UNIT_STATE_SET (R351). -/
def doUnitSet (h : Hdr) (p : UnitP) (s : State) : State :=
  let cls := p.cls.toNat
  let idx := p.index.toNat
  let fin (st : Status) (s : State) : State := complete 0xB1 h st (unitDetail s cls idx) s
  let u := unitOf s cls idx
  if !unitExists cls idx then complete 0xB1 h .badParam 0 s
  else if p.rsvd ∨ 2 ≤ p.flags.toNat then fin .badParam s
  else if h.gen ≠ u.gen then fin .stale s
  else match u.state, uOfCode p.dest.toNat with
    | .online, some .offline => unitOut h cls idx (bitOf p.flags 0) s
    | .degraded, some .offline => unitOut h cls idx (bitOf p.flags 0) s
    | .degraded, some .online => fin .ok (unitTo cls idx .online 7 (windowsClear cls idx s))
    | .offline, some .test => fin .ok (testStart cls idx (unitLogicReset cls idx (unitTo cls idx .test 7 s)))
    | .test, some .offline =>
      let (ok, s1) := drawTest s
      fin .ok (unitLogicReset cls idx (unitTo cls idx .offline 7 (unitTested cls idx ok s1)))
    | _, _ => fin .badParam s

/-- RESET_UNIT (R352, R468). -/
def doResetUnit (h : Hdr) (p : UnitP) (s : State) : State :=
  let cls := p.cls.toNat
  let idx := p.index.toNat
  let fin (st : Status) (s : State) : State := complete 0xF0 h st (unitDetail s cls idx) s
  let u := unitOf s cls idx
  if !unitExists cls idx then complete 0xF0 h .badParam 0 s
  else if p.rsvd ∨ p.dest ≠ 0 ∨ p.flags ≠ 0 then fin .badParam s
  else if h.gen ≠ u.gen then fin .stale s
  else if u.state != .offline && u.state != .test then fin .busy s
  else
    let (ok, s1) := drawTest s
    let s2 := unitLogicReset cls idx (unitTo cls idx u.state 7 (unitTested cls idx ok s1))
    complete 0xF0 h .ok (unitDetail s2 cls idx ||| put (b2n ok) 48) s2

/-- A UNIT_STATE_SET that begins a bring-in waits while another runs (R348, R419). -/
def unitSetWaits (p : UnitP) (s : State) : Bool := uOfCode p.dest.toNat == some .offline && bringInBusy s

/-- The commands core 0 applies in one order of arrival with the data path's requests (R348). -/
def isUnitCmd : Cmd → Bool
  | .unitGet _ => true
  | .unitSet _ => true
  | .resetUnit _ => true
  | _ => false

/-- A unit command waits for the requests that came before it, of the data path and of commands (R348). -/
def unitOrderWaits (again : Bool) (h : Hdr) (s : State) : Bool :=
  if again then (match unitTurns s with | t :: _ => t.1 != h || t.2 != 0 | [] => false)
  else !s.unitReqs.isEmpty || !(unitTurns s).isEmpty

/-- A unit command that must wait takes its place in the order of arrival (R348). -/
def unitTurnTake (h : Hdr) (c : Cmd) (s : State) : State :=
  if isUnitCmd c then { s with hq := { s.hq with unitTurns := unitTurns s ++ [(h, s.unitReqs.length)] } } else s

/-- A unit command that starts leaves the order of arrival (R348). -/
def unitTurnLeave (h : Hdr) (s : State) : State :=
  { s with hq := { s.hq with unitTurns := s.hq.unitTurns.filter fun t => t.1 != h } }

end Sys2Proof.Machine
end

