-- ==== Sys2Proof/Machine/Journal.lean ====
section
/-! DEFINITION. Reading the event log and copying it to the fault journal (R367 to R373, R425, R435). -/

namespace Sys2Proof.Machine

/-- Where the records of LOG_READ go: host memory, or behind the entry of a mailbox response (R373). -/
def logAnswer (h : Hdr) (p : LogReadP) (detail : W64) (bytes : List Byte) (s : State) : State :=
  match h.src with
  | .mbox _ => completeWith 0xC0 h .ok detail bytes s
  | _ =>
    let s1 := if bytes.isEmpty then s else emit (.hostWrite h.src p.hostAddr.toNat bytes) s
    complete 0xC0 h .ok detail s1

/-- The checks of LOG_READ (R370): none where it may be served. -/
def logReadBad (h : Hdr) (entries : Bool) (p : LogReadP) : Option Status :=
  let mbox := match h.src with | .mbox _ => true | _ => false
  let n := p.count.toNat
  if decide (16384 < n) || (mbox && decide (32 < n)) then some .lengthRange
  else if !mbox && p.hostAddr.toNat % 64 != 0 then some .badParam
  else if p.rsvd || (if entries then decide (2 ≤ p.flags.toNat) else p.flags != 0) then some .badParam
  else none

/-- LOG_SEQ of the oldest unconsumed entry (R371). -/
def headSeq (s : State) : Nat := (s.log.seq + 2 ^ 32 - s.log.entries.length) % 2 ^ 32

/-- The oldest entries are consumed (R371). -/
def logConsume (n : Nat) (s : State) : State :=
  logLevel { s with log := { s.log with entries := s.log.entries.drop n, head := (s.log.head + n) % 16384 } }

/-- LOG_READ of entries (R370, R371, R373). -/
def doLogEntries (h : Hdr) (p : LogReadP) (s : State) : State :=
  let s0 := logDrain s
  let none_ : W64 := put s0.log.seq 32
  if p.count = 0 then complete 0xC0 h .ok none_ s0
  else match logReadBad h true p with
    | some st => complete 0xC0 h st 0 s0
    | none =>
      let es := s0.log.entries.take p.count.toNat
      let detail : W64 := if es.isEmpty then none_ else put es.length 0 ||| put (headSeq s0) 32
      let s1 := if bitOf p.flags 0 then logConsume es.length s0 else s0
      logAnswer h p detail (es.flatMap logBytes) s1

/-- The 32 bytes of a dictionary record (R372). -/
def dictBytes (d : DictRec) : List Byte :=
  leBytes 1 d.aux ++ leBytes 1 d.attrs ++ leBytes 2 d.number ++ fit 28 d.text

/-- LOG_READ of a dictionary: from LOG_DICT_INDEX, which it advances (R370, R372). -/
def doLogDict (codes : Bool) (h : Hdr) (p : LogReadP) (s : State) : State :=
  if p.count = 0 then complete 0xC0 h .ok 0 s
  else match logReadBad h false p with
    | some st => complete 0xC0 h st 0 s
    | none =>
      let ds := (((if codes then s.log.codes else s.log.sources).drop s.log.dictIndex).take p.count.toNat)
      logAnswer h p (put ds.length 0) (ds.flatMap dictBytes)
        { s with log := { s.log with dictIndex := (s.log.dictIndex + ds.length) % 65536 } }

/-- LOG_READ with another SUBFN (R370). -/
def doLogBad (h : Hdr) (p : LogReadP) (s : State) : State :=
  if p.count = 0 then complete 0xC0 h .ok 0 s
  else complete 0xC0 h ((logReadBad h false p).getD .badParam) 0 s

/-- JOURNAL_COPY: core 3 copies the oldest JOURNAL entry it has not copied (R369, R425). -/
def journalCopy (s : State) : State :=
  let s0 := logDrain s
  match s0.log.toJournal with
  | [] => s0
  | e :: rest =>
    journalWrite e.name e.source false false (logBytes e) { s0 with log := { s0.log with toJournal := rest } }

/-- A cause bit of LOG_DROP written: it and the count are cleared (R375). -/
def logDropClear (v : W32) (s : State) : State :=
  let l := s.log
  if bitOf v 30 || bitOf v 31 then
    { s with log := { l with drop := 0, dropFull := l.dropFull && !bitOf v 30, dropQueue := l.dropQueue && !bitOf v 31 } }
  else s

/-- The flags of a journal entry's header (R425). -/
def jFlags (e : JEntry) : Nat := b2n e.valid + 2 * b2n e.cleared + 4 * b2n e.trip + 8 * b2n e.hw

/-- The 256 bytes of a journal entry (R425). -/
def jBytes (e : JEntry) : List Byte :=
  let head := leBytes 4 e.seq ++ leBytes 1 e.source ++ leBytes 1 (jFlags e) ++ leBytes 2 (Config.logCode e.name) ++
    leBytes 12 e.time.toNat ++ leBytes 4 e.boot ++ leBytes 2 e.content.length ++ leBytes 2 e.repeatCount
  head ++ leBytes 4 (crc32c (head ++ e.content)).toNat ++ fit 224 e.content

/-- Word `w` of journal entry `i`; an entry never written reads 0 (R435). -/
def jWord (s : State) (i w : Nat) : W32 :=
  match lkp s.mram.journal i with
  | some e => BitVec.ofNat 32 (leAt (jBytes e) (4 * w) 4)
  | none => 0

end Sys2Proof.Machine
end

