-- ==== Sys2Proof/Machine/Ecdsa.lean ====
section
/-! DEFINITION. ECDSA over P-384, the signature R397 and R398 name (FIPS 186), with SHA-384. -/

namespace Sys2Proof.Machine

/-- The prime of P-384. -/
def ecP : Nat := 2 ^ 384 - 2 ^ 128 - 2 ^ 96 + 2 ^ 32 - 1

/-- The order of the base point. -/
def ecN : Nat :=
  0xFFFFFFFFFFFFFFFFFFFFFFFFFFFFFFFFFFFFFFFFFFFFFFFFC7634D81F4372DDF581A0DB248B0A77AECEC196ACCC52973

/-- The coefficient b. -/
def ecB : Nat :=
  0xB3312FA7E23EE7E4988E056BE3F82D19181D9C6EFE8141120314088F5013875AC656398D8A2ED19D2A85C8EDD3EC2AEF

/-- The base point. -/
def ecG : Nat × Nat :=
  (0xAA87CA22BE8B05378EB1C71EF320AD746E1D3B628BA79B9859F741E082542A385502F25DBF55296C3A545E3872760AB7,
   0x3617DE4A96262C6F5D9E98BF9292DC29F8F41DBD289A147CE9DA3113B5F0B8C00A60B1CE1D7E819D7A431D7C90EA0E5F)

/-- `b ^ e` modulo `m`, over `n` bits of the exponent from the top. -/
def powMod (m b e : Nat) : Nat → Nat
  | 0 => 1
  | n + 1 =>
    let r := powMod m b (e / 2) n
    if e % 2 = 1 then r * r % m * b % m else r * r % m

/-- The inverse modulo a prime of at most 384 bits. -/
def invMod (m a : Nat) : Nat := powMod m (a % m) (m - 2) 384

/-- A difference modulo `m`, of numbers below it. -/
def subMod (m a b : Nat) : Nat := (a + m - b % m) % m

/-- A point in Jacobian coordinates: (x, y, z) stands for (x / z^2, y / z^3); with z = 0 it is the point at infinity. -/
structure EcPoint where
  x : Nat
  y : Nat
  z : Nat
deriving DecidableEq, Repr

/-- The point at infinity. -/
def ecZero : EcPoint := ⟨1, 1, 0⟩

/-- Twice a point. -/
def ecDouble (a : EcPoint) : EcPoint :=
  let zz := a.z * a.z % ecP
  let yy := a.y * a.y % ecP
  let s := 4 * a.x * yy % ecP
  let m := 3 * subMod ecP a.x zz * (a.x + zz) % ecP
  let x := subMod ecP (m * m % ecP) (2 * s)
  ⟨x, subMod ecP (m * subMod ecP s x % ecP) (8 * yy * yy), 2 * a.y * a.z % ecP⟩

/-- The sum of two points of the curve. -/
def ecAdd (a b : EcPoint) : EcPoint :=
  if a.z = 0 then b
  else if b.z = 0 then a
  else
    let za := a.z * a.z % ecP
    let zb := b.z * b.z % ecP
    let u := a.x * zb % ecP
    let s := a.y * zb * b.z % ecP
    let h := subMod ecP (b.x * za % ecP) u
    let r := subMod ecP (b.y * za * a.z % ecP) s
    if h = 0 then (if r = 0 then ecDouble a else ecZero)
    else
      let hh := h * h % ecP
      let v := u * hh % ecP
      let x := subMod ecP (subMod ecP (r * r % ecP) (hh * h)) (2 * v)
      ⟨x, subMod ecP (r * subMod ecP v x % ecP) (s * hh * h), h * a.z * b.z % ecP⟩

/-- A multiple of a point, over `n` bits of the factor. -/
def ecMul (p : EcPoint) (k : Nat) : Nat → EcPoint
  | 0 => ecZero
  | n + 1 =>
    let d := ecDouble (ecMul p (k / 2) n)
    if k % 2 = 1 then ecAdd d p else d

/-- A point lies on the curve. -/
def ecOn (p : Nat × Nat) : Bool :=
  decide (p.1 < ecP ∧ p.2 < ecP ∧ p.2 * p.2 % ecP = (p.1 * p.1 * p.1 + (ecP - 3) * p.1 + ecB) % ecP)

/-- A signature (r, s) of a SHA-384 digest verifies under a public key. -/
def ecdsaOk (key : Nat × Nat) (r s digest : Nat) : Bool :=
  if r = 0 ∨ s = 0 ∨ ecN ≤ r ∨ ecN ≤ s ∨ !ecOn key then false
  else
    let w := invMod ecN s
    let q := ecAdd (ecMul ⟨ecG.1, ecG.2, 1⟩ (digest * w % ecN) 384) (ecMul ⟨key.1, key.2, 1⟩ (r * w % ecN) 384)
    q.z != 0 && q.x * invMod ecP (q.z * q.z) % ecP % ecN == r

end Sys2Proof.Machine
end

