-- ==== Sys2Proof/Machine/Calib.lean ====
section
/-! DEFINITION. Calibration: CAL_RUN, its measurements, CAL_READ, CAL_WRITE and the calibration record (R427 to
R433). -/

namespace Sys2Proof.Machine

/-- A calibration item's values in force. -/
def calItem (s : State) (i : Nat) : CalItem := spGet {} s.cal.items i

/-- REFIN lies in 1.250 V ± 3%, in units of 0.1 mV (R429). -/
def refinOk (v : Nat) : Bool := decide (12125 ≤ v ∧ v ≤ 12875)

/-- The values two measurements give: span, gain and offset (R428). -/
def calCompute (m : CalMeas) : Int × Nat × Int :=
  let dm := m.mHi - m.mLo
  let gain := ((3276 * 32768 + dm / 2) / dm).toNat
  (dm, gain, 410 - rshr (m.mLo * gain) 15)

/-- The reason gain and offset are not plausible, 0 where they are (R429, R435). -/
def calReason (gain : Nat) (off : Int) : Nat :=
  if gain < 29491 ∨ 36045 < gain then 1 else if off < -64 ∨ 64 < off then 2 else 0

/-- The reason a result is not plausible, 0 where it is (R429). -/
def measReason (m : CalMeas) : Nat :=
  let (dm, gain, off) := calCompute m
  if dm ≤ 0 then 3 else calReason gain off

/-- A code corrected by an item (R428). -/
def calCode (c : CalItem) (x : Nat) : Nat := (sat (rshr ((x * c.gain : Nat) : Int) 15 + c.off) 0 4095).toNat

/-- An item gets new values. -/
def calSet (i : Nat) (c : CalItem) (s : State) : State :=
  { s with cal := { s.cal with items := spSet {} s.cal.items i c } }

/-- The first failing item and its reason are recorded (R429). -/
def calFail (i reason : Nat) (s : State) : State :=
  let c := s.cal
  calErr 0 { s with cal := { c with
    failed := c.failed ||| 2 ^ i
    failItem := if c.failItem = 0x1F then i else c.failItem
    reason := if c.failItem = 0x1F then reason else c.reason } }

/-- The detail word of CAL_RUN and CAL_WRITE (R431, R433). -/
def calDetail (applied failed refin : Nat) : W64 := put applied 0 ||| put failed 16 ||| put refin 32

/-- A run ends: its completion, and a PANEL_ON that waited for it (R431). -/
def calEnd (s : State) : State :=
  match s.cal.running with
  | none => s
  | some (h, _) =>
    let c := s.cal
    panelOnDue (complete 0x90 h (if c.failed = 0 then .ok else .integrity) (calDetail c.applied c.failed c.refin)
      { s with cal := { c with running := none, todo := [] } })

/-- CAL_RUN (R431). -/
def doCalRun (h : Hdr) (p : CalRunP) (s : State) : State :=
  let n := p.items.toNat
  if n = 0 then complete 0x90 h .ok 0 s
  else if 0x4000 ≤ n ∨ 2 ≤ p.flags.toNat ∨ p.rsvd then complete 0x90 h .badParam 0 s
  else if s.cal.running.isSome ∨ (n &&& 0x3FE ≠ 0 ∧ s.pwr.state ≠ .off) then complete 0x90 h .busy 0 s
  else
    let todo := (List.range 14).filter fun i => n / 2 ^ i % 2 == 1
    { s with cal := { s.cal with
      running := some (h, bitOf p.flags 0), todo := todo, applied := 0, failed := 0, failItem := 0x1F, reason := 0 } }

/-- CAL_ITEM_DONE: the next item's measurement. Before the first, a REFIN out of range fails the run (R428, R429). -/
def calItemDone (i : Nat) (m : CalMeas) (s : State) : State :=
  match s.cal.running, s.cal.todo with
  | some (_, dry), j :: rest =>
    if i ≠ j then s
    else
      let c := s.cal
      let begun := decide (c.applied ≠ 0 ∨ c.failed ≠ 0)
      let s1 := if begun then s else { s with cal := { c with refin := m.refin } }
      if !begun && !refinOk m.refin then
        let mask := ((j :: rest).map (2 ^ ·)).sum
        calEnd (calErr 1 { s1 with cal := { s1.cal with failed := mask, reason := 4 } })
      else
        let r := measReason m
        let (_, gain, off) := calCompute m
        let s2 := if r ≠ 0 then calFail i r s1
          else
            let s3 := if dry then s1 else calSet i ⟨gain, off⟩ s1
            { s3 with cal := { s3.cal with applied := s3.cal.applied ||| 2 ^ i } }
        let s4 := { s2 with cal := { s2.cal with todo := rest } }
        if rest.isEmpty then calEnd s4 else s4
  | _, _ => s

/-! ### The record (R432, R433) -/

/-- A calibration record of the values in force (R432). -/
def calRecord (s : State) : List Byte :=
  let item (i : Nat) : List Byte :=
    let c := calItem s i
    leBytes 2 c.gain ++ leBytes 2 (wrapN 16 c.off)
  let b := ascii "KCAL" ++ [1, 14, 0, 0] ++ leBytes 16 s.mram.unitId.toNat ++ leBytes 2 s.cal.refin ++ fill 6 0 ++
    (List.range 14).flatMap item ++ fill 36 0
  b ++ leBytes 4 (crc32c b).toNat

/-- The checks of a record but for its UNIT_ID (R433). -/
def recordOk (b : List Byte) : Bool :=
  b.length == 128 && slice b 0 4 == ascii "KCAL" && byteAt b 4 == 1 && byteAt b 5 == 14 && zeroBytes b 6 8 &&
    zeroBytes b 26 32 && zeroBytes b 88 124 && leAt b 124 4 == (crc32c (b.take 124)).toNat

/-- Item `i` of a record. -/
def recordItem (b : List Byte) (i : Nat) : CalItem := ⟨leAt b (32 + 4 * i) 2, sext 16 (leAt b (34 + 4 * i) 2)⟩

/-- A record is this device's. -/
def recordMine (s : State) (b : List Byte) : Bool := leAt b 8 16 == s.mram.unitId.toNat

/-- CAL_READ (R432). -/
def doCalRead (h : Hdr) (p : CalReadP) (s : State) : State :=
  let mbox := match h.src with | .mbox _ => true | _ => false
  let answer (b : List Byte) : State :=
    let d : W64 := put (leAt b 124 4) 0
    if mbox then completeWith 0x91 h .ok d b s
    else complete 0x91 h .ok d (emit (.hostWrite h.src p.hostAddr.toNat b) s)
  if (!mbox && p.hostAddr.toNat % 64 != 0) || decide (2 ≤ p.set.toNat) || p.rsvd then complete 0x91 h .badParam 0 s
  else if p.set = 0 then answer (calRecord s)
  else match s.cal.factory with
    | some b => answer b
    | none => complete 0x91 h .integrity 0 s

/-- One item of CAL_WRITE, on its own merits (R433). -/
def calWriteItem (b : List Byte) (i : Nat) (s : State) : State :=
  let c := recordItem b i
  let r := calReason c.gain c.off
  if r ≠ 0 then calFail i r s
  else
    let s1 := { s with cal := { s.cal with applied := s.cal.applied ||| 2 ^ i } }
    if 1 ≤ i ∧ i ≤ 6 ∧ s.scn.state ≠ .stopped then
      { s1 with cal := { s1.cal with pendItems := putAt s1.cal.pendItems i c } }
    else calSet i c s1

/-- CAL_WRITE (R433). -/
def doCalWrite (h : Hdr) (p : CalWriteP) (s : State) : State :=
  let n := p.items.toNat
  let b := p.record
  if n = 0 then complete 0x92 h .ok 0 s
  else if 0x4000 ≤ n ∨ p.rsvd then complete 0x92 h .badParam 0 s
  else if s.cal.running.isSome then complete 0x92 h .busy 0 s
  else if !recordOk b then complete 0x92 h .integrity 0 s
  else if !recordMine s b then complete 0x92 h .access 0 s
  else
    let items := (List.range 14).filter fun i => n / 2 ^ i % 2 == 1
    let s1 := { s with cal := { s.cal with applied := 0, failed := 0, failItem := 0x1F, reason := 0, written := true } }
    let s2 := eachNat (calWriteItem b) items s1
    complete 0x92 h (if s2.cal.failed = 0 then .ok else .integrity)
      (calDetail s2.cal.applied s2.cal.failed (leAt b 24 2)) s2

/-- At LOAD the factory record's items come into force, or FACTORY_BAD is set (R430). -/
def factoryLoad (b : List Byte) (s : State) : State :=
  if recordOk b && recordMine s b then
    eachNat (fun i => calSet i (recordItem b i)) (List.range 14)
      { s with cal := { s.cal with factoryLoaded := true, factory := some b } }
  else calErr 2 s

/-- MRAM_COMMIT_RETRY (R424). -/
def commitRetry (ok : Bool) (s : State) : State := if s.cal.retryMap then commitMap ok s else s

end Sys2Proof.Machine
end

