-- ==== Sys2Proof/Machine/Fw.lean ====
section
/-! DEFINITION. Serial flash, signed images, update sessions, the Safety Net and lifecycle tokens (R395 to R402,
R408 to R414). -/

namespace Sys2Proof.Machine

/-- FW_ERR bit `i` set (R417): 0 BLOCK_CRC, 1 AUTH, 2 BINDING, 3 LOCK_EXPIRED, 4 FALLBACK, 5 SLOT_VERIFY, 6 CFG_VERIFY. -/
def fwErr (i : Nat) (s : State) : State := { s with fw := { s.fw with err := setBit s.fw.err i } }

/-! ### Flash (R395) -/

/-- Bytes of the flash; erased bytes read 0xFF. -/
def flashRead (s : State) (a n : Nat) : List Byte := memRead 0xFF s.fw.flash a n

/-- Bytes written to the flash. -/
def flashWrite (a : Nat) (bs : List Byte) (s : State) : State :=
  { s with fw := { s.fw with flash := memWrite 0xFF s.fw.flash a bs } }

/-- An area of the flash erased. -/
def flashErase (a n : Nat) (s : State) : State := { s with fw := { s.fw with flash := spErase s.fw.flash a (a + n) } }

/-- The area of firmware slot `i`, and of configuration copy `i` (R395). -/
def slotBase (i : Nat) : Nat := if i = 0 then 0x10000 else 0x1810000
/-- The base of a configuration copy. -/
def copyBase (i : Nat) : Nat := if i = 0 then 0x3010000 else 0x3410000
/-- 24 MiB, the size of a firmware slot. -/
def slotSize : Nat := 0x1800000
/-- 4 MiB, the size of a configuration copy. -/
def copySize : Nat := 0x400000

/-- A firmware slot's entry in the directory (R396). -/
def fwSlot (s : State) (i : Nat) : FwSlot := if i = 0 then s.fw.slot0 else s.fw.slot1

/-- A firmware slot's entry changed: a new directory record is written (R396). -/
def modFwSlot (i : Nat) (f : FwSlot → FwSlot) (s : State) : State :=
  let w := { s.fw with dirSeq := (s.fw.dirSeq + 1) % 2 ^ 32 }
  { s with fw := if i = 0 then { w with slot0 := f w.slot0 } else { w with slot1 := f w.slot1 } }

/-! ### Images (R397, R398) -/

/-- IMAGE_LEN of a header. -/
def imgLen (b : List Byte) : Nat := leAt b 8 4
/-- VERSION of a header. -/
def imgVersion (b : List Byte) : W32 := BitVec.ofNat 32 (leAt b 12 4)
/-- SVN of a header. -/
def imgSvn (b : List Byte) : Nat := leAt b 16 4

/-- Section entry `k`: type, offset, length, CRC. -/
def imgSection (b : List Byte) (k : Nat) : Nat × Nat × Nat × Nat :=
  let o := 64 + 16 * k
  (leAt b o 4, leAt b (o + 4) 4, leAt b (o + 8) 4, leAt b (o + 12) 4)

/-- The bytes of the first section of a type; empty where there is none. -/
def sectionOf (b : List Byte) (ty : Nat) : List Byte :=
  match (List.range 8).find? fun k => (imgSection b k).1 == ty with
  | some k => slice b (imgSection b k).2.1 (imgSection b k).2.2.1
  | none => []

/-- MAGIC, FORMAT, KIND, length and section CRCs are as R397 and R398 state. -/
def imgFormOk (kind : Nat) (b : List Byte) : Bool :=
  decide (512 ≤ b.length) && slice b 0 4 == ascii "KFIM" && decide (leAt b 4 1 = kind) && byteAt b 5 == 1 &&
    decide (imgLen b = b.length ∧ b.length % 4096 = 0) && decide (leAt b 20 1 < 2) && zeroBytes b 21 32 &&
    zeroBytes b 48 64 && zeroBytes b 288 384 && zeroBytes b 480 512 &&
    (List.range 8).all fun k =>
      let (ty, off, len, crc) := imgSection b k
      ty == 0 || (decide (off + len ≤ b.length) && decide (crc = (crc32c (slice b off len)).toNat))

/-- HW_TYPE, UNIT_ID and SVN (R398). -/
def imgBindOk (s : State) (kind : Nat) (b : List Byte) : Bool :=
  decide (leAt b 6 2 = 0x9216) &&
    (if bitOf (byteAt b 20) 0 then leAt b 32 16 == s.mram.unitId.toNat else zeroBytes b 32 48) &&
    (kind != 0 || decide (s.mram.minSvn ≤ imgSvn b))

/-- The MRAM digest held for a KIND (R398). -/
def kindDigest (s : State) (kind : Nat) : Nat :=
  match kind with
  | 0 => s.mram.fwDigest.toNat
  | 1 => if s.mram.lifecycle == .deployed then s.mram.intDigest.toNat else s.mram.cfgDigest.toNat
  | _ => s.mram.lcDigest.toNat

/-- The digest of PUBKEY and the signature (R397, R398). -/
def imgSigOk (s : State) (kind : Nat) (b : List Byte) : Bool :=
  beNat (sha384 (slice b 192 96)) == kindDigest s kind &&
    ecdsaOk (beNat (slice b 192 48), beNat (slice b 240 48)) (beNat (slice b 384 48)) (beNat (slice b 432 48))
      (beNat (sha384 (b.take 384 ++ b.drop 512)))

/-- An image is accepted (R398). -/
def imgOk (s : State) (kind : Nat) (b : List Byte) : Bool := imgFormOk kind b && imgBindOk s kind b && imgSigOk s kind b

/-- The image that stands in an area: as long as its header says. -/
def imgAt (s : State) (base size : Nat) : List Byte :=
  let n := imgLen (flashRead s base 512)
  flashRead s base (if size < n then 0 else n)

/-- The image of a firmware slot. -/
def slotImage (s : State) (i : Nat) : List Byte := imgAt s (slotBase i) slotSize

/-- The image of a configuration copy. -/
def copyImage (s : State) (i : Nat) : List Byte := imgAt s (copyBase i) copySize

/-! ### Sessions (R408 to R412) -/

/-- The slot or copy a session writes: the slot that is not running, the copy that is not active (R408). -/
def destIndex (s : State) (target : Nat) : Nat :=
  match target with | 0 => 1 - s.rm.runSlot % 2 | 1 => 1 - s.fw.activeCfg % 2 | _ => 0

/-- The base of a session's destination in flash, where it has one. -/
def destBase (s : State) (target : Nat) : Option Nat :=
  match target with
  | 0 => some (slotBase (destIndex s 0)) | 1 => some (copyBase (destIndex s 1)) | _ => none

/-- The running image is in TRIAL. -/
def inTrial (s : State) : Bool := isReady s && (fwSlot s s.rm.runSlot).state == .trial

/-- The path and queue, endpoint or gateway of a session's holder (R409). -/
def holderOf (s : State) (src : Src) : Nat × Nat :=
  match src with
  | .sq q => (match (sqOf s q).owner with | .ha => (0, q) | .hb => (1, q))
  | .mbox _ => (2, s.hq.eid.toNat)
  | .mesh _ gw _ => (3, gw)
  | .fw => (0, 0)

/-- IMAGE_LEN is in range for its target (R409). -/
def fwLenOk (target n : Nat) : Bool :=
  decide (n % 4096 = 0) && match target with
    | 0 => decide (n ≤ slotSize) | 1 => decide (n ≤ copySize) | _ => decide (n = 4096)

/-- FW_OPEN (R409). -/
def doFwOpen (h : Hdr) (p : FwOpenP) (s : State) : State :=
  let fin (st : Status) (d : W64) : State := complete 0x80 h st d s
  let t := p.target.toNat
  let w := s.fw
  if p.imageLen = 0 then fin .ok 0
  else if 4 ≤ t then fin .badParam 0
  else if !fwLenOk t p.imageLen.toNat then fin .lengthRange 0
  else if p.rsvd then fin .badParam 0
  else if s.mram.lifecycle == .retired then fin .access 0
  else if w.session != .idle then
    fin .busy (put w.sessionId.toNat 0 ||| put (w.holderPath % 4) 32 ||| put (w.holderQueue % 16384) 34)
  else if t = 0 ∧ inTrial s then fin .busy (put 1 48)
  else
    let hold := holderOf s h.src
    let s1 := { s with fw := { w with
      session := .opening, sessionId := 0, target := t, imageLen := p.imageLen.toNat, holderPath := hold.1,
      holderQueue := hold.2, running := some h, activate := false, blocks := [], inline_ := [] } }
    if t = 0 then modFwSlot (destIndex s 0) (fun _ => {}) s1 else s1

/-- FW_ERASE_DONE: the destination is erased and the session takes blocks (R408, R409). -/
def eraseDone (session : W32) (s : State) : State :=
  match s.fw.session, s.fw.running with
  | .opening, some h =>
    if session = 0 then s
    else
      let t := s.fw.target
      let s1 := match destBase s t with
        | some b => flashErase b (if t = 0 then slotSize else copySize) s
        | none => s
      complete 0x80 h .ok (put session.toNat 0 ||| put (destIndex s t) 32)
        { s1 with fw := { s1.fw with session := .receiving, sessionId := session, running := none } }
  | _, _ => s

/-- The bytes of a session's image written so far, or a stretch of them. -/
def sessionRead (s : State) (off n : Nat) : List Byte :=
  match destBase s s.fw.target with
  | some b => flashRead s (b + off) n
  | none => memRead 0xFF s.fw.inline_ off n

/-- A block of a session's image written. -/
def sessionWrite (off : Nat) (bs : List Byte) (s : State) : State :=
  match destBase s s.fw.target with
  | some b => flashWrite (b + off) bs s
  | none => { s with fw := { s.fw with inline_ := memWrite 0xFF s.fw.inline_ off bs } }

/-- FW_BLOCK (R410). -/
def doFwBlock (h : Hdr) (p : FwBlockP) (s : State) : State :=
  let fin (st : Status) (s : State) : State := complete 0x81 h st (put s.fw.blocks.length 0) s
  let off := p.offset.toNat
  if s.fw.session != .receiving || p.session != s.fw.sessionId then fin .access s
  else if s.fw.imageLen ≤ off then fin .lengthRange s
  else if off % 4096 ≠ 0 ∨ p.rsvd then fin .badParam s
  else if crc32c p.data ≠ p.crc then fin .integrity (fwErr 0 s)
  else if (lkp s.fw.blocks off).isSome then
    fin (if sessionRead s off 4096 == p.data then .ok else .integrity) s
  else
    let s1 := sessionWrite off p.data s
    fin .ok { s1 with fw := { s1.fw with blocks := putAt s1.fw.blocks off p.crc } }

/-- FW_COMMIT (R411). -/
def doFwCommit (h : Hdr) (p : FwCommitP) (s : State) : State :=
  if s.fw.session != .receiving || p.session != s.fw.sessionId then complete 0x82 h .access 0 s
  else if 2 ≤ p.flags.toNat ∨ p.rsvd then complete 0x82 h .badParam 0 s
  else { s with fw := { s.fw with session := .committing, running := some h, activate := bitOf p.flags 0 } }

/-- The session ends and the lock is released. -/
def sessionClose (s : State) : State :=
  { s with fw := { s.fw with
    session := .idle, sessionId := 0, running := none, activate := false, blocks := [], inline_ := [], imageLen := 0 } }

/-- The codes of the lifecycle states (R415). -/
def lcCode : Lifecycle → Nat | .manufacture => 0 | .provisioned => 1 | .deployed => 2 | .returned => 3 | .retired => 4

/-- The lifecycle state of a code. -/
def lcOf : Nat → Option Lifecycle
  | 0 => some .manufacture | 1 => some .provisioned | 2 => some .deployed | 3 => some .returned | 4 => some .retired
  | _ => none

/-- The transitions a token may ask for (R400). -/
def lcAllowed (a b : Lifecycle) : Bool :=
  match a, b with
  | .manufacture, .provisioned => true
  | .provisioned, .deployed => true
  | .provisioned, .retired => true
  | .deployed, .returned => true
  | .deployed, .retired => true
  | .returned, .provisioned => true
  | .returned, .retired => true
  | _, _ => false

/-- The change a token's section asks for; none where it does not fit the current state (R401). -/
def tokenChange (s : State) (b : List Byte) : Option LcChange :=
  let tok := (List.range 8).findSome? fun k =>
    let (ty, off, len, _) := imgSection b k
    if ty = 0 then none else some (Config.tokenOf (slice b off len))
  match tok with
  | none => none
  | some (fromCode, toCode, cfg, link) =>
    match lcOf toCode with
    | none => none
    | some d =>
      if fromCode = lcCode s.mram.lifecycle ∧ lcAllowed s.mram.lifecycle d then some ⟨d, cfg, link⟩ else none

/-- The header checks of step 3, in order (R398, R411): none where the image passes. -/
def imageRefusal (s : State) (kind : Nat) (b : List Byte) : Option Status :=
  if !imgFormOk kind b then some .integrity
  else if !imgBindOk s kind b then some .access
  else if !imgSigOk s kind b then some .auth
  else none

/-- The link key's check against the digest in MRAM (R408, R411). -/
def keyRefusal (s : State) (b : List Byte) : Option Status :=
  if !zeroBytes b 48 4096 then some .integrity
  else if beNat (sha384 (b.take 48)) ≠ s.mram.linkDigest.toNat then some .auth
  else none

/-- The offsets of a session's blocks. -/
def blockOffsets (s : State) : List Nat := (List.range (s.fw.imageLen / 4096)).map (4096 * ·)

/-- What refuses a commit: status and detail (R411). -/
def commitRefusal (s : State) : Option (Status × W64) :=
  match (blockOffsets s).find? fun o => (lkp s.fw.blocks o).isNone with
  | some o => some (.integrity, put o 0)
  | none =>
    if (blockOffsets s).any fun o => lkp s.fw.blocks o != some (crc32c (sessionRead s o 4096)) then some (.integrity, 0)
    else
      let b := sessionRead s 0 s.fw.imageLen
      if s.fw.target = 3 then (keyRefusal s b).map fun st => (st, 0)
      else match imageRefusal s s.fw.target b with
        | some st => some (st, 0)
        | none =>
          if s.fw.target = 2 then
            if leAt b 20 1 % 2 = 0 then some (.access, 0)
            else if (tokenChange s b).isNone then some (.badParam, 0) else none
          else none

/-- The action of a commit that succeeds (R411, R399). -/
def commitAction (b : List Byte) (act : Bool) (s : State) : State :=
  let recovery := s.rm.stage == .recovery
  match s.fw.target with
  | 0 =>
    let s1 := modFwSlot (destIndex s 0)
      (fun _ => { state := .pending, version := imgVersion b, svn := imgSvn b, length := imgLen b }) s
    { s1 with rm := { s1.rm with activatePending := act || recovery } }
  | 1 =>
    let s1 := { s with fw := { s.fw with activeCfg := destIndex s 1, dirSeq := (s.fw.dirSeq + 1) % 2 ^ 32 } }
    { s1 with rm := { s1.rm with activatePending := act } }
  | 2 => { s with fw := { s.fw with token := tokenChange s b } }
  | _ =>
    let s1 := { s with trz := { s.trz with key := some (BitVec.ofNat 384 (leNat (b.take 48))) } }
    eachNat (fun p s =>
      let l := (meshPort s p).link
      if authReq s p && (l == .authFail || l == .auth) then meshAuth p s else s) (List.range 6) s1

/-- FW_COMMIT_CHECK_DONE (R411). -/
def commitCheckDone (s : State) : State :=
  match s.fw.session, s.fw.running with
  | .committing, some h =>
    match commitRefusal s with
    | some (st, d) =>
      let s1 := match st with | .auth => fwErr 1 s | .access => fwErr 2 s | _ => s
      let s2 := if s.fw.target = 0 then modFwSlot (destIndex s 0) (fun x => { x with state := .rejected }) s1 else s1
      complete 0x82 h st d (sessionClose s2)
    | none =>
      let b := sessionRead s 0 s.fw.imageLen
      let act := s.fw.activate
      sessionClose (commitAction b act (complete 0x82 h .ok 0 s))
  | _, _ => s

/-- A session ends early: a slot being written is left EMPTY, and a command it had running ends (R412). -/
def sessionAbort (s : State) : State :=
  if s.fw.session == .idle then s
  else
    let s1 := if s.fw.target = 0 then modFwSlot (destIndex s 0) (fun _ => {}) s else s
    let s2 := match s1.fw.running with
      | some h => fin h .aborted 0 s1
      | none => s1
    sessionClose s2

/-- FW_ABORT (R412). -/
def doFwAbort (h : Hdr) (p : FwAbortP) (s : State) : State :=
  if s.fw.session == .idle || p.session == 0 || p.session != s.fw.sessionId then complete 0x83 h .access 0 s
  else if p.rsvd then complete 0x83 h .badParam 0 s
  else if s.fw.session == .committing then complete 0x83 h .busy 0 s
  else complete 0x83 h .ok 0 (sessionAbort s)

/-- FW_LOCK_EXPIRY (R408, R412). -/
def lockExpiry (s : State) : State :=
  if s.fw.session == .receiving then log .fwLockExpired [] (fwErr 3 (sessionAbort s)) else s

/-! ### The Safety Net (R413, R414) -/

/-- The window a boot opens: FW_CONFIRM_WIN seconds, 120 where it is out of range (R413, R417). -/
def confirmSeconds (s : State) : Nat :=
  let n := fld s.fw.confirmWin 11 0
  if 10 ≤ n ∧ n ≤ 3600 then n else 120

/-- The current boot is confirmed; the third makes the slot CONFIRMED (R413, R414). -/
def bootConfirm (s : State) : State :=
  let n := s.fw.confirms + 1
  let s1 := { s with fw := { s.fw with confirms := n, bootConfirmed := true, winEnd := none,
                                       dirSeq := (s.fw.dirSeq + 1) % 2 ^ 32 } }
  if n < 3 then s1
  else
    let run := s.rm.runSlot
    let svn := (fwSlot s run).svn
    let s2 := modFwSlot (1 - run % 2) (fun x => if x.state == .confirmed then { x with state := .valid } else x)
      (modFwSlot run (fun x => { x with state := .confirmed }) s1)
    { s2 with mram := { s2.mram with minSvn := max s2.mram.minSvn svn } }

/-- FW_CONFIRM (R414). -/
def doFwConfirm (h : Hdr) (p : FwConfirmP) (s : State) : State :=
  if p.rsvd then complete 0x84 h .badParam 0 s
  else if p.version ≠ (fwSlot s s.rm.runSlot).version then complete 0x84 h .badParam 0 s
  else if inTrial s && !s.fw.bootConfirmed then
    let s1 := bootConfirm s
    complete 0x84 h .ok (put s1.fw.confirms 0 ||| put s.fw.trialBoot 8) s1
  else complete 0x84 h .ok 0 s

end Sys2Proof.Machine
end

