-- ==== Sys2Proof/Machine/Boot.lean ====
section
/-! DEFINITION. Resets, start stages, the secure wipe's causes, lifecycle changes, clocks and supply events (R266,
R386, R388, R390 to R402, R413, R424, R446 to R455). -/

namespace Sys2Proof.Machine

/-! ### Device resets (R390, R391) -/

/-- What a device reset keeps: MRAM, the serial flash and its directory, VAON's latches and free-running MT counter
(R20), TB1 and TB3; the scene directory, the log and the show store are lost (R391). -/
def resetState (s : State) : State :=
  let w := s.fw
  let r := s.rm
  let c := s.clp
  { State.reset with
    rm := { State.reset.rm with
      resetCause := r.resetCause, resets := r.resets, tamperNow := r.tamperNow, tamperLatch := r.tamperLatch,
      tripped := r.tripped, brown := r.brown, vaon := r.vaon, lref := r.lref, smbAddr := r.smbAddr,
      thermtrip := r.thermtrip, tap := r.tap }
    mram := s.mram
    clp := { State.reset.clp with cycle := c.cycle, tb1 := c.tb1, tb3 := c.tb3, keep1 := some (tb1Inc c), keep3 := some (tb3Inc c) }
    fw := { State.reset.fw with
      slot0 := w.slot0, slot1 := w.slot1, dirSeq := w.dirSeq, trialBoot := w.trialBoot, confirms := w.confirms,
      bootConfirmed := w.bootConfirmed, activeCfg := w.activeCfg, flash := w.flash }
    out := s.out
    free := s.free
    pending := s.pending }

/-- A firmware slot being written when the device resets is left EMPTY (R412). -/
def resetSlot (s : State) : State :=
  if s.fw.session != .idle && s.fw.target == 0 then modFwSlot (destIndex s 0) (fun _ => {}) s else s

/-- A device reset with a cause (R390, R391); the Safety Net's shows in FW_ERR.FALLBACK (R413). -/
def deviceReset (cause : Nat) (s : State) : State :=
  let s1 := resetState (resetSlot s)
  let s2 := { s1 with rm := { s1.rm with resetCause := cause, resets := satAdd 8 s1.rm.resets 1 } }
  if cause = 5 then fwErr 4 s2 else s2

/-- Causes 2, 3 and 4 run the fast power-down in hardware before reset takes hold (R391). -/
def hardReset (cause : Nat) (s : State) : State := deviceReset cause (fastPowerDownWhole s)

/-- Causes 5, 6 and 7 first run the native power-down when panel power is not OFF (R391). -/
def softReset (cause : Nat) (s : State) : State :=
  match s.pwr.state with
  | .off => deviceReset cause s
  | .faulted => deviceReset cause s
  | _ => let s1 := powerDown false s; { s1 with rm := { s1.rm with resetAfterDown := some cause } }

/-- A reset that waited for the native power-down, once it has ended. -/
def resetDue (s : State) : State :=
  match s.rm.resetAfterDown, s.pwr.state with
  | some c, .off => deviceReset c s
  | some c, .faulted => deviceReset c s
  | _, _ => s

/-- A power-on reset: nothing but MRAM and the serial flash is kept (R390, R450). -/
def powerCycle (vaon : Bool) (smbAddr : Nat) (s : State) : State :=
  let s1 := resetState (resetSlot s)
  { s1 with
    rm := { State.reset.rm with vaon := vaon, smbAddr := smbAddr % 8, lref := s.rm.lref, tamperNow := s.rm.tamperNow,
                                tamperLatch := s.rm.tamperNow }
    clp := State.reset.clp }

/-- RESET_N held low: a device reset unless a trip or a brownout holds reset (R390, R446, R451). -/
def resetPin (smbAddr : Nat) (s : State) : State :=
  if s.rm.tripped || s.rm.brown.isSome || !s.rm.vaon then s
  else
    let s1 := hardReset 2 s
    { s1 with rm := { s1.rm with smbAddr := smbAddr % 8 } }

/-- A write of RM_RESET (R390). -/
def rmReset (v : W32) (s : State) : State := if v = 0x00009216 then hardReset 4 s else s

/-- The number of a stage in RM_BOOT_STATUS (R415). -/
def stageCode : Stage → Nat
  | .por => 0 | .rom => 1 | .load => 2 | .train => 3 | .check => 4 | .ready => 5 | .recovery => 6

/-- The time has come at which the running watchdog expires (R392). -/
def wdogTime (s : State) : State := clockRun (1600000 * (s.rm.wdogStart + s.rm.wdogTimeout) - s.clp.cycle) s

/-- The watchdog expires, TIMEOUT after its last start: a record names the last stage reached, then cause 3 (R392). -/
def watchdogExpire (s : State) : State :=
  if s.rm.wdogRunning then hardReset 3 (journalRecord .wdogRecord false [stageCode s.rm.stage] (wdogTime s)) else s

/-! ### Supplies (R450, R451) -/

/-- The number a rail has in a journal record: its place in the table of R459. -/
def railCode : Rail → Nat
  | .vcore => 0 | .vsram => 1 | .vser => 2 | .vserh => 3 | .vddq => 4 | .vaux => 5 | .vauxa => 6

/-- A brownout: fast power-down, reset held, and a record when panel power was not OFF (R450). -/
def brownout (r : Rail) (s : State) : State :=
  if s.rm.tripped || s.rm.brown.isSome || !s.rm.vaon then s
  else
    let s1 := fastPowerDownWhole s
    let s2 := if s.pwr.state == .off then s1 else journalRecord .brownout true [railCode r] s1
    deviceReset 8 { s2 with rm := { s2.rm with brown := some r } }

/-- Every rail is back: reset is released (R450). -/
def brownoutEnd (s : State) : State := { s with rm := { s.rm with brown := none } }

/-- A trip: two in-range conversions at or above TRIP, of one sensor or of the two of a site (R386). -/
def thermalTrip (i : Nat) (temp prev : Int) (s : State) : State :=
  if s.rm.tripped || !s.rm.vaon || decide (temp < thTrip ∨ prev < thTrip ∨ 2400 < temp ∨ 2400 < prev) ||
      !sensServes s i then s
  else
    let rec_ := tripRecord i temp prev s
    let s1 := fastPowerDownWhole { s with rm := { s.rm with thermtrip := true, tripped := true } }
    resetState (resetSlot (journalWrite .thTrip (logSlot .thTrip) true true rec_ s1))

/-! ### The secure part (R266, R402) -/

/-- A wipe destroys the link key, the session keys and the update session (R402). -/
def secureLost (s : State) : State :=
  let s1 := sessionAbort { s with trz := { s.trz with key := none } }
  eachNat (fun p => modMesh p fun m => { m with session := none }) (List.range 6) s1

/-- A port's handshake starts anew, to fail until the key is installed again (R402). -/
def secureMesh (s : State) : State :=
  eachNat (fun p s =>
    let l := (meshPort s p).link
    if authReq s p && (l == .auth || l == .active) then meshAuth p s else s) (List.range 6) s

/-- What tamper adds to a wipe: SEEN, its count and a record (R402, R415). -/
def tamperNote (s : State) : State :=
  journalRecord .secTamper false []
    { s with rm := { s.rm with tamperSeen := true, tamperWipes := satAdd 8 s.rm.tamperWipes 1 } }

/-- TAMPER_N asserted: latched while reset is held, carried out at once otherwise (R266, R402, R451). -/
def tamperAssert (s : State) : State :=
  let s1 := { s with rm := { s.rm with tamperNow := true } }
  if s.rm.stage == .por then { s1 with rm := { s1.rm with tamperLatch := true } }
  else secureMesh (secureLost (tamperNote (wipeStart 1 s1)))

/-- A latched tamper is carried out as a wipe before core 0 leaves reset (R266). -/
def tamperLatched (w : WipeEnv) (s : State) : State :=
  if s.rm.tamperLatch then
    wipeRun w.first w.second (tamperNote (wipeStart 1 { s with rm := { s.rm with tamperLatch := false } }))
  else s

/-! ### Lifecycle (R400, R401, R424) -/

/-- The digests are written, the state is committed and the pending record is cleared (R401 step 3); RETURN
clears the integrator's digests and both spare maps (R400, R424). -/
def lcApply (s : State) : State :=
  match s.mram.pending with
  | none => s
  | some c =>
    let m := { s.mram with lifecycle := c.dest, pending := none }
    { s with mram := match c.dest with
      | .deployed => { m with intDigest := c.cfgDigest, linkDigest := c.linkDigest }
      | .returned => { m with intDigest := 0, linkDigest := 0, mapA := {}, mapB := {} }
      | _ => m }

/-- Steps 2 and 3 of R401. -/
def lcCarry (w : WipeEnv) (s : State) : State :=
  if s.mram.pending.isNone then s else lcApply (wipeRun w.first w.second (wipeStart 2 (secureLost s)))

/-- LIFECYCLE_CHANGE: an accepted token is carried out and the device resets with cause 7 (R401). -/
def lifecycleChange (w : WipeEnv) (s : State) : State :=
  match s.fw.token with
  | none => s
  | some c =>
    softReset 7 (lcCarry w { s with
      mram := { s.mram with pending := some c }
      fw := { s.fw with token := none } })

/-! ### Start: POR and ROM (R393, R396, R398, R399) -/

/-- VCORE and VSRAM are good: a latched tamper and a pending change are carried out, and ROM begins (R393). -/
def porDone (tamper lc : WipeEnv) (s : State) : State :=
  if s.rm.stage != .por || s.rm.brown.isSome || s.rm.tripped || !s.rm.vaon then s
  else
    let s1 := { s with mram := { s.mram with bootCount := (s.mram.bootCount + 1) % 2 ^ 32 } }
    let s2 := lcCarry lc (tamperLatched tamper s1)
    let s3 := { s2 with rm := { s2.rm with stage := .rom } }
    if s.rm.lref then s3 else log .clkLrefAbsent [] s3

/-- The slot in a state, the lower number first. -/
def slotIn (s : State) (st : FwSlotState) : Option Nat :=
  if s.fw.slot0.state == st then some 0 else if s.fw.slot1.state == st then some 1 else none

/-- One selection of a slot, with the change of the directory that it makes (R396 rules 1 to 3). -/
def slotSelect (s : State) : Option Nat × State :=
  match slotIn s .pending with
  | some i =>
    let s1 := modFwSlot i (fun x => { x with state := .trial }) s
    (some i, { s1 with fw := { s1.fw with trialBoot := 1, confirms := 0, bootConfirmed := false } })
  | none =>
    let settled (s : State) : Option Nat :=
      match slotIn s .confirmed with | some i => some i | none => slotIn s .valid
    match slotIn s .trial with
    | some i =>
      if s.fw.bootConfirmed then
        (some i, { s with fw := { s.fw with trialBoot := (s.fw.trialBoot + 1) % 8, bootConfirmed := false,
                                            dirSeq := (s.fw.dirSeq + 1) % 2 ^ 32 } })
      else
        let s1 := modFwSlot i (fun x => { x with state := .rejected }) s
        (settled s1, s1)
    | none => (settled s, s)

/-- A slot is selected and verified; one that fails becomes REJECTED and the other is tried (R396 rule 4). -/
def slotBoot : Nat → State → Option Nat × State
  | 0, s => (none, s)
  | n + 1, s =>
    match slotSelect s with
    | (none, s1) => (none, s1)
    | (some i, s1) =>
      if imgOk s1 0 (slotImage s1 i) then (some i, s1)
      else slotBoot n (journalRecord .slotVerify false [i] (fwErr 5
        (modFwSlot i (fun x => { x with state := .rejected }) s1)))

/-- The end of ROM: an image runs, or RECOVERY (R393, R396, R399, R400). -/
def romDone (s : State) : State :=
  if s.rm.stage != .rom then s
  else
    let (pick, s1) := if s.mram.lifecycle == .retired then (none, s) else slotBoot 3 s
    match pick with
    | some i =>
      let trial := if (fwSlot s1 i).state == .trial then s1.fw.trialBoot else 0
      { s1 with rm := { s1.rm with stage := .load, runSlot := i, trialIndex := trial, wdogRunning := true, wdogStart := mtOf s1 } }
    | none => { s1 with rm := { s1.rm with stage := .recovery, trialIndex := 0, wdogRunning := true, wdogStart := mtOf s1 } }

/-! ### LOAD (R299, R326, R393, R397, R398, R406, R430) -/

/-- The declared sensors of a configuration are ONLINE from start; undeclared ones stay OFFLINE (R376, R378). -/
def declareUnits (s : State) : State :=
  eachNat (fun k s =>
    let i := 40 + k
    if sensDeclared s i then modUnit 5 i (fun u => { u with state := .online, cause := 0 }) s else s) (List.range 244) s

/-- The static entry that gives host functions the lens-alignment table (R434), and core firmware and the Hall of
Mirrors their access to it. -/
def lensEntry : TrnEntry where
  base := 0x1D8000000
  limit := 0x1DA1BF000
  r := 0x20178
  w := 0x2007B
  valid := true

/-- A static entry of the configuration's policy may stand at this place (R406). -/
def policyPlace (p : PolicyEntry) : Bool := decide (p.target < 4 ∧ p.index < 256 ∧ (p.target ≠ 0 ∨ 128 ≤ p.index))

/-- The static Turnstile policy, and the lock that freezes it (R406). -/
def policyLoad (l : List PolicyEntry) (s : State) : State :=
  let one (s : State) (p : PolicyEntry) : State :=
    if policyPlace p then
      trnSet p.target p.index { base := p.base, limit := p.limit, r := p.r, w := p.w, x := p.x, valid := true, fence := p.fence } s
    else s
  let s1 := l.foldl one (trnSet 0 128 lensEntry s)
  { s1 with trn := { s1.trn with lock := true } }

/-- The active configuration is applied, and the registers it loads are locked (R299, R326, R393). -/
def configApply (c : ConfigItems) (s : State) : State :=
  let s1 := policyLoad c.policy { s with
    hq := { s.hq with subsystem := c.subsystem, hbMode := c.hbMode, failoverMs := c.failoverMs % 65536, portLock := true }
    trz := { s.trz with
      id := match c.trzId with | some i => put (i % 16384) 0 ||| putB true 30 ||| putB true 31 | none => s.trz.id
      routes := c.routes.foldl (fun m r => spSet 7 m (r.1 % 16384) (r.2 % 8)) s.trz.routes }
    th := { s.th with
      psens := c.psens.foldl (fun m r => if r.1 < 30 then spSet 0 m r.1 r.2 else m) s.th.psens
      ntcEn := c.ntc % 16
      sensors := c.neighbours.foldl (fun m r =>
        if r.1 < 40 then spMod {} m r.1 fun x => { x with nbr := r.2 &&& 0x3F3F3F3F } else m) s.th.sensors }
    fw := { s.fw with confirmWin := put (c.confirmWin % 4096) 0, confirmLock := true,
                      policy := putB c.self 0 ||| putB true 31 }
    jgl := { s.jgl with cfg := put (c.spareCh % 4) 0 ||| putB c.holdLow 2 ||| putB c.spareRank 3 } }
  declareUnits s1

/-- The configuration copy used: the active one when it passes, else the other (R398). -/
def copyUsed (s : State) : Option Nat :=
  let a := s.fw.activeCfg % 2
  if imgOk s 1 (copyImage s a) then some a else if imgOk s 1 (copyImage s (1 - a)) then some (1 - a) else none

/-- The configuration copy that LOAD takes is applied, or FW_STATUS says that the active one failed (R365, R373). -/
def configLoad (c : ConfigItems) (s : State) : State :=
  match copyUsed s with
  | some i =>
    let s' := if i = s.fw.activeCfg % 2 then s else fwErr 6 s
    configApply c { s' with rm := { s'.rm with cfgCopy := i } }
  | none => fwErr 6 s

/-- LOAD: firmware sections, configuration, factory calibration (R393). -/
def loadDone (c : ConfigItems) (s : State) : State :=
  if s.rm.stage != .load then s
  else
    let wave := memWrite 0 [] 0 (sectionOf (slotImage s s.rm.runSlot) 3)
    let s0 := eachNat (fun n s => setCopy n wave 0 s) (List.range 3) s
    let s1 := { s0 with
      log := { s0.log with codes := c.dictCodes, sources := c.dictSources }
      px := { s0.px with config := c.partnerConfig } }
    let s3 := factoryLoad c.factoryRecord (configLoad c s1)
    { s3 with rm := { s3.rm with stage := .train } }

/-! ### TRAIN (R234, R237, R239, R242, R244, R245, R424) -/

/-- Units of a class that the committed map names SPARED, and each unit with the spare that serves in its place, as they
stand from start (R211, R235, R264, R347, R378). -/
def mapUnits (cls : Nat) (spared : List Nat) (serving : List (Nat × Nat)) (s : State) : State :=
  let s1 := spared.foldl (fun s i => modUnit cls i (fun u => { u with state := .spared, cause := 6 }) s) s
  serving.foldl (fun s c => unitPair cls c.1 c.2 (modUnit cls c.2 (fun u => { u with state := .online, cause := 0 }) s)) s1

/-- The entries of a map whose unit is one of a class's spares, `lo` to `hi` - 1. -/
def mapSpares (m : Sparse Nat) (lo hi : Nat) : List (Nat × Nat) := m.filter fun c => decide (lo ≤ c.2 ∧ c.2 < hi)

/-- The committed spare map is applied to every block but the Juggler (R393, R424). -/
def mapApply (m : SpareMap) (s : State) : State :=
  let banks := m.spmSpared.foldl (fun b i => spMod (bankDflt i) b i fun x => { x with power := .off })
    ((m.spmMap.map (·.2)).foldl (fun b i => spMod (bankDflt i) b i fun x => { x with power := .on }) s.spm.banks)
  let s1 := { s with
    hom := { s.hom with pipeMap := m.homMap }
    spm := { s.spm with map := m.spmMap, banks := banks }
    px := { s.px with sliceMap := m.pxMap }
    th := { s.th with sensors := m.thSpare.foldl (fun t c => spMod {} t c.1 fun x => { x with servesFor := some c.2 }) s.th.sensors } }
  let s2 := eachNat (fun p => modMesh p fun x => { x with bad := BitVec.ofNat 16 (spGet 0 m.trzBad p) }) (List.range 6) s1
  mapUnits 5 (m.thSpare.map (·.2)) (m.thSpare.map fun c => (c.2, c.1))
    (mapUnits 3 m.pxSpared (mapSpares m.pxMap 30 32)
      (mapUnits 1 m.spmSpared (mapSpares m.spmMap 512 544)
        (mapUnits 2 m.homSpared (mapSpares m.homMap 64 72) s2)))

/-- What start training makes of one channel (R234, R242, R244, R468). -/
inductive ChanStart
  | absent | mismatch | spared | failed | good (rank : Option Nat)
deriving DecidableEq, Repr

/-- The verdict on a channel: population, committed map, and the ranks that failed. A rank the committed map
replaces is not trained; one failing rank may take the spare rank (R242, R244). -/
def chanStart (m : SpareMap) (spareRank : Bool) (t : ChannelTrain) : ChanStart :=
  let old := lkp m.jglRank t.channel
  let bad := t.failedRanks.filter fun r => old != some r
  if !t.populated then .absent
  else if !t.matching then .mismatch
  else if m.jglSpared.contains t.channel then .spared
  else if bad.isEmpty then .good none
  else match bad, old with
    | [r], none => if spareRank && decide (2 ≤ t.ranks) then .good (some r) else .failed
    | _, _ => .failed

/-- The entry of a channel in a training result; an unlisted channel is unpopulated. -/
def chanFound (t : TrainEnv) (c : Nat) : ChannelTrain :=
  (t.channels.find? fun x => x.channel == c).getD ⟨c, false, false, 0, []⟩

/-- The channels that hold slots, in slot order, as the committed map has them: a SPARED channel's slot belongs to
the spare that took it (R242, R245). -/
def committedSlots (m : SpareMap) (base : List Nat) : List Nat :=
  (List.range base.length).map fun i =>
    let c := base.getD i 0
    if m.jglSpared.contains c then spGet i m.jglSlot i else c

/-- Failed channels leave their slots to idle spares in order, lowest slot first; what is left over goes (R242). -/
def fillSlots (ok : Nat → Bool) : List Nat → List Nat → List Nat × List (Nat × Nat)
  | [], _ => ([], [])
  | c :: r, idle =>
    if ok c then let (l, u) := fillSlots ok r idle; (c :: l, u)
    else match idle with
      | d :: idle' => let (l, u) := fillSlots ok r idle'; (d :: l, (c, d) :: u)
      | [] => fillSlots ok r []

/-- A channel's register fields and unit state after start training (R235, R258). -/
def chanTrained (m : SpareMap) (rankSpare : Bool) (t : ChannelTrain) (s : State) : State :=
  let v := chanStart m rankSpare t
  let c := t.channel
  let rank := match v with | .good (some r) => some r | _ => lkp m.jglRank c
  let s1 := modChan c (fun x => { x with
    ranks := if t.populated then t.ranks % 16 else 0, rankSpared := rank.isSome, rankReplaced := rank.getD 0 }) s
  match v with
  | .absent => s1
  | .mismatch => jglErr 6 (modUnit 0 c (fun u => { u with cause := 2 }) s1)
  | .spared => modUnit 0 c (fun u => { u with state := .spared, cause := 6 }) s1
  | .failed => jglErr 4 (modUnit 0 c (fun u => { u with cause := 3 }) s1)
  | .good _ => modUnit 0 c (fun u => { u with lastTest := true, cause := 5 }) s1

/-- The channel at a number trained and can hold a slot. -/
def chanGood (m : SpareMap) (rankSpare : Bool) (t : TrainEnv) (c : Nat) : Bool :=
  match chanStart m rankSpare (chanFound t c) with | .good _ => true | _ => false

/-- SPARE_RANK is set and every channel found has the 2 ranks it needs (R244). -/
def spareRankUsed (s : State) (t : TrainEnv) (chs : List Nat) : Bool :=
  bitOf s.jgl.cfg 3 && chs.all fun c => decide (2 ≤ (chanFound t c).ranks)

/-- Stripes of the interleave: 256-byte lines of a channel's usable ranks, the spare rank and the reserved rows left
out by `rankBytes` (R239, R242, R244). -/
def stripesOf (s : State) (t : TrainEnv) (chs : List Nat) : Nat :=
  match chs with
  | [] => 0
  | c :: _ => let r := (chanFound t c).ranks; t.rankBytes * (if spareRankUsed s t chs then r - 1 else r) / 256

/-- The Juggler's part of TRAIN (R234, R237, R239, R242). -/
def jglTrain (t : TrainEnv) (s : State) : State :=
  let m := mapInForce s.mram
  let present := (List.range 24).filter fun c => (chanFound t c).populated && (chanFound t c).matching
  let rankSpare := spareRankUsed s t present
  let keep := present.length - spareChCount s
  let slots0 := committedSlots m (present.take keep)
  let s1 := (List.range 24).foldl (fun s c => chanTrained m rankSpare (chanFound t c) s) s
  let idle := (present.drop keep).filter fun c => chanGood m rankSpare t c && !slots0.contains c
  let (slots, used) := fillSlots (chanGood m rankSpare t) slots0 idle
  let s2 := slots.foldl (fun s c => unitTo 0 c .online 0 s) s1
  let s2 := (List.range keep).foldl (fun s i =>
    let c := present.getD i 0
    if m.jglSpared.contains c then unitPair 0 c (spGet i m.jglSlot i) s else s) s2
  let s3 := used.foldl (fun s u => unitPair 0 u.1 u.2 (unitTo 0 u.1 .spared 3 s)) s2
  let s4 := buildMap slots (stripesOf s3 t slots) s3
  let s5 := { s4 with jgl := { s4.jgl with
    idleSpares := idle.filter fun c => !slots.contains c, capacity := 256 * s4.jgl.stripes
    state := if slots.length < 8 then .noService else .high, cfg := setBit s4.jgl.cfg 8 } }
  let s6 := { s5 with scene := { s5.scene with storeSize := storeGib s5.jgl.limit } }
  let s7 := if slots.length < 8 then s6 else widthCheck s6
  let newRank := present.any fun c =>
    match chanStart m rankSpare (chanFound t c) with | .good (some _) => true | _ => false
  if used.isEmpty && !newRank then s7 else commitMap true s7

/-- The end of TRAIN, when DRAM first holds the backing copy of the waveform image (R131, R148); it waits while LREFCLK is absent (R242, R393, R455). -/
def trainStageDone (t : TrainEnv) (s : State) : State :=
  if s.rm.stage != .train || !s.rm.lref then s
  else
    let s1 := mapApply (mapInForce s.mram) s
    let s2 := dramStore portRm waveBacking (sectionOf (slotImage s s.rm.runSlot) 3) (jglTrain t s1)
    { s2 with rm := { s2.rm with stage := .check }, clr := { s2.clr with backing := s2.clr.tblAct } }

/-! ### CHECK and READY (R348, R380, R388, R394, R413) -/

/-- An idle unit's start-up test has failed (R393, R468). -/
def startTestFail (cls i : Nat) (s : State) : State :=
  if (unitOf s cls i).state == .offline then modUnit cls i (fun u => { u with lastTest := false, cause := 10 }) s else s

/-- Every unit takes the generation of this start (R348). -/
def gensStart (s : State) : State :=
  let g : W16 := BitVec.ofNat 16 (256 * s.mram.bootCount)
  { s with
    genBase := g
    units := s.units.foldl (fun m c =>
      spSet (unitDflt g (c.1 / 1024) (c.1 % 1024)) m c.1 { c.2 with gen := g }) [] }

/-- An uncleared trip record: restricted mode, with the Juggler at its low point (R256, R388). -/
def tripCheck (s : State) : State :=
  if (tripSlot s).isNone then s
  else
    let s1 := { s with th := { s.th with restricted := true, tripRecord := true } }
    if s1.jgl.state == .high then
      { s1 with jgl := { s1.jgl with state := .low, fc := satAdd 16 s1.jgl.fc 1 } }
    else s1

/-- READY: what was held is applied, and a TRIAL boot's confirm window opens (R394, R413, R414). -/
def readyEnter (s : State) : State :=
  let held := s.hq.early
  let s1 := { s with
    rm := { s.rm with stage := .ready }
    hq := { s.hq with early := [] } }
  let s2 := applyEarly held s1
  let s3 := if inTrial s2 then
      let s' := { s2 with fw := { s2.fw with winEnd := some (mtOf s2 + 1000 * confirmSeconds s2) } }
      if bitOf s'.fw.policy 0 && s'.jgl.state == .high then bootConfirm s' else s'
    else s2
  meshStartAll s3

/-- The end of CHECK (R393). -/
def checkDone (c : CheckEnv) (s : State) : State :=
  if s.rm.stage != .check then s
  else
    let s1 := (c.banksFailed.filter (· < 544)).foldl (fun s b => startTestFail 1 b s) s
    let s2 := (c.sparesFailed.filter fun i => decide (36 ≤ i ∧ i < 40)).foldl (fun s i => startTestFail 5 i s) s1
    readyEnter (tripCheck (gensStart s2))

/-! ### The Safety Net (R411, R413) -/

/-- FW_ACTIVATE_RESET (R399, R411). -/
def activateReset (s : State) : State :=
  if s.rm.activatePending then softReset 6 { s with rm := { s.rm with activatePending := false } } else s

/-- The confirm window closes unconfirmed (R413). -/
def windowExpire (s : State) : State :=
  if s.fw.winEnd.isNone then s
  else
    let s1 := modFwSlot s.rm.runSlot (fun x => { x with state := .rejected })
      { s with fw := { s.fw with winEnd := none } }
    softReset 5 (fwErr 4 (journalRecord .fwFallback false [s.rm.runSlot] s1))

/-! ### LREFCLK (R455) -/

/-- LREFCLK is lost: before READY it is absent at start; while running the panel goes down fast, DRAM goes into
self-refresh and every mesh port to RETRAIN (R455). -/
def lrefLost (s : State) : State :=
  if !s.rm.lref then s
  else
    let s1 := { s with rm := { s.rm with lref := false } }
    match s.rm.stage with
    | .por => s1
    | .rom => log .clkLrefAbsent [] s1
    | .load => log .clkLrefAbsent [] s1
    | .train => log .clkLrefAbsent [] s1
    | _ =>
      let s2 := fastPowerDown s1
      let s3 := { s2 with jgl := { s2.jgl with selfRefresh := true } }
      log .clkLrefLost [] (eachNat meshRetrain (List.range 6) s3)

/-- LREFCLK is present again: channels retrain in place, and TB1 of a device that is not grandmaster relocks (R455). -/
def lrefReturn (s : State) : State :=
  if s.rm.lref then s
  else
    let s1 := { s with rm := { s.rm with lref := true } }
    if !s1.jgl.selfRefresh then s1
    else
      let s2 := { s1 with jgl := { s1.jgl with selfRefresh := s1.jgl.state == .switching } }
      let s3 := eachNat (fun c s => if unitUp (unitOf s 0 c) then unitLasting 0 c s else s) (List.range 24) s2
      if isGm s3 then s3 else { s3 with clp := { s3.clp with state := .unlocked } }

end Sys2Proof.Machine
end

