-- ==== Sys2Proof/Machine/Operands.lean ====
section
/-! DEFINITION. Command packets (R333, R339): the 16-byte header, the opcodes with their lengths and paths, every
command's parameters read from its bytes, and the packet that a command is written as. -/

namespace Sys2Proof.Machine

/-- A little-endian field of `k` bytes at byte `i`, as a word of `n` bits. -/
def fieldAt (n : Nat) (b : List Byte) (i k : Nat) : BitVec n := BitVec.ofNat n (leAt b i k)

/-- Bytes `i` up to, but not including, `j` are not all 0: a reserved field is not 0 (R333). -/
def rsvdAt (b : List Byte) (i j : Nat) : Bool := !zeroBytes b i j

/-! ### The header -/

/-- The fields of the packet header. -/
structure PktHead where
  opcode : Byte
  flags : Byte
  length : Nat
  tag : W32
  qseq : W16
  gen : W16
  rsvd : Bool
deriving DecidableEq, Repr

/-- The header of a packet. -/
def parseHead (b : List Byte) : PktHead where
  opcode := byteAt b 0
  flags := byteAt b 1
  length := leAt b 2 2
  tag := fieldAt 32 b 4 4
  qseq := fieldAt 16 b 8 2
  gen := fieldAt 16 b 10 2
  rsvd := rsvdAt b 12 16

/-- The header as the machine keeps it, with the source the packet came from. -/
def headHdr (src : Src) (x : PktHead) : Hdr where
  src := src
  tag := x.tag
  qseq := x.qseq
  ordered := bitOf x.flags 0
  quiet := bitOf x.flags 1
  ackEarly := bitOf x.flags 2
  gen := x.gen

/-! ### The catalogue (R339, R370, R409 to R414, R431 to R433) -/

/-- LENGTH of an opcode in dwords; none for an unknown opcode. -/
def opLength (op : Nat) : Option Nat :=
  match op with
  | 0x01 => some 4 | 0x02 => some 8
  | 0x10 => some 10 | 0x11 => some 10 | 0x12 => some 10 | 0x13 => some 10 | 0x14 => some 12
  | 0x30 => some 8 | 0x31 => some 8 | 0x38 => some 12
  | 0x40 => some 8 | 0x41 => some 8
  | 0x50 => some 16 | 0x51 => some 16 | 0x52 => some 16
  | 0x60 => some 12 | 0x61 => some 12 | 0x62 => some 10 | 0x63 => some 10
  | 0x70 => some 8 | 0x71 => some 8
  | 0x80 => some 8 | 0x81 => some 1032 | 0x82 => some 8 | 0x83 => some 8 | 0x84 => some 8
  | 0x90 => some 8 | 0x91 => some 8 | 0x92 => some 40
  | 0xA0 => some 8 | 0xB0 => some 8 | 0xB1 => some 8 | 0xC0 => some 8 | 0xF0 => some 8
  | _ => none

/-- The opcode of a command. -/
def opcodeOf : Cmd → Byte
  | .nop => 0x01 | .fence _ => 0x02
  | .sceneLoadOpen _ => 0x10 | .sceneLoadData _ _ => 0x10 | .sceneLoadClose _ => 0x10 | .sceneLoadFree _ => 0x10
  | .sceneLoadBad _ _ => 0x10
  | .scenePlay _ => 0x11 | .sceneStop _ => 0x12 | .sceneSeek _ => 0x13 | .frameSubmit _ => 0x14
  | .layerSet _ => 0x30 | .commit _ => 0x31 | .timingSet _ => 0x38
  | .updateRegion _ => 0x40 | .waveformLoad _ => 0x41
  | .blitFill _ => 0x50 | .blitCopy _ => 0x51 | .blitConvert _ => 0x52
  | .ctnEncode _ => 0x60 | .ctnDecode _ => 0x61 | .ctnSave _ => 0x62 | .ctnRestore _ => 0x63
  | .surfaceRegister _ => 0x70 | .surfaceRelease _ => 0x71
  | .fwOpen _ => 0x80 | .fwBlock _ => 0x81 | .fwCommit _ => 0x82 | .fwAbort _ => 0x83 | .fwConfirm _ => 0x84
  | .calRun _ => 0x90 | .calRead _ => 0x91 | .calWrite _ => 0x92
  | .meshSend _ _ => 0xA0 | .unitGet _ => 0xB0 | .unitSet _ => 0xB1
  | .logEntries _ => 0xC0 | .logCodes _ => 0xC0 | .logSources _ => 0xC0 | .logBad _ _ => 0xC0
  | .resetUnit _ => 0xF0

/-- The commands the mailbox does not take (R339). -/
def mailboxTakes : Cmd → Bool
  | .fence _ => false
  | .sceneLoadData _ _ => false
  | .frameSubmit _ => false
  | .waveformLoad _ => false
  | .meshSend _ _ => false
  | _ => true

/-- The opcodes whose header carries a GEN (R333). -/
def takesGen (op : Byte) : Bool := op == 0xB1 || op == 0xF0

/-! ### Parameters -/

/-- SCENE_LOAD (R68). -/
def sceneLoadAt (b : List Byte) : SceneLoadP :=
  ⟨fieldAt 8 b 17 1, fieldAt 16 b 18 2, fieldAt 64 b 20 8, fieldAt 64 b 28 8, fieldAt 32 b 36 4⟩

/-- SCENE_PLAY and SCENE_SEEK (R76). -/
def scenePlayAt (b : List Byte) : ScenePlayP :=
  ⟨fieldAt 8 b 16 1, fieldAt 8 b 17 1, fieldAt 32 b 20 4, fieldAt 96 b 24 12, rsvdAt b 18 20 || rsvdAt b 36 40⟩

/-- SCENE_STOP (R76). -/
def sceneStopAt (b : List Byte) : SceneStopP := ⟨fieldAt 8 b 16 1, fieldAt 8 b 17 1, rsvdAt b 18 40⟩

/-- FRAME_SUBMIT (R72). -/
def frameSubmitAt (b : List Byte) : FrameSubmitP :=
  ⟨fieldAt 64 b 16 8, fieldAt 32 b 24 4, fieldAt 32 b 28 4, fieldAt 96 b 32 12, rsvdAt b 44 48⟩

/-- LAYER_SET (R122). -/
def layerSetAt (b : List Byte) : LayerSetP :=
  ⟨fieldAt 8 b 16 1, fieldAt 8 b 17 1, fieldAt 16 b 18 2, fieldAt 16 b 20 2, fieldAt 16 b 22 2, fieldAt 32 b 24 4,
   rsvdAt b 28 32⟩

/-- COMMIT (R168). -/
def commitAt (b : List Byte) : CommitP := ⟨fieldAt 8 b 16 1, fieldAt 96 b 20 12, rsvdAt b 17 20⟩

/-- TIMING_SET (R176). -/
def timingSetAt (b : List Byte) : TimingSetP :=
  ⟨fieldAt 8 b 16 1, fieldAt 8 b 17 1, fieldAt 16 b 20 2, fieldAt 16 b 22 2, fieldAt 32 b 24 4, fieldAt 32 b 28 4,
   fieldAt 96 b 32 12, rsvdAt b 18 20 || rsvdAt b 44 48⟩

/-- UPDATE_REGION (R155). -/
def updateRegionAt (b : List Byte) : UpdateRegionP :=
  ⟨fieldAt 16 b 16 2, fieldAt 16 b 18 2, fieldAt 16 b 20 2, fieldAt 16 b 22 2, fieldAt 8 b 24 1, fieldAt 8 b 25 1,
   fieldAt 16 b 26 2, rsvdAt b 28 32⟩

/-- WAVEFORM_LOAD (R158). -/
def waveformLoadAt (b : List Byte) : WaveformLoadP := ⟨fieldAt 64 b 16 8, fieldAt 32 b 24 4, rsvdAt b 28 32⟩

/-- The Sideshow commands (R286). -/
def blitAt (b : List Byte) : BlitP :=
  ⟨fieldAt 8 b 16 1, fieldAt 8 b 17 1, fieldAt 8 b 18 1, fieldAt 8 b 19 1, fieldAt 64 b 20 8, fieldAt 32 b 28 4,
   fieldAt 64 b 32 8, fieldAt 32 b 40 4, fieldAt 16 b 44 2, fieldAt 16 b 46 2, fieldAt 16 b 48 2, fieldAt 16 b 50 2,
   fieldAt 16 b 52 2, fieldAt 16 b 54 2, fieldAt 8 b 56 1, fieldAt 16 b 58 2, rsvdAt b 57 58 || rsvdAt b 60 64⟩

/-- CTN_ENCODE and CTN_DECODE (R276). -/
def ctnJobAt (b : List Byte) : CtnJobP :=
  ⟨fieldAt 8 b 16 1, fieldAt 8 b 17 1, fieldAt 8 b 18 1, fieldAt 8 b 19 1, fieldAt 64 b 20 8, fieldAt 32 b 28 4,
   fieldAt 64 b 32 8, fieldAt 16 b 40 2, rsvdAt b 42 48⟩

/-- CTN_SAVE_STATE and CTN_RESTORE_STATE (R279). -/
def ctnStateAt (b : List Byte) : CtnStateP :=
  ⟨fieldAt 8 b 16 1, fieldAt 64 b 24 8, fieldAt 32 b 32 4, rsvdAt b 17 24 || rsvdAt b 36 40⟩

/-- SURFACE_REGISTER (R342). -/
def surfaceRegisterAt (b : List Byte) : SurfaceRegisterP := ⟨fieldAt 64 b 16 8, fieldAt 32 b 24 4, rsvdAt b 28 32⟩

/-- SURFACE_RELEASE (R344). -/
def surfaceReleaseAt (b : List Byte) : SurfaceReleaseP := ⟨fieldAt 32 b 16 4, rsvdAt b 20 32⟩

/-- FW_OPEN (R409). -/
def fwOpenAt (b : List Byte) : FwOpenP := ⟨fieldAt 8 b 16 1, fieldAt 32 b 20 4, rsvdAt b 17 20 || rsvdAt b 24 32⟩

/-- FW_BLOCK (R410). -/
def fwBlockAt (b : List Byte) : FwBlockP :=
  ⟨fieldAt 32 b 16 4, fieldAt 32 b 20 4, fieldAt 32 b 24 4, slice b 32 4096, rsvdAt b 28 32⟩

/-- FW_COMMIT (R411). -/
def fwCommitAt (b : List Byte) : FwCommitP := ⟨fieldAt 32 b 16 4, fieldAt 8 b 20 1, rsvdAt b 21 32⟩

/-- FW_ABORT (R412). -/
def fwAbortAt (b : List Byte) : FwAbortP := ⟨fieldAt 32 b 16 4, rsvdAt b 20 32⟩

/-- FW_CONFIRM (R414). -/
def fwConfirmAt (b : List Byte) : FwConfirmP := ⟨fieldAt 32 b 16 4, rsvdAt b 20 32⟩

/-- CAL_RUN (R431). -/
def calRunAt (b : List Byte) : CalRunP := ⟨fieldAt 16 b 16 2, fieldAt 8 b 18 1, rsvdAt b 19 32⟩

/-- CAL_READ (R432). -/
def calReadAt (b : List Byte) : CalReadP := ⟨fieldAt 64 b 16 8, fieldAt 8 b 24 1, rsvdAt b 25 32⟩

/-- CAL_WRITE (R433). -/
def calWriteAt (b : List Byte) : CalWriteP := ⟨fieldAt 16 b 16 2, slice b 32 128, rsvdAt b 18 32⟩

/-- MESH_SEND (R315). -/
def meshSendAt (b : List Byte) : MeshSendP :=
  ⟨fieldAt 16 b 16 2, fieldAt 32 b 20 4, fieldAt 64 b 24 8, rsvdAt b 18 20⟩

/-- UNIT_STATE_GET, UNIT_STATE_SET and RESET_UNIT (R349, R352). -/
def unitAt (b : List Byte) : UnitP :=
  ⟨fieldAt 8 b 16 1, fieldAt 8 b 17 1, fieldAt 16 b 18 2, fieldAt 8 b 20 1, rsvdAt b 21 32⟩

/-- LOG_READ (R370). -/
def logReadAt (b : List Byte) : LogReadP :=
  ⟨fieldAt 8 b 17 1, fieldAt 32 b 20 4, fieldAt 64 b 24 8, rsvdAt b 18 20⟩

/-- FENCE (R341). -/
def fenceAt (b : List Byte) : FenceP := ⟨fieldAt 8 b 16 1, rsvdAt b 17 32⟩

/-- The SCENE_LOAD of a SUBFN (R68); host data for it is still to be read. -/
def sceneLoadCmd (b : List Byte) : Cmd :=
  let p := sceneLoadAt b
  match leAt b 16 1 with
  | 0 => .sceneLoadOpen p
  | 1 => .sceneLoadData p (.data [])
  | 2 => .sceneLoadClose p
  | 3 => .sceneLoadFree p
  | _ => .sceneLoadBad (byteAt b 16) p

/-- The LOG_READ of a SUBFN (R370). -/
def logReadCmd (b : List Byte) : Cmd :=
  let p := logReadAt b
  match leAt b 16 1 with
  | 0 => .logEntries p
  | 1 => .logCodes p
  | 2 => .logSources p
  | _ => .logBad (byteAt b 16) p

/-- The command of a packet; none for an unknown opcode (R333, R339). -/
def parseCmd (b : List Byte) : Option Cmd :=
  match leAt b 0 1 with
  | 0x01 => some .nop
  | 0x02 => some (.fence (fenceAt b))
  | 0x10 => some (sceneLoadCmd b)
  | 0x11 => some (.scenePlay (scenePlayAt b))
  | 0x12 => some (.sceneStop (sceneStopAt b))
  | 0x13 => some (.sceneSeek (scenePlayAt b))
  | 0x14 => some (.frameSubmit (frameSubmitAt b))
  | 0x30 => some (.layerSet (layerSetAt b))
  | 0x31 => some (.commit (commitAt b))
  | 0x38 => some (.timingSet (timingSetAt b))
  | 0x40 => some (.updateRegion (updateRegionAt b))
  | 0x41 => some (.waveformLoad (waveformLoadAt b))
  | 0x50 => some (.blitFill (blitAt b))
  | 0x51 => some (.blitCopy (blitAt b))
  | 0x52 => some (.blitConvert (blitAt b))
  | 0x60 => some (.ctnEncode (ctnJobAt b))
  | 0x61 => some (.ctnDecode (ctnJobAt b))
  | 0x62 => some (.ctnSave (ctnStateAt b))
  | 0x63 => some (.ctnRestore (ctnStateAt b))
  | 0x70 => some (.surfaceRegister (surfaceRegisterAt b))
  | 0x71 => some (.surfaceRelease (surfaceReleaseAt b))
  | 0x80 => some (.fwOpen (fwOpenAt b))
  | 0x81 => some (.fwBlock (fwBlockAt b))
  | 0x82 => some (.fwCommit (fwCommitAt b))
  | 0x83 => some (.fwAbort (fwAbortAt b))
  | 0x84 => some (.fwConfirm (fwConfirmAt b))
  | 0x90 => some (.calRun (calRunAt b))
  | 0x91 => some (.calRead (calReadAt b))
  | 0x92 => some (.calWrite (calWriteAt b))
  | 0xA0 => some (.meshSend (meshSendAt b) (.data []))
  | 0xB0 => some (.unitGet (unitAt b))
  | 0xB1 => some (.unitSet (unitAt b))
  | 0xC0 => some (logReadCmd b)
  | 0xF0 => some (.resetUnit (unitAt b))
  | _ => none

/-! ### Checks of R333 that need only the packet and its path -/

/-- Steps 3 to 6 of R333 but for the path of a known command: the status that refuses the packet, or its command. -/
def packetCheck (b : List Byte) : Except Status Cmd :=
  let x := parseHead b
  match parseCmd b, opLength x.opcode.toNat with
  | some c, some n =>
    if x.length ≠ n then .error .lengthRange
    else if 8 ≤ x.flags.toNat || x.rsvd || (x.gen != 0 && !takesGen x.opcode) then .error .badParam
    else .ok c
  | _, _ => .error .unsupported

/-- The path of a command permits it (R339). -/
def pathTakes (src : Src) (c : Cmd) : Bool := match src with | .mbox _ => mailboxTakes c | _ => true

/-- The commands RECOVERY serves (R399). -/
def recoveryTakes : Cmd → Bool
  | .nop => true
  | .logEntries _ => true
  | .logCodes _ => true
  | .logSources _ => true
  | .logBad _ _ => true
  | .fwOpen _ => true
  | .fwBlock _ => true
  | .fwCommit _ => true
  | .fwAbort _ => true
  | _ => false

/-! ### Writing a packet -/

/-- The parameter bytes of a command, from byte 16 on; reserved bytes are 0. -/
def paramBytes : Cmd → List Byte
  | .nop => []
  | .fence p => leBytes 1 p.scope.toNat ++ fill 15 0
  | .sceneLoadOpen p => leBytes 1 0 ++ sceneLoadTail p
  | .sceneLoadData p _ => leBytes 1 1 ++ sceneLoadTail p
  | .sceneLoadClose p => leBytes 1 2 ++ sceneLoadTail p
  | .sceneLoadFree p => leBytes 1 3 ++ sceneLoadTail p
  | .sceneLoadBad n p => leBytes 1 n.toNat ++ sceneLoadTail p
  | .scenePlay p => scenePlayBytes p
  | .sceneStop p => leBytes 1 p.slot.toNat ++ leBytes 1 p.flags.toNat ++ fill 22 0
  | .sceneSeek p => scenePlayBytes p
  | .frameSubmit p =>
    leBytes 8 p.hostAddr.toNat ++ leBytes 4 p.recLength.toNat ++ leBytes 4 p.flags.toNat ++ leBytes 12 p.target.toNat ++
      fill 4 0
  | .layerSet p =>
    leBytes 1 p.slot.toNat ++ leBytes 1 p.flags.toNat ++ leBytes 2 p.disparity.toNat ++ leBytes 2 p.posX.toNat ++
      leBytes 2 p.posY.toNat ++ leBytes 4 p.surface.toNat ++ fill 4 0
  | .commit p => leBytes 1 p.flags.toNat ++ fill 3 0 ++ leBytes 12 p.target.toNat
  | .timingSet p =>
    leBytes 1 p.mode.toNat ++ leBytes 1 p.flags.toNat ++ fill 2 0 ++ leBytes 2 p.hx.toNat ++ leBytes 2 p.hy.toNat ++
      leBytes 4 p.rateNum.toNat ++ leBytes 4 p.rateDen.toNat ++ leBytes 12 p.target.toNat ++ fill 4 0
  | .updateRegion p =>
    leBytes 2 p.rx.toNat ++ leBytes 2 p.ry.toNat ++ leBytes 2 p.w.toNat ++ leBytes 2 p.h.toNat ++
      leBytes 1 p.kind.toNat ++ leBytes 1 p.flags.toNat ++ leBytes 2 p.timeout.toNat ++ fill 4 0
  | .waveformLoad p => leBytes 8 p.hostAddr.toNat ++ leBytes 4 p.length.toNat ++ fill 4 0
  | .blitFill p => blitBytes p
  | .blitCopy p => blitBytes p
  | .blitConvert p => blitBytes p
  | .ctnEncode p => ctnJobBytes p
  | .ctnDecode p => ctnJobBytes p
  | .ctnSave p => ctnStateBytes p
  | .ctnRestore p => ctnStateBytes p
  | .surfaceRegister p => leBytes 8 p.addr.toNat ++ leBytes 4 p.size.toNat ++ fill 4 0
  | .surfaceRelease p => leBytes 4 p.handle.toNat ++ fill 12 0
  | .fwOpen p => leBytes 1 p.target.toNat ++ fill 3 0 ++ leBytes 4 p.imageLen.toNat ++ fill 8 0
  | .fwBlock p =>
    leBytes 4 p.session.toNat ++ leBytes 4 p.offset.toNat ++ leBytes 4 p.crc.toNat ++ fill 4 0 ++ p.data
  | .fwCommit p => leBytes 4 p.session.toNat ++ leBytes 1 p.flags.toNat ++ fill 11 0
  | .fwAbort p => leBytes 4 p.session.toNat ++ fill 12 0
  | .fwConfirm p => leBytes 4 p.version.toNat ++ fill 12 0
  | .calRun p => leBytes 2 p.items.toNat ++ leBytes 1 p.flags.toNat ++ fill 13 0
  | .calRead p => leBytes 8 p.hostAddr.toNat ++ leBytes 1 p.set.toNat ++ fill 7 0
  | .calWrite p => leBytes 2 p.items.toNat ++ fill 14 0 ++ p.record
  | .meshSend p _ => leBytes 2 p.dst.toNat ++ fill 2 0 ++ leBytes 4 p.msgLen.toNat ++ leBytes 8 p.hostAddr.toNat
  | .unitGet p => unitBytes p
  | .unitSet p => unitBytes p
  | .resetUnit p => unitBytes p
  | .logEntries p => leBytes 1 0 ++ logReadTail p
  | .logCodes p => leBytes 1 1 ++ logReadTail p
  | .logSources p => leBytes 1 2 ++ logReadTail p
  | .logBad n p => leBytes 1 n.toNat ++ logReadTail p
where
  /-- SCENE_LOAD from byte 17 (R68). -/
  sceneLoadTail (p : SceneLoadP) : List Byte :=
    leBytes 1 p.slot.toNat ++ leBytes 2 p.flags.toNat ++ leBytes 8 p.argA.toNat ++ leBytes 8 p.argB.toNat ++
      leBytes 4 p.argC.toNat
  /-- SCENE_PLAY and SCENE_SEEK (R76). -/
  scenePlayBytes (p : ScenePlayP) : List Byte :=
    leBytes 1 p.slot.toNat ++ leBytes 1 p.flags.toNat ++ fill 2 0 ++ leBytes 4 p.frame.toNat ++
      leBytes 12 p.time.toNat ++ fill 4 0
  /-- The Sideshow commands (R286). -/
  blitBytes (p : BlitP) : List Byte :=
    leBytes 1 p.chan.toNat ++ leBytes 1 p.flags.toNat ++ leBytes 1 p.srcFmt.toNat ++ leBytes 1 p.dstFmt.toNat ++
      leBytes 8 p.src.toNat ++ leBytes 4 p.srcPitch.toNat ++ leBytes 8 p.dstBase.toNat ++ leBytes 4 p.dstPitch.toNat ++
      leBytes 2 p.srcX.toNat ++ leBytes 2 p.srcY.toNat ++ leBytes 2 p.dstX.toNat ++ leBytes 2 p.dstY.toNat ++
      leBytes 2 p.width.toNat ++ leBytes 2 p.height.toNat ++ leBytes 1 p.startWm.toNat ++ fill 1 0 ++
      leBytes 2 p.progRow.toNat ++ fill 4 0
  /-- CTN_ENCODE and CTN_DECODE (R276). -/
  ctnJobBytes (p : CtnJobP) : List Byte :=
    leBytes 1 p.ctx.toNat ++ leBytes 1 p.coder.toNat ++ leBytes 1 p.elem.toNat ++ leBytes 1 p.flags.toNat ++
      leBytes 8 p.srcAddr.toNat ++ leBytes 4 p.srcLen.toNat ++ leBytes 8 p.chainAddr.toNat ++
      leBytes 2 p.chainCount.toNat ++ fill 6 0
  /-- CTN_SAVE_STATE and CTN_RESTORE_STATE (R279). -/
  ctnStateBytes (p : CtnStateP) : List Byte :=
    leBytes 1 p.ctx.toNat ++ fill 7 0 ++ leBytes 8 p.addr.toNat ++ leBytes 4 p.length.toNat ++ fill 4 0
  /-- The unit commands (R349). -/
  unitBytes (p : UnitP) : List Byte :=
    leBytes 1 p.cls.toNat ++ leBytes 1 p.dest.toNat ++ leBytes 2 p.index.toNat ++ leBytes 1 p.flags.toNat ++ fill 11 0
  /-- LOG_READ from byte 17 (R370). -/
  logReadTail (p : LogReadP) : List Byte :=
    leBytes 1 p.flags.toNat ++ fill 2 0 ++ leBytes 4 p.count.toNat ++ leBytes 8 p.hostAddr.toNat

/-- The FLAGS byte of a header. -/
def headFlags (h : Hdr) : Byte := putB h.ordered 0 ||| putB h.quiet 1 ||| putB h.ackEarly 2

/-- The packet a command is written as (R333, R339). -/
def packetBytes (h : Hdr) (c : Cmd) : List Byte :=
  leBytes 1 (opcodeOf c).toNat ++ leBytes 1 (headFlags h).toNat ++
    leBytes 2 ((opLength (opcodeOf c).toNat).getD 0) ++ leBytes 4 h.tag.toNat ++ leBytes 2 h.qseq.toNat ++
    leBytes 2 h.gen.toNat ++ fill 4 0 ++ paramBytes c

/-- A command that a packet can spell: reserved fields 0, a SUBFN of its own, inline data of the stated size, and
host data still to be read. -/
def packetWf : Cmd → Bool
  | .nop => true
  | .fence p => !p.rsvd
  | .sceneLoadOpen _ => true
  | .sceneLoadData _ a => a == .data []
  | .sceneLoadClose _ => true
  | .sceneLoadFree _ => true
  | .sceneLoadBad n _ => decide (4 ≤ n.toNat)
  | .scenePlay p => !p.rsvd
  | .sceneStop p => !p.rsvd
  | .sceneSeek p => !p.rsvd
  | .frameSubmit p => !p.rsvd
  | .layerSet p => !p.rsvd
  | .commit p => !p.rsvd
  | .timingSet p => !p.rsvd
  | .updateRegion p => !p.rsvd
  | .waveformLoad p => !p.rsvd
  | .blitFill p => !p.rsvd
  | .blitCopy p => !p.rsvd
  | .blitConvert p => !p.rsvd
  | .ctnEncode p => !p.rsvd
  | .ctnDecode p => !p.rsvd
  | .ctnSave p => !p.rsvd
  | .ctnRestore p => !p.rsvd
  | .surfaceRegister p => !p.rsvd
  | .surfaceRelease p => !p.rsvd
  | .fwOpen p => !p.rsvd
  | .fwBlock p => !p.rsvd && decide (p.data.length = 4096)
  | .fwCommit p => !p.rsvd
  | .fwAbort p => !p.rsvd
  | .fwConfirm p => !p.rsvd
  | .calRun p => !p.rsvd
  | .calRead p => !p.rsvd
  | .calWrite p => !p.rsvd && decide (p.record.length = 128)
  | .meshSend p a => !p.rsvd && a == .data []
  | .unitGet p => !p.rsvd
  | .unitSet p => !p.rsvd
  | .resetUnit p => !p.rsvd
  | .logEntries p => !p.rsvd
  | .logCodes p => !p.rsvd
  | .logSources p => !p.rsvd
  | .logBad n p => !p.rsvd && decide (3 ≤ n.toNat)

end Sys2Proof.Machine
end

