-- ==== Sys2Proof/Machine/Commands.lean ====
section
/-! DEFINITION. Commands from packet to completion: what holds one back, what starts it, FENCE, the fetch from a
submission queue, the mailbox and the mesh (R180, R237, R301, R302, R332 to R334, R339 to R341, R345, R346, R399). -/

namespace Sys2Proof.Machine

/-! ### Running a command -/

/-- The commands that complete with NO_RESOURCE in NO_SERVICE (R237). -/
def needsService : Cmd → Bool
  | .sceneLoadOpen _ => true
  | .sceneLoadData _ _ => true
  | .sceneLoadClose _ => true
  | .sceneLoadFree _ => true
  | .sceneLoadBad _ _ => true
  | .scenePlay _ => true
  | .sceneStop _ => true
  | .sceneSeek _ => true
  | .frameSubmit _ => true
  | .layerSet _ => true
  | .waveformLoad _ => true
  | .blitFill _ => true
  | .blitCopy _ => true
  | .blitConvert _ => true
  | .ctnEncode _ => true
  | .ctnDecode _ => true
  | .ctnSave _ => true
  | .ctnRestore _ => true
  | _ => false

/-- NOP (R341). -/
def doNop (h : Hdr) (s : State) : State := complete 0x01 h .ok 0 s

/-- The place of a command in the order of fetch. -/
def flightId (h : Hdr) (s : State) : Nat := ((s.hq.inflight.find? fun f => f.hdr == h).map (·.id)).getD s.hq.nextId

/-- A queue lies in a FENCE's scope (R341). -/
def inScope (s : State) (src other : Src) (scope : Nat) : Bool :=
  match other with
  | .sq k => match scope, src with
    | 0, .sq q => k == q
    | 1, .sq q => (sqOf s k).owner == (sqOf s q).owner
    | 2, _ => true
    | _, _ => false
  | _ => false

/-- FENCE: it waits for every command fetched before it in its scope (R341). -/
def doFence (h : Hdr) (p : FenceP) (s : State) : State :=
  if 3 ≤ p.scope.toNat ∨ p.rsvd then complete 0x02 h .badParam 0 s
  else
    let me := flightId h s
    let waits := (s.hq.inflight.filter fun f => decide (f.id < me) && inScope s h.src f.hdr.src p.scope.toNat).map (·.id)
    if waits.isEmpty then complete 0x02 h .ok 0 s
    else { s with hq := { s.hq with fences := s.hq.fences ++ [⟨h, waits, waits.length⟩] } }

/-- SCENE_LOAD with a SUBFN of no meaning (R68). -/
def doSceneBad (h : Hdr) (s : State) : State := complete 0x10 h .badParam 0 s

/-- A command that is still in flight has been accepted: UPDATE_REGION and WAVEFORM_LOAD are exit causes of a hold
extension (R174). -/
def exitOnAccept (h : Hdr) (s : State) : State := if isFlight h s then holdExit 2 s else s

/-- A Sideshow command of a host for channel 0 or 1: ACCESS comes before any other check (R282, R287). -/
def privChannel (h : Hdr) (c : Cmd) : Bool :=
  let priv (p : BlitP) : Bool := h.src != .fw && decide (p.chan.toNat < 2)
  match c with
  | .blitFill p => priv p
  | .blitCopy p => priv p
  | .blitConvert p => priv p
  | _ => false

/-- A command is carried out. -/
def runCmd (h : Hdr) (c : Cmd) (s : State) : State :=
  if privChannel h c then complete (opcodeOf c) h .access 0 s
  else if needsService c && noService s then complete (opcodeOf c) h .noResource 0 s
  else match c with
    | .nop => doNop h s
    | .fence p => doFence h p s
    | .sceneLoadOpen p => doSceneOpen h p s
    | .sceneLoadData p a => doSceneData h p a s
    | .sceneLoadClose p => doSceneClose h p s
    | .sceneLoadFree p => doSceneFree h p s
    | .sceneLoadBad _ _ => doSceneBad h s
    | .scenePlay p => doScenePlay h p s
    | .sceneStop p => doSceneStop h p s
    | .sceneSeek p => doSceneSeek h p s
    | .frameSubmit p => doFrameSubmit h p s
    | .layerSet p => doLayerSet h p s
    | .commit p => doCommit h p s
    | .timingSet p => doTimingSet h p s
    | .updateRegion p => exitOnAccept h (doUpdateRegion h p s)
    | .waveformLoad p => exitOnAccept h (doWaveformLoad h p s)
    | .blitFill p => doBlit .fill h p s
    | .blitCopy p => doBlit .copy h p s
    | .blitConvert p => doBlit .convert h p s
    | .ctnEncode p => doJob false h p s
    | .ctnDecode p => doJob true h p s
    | .ctnSave p => doCtxSave h p s
    | .ctnRestore p => doCtxRestore h p s
    | .surfaceRegister p => doSurfaceRegister h p s
    | .surfaceRelease p => doSurfaceRelease h p s
    | .fwOpen p => doFwOpen h p s
    | .fwBlock p => doFwBlock h p s
    | .fwCommit p => doFwCommit h p s
    | .fwAbort p => doFwAbort h p s
    | .fwConfirm p => doFwConfirm h p s
    | .calRun p => doCalRun h p s
    | .calRead p => doCalRead h p s
    | .calWrite p => doCalWrite h p s
    | .meshSend p a => doMeshSend h p a s
    | .unitGet p => doUnitGet h p s
    | .unitSet p => doUnitSet h p s
    | .logEntries p => doLogEntries h p s
    | .logCodes p => doLogDict true h p s
    | .logSources p => doLogDict false h p s
    | .logBad _ p => doLogBad h p s
    | .resetUnit p => doResetUnit h p s

/-! ### Host data a command reads -/

/-- A command with another answer of the host. -/
def withAnswer (a : HostAns) : Cmd → Cmd
  | .sceneLoadData p _ => .sceneLoadData p a
  | .meshSend p _ => .meshSend p a
  | c => c

/-- The command reads host memory as it runs and its data has not come. -/
def awaitsData : Cmd → Bool
  | .sceneLoadData _ a => a == .data []
  | .meshSend _ a => a == .data []
  | _ => false

/-- The host memory a command reads: address and length (R68, R72, R158, R315). -/
def hostRange : Cmd → Option (Nat × Nat)
  | .sceneLoadData p _ => some (p.argB.toNat, p.argC.toNat)
  | .meshSend p _ => some (p.hostAddr.toNat, p.msgLen.toNat)
  | .frameSubmit p => some (p.hostAddr.toNat, p.recLength.toNat)
  | .waveformLoad p => some (p.hostAddr.toNat, p.length.toNat)
  | _ => none

/-- The command's own checks let it come to its data: a refused and a poisoned read end it differently (R333: a
check that fails reads nothing). -/
def wantsData (h : Hdr) (c : Cmd) (s : State) : Bool :=
  decide (runCmd h (withAnswer .refused c) s ≠ runCmd h (withAnswer .poisoned c) s)

/-- A read of host memory goes to a gateway in DATA requests of at most 4,096 bytes each (R301, R303). -/
def askGateway (gw : Nat) (h : Hdr) (c : Cmd) (a n : Nat) (s : State) : State :=
  let first := s.trz.nextId
  let count := max 1 ((n + 4095) / 4096)
  let s1 := { s with trz := { s.trz with
    nextId := first + count
    dataReqs := s.trz.dataReqs ++ [⟨h, c, (List.range count).map fun i => (first + i, none)⟩] } }
  eachNat (fun i => meshRoute gw 5 kRequest [first + i, a + 4096 * i, min 4096 (n - 4096 * i)] []) (List.range count) s1

/-- A read of host memory is asked of the queue's own port, or of the gateway in a DATA request (R301, R302). -/
def askHost (h : Hdr) (c : Cmd) (s : State) : State :=
  match hostRange c with
  | none => s
  | some (a, n) =>
    match h.src with
    | .sq q => emit (.hostRead (sqOf s q).owner a n) s
    | .mesh _ gw _ => askGateway gw h c a n s
    | _ => s

/-! ### Starting, holding and submitting -/

/-- Carry a command out, or ask for its data first. What has passed its checks and goes on, its data still to come or
not, writes QUEUED with ACK_EARLY (R340). -/
def startCmd (h : Hdr) (c : Cmd) (s : State) : State :=
  if awaitsData c && wantsData h c s then askHost h c (accepted (opcodeOf c) h s)
  else
    let s1 := runCmd h c s
    if isFlight h s1 then
      let s2 := accepted (opcodeOf c) h s1
      match c with
      | .frameSubmit _ => askHost h c s2
      | .waveformLoad _ => askHost h c s2
      | _ => s2
    else s1

/-- The commands a retime holds back (R180). -/
def retimeHeld : Cmd → Bool
  | .frameSubmit _ => true
  | .commit _ => true
  | .layerSet _ => true
  | .timingSet _ => true
  | .updateRegion _ => true
  | .waveformLoad _ => true
  | .scenePlay _ => true
  | .sceneStop _ => true
  | .sceneSeek _ => true
  | _ => false

/-- A FENCE of the command's own queue, fetched before it, is outstanding (R341). -/
def fenceHolds (h : Hdr) (s : State) : Bool :=
  match h.src with
  | .sq _ => s.hq.fences.any fun f => f.hdr.src == h.src && decide (flightId f.hdr s < flightId h s)
  | _ => false

/-- ORDERED waits for every earlier packet of its queue (header table of R333). -/
def orderWaits (h : Hdr) (s : State) : Bool :=
  h.ordered && s.hq.inflight.any fun f => f.hdr.src == h.src && decide (f.id < flightId h s)

/-- A TIMING_SET that must wait: an earlier change still runs, or the panel is on its way (R177, R217, R222). -/
def timingWaits (c : Cmd) (s : State) : Bool :=
  match c with
  | .timingSet _ =>
    !s.scn.jobs.isEmpty || s.pwr.state == .poweringDown || (s.pwr.state == .poweringUp && s.scn.state != .stopped)
  | _ => false

/-- A command that lacks room: a FRAME_SUBMIT without a staging slot, a Sideshow command without a FIFO entry (R43,
R282). -/
def lacksRoom (h : Hdr) (c : Cmd) (s : State) : Bool :=
  let blit (k : BlitKind) (p : BlitP) : Bool := (blitRefusal k h p s).isNone && fifoFull s p.chan.toNat
  !(needsService c && noService s) && match c with
    | .frameSubmit p => (submitRefusal p s).isNone && (freeStaging s).isNone
    | .blitFill p => blit .fill p
    | .blitCopy p => blit .copy p
    | .blitConvert p => blit .convert p
    | _ => false

/-- A held command has not started for want of its turn or of room; what only a retime or a power-down holds lets the
commands behind it proceed (R43, R177, R180, R282, R333). -/
def startWaits (h : Hdr) (c : Cmd) (s : State) : Bool :=
  orderWaits h s || (!retimeHolds s && s.pwr.state != .poweringDown && (timingWaits c s || lacksRoom h c s))

/-- A queue's commands start in QSEQ order: one waits with ORDERED, or stands behind one that has not started (R333,
R334). -/
def orderHolds (h : Hdr) (s : State) : Bool :=
  match h.src with
  | .sq _ => orderWaits h s || s.hq.held.any fun x =>
      x.1.src == h.src && decide (flightId x.1 s < flightId h s) && startWaits x.1 x.2 s
  | _ => false

/-- A command is held back for now. `again` tells one that is already held: the retime that held it may have ended
in a power-down, which releases it in OFF (R180). -/
def heldBack (again : Bool) (h : Hdr) (c : Cmd) (s : State) : Bool :=
  fenceHolds h s || orderHolds h s || timingWaits c s || lacksRoom h c s ||
    (isUnitCmd c && unitOrderWaits again h s) || (match c with | .unitSet p => unitSetWaits p s | _ => false) ||
    (retimeHeld c && (retimeHolds s || (if again then s.pwr.state == .poweringDown || s.pwr.state == .faulted
      else s.hq.held.any fun x => retimeHeld x.2 && !timingWaits x.2 s)))

/-- FENCEs whose commands have all completed complete (R341). -/
def fencesDone (s : State) : State :=
  let open_ (s : State) (f : FenceWait) : Bool := f.waits.any fun i => s.hq.inflight.any fun x => x.id == i
  let done := s.hq.fences.filter fun f => !open_ s f
  done.foldl (fun s f => complete 0x02 f.hdr .ok (put f.count 0) s)
    { s with hq := { s.hq with fences := s.hq.fences.filter (open_ s) } }

/-- The first held command that nothing holds back any more. -/
def heldNext (s : State) : Option (Hdr × Cmd) := s.hq.held.find? fun x => !heldBack true x.1 x.2 s

/-- One held command starts, or a FENCE completes. -/
def settle1 (s : State) : State :=
  let s1 := fencesDone s
  match heldNext s1 with
  | none => s1
  | some (h, c) =>
    startCmd h c (unitTurnLeave h { s1 with hq := { s1.hq with held := dropFirst (fun x => x.1 == h) s1.hq.held } })

/-- Everything that completions have released starts, and a reset that waited for the panel happens (R180, R341,
R391). -/
def settleN : Nat → State → State
  | 0, s => s
  | n + 1, s =>
    if s.hq.fences.isEmpty && s.hq.held.isEmpty then s else settleN n (settle1 s)

/-- What follows at once from a step (R180, R341, R391). -/
def settle (s : State) : State := resetDue (settleN (s.hq.fences.length + s.hq.held.length + 1) s)

/-- What a retime has held resumes with N1, before its commit window, up to the first TIMING_SET, which is carried out after
N1 (R123, R180). -/
def n1Release (s : State) : State :=
  if s.scn.retimeStep = 5 ∧ s.scn.restart = 1 ∧ tickAllowed s then
    let isTiming (x : Hdr × Cmd) : Bool := match x.2 with | .timingSet _ => true | _ => false
    let early := s.hq.held.takeWhile fun x => !isTiming x
    let late := s.hq.held.dropWhile fun x => !isTiming x
    let s1 := settleN (s.hq.fences.length + early.length + 1)
      { s with scn := { s.scn with restart := 0 }, hq := { s.hq with held := early } }
    { s1 with scn := { s1.scn with restart := 1 }, hq := { s1.hq with held := s1.hq.held ++ late } }
  else s

/-- A command is taken: refused by R333 or R399, held back, or started. -/
def takeCmd (h : Hdr) (c : Cmd) (s : State) : State :=
  let op := opcodeOf c
  if h.gen != 0 && !takesGen op then refuse op h .badParam 0 s
  else if !pathTakes h.src c || (s.rm.stage == .recovery && !recoveryTakes c) then refuse op h .unsupported 0 s
  else
    let s1 := toFlight op h s
    if heldBack false h c s1 then
      let s2 := unitTurnTake h c s1
      { s2 with hq := { s2.hq with held := s2.hq.held ++ [(h, c)] } }
    else startCmd h c s1

/-- Commands are served in READY and in RECOVERY (R393, R394). -/
def served (s : State) : Bool := isReady s || s.rm.stage == .recovery

/-- A command of a queue stays there while it lacks room (R43, R282); before READY none is served. -/
def submit (h : Hdr) (c : Cmd) (s : State) : State :=
  let stays := match h.src with | .sq _ => lacksRoom h c s && !retimeHolds s | _ => false
  if !served s || stays then s else takeCmd h c s

/-! ### The fetch (R332, R333) -/

/-- A queue has a packet that core 1 may fetch. -/
def fetchReady (s : State) (q : Nat) : Bool :=
  let x := sqOf s q
  let p := portOf s x.owner
  x.state == .active && p.linkUp && !p.d3hot && p.busMaster && decide (sqDist x x.tail ≠ 0) &&
    decide (sqInflight s q < 256 ∧ allInflight s < 4096) &&
    (isReady s || (s.rm.stage == .recovery && recoveryQueue x.owner q))

/-- Packets a queue takes in its turn: WEIGHT, 0 as 1 (R332). -/
def sqWeight (x : Sq) : Nat := max (fld x.cfg 23 20) 1

/-- The queue whose turn it is: the present one until its weight is spent, then the next that is ready (R332). -/
def fetchTurn (s : State) : Option Nat :=
  let r := s.hq.rr % 1024
  if fetchReady s r && decide ((sqOf s r).turn < sqWeight (sqOf s r)) then some r
  else ((List.range 1024).map fun k => (r + 1 + k) % 1024).find? (fetchReady s)

/-- A queue's turn is counted; a new queue's begins at 0. -/
def turnTake (q n : Nat) (s : State) : State :=
  let begin_ := s.hq.rr % 1024 != q || decide (sqWeight (sqOf s q) ≤ (sqOf s q).turn)
  let s1 := { s with hq := { s.hq with rr := q } }
  modSq q (fun x => { x with turn := (if begin_ then 0 else x.turn) + n }) s1

/-- The packet stream has lost its boundary: ERROR, and the ring offset in the detail word (R333). The packet was never
in flight. -/
def streamError (q : Nat) (h : Hdr) (op : Byte) (st : Status) (s : State) : State :=
  refuse op h st (put (sqOf s q).head 0) (modSq q (fun x => { x with state := .error }) s)

/-- A queue bound to a remote ID (R331). -/
def remoteId (x : Sq) : Option Nat := if bitOf x.target 31 then some (fld x.target 13 0) else none

/-- A packet that passes every check goes on: to this device, or to the device its queue is bound to, where FENCE
stays with the queue (R301, R341). -/
def packetGo (h : Hdr) (c : Cmd) (packet : List Byte) (remote : Option Nat) (s : State) : State :=
  match remote, c with
  | some _, .fence _ => takeCmd h c s
  | some dst, _ => if dst = trzId s then takeCmd h c s else gwSend h (opcodeOf c) dst packet (toFlight (opcodeOf c) h s)
  | none, _ => takeCmd h c s

/-- A packet whose place in its ring is known (R333 steps 2 to 6). -/
def packetTake (q : Nat) (b : List Byte) (s : State) : State :=
  let x := sqOf s q
  let hd := parseHead b
  let h := headHdr (.sq q) hd
  if hd.qseq.toNat ≠ x.expect then streamError q h hd.opcode .badParam s
  else
    let far := (remoteId x).isSome && remoteId x != some (trzId s)
    let stays := match packetCheck b with
      | .ok c => if far then fenceHolds h s || orderHolds h s else lacksRoom h c s && !retimeHolds s
      | .error _ => false
    if stays then turnTake q (sqWeight x) s
    else
      let s1 := turnTake q 1 (modSq q (fun x => { x with
        head := (x.head + hd.length) % sqSize x, expect := (x.expect + 1) % 65536, lastSeq := hd.qseq }) s)
      match packetCheck b with
      | .error st => refuse hd.opcode h st 0 s1
      | .ok c => packetGo h c (b.take (4 * hd.length)) (remoteId x) s1

/-- PACKET_FETCH: the next packet of the queue whose turn it is (R332, R333). -/
def packetFetch (q : Nat) (ans : HostAns) (s : State) : State :=
  if fetchTurn s != some q then s
  else
    let x := sqOf s q
    let lost (s : State) : State := hqErr 0 (modSq q (fun x => { x with state := .error }) s)
    match ans with
    | .refused => lost s
    | .poisoned => lost s
    | .data b =>
      let hd := parseHead b
      if hd.length < 4 ∨ 4096 < hd.length ∨ sqDist x x.tail < hd.length then
        streamError q (headHdr (.sq q) hd) hd.opcode .lengthRange s
      else packetTake q (fit (4 * hd.length) b) s

/-! ### The mailbox (R325, R345, R346) -/

/-- A response that runs nothing. -/
def mailboxAnswer (t : Nat) (b : List Byte) (st : Status) (s : State) : State :=
  let hd := parseHead b
  refuse hd.opcode { headHdr (.mbox t) hd with quiet := false } st 0 s

/-- A request is outstanding until its final response is collected (R346). -/
def mailboxOut (t : Nat) (s : State) : State := { s with hq := { s.hq with mboxOut := s.hq.mboxOut ++ [t] } }

/-- MCTP_REQUEST: an assembled request message with its command packet (R333, R346). -/
def mctpRequest (t : Nat) (b : List Byte) (s : State) : State :=
  if !served s then s
  else if 4 ≤ s.hq.mboxOut.length then mailboxAnswer t b .busy s
  else
    let hd := parseHead b
    let s1 := mailboxOut t s
    if hd.length < 4 ∨ 4096 < hd.length ∨ b.length < 4 * hd.length then mailboxAnswer t b .lengthRange s1
    else match packetCheck b with
      | .error st => mailboxAnswer t b st s1
      | .ok c => takeCmd (headHdr (.mbox t) hd) c s1

/-- A message is discarded and counted (R346). -/
def discardMessage (s : State) : State := { s with hq := { s.hq with mboxDiscard := satAdd 16 s.hq.mboxDiscard 1 } }

/-- A message assembled from packets, its type in byte 0: a mailbox request of type 0x7E, or discarded (R345, R346). -/
def messageDone (t : Nat) (b : List Byte) (s : State) : State :=
  if byteAt b 0 = 0x7E ∧ leAt b 1 2 = vendorId ∧ byteAt b 3 = 1 ∧ 7 ≤ b.length then mctpRequest t (b.drop 7) s
  else discardMessage s


/-- The assembly of a message tag. -/
def assemblyOf (t : Nat) (s : State) : Option Assembly := s.hq.assembling.find? fun a => a.msgTag == t

/-- MCTP_PACKET: a packet for another address or with a bad PEC is discarded, otherwise it starts, extends or ends an
assembly (R345, R346). A packet out of sequence ends its message, as DSP0236 has it (PRESUMED, log entry 45). -/
def mctpPacket (p : McPacket) (s : State) : State :=
  let t := p.msgTag % 8
  let others := { s with hq := { s.hq with assembling := s.hq.assembling.filter fun a => a.msgTag != t } }
  let go (old : List Byte) : State :=
    if p.eom then messageDone t (old ++ p.bytes) others
    else { others with hq := { others.hq with
      assembling := others.hq.assembling ++ [⟨t, old ++ p.bytes, (p.seq + 1) % 4⟩] } }
  if p.addr ≠ smbusAddress s || !p.pecOk || 64 < p.bytes.length then s
  else if p.som then go []
  else match assemblyOf t s with
    | none => s
    | some a => if p.seq % 4 = a.seq then go a.bytes else discardMessage others

/-- MCTP_ASSEMBLY_TIMEOUT: a request not assembled within 100 ms is discarded and counted (R346). -/
def assemblyTimeout (t : Nat) (s : State) : State :=
  if (assemblyOf t s).isNone then s
  else discardMessage { s with hq := { s.hq with assembling := s.hq.assembling.filter fun a => a.msgTag != t } }

/-- The host collects a response: SMB_ALERT_N is released when none remains (R346, R442). -/
def responseCollected (s : State) : State :=
  match s.hq.mboxResp with
  | [] => s
  | (t, last) :: r =>
    { s with hq := { s.hq with
      mboxResp := r, alert := !r.isEmpty, mboxOut := if last then s.hq.mboxOut.erase t else s.hq.mboxOut } }

/-- The ROM answers MCTP control messages from its stage on (R394). -/
def controlServed (s : State) : Bool := s.rm.stage != .por

/-- MCTP control messages of DSP0236 (R345): the endpoint ID, the version, the message types and the vendor ID. The
endpoint IDs 0x00 and 0xFF are not taken, and the type list leaves out control messages, as DSP0236 has it (PRESUMED, log
entry 45). -/
def mctpControl (c : McCtrl) (s : State) : State :=
  if !controlServed s then s
  else match c with
    | .setEid e =>
      if e = 0 ∨ e = 0xFF then emit (.mctpControl c [2]) s
      else emit (.mctpControl c [0, 0, e, 0]) { s with hq := { s.hq with eid := e } }
    | .getEid => emit (.mctpControl c [0, s.hq.eid, 0, 0]) s
    | .getVersion => emit (.mctpControl c [0, 1, 0xF1, 0xF3, 0xF1, 0]) s
    | .getTypes => emit (.mctpControl c [0, 1, 0x7E]) s
    | .getVendor => emit (.mctpControl c ([0, 0xFF, 0] ++ [0x1F, 0x2B] ++ [0, 1])) s

/-! ### Commands from the mesh (R301, R302) -/

/-- A MGMT command for this device (R302): accepted from a listed gateway, and run under its arrival port. -/
def meshCommand (p gw id : Nat) (b : List Byte) (s : State) : State :=
  if !gwAccepted s gw then trzErr 3 s
  else if !served s then s
  else
    let hd := parseHead b
    let h := headHdr (.mesh p gw id) hd
    if hd.length < 4 ∨ 4096 < hd.length ∨ b.length < 4 * hd.length then refuse hd.opcode h .lengthRange 0 s
    else match packetCheck b with
      | .error st => refuse hd.opcode h st 0 s
      | .ok c => takeCmd h c s

/-- A piece of a command packet arrives: one that makes the packet whole brings the command, others wait with those that came
before (R301, R303). -/
def meshPiece (p gw id : Nat) (piece : List Byte) (s : State) : State :=
  let here (x : Nat × Nat × Nat × List Byte) : Bool := x.1 == p && x.2.1 == gw && x.2.2.1 == id
  let b := ((s.trz.mgmtIn.find? here).map (·.2.2.2)).getD [] ++ piece
  let s1 := { s with trz := { s.trz with mgmtIn := s.trz.mgmtIn.filter fun x => !here x } }
  if piece.length < 4096 ∨ 4 * (parseHead b).length ≤ b.length then meshCommand p gw id b s1
  else { s1 with trz := { s1.trz with mgmtIn := s1.trz.mgmtIn ++ [(p, gw, id, b)] } }

/-- TRZ_MGMT_RX (R301, R302). -/
def mgmtRx (p : Nat) (b : List Byte) (msg : MgmtMsg) (s : State) : State :=
  let gw := frameSrc b
  match msg with
  | .command id packet =>
    meshRx p 4 kCommand b (meshForward p 4 kCommand b [id] packet (meshPiece p gw id packet)) s
  | .completion id st d =>
    meshRx p 4 kCompletion b (meshForward p 4 kCompletion b [id, st.toNat, d.toNat] [] (gwCompletion id st d)) s

/-- The staging slot of a streamed frame that lands. -/
def stagingOf (h : Hdr) (s : State) : Option Nat :=
  s.scene.frames.findSome? fun f =>
    match f.origin with | .stream g k => if g == h && f.state == .landing then some k else none | .scene _ _ => none

/-- The answers to the pieces of one read: refused or poisoned where one was, the first of them counting, otherwise the data
of all. -/
def joinAnswers : List (Nat × Option HostAns) → HostAns
  | [] => .data []
  | (_, some (.data bs)) :: t =>
    match joinAnswers t with
    | .data r => .data (bs ++ r)
    | x => x
  | (_, some x) :: _ => x
  | (_, none) :: t => joinAnswers t

/-- The answer to a DATA request this device issued; the last one of a read goes to the command that waits for it (R302). -/
def dataAnswer (id : Nat) (ans : HostAns) (s : State) : State :=
  let mine (r : DataReq) : Bool := r.parts.any fun q => q.1 == id && q.2.isNone
  match s.trz.dataReqs.find? mine with
  | none => s
  | some r =>
    let parts := r.parts.map fun q => if q.1 = id then (q.1, some ans) else q
    if parts.any fun q => q.2.isNone then
      { s with trz := { s.trz with dataReqs := s.trz.dataReqs.map fun x => if mine x then { x with parts := parts } else x } }
    else
      let s1 := { s with trz := { s.trz with dataReqs := s.trz.dataReqs.filter fun x => !mine x } }
      let all := joinAnswers parts
      match r.cmd with
      | .frameSubmit _ => match stagingOf r.hdr s1 with | some k => frameLanded k all s1 | none => s1
      | .waveformLoad _ => waveformChecked all s1
      | c => if isFlight r.hdr s1 then startCmd r.hdr (withAnswer all c) s1 else s1

/-- TRZ_DATA_RESPONSE_RX (R302). -/
def dataResponseRx (p : Nat) (b : List Byte) (id : Nat) (ans : HostAns) (s : State) : State :=
  let w := ansWords ans
  meshRx p 5 kResponse b (meshForward p 5 kResponse b [id, w.1] w.2 (dataAnswer id ans)) s

end Sys2Proof.Machine
end

