-- ==== Sys2Proof/Machine/Flags.lean ====
section
/-! DEFINITION. The status words the registers show, each computed from the state in one place (the register tables of
R1, R78, R160, R183, R213, R232, R258, R280, R281, R293, R323, R324, R354, R374, R389, R415 to R417, R435). -/

namespace Sys2Proof.Machine

/-- A register word from its fields: value and lowest bit of each. -/
def word (l : List (Nat × Nat)) : W32 := l.foldl (fun a p => a ||| put p.1 p.2) 0

/-- The 32 bits from `32 n` up of a number. -/
def wordOf (v n : Nat) : W32 := BitVec.ofNat 32 (v / 2 ^ (32 * n))

/-- A signed number saturated to 32 bits. -/
def word32 (x : Int) : W32 := BitVec.ofNat 32 (wrapN 32 (sat x (-2147483648) 2147483647))

/-- Bit `n` set for each number below `k` that satisfies `p`. -/
def bitMap (k : Nat) (p : Nat → Bool) : W32 := word ((List.range k).map fun n => (b2n (p n), n))

/-! ### Ringmaster, Barker, Turnstiles -/

/-- RM_BOOT_STATUS (R415). -/
def rmBootStatus (s : State) : W32 :=
  word [(stageCode s.rm.stage, 0), (s.rm.runSlot % 2, 4), (s.rm.trialIndex % 4, 5), (s.rm.cfgCopy % 2, 8)]

/-- RM_PLAY_STATE (R78). -/
def rmPlayState (s : State) : W32 :=
  let p := s.scene.player
  word [(match p.state with | .idle => 0 | .armed => 1 | .playing => 2 | .ended => 3, 0), (p.slot % 256, 8)]

/-- BRK_SRC_CTRL (R374). -/
def brkSrcCtrl (s : State) (n : Nat) : W32 :=
  let x := srcOf s n
  word [(b2n x.en, 0), (b2n (srcIsLevel n), 1), (x.filt, 8), (x.prio, 16)]

/-- BRK_SRC_ROUTE (R374). -/
def brkSrcRoute (x : Source) : W32 := word [(x.core, 0), (b2n x.coreEn, 2), (x.vector, 4), (x.host, 16)]

/-- BRK_CORE_ACTIVEn (R374). -/
def brkCoreActive (s : State) (n : Nat) : W32 :=
  match (coreOf s n).stack with
  | [] => 0
  | t :: r => word [(r.length + 1, 0), (groupOf s (srcOf s t).prio, 8), (t, 16)]

/-- BRK_CORE_STATUSn (R374). -/
def brkCoreStatus (s : State) (n : Nat) : W32 :=
  word [(b2n (coreOf s n).wait, 0), (b2n (coreIrq s n), 1), (b2n (modHolds s n), 2)]

/-- The live entry TRN_SEL names. -/
def trnSelected (s : State) : TrnEntry := trnLive s (fld s.trn.sel 9 8) (fld s.trn.sel 7 0)

/-! ### Calliope, Tightrope, panel power -/

/-- CLP_STATUS (R324). -/
def clpStatus (s : State) : W32 :=
  let c := s.clp
  word [(tb1Code s, 0), (b2n c.holdover, 2), (b2n c.ofs2New.isSome, 3), (c.steps % 256, 8), (c.resteps, 16)]

/-- TH_STATUS (R389). -/
def thStatus (s : State) : W32 :=
  let t := s.th
  word [(t.level, 0), (t.skip, 2), (b2n t.pauseActive, 6), (b2n (substActive s), 7), (b2n t.fastSample, 8),
    (b2n t.l3Forced, 9), (b2n t.restricted, 10), (b2n t.tripRecord, 11), (wrapN 16 t.t, 16)]

/-- TH_SENS_READ (R389). -/
def thSensRead (s : State) (i : Nat) : W32 :=
  let x := sensor s i
  word [(wrapN 16 x.value, 0), (uCode (unitOf s 5 i).state, 16), (b2n x.subst, 19), (x.transient, 24)]

/-- PWR_STATUS (R232). -/
def pwrStatus (s : State) : W32 :=
  let p := s.pwr
  word [(pwrCode p.state, 0), (p.step, 4), (b2n p.headroomLimit, 8), (b2n p.headroomStale, 9), (b2n p.derating, 10),
    (b2n p.derateNosrc, 11), (b2n p.fast, 12), (p.failStep, 16)]

/-- The word pair of an emitter-fault entry (R232). -/
def eftWords (s : State) : W32 × W32 :=
  match s.pwr.eft[s.pwr.eftIndex]? with
  | some e => (word [(e.row, 0), (e.slice, 17), (e.colour, 22), (b2n e.short, 24)], word [(e.column, 0)])
  | none => (0, 0)

/-! ### Calibration and firmware -/

/-- CAL_STATUS (R435). -/
def calStatus (s : State) : W32 :=
  let c := s.cal
  word [(b2n c.running.isSome, 0), (b2n c.factoryLoaded, 1), (b2n c.written, 2), (c.failItem, 8), (c.reason, 13),
    (c.refin, 16)]

/-- The rank spare of every channel in service is free (R242, R435). -/
def rankSpareFree (s : State) : Bool :=
  spareRankOn s && (List.range 24).all fun c => !unitUp (unitOf s 0 c) || !(chanOf s c).rankSpared

/-- CAL_SPARE_LEFT, valid from CHECK (R435). -/
def calSpareLeft (s : State) : W32 :=
  if decide (stageCode s.rm.stage < 4) then 0
  else
    let passing (cls i : Nat) : Bool := (unitOf s cls i).state == .offline && (unitOf s cls i).lastTest
    word [((pipeSpares s).length, 0), (spareBanksLeft s, 4), (countBelow 2 fun k => passing 3 (30 + k), 10),
      (countBelow 4 fun k => passing 5 (36 + k), 12), (s.jgl.idleSpares.countP fun c => passing 0 c, 16),
      ((bitMap 6 fun p => decide ((meshPort s p).bad = 0)).toNat, 18), (b2n (rankSpareFree s), 24)]

/-- CAL_JRNL_COUNT (R435). -/
def calJrnlCount (s : State) : W32 :=
  word [(s.mram.journal.countP fun e => e.2.valid, 0), (tripCount s, 12), (s.mram.jrnlOverwritten, 16)]

/-- The code of a firmware slot's state (R417). -/
def fwSlotCode : FwSlotState → Nat
  | .empty => 0 | .valid => 1 | .pending => 2 | .trial => 3 | .confirmed => 4 | .rejected => 5

/-- FW_STATUS (R417). -/
def fwStatus (s : State) : W32 :=
  let f := s.fw
  word [(match f.session with | .idle => 0 | .opening => 1 | .receiving => 2 | .committing => 3, 0), (f.target % 4, 2),
    (f.holderPath, 4), (f.holderQueue % 16384, 6), (b2n (inTrial s), 20), (f.trialBoot % 8, 21), (f.confirms % 8, 24)]

/-- FW_WIN_LEFT: whole seconds left, a part of one counted whole, so that an open window never shows 0 (R417). -/
def fwWinLeft (s : State) : W32 :=
  match s.fw.winEnd with
  | some e => BitVec.ofNat 32 ((e - mtOf s + 999) / 1000 % 4096)
  | none => 0

/-! ### Raster, Carousel, pipelines, colour, panel link -/

/-- SCN_STATUS (R183). -/
def scnStatus (s : State) : W32 :=
  let c := s.scn
  word [(rasterCode c.state, 0), (c.retimeStep, 4), (b2n c.commitLate, 8), (b2n c.underrun, 9),
    (b2n !c.commits.isEmpty, 10), (c.multLog, 12), (c.skip, 16)]

/-- A number of the timing in force, 0 before any is (R183). -/
def timingNum (s : State) (f : Timing → Nat) : Nat := match s.scn.inForce with | some t => f t | none => 0

/-- CRSL_STATUS (R160). -/
def crslStatus (s : State) : W32 :=
  let c := s.crsl
  word [(c.activeCopy, 0), (b2n (c.loading.isSome || c.loaded.isSome), 2), (b2n (anyRun s), 3),
    (b2n (c.regions.any fun r => r.2.queued.isSome), 4),
    ((bitMap 16 fun k => c.reqs.any fun q => q.1 == k).toNat, 16)]

/-- Regions in BLACK: a region not listed is BLACK (R140, R160). -/
def crslBlack (s : State) : Nat :=
  match curTiming s with
  | some t => (gridRegions t).countP fun r => (regionOf s r).state == .black
  | none => 276480

/-- CRSL_ZONE_BANDm (R160). -/
def crslZoneBand (s : State) (m : Nat) : W32 :=
  word ((List.range 8).map fun n =>
    let g := 8 * m + n
    (if g < 30 then (zoneOf s g).band + 8 * b2n (zoneOf s g).nosrc else 0, 4 * n))

/-- HOM_STATUS (R111). -/
def homStatus (s : State) : W32 :=
  word [(b2n s.hom.pfBusy, 0), (pipesIn s.hom.pipeMap, 8), ((pipeSpares s).length, 16)]

/-- HOM_PIPE_MAPm (R111). -/
def homPipeMap (s : State) (m : Nat) : W32 :=
  word ((List.range 4).map fun b => (spGet (4 * m + b) s.hom.pipeMap (4 * m + b), 8 * b))

/-- CLR_STATUS (R132). -/
def clrStatus (s : State) : W32 :=
  word [((bitMap 8 fun k => s.clr.host.any fun h => h.1 == k).toNat, 0),
    ((bitMap 8 fun k => s.scn.scan.overlays.any fun o => o.slot == k).toNat, 8)]

/-- The code of a link state (R213). -/
def linkCode : LinkState → Nat
  | .disabled => 0 | .detect => 1 | .trainEq => 2 | .trainCfg => 3 | .active => 4 | .sleep => 5 | .bcRetrain => 6
  | .failed => 7

/-- PX_GRP_STATE; the manual states no slice for a group that serves none (R213). -/
def pxGrpState (s : State) (g : Nat) : W32 :=
  let x := grp s g
  word [(linkCode x.link, 0), ((grpSlice s g).getD ((Config.freeValue s.free).toNat % 32), 4), (b2n x.inputB, 9), (x.cause, 10), (x.trainings, 16)]

/-- PX_SLICE_MAPm (R213). -/
def pxSliceMap (s : State) (m : Nat) : W32 :=
  word ((List.range 4).map fun b => (if 4 * m + b < 30 then sliceGrp s (4 * m + b) else 0, 8 * b))

/-! ### Memory and the side engines -/

/-- The code of the DRAM state (R236, R258). -/
def jglCode : JglState → Nat
  | .training => 0 | .high => 1 | .low => 2 | .switching => 3 | .rebase => 4 | .noService => 5

/-- The channel a retraining or copy works on. -/
def jobChan : JglJob → Nat
  | .retrain c => c | .rankCopy c _ => c | .chanCopy c _ => c | .foldCopy c => c | .rebase c => c

/-- JGL_STATUS (R258). -/
def jglStatus (s : State) : W32 :=
  let j := s.jgl
  let rt := match j.job with | some (.retrain _) => true | _ => false
  word [(jglCode j.state, 0), (b2n j.lowWidth, 3), (b2n (copyActive j), 4), (b2n rt, 5),
    ((j.job.map jobChan).getD 0, 8)]

/-- JGL_IL (R258). -/
def jglIl (s : State) : W32 := word [(s.jgl.n, 0), (b2n s.jgl.fold.isSome, 8), (s.jgl.fold.getD 0, 16)]

/-- JGL_SLOT_MAPm: the identity until training builds the interleave, then 0x1F at and above N (R258). -/
def jglSlotMap (s : State) (m : Nat) : W32 :=
  word ((List.range 4).map fun b =>
    let i := 4 * m + b
    (if s.jgl.n = 0 || decide (i < s.jgl.n) then spGet i s.jgl.slotMap i else 0x1F, 8 * b))

/-- JGL_CH_STATUS; before training no transition has given the channel a cause (R258, R468). -/
def jglChStatus (s : State) (c : Nat) : W32 :=
  let u := unitOf s 0 c
  let x := chanOf s c
  word [(uCode u.state, 0), (x.role, 3), (if s.jgl.state == .training then 0 else u.cause % 8, 5), (x.ranks, 8),
    (x.rankReplaced, 12), (b2n x.rankSpared, 14), (x.slot, 16)]

/-- SPM_STATUS; MIRROR_ACTIVE while a bring-in copies (R265, R280). -/
def spmStatus (s : State) : W32 :=
  word [(countBelow 544 fun b => unitUp (unitOf s 1 b), 0), (spareBanksLeft s, 16), (b2n s.spm.wipeActive, 24),
    (b2n s.spm.bringIn.isSome, 25)]

/-- SPM_BANK_STATUS (R280). -/
def spmBankStatus (s : State) (b : Nat) : W32 :=
  let u := unitOf s 1 b
  word [(match (bankOf s b).power with | .on => 0 | .ret => 1 | .off => 2, 0), (uCode u.state, 4), (b2n u.lastTest, 7),
    ((bankLogical s b).getD 0x3FF, 16), (b2n (bankSecure s b), 31)]

/-- CTN_STATUS (R281). -/
def ctnStatus (s : State) : W32 :=
  let n (st : CtxState) : Nat := s.ctn.ctxs.countP fun c => c.2.state == st
  word [(n .running, 0), (n .suspended, 8), (n .open_, 16)]

/-- CTN_CTX_BUSY0 or 1 (R281). -/
def ctnBusy (s : State) (m : Nat) : W32 := bitMap 32 fun b => (ctxOf s (32 * m + b)).state != .idle

/-- CTN_CTX_STATE (R281). -/
def ctnCtxState (x : Ctx) : W32 :=
  word [(ctxCode x.state, 0), (b2n x.dir, 3), (x.coder, 4), (x.lastStatus, 8)]

/-- SHW_STATUS (R293). -/
def shwStatus (s : State) : W32 :=
  word [((bitMap 8 fun c => (chanShw s c).state != .idle).toNat, 0),
    ((bitMap 8 fun c => (chanShw s c).state == .armed).toNat, 8), (s.shw.staging.getD 0, 16),
    (b2n s.shw.staging.isSome, 19)]

/-- SHW_CH_STATE (R293). -/
def shwChState (x : Channel) : W32 :=
  let st := match x.state with | .idle => 0 | .armed => 1 | .waiting => 2 | .staging => 2 | .running => 3
  match x.fifo with
  | [] => word [(st, 0)]
  | b :: _ => word [(st, 0), (b2n (bottomUp b), 2), (b2n (rightToLeft b), 3), (x.fifo.length, 4),
      (b.p.startWm.toNat % 8, 16), ((blitOp b.kind).toNat, 24)]

/-- The code of a mesh port's link state (R323). -/
def meshCode : MeshLink → Nat
  | .disabled => 0 | .training => 1 | .auth => 2 | .active => 3 | .retrain => 4 | .authFail => 5 | .failed => 6

/-- TRZ_PORT_STATE; the unit state shows once start has filled the unit-state table (R323, R348). -/
def trzPortState (s : State) (p : Nat) : W32 :=
  let m := meshPort s p
  word [(meshCode m.link, 0), (if isReady s then uCode (unitOf s 4 p).state else 0, 4), (m.w, 8), (m.peer % 16384, 16)]

/-! ### Host interface -/

/-- The byte of HQ_PORT_STATUS of one port (R354). -/
def portByte (h : HostPort) : Nat :=
  b2n h.linkUp + 2 * b2n h.d3hot + 4 * b2n h.l1 + 8 * (h.speed % 8) + 64 * (h.width % 4)

/-- HQ_SQ_STATUS (R354). -/
def hqSqStatus (s : State) (q : Nat) : W32 :=
  let x := sqOf s q
  word [(match x.state with | .disabled => 0 | .active => 1 | .draining => 2 | .error => 3 | .orphaned => 4, 0),
    (b2n (x.owner == .hb), 3), (sqInflight s q, 4), (x.lastSeq.toNat, 16)]

/-- HQ_CQ_STATUS (R354). -/
def hqCqStatus (x : Cq) : W32 :=
  word [(match x.state with | .disabled => 0 | .active => 1 | .orphaned => 2, 0), (b2n (x.owner == .hb), 3),
    (b2n x.overflow, 4), (b2n x.missedAsleep, 5), (b2n x.phase, 6)]

end Sys2Proof.Machine
end

