-- ==== Sys2Proof/Machine/RegMap.lean ====
section
/-! DEFINITION. What every BAR0 register reads as (R11, R13, R14 and the register tables of the blocks). A shadowed
register reads its shadow copy; a reserved field, a write-only register and an offset that holds no register read 0. -/

namespace Sys2Proof.Machine

/-- Masters 3 to 6, the Ringmaster cores (R403). -/
def fwMaster (m : Nat) : Bool := decide (3 ≤ m ∧ m ≤ 6)

/-- The port a master's access comes through (R403); a master that is no host function counts as HA. -/
def masterPort (m : Nat) : Port := if m = 1 then .hb else .ha

/-- Register number of an offset in a run of `n` registers from `base` at a stride of 4, if it is one. -/
def runIdx (base n o : Nat) : Option Nat := if base ≤ o ∧ o < base + 4 * n then some ((o - base) / 4) else none

/-- RM (R1, R78, R415). -/
def rmRead (s : State) (o : Nat) : W32 :=
  let p := s.scene.player
  match o with
  | 0x000 => 0x00B09216
  | 0x004 => rmBootStatus s
  | 0x008 => word [(s.rm.resetCause, 0), (s.rm.resets, 8)]
  | 0x00C => BitVec.ofNat 32 s.mram.bootCount
  | 0x010 => wordOf s.mram.unitId.toNat 0
  | 0x014 => wordOf s.mram.unitId.toNat 1
  | 0x018 => wordOf s.mram.unitId.toNat 2
  | 0x01C => wordOf s.mram.unitId.toNat 3
  | 0x020 => word [(lcCode s.mram.lifecycle, 0), (b2n s.mram.pending.isSome, 8)]
  | 0x024 => word [(s.rm.wdogTimeout, 0)]
  | 0x02C => word [(b2n s.rm.tamperNow, 0), (b2n s.rm.tamperSeen, 1), (s.rm.tamperWipes, 8)]
  | 0x200 => rmPlayState s
  | 0x204 => BitVec.ofNat 32 p.shownFrame
  | 0x208 => BitVec.ofNat 32 p.shown
  | 0x20C => BitVec.ofNat 32 p.budget
  | 0x210 => BitVec.ofNat 32 p.late
  | 0x214 => BitVec.ofNat 32 p.aborted
  | 0x218 => BitVec.ofNat 32 p.poison
  | 0x21C => BitVec.ofNat 32 p.skipped
  | 0x220 => BitVec.ofNat 32 p.lost
  | 0x224 => BitVec.ofNat 32 s.scene.storeSize
  | 0x228 => BitVec.ofNat 32 (storeFree s)
  | _ => 0

/-- The core registers of BRK, at an offset within a core's 0x20 (R374); the claim is `brkClaim`. -/
def brkCoreRead (s : State) (n o : Nat) : W32 :=
  match o with
  | 0x08 => brkCoreActive s n
  | 0x0C => (coreOf s n).modr
  | 0x10 => brkCoreStatus s n
  | _ => 0

/-- BRK (R374). Only Ringmaster firmware reaches the core registers. -/
def brkRead (m : Nat) (s : State) (o : Nat) : W32 :=
  let n := s.brk.srcSel
  match o with
  | 0x00 => 0x08004400
  | 0x04 => s.brk.ctrl
  | 0x08 => s.brk.err
  | 0x10 => BitVec.ofNat 32 n
  | 0x14 => brkSrcCtrl s n
  | 0x18 => brkSrcRoute (srcOf s n)
  | 0x1C => srcStatus (srcOf s n)
  | 0x20 => word [(b2n (srcOf s n).filtered, 0), (b2n (srcOf s n).raw, 1)]
  | 0x24 => word [((srcOf s n).count, 0)]
  | _ =>
    match runIdx 0x100 32 o, runIdx 0x400 32 o with
    | some k, _ => bitMap 32 fun b => (srcOf s (32 * k + b)).state != .idle
    | _, some k => bitMap 32 fun b => (srcOf s (32 * k + b)).hostPend
    | _, _ => if 0x200 ≤ o ∧ o < 0x280 ∧ fwMaster m then brkCoreRead s ((o - 0x200) / 0x20) (o % 0x20) else 0

/-- TRN (R416): TRN_BASE_LO to TRN_ENTRY_CTRL read the live entry. -/
def trnRead (s : State) (o : Nat) : W32 :=
  let t := s.trn
  let e := trnSelected s
  match o with
  | 0x00 => 0x01000440
  | 0x04 => word [(b2n t.en, 0), (b2n t.lock, 31)]
  | 0x08 => t.err
  | 0x0C => BitVec.ofNat 32 t.violCount
  | 0x10 => BitVec.ofNat 32 t.fenceCount
  | 0x14 => t.info
  | 0x18 => wordOf t.addr.toNat 0
  | 0x1C => wordOf t.addr.toNat 1 &&& 0x3FF
  | 0x20 => t.sel
  | 0x24 => wordOf e.base.toNat 0
  | 0x28 => wordOf e.base.toNat 1 &&& 0x3FF
  | 0x2C => wordOf e.limit.toNat 0
  | 0x30 => wordOf e.limit.toNat 1 &&& 0x3FF
  | 0x34 => wordOf e.r.toNat 0
  | 0x38 => wordOf e.r.toNat 1
  | 0x3C => wordOf e.w.toNat 0
  | 0x40 => wordOf e.w.toNat 1
  | 0x44 => wordOf e.x.toNat 0
  | 0x48 => wordOf e.x.toNat 1
  | 0x4C => word [(b2n e.valid, 0), (b2n e.fence, 1)]
  | _ => 0

/-- CLP (R324). -/
def clpRead (s : State) (o : Nat) : W32 :=
  let c := s.clp
  let p := meshPort s c.portSel
  match o with
  | 0x00 => 0x00000004
  | 0x04 => clpStatus s
  | 0x0C => wordOf c.snap.toNat 0
  | 0x10 => wordOf c.snap.toNat 1
  | 0x14 => wordOf c.snap.toNat 2
  | 0x20 => c.spread
  | 0x24 => c.rate1
  | 0x34 => wordOf c.tb0Ofs.toNat 0
  | 0x38 => wordOf c.tb0Ofs.toNat 1
  | 0x3C => wordOf c.tb0Ofs.toNat 2
  | 0x40 => wordOf c.tb2Ofs.toNat 0
  | 0x44 => wordOf c.tb2Ofs.toNat 1
  | 0x48 => wordOf c.tb2Ofs.toNat 2
  | 0x4C => word32 c.slew
  | 0x5C => c.rate3
  | 0x60 => c.kp
  | 0x64 => c.ki
  | 0x68 => c.stepThresh
  | 0x6C => c.outlier
  | 0x80 => BitVec.ofNat 32 c.portSel
  | 0x84 => if c.portSel < 6 then p.asym else 0
  | 0x88 => if c.portSel < 6 then word32 p.delay else 0
  | 0x8C => if c.portSel < 6 then word32 p.off else 0
  | _ => 0

/-- TH (R389). -/
def thRead (s : State) (o : Nat) : W32 :=
  let t := s.th
  let i := t.sensSel
  match o with
  | 0x00 => 0x00442428
  | 0x04 => t.ctrl
  | 0x08 => thStatus s
  | 0x0C => t.err
  | 0x10 => t.limits
  | 0x14 => 0x000007D0
  | 0x18 => t.panelCrit
  | 0x1C => t.pause
  | 0x44 => BitVec.ofNat 32 t.ntcEn
  | 0x50 => BitVec.ofNat 32 i
  | 0x54 => if i < 284 then thSensRead s i else 0
  | 0x58 => if i < 40 then (sensor s i).nbr else 0x3F3F3F3F
  | 0x5C => BitVec.ofNat 32 (sensSite s i)
  | 0x60 => BitVec.ofNat 32 t.timeL1
  | 0x64 => BitVec.ofNat 32 t.timeL2
  | 0x68 => BitVec.ofNat 32 t.timeL3
  | 0x6C => BitVec.ofNat 32 t.timePause
  | 0x70 => BitVec.ofNat 32 t.tripIndex
  | 0x74 => tripWord s
  | _ =>
    match runIdx 0x24 8 o with
    | some k => word ((List.range 4).map fun b =>
        (if 4 * k + b < 30 then (spGet (0 : Byte) t.psens (4 * k + b)).toNat else 0, 8 * b))
    | none => 0

/-- The registers of one colour of PWR, at an offset from its base (R232). -/
def railRead (x : VRail) (o : Nat) : W32 :=
  match o with
  | 0x00 => x.map
  | 0x04 => x.lim
  | 0x08 => word [(x.code, 0), (wrapN 16 x.vset, 16)]
  | 0x0C => word [(x.hmin, 0), (x.hminSlice, 16)]
  | 0x10 => word [(x.sns, 0)]
  | _ => 0

/-- PWR (R232). -/
def pwrRead (s : State) (o : Nat) : W32 :=
  let p := s.pwr
  match o with
  | 0x00 => 0x00000C03
  | 0x04 => p.ctrl
  | 0x08 => pwrStatus s
  | 0x0C => p.err
  | 0x10 => p.seq
  | 0x14 => BitVec.ofNat 32 p.pg
  | 0x18 => p.r.iref.sh
  | 0x1C => p.g.iref.sh
  | 0x20 => p.b.iref.sh
  | 0x24 => BitVec.ofNat 32 (irefOut s 0)
  | 0x28 => BitVec.ofNat 32 (irefOut s 1)
  | 0x2C => BitVec.ofNat 32 (irefOut s 2)
  | 0x30 => p.derate.sh
  | 0x34 => p.derateFloor.sh
  | 0x38 => BitVec.ofNat 32 p.derateF
  | 0x40 => p.margin
  | 0x44 => p.stepReg
  | 0xC0 => p.diag
  | 0xC4 => BitVec.ofNat 32 p.diagPtr
  | 0xC8 => BitVec.ofNat 32 p.diagPasses
  | 0xD0 => word [(p.eft.length, 0), (p.eftDropped, 16)]
  | 0xD4 => BitVec.ofNat 32 p.eftIndex
  | 0xD8 => (eftWords s).1
  | 0xDC => (eftWords s).2
  | _ => if 0x50 ≤ o ∧ o < 0xB0 then railRead (vrail s ((o - 0x50) / 0x20)) ((o - 0x50) % 0x20) else 0

/-- CAL (R435); the journal word is `jWord`. -/
def calRead (s : State) (o : Nat) : W32 :=
  let c := s.cal
  match o with
  | 0x00 => 0x00000C0E
  | 0x04 => calStatus s
  | 0x08 => c.err
  | 0x50 => c.divR
  | 0x54 => c.divG
  | 0x58 => c.divB
  | 0x60 => calSpareLeft s
  | 0x70 => calJrnlCount s
  | 0x74 => BitVec.ofNat 32 c.jrnlIndex
  | 0x78 => jWord s (c.jrnlIndex % 256) (c.jrnlIndex / 256)
  | 0x7C => if s.mram.journal.isEmpty then 0 else word [(s.mram.jrnlNewest, 0)]
  | _ =>
    match runIdx 0x10 14 o with
    | some i => word [((calItem s i).gain, 0), (wrapN 16 (calItem s i).off, 16)]
    | none => 0

/-- FW (R417). -/
def fwRead (s : State) (o : Nat) : W32 :=
  let f := s.fw
  match o with
  | 0x00 => 0x00000402
  | 0x04 => fwStatus s
  | 0x08 => f.err
  | 0x0C => f.sessionId
  | 0x10 => word [(f.blocks.length, 0), ((f.imageLen + 4095) / 4096, 16)]
  | 0x14 => BitVec.ofNat 32 (fwSlotCode f.slot0.state)
  | 0x18 => f.slot0.version
  | 0x1C => BitVec.ofNat 32 (fwSlotCode f.slot1.state)
  | 0x20 => f.slot1.version
  | 0x24 => BitVec.ofNat 32 s.mram.minSvn
  | 0x28 => f.confirmWin
  | 0x2C => fwWinLeft s
  | 0x30 => f.policy
  | 0x34 => 0x0000001E
  | _ => 0

/-- LOG (R375). -/
def logRead (s : State) (o : Nat) : W32 :=
  let l := s.log
  match o with
  | 0x00 => 0x00204000
  | 0x04 => l.thresh
  | 0x08 => BitVec.ofNat 32 l.head
  | 0x0C => BitVec.ofNat 32 l.tail
  | 0x10 => BitVec.ofNat 32 l.entries.length
  | 0x14 => BitVec.ofNat 32 l.seq
  | 0x18 => word [(l.drop, 0), (b2n l.dropFull, 30), (b2n l.dropQueue, 31)]
  | 0x1C => BitVec.ofNat 32 l.dictIndex
  | _ => 0

/-- SCN (R183): the registers of the timing show the timing in force. -/
def scnRead (s : State) (o : Nat) : W32 :=
  let c := s.scn
  let tm := qTime c.tickTb2
  match o with
  | 0x00 => 0x00080F1F
  | 0x04 => word [(timingNum s (·.mode), 0), (b2n (decide (0 < c.skip) && c.inForce.isSome), 8)]
  | 0x08 => word [(timingNum s (·.hx), 0), (timingNum s (·.hy), 16)]
  | 0x0C => word [(timingNum s (·.num), 0), (timingNum s (·.den), 20)]
  | 0x10 => BitVec.ofNat 32 (timingNum s linesVt)
  | 0x14 => BitVec.ofNat 32 (timingNum s linesB)
  | 0x18 => wordOf c.lineQ 0
  | 0x1C => BitVec.ofNat 32 (timingNum s fifoLines)
  | 0x20 => scnStatus s
  | 0x24 => word [(c.line, 0), (b2n c.inExtension, 31)]
  | 0x28 => wordOf c.tick 0
  | 0x2C => wordOf c.tick 1
  | 0x30 => BitVec.ofNat 32 c.lateCount
  | 0x34 => BitVec.ofNat 32 c.underrunCount
  | 0x38 => word [(c.underrunLine, 0), (c.underrunStage, 17)]
  | 0x3C => word [(c.fifoMin, 0)]
  | 0x40 => c.hold.sh
  | 0x44 => word [(c.holdEnd, 0), (c.holdBegun, 16)]
  | 0x48 => BitVec.ofNat 32 c.holdSlots
  | 0x50 => wordOf c.periodQ 0
  | 0x54 => wordOf c.periodQ 1
  | 0x58 => wordOf c.lineQ 1
  | 0x60 => wordOf tm.toNat 0
  | 0x64 => wordOf tm.toNat 1
  | 0x68 => wordOf tm.toNat 2
  | 0xA0 => word [(c.wmFired, 0), (c.wmMissed, 8)]
  | _ => match runIdx 0x80 8 o with | some n => spGet 0 c.wmNew n | none => 0

/-- CRSL (R160). -/
def crslRead (s : State) (o : Nat) : W32 :=
  let c := s.crsl
  match o with
  | 0x00 => 0x33043800
  | 0x04 => c.ctrl.sh
  | 0x08 => crslStatus s
  | 0x0C => c.err
  | 0x10 => BitVec.ofNat 32 (c.regions.countP fun r => r.2.state == .run)
  | 0x14 => BitVec.ofNat 32 (crslBlack s)
  | 0x18 => BitVec.ofNat 32 (c.regions.countP fun r => r.2.queued.isSome)
  | 0x1C => BitVec.ofNat 32 c.quiet
  | 0x20 => BitVec.ofNat 32 c.cutCount
  | 0x24 => BitVec.ofNat 32 c.tblErrCount
  | 0x28 => BitVec.ofNat 32 c.priorPoisonCount
  | 0x2C => BitVec.ofNat 32 c.priorPitch
  | 0x60 => BitVec.ofNat 32 c.ctxIndex
  | 0x64 => if c.ctxIndex < 276480 then regionWord (regionOf s c.ctxIndex) else 0
  | _ =>
    match runIdx 0x30 7 o, runIdx 0x50 4 o with
    | some n, _ => (bandReg s (n + 1)).sh
    | _, some m => crslZoneBand s m
    | _, _ => 0

/-- HOM (R111). A row limit past 32 bits is shown by its low 32 (DESIGN CHOICE, log entry 141). -/
def homRead (s : State) (o : Nat) : W32 :=
  let h := s.hom
  match o with
  | 0x00 => 0x00480040
  | 0x04 => h.ctrl.sh
  | 0x08 => h.laLo.sh
  | 0x0C => h.laHi.sh
  | 0x10 => h.edge.sh
  | 0x14 => homStatus s
  | 0x18 => h.err
  | 0x20 => word [(h.pfOutcome, 0), (h.pfRow, 16)]
  | 0x24 => wordOf h.pfCost 0
  | 0x28 => wordOf h.pfCost 1
  | 0x2C => wordOf h.pfBudget 0
  | 0x30 => wordOf h.pfBudget 1
  | 0x34 => BitVec.ofNat 32 h.pfRowLim
  | 0x38 => BitVec.ofNat 32 h.pfRowMax
  | 0x40 => BitVec.ofNat 32 h.frameFlags
  | 0x44 => BitVec.ofNat 32 h.poisonCount
  | 0x48 => BitVec.ofNat 32 h.haloLateCount
  | 0x50 => BitVec.ofNat 32 h.pipeErrCount
  | 0x60 => wordOf h.selftestFail.toNat 0
  | 0x64 => wordOf h.selftestFail.toNat 1
  | 0x68 => wordOf h.selftestFail.toNat 2
  | _ => match runIdx 0x100 16 o with | some m => homPipeMap s m | none => 0

/-- CLR (R132); the table word is `clrTableRead`. -/
def clrRead (s : State) (o : Nat) : W32 :=
  let c := s.clr
  match o with
  | 0x00 => 0x00400208
  | 0x04 => c.ctrl.sh
  | 0x08 => clrStatus s
  | 0x0C => c.err
  | 0x10 => BitVec.ofNat 32 c.frameFlags
  | 0x14 => BitVec.ofNat 32 c.clipCount
  | 0x18 => BitVec.ofNat 32 c.ovlPoisonCount
  | 0x20 => c.tblSel
  | 0x24 => BitVec.ofNat 32 c.tblIndex
  | _ =>
    match runIdx 0x40 5 o, runIdx 0x60 5 o, runIdx 0x80 5 o with
    | some i, _, _ => (matReg c.inmat0 i).sh
    | _, some i, _ => (matReg c.inmat1 i).sh
    | _, _, some i => (matReg c.outmat i).sh
    | _, _, _ => 0

/-- PX (R213). -/
def pxRead (s : State) (o : Nat) : W32 :=
  let x := grp s s.px.grpSel
  match o with
  | 0x00 => 0x001E0C20
  | 0x04 => s.px.ctrl
  | 0x08 => bitMap 32 fun g => (grp s g).link == .active
  | 0x0C => s.px.err
  | 0x10 => s.px.pathFault
  | 0x14 => word [(s.px.spSel0, 0), (s.px.spSel1, 8)]
  | 0x18 => word [(s.px.spanTick, 0)]
  | 0x20 => BitVec.ofNat 32 s.px.grpSel
  | 0x24 => pxGrpState s s.px.grpSel
  | 0x28 => x.fir
  | 0x2C => x.shown.crcPre
  | 0x30 => x.shown.crcPad
  | 0x34 => x.shown.crcFar
  | 0x38 => word [(x.shown.mismatch, 0), (x.shown.missing, 16)]
  | 0x3C => BitVec.ofNat 32 x.shown.bcBad
  | 0x40 => x.partnerId
  | 0x44 => BitVec.ofNat 32 x.shown.lineCrc
  | _ => match runIdx 0x100 8 o with | some m => pxSliceMap s m | none => 0

/-- The registers of the mesh port in TRZ_PORT_SEL (R323). -/
def trzPortRead (s : State) (p o : Nat) : W32 :=
  let m := meshPort s p
  match o with
  | 0x44 => trzPortState s p
  | 0x48 => word [(spGet 0 (mapInForce s.mram).trzBad p, 0), (m.active.toNat, 16)]
  | 0x4C => m.fir
  | 0x50 => m.expect
  | 0x54 => BitVec.ofNat 32 m.retry
  | 0x58 => BitVec.ofNat 32 m.laneErr
  | 0x5C => BitVec.ofNat 32 m.drop
  | 0x60 => BitVec.ofNat 32 m.badFrames
  | 0x64 => BitVec.ofNat 32 m.authBad
  | _ => 0

/-- TRZ (R323); the route word is `routeOf`. -/
def trzRead (s : State) (o : Nat) : W32 :=
  let t := s.trz
  let g := spGet ({} : Gateway) t.gws t.gwSel
  match o with
  | 0x00 => 0x00401006
  | 0x04 => t.ctrl
  | 0x08 => t.id
  | 0x0C => t.err
  | 0x10 => t.time
  | 0x14 => t.sync
  | 0x18 => t.gwTimeout
  | 0x1C => t.accept0
  | 0x20 => t.accept1
  | 0x24 => BitVec.ofNat 32 t.haloTrunc
  | 0x28 => BitVec.ofNat 32 t.haloBad
  | 0x2C => BitVec.ofNat 32 t.rxDrop
  | 0x30 => BitVec.ofNat 32 t.routeIndex
  | 0x40 => BitVec.ofNat 32 t.portSel
  | 0x80 => BitVec.ofNat 32 t.gwSel
  | 0x84 => g.id
  | 0x88 => wordOf g.base.toNat 0
  | 0x8C => wordOf g.base.toNat 1
  | 0x90 => wordOf g.limit.toNat 0
  | 0x94 => wordOf g.limit.toNat 1
  | _ => if t.portSel < 6 then trzPortRead s t.portSel o else 0

/-- SHW (R293). -/
def shwRegs (s : State) (o : Nat) : W32 :=
  let c := s.shw.chSel
  let x := chanShw s c
  match o with
  | 0x00 => 0x00081028
  | 0x04 => s.shw.ctrl
  | 0x08 => shwStatus s
  | 0x0C => s.shw.err
  | 0x10 => BitVec.ofNat 32 s.shw.poisonCount
  | 0x20 => BitVec.ofNat 32 c
  | 0x24 => if c < 2 then 0 else BitVec.ofNat 32 x.dead
  | 0x28 => shwChState x
  | 0x2C => word [(x.rows, 0), (match x.fifo with | b :: _ => b.p.height.toNat | [] => 0, 16)]
  | 0x30 => BitVec.ofNat 32 x.done
  | _ => 0

/-- CTN (R281). -/
def ctnRead (s : State) (o : Nat) : W32 :=
  let c := s.ctn
  match o with
  | 0x00 => 0x00202040
  | 0x04 => c.ctrl
  | 0x08 => ctnStatus s
  | 0x0C => c.err
  | 0x10 => ctnBusy s 0
  | 0x14 => ctnBusy s 1
  | 0x18 => BitVec.ofNat 32 c.tileFail
  | 0x1C => BitVec.ofNat 32 c.rawCount
  | 0x20 => BitVec.ofNat 32 c.jobCount
  | 0x24 => BitVec.ofNat 32 c.suspendCount
  | 0x30 => BitVec.ofNat 32 c.ctxSel
  | 0x34 => ctnCtxState (ctxOf s c.ctxSel)
  | _ => 0

/-- SPM (R280). -/
def spmRegs (s : State) (o : Nat) : W32 :=
  let p := s.spm
  let b := p.bankSel
  let x := bankOf s b
  match o with
  | 0x00 => 0x02000220
  | 0x04 => spmStatus s
  | 0x08 => p.err
  | 0x0C => BitVec.ofNat 32 p.busyCount
  | 0x10 => word [(b2n p.wipeActive, 0), (b2n p.wipePassed, 1), (p.wipeCause, 2), (p.wipes, 16)]
  | 0x20 => BitVec.ofNat 32 b
  | 0x24 => if b < 544 then spmBankStatus s b else 0
  | 0x28 => if b < 544 then BitVec.ofNat 32 x.req else 0
  | 0x2C => BitVec.ofNat 32 x.ce
  | 0x30 => word [(x.ueLasting, 0), (x.ueTransient, 16)]
  | _ =>
    match runIdx 0x400 256 o with
    | some m => word [(bankPhys s (2 * m), 0), (bankPhys s (2 * m + 1), 16)]
    | none => 0

/-- The registers of the channel in JGL_CH_SEL (R258). -/
def jglChRead (s : State) (c o : Nat) : W32 :=
  let x := chanOf s c
  match o with
  | 0x84 => jglChStatus s c
  | 0x88 => BitVec.ofNat 32 x.ce
  | 0x8C => word [(x.ueLasting, 0), (x.ueTransient, 16)]
  | 0x90 => BitVec.ofNat 32 x.rh
  | 0x94 => word [(x.temp.toNat, 0), (x.mult, 16)]
  | _ => 0

/-- The registers of the port in JGL_REG_SEL (R250, R258). -/
def jglRegRead (s : State) (p o : Nat) : W32 :=
  let r := regOf s p
  match o with
  | 0xC4 => BitVec.ofNat 32 r.rate
  | 0xC8 => BitVec.ofNat 32 r.burst
  | 0xCC => word [(b2n r.cut, 0), (r.cuts, 16)]
  | _ => 0

/-- JGL (R258). -/
def jglRead (s : State) (o : Nat) : W32 :=
  let j := s.jgl
  match o with
  | 0x00 => 0x00001418
  | 0x04 => j.cfg
  | 0x08 => jglStatus s
  | 0x0C => j.err
  | 0x10 => jglIl s
  | 0x14 => BitVec.ofNat 32 j.stripes
  | 0x18 => BitVec.ofNat 32 j.foldTop
  | 0x1C => BitVec.ofNat 32 j.evacPtr
  | 0x20 => word [(b2n j.foldAck, 0)]
  | 0x24 => wordOf j.limit 0
  | 0x28 => wordOf j.limit 1 &&& 0x3FF
  | 0x2C => wordOf j.ueAddr 0
  | 0x30 => wordOf j.ueAddr 1 &&& 0x3FF
  | 0x34 => j.ceLimit
  | 0x38 => j.ref
  | 0x3C => j.rh
  | 0x40 => j.scrub
  | 0x44 => BitVec.ofNat 32 j.fc
  | 0x80 => BitVec.ofNat 32 j.chSel
  | 0xC0 => BitVec.ofNat 32 j.regSel
  | _ =>
    match runIdx 0x50 6 o with
    | some m => jglSlotMap s m
    | none =>
      if 0x84 ≤ o ∧ o ≤ 0x94 then (if j.chSel < 24 then jglChRead s j.chSel o else 0)
      else if j.regSel < 12 then jglRegRead s j.regSel o else 0

/-- The registers of the submission queue in HQ_Q_SEL (R354). -/
def hqSqRead (s : State) (q o : Nat) : W32 :=
  let x := sqOf s q
  match o with
  | 0x44 => wordOf x.base.toNat 0
  | 0x48 => wordOf x.base.toNat 1
  | 0x4C => x.cfg
  | 0x50 => x.target
  | 0x54 => word [(b2n (x.state == .active), 0)]
  | 0x58 => hqSqStatus s q
  | 0x5C => BitVec.ofNat 32 x.head
  | _ => 0

/-- The registers of the completion queue in HQ_Q_SEL (R354). -/
def hqCqRead (s : State) (q o : Nat) : W32 :=
  let c := cqOf s q
  match o with
  | 0x60 => wordOf c.base.toNat 0
  | 0x64 => wordOf c.base.toNat 1
  | 0x68 => c.cfg
  | 0x6C => word [(b2n (c.state == .active), 0)]
  | 0x70 => c.modr
  | 0x74 => hqCqStatus c
  | 0x78 => BitVec.ofNat 32 c.tail
  | 0x7C => BitVec.ofNat 32 c.drop
  | _ => 0

/-- The MSI-X structures of a port, at an offset from its table (R354). -/
def msixRead (h : HostPort) (o : Nat) : W32 :=
  if o < 0x8000 then wordOf (spGet msixDflt h.msix (o / 16)).toNat (o % 16 / 4)
  else if o < 0x8100 then bitMap 32 fun b => spGet false h.pba (8 * (o - 0x8000) + b)
  else 0

/-- HQ (R354). -/
def hqRead (s : State) (o : Nat) : W32 :=
  let h := s.hq
  let q := h.qSel
  match o with
  | 0x00 => 0x04000400
  | 0x04 => word [(b2n h.hbMode, 0), (b2n h.portLock, 8), (h.failoverMs, 16)]
  | 0x08 => word [(portByte h.ha, 0), (portByte h.hb, 8)]
  | 0x0C => h.err
  | 0x10 => word [(allInflight s, 0)]
  | 0x20 => wordOf h.ha.bar4.toNat 0
  | 0x24 => wordOf h.ha.bar4.toNat 1
  | 0x28 => wordOf h.hb.bar4.toNat 0
  | 0x2C => wordOf h.hb.bar4.toNat 1
  | 0x30 => word [(h.eid.toNat, 0), (h.mboxOut.length, 8), (h.mboxDiscard, 16)]
  | 0x40 => BitVec.ofNat 32 q
  | _ =>
    if 0x44 ≤ o ∧ o ≤ 0x5C then hqSqRead s q o
    else if 0x60 ≤ o ∧ o ≤ 0x7C then hqCqRead s q o
    else match runIdx 0x20000 64 o, runIdx 0x20100 64 o with
      | some n, _ => spGet 0 h.ha.vecIdle n
      | _, some n => spGet 0 h.hb.vecIdle n
      | _, _ =>
        if 0x80000 ≤ o ∧ o < 0x90000 then msixRead h.ha (o - 0x80000)
        else if 0x90000 ≤ o ∧ o < 0xA0000 then msixRead h.hb (o - 0x90000)
        else 0

/-- The stored field of a table entry in the shadow copy; 0 beyond the table (R130). -/
def clrTableRead (s : State) : W32 :=
  let t := s.clr.tblSel.toNat % 16
  if s.clr.tblIndex < tblSize t then BitVec.ofNat 32 (tblGet s.clr.tblSh t s.clr.tblIndex) else 0

/-- What a naturally aligned 32-bit read at a BAR0 offset returns to a master that may make it, leaving aside what
the read does (R11, R13). -/
def regRead (m : Nat) (s : State) (off : Nat) : W32 :=
  let o := off % 0x100000
  match off / 0x100000 with
  | 0x00 => rmRead s o
  | 0x01 => brkRead m s o
  | 0x02 => trnRead s o
  | 0x03 => clpRead s o
  | 0x04 => thRead s o
  | 0x05 => pwrRead s o
  | 0x06 => calRead s o
  | 0x07 => fwRead s o
  | 0x08 => logRead (logDrain s) o
  | 0x10 => scnRead s o
  | 0x11 => crslRead s o
  | 0x12 => homRead s o
  | 0x13 => if o = 0x28 then clrTableRead s else clrRead s o
  | 0x14 => pxRead s o
  | 0x15 => if o = 0x34 then BitVec.ofNat 32 (routeOf s s.trz.routeIndex) else trzRead s o
  | 0x16 => shwRegs s o
  | 0x17 => ctnRead s o
  | 0x18 => spmRegs s o
  | 0x19 => jglRead s o
  | 0x1B => hqRead s o
  | _ => 0

end Sys2Proof.Machine
end

