-- ==== Sys2Proof/Machine/Regs.lean ====
section
/-! DEFINITION. Writes of BAR0 registers under their access types, and the reads that change state (R13 to R16, R394,
R405 and the register tables of the blocks). -/

namespace Sys2Proof.Machine

/-! ### Who reaches BAR0 (R13, R394, R405) -/

/-- HQ offsets of the queue registers that answer before READY (R394). -/
def queueReg (o : Nat) : Bool :=
  decide (0x40 ≤ o ∧ o ≤ 0x54) || decide (0x60 ≤ o ∧ o ≤ 0x70) || decide (0x10000 ≤ o ∧ o < 0x12000) ||
    decide (0x80000 ≤ o ∧ o < 0xA0000)

/-- What answers before READY and in RECOVERY (R394). -/
def earlyReg (off : Nat) (write : Bool) : Bool :=
  (off / 0x100000 == 0x1B && queueReg (off % 0x100000)) || (!write && (off == 0 || off == 4))

/-- A BAR0 access reaches its register: the Turnstile of target 2 decides for firmware and from READY on, and before
READY a fixed set answers. The state records a refusal (R394, R405). -/
def barGate (m off : Nat) (write : Bool) (s : State) : Bool × State :=
  if isReady s || fwMaster m then
    match trnAccess 2 m (if write then .w else .r) off 4 s with
    | (none, s1) => (true, s1)
    | (some _, s1) => (false, s1)
  else (earlyReg off write, s)

/-- A register write; a refused one is discarded (R394, R405). -/
def barWrite (m off : Nat) (f : State → State) (s : State) : State :=
  let g := barGate m off true s
  if g.1 then f g.2 else g.2

/-- A register read with an effect of its own; a refused one returns all ones (R394, R405). -/
def barRead (m off : Nat) (v : State → W32) (f : State → State) (s : State) : State :=
  let g := barGate m off false s
  if g.1 then f (emit (.readReg (v g.2)) g.2) else emit (.readReg 0xFFFFFFFF) g.2

/-- BAR0_BAD_ACCESS: dropped, or read as all ones, and logged (R13). A naturally aligned 32-bit access is none. -/
def bar0BadAccess (m off : Nat) (write : Bool) (len : Nat) (s : State) : State :=
  if len = 4 ∧ off % 4 = 0 then s else
  let s1 := log .rmBar0Access [off, m, b2n write, min len 0xFFFF] s
  if write then s1 else emit (.readReg 0xFFFFFFFF) s1

/-- The part of a write-1-to-clear register that stays (R14). -/
def w1c (r v : W32) : W32 := r &&& ~~~v

/-- Word `n` of a 64-bit register written, under a mask. -/
def setHalf (x : W64) (n : Nat) (v mask : W32) : W64 :=
  merge x (put (v &&& mask).toNat (32 * n)) (put 0xFFFFFFFF (32 * n))

/-! ### RM, BRK, TRN -/

/-- RM_WDOG.KICK starts the watchdog's time anew (R392). -/
def wdogKick (s : State) : State := { s with rm := { s.rm with wdogStart := mtOf s } }

/-- RM_WDOG: only firmware writes it (R392, R415). -/
def wdogWrite (m : Nat) (v : W32) (s : State) : State :=
  if !fwMaster m then s
  else
    let s1 := { s with rm := { s.rm with wdogTimeout := fld v 15 0 } }
    if bitOf v 31 then wdogKick s1 else s1

/-- RM (R415). -/
def rmWrite (m o : Nat) (v : W32) (s : State) : State :=
  match o with
  | 0x24 => wdogWrite m v s
  | 0x28 => rmReset v s
  | 0x2C => { s with rm := { s.rm with tamperSeen := s.rm.tamperSeen && !bitOf v 1 } }
  | _ => s

/-- FORCE injects an event into a source (R357). -/
def srcForce (n : Nat) (s : State) : State := brkEvent n s

/-- BRK_SRC_CTRL: the fields, then FORCE (R357, R374). -/
def brkSrcCtrlWrite (v : W32) (s : State) : State :=
  let n := s.brk.srcSel
  let s1 := srcCtrlWrite n v s
  if bitOf v 31 then srcForce n s1 else s1

/-- BRK_SRC_COUNT.CLEAR (R357). -/
def brkCountWrite (v : W32) (s : State) : State :=
  if bitOf v 8 then modSrc s.brk.srcSel (fun x => { x with count := 0 }) s else s

/-- BRK_HOST_PENDm (R365, R374). -/
def brkHostPendWrite (k : Nat) (v : W32) (s : State) : State :=
  eachNat (fun b s => if bitOf v b then hostPendClear (32 * k + b) s else s) (List.range 32) s

/-- The core registers of BRK (R361, R363, R374). -/
def brkCoreWrite (n o : Nat) (v : W32) (s : State) : State :=
  match o with
  | 0x04 => brkComplete n (fld v 9 0) s
  | 0x0C => modSettle n (modCore n (fun c => { c with modr := v }) s)
  | _ => s

/-- BRK (R374). -/
def brkWrite (m o : Nat) (v : W32) (s : State) : State :=
  match o with
  | 0x04 => if bitOf s.brk.ctrl 31 then s else { s with brk := { s.brk with ctrl := v &&& 0x80000107 } }
  | 0x08 => { s with brk := { s.brk with err := w1c s.brk.err v } }
  | 0x10 => { s with brk := { s.brk with srcSel := fld v 9 0 } }
  | 0x14 => brkSrcCtrlWrite v s
  | 0x18 => srcRouteWrite s.brk.srcSel v s
  | 0x24 => brkCountWrite v s
  | _ =>
    match runIdx 0x400 32 o with
    | some k => brkHostPendWrite k v s
    | none => if 0x200 ≤ o ∧ o < 0x280 ∧ fwMaster m then brkCoreWrite ((o - 0x200) / 0x20) (o % 0x20) v s else s

/-- The number of the entry TRN_SEL names. -/
def trnKey (s : State) : Nat := 256 * fld s.trn.sel 9 8 + fld s.trn.sel 7 0

/-- The staging copy of the entry TRN_SEL names, changed (R406, R416). -/
def trnStage (f : TrnEntry → TrnEntry) (s : State) : State :=
  { s with trn := { s.trn with staged := spMod {} s.trn.staged (trnKey s) f } }

/-- TRN_ENTRY_CTRL.APPLY: the staged entry becomes live, but for entries 128 to 255 under LOCK (R406, R416). -/
def trnApply (s : State) : State :=
  let e := fld s.trn.sel 7 0
  if s.trn.lock && decide (128 ≤ e) then s
  else trnSet (fld s.trn.sel 9 8) e (spGet {} s.trn.staged (trnKey s)) s

/-- TRN_ENTRY_CTRL (R416). -/
def trnCtrlWrite (v : W32) (s : State) : State :=
  let s1 := trnStage (fun e => { e with valid := bitOf v 0, fence := bitOf v 1 }) s
  if bitOf v 31 then trnApply s1 else s1

/-- TRN (R416): masters 3 to 6 alone write. -/
def trnWrite (m o : Nat) (v : W32) (s : State) : State :=
  if !fwMaster m then s
  else match o with
    | 0x04 => if s.trn.lock then s else { s with trn := { s.trn with en := bitOf v 0, lock := bitOf v 31 } }
    | 0x08 => { s with trn := { s.trn with err := w1c s.trn.err v } }
    | 0x20 => { s with trn := { s.trn with sel := v &&& 0x3FF } }
    | 0x24 => trnStage (fun e => { e with base := setHalf e.base 0 v 0xFFFFFFFF }) s
    | 0x28 => trnStage (fun e => { e with base := setHalf e.base 1 v 0x3FF }) s
    | 0x2C => trnStage (fun e => { e with limit := setHalf e.limit 0 v 0xFFFFFFFF }) s
    | 0x30 => trnStage (fun e => { e with limit := setHalf e.limit 1 v 0x3FF }) s
    | 0x34 => trnStage (fun e => { e with r := setHalf e.r 0 v 0xFFFFFFFF }) s
    | 0x38 => trnStage (fun e => { e with r := setHalf e.r 1 v 0xFFFFFFFF }) s
    | 0x3C => trnStage (fun e => { e with w := setHalf e.w 0 v 0xFFFFFFFF }) s
    | 0x40 => trnStage (fun e => { e with w := setHalf e.w 1 v 0xFFFFFFFF }) s
    | 0x44 => trnStage (fun e => { e with x := setHalf e.x 0 v 0xFFFFFFFF }) s
    | 0x48 => trnStage (fun e => { e with x := setHalf e.x 1 v 0xFFFFFFFF }) s
    | 0x4C => trnCtrlWrite v s
    | _ => s

/-! ### CLP, TH, PWR -/

/-- CLP (R316, R317, R324). A rate written replaces one carried over a device reset. -/
def clpWrite (o : Nat) (v : W32) (s : State) : State :=
  let c := s.clp
  match o with
  | 0x08 => clpSnap (fld v 1 0) s
  | 0x20 => { s with clp := { c with spread := v } }
  | 0x24 => { s with clp := { c with rate1 := v, keep1 := none } }
  | 0x28 => { s with clp := { c with step0 := v } }
  | 0x2C => { s with clp := { c with step1 := v } }
  | 0x30 => clpTb1Step v s
  | 0x34 => { s with clp := { c with tb0Ofs := setWord c.tb0Ofs 0 v } }
  | 0x38 => { s with clp := { c with tb0Ofs := setWord c.tb0Ofs 1 v } }
  | 0x3C => tb0OffsetWrite v s
  | 0x40 => { s with clp := { c with tb2Ofs := setWord c.tb2Ofs 0 v } }
  | 0x44 => { s with clp := { c with tb2Ofs := setWord c.tb2Ofs 1 v } }
  | 0x48 => tb2OffsetWrite v s
  | 0x50 => { s with clp := { c with set0 := v } }
  | 0x54 => { s with clp := { c with set1 := v } }
  | 0x58 => tb3SetWrite v s
  | 0x5C => { s with clp := { c with rate3 := v, keep3 := none } }
  | 0x60 => { s with clp := { c with kp := v } }
  | 0x64 => { s with clp := { c with ki := v } }
  | 0x68 => { s with clp := { c with stepThresh := v } }
  | 0x6C => { s with clp := { c with outlier := v } }
  | 0x80 => { s with clp := { c with portSel := fld v 2 0 } }
  | 0x84 => if c.portSel < 6 then modMesh c.portSel (fun p => { p with asym := v }) s else s
  | _ => s

/-- A change of the declared panel sensors and NTC inputs: a newly declared one is ONLINE, one no longer declared is
OFFLINE with cause UNDECLARED (R376, R468). -/
def declareBy (f : State → State) (s : State) : State :=
  let s1 := f s
  eachNat (fun k s2 =>
    let i := 40 + k
    if sensDeclared s i == sensDeclared s1 i then s2
    else if sensDeclared s1 i then unitTo 5 i .online 0 s2
    else unitTo 5 i .offline 9 s2) (List.range 244) s1

/-- TH_PSENS_ENk (R389). -/
def psensWrite (k : Nat) (v : W32) (s : State) : State :=
  declareBy (fun s => (List.range 4).foldl (fun s b =>
    if 4 * k + b < 30 then
      { s with th := { s.th with psens := spSet 0 s.th.psens (4 * k + b) (BitVec.ofNat 8 (fld v (8 * b + 7) (8 * b))) } }
    else s) s) s

/-- TH (R381, R382, R388, R389). -/
def thWrite (m o : Nat) (v : W32) (s : State) : State :=
  let t := s.th
  match o with
  | 0x04 => { s with th := { t with ctrl := v &&& 0x7 } }
  | 0x0C => { s with th := { t with err := w1c t.err v } }
  | 0x10 => limitsWrite v s
  | 0x18 => { s with th := { t with panelCrit := v &&& 0xFFFF } }
  | 0x1C => { s with th := { t with pause := v &&& 0xFFFF } }
  | 0x20 => if bitOf v 0 then ackL3 s else s
  | 0x44 => declareBy (fun s => { s with th := { s.th with ntcEn := fld v 3 0 } }) s
  | 0x50 => { s with th := { t with sensSel := fld v 8 0 } }
  | 0x58 => if fwMaster m && decide (t.sensSel < 40) then modSensor t.sensSel (fun x => { x with nbr := v &&& 0x3F3F3F3F }) s else s
  | 0x70 => { s with th := { t with tripIndex := fld v 4 0 } }
  | 0x78 => tripClear v s
  | _ => match runIdx 0x24 8 o with | some k => psensWrite k v s | none => s

/-- PWR_CTRL: PWRSEQ_LEGACY only in OFF, DIAG_EN and LOOP_EN, then a change of PANEL_ON (R217, R219, R220, R232). -/
def pwrCtrlWrite (v : W32) (s : State) : State :=
  let s1 := legacyWrite (bitOf v 1) s
  let s2 := { s1 with pwr := { s1.pwr with ctrl := merge s1.pwr.ctrl v 0xC } }
  if bitOf v 0 == bitOf s.pwr.ctrl 0 then s2 else if bitOf v 0 then panelOnSet s2 else panelOnClear s2

/-- The registers of one colour of PWR (R232). -/
def railWrite (c o : Nat) (v : W32) (s : State) : State :=
  match o with
  | 0x00 => modRail c (fun x => { x with map := v }) s
  | 0x04 => modRail c (fun x => { x with lim := v }) s
  | _ => s

/-- The shadow copy of a colour's IREF code (R232). -/
def irefWrite (c : Nat) (v : W32) (s : State) : State :=
  modRail c (fun x => { x with iref := { x.iref with sh := v &&& 0xFFF } }) s

/-- PWR (R232). -/
def pwrWrite (o : Nat) (v : W32) (s : State) : State :=
  let p := s.pwr
  match o with
  | 0x04 => pwrCtrlWrite v s
  | 0x0C => { s with pwr := { p with err := w1c p.err v } }
  | 0x10 => { s with pwr := { p with seq := v &&& 0x00FFFFFF } }
  | 0x18 => irefWrite 0 v s
  | 0x1C => irefWrite 1 v s
  | 0x20 => irefWrite 2 v s
  | 0x30 => { s with pwr := { p with derate := { p.derate with sh := v } } }
  | 0x34 => { s with pwr := { p with derateFloor := { p.derateFloor with sh := v &&& 0x1FFFF } } }
  | 0x40 => { s with pwr := { p with margin := v } }
  | 0x44 => { s with pwr := { p with stepReg := v } }
  | 0xC0 => { s with pwr := { p with diag := v &&& 0xFF } }
  | 0xD4 => { s with pwr := { p with eftIndex := fld v 9 0 } }
  | _ => if 0x50 ≤ o ∧ o < 0xB0 then railWrite ((o - 0x50) / 0x20) ((o - 0x50) % 0x20) v s else s

/-! ### CAL, FW, LOG -/

/-- CAL (R435). -/
def calWrite (o : Nat) (v : W32) (s : State) : State :=
  let c := s.cal
  match o with
  | 0x08 => { s with cal := { c with err := w1c c.err v } }
  | 0x50 => { s with cal := { c with divR := v &&& 0xFFFF } }
  | 0x54 => { s with cal := { c with divG := v &&& 0xFFFF } }
  | 0x58 => { s with cal := { c with divB := v &&& 0xFFFF } }
  | 0x74 => { s with cal := { c with jrnlIndex := fld v 13 0 } }
  | _ => s

/-- FW (R417). -/
def fwWrite (o : Nat) (v : W32) (s : State) : State :=
  let f := s.fw
  match o with
  | 0x08 => { s with fw := { f with err := w1c f.err v } }
  | 0x28 => if f.confirmLock || bitOf f.policy 31 then s else { s with fw := { f with confirmWin := v &&& 0xFFF } }
  | 0x30 => if bitOf f.policy 31 then s else { s with fw := { f with policy := v &&& 0x80000001 } }
  | _ => s

/-- LOG (R375). -/
def logWrite (o : Nat) (v : W32) (s : State) : State :=
  let s1 := logDrain s
  match o with
  | 0x04 => logLevel { s1 with log := { s1.log with thresh := v &&& 0x7FFF } }
  | 0x18 => logDropClear v s1
  | 0x1C => { s1 with log := { s1.log with dictIndex := fld v 15 0 } }
  | _ => s1

/-! ### SCN, CRSL, HOM, CLR, PX -/

/-- SCN (R183). -/
def scnWrite (o : Nat) (v : W32) (s : State) : State :=
  let c := s.scn
  match o with
  | 0x20 => { s with scn := { c with commitLate := c.commitLate && !bitOf v 8, underrun := c.underrun && !bitOf v 9 } }
  | 0x40 => { s with scn := { c with hold := { c.hold with sh := v &&& 0x3 } } }
  | 0xA0 => { s with scn := { c with
      wmFired := (w1c (put c.wmFired 0) (v &&& 0xFF)).toNat,
      wmMissed := (w1c (put c.wmMissed 0) (put (fld v 15 8) 0)).toNat } }
  | _ =>
    match runIdx 0x80 8 o with
    | some n => { s with scn := { c with wmNew := spSet 0 c.wmNew n (v &&& 0x8007FFFF) } }
    | none => s

/-- CRSL (R160). -/
def crslWrite (o : Nat) (v : W32) (s : State) : State :=
  let c := s.crsl
  match o with
  | 0x04 => { s with crsl := { c with ctrl := { c.ctrl with sh := v &&& 0x73 } } }
  | 0x0C => { s with crsl := { c with err := w1c c.err v } }
  | 0x60 => { s with crsl := { c with ctxIndex := fld v 18 0 } }
  | _ =>
    match runIdx 0x30 7 o with
    | some n => { s with crsl := { c with
        bands := spMod (Rws.of (bandReset (n + 1))) c.bands (n + 1) fun r => { r with sh := v &&& 0xFFFF } } }
    | none => s

/-- HOM (R111). -/
def homWrite (o : Nat) (v : W32) (s : State) : State :=
  let h := s.hom
  match o with
  | 0x04 => { s with hom := { h with ctrl := { h.ctrl with sh := v &&& 0x1 } } }
  | 0x08 => { s with hom := { h with laLo := { h.laLo with sh := v &&& 0xFFFFFFC0 } } }
  | 0x0C => { s with hom := { h with laHi := { h.laHi with sh := v &&& 0x3FF } } }
  | 0x10 => { s with hom := { h with edge := { h.edge with sh := v &&& 0x1F1F1F1F } } }
  | 0x18 => { s with hom := { h with err := w1c h.err v } }
  | 0x60 => { s with hom := { h with selftestFail := h.selftestFail &&& ~~~(put v.toNat 0) } }
  | 0x64 => { s with hom := { h with selftestFail := h.selftestFail &&& ~~~(put v.toNat 32) } }
  | 0x68 => { s with hom := { h with selftestFail := h.selftestFail &&& ~~~(put (fld v 7 0) 64) } }
  | _ => s

/-- A matrix register's shadow copy (R132); the upper half of register 4 is reserved. -/
def matWrite (x : Sparse Rws) (i : Nat) (v : W32) : Sparse Rws :=
  spMod (Rws.of (matReset i)) x i fun r => { r with sh := if i = 4 then v &&& 0xFFFF else v }

/-- The index of CLR_TBL_DATA moves on (R130). -/
def clrTblNext (s : State) : State := { s with clr := { s.clr with tblIndex := (s.clr.tblIndex + 1) % 2048 } }

/-- The index is beyond the selected table: TBL_RANGE (R130). -/
def clrTblRange (s : State) : State :=
  if s.clr.tblIndex < tblSize (s.clr.tblSel.toNat % 16) then s
  else { s with clr := { s.clr with err := setBit s.clr.err 0 } }

/-- A write of CLR_TBL_DATA: the stored field of the shadow entry (R130). -/
def clrTblWrite (v : W32) (s : State) : State :=
  let t := s.clr.tblSel.toNat % 16
  let s1 := clrTblRange s
  let s2 := if s.clr.tblIndex < tblSize t then
      { s1 with clr := { s1.clr with
        tblSh := tblSet s1.clr.tblSh t s1.clr.tblIndex (v.toNat % 2 ^ tblBits t) } }
    else s1
  clrTblNext s2

/-- CLR (R132). -/
def clrWrite (o : Nat) (v : W32) (s : State) : State :=
  let c := s.clr
  match o with
  | 0x04 => { s with clr := { c with ctrl := { c.ctrl with sh := v &&& 0x3 } } }
  | 0x0C => { s with clr := { c with err := w1c c.err v } }
  | 0x20 => { s with clr := { c with tblSel := v &&& 0xF } }
  | 0x24 => { s with clr := { c with tblIndex := fld v 10 0 } }
  | 0x28 => clrTblWrite v s
  | _ =>
    match runIdx 0x40 5 o, runIdx 0x60 5 o, runIdx 0x80 5 o with
    | some i, _, _ => { s with clr := { c with inmat0 := matWrite c.inmat0 i v } }
    | _, some i, _ => { s with clr := { c with inmat1 := matWrite c.inmat1 i v } }
    | _, _, some i => { s with clr := { c with outmat := matWrite c.outmat i v } }
    | _, _, _ => s

/-- PX (R190, R213). -/
def pxWrite (o : Nat) (v : W32) (s : State) : State :=
  match o with
  | 0x04 =>
    let s1 := { s with px := { s.px with ctrl := v &&& 0x3 } }
    if dualInput s && !dualInput s1 then sparesOff s1 else s1
  | 0x0C => { s with px := { s.px with err := w1c s.px.err v } }
  | 0x10 => { s with px := { s.px with pathFault := w1c s.px.pathFault v } }
  | 0x20 => { s with px := { s.px with grpSel := fld v 4 0 } }
  | 0x28 => firWrite s.px.grpSel v s
  | _ => s

/-! ### TRZ, SHW, CTN, SPM, JGL -/

/-- The index of TRZ_ROUTE_DATA moves on (R323). -/
def trzRouteNext (s : State) : State := { s with trz := { s.trz with routeIndex := (s.trz.routeIndex + 1) % 16384 } }

/-- A write of TRZ_ROUTE_DATA (R323). -/
def trzRouteWrite (v : W32) (s : State) : State :=
  trzRouteNext { s with trz := { s.trz with routes := spSet 7 s.trz.routes s.trz.routeIndex (fld v 2 0) } }

/-- A gateway entry changed (R323). -/
def gwMod (f : Gateway → Gateway) (s : State) : State :=
  { s with trz := { s.trz with gws := spMod {} s.trz.gws s.trz.gwSel f } }

/-- TRZ_ID, until LOCK (R323). -/
def trzIdWrite (v : W32) (s : State) : State :=
  if bitOf s.trz.id 31 then s else meshStartAll { s with trz := { s.trz with id := v &&& 0xC0003FFF } }

/-- TRZ (R296, R323). -/
def trzWrite (o : Nat) (v : W32) (s : State) : State :=
  let t := s.trz
  match o with
  | 0x04 => trzCtrlWrite v s
  | 0x08 => trzIdWrite v s
  | 0x0C => { s with trz := { t with err := w1c t.err v } }
  | 0x10 => { s with trz := { t with time := v &&& 0x177 } }
  | 0x14 => { s with trz := { t with sync := v &&& 0xF } }
  | 0x18 => { s with trz := { t with gwTimeout := v &&& 0xFFFF } }
  | 0x1C => { s with trz := { t with accept0 := v &&& 0x80003FFF } }
  | 0x20 => { s with trz := { t with accept1 := v &&& 0x80003FFF } }
  | 0x30 => { s with trz := { t with routeIndex := fld v 13 0 } }
  | 0x34 => trzRouteWrite v s
  | 0x40 => { s with trz := { t with portSel := fld v 2 0 } }
  | 0x4C => if t.portSel < 6 then meshFirWrite t.portSel v s else s
  | 0x50 => if t.portSel < 6 then expectWrite t.portSel v s else s
  | 0x80 => { s with trz := { t with gwSel := fld v 5 0 } }
  | 0x84 => gwMod (fun g => { g with id := v &&& 0x80003FFF }) s
  | 0x88 => gwMod (fun g => { g with base := setHalf g.base 0 v 0xFFFFF000 }) s
  | 0x8C => gwMod (fun g => { g with base := setHalf g.base 1 v 0xFFFFFFFF }) s
  | 0x90 => gwMod (fun g => { g with limit := setHalf g.limit 0 v 0xFFFFFFFF }) s
  | 0x94 => gwMod (fun g => { g with limit := setHalf g.limit 1 v 0xFFFFFFFF }) s
  | _ => s

/-- SHW_CH_CTRL: DEAD, read-only 0 on channels 0 and 1, whose register only firmware writes, and ABORT (R292, R293). -/
def shwCtrlWrite (m : Nat) (v : W32) (s : State) : State :=
  let c := s.shw.chSel
  if c < 2 && !fwMaster m then s
  else
    let s1 := if c < 2 then s else modCh c (fun x => { x with dead := fld v 9 0 }) s
    if bitOf v 16 then shwAbort c s1 else s1

/-- SHW (R293). -/
def shwRegWrite (m o : Nat) (v : W32) (s : State) : State :=
  match o with
  | 0x04 => if bitOf v 0 then { s with shw := { s.shw with ctrl := 1 } } else shwDisable s
  | 0x0C => { s with shw := { s.shw with err := w1c s.shw.err v } }
  | 0x20 => { s with shw := { s.shw with chSel := fld v 2 0 } }
  | 0x24 => shwCtrlWrite m v s
  | _ => s

/-- CTN (R281). -/
def ctnWrite (o : Nat) (v : W32) (s : State) : State :=
  match o with
  | 0x04 => { s with ctn := { s.ctn with ctrl := v &&& 0x1 } }
  | 0x0C => { s with ctn := { s.ctn with err := w1c s.ctn.err v } }
  | 0x30 => { s with ctn := { s.ctn with ctxSel := fld v 5 0 } }
  | _ => s

/-- SPM_BANK_PWR, which only firmware writes (R264, R280). -/
def bankPwrWrite (m : Nat) (v : W32) (s : State) : State :=
  if fwMaster m then bankPower s.spm.bankSel (fld v 1 0) s else s

/-- SPM (R280). -/
def spmRegWrite (m o : Nat) (v : W32) (s : State) : State :=
  match o with
  | 0x08 => { s with spm := { s.spm with err := w1c s.spm.err v } }
  | 0x20 => { s with spm := { s.spm with bankSel := fld v 9 0 } }
  | 0x28 => bankPwrWrite m v s
  | _ => s

/-- JGL_FOLD_ACK (R247, R258). -/
def foldAckWrite (v : W32) (s : State) : State := if bitOf v 0 then foldAck s else s

/-- JGL (R258). -/
def jglWrite (o : Nat) (v : W32) (s : State) : State :=
  let j := s.jgl
  match o with
  | 0x04 => if bitOf j.cfg 8 then s else { s with jgl := { j with cfg := v &&& 0x10F } }
  | 0x0C => { s with jgl := { j with err := w1c j.err v } }
  | 0x20 => foldAckWrite v s
  | 0x34 => { s with jgl := { j with ceLimit := v } }
  | 0x38 => { s with jgl := { j with ref := v &&& 0x7 } }
  | 0x3C => { s with jgl := { j with rh := v &&& 0x1FFFF } }
  | 0x40 => { s with jgl := { j with scrub := v &&& 0xFF } }
  | 0x80 => { s with jgl := { j with chSel := fld v 4 0 } }
  | 0xC0 => { s with jgl := { j with regSel := fld v 3 0 } }
  | 0xC4 => if j.regSel < 12 then modReg j.regSel (fun r => { r with rate := fld v 11 0 }) s else s
  | 0xC8 => if j.regSel < 12 then modReg j.regSel (fun r => { r with burst := fld v 15 0 }) s else s
  | _ => s

/-! ### HQ -/

/-- A configuration register of the selected submission queue, writable in DISABLED and ORPHANED (R330, R331, R329). -/
def sqCfgWrite (p : Port) (f : Sq → Sq) (s : State) : State :=
  let x := sqOf s s.hq.qSel
  ownerOnly (x.state == .active || x.state == .draining) x.owner p
    (fun s => if x.state == .disabled || x.state == .orphaned then modSq s.hq.qSel f s else s) s

/-- A configuration register of the selected completion queue (R329, R330, R331). -/
def cqCfgWrite (p : Port) (f : Cq → Cq) (s : State) : State :=
  let c := cqOf s s.hq.qSel
  ownerOnly (c.state == .active) c.owner p (fun s => if c.state != .active then modCq s.hq.qSel f s else s) s

/-- HQ_SQ_CTRL: RESET, else ADOPT, else EN (R329, R330, R354). -/
def sqCtrlWrite (p : Port) (v : W32) (s : State) : State :=
  let q := s.hq.qSel
  if bitOf v 2 then sqReset p q s
  else if bitOf v 1 then sqAdopt p q s
  else if bitOf v 0 then sqEnable p q s
  else sqDisable p q s

/-- HQ_CQ_CTRL, the same way (R329, R330, R354). -/
def cqCtrlWrite (p : Port) (v : W32) (s : State) : State :=
  let q := s.hq.qSel
  if bitOf v 2 then cqReset p q s
  else if bitOf v 1 then cqAdopt p q s
  else if bitOf v 0 then cqEnable p q s
  else cqDisable p q s

/-- A register of the selected completion queue that its owner may write in service (R331, R354). -/
def cqOwnWrite (p : Port) (f : Cq → Cq) (s : State) : State :=
  let c := cqOf s s.hq.qSel
  ownerOnly (c.state == .active) c.owner p (modCq s.hq.qSel f) s

/-- HQ_PORT_CFG, until LOCK (R329, R354). -/
def portCfgWrite (v : W32) (s : State) : State :=
  if s.hq.portLock then s
  else { s with hq := { s.hq with hbMode := bitOf v 0, portLock := bitOf v 8, failoverMs := fld v 31 16 } }

/-- A word of a port's BAR4 base (R327, R354). -/
def bar4Write (p : Port) (high : Bool) (v : W32) (s : State) : State :=
  modPort p (fun h => { h with
    bar4 := if high then merge h.bar4 (put (fld v 9 0) 32) (put 0x3FF 32)
      else merge h.bar4 (put (fld v 31 30) 30) (put 3 30) }) s

/-- HQ_VEC_IDLE: writing 1 sets a hint (R337, R354). -/
def vecIdleWrite (p : Port) (n : Nat) (v : W32) (s : State) : State :=
  modPort p (fun h => { h with vecIdle := spMod 0 h.vecIdle n fun w => w ||| v }) s

/-- The bits of word `k` of an MSI-X table entry that are written (R354). -/
def msixMask (k : Nat) : W32 := if k = 0 then 0xFFFFFFFC else if k = 3 then 1 else 0xFFFFFFFF

/-- A word of an MSI-X table entry; a vector unmasked with its PBA bit set sends its message, and its idle hint is
cleared as the message leaves (R336, R337, R354, R366). -/
def msixWrite (p : Port) (o : Nat) (v : W32) (s : State) : State :=
  if 0x8000 ≤ o then s
  else
    let n := o / 16
    let k := o % 16 / 4
    let put1 (e : BitVec 128) : BitVec 128 := merge e (put (v &&& msixMask k).toNat (32 * k)) (put 0xFFFFFFFF (32 * k))
    let s1 := modPort p (fun h => { h with msix := spMod msixDflt h.msix n put1 }) s
    let h := portOf s1 p
    if spGet false h.pba n && !msixMasked h n && portCanSend h then
      msixSend p n (clearHint p n (modPort p (fun h => { h with pba := spSet false h.pba n false }) s1))
    else s1

/-- HQ (R354); `p` is the port the write comes through. -/
def hqRegWrite (p : Port) (o : Nat) (v : W32) (s : State) : State :=
  match o with
  | 0x04 => portCfgWrite v s
  | 0x0C => { s with hq := { s.hq with err := w1c s.hq.err v } }
  | 0x20 => bar4Write .ha false v s
  | 0x24 => bar4Write .ha true v s
  | 0x28 => bar4Write .hb false v s
  | 0x2C => bar4Write .hb true v s
  | 0x40 => { s with hq := { s.hq with qSel := fld v 9 0 } }
  | 0x44 => sqCfgWrite p (fun x => { x with base := setHalf x.base 0 v 0xFFFFF000 }) s
  | 0x48 => sqCfgWrite p (fun x => { x with base := setHalf x.base 1 v 0xFFFFFFFF }) s
  | 0x4C => sqCfgWrite p (fun x => { x with cfg := v &&& 0x00F3FF1F }) s
  | 0x50 => sqCfgWrite p (fun x => { x with target := v &&& 0x80003FFF }) s
  | 0x54 => sqCtrlWrite p v s
  | 0x60 => cqCfgWrite p (fun x => { x with base := setHalf x.base 0 v 0xFFFFF000 }) s
  | 0x64 => cqCfgWrite p (fun x => { x with base := setHalf x.base 1 v 0xFFFFFFFF }) s
  | 0x68 => cqCfgWrite p (fun x => { x with cfg := v &&& 0x07FF001F }) s
  | 0x6C => cqCtrlWrite p v s
  | 0x70 => cqOwnWrite p (fun x => { x with modr := v &&& 0x00FFFFFF }) s
  | 0x74 => cqOwnWrite p (fun x => { x with
      overflow := x.overflow && !bitOf v 4, missedAsleep := x.missedAsleep && !bitOf v 5 }) s
  | _ =>
    if 0x10000 ≤ o ∧ o < 0x12000 then
      let q := (o - 0x10000) / 8
      if o % 8 = 0 then sqDoorbell p q (fld v 17 0) s else cqDoorbell p q (fld v 15 0) s
    else match runIdx 0x20000 64 o, runIdx 0x20100 64 o with
      | some n, _ => vecIdleWrite .ha n v s
      | _, some n => vecIdleWrite .hb n v s
      | _, _ =>
        if 0x80000 ≤ o ∧ o < 0x90000 then msixWrite .ha (o - 0x80000) v s
        else if 0x90000 ≤ o ∧ o < 0xA0000 then msixWrite .hb (o - 0x90000) v s
        else s

/-! ### Every register -/

/-- What a naturally aligned 32-bit write at a BAR0 offset does once it reaches its register (R11, R13, R14). -/
def regWrite (m off : Nat) (v : W32) (s : State) : State :=
  let o := off % 0x100000
  match off / 0x100000 with
  | 0x00 => rmWrite m o v s
  | 0x01 => brkWrite m o v s
  | 0x02 => trnWrite m o v s
  | 0x03 => clpWrite o v s
  | 0x04 => thWrite m o v s
  | 0x05 => pwrWrite o v s
  | 0x06 => calWrite o v s
  | 0x07 => fwWrite o v s
  | 0x08 => logWrite o v s
  | 0x10 => scnWrite o v s
  | 0x11 => crslWrite o v s
  | 0x12 => homWrite o v s
  | 0x13 => clrWrite o v s
  | 0x14 => pxWrite o v s
  | 0x15 => trzWrite o v s
  | 0x16 => shwRegWrite m o v s
  | 0x17 => ctnWrite o v s
  | 0x18 => spmRegWrite m o v s
  | 0x19 => jglWrite o v s
  | 0x1B => hqRegWrite (masterPort m) o v s
  | _ => s

/-- REGISTER_WRITE: a naturally aligned 32-bit write; one at another alignment is a bad access (R13, R14). -/
def registerWrite (m off : Nat) (v : W32) (s : State) : State :=
  if off % 4 = 0 then barWrite m off (regWrite m off v) s else bar0BadAccess m off true 4 s

/-- A read of CAL_JRNL_DATA moves the word on, and the entry when the word wraps (R435). -/
def jrnlNext (s : State) : State :=
  let i := s.cal.jrnlIndex
  let w := (i / 256 + 1) % 64
  let e := if w = 0 then (i + 1) % 256 else i % 256
  { s with cal := { s.cal with jrnlIndex := 256 * w + e } }

end Sys2Proof.Machine
end

