-- ==== Sys2Proof/Machine/Rows.lean ====
section
/-! DEFINITION. What the meanings of all rows share. -/

namespace Sys2Proof.Machine

/-- What follows at once from a row's effect is part of its step, and the queue of waiting commands stays as it is. -/
def finish (f : State → State) (s : State) : State := { settle (f s) with pending := s.pending }

/-- A row that has its effect whatever the state. -/
def row (f : State → State) (s : State) : Res := .next (finish f s)

/-- A row that names a unit: the event of a unit the device does not have stops. -/
def unitRow (present : Bool) (f : State → State) (s : State) : Res := unitFault present (finish f) s

end Sys2Proof.Machine
end

