-- ==== Sys2Proof/Machine/BootRows.lean ====
section
/-! DEFINITION. Resets, start-up, supplies and clocks (R390 to R393, R424, R450, R455). -/

namespace Sys2Proof.Machine

/-- POWER_ON_RESET (R390). -/
def execPowerOnReset (smbAddr : Nat) (s : State) : Res :=
  row (powerCycle true smbAddr) s

/-- RESET_N_ASSERT (R390). -/
def execResetNAssert (smbAddr : Nat) (s : State) : Res :=
  row (resetPin smbAddr) s

/-- BOOT_POR_DONE (R393). -/
def execBootPorDone (s : State) (tamper : WipeEnv := {}) (lc : WipeEnv := {}) : Res :=
  row (porDone tamper lc) s

/-- BOOT_ROM_DONE (R393). -/
def execBootRomDone (s : State) : Res :=
  row romDone s

/-- BOOT_LOAD_DONE (R393). -/
def execBootLoadDone (c : ConfigItems) (s : State) : Res :=
  row (loadDone c) s

/-- BOOT_TRAIN_DONE (R393). -/
def execBootTrainDone (t : TrainEnv) (s : State) : Res :=
  row (trainStageDone t) s

/-- BOOT_CHECK_DONE (R393). -/
def execBootCheckDone (c : CheckEnv) (s : State) : Res :=
  row (checkDone c) s

/-- BROWNOUT (R450). -/
def execBrownout (rail : Rail) (s : State) : Res :=
  row (brownout rail) s

/-- BROWNOUT_END (R450). -/
def execBrownoutEnd (s : State) : Res :=
  row brownoutEnd s

/-- VAON_LOSS (R450). -/
def execVaonLoss (s : State) : Res :=
  row (powerCycle false 0) s

/-- CLK_LREF_LOST (R455). -/
def execClkLrefLost (s : State) : Res :=
  row lrefLost s

/-- CLK_LREF_RETURN (R455). -/
def execClkLrefReturn (s : State) : Res :=
  row lrefReturn s

/-- MRAM_COMMIT_RETRY (R424). -/
def execMramCommitRetry (writeOk : Bool) (s : State) : Res :=
  row (commitRetry writeOk) s

end Sys2Proof.Machine
end

