-- ==== Sys2Proof/Machine/CmdRows.lean ====
section
/-! DEFINITION. The command packets (R339): each is taken as a packet that its path has delivered. -/

namespace Sys2Proof.Machine

/-- NOP (R341). -/
def execNop (h : Hdr) (s : State) : Res :=
  row (submit h .nop) s

/-- FENCE (R341). -/
def execFence (h : Hdr) (p : FenceP) (s : State) : Res :=
  row (submit h (.fence p)) s

/-- SCENE_LOAD, OPEN (R70). -/
def execSceneLoadOpen (h : Hdr) (p : SceneLoadP) (s : State) : Res :=
  row (submit h (.sceneLoadOpen p)) s

/-- SCENE_LOAD, DATA (R70). -/
def execSceneLoadData (h : Hdr) (p : SceneLoadP) (ans : HostAns) (s : State) : Res :=
  row (submit h (.sceneLoadData p ans)) s

/-- SCENE_LOAD, CLOSE (R70). -/
def execSceneLoadClose (h : Hdr) (p : SceneLoadP) (s : State) : Res :=
  row (submit h (.sceneLoadClose p)) s

/-- SCENE_LOAD, FREE (R70). -/
def execSceneLoadFree (h : Hdr) (p : SceneLoadP) (s : State) : Res :=
  row (submit h (.sceneLoadFree p)) s

/-- SCENE_PLAY (R76). -/
def execScenePlay (h : Hdr) (p : ScenePlayP) (s : State) : Res :=
  row (submit h (.scenePlay p)) s

/-- SCENE_STOP (R76). -/
def execSceneStop (h : Hdr) (p : SceneStopP) (s : State) : Res :=
  row (submit h (.sceneStop p)) s

/-- SCENE_SEEK (R76). -/
def execSceneSeek (h : Hdr) (p : ScenePlayP) (s : State) : Res :=
  row (submit h (.sceneSeek p)) s

/-- FRAME_SUBMIT (R73). -/
def execFrameSubmit (h : Hdr) (p : FrameSubmitP) (s : State) : Res :=
  row (submit h (.frameSubmit p)) s

/-- LAYER_SET (R123). -/
def execLayerSet (h : Hdr) (p : LayerSetP) (s : State) : Res :=
  row (submit h (.layerSet p)) s

/-- COMMIT (R168). -/
def execCommit (h : Hdr) (p : CommitP) (s : State) : Res :=
  row (submit h (.commit p)) s

/-- TIMING_SET (R177). -/
def execTimingSet (h : Hdr) (p : TimingSetP) (s : State) : Res :=
  row (submit h (.timingSet p)) s

/-- UPDATE_REGION (R156). -/
def execUpdateRegion (h : Hdr) (p : UpdateRegionP) (s : State) : Res :=
  row (submit h (.updateRegion p)) s

/-- WAVEFORM_LOAD (R158). -/
def execWaveformLoad (h : Hdr) (p : WaveformLoadP) (s : State) : Res :=
  row (submit h (.waveformLoad p)) s

/-- BLIT_FILL (R286). -/
def execBlitFill (h : Hdr) (p : BlitP) (s : State) : Res :=
  row (submit h (.blitFill p)) s

/-- BLIT_COPY (R288). -/
def execBlitCopy (h : Hdr) (p : BlitP) (s : State) : Res :=
  row (submit h (.blitCopy p)) s

/-- BLIT_CONVERT (R285). -/
def execBlitConvert (h : Hdr) (p : BlitP) (s : State) : Res :=
  row (submit h (.blitConvert p)) s

/-- CTN_ENCODE (R277). -/
def execCtnEncode (h : Hdr) (p : CtnJobP) (s : State) : Res :=
  row (submit h (.ctnEncode p)) s

/-- CTN_DECODE (R278). -/
def execCtnDecode (h : Hdr) (p : CtnJobP) (s : State) : Res :=
  row (submit h (.ctnDecode p)) s

/-- CTN_SAVE_STATE (R279). -/
def execCtnSaveState (h : Hdr) (p : CtnStateP) (s : State) : Res :=
  row (submit h (.ctnSave p)) s

/-- CTN_RESTORE_STATE (R279). -/
def execCtnRestoreState (h : Hdr) (p : CtnStateP) (s : State) : Res :=
  row (submit h (.ctnRestore p)) s

/-- SURFACE_REGISTER (R342). -/
def execSurfaceRegister (h : Hdr) (p : SurfaceRegisterP) (s : State) : Res :=
  row (submit h (.surfaceRegister p)) s

/-- SURFACE_RELEASE (R344). -/
def execSurfaceRelease (h : Hdr) (p : SurfaceReleaseP) (s : State) : Res :=
  row (submit h (.surfaceRelease p)) s

/-- FW_OPEN (R409). -/
def execFwOpen (h : Hdr) (p : FwOpenP) (s : State) : Res :=
  row (submit h (.fwOpen p)) s

/-- FW_BLOCK (R410). -/
def execFwBlock (h : Hdr) (p : FwBlockP) (s : State) : Res :=
  row (submit h (.fwBlock p)) s

/-- FW_COMMIT (R411). -/
def execFwCommit (h : Hdr) (p : FwCommitP) (s : State) : Res :=
  row (submit h (.fwCommit p)) s

/-- FW_ABORT (R412). -/
def execFwAbort (h : Hdr) (p : FwAbortP) (s : State) : Res :=
  row (submit h (.fwAbort p)) s

/-- FW_CONFIRM (R414). -/
def execFwConfirm (h : Hdr) (p : FwConfirmP) (s : State) : Res :=
  row (submit h (.fwConfirm p)) s

/-- CAL_RUN (R431). -/
def execCalRun (h : Hdr) (p : CalRunP) (s : State) : Res :=
  row (submit h (.calRun p)) s

/-- CAL_READ (R432). -/
def execCalRead (h : Hdr) (p : CalReadP) (s : State) : Res :=
  row (submit h (.calRead p)) s

/-- CAL_WRITE (R433). -/
def execCalWrite (h : Hdr) (p : CalWriteP) (s : State) : Res :=
  row (submit h (.calWrite p)) s

/-- MESH_SEND (R315). -/
def execMeshSend (h : Hdr) (p : MeshSendP) (ans : HostAns) (s : State) : Res :=
  row (submit h (.meshSend p ans)) s

/-- UNIT_STATE_GET (R350). -/
def execUnitStateGet (h : Hdr) (p : UnitP) (s : State) : Res :=
  row (submit h (.unitGet p)) s

/-- UNIT_STATE_SET (R351). -/
def execUnitStateSet (h : Hdr) (p : UnitP) (s : State) : Res :=
  row (submit h (.unitSet p)) s

/-- RESET_UNIT (R352). -/
def execResetUnit (h : Hdr) (p : UnitP) (s : State) : Res :=
  row (submit h (.resetUnit p)) s

/-- LOG_READ, entries (R371). -/
def execLogReadEntries (h : Hdr) (p : LogReadP) (s : State) : Res :=
  row (submit h (.logEntries p)) s

/-- LOG_READ, code dictionary (R372). -/
def execLogReadCodeDictionary (h : Hdr) (p : LogReadP) (s : State) : Res :=
  row (submit h (.logCodes p)) s

/-- LOG_READ, source dictionary (R372). -/
def execLogReadSourceDictionary (h : Hdr) (p : LogReadP) (s : State) : Res :=
  row (submit h (.logSources p)) s

end Sys2Proof.Machine
end

