-- ==== Sys2Proof/Machine/DramRows.lean ====
section
/-! DEFINITION. Units and DRAM (R234 to R257, R348). -/

namespace Sys2Proof.Machine

/-- The rank of a channel in the table is present or not: four at most (R258). -/
def rankRow (ch rank : Nat) (f : State → State) (s : State) : Res := unitRow (decide (ch < 24 ∧ rank < 4)) f s

/-- The refresh multiplier read from MR4, and the temperature the channel's SPD hub shows at that time (R249, R258): the
manual gives the temperature no reading time of its own (DESIGN CHOICE, log entry 134). -/
def mr4Read (ch mult : Nat) (temp : W16) (s : State) : State :=
  modChan ch (fun x => { x with mult := mult % 8, temp := temp }) s

/-- A re-base passes through a retime of the device's own, and what it gives up is abandoned (R80, R248). -/
def rebase (ch : Nat) (s : State) : State :=
  match s.jgl.job with
  | some (.rebase k) => if k = ch then deviceRetime (stagingGivenUp (rebaseStart ch s)) else s
  | _ => s

/-- The interleave is rebuilt, and staging that landed since the re-base began is given up as well (R80, R248). -/
def rebaseFinish (bad : List Nat) (s : State) : State :=
  match s.jgl.job with
  | some (.rebase _) =>
    if s.jgl.state == .rebase && s.scn.state == .stopped then rebaseDone bad (stagingGivenUp s) else s
  | _ => s

/-- UNIT_REQUEST (R348). -/
def execUnitRequest (s : State) : Res :=
  row unitRequest s

/-- STORE_SHRINK (R79). -/
def execStoreShrink (s : State) : Res :=
  row storeShrink s

/-- JGL_CE_LIMIT (R254). -/
def execJglCeLimit (ch : Nat) (s : State) : Res :=
  unitRow (decide (ch < 24)) (ceLimit ch) s

/-- JGL_RETRAIN (R243). -/
def execJglRetrain (ch : Nat) (s : State) : Res :=
  unitRow (decide (ch < 24)) (retrainStart ch) s

/-- JGL_RETRAIN_DONE (R243). -/
def execJglRetrainDone (pass : Bool) (failRanks : List Nat) (s : State) : Res :=
  row (retrainDone pass failRanks) s

/-- JGL_RANK_COPY_DONE (R244). -/
def execJglRankCopyDone (mramOk : Bool) (s : State) (bad : List Nat := []) : Res :=
  row (rankCopyDone mramOk bad) s

/-- JGL_CHANNEL_COPY_DONE (R245). -/
def execJglChannelCopyDone (mramOk : Bool) (s : State) (bad : List Nat := []) : Res :=
  row (chanCopyDone mramOk bad) s

/-- JGL_FOLD (R246, R247). -/
def execJglFold (ch : Nat) (s : State) : Res :=
  unitRow (decide (ch < 24)) (foldStart ch) s

/-- JGL_FOLD_COPY_DONE (R247). -/
def execJglFoldCopyDone (poisoned : List Nat) (s : State) : Res :=
  row (foldCopyDone poisoned) s

/-- JGL_REBASE (R248). -/
def execJglRebase (ch : Nat) (s : State) : Res :=
  unitRow (decide (ch < 24)) (rebase ch) s

/-- JGL_REBASE_DONE (R248). -/
def execJglRebaseDone (s : State) (bad : List Nat := []) : Res :=
  row (rebaseFinish bad) s

/-- JGL_REFRESH_LIMIT (R249). -/
def execJglRefreshLimit (ch : Nat) (bank : Nat) (s : State) : Res :=
  unitRow (decide (ch < 24)) (refreshLimit ch bank) s

/-- JGL_ROW_DISTURB (R251). -/
def execJglRowDisturb (ch : Nat) (port : Nat) (s : State) : Res :=
  unitRow (decide (ch < 24 ∧ port < 16)) (rowDisturb ch port) s

/-- JGL_REG_CUT_END (R251). -/
def execJglRegCutEnd (port : Nat) (s : State) : Res :=
  unitRow (decide (port < 12)) (regCutEnd port) s

/-- JGL_MR4_READ (R249, R258). -/
def execJglMr4Read (ch : Nat) (rank : Nat) (mult : Nat) (s : State) (temp : W16 := 0) : Res :=
  rankRow ch rank (mr4Read ch mult temp) s

/-- JGL_ZQ_CAL (R241): an impedance calibration on the DRAM bus, which no register and no content shows. -/
def execJglZqCal (ch : Nat) (rank : Nat) (s : State) : Res :=
  rankRow ch rank id s

/-- JGL_DQS_TRACK (R241): a timing correction on the DRAM bus, which no register and no content shows. -/
def execJglDqsTrack (ch : Nat) (rank : Nat) (s : State) : Res :=
  rankRow ch rank id s

/-- JGL_SCRUB (R255). -/
def execJglScrub (line : Nat) (ecc : Ecc) (s : State) : Res :=
  row (scrubLine line ecc) s

/-- JGL_SWITCH_START (R257). -/
def execJglSwitchStart (s : State) : Res :=
  row switchStart s

/-- JGL_SWITCH_DONE (R257). -/
def execJglSwitchDone (s : State) : Res :=
  row switchDone s

/-- JGL_CHANNEL_CLEAN_WINDOW (R235). -/
def execJglChannelCleanWindow (ch : Nat) (s : State) : Res :=
  unitRow (decide (ch < 24)) (channelClean ch) s

/-- SAME_BANK_REFRESH (R249). -/
def execSameBankRefresh (ch : Nat) (bank : Nat) (idle : Bool) (s : State) : Res :=
  unitRow (decide (ch < 24)) (sameBankRefresh ch bank idle) s

end Sys2Proof.Machine
end

