-- ==== Sys2Proof/Machine/LinkRows.lean ====
section
/-! DEFINITION. The panel link (R194 to R212). -/

namespace Sys2Proof.Machine

/-- A training event may end the link step of power-up (R217). -/
def trainEvent (f : State → State) (s : State) : State := linkCheck (f s)

/-- PX_TRAIN_REQUEST (R195). -/
def execPxTrainRequest (g : Nat) (s : State) : Res :=
  unitRow (decide (g < 32)) (trainEvent (trainRequest g)) s

/-- PX_TS_RX (R194, R196). -/
def execPxTsRx (g : Nat) (_lane : Nat) (ts : TsBytes) (s : State) : Res :=
  unitRow (decide (g < 32)) (trainEvent (tsRx g ts)) s

/-- PX_TRAIN_TIMEOUT (R196, R197). -/
def execPxTrainTimeout (g : Nat) (s : State) : Res :=
  unitRow (decide (g < 32)) (trainEvent (trainTimeout g)) s

/-- PX_TRAIN_DONE (R195). -/
def execPxTrainDone (g : Nat) (s : State) : Res :=
  unitRow (decide (g < 32)) (trainEvent (trainDone g)) s

/-- HEADROOM_RX (R205). -/
def execHeadroomRx (g : Nat) (pkt : List Byte) (s : State) : Res :=
  unitRow (decide (g < 32)) (bcTake g 0x21 2 pkt (headroomTake g pkt)) s

/-- TEMP_RX (R205). -/
def execTempRx (g : Nat) (pkt : List Byte) (s : State) : Res :=
  unitRow (decide (g < 32)) (tempRx g pkt) s

/-- CRCREPORT_RX (R205, R209). -/
def execCrcreportRx (g : Nat) (pkt : List Byte) (s : State) : Res :=
  unitRow (decide (g < 32)) (bcTake g 0x23 2 pkt (crcreportTake g pkt)) s

/-- CRCREPORT_MISSING (R209). -/
def execCrcreportMissing (g : Nat) (s : State) : Res :=
  unitRow (decide (g < 32)) (crcreportMissing g) s

/-- FAULT_RX (R205). -/
def execFaultRx (g : Nat) (pkt : List Byte) (s : State) : Res :=
  unitRow (decide (g < 32)) (faultRx g pkt) s

/-- TEMP_STALE (R210). -/
def execTempStale (g : Nat) (s : State) : Res :=
  unitRow (decide (g < 32)) (tempStaleEv g) s

/-- HEADROOM_STALE (R210). -/
def execHeadroomStale (g : Nat) (s : State) : Res :=
  unitRow (decide (g < 32)) (headStale g) s

/-- BC_LOCK_LOST (R210). -/
def execBcLockLost (g : Nat) (s : State) : Res :=
  unitRow (decide (g < 32)) (bcLost g) s

/-- BC_RETRAIN_TIMEOUT (R210). -/
def execBcRetrainTimeout (g : Nat) (s : State) : Res :=
  unitRow (decide (g < 32)) (bcTimeout g) s

/-- PX_GROUP_SPARE (R212). -/
def execPxGroupSpare (g : Nat) (s : State) : Res :=
  unitRow (decide (g < 32)) (groupSpare g) s

/-- PX_GROUP_CLEAN_WINDOW (R211). -/
def execPxGroupCleanWindow (g : Nat) (s : State) : Res :=
  unitRow (decide (g < 32)) (cleanWindow 3 g) s

/-- BACK_CHANNEL_LOCK (R195). -/
def execBackChannelLock (g : Nat) (s : State) : Res :=
  unitRow (decide (g < 32)) (trainEvent (backLock g)) s

end Sys2Proof.Machine
end

