-- ==== Sys2Proof/Machine/LogRows.lean ====
section
/-! DEFINITION. The event log and the journal (R368, R369). -/

namespace Sys2Proof.Machine

/-- LOG_ENTRY_SUBMIT (R368). -/
def execLogEntrySubmit (name : LogName) (core : Nat) (args : List Nat) (s : State) : Res :=
  unitRow (decide (core < 4)) (logFrom core name args) s

/-- JOURNAL_COPY (R369). -/
def execJournalCopy (s : State) : Res :=
  row journalCopy s

end Sys2Proof.Machine
end

