-- ==== Sys2Proof/Machine/MailRows.lean ====
section
/-! DEFINITION. The mailbox (R345, R346). -/

namespace Sys2Proof.Machine

/-- MCTP_REQUEST (R346). -/
def execMctpRequest (msgTag : Nat) (packet : List Byte) (s : State) : Res :=
  row (mctpRequest msgTag packet) s

/-- MCTP_CONTROL_MESSAGE (R345). -/
def execMctpControlMessage (c : McCtrl) (s : State) : Res :=
  row (mctpControl c) s

/-- MCTP_ASSEMBLY_TIMEOUT (R346). -/
def execMctpAssemblyTimeout (msgTag : Nat) (s : State) : Res :=
  row (assemblyTimeout msgTag) s

/-- MCTP_PACKET (R346). -/
def execMctpPacket (p : McPacket) (s : State) : Res :=
  row (mctpPacket p) s

/-- MCTP_RESPONSE_COLLECTED (R346, R442). -/
def execMctpResponseCollected (s : State) : Res :=
  row responseCollected s

end Sys2Proof.Machine
end

