-- ==== Sys2Proof/Machine/MeshRows.lean ====
section
/-! DEFINITION. The mesh and time (R296 to R321). -/

namespace Sys2Proof.Machine

/-- TRZ_TS_RX (R296). -/
def execTrzTsRx (port : Nat) (ts : TsBytes) (s : State) : Res :=
  unitRow (decide (port < 6)) (meshTsRx port ts) s

/-- TRZ_TRAIN_TIMEOUT (R296). -/
def execTrzTrainTimeout (port : Nat) (s : State) : Res :=
  unitRow (decide (port < 6)) (meshTrainTimeout port) s

/-- TRZ_TRAIN_DONE (R296, R298). -/
def execTrzTrainDone (port : Nat) (t : MeshTrain) (s : State) : Res :=
  unitRow (decide (port < 6)) (meshTrained port t) s

/-- TRZ_FAILED_RETRY (R314). -/
def execTrzFailedRetry (port : Nat) (s : State) : Res :=
  unitRow (decide (port < 6)) (meshFailedRetry port) s

/-- TRZ_LANE_WINDOW (R297). -/
def execTrzLaneWindow (port : Nat) (lane : Nat) (badBlocks : Nat) (s : State) : Res :=
  unitRow (decide (port < 6 ∧ lane < 16)) (laneWindow port lane badBlocks) s

/-- TRZ_LANE_SPARE (R298). -/
def execTrzLaneSpare (port : Nat) (lane : Nat) (mramOk : Bool) (s : State) : Res :=
  unitRow (decide (port < 6 ∧ lane < 16)) (laneSpare port lane mramOk) s

/-- TRZ_PORT_CLEAN_WINDOW (R296). -/
def execTrzPortCleanWindow (port : Nat) (s : State) : Res :=
  unitRow (decide (port < 6)) (meshClean port) s

/-- TRZ_ACK_RX (R305). -/
def execTrzAckRx (port : Nat) (lseq : Nat) (s : State) (frame : List Byte := []) : Res :=
  unitRow (decide (port < 6)) (ackRx port frame lseq) s

/-- TRZ_NAK_RX (R305). -/
def execTrzNakRx (port : Nat) (lseq : Nat) (s : State) (frame : List Byte := []) : Res :=
  unitRow (decide (port < 6)) (nakRx port frame lseq) s

/-- TRZ_CREDIT_RX (R304). -/
def execTrzCreditRx (port : Nat) (cls : Nat) (n : Nat) (s : State) (frame : List Byte := []) : Res :=
  unitRow (decide (port < 6)) (creditRx port frame cls n) s

/-- TRZ_CREDIT_STALL (R314). -/
def execTrzCreditStall (port : Nat) (s : State) : Res :=
  unitRow (decide (port < 6)) (creditStall port) s

/-- TRZ_SYNC_RX (R320). -/
def execTrzSyncRx (port : Nat) (frame : List Byte) (steps : Nat) (tRx : Time96) (s : State) : Res :=
  unitRow (decide (port < 6)) (syncRx port frame steps tRx) s

/-- TRZ_SYNC_SEND (R321). -/
def execTrzSyncSend (s : State) : Res :=
  row syncSend s

/-- TRZ_PDELAY_SEND (R319). -/
def execTrzPdelaySend (port : Nat) (s : State) : Res :=
  unitRow (decide (port < 6)) (pdelaySend port) s

/-- TRZ_PDELAY_REQ_RX (R319). -/
def execTrzPdelayReqRx (port : Nat) (frame : List Byte) (tRx : Time96) (s : State) : Res :=
  unitRow (decide (port < 6)) (pdelayReq port frame tRx) s

/-- TRZ_PDELAY_RESP_RX (R319). -/
def execTrzPdelayRespRx (port : Nat) (frame : List Byte) (tRx : Time96) (s : State) : Res :=
  unitRow (decide (port < 6)) (pdelayResp port frame tRx) s

/-- CLP_HOLDOVER (R321). -/
def execClpHoldover (s : State) : Res :=
  row clpHoldover s

/-- TRZ_HELLO_RX (R312). -/
def execTrzHelloRx (port : Nat) (frame : List Byte) (peer : Nat) (nonce ownNonce : List Byte) (s : State) : Res :=
  unitRow (decide (port < 6)) (helloRx port frame peer nonce ownNonce) s

/-- TRZ_PROOF_RX (R312). -/
def execTrzProofRx (port : Nat) (frame : List Byte) (proof : List Byte) (s : State) : Res :=
  unitRow (decide (port < 6)) (proofRx port frame proof) s

/-- TRZ_AUTH_TIMEOUT (R312). -/
def execTrzAuthTimeout (port : Nat) (s : State) : Res :=
  unitRow (decide (port < 6)) (authTimeout port) s

/-- TRZ_AUTH_RETRY (R296). -/
def execTrzAuthRetry (port : Nat) (ownNonce : List Byte) (s : State) : Res :=
  unitRow (decide (port < 6)) (authRetry port ownNonce) s

/-- TRZ_HALO_FRAGMENT_RX (R311). -/
def execTrzHaloFragmentRx (port : Nat) (frame : List Byte) (s : State) : Res :=
  unitRow (decide (port < 6)) (halofragRx port frame) s

/-- TRZ_HALO_CANCEL_RX (R307). -/
def execTrzHaloCancelRx (port : Nat) (frame : List Byte) (target : Time96) (s : State) : Res :=
  unitRow (decide (port < 6)) (halocancelRx port frame target) s

/-- HALO_SEND_PHASE2 (R307). -/
def execHaloSendPhase2 (s : State) : Res :=
  row haloPhase2 s

/-- TRZ_MGMT_RX (R301, R302). -/
def execTrzMgmtRx (port : Nat) (frame : List Byte) (msg : MgmtMsg) (s : State) : Res :=
  unitRow (decide (port < 6)) (mgmtRx port frame msg) s

/-- TRZ_DATA_REQUEST_RX (R301). -/
def execTrzDataRequestRx (port : Nat) (frame : List Byte) (id addr len : Nat) (ans : HostAns) (s : State) : Res :=
  unitRow (decide (port < 6)) (dataRequest port frame id addr len ans) s

/-- TRZ_DATA_RESPONSE_RX (R302). -/
def execTrzDataResponseRx (port : Nat) (frame : List Byte) (id : Nat) (ans : HostAns) (s : State) : Res :=
  unitRow (decide (port < 6)) (dataResponseRx port frame id ans) s

/-- TRZ_USER_MSG_RX (R315). -/
def execTrzUserMsgRx (port : Nat) (frame : List Byte) (id : Nat) (msg : List Byte) (s : State) : Res :=
  unitRow (decide (port < 6)) (userMsg port frame id msg) s

/-- TRZ_MSG_ACK_RX (R315). -/
def execTrzMsgAckRx (port : Nat) (frame : List Byte) (id : Nat) (s : State) : Res :=
  unitRow (decide (port < 6)) (msgAck port frame id) s

/-- TRZ_FORWARD_TIMEOUT (R300). -/
def execTrzForwardTimeout (port : Nat) (s : State) : Res :=
  unitRow (decide (port < 6)) (forwardTimeout port) s

/-- TRZ_GW_TIMEOUT (R301). -/
def execTrzGwTimeout (id : Nat) (s : State) : Res :=
  row (gwTimeout id) s

/-- MESH_LOSS_OF_LOCK (R296). -/
def execMeshLossOfLock (port : Nat) (s : State) : Res :=
  unitRow (decide (port < 6)) (meshLockLost port) s

end Sys2Proof.Machine
end

