-- ==== Sys2Proof/Machine/PowerRows.lean ====
section
/-! DEFINITION. Panel power (R217 to R231). -/

namespace Sys2Proof.Machine

/-- HEADROOM_LOOP (R224). -/
def execHeadroomLoop (s : State) : Res :=
  row headroomLoop s

/-- PWR_HEADROOM_STALE_LIMIT (R225). -/
def execPwrHeadroomStaleLimit (s : State) : Res :=
  row staleLimit s

/-- PNL_POWER_GOOD_RISE (R217). -/
def execPnlPowerGoodRise (rail : PnlRail) (s : State) : Res :=
  row (powerGoodRise rail) s

/-- PWR_SETTLE_DONE (R217). -/
def execPwrSettleDone (s : State) : Res :=
  row settleDone s

/-- POWER_GOOD_BOUND_EXPIRY (R218). -/
def execPowerGoodBoundExpiry (s : State) : Res :=
  row boundExpiry s

/-- IREF_RAMP_END (R217, R219). -/
def execIrefRampEnd (s : State) : Res :=
  row irefRampEnd s

/-- VLED_PG_FALL (R219). -/
def execVledPgFall (s : State) : Res :=
  row vledFell s

/-- PWR_PG_STUCK (R219). -/
def execPwrPgStuck (s : State) : Res :=
  row pgStuck s

/-- DISCHARGE_END (R220). -/
def execDischargeEnd (s : State) : Res :=
  row dischargeEnd s

/-- RAIL_DISABLE_STEP (R218, R219). -/
def execRailDisableStep (s : State) : Res :=
  row railStep s

/-- POWER_GOOD_LOST (R231). -/
def execPowerGoodLost (rail : PnlRail) (s : State) : Res :=
  row (powerGoodLost rail) s

/-- RAIL_OVERVOLTAGE (R231). -/
def execRailOvervoltage (colour : Nat) (s : State) : Res :=
  unitRow (decide (colour < 3)) overvoltage s

/-- RAIL_UNDERVOLTAGE (R231). -/
def execRailUndervoltage (colour : Nat) (mv : Nat) (s : State) : Res :=
  unitRow (decide (colour < 3)) (undervoltage colour mv) s

/-- PWR_UV_TIMEOUT (R231). -/
def execPwrUvTimeout (s : State) : Res :=
  row uvTimeout s

end Sys2Proof.Machine
end

