-- ==== Sys2Proof/Machine/QueueRows.lean ====
section
/-! DEFINITION. Queues, host ports and the host windows (R327 to R338, R353). -/

namespace Sys2Proof.Machine

/-- A port's write of an HQ register (R354, R403). -/
def portWrite (p : Port) (off : Nat) (f : State → State) (s : State) : State := barWrite (portMaster p) (0x1B00000 + off) f s

/-- The same for a register of the queue HQ_Q_SEL names. -/
def selWrite (p : Port) (off : Nat) (f : Nat → State → State) (s : State) : State :=
  portWrite p off (fun s => f s.hq.qSel s) s

/-- SQ_DOORBELL (R332). -/
def execSqDoorbell (port : Port) (q : Nat) (v : W32) (s : State) : Res :=
  unitRow (decide (q < 1024)) (portWrite port (0x10000 + 8 * q) (sqDoorbell port q (fld v 17 0))) s

/-- PACKET_FETCH (R332, R333, R353). -/
def execPacketFetch (q : Nat) (ans : HostAns) (s : State) : Res :=
  unitRow (decide (q < 1024)) (packetFetch q ans) s

/-- CQ_DOORBELL (R335). -/
def execCqDoorbell (port : Port) (q : Nat) (v : W32) (s : State) : Res :=
  unitRow (decide (q < 1024)) (portWrite port (0x10004 + 8 * q) (cqDoorbell port q (fld v 15 0))) s

/-- CQ_INTERRUPT_TIMER (R336). -/
def execCqInterruptTimer (q : Nat) (s : State) : Res :=
  unitRow (decide (q < 1024)) (cqTimer q) s

/-- VEC_IDLE_WRITE (R337). -/
def execVecIdleWrite (port : Port) (n : Nat) (v : W32) (s : State) : Res :=
  unitRow (decide (n < 64))
    (portWrite port ((match port with | .ha => 0x20000 | .hb => 0x20100) + 4 * n) (vecIdleWrite port n v)) s

/-- SQ_ENABLE (R331). -/
def execSqEnable (port : Port) (s : State) : Res :=
  row (selWrite port 0x54 (sqEnable port)) s

/-- SQ_DISABLE (R330). -/
def execSqDisable (port : Port) (s : State) : Res :=
  row (selWrite port 0x54 (sqDisable port)) s

/-- SQ_DRAIN_DONE (R330). -/
def execSqDrainDone (q : Nat) (s : State) : Res :=
  unitRow (decide (q < 1024)) (sqDrained q) s

/-- SQ_RESET (R330). -/
def execSqReset (port : Port) (s : State) : Res :=
  row (selWrite port 0x54 (sqReset port)) s

/-- SQ_ADOPT (R329). -/
def execSqAdopt (port : Port) (s : State) : Res :=
  row (selWrite port 0x54 (sqAdopt port)) s

/-- CQ_ENABLE (R330). -/
def execCqEnable (port : Port) (s : State) : Res :=
  row (selWrite port 0x6C (cqEnable port)) s

/-- CQ_DISABLE (R330). -/
def execCqDisable (port : Port) (s : State) : Res :=
  row (selWrite port 0x6C (cqDisable port)) s

/-- CQ_RESET (R330). -/
def execCqReset (port : Port) (s : State) : Res :=
  row (selWrite port 0x6C (cqReset port)) s

/-- CQ_ADOPT (R329). -/
def execCqAdopt (port : Port) (s : State) : Res :=
  row (selWrite port 0x6C (cqAdopt port)) s

/-- PERST (R328). -/
def execPerst (port : Port) (s : State) : Res :=
  row (perst port) s

/-- FLR (R328). -/
def execFlr (port : Port) (s : State) : Res :=
  row (flr port) s

/-- PORT_LINK_DOWN (R329). -/
def execPortLinkDown (port : Port) (s : State) : Res :=
  row (linkDown port) s

/-- PORT_LINK_RETURN (R329). -/
def execPortLinkReturn (port : Port) (s : State) : Res :=
  row (linkReturn port) s

/-- FAILOVER_TIMEOUT (R329). -/
def execFailoverTimeout (port : Port) (s : State) : Res :=
  row (failoverExpire port) s

/-- D3HOT_ENTRY (R338). -/
def execD3hotEntry (port : Port) (pmeEn : Bool) (s : State) : Res :=
  row (d3hot port pmeEn) s

/-- D0_RETURN (R338). -/
def execD0Return (port : Port) (s : State) : Res :=
  row (d0Return port) s

/-- HQ_BAR4_BASE_WRITE (R327). -/
def execHqBar4BaseWrite (port : Port) (high : Bool) (v : W32) (s : State) : Res :=
  row (portWrite port ((match port with | .ha => 0x20 | .hb => 0x28) + (if high then 4 else 0)) (bar4Write port high v)) s

/-- BAR2_ACCESS (R263, R327); both ports map the same aperture. -/
def execBar2Access (_port : Port) (addr : Nat) (acc : Access) (reads : List Ecc) (busy : Nat) (s : State) : Res :=
  row (bar2Access addr acc ⟨reads, .clean, busy⟩) s

/-- BAR4_ACCESS (R327). -/
def execBar4Access (port : Port) (off : Nat) (acc : Access) (env : MemEnv) (s : State) : Res :=
  row (bar4Access port off acc env) s

/-- BAR0_BAD_ACCESS (R13). -/
def execBar0BadAccess (m : Nat) (off : Nat) (write : Bool) (len : Nat) (s : State) : Res :=
  row (bar0BadAccess m off write len) s

/-- PCIE_LINK_UP (R330). -/
def execPcieLinkUp (port : Port) (speed : Nat) (width : Nat) (s : State) : Res :=
  row (linkUp port speed width) s

end Sys2Proof.Machine
end

