-- ==== Sys2Proof/Machine/RasterRows.lean ====
section
/-! DEFINITION. The raster, its lines and the pipelines in service (R104, R106, R166 to R182, R201, R208, R222). -/

namespace Sys2Proof.Machine

/-- FRAME_TICK (R166). -/
def execFrameTick (env : TickEnv) (s : State) : Res :=
  row (fun s => frameTick env (n1Release s)) s

/-- SYNTHESIS_START (R166). -/
def execSynthesisStart (s : State) : Res :=
  row synthesisStart s

/-- PREFLIGHT_DECIDED (R104). -/
def execPreflightDecided (poisonedTable : Option Nat) (s : State) : Res :=
  row (preflightDecided poisonedTable) s

/-- BLANK_LINE_START (R201). -/
def execBlankLineStart (line : Nat) (s : State) : Res :=
  row (blankLine line) s

/-- LINE_DEPARTURE (R170). -/
def execLineDeparture (env : LineEnv) (s : State) : Res :=
  row (lineDeparture env) s

/-- HOM_PIPE_ERR (R106). -/
def execHomPipeErr (pipe : Nat) (line : Nat) (s : State) : Res :=
  unitRow (decide (pipe < 72)) (homPipeErr pipe line) s

/-- WATERMARK_FIRE (R181). -/
def execWatermarkFire (n : Nat) (s : State) : Res :=
  unitRow (decide (n < 8)) (watermarkFire n) s

/-- SCAN_END (R172). -/
def execScanEnd (s : State) : Res :=
  row scanEnd s

/-- HOLD_EXTENSION_END (R174). -/
def execHoldExtensionEnd (s : State) : Res :=
  row holdExtensionEnd s

/-- LINK_WAKE (R208). -/
def execLinkWake (s : State) : Res :=
  row linkWake s

/-- RASTER_START (R177, R179). -/
def execRasterStart (s : State) : Res :=
  row rasterStart s

/-- RETIME_RAMP_END (R222). -/
def execRetimeRampEnd (s : State) : Res :=
  row retimeRampEnd s

/-- SCENE_FRAME_DUE (R174). -/
def execSceneFrameDue (s : State) : Res :=
  row sceneFrameDue s

/-- REGION_REQUEST_TIMEOUT (R156). -/
def execRegionRequestTimeout (slot : Nat) (s : State) : Res :=
  unitRow (decide (slot < 16)) (requestTimeout slot) s

/-- CRSL_TBL_REWRITE_DONE (R148). -/
def execCrslTblRewriteDone (copy : Nat) (s : State) : Res :=
  unitRow (decide (copy < 3)) (tableRewritten copy) s

/-- HOM_PIPE_SPARE (R108). -/
def execHomPipeSpare (pipe : Nat) (s : State) : Res :=
  unitRow (decide (pipe < 72)) (pipeSpare pipe) s

/-- HOM_PIPE_CLEAN_WINDOW (R107). -/
def execHomPipeCleanWindow (pipe : Nat) (s : State) : Res :=
  unitRow (decide (pipe < 72)) (pipeClean pipe) s

end Sys2Proof.Machine
end

