-- ==== Sys2Proof/Machine/RegRows.lean ====
section
/-! DEFINITION. Register accesses with a row (R14): each goes through the gate of BAR0. -/

namespace Sys2Proof.Machine

/-- A core's access to its own registers of BRK (R374, R403). -/
def brkCoreOff (core o : Nat) : Nat := 0x100200 + 0x20 * core + o

/-- The claim of a core: a refused read returns all ones (R360, R405). -/
def claimRead (core : Nat) (s : State) : State :=
  let g := barGate (3 + core) (brkCoreOff core 0) false s
  if g.1 then brkClaim core g.2 else emit (.readReg 0xFFFFFFFF) g.2

/-- SHW_CH_CTRL.ABORT (R292, R293). -/
def chAbortWrite (m : Nat) (s : State) : State :=
  if decide (s.shw.chSel < 2) && !fwMaster m then s else shwAbort s.shw.chSel s

/-- An access to CLR_TBL_DATA: a read, or the write of a word (R130). -/
def clrTblAccess (m : Nat) (w : Option W32) (s : State) : State :=
  match w with
  | some v => barWrite m 0x1300028 (clrTblWrite v) s
  | none => barRead m 0x1300028 clrTableRead (fun s => clrTblNext (clrTblRange s)) s

/-- An access to TRZ_ROUTE_DATA (R323). -/
def routeAccess (m : Nat) (w : Option W32) (s : State) : State :=
  match w with
  | some v => barWrite m 0x1500034 (trzRouteWrite v) s
  | none => barRead m 0x1500034 (fun s => BitVec.ofNat 32 (routeOf s s.trz.routeIndex)) trzRouteNext s

/-- REGISTER_WRITE (R14). -/
def execRegisterWrite (m : Nat) (off : Nat) (v : W32) (s : State) : Res :=
  row (registerWrite m off v) s

/-- RM_RESET_WRITE (R390). -/
def execRmResetWrite (m : Nat) (v : W32) (s : State) : Res :=
  row (barWrite m 0x28 (rmReset v)) s

/-- WDOG_KICK (R392, R415). -/
def execWdogKick (m : Nat) (s : State) : Res :=
  row (barWrite m 0x24 (fun s => if fwMaster m then wdogKick s else s)) s

/-- WATCHDOG_EXPIRY (R392). -/
def execWatchdogExpiry (s : State) : Res :=
  row watchdogExpire s

/-- PANEL_ON_SET (R217). -/
def execPanelOnSet (m : Nat) (s : State) : Res :=
  row (barWrite m 0x500004 panelOnSet) s

/-- PANEL_ON_CLEAR (R219). -/
def execPanelOnClear (m : Nat) (s : State) : Res :=
  row (barWrite m 0x500004 panelOnClear) s

/-- PWRSEQ_LEGACY_WRITE (R220). -/
def execPwrseqLegacyWrite (m : Nat) (on : Bool) (s : State) : Res :=
  row (barWrite m 0x500004 (legacyWrite on)) s

/-- BRK_CLAIM (R360). -/
def execBrkClaim (core : Nat) (s : State) : Res :=
  unitRow (decide (core < 4)) (claimRead core) s

/-- BRK_COMPLETE (R361). -/
def execBrkComplete (core : Nat) (v : W32) (s : State) : Res :=
  unitRow (decide (core < 4)) (barWrite (3 + core) (brkCoreOff core 4) (brkComplete core (fld v 9 0))) s

/-- BRK_SRC_FORCE (R357). -/
def execBrkSrcForce (m : Nat) (s : State) : Res :=
  row (barWrite m 0x100014 fun s => srcForce s.brk.srcSel s) s

/-- BRK_COUNT_CLEAR (R357). -/
def execBrkCountClear (m : Nat) (s : State) : Res :=
  row (barWrite m 0x100024 (brkCountWrite 0x100)) s

/-- BRK_HOST_PEND_CLEAR (R365). -/
def execBrkHostPendClear (m : Nat) (reg : Nat) (v : W32) (s : State) : Res :=
  unitRow (decide (reg < 32)) (barWrite m (0x100400 + 4 * reg) (brkHostPendWrite reg v)) s

/-- BRK_ROUTE_WRITE (R365). -/
def execBrkRouteWrite (m : Nat) (v : W32) (s : State) : Res :=
  row (barWrite m 0x100018 fun s => srcRouteWrite s.brk.srcSel v s) s

/-- BRK_SOURCE_EVENT (R356). -/
def execBrkSourceEvent (src : Nat) (level : Bool) (s : State) : Res :=
  unitRow (srcExists src) (brkInput src level) s

/-- BRK_MOD_TIMER (R363). -/
def execBrkModTimer (core : Nat) (s : State) : Res :=
  unitRow (decide (core < 4)) (modTimer core) s

/-- CORE_RESET (R364). -/
def execCoreReset (core : Nat) (s : State) : Res :=
  unitRow (decide (core < 4)) (coreReset core) s

/-- CORE_WAIT (R363). -/
def execCoreWait (core : Nat) (waiting : Bool) (s : State) : Res :=
  unitRow (decide (core < 4)) (fun s => modSettle core (modCore core (fun c => { c with wait := waiting }) s)) s

/-- TH_ACK_L3 (R381). -/
def execThAckL3 (m : Nat) (s : State) : Res :=
  row (barWrite m 0x400020 ackL3) s

/-- TH_TRIP_CLEAR (R388). -/
def execThTripClear (m : Nat) (v : W32) (s : State) : Res :=
  row (barWrite m 0x400078 (tripClear v)) s

/-- TH_TRIP_DATA_READ (R389). -/
def execThTripDataRead (m : Nat) (s : State) : Res :=
  row (barRead m 0x400074 tripWord tripRead) s

/-- TH_LIMITS_WRITE (R382). -/
def execThLimitsWrite (m : Nat) (v : W32) (s : State) : Res :=
  row (barWrite m 0x400010 (limitsWrite v)) s

/-- CAL_JRNL_DATA_READ (R435). -/
def execCalJrnlDataRead (m : Nat) (s : State) : Res :=
  row (barRead m 0x600078 (fun s => jWord s (s.cal.jrnlIndex % 256) (s.cal.jrnlIndex / 256)) jrnlNext) s

/-- CLR_TBL_DATA_ACCESS (R130). -/
def execClrTblDataAccess (m : Nat) (w : Option W32) (s : State) : Res :=
  row (clrTblAccess m w) s

/-- TRZ_ROUTE_DATA_ACCESS (R323). -/
def execTrzRouteDataAccess (m : Nat) (w : Option W32) (s : State) : Res :=
  row (routeAccess m w) s

/-- TRN_ENTRY_APPLY (R406, R416). -/
def execTrnEntryApply (m : Nat) (s : State) : Res :=
  row (barWrite m 0x20004C (fun s => if fwMaster m then trnApply s else s)) s

/-- SHW_CH_ABORT (R292). -/
def execShwChAbort (m : Nat) (s : State) : Res :=
  row (barWrite m 0x1600024 (chAbortWrite m)) s

/-- SHW_DISABLE (R292). -/
def execShwDisable (m : Nat) (s : State) : Res :=
  row (barWrite m 0x1600004 shwDisable) s

/-- CLP_SNAP (R324). -/
def execClpSnap (m : Nat) (v : W32) (s : State) : Res :=
  row (barWrite m 0x300008 (clpSnap (fld v 1 0))) s

/-- CLP_TB1_STEP (R321, R324). -/
def execClpTb1Step (m : Nat) (v : W32) (s : State) : Res :=
  row (barWrite m 0x300030 (clpTb1Step v)) s

/-- CLP_TB0_OFFSET_WRITE (R317). -/
def execClpTb0OffsetWrite (m : Nat) (v : W32) (s : State) : Res :=
  row (barWrite m 0x30003C (tb0OffsetWrite v)) s

/-- CLP_TB2_OFFSET_WRITE (R317). -/
def execClpTb2OffsetWrite (m : Nat) (v : W32) (s : State) : Res :=
  row (barWrite m 0x300048 (tb2OffsetWrite v)) s

/-- CLP_TB3_SET (R316). -/
def execClpTb3Set (m : Nat) (v : W32) (s : State) : Res :=
  row (barWrite m 0x300058 (tb3SetWrite v)) s

/-- JGL_FOLD_ACK (R247). -/
def execJglFoldAck (m : Nat) (s : State) : Res :=
  row (barWrite m 0x1900020 foldAck) s

/-- TRZ_PORT_EXPECT_WRITE (R296). -/
def execTrzPortExpectWrite (m : Nat) (v : W32) (s : State) : Res :=
  row (barWrite m 0x1500050 (fun s => if s.trz.portSel < 6 then expectWrite s.trz.portSel v s else s)) s

/-- PX_GRP_FIR_WRITE (R190). -/
def execPxGrpFirWrite (m : Nat) (v : W32) (s : State) : Res :=
  row (barWrite m 0x1400028 (fun s => firWrite s.px.grpSel v s)) s

/-- LOG_DROP_CLEAR (R375). -/
def execLogDropClear (m : Nat) (v : W32) (s : State) : Res :=
  row (barWrite m 0x800018 (fun s => logDropClear v (logDrain s))) s

/-- SPM_BANK_PWR_WRITE (R264). -/
def execSpmBankPwrWrite (m : Nat) (v : W32) (s : State) : Res :=
  row (barWrite m 0x1800028 (bankPwrWrite m v)) s

/-- SPM_BANK_ZERO_DONE (R264). -/
def execSpmBankZeroDone (bank : Nat) (s : State) : Res :=
  unitRow (decide (bank < 544)) (bankZeroed bank) s

end Sys2Proof.Machine
end

