-- ==== Sys2Proof/Machine/SpmRows.lean ====
section
/-! DEFINITION. Scratchpad banks and the secure part (R260 to R266). -/

namespace Sys2Proof.Machine

/-- SPM_CE_LIMIT (R260). -/
def execSpmCeLimit (bank : Nat) (s : State) : Res :=
  unitRow (decide (bank < 544)) (spmCeLimit bank) s

/-- SPM_BANK_SPARE (R265). -/
def execSpmBankSpare (bank : Nat) (s : State) : Res :=
  unitRow (decide (bank < 544)) (bankSpare bank) s

/-- SPM_BANK_COPY_DONE (R265). -/
def execSpmBankCopyDone (s : State) (bad : List Nat := []) : Res :=
  row (bankCopyDone bad) s

/-- SPM_BANK_CLEAN_WINDOW (R264). -/
def execSpmBankCleanWindow (bank : Nat) (s : State) : Res :=
  unitRow (decide (bank < 544)) (bankClean bank) s

/-- TAMPER_ASSERT (R266). -/
def execTamperAssert (s : State) : Res :=
  row tamperAssert s

/-- SECURE_WIPE_DONE (R266). -/
def execSecureWipeDone (failed : List Nat) (s : State) : Res :=
  row (wipeDone failed) s

end Sys2Proof.Machine
end

