-- ==== Sys2Proof/Machine/ThermalRows.lean ====
section
/-! DEFINITION. Temperature (R376 to R388, R456). -/

namespace Sys2Proof.Machine

/-- TH_SAMPLE (R382). -/
def execThSample (env : SampleEnv) (s : State) : Res :=
  row (thSample env) s

/-- TH_SENSOR_SPARE (R380). -/
def execThSensorSpare (sensor : Nat) (mramOk : Bool) (s : State) : Res :=
  unitRow (decide (sensor < 284)) (sensorSpare sensor mramOk) s

/-- SENSOR_CLEAN_WINDOW (R378). -/
def execSensorCleanWindow (sensor : Nat) (s : State) : Res :=
  unitRow (decide (sensor < 284)) (sensorClean sensor) s

/-- TH_PAUSE (R384). -/
def execThPause (s : State) : Res :=
  row thPause s

/-- THERMAL_TRIP (R386). -/
def execThermalTrip (sensor : Nat) (temp prev : Int) (s : State) : Res :=
  unitRow (decide (sensor < 40)) (thermalTrip sensor temp prev) s

/-- REFIN_RETURN (R456). -/
def execRefinReturn (s : State) : Res :=
  row refinReturn s

end Sys2Proof.Machine
end

