-- ==== Sys2Proof/Machine/WorkRows.lean ====
section
/-! DEFINITION. What follows from commands later: package checks, staging, jobs, firmware sessions, calibration. -/

namespace Sys2Proof.Machine

/-- SCENE_VERIFY_DONE (R67, R70). -/
def execSceneVerifyDone (slot : Nat) (s : State) (failed : List Nat := []) : Res :=
  unitRow (decide (slot < 256)) (verifyDone slot failed) s

/-- STREAMED_FRAME_LANDED (R67, R73). -/
def execStreamedFrameLanded (staging : Nat) (ans : HostAns) (s : State) : Res :=
  unitRow (decide (staging < 4)) (frameLanded staging ans) s

/-- WAVEFORM_CHECK_DONE (R159). -/
def execWaveformCheckDone (ans : HostAns) (s : State) : Res :=
  row (waveformChecked ans) s

/-- SHW_STAGING_DONE (R289). -/
def execShwStagingDone (ch : Nat) (env : MemEnv) (s : State) : Res :=
  unitRow (decide (ch < 8)) (stagingDone ch env) s

/-- SHW_BURST_DONE (R292). -/
def execShwBurstDone (ch : Nat) (env : MemEnv) (s : State) : Res :=
  unitRow (decide (ch < 8)) (burstDone ch env) s

/-- CTN_JOB_END (R277, R278). -/
def execCtnJobEnd (ctx : Nat) (env : MemEnv) (s : State) : Res :=
  unitRow (decide (ctx < 64)) (jobEndEvent ctx env) s

/-- FW_ERASE_DONE (R408, R409); the session number is the device's choice. -/
def execFwEraseDone (session : W32) (s : State) : Res :=
  row (eraseDone session) s

/-- FW_COMMIT_CHECK_DONE (R411). -/
def execFwCommitCheckDone (s : State) : Res :=
  row commitCheckDone s

/-- FW_ACTIVATE_RESET (R411). -/
def execFwActivateReset (s : State) : Res :=
  row activateReset s

/-- FW_LOCK_EXPIRY (R408). -/
def execFwLockExpiry (s : State) : Res :=
  row lockExpiry s

/-- CONFIRM_WINDOW_EXPIRY (R413). -/
def execConfirmWindowExpiry (s : State) : Res :=
  row windowExpire s

/-- LIFECYCLE_CHANGE (R401). -/
def execLifecycleChange (s : State) (w : WipeEnv := {}) : Res :=
  row (lifecycleChange w) s

/-- CAL_ITEM_DONE (R428). -/
def execCalItemDone (item : Nat) (m : CalMeas) (s : State) : Res :=
  unitRow (decide (item < 14)) (calItemDone item m) s

/-- MESH_SEND_TIMEOUT (R315). -/
def execMeshSendTimeout (id : Nat) (s : State) : Res :=
  row (sendEnd id .timeout) s

end Sys2Proof.Machine
end

