-- ==== Sys2Proof/Machine/Dispatch.lean ====
section
/-! DEFINITION. One arm for each row of the table of operations and events: a direct call of the row's meaning. -/

namespace Sys2Proof.Machine

/-- The effect of one command or event on everything but the queue of waiting commands. -/
def exec (i : Instr) (s : State) : Host.Outcome State Fault Refusal :=
  match i with
  | .nop h => Sys2Proof.Machine.execNop h s
  | .fence h p => Sys2Proof.Machine.execFence h p s
  | .sceneLoadOpen h p => Sys2Proof.Machine.execSceneLoadOpen h p s
  | .sceneLoadData h p ans => Sys2Proof.Machine.execSceneLoadData h p ans s
  | .sceneLoadClose h p => Sys2Proof.Machine.execSceneLoadClose h p s
  | .sceneVerifyDone slot failed => Sys2Proof.Machine.execSceneVerifyDone slot s failed
  | .sceneLoadFree h p => Sys2Proof.Machine.execSceneLoadFree h p s
  | .scenePlay h p => Sys2Proof.Machine.execScenePlay h p s
  | .sceneStop h p => Sys2Proof.Machine.execSceneStop h p s
  | .sceneSeek h p => Sys2Proof.Machine.execSceneSeek h p s
  | .frameSubmit h p => Sys2Proof.Machine.execFrameSubmit h p s
  | .streamedFrameLanded staging ans => Sys2Proof.Machine.execStreamedFrameLanded staging ans s
  | .layerSet h p => Sys2Proof.Machine.execLayerSet h p s
  | .commit h p => Sys2Proof.Machine.execCommit h p s
  | .timingSet h p => Sys2Proof.Machine.execTimingSet h p s
  | .updateRegion h p => Sys2Proof.Machine.execUpdateRegion h p s
  | .waveformLoad h p => Sys2Proof.Machine.execWaveformLoad h p s
  | .waveformCheckDone ans => Sys2Proof.Machine.execWaveformCheckDone ans s
  | .blitFill h p => Sys2Proof.Machine.execBlitFill h p s
  | .blitCopy h p => Sys2Proof.Machine.execBlitCopy h p s
  | .blitConvert h p => Sys2Proof.Machine.execBlitConvert h p s
  | .shwStagingDone ch env => Sys2Proof.Machine.execShwStagingDone ch env s
  | .shwBurstDone ch env => Sys2Proof.Machine.execShwBurstDone ch env s
  | .ctnEncode h p => Sys2Proof.Machine.execCtnEncode h p s
  | .ctnDecode h p => Sys2Proof.Machine.execCtnDecode h p s
  | .ctnJobEnd ctx env => Sys2Proof.Machine.execCtnJobEnd ctx env s
  | .ctnSaveState h p => Sys2Proof.Machine.execCtnSaveState h p s
  | .ctnRestoreState h p => Sys2Proof.Machine.execCtnRestoreState h p s
  | .surfaceRegister h p => Sys2Proof.Machine.execSurfaceRegister h p s
  | .surfaceRelease h p => Sys2Proof.Machine.execSurfaceRelease h p s
  | .fwOpen h p => Sys2Proof.Machine.execFwOpen h p s
  | .fwEraseDone session => Sys2Proof.Machine.execFwEraseDone session s
  | .fwBlock h p => Sys2Proof.Machine.execFwBlock h p s
  | .fwCommit h p => Sys2Proof.Machine.execFwCommit h p s
  | .fwCommitCheckDone => Sys2Proof.Machine.execFwCommitCheckDone s
  | .fwActivateReset => Sys2Proof.Machine.execFwActivateReset s
  | .fwAbort h p => Sys2Proof.Machine.execFwAbort h p s
  | .fwConfirm h p => Sys2Proof.Machine.execFwConfirm h p s
  | .fwLockExpiry => Sys2Proof.Machine.execFwLockExpiry s
  | .confirmWindowExpiry => Sys2Proof.Machine.execConfirmWindowExpiry s
  | .lifecycleChange w => Sys2Proof.Machine.execLifecycleChange s w
  | .calRun h p => Sys2Proof.Machine.execCalRun h p s
  | .calItemDone item m => Sys2Proof.Machine.execCalItemDone item m s
  | .calRead h p => Sys2Proof.Machine.execCalRead h p s
  | .calWrite h p => Sys2Proof.Machine.execCalWrite h p s
  | .meshSend h p ans => Sys2Proof.Machine.execMeshSend h p ans s
  | .meshSendTimeout id => Sys2Proof.Machine.execMeshSendTimeout id s
  | .unitStateGet h p => Sys2Proof.Machine.execUnitStateGet h p s
  | .unitStateSet h p => Sys2Proof.Machine.execUnitStateSet h p s
  | .resetUnit h p => Sys2Proof.Machine.execResetUnit h p s
  | .logReadEntries h p => Sys2Proof.Machine.execLogReadEntries h p s
  | .logReadCodeDictionary h p => Sys2Proof.Machine.execLogReadCodeDictionary h p s
  | .logReadSourceDictionary h p => Sys2Proof.Machine.execLogReadSourceDictionary h p s
  | .sqDoorbell port q v => Sys2Proof.Machine.execSqDoorbell port q v s
  | .packetFetch q ans => Sys2Proof.Machine.execPacketFetch q ans s
  | .cqDoorbell port q v => Sys2Proof.Machine.execCqDoorbell port q v s
  | .cqInterruptTimer q => Sys2Proof.Machine.execCqInterruptTimer q s
  | .vecIdleWrite port n v => Sys2Proof.Machine.execVecIdleWrite port n v s
  | .sqEnable port => Sys2Proof.Machine.execSqEnable port s
  | .sqDisable port => Sys2Proof.Machine.execSqDisable port s
  | .sqDrainDone q => Sys2Proof.Machine.execSqDrainDone q s
  | .sqReset port => Sys2Proof.Machine.execSqReset port s
  | .sqAdopt port => Sys2Proof.Machine.execSqAdopt port s
  | .cqEnable port => Sys2Proof.Machine.execCqEnable port s
  | .cqDisable port => Sys2Proof.Machine.execCqDisable port s
  | .cqReset port => Sys2Proof.Machine.execCqReset port s
  | .cqAdopt port => Sys2Proof.Machine.execCqAdopt port s
  | .perst port => Sys2Proof.Machine.execPerst port s
  | .flr port => Sys2Proof.Machine.execFlr port s
  | .portLinkDown port => Sys2Proof.Machine.execPortLinkDown port s
  | .portLinkReturn port => Sys2Proof.Machine.execPortLinkReturn port s
  | .failoverTimeout port => Sys2Proof.Machine.execFailoverTimeout port s
  | .d3hotEntry port pmeEn => Sys2Proof.Machine.execD3hotEntry port pmeEn s
  | .d0Return port => Sys2Proof.Machine.execD0Return port s
  | .hqBar4BaseWrite port high v => Sys2Proof.Machine.execHqBar4BaseWrite port high v s
  | .bar2Access port addr acc reads busy => Sys2Proof.Machine.execBar2Access port addr acc reads busy s
  | .bar4Access port off acc env => Sys2Proof.Machine.execBar4Access port off acc env s
  | .bar0BadAccess m off write len => Sys2Proof.Machine.execBar0BadAccess m off write len s
  | .registerWrite m off v => Sys2Proof.Machine.execRegisterWrite m off v s
  | .rmResetWrite m v => Sys2Proof.Machine.execRmResetWrite m v s
  | .wdogKick m => Sys2Proof.Machine.execWdogKick m s
  | .watchdogExpiry => Sys2Proof.Machine.execWatchdogExpiry s
  | .panelOnSet m => Sys2Proof.Machine.execPanelOnSet m s
  | .panelOnClear m => Sys2Proof.Machine.execPanelOnClear m s
  | .pwrseqLegacyWrite m on => Sys2Proof.Machine.execPwrseqLegacyWrite m on s
  | .brkClaim core => Sys2Proof.Machine.execBrkClaim core s
  | .brkComplete core v => Sys2Proof.Machine.execBrkComplete core v s
  | .brkSrcForce m => Sys2Proof.Machine.execBrkSrcForce m s
  | .brkCountClear m => Sys2Proof.Machine.execBrkCountClear m s
  | .brkHostPendClear m reg v => Sys2Proof.Machine.execBrkHostPendClear m reg v s
  | .brkRouteWrite m v => Sys2Proof.Machine.execBrkRouteWrite m v s
  | .brkSourceEvent src level => Sys2Proof.Machine.execBrkSourceEvent src level s
  | .brkModTimer core => Sys2Proof.Machine.execBrkModTimer core s
  | .coreReset core => Sys2Proof.Machine.execCoreReset core s
  | .thAckL3 m => Sys2Proof.Machine.execThAckL3 m s
  | .thTripClear m v => Sys2Proof.Machine.execThTripClear m v s
  | .thTripDataRead m => Sys2Proof.Machine.execThTripDataRead m s
  | .thLimitsWrite m v => Sys2Proof.Machine.execThLimitsWrite m v s
  | .calJrnlDataRead m => Sys2Proof.Machine.execCalJrnlDataRead m s
  | .clrTblDataAccess m w => Sys2Proof.Machine.execClrTblDataAccess m w s
  | .trzRouteDataAccess m w => Sys2Proof.Machine.execTrzRouteDataAccess m w s
  | .trnEntryApply m => Sys2Proof.Machine.execTrnEntryApply m s
  | .shwChAbort m => Sys2Proof.Machine.execShwChAbort m s
  | .shwDisable m => Sys2Proof.Machine.execShwDisable m s
  | .clpSnap m v => Sys2Proof.Machine.execClpSnap m v s
  | .clpTb1Step m v => Sys2Proof.Machine.execClpTb1Step m v s
  | .clpTb0OffsetWrite m v => Sys2Proof.Machine.execClpTb0OffsetWrite m v s
  | .clpTb2OffsetWrite m v => Sys2Proof.Machine.execClpTb2OffsetWrite m v s
  | .clpTb3Set m v => Sys2Proof.Machine.execClpTb3Set m v s
  | .jglFoldAck m => Sys2Proof.Machine.execJglFoldAck m s
  | .trzPortExpectWrite m v => Sys2Proof.Machine.execTrzPortExpectWrite m v s
  | .pxGrpFirWrite m v => Sys2Proof.Machine.execPxGrpFirWrite m v s
  | .logDropClear m v => Sys2Proof.Machine.execLogDropClear m v s
  | .spmBankPwrWrite m v => Sys2Proof.Machine.execSpmBankPwrWrite m v s
  | .spmBankZeroDone bank => Sys2Proof.Machine.execSpmBankZeroDone bank s
  | .mctpRequest msgTag packet => Sys2Proof.Machine.execMctpRequest msgTag packet s
  | .mctpControlMessage c => Sys2Proof.Machine.execMctpControlMessage c s
  | .mctpAssemblyTimeout msgTag => Sys2Proof.Machine.execMctpAssemblyTimeout msgTag s
  | .frameTick env => Sys2Proof.Machine.execFrameTick env s
  | .synthesisStart => Sys2Proof.Machine.execSynthesisStart s
  | .preflightDecided poisonedTable => Sys2Proof.Machine.execPreflightDecided poisonedTable s
  | .blankLineStart line => Sys2Proof.Machine.execBlankLineStart line s
  | .lineDeparture env => Sys2Proof.Machine.execLineDeparture env s
  | .homPipeErr pipe line => Sys2Proof.Machine.execHomPipeErr pipe line s
  | .watermarkFire n => Sys2Proof.Machine.execWatermarkFire n s
  | .scanEnd => Sys2Proof.Machine.execScanEnd s
  | .holdExtensionEnd => Sys2Proof.Machine.execHoldExtensionEnd s
  | .linkWake => Sys2Proof.Machine.execLinkWake s
  | .rasterStart => Sys2Proof.Machine.execRasterStart s
  | .retimeRampEnd => Sys2Proof.Machine.execRetimeRampEnd s
  | .headroomLoop => Sys2Proof.Machine.execHeadroomLoop s
  | .pwrHeadroomStaleLimit => Sys2Proof.Machine.execPwrHeadroomStaleLimit s
  | .pnlPowerGoodRise rail => Sys2Proof.Machine.execPnlPowerGoodRise rail s
  | .pwrSettleDone => Sys2Proof.Machine.execPwrSettleDone s
  | .powerGoodBoundExpiry => Sys2Proof.Machine.execPowerGoodBoundExpiry s
  | .irefRampEnd => Sys2Proof.Machine.execIrefRampEnd s
  | .vledPgFall => Sys2Proof.Machine.execVledPgFall s
  | .pwrPgStuck => Sys2Proof.Machine.execPwrPgStuck s
  | .dischargeEnd => Sys2Proof.Machine.execDischargeEnd s
  | .railDisableStep => Sys2Proof.Machine.execRailDisableStep s
  | .powerGoodLost rail => Sys2Proof.Machine.execPowerGoodLost rail s
  | .railOvervoltage colour => Sys2Proof.Machine.execRailOvervoltage colour s
  | .railUndervoltage colour mv => Sys2Proof.Machine.execRailUndervoltage colour mv s
  | .pwrUvTimeout => Sys2Proof.Machine.execPwrUvTimeout s
  | .pxTrainRequest g => Sys2Proof.Machine.execPxTrainRequest g s
  | .pxTsRx g lane ts => Sys2Proof.Machine.execPxTsRx g lane ts s
  | .pxTrainTimeout g => Sys2Proof.Machine.execPxTrainTimeout g s
  | .pxTrainDone g => Sys2Proof.Machine.execPxTrainDone g s
  | .headroomRx g pkt => Sys2Proof.Machine.execHeadroomRx g pkt s
  | .tempRx g pkt => Sys2Proof.Machine.execTempRx g pkt s
  | .crcreportRx g pkt => Sys2Proof.Machine.execCrcreportRx g pkt s
  | .crcreportMissing g => Sys2Proof.Machine.execCrcreportMissing g s
  | .faultRx g pkt => Sys2Proof.Machine.execFaultRx g pkt s
  | .tempStale g => Sys2Proof.Machine.execTempStale g s
  | .headroomStale g => Sys2Proof.Machine.execHeadroomStale g s
  | .bcLockLost g => Sys2Proof.Machine.execBcLockLost g s
  | .bcRetrainTimeout g => Sys2Proof.Machine.execBcRetrainTimeout g s
  | .pxGroupSpare g => Sys2Proof.Machine.execPxGroupSpare g s
  | .pxGroupCleanWindow g => Sys2Proof.Machine.execPxGroupCleanWindow g s
  | .regionRequestTimeout slot => Sys2Proof.Machine.execRegionRequestTimeout slot s
  | .crslTblRewriteDone copy => Sys2Proof.Machine.execCrslTblRewriteDone copy s
  | .homPipeSpare pipe => Sys2Proof.Machine.execHomPipeSpare pipe s
  | .homPipeCleanWindow pipe => Sys2Proof.Machine.execHomPipeCleanWindow pipe s
  | .unitRequest => Sys2Proof.Machine.execUnitRequest s
  | .storeShrink => Sys2Proof.Machine.execStoreShrink s
  | .jglCeLimit ch => Sys2Proof.Machine.execJglCeLimit ch s
  | .jglRetrain ch => Sys2Proof.Machine.execJglRetrain ch s
  | .jglRetrainDone pass failRanks => Sys2Proof.Machine.execJglRetrainDone pass failRanks s
  | .jglRankCopyDone mramOk bad => Sys2Proof.Machine.execJglRankCopyDone mramOk s bad
  | .jglChannelCopyDone mramOk bad => Sys2Proof.Machine.execJglChannelCopyDone mramOk s bad
  | .jglFold ch => Sys2Proof.Machine.execJglFold ch s
  | .jglFoldCopyDone poisoned => Sys2Proof.Machine.execJglFoldCopyDone poisoned s
  | .jglRebase ch => Sys2Proof.Machine.execJglRebase ch s
  | .jglRebaseDone bad => Sys2Proof.Machine.execJglRebaseDone s bad
  | .jglRefreshLimit ch bank => Sys2Proof.Machine.execJglRefreshLimit ch bank s
  | .jglRowDisturb ch port => Sys2Proof.Machine.execJglRowDisturb ch port s
  | .jglRegCutEnd port => Sys2Proof.Machine.execJglRegCutEnd port s
  | .jglMr4Read ch rank mult temp => Sys2Proof.Machine.execJglMr4Read ch rank mult s temp
  | .jglZqCal ch rank => Sys2Proof.Machine.execJglZqCal ch rank s
  | .jglDqsTrack ch rank => Sys2Proof.Machine.execJglDqsTrack ch rank s
  | .jglScrub line ecc => Sys2Proof.Machine.execJglScrub line ecc s
  | .jglSwitchStart => Sys2Proof.Machine.execJglSwitchStart s
  | .jglSwitchDone => Sys2Proof.Machine.execJglSwitchDone s
  | .jglChannelCleanWindow ch => Sys2Proof.Machine.execJglChannelCleanWindow ch s
  | .spmCeLimit bank => Sys2Proof.Machine.execSpmCeLimit bank s
  | .spmBankSpare bank => Sys2Proof.Machine.execSpmBankSpare bank s
  | .spmBankCopyDone bad => Sys2Proof.Machine.execSpmBankCopyDone s bad
  | .spmBankCleanWindow bank => Sys2Proof.Machine.execSpmBankCleanWindow bank s
  | .tamperAssert => Sys2Proof.Machine.execTamperAssert s
  | .secureWipeDone failed => Sys2Proof.Machine.execSecureWipeDone failed s
  | .trzTsRx port ts => Sys2Proof.Machine.execTrzTsRx port ts s
  | .trzTrainTimeout port => Sys2Proof.Machine.execTrzTrainTimeout port s
  | .trzTrainDone port t => Sys2Proof.Machine.execTrzTrainDone port t s
  | .trzFailedRetry port => Sys2Proof.Machine.execTrzFailedRetry port s
  | .trzLaneWindow port lane badBlocks => Sys2Proof.Machine.execTrzLaneWindow port lane badBlocks s
  | .trzLaneSpare port lane mramOk => Sys2Proof.Machine.execTrzLaneSpare port lane mramOk s
  | .trzPortCleanWindow port => Sys2Proof.Machine.execTrzPortCleanWindow port s
  | .trzAckRx port lseq frame => Sys2Proof.Machine.execTrzAckRx port lseq s frame
  | .trzNakRx port lseq frame => Sys2Proof.Machine.execTrzNakRx port lseq s frame
  | .trzCreditRx port cls n frame => Sys2Proof.Machine.execTrzCreditRx port cls n s frame
  | .trzCreditStall port => Sys2Proof.Machine.execTrzCreditStall port s
  | .trzSyncRx port frame steps tRx => Sys2Proof.Machine.execTrzSyncRx port frame steps tRx s
  | .trzSyncSend => Sys2Proof.Machine.execTrzSyncSend s
  | .trzPdelaySend port => Sys2Proof.Machine.execTrzPdelaySend port s
  | .trzPdelayReqRx port frame tRx => Sys2Proof.Machine.execTrzPdelayReqRx port frame tRx s
  | .trzPdelayRespRx port frame tRx => Sys2Proof.Machine.execTrzPdelayRespRx port frame tRx s
  | .clpHoldover => Sys2Proof.Machine.execClpHoldover s
  | .trzHelloRx port frame peer nonce ownNonce => Sys2Proof.Machine.execTrzHelloRx port frame peer nonce ownNonce s
  | .trzProofRx port frame proof => Sys2Proof.Machine.execTrzProofRx port frame proof s
  | .trzAuthTimeout port => Sys2Proof.Machine.execTrzAuthTimeout port s
  | .trzAuthRetry port ownNonce => Sys2Proof.Machine.execTrzAuthRetry port ownNonce s
  | .trzHaloFragmentRx port frame => Sys2Proof.Machine.execTrzHaloFragmentRx port frame s
  | .trzHaloCancelRx port frame target => Sys2Proof.Machine.execTrzHaloCancelRx port frame target s
  | .haloSendPhase2 => Sys2Proof.Machine.execHaloSendPhase2 s
  | .trzMgmtRx port frame msg => Sys2Proof.Machine.execTrzMgmtRx port frame msg s
  | .trzDataRequestRx port frame id addr len ans => Sys2Proof.Machine.execTrzDataRequestRx port frame id addr len ans s
  | .trzDataResponseRx port frame id ans => Sys2Proof.Machine.execTrzDataResponseRx port frame id ans s
  | .trzUserMsgRx port frame id msg => Sys2Proof.Machine.execTrzUserMsgRx port frame id msg s
  | .trzMsgAckRx port frame id => Sys2Proof.Machine.execTrzMsgAckRx port frame id s
  | .trzForwardTimeout port => Sys2Proof.Machine.execTrzForwardTimeout port s
  | .trzGwTimeout id => Sys2Proof.Machine.execTrzGwTimeout id s
  | .logEntrySubmit name core args => Sys2Proof.Machine.execLogEntrySubmit name core args s
  | .journalCopy => Sys2Proof.Machine.execJournalCopy s
  | .thSample env => Sys2Proof.Machine.execThSample env s
  | .thSensorSpare sensor mramOk => Sys2Proof.Machine.execThSensorSpare sensor mramOk s
  | .sensorCleanWindow sensor => Sys2Proof.Machine.execSensorCleanWindow sensor s
  | .thermalTrip sensor temp prev => Sys2Proof.Machine.execThermalTrip sensor temp prev s
  | .powerOnReset smbAddr => Sys2Proof.Machine.execPowerOnReset smbAddr s
  | .resetNAssert smbAddr => Sys2Proof.Machine.execResetNAssert smbAddr s
  | .bootLoadDone c => Sys2Proof.Machine.execBootLoadDone c s
  | .bootTrainDone t => Sys2Proof.Machine.execBootTrainDone t s
  | .bootCheckDone c => Sys2Proof.Machine.execBootCheckDone c s
  | .brownout rail => Sys2Proof.Machine.execBrownout rail s
  | .backChannelLock g => Sys2Proof.Machine.execBackChannelLock g s
  | .meshLossOfLock port => Sys2Proof.Machine.execMeshLossOfLock port s
  | .sceneFrameDue => Sys2Proof.Machine.execSceneFrameDue s
  | .mramCommitRetry writeOk => Sys2Proof.Machine.execMramCommitRetry writeOk s
  | .sameBankRefresh ch bank idle => Sys2Proof.Machine.execSameBankRefresh ch bank idle s
  | .pcieLinkUp port speed width => Sys2Proof.Machine.execPcieLinkUp port speed width s
  | .coreWait core waiting => Sys2Proof.Machine.execCoreWait core waiting s
  | .mctpPacket p => Sys2Proof.Machine.execMctpPacket p s
  | .mctpResponseCollected => Sys2Proof.Machine.execMctpResponseCollected s
  | .bootPorDone tamper lc => Sys2Proof.Machine.execBootPorDone s tamper lc
  | .bootRomDone => Sys2Proof.Machine.execBootRomDone s
  | .brownoutEnd => Sys2Proof.Machine.execBrownoutEnd s
  | .vaonLoss => Sys2Proof.Machine.execVaonLoss s
  | .clkLrefLost => Sys2Proof.Machine.execClkLrefLost s
  | .clkLrefReturn => Sys2Proof.Machine.execClkLrefReturn s
  | .refinReturn => Sys2Proof.Machine.execRefinReturn s
  | .thPause => Sys2Proof.Machine.execThPause s

end Sys2Proof.Machine
end

