-- ==== Sys2Proof/WellFormed.lean ====
section
/-! DEFINITION. Which commands are well formed: an operand that the device numbers lies in the range the
manual gives, and a byte string whose length the manual fixes has that length. The meanings do not
assume it: a command that names a unit the device does not have stops under a name of its own. -/

namespace Sys2Proof

/-- A submission queue (R330), a mailbox message tag (R346), a mesh port and a gateway ID (R295, R301). -/
def Src.wf : Src → Bool
  | .sq q => decide (q < 1024)
  | .mbox t => decide (t < 8)
  | .mesh port gateway _ => decide (port < 6) && decide (gateway < 16384)
  | .fw => true

/-- A header whose source the device has. -/
def Hdr.wf (h : Hdr) : Bool := h.src.wf

/-- No command reads more of host memory than a 32-bit length can say. -/
def HostAns.wf : HostAns → Bool
  | .data b => decide (b.length < 2 ^ 32)
  | .refused => true
  | .poisoned => true

/-- A PCIe request carries from 1 byte to 4,096 (R327). -/
def Access.wf : Access → Bool
  | .read n => decide (1 ≤ n) && decide (n ≤ 4096)
  | .write b => decide (1 ≤ b.length) && decide (b.length ≤ 4096)

/-- Groups by number (R187). -/
def TickEnv.wf (e : TickEnv) : Bool := e.pad.all fun (x : Nat × W32) => decide (x.1 < 32)

/-- Planes and overlay slots by number (R52, R118), a stage of R170, and at most three copies of a waveform table. -/
def LineEnv.wf (e : LineEnv) : Bool :=
  decide (e.stage < 16) && (e.tiles.all fun (x : Nat × Nat × Nat) => decide (x.1 < 64)) &&
    (e.overlays.all fun (x : Nat × Nat × Nat × Nat) => decide (x.1 < 8)) &&
    (e.table.all fun (x : Nat × Nat) => decide (x.2 ≤ 3))

/-- Converted inputs by unit index (R376). -/
def SampleEnv.wf (e : SampleEnv) : Bool := e.readings.all fun (x : Reading) => decide (x.1 < 284)

/-- A peer's ID of 14 bits and its port code (R296, R299). -/
def MeshTrain.wf (t : MeshTrain) : Bool :=
  decide (t.peer < 16384) && decide (t.peerPort < 8) && t.failed.all fun l => decide (l < 16)

/-- A wipe's verifies name banks of the secure part (R266). -/
def WipeEnv.wf (w : WipeEnv) : Bool := (w.first ++ w.second).all fun b => decide (b < 16)

/-- Channels and ranks by number (R234). -/
def TrainEnv.wf (t : TrainEnv) : Bool :=
  t.channels.all fun (c : ChannelTrain) =>
    decide (c.channel < 24) && decide (c.ranks ≤ 4) && c.failedRanks.all fun r => decide (r < 4)

/-- Scratchpad banks by number (R259), sensors by number (R376). -/
def CheckEnv.wf (c : CheckEnv) : Bool :=
  (c.banksFailed.all fun b => decide (b < 544)) && c.sparesFailed.all fun n => decide (n < 284)

/-- Masters are 64 at most (R403), route exits and neighbours are ports or the codes beyond them (R299), and a
factory calibration record has 128 bytes (R430). -/
def ConfigItems.wf (c : ConfigItems) : Bool :=
  (match c.trzId with | some i => decide (i < 16384) | none => true) &&
    (c.routes.all fun (x : Nat × Nat) => decide (x.1 < 16384) && decide (x.2 < 8)) &&
    (c.neighbours.all fun (x : Nat × W32) => decide (x.1 < 6)) && decide (c.spareCh < 32) &&
    decide (c.factoryRecord.length ≤ 128)

/-- A message tag of 3 bits (R346). -/
def McPacket.wf (p : McPacket) : Bool := decide (p.msgTag < 8) && decide (p.addr < 128) && decide (p.seq < 4)

/-- A MGMT frame holds no packet beyond its own 4,096 bytes' content and the largest command (R302, R339). -/
def MgmtMsg.wf : MgmtMsg → Bool
  | .command _ b => decide (b.length ≤ 4128)
  | .completion _ _ _ => true

/-- A command is well formed. -/
def Instr.wf : Instr → Bool
  | .nop h => h.wf
  | .fence h _ => h.wf
  | .sceneLoadOpen h _ => h.wf
  | .sceneLoadData h _ ans => h.wf && ans.wf
  | .sceneLoadClose h _ => h.wf
  | .sceneVerifyDone slot _ => decide (slot < 256)
  | .sceneLoadFree h _ => h.wf
  | .scenePlay h _ => h.wf
  | .sceneStop h _ => h.wf
  | .sceneSeek h _ => h.wf
  | .frameSubmit h _ => h.wf
  | .streamedFrameLanded staging ans => decide (staging < 4) && ans.wf
  | .layerSet h _ => h.wf
  | .commit h _ => h.wf
  | .timingSet h _ => h.wf
  | .updateRegion h _ => h.wf
  | .waveformLoad h _ => h.wf
  | .waveformCheckDone ans => ans.wf
  | .blitFill h _ => h.wf
  | .blitCopy h _ => h.wf
  | .blitConvert h _ => h.wf
  | .shwStagingDone ch _ => decide (ch < 8)
  | .shwBurstDone ch _ => decide (ch < 8)
  | .ctnEncode h _ => h.wf
  | .ctnDecode h _ => h.wf
  | .ctnJobEnd ctx _ => decide (ctx < 64)
  | .ctnSaveState h _ => h.wf
  | .ctnRestoreState h _ => h.wf
  | .surfaceRegister h _ => h.wf
  | .surfaceRelease h _ => h.wf
  | .fwOpen h _ => h.wf
  | .fwEraseDone _ => true
  | .fwBlock h p => h.wf && decide (p.data.length = 4096)
  | .fwCommit h _ => h.wf
  | .fwCommitCheckDone => true
  | .fwActivateReset => true
  | .fwAbort h _ => h.wf
  | .fwConfirm h _ => h.wf
  | .fwLockExpiry => true
  | .confirmWindowExpiry => true
  | .lifecycleChange w => w.wf
  | .calRun h _ => h.wf
  | .calItemDone item _ => decide (item < 14)
  | .calRead h _ => h.wf
  | .calWrite h p => h.wf && decide (p.record.length = 128)
  | .meshSend h _ ans => h.wf && ans.wf
  | .meshSendTimeout _ => true
  | .unitStateGet h _ => h.wf
  | .unitStateSet h _ => h.wf
  | .resetUnit h _ => h.wf
  | .logReadEntries h _ => h.wf
  | .logReadCodeDictionary h _ => h.wf
  | .logReadSourceDictionary h _ => h.wf
  | .sqDoorbell _ q _ => decide (q < 1024)
  | .packetFetch q ans => decide (q < 1024) && ans.wf
  | .cqDoorbell _ q _ => decide (q < 1024)
  | .cqInterruptTimer q => decide (q < 1024)
  | .vecIdleWrite _ n _ => decide (n < 64)
  | .sqEnable _ => true
  | .sqDisable _ => true
  | .sqDrainDone q => decide (q < 1024)
  | .sqReset _ => true
  | .sqAdopt _ => true
  | .cqEnable _ => true
  | .cqDisable _ => true
  | .cqReset _ => true
  | .cqAdopt _ => true
  | .perst _ => true
  | .flr _ => true
  | .portLinkDown _ => true
  | .portLinkReturn _ => true
  | .failoverTimeout _ => true
  | .d3hotEntry _ _ => true
  | .d0Return _ => true
  | .hqBar4BaseWrite _ _ _ => true
  | .bar2Access _ addr acc _ _ => decide (addr < 2 ^ 28) && acc.wf
  | .bar4Access _ off acc _ => decide (off < 2 ^ 36) && acc.wf
  | .bar0BadAccess m off _ len => decide (m < 64) && decide (off < 2 ^ 25) && decide (len < 2 ^ 32)
  | .registerWrite m off _ => decide (m < 64) && decide (off < 2 ^ 25)
  | .rmResetWrite m _ => decide (m < 64)
  | .wdogKick m => decide (m < 64)
  | .watchdogExpiry => true
  | .panelOnSet m => decide (m < 64)
  | .panelOnClear m => decide (m < 64)
  | .pwrseqLegacyWrite m _ => decide (m < 64)
  | .brkClaim core => decide (core < 4)
  | .brkComplete core _ => decide (core < 4)
  | .brkSrcForce m => decide (m < 64)
  | .brkCountClear m => decide (m < 64)
  | .brkHostPendClear m reg _ => decide (m < 64) && decide (reg < 32)
  | .brkRouteWrite m _ => decide (m < 64)
  | .brkSourceEvent src _ => decide ((src / 32 < 9 ∨ 16 ≤ src / 32) ∧ src / 32 < 28)
  | .brkModTimer core => decide (core < 4)
  | .coreReset core => decide (core < 4)
  | .thAckL3 m => decide (m < 64)
  | .thTripClear m _ => decide (m < 64)
  | .thTripDataRead m => decide (m < 64)
  | .thLimitsWrite m _ => decide (m < 64)
  | .calJrnlDataRead m => decide (m < 64)
  | .clrTblDataAccess m _ => decide (m < 64)
  | .trzRouteDataAccess m _ => decide (m < 64)
  | .trnEntryApply m => decide (m < 64)
  | .shwChAbort m => decide (m < 64)
  | .shwDisable m => decide (m < 64)
  | .clpSnap m _ => decide (m < 64)
  | .clpTb1Step m _ => decide (m < 64)
  | .clpTb0OffsetWrite m _ => decide (m < 64)
  | .clpTb2OffsetWrite m _ => decide (m < 64)
  | .clpTb3Set m _ => decide (m < 64)
  | .jglFoldAck m => decide (m < 64)
  | .trzPortExpectWrite m _ => decide (m < 64)
  | .pxGrpFirWrite m _ => decide (m < 64)
  | .logDropClear m _ => decide (m < 64)
  | .spmBankPwrWrite m _ => decide (m < 64)
  | .spmBankZeroDone bank => decide (bank < 544)
  | .mctpRequest msgTag _ => decide (msgTag < 8)
  | .mctpControlMessage _ => true
  | .mctpAssemblyTimeout msgTag => decide (msgTag < 8)
  | .frameTick env => env.wf
  | .synthesisStart => true
  | .preflightDecided _ => true
  | .blankLineStart _ => true
  | .lineDeparture env => env.wf
  | .homPipeErr pipe _ => decide (pipe < 72)
  | .watermarkFire n => decide (n < 8)
  | .scanEnd => true
  | .holdExtensionEnd => true
  | .linkWake => true
  | .rasterStart => true
  | .retimeRampEnd => true
  | .headroomLoop => true
  | .pwrHeadroomStaleLimit => true
  | .pnlPowerGoodRise _ => true
  | .pwrSettleDone => true
  | .powerGoodBoundExpiry => true
  | .irefRampEnd => true
  | .vledPgFall => true
  | .pwrPgStuck => true
  | .dischargeEnd => true
  | .railDisableStep => true
  | .powerGoodLost _ => true
  | .railOvervoltage colour => decide (colour < 3)
  | .railUndervoltage colour _ => decide (colour < 3)
  | .pwrUvTimeout => true
  | .pxTrainRequest g => decide (g < 32)
  | .pxTsRx g lane ts => decide (g < 32) && decide (lane < 2) && decide (ts.length = 16)
  | .pxTrainTimeout g => decide (g < 32)
  | .pxTrainDone g => decide (g < 32)
  | .headroomRx g _ => decide (g < 32)
  | .tempRx g _ => decide (g < 32)
  | .crcreportRx g _ => decide (g < 32)
  | .crcreportMissing g => decide (g < 32)
  | .faultRx g _ => decide (g < 32)
  | .tempStale g => decide (g < 32)
  | .headroomStale g => decide (g < 32)
  | .bcLockLost g => decide (g < 32)
  | .bcRetrainTimeout g => decide (g < 32)
  | .pxGroupSpare g => decide (g < 32)
  | .pxGroupCleanWindow g => decide (g < 32)
  | .regionRequestTimeout slot => decide (slot < 16)
  | .crslTblRewriteDone copy => decide (copy < 3)
  | .homPipeSpare pipe => decide (pipe < 72)
  | .homPipeCleanWindow pipe => decide (pipe < 72)
  | .unitRequest => true
  | .storeShrink => true
  | .jglCeLimit ch => decide (ch < 24)
  | .jglRetrain ch => decide (ch < 24)
  | .jglRetrainDone _ failRanks => (failRanks.all fun r => decide (r < 4))
  | .jglRankCopyDone _ _ => true
  | .jglChannelCopyDone _ _ => true
  | .jglFold ch => decide (ch < 24)
  | .jglFoldCopyDone _ => true
  | .jglRebase ch => decide (ch < 24)
  | .jglRebaseDone _ => true
  | .jglRefreshLimit ch bank => decide (ch < 24) && decide (bank < 32)
  | .jglRowDisturb ch port => decide (ch < 24) && decide (port < 16)
  | .jglRegCutEnd port => decide (port < 12)
  | .jglMr4Read ch rank mult _ => decide (ch < 24) && decide (rank < 4) && decide (mult < 8)
  | .jglZqCal ch rank => decide (ch < 24) && decide (rank < 4)
  | .jglDqsTrack ch rank => decide (ch < 24) && decide (rank < 4)
  | .jglScrub _ _ => true
  | .jglSwitchStart => true
  | .jglSwitchDone => true
  | .jglChannelCleanWindow ch => decide (ch < 24)
  | .spmCeLimit bank => decide (bank < 544)
  | .spmBankSpare bank => decide (bank < 544)
  | .spmBankCopyDone bad => bad.all fun i => decide (i < 16384)
  | .spmBankCleanWindow bank => decide (bank < 544)
  | .tamperAssert => true
  | .secureWipeDone failed => (failed.all fun b => decide (b < 544))
  | .trzTsRx port ts => decide (port < 6) && decide (ts.length = 16)
  | .trzTrainTimeout port => decide (port < 6)
  | .trzTrainDone port t => decide (port < 6) && t.wf
  | .trzFailedRetry port => decide (port < 6)
  | .trzLaneWindow port lane _ => decide (port < 6) && decide (lane < 16)
  | .trzLaneSpare port lane _ => decide (port < 6) && decide (lane < 16)
  | .trzPortCleanWindow port => decide (port < 6)
  | .trzAckRx port lseq _ => decide (port < 6) && decide (lseq < 256)
  | .trzNakRx port lseq _ => decide (port < 6) && decide (lseq < 256)
  | .trzCreditRx port cls _ _ => decide (port < 6) && decide (cls < 7)
  | .trzCreditStall port => decide (port < 6)
  | .trzSyncRx port _ _ _ => decide (port < 6)
  | .trzSyncSend => true
  | .trzPdelaySend port => decide (port < 6)
  | .trzPdelayReqRx port _ _ => decide (port < 6)
  | .trzPdelayRespRx port _ _ => decide (port < 6)
  | .clpHoldover => true
  | .trzHelloRx port _ peer nonce ownNonce => decide (port < 6) && decide (peer < 16384) && decide (nonce.length = 32) &&
    decide (ownNonce.length = 32)
  | .trzProofRx port _ proof => decide (port < 6) && decide (proof.length = 32)
  | .trzAuthTimeout port => decide (port < 6)
  | .trzAuthRetry port ownNonce => decide (port < 6) && decide (ownNonce.length = 32)
  | .trzHaloFragmentRx port _ => decide (port < 6)
  | .trzHaloCancelRx port _ _ => decide (port < 6)
  | .haloSendPhase2 => true
  | .trzMgmtRx port _ msg => decide (port < 6) && msg.wf
  | .trzDataRequestRx port _ _ addr len ans => decide (port < 6) && decide (addr < 2 ^ 64) && decide (len < 2 ^ 32) && ans.wf
  | .trzDataResponseRx port _ _ ans => decide (port < 6) && ans.wf
  | .trzUserMsgRx port _ _ _ => decide (port < 6)
  | .trzMsgAckRx port _ _ => decide (port < 6)
  | .trzForwardTimeout port => decide (port < 6)
  | .trzGwTimeout _ => true
  | .logEntrySubmit _ core _ => decide (core < 4)
  | .journalCopy => true
  | .thSample env => env.wf
  | .thSensorSpare sensor _ => decide (sensor < 284)
  | .sensorCleanWindow sensor => decide (sensor < 284)
  | .thermalTrip sensor _ _ => decide (sensor < 40)
  | .powerOnReset smbAddr => decide (smbAddr < 8)
  | .resetNAssert smbAddr => decide (smbAddr < 8)
  | .bootLoadDone c => c.wf
  | .bootTrainDone t => t.wf
  | .bootCheckDone c => c.wf
  | .brownout _ => true
  | .backChannelLock g => decide (g < 32)
  | .meshLossOfLock port => decide (port < 6)
  | .sceneFrameDue => true
  | .mramCommitRetry _ => true
  | .sameBankRefresh ch bank _ => decide (ch < 24) && decide (bank < 32)
  | .pcieLinkUp _ _ _ => true
  | .coreWait core _ => decide (core < 4)
  | .mctpPacket p => p.wf
  | .mctpResponseCollected => true
  | .bootPorDone tamper lc => tamper.wf && lc.wf
  | .bootRomDone => true
  | .brownoutEnd => true
  | .vaonLoss => true
  | .clkLrefLost => true
  | .clkLrefReturn => true
  | .refinReturn => true
  | .thPause => true

end Sys2Proof
end

