-- ==== Sys2Proof/Safety.lean ====
section
/-! DEFINITION. What claims say of a run: the device goes on, and what it keeps. -/

namespace Sys2Proof

open Machine

/-- A step gives a next state. -/
def Safe (s : State) : Prop := ∃ t, step s = .next t

/-- A command gives a next state. -/
def Runs (c : Instr) (s : State) : Prop := ∃ t, exec c s = .next t

/-- A command gives a next state, of which `P` holds. -/
def Gives (c : Instr) (s : State) (P : State → Prop) : Prop := ∃ t, exec c s = .next t ∧ P t

/-- Nothing waits in the machine for a completion: no FENCE is outstanding, no command is held back, none has a place in
the order of the unit requests, and no reset waits for the panel. What a command does then is its own effect alone. -/
def Quiet (s : State) : Prop :=
  s.hq.fences = [] ∧ s.hq.held = [] ∧ s.rm.resetAfterDown = none ∧ s.hq.unitTurns = []

/-- A new command packet starts at once: the device is READY (R393) and quiet, the header's GEN is 0 or the command takes
it (R333), the path it came by takes the command (R333, R346, R399), no earlier command with the same header is in flight,
and no rule holds the command back (R180, R334, R341). -/
def Starts (h : Hdr) (c : Cmd) (s : State) : Prop :=
  Quiet s ∧ isReady s = true ∧ (h.gen = 0 ∨ takesGen (opcodeOf c) = true) ∧ pathTakes h.src c = true ∧
  isFlight h s = false ∧ (h.src = .fw ∨ lacksRoom h c s = false) ∧
  heldBack false h c (toFlight (opcodeOf c) h s) = false ∧ (needsService c = true → noService s = false)

/-- A command ends with a final entry of status `st` and detail `d`, in a state of which `P` holds but for the entry. -/
def Ends (c : Instr) (op : Byte) (h : Hdr) (st : Status) (d : W64) (s : State) (P : State → Prop) : Prop :=
  ∃ u, exec c s = .next { complete op h st d u with pending := s.pending } ∧ P u

/-- A command is accepted and goes on, in a state of which `P` holds but for the QUEUED entry of ACK_EARLY (R340). -/
def GoesOn (c : Instr) (op : Byte) (h : Hdr) (s : State) (P : State → Prop) : Prop :=
  ∃ u, exec c s = .next { accepted op h u with pending := s.pending } ∧ P u

/-- A state with everything blanked that the delivery of an entry, a log entry or a Barker event may change, and the
model's own count of free values, which every frame of the mesh advances. -/
def apart (s : State) : State :=
  { s with
    hq := { s.hq with ha := {}, hb := {}, err := 0, cqs := [], mboxResp := [], alert := false }
    trz := { s.trz with ports := [] }
    brk := {}
    log := {}
    out := []
    free := 0 }

/-- A BAR0 access of a master reaches its register: the device is READY, or the master is Ringmaster firmware, and the
Turnstile of target 2 passes the access; or the device has not come to READY and the register is one that answers then
(R394, R405). -/
def RegOpen (m off : Nat) (write : Bool) (s : State) : Prop :=
  ((isReady s || fwMaster m) = true ∧ trnCheck s 2 m (if write then .w else .r) off 4 = .pass) ∨
  ((isReady s || fwMaster m) = false ∧ earlyReg off write = true)

/-- The same for an HQ register that a port's host accesses. -/
def PortOpen (p : Port) (off : Nat) (s : State) : Prop := RegOpen (portMaster p) (0x1B00000 + off) true s

/-- One byte of a memory; an unlisted byte reads as `d`. -/
def memByte (d : Byte) (m : Mem) (a : Nat) : Byte := spGet d m a

/-- Every byte memory of the device is in canonical form: the DRAM and the Scratchpad, where an unlisted byte reads 0; the
serial flash and the staged image, where it reads 0xFF as erased. -/
def MemoriesWf (s : State) : Prop :=
  Memory.wf 0 s.jgl.mem ∧ Memory.wf 0 s.spm.mem ∧ Memory.wf 0xFF s.fw.flash ∧ Memory.wf 0xFF s.fw.inline_

/-- Every command that waits is well formed. -/
def QueueWf (s : State) : Prop := ∀ c ∈ s.pending, c.wf = true

/-- The port, the class, the kind and the bytes of the frame that a mesh row receives. -/
def frameRow : Instr → Option (Nat × Nat × Nat × List Byte)
  | .trzAckRx p _ b => some (p, 0, kAck, b)
  | .trzNakRx p _ b => some (p, 0, kNak, b)
  | .trzCreditRx p _ _ b => some (p, 0, kCredit, b)
  | .trzSyncRx p b _ _ => some (p, 1, kSync, b)
  | .trzPdelayReqRx p b _ => some (p, 1, kPdelayReq, b)
  | .trzPdelayRespRx p b _ => some (p, 1, kPdelayResp, b)
  | .trzHelloRx p b _ _ _ => some (p, 2, kHello, b)
  | .trzProofRx p b _ => some (p, 2, kProof, b)
  | .trzHaloFragmentRx p b => some (p, 3, kFragment, b)
  | .trzHaloCancelRx p b _ => some (p, 3, kCancel, b)
  | .trzMgmtRx p b (.command _ _) => some (p, 4, kCommand, b)
  | .trzMgmtRx p b (.completion _ _ _) => some (p, 4, kCompletion, b)
  | .trzDataRequestRx p b _ _ _ _ => some (p, 5, kRequest, b)
  | .trzDataResponseRx p b _ _ => some (p, 5, kResponse, b)
  | .trzUserMsgRx p b _ _ => some (p, 6, kMessage, b)
  | .trzMsgAckRx p b _ => some (p, 6, kMsgAck, b)
  | _ => none

/-- A frame passes every check of its link (R296, R303, R305, R313, R314). -/
def FrameArrives (p cls kind : Nat) (b : List Byte) (s : State) : Prop :=
  Quiet s ∧ p < 6 ∧ meshPasses (meshPort s p).link cls = true ∧ frameCrcOk b = true ∧
  frameLseq b = (meshPort s p).rxSeq ∧ frameMacOk (meshPort s p) cls b = true ∧ frameFormOk cls kind b = true

end Sys2Proof
end

