-- ==== Sys2Proof/Certificates/Slice0/Obligations.lean ====
section
/-! DEFINITION. The statements about the machine, for the provers. -/

set_option linter.unusedVariables false

section
open Sys2Proof Sys2Proof.Machine

/-! ### The machine as a whole -/

/-- DESIGN CHOICE (log 1). The device takes the command at the front of its queue and carries it out with the rest of the
queue behind it. -/
def Obligations.StepRunsFrontCommand : Prop :=
  ∀ (c : Instr) (s : State), step { s with pending := c :: s.pending } = exec c s

/-- R316: with no command waiting one data-plane cycle goes by, in which TB1 and TB3 gain their increments. DESIGN CHOICE
(log 1). No command changes the queue of the commands that wait behind it. -/
def Obligations.IdleStepAndQueue : Prop :=
  (∀ s : State, s.pending = [] → ∃ t, step s = .next t ∧
     t.clp.cycle = s.clp.cycle + 1 ∧ t.clp.tb1 = s.clp.tb1 + tb1Inc s.clp ∧ t.clp.tb3 = s.clp.tb3 + tb3Inc s.clp ∧
     t.pending = []) ∧
  (∀ (c : Instr) (s t : State), exec c s = .next t → t.pending = s.pending)

/-- Every well-formed command gives a next state from every state: none faults and none is refused. -/
def Obligations.WellFormedCommandsRun : Prop := ∀ (c : Instr) (s : State), c.wf = true → ∃ t, exec c s = .next t

/-- R333, R339: the packet a command is written as has the opcode's LENGTH, and its header and parameters read back as
they were. -/
def Obligations.PacketsReadBack : Prop :=
  ∀ (h : Hdr) (c : Cmd), packetWf c = true → (h.gen = 0 ∨ takesGen (opcodeOf c) = true) →
    (opLength (opcodeOf c).toNat).map (4 * ·) = some (packetBytes h c).length ∧
    headHdr h.src (parseHead (packetBytes h c)) = h ∧
    parseCmd (packetBytes h c) = some c ∧
    packetCheck (packetBytes h c) = .ok c

/-- R333 steps 3 to 5: what a packet read alone is refused for, in order. -/
def Obligations.PacketChecksInOrder : Prop :=
  ∀ (b : List Byte),
    (opLength (parseHead b).opcode.toNat = none → packetCheck b = .error .unsupported) ∧
    (∀ n, opLength (parseHead b).opcode.toNat = some n →
      (parseHead b).length ≠ n → packetCheck b = .error .lengthRange) ∧
    (∀ n, opLength (parseHead b).opcode.toNat = some n → (parseHead b).length = n →
      (8 ≤ (parseHead b).flags.toNat ∨ (parseHead b).rsvd = true ∨
        ((parseHead b).gen ≠ 0 ∧ (parseHead b).opcode ≠ 0xB1 ∧ (parseHead b).opcode ≠ 0xF0)) →
      packetCheck b = .error .badParam)

/-- Every step, whether a command or an idle cycle, keeps the canonical form of every byte memory. -/
def Obligations.MemoriesStayCanonical : Prop := ∀ s t : State, MemoriesWf s → step s = .next t → MemoriesWf t

/-- The machine starts with every byte memory in canonical form, nothing waiting and no command in flight. -/
def Obligations.ResetIsCanonical : Prop :=
  MemoriesWf State.reset ∧ Quiet State.reset ∧ State.reset.pending = [] ∧ State.reset.hq.inflight = []

/-- R327, R240: the host windows. The two words of HQ_BAR4_BASE set bits 41 to 32 and bits 31 and 30 of the port's base. A
write through BAR4 goes to DRAM at the base plus the offset, and a read answers with the bytes there, once the port
has spent its tokens (R250); while it can issue nothing, nothing happens. R253: a write whose error recurs stores
nothing. R13: a BAR0 access that is not a naturally aligned dword is dropped or reads as all ones, and is logged.
R240, R252: a write inside the device's DRAM gives the bytes written and leaves every other byte as it was. -/
def Obligations.HostWindows : Prop :=
  (∀ (p : Port) (s : State), Quiet s →
     (∀ v, PortOpen p ((match p with | .ha => 0x20 | .hb => 0x28) + 4) s →
       exec (.hqBar4BaseWrite p true v) s = .next (modPort p (fun h => { h with
         bar4 := merge h.bar4 (put (fld v 9 0) 32) (put 0x3FF 32) }) s)) ∧
     (∀ v, PortOpen p (match p with | .ha => 0x20 | .hb => 0x28) s →
       exec (.hqBar4BaseWrite p false v) s = .next (modPort p (fun h => { h with
         bar4 := merge h.bar4 (put (fld v 31 30) 30) (put 3 30) }) s)) ∧
     (∀ off acc env, let k := flits ((portOf s p).bar4.toNat + off) (accLen acc)
       k ≠ 0 → regIssues (portMaster p) k s = false → exec (.bar4Access p off acc env) s = .next s) ∧
     (∀ off bs, let a := (portOf s p).bar4.toNat + off
       let k := flits a bs.length
       let u := if k = 0 then s else regSpend (portMaster p) k s
       dramInside s a bs.length = true → regIssues (portMaster p) k s = true →
       (∀ env : MemEnv, env.write = .clean → ∃ t, exec (.bar4Access p off (.write bs) env) s = .next t ∧
         (∀ i, i < bs.length → memByte 0 t.jgl.mem (a + i) = bs.getD i 0) ∧
         (∀ x, (x < a ∨ a + bs.length ≤ x) → memByte 0 t.jgl.mem x = memByte 0 s.jgl.mem x) ∧
         t = { u with jgl := { u.jgl with mem := t.jgl.mem, poisoned := t.jgl.poisoned }, pending := s.pending }) ∧
       (∀ env : MemEnv, (env.write = .lasting ∨ env.write = .bus) →
         ∃ t, exec (.bar4Access p off (.write bs) env) s = .next t ∧ t.jgl.mem = s.jgl.mem)) ∧
     (∀ off n, let a := (portOf s p).bar4.toNat + off
       let k := flits a n
       let u := if k = 0 then s else regSpend (portMaster p) k s
       dramInside s a n = true → regIssues (portMaster p) k s = true → ∀ env : MemEnv, env.reads = [] →
       exec (.bar4Access p off (.read n) env) s = .next { u with
         out := .readData (dramBytes s a n) (dramPoisoned s a n) :: u.out, pending := s.pending }) ∧
     (∀ m off len, (len ≠ 4 ∨ off % 4 ≠ 0) →
       ∃ t, exec (.bar0BadAccess m off false len) s = .next t ∧ t.out.head? = some (.readReg 0xFFFFFFFF) ∧
         apart t = apart s) ∧
     (∀ m off len, (len ≠ 4 ∨ off % 4 ≠ 0) → ∃ t, exec (.bar0BadAccess m off true len) s = .next t ∧ apart t = apart s)) ∧
  (∀ (port addr : Nat) (bs : List Byte) (s : State), dramInside s addr bs.length = true →
     (∀ i, i < bs.length → memByte 0 (dramStore port addr bs s).jgl.mem (addr + i) = bs.getD i 0) ∧
     (∀ a, (a < addr ∨ addr + bs.length ≤ a) → memByte 0 (dramStore port addr bs s).jgl.mem a = memByte 0 s.jgl.mem a) ∧
     (dramStore port addr bs s) = { s with jgl := { s.jgl with
       mem := (dramStore port addr bs s).jgl.mem, poisoned := (dramStore port addr bs s).jgl.poisoned } })

/-! ### Completions, NOP and FENCE -/

/-- R335, R336: a final entry for a submission queue's command goes to the tail of its completion queue with the command's
tag, opcode and QSEQ, the status, the detail and the queue's phase; the tail moves on, and the phase is inverted when
it wraps to entry 0. R335: an entry for a full queue is dropped: HQ_CQ_DROP counts it, HQ_CQ_STATUS.OVERFLOW and
HQ_ERR.CQ_OVERFLOW are set, and nothing is written to the ring. An entry for a DISABLED queue is dropped, counted, and
sets HQ_ERR.CQ_WRITE. R328: so is the entry of a command that was in flight when its completion queue became DISABLED,
whatever the queue is now. -/
def Obligations.CompletionEntries : Prop :=
  (∀ (op : Byte) (h : Hdr) (st : Status) (d : W64) (s : State) (q : Nat),
     h.src = .sq q → quieted h st false = false → discardedTo h s = none →
     (cqOf s (sqCq s q)).state = .active → portHolds (portOf s (cqOf s (sqCq s q)).owner) = false →
     cqFull (cqOf s (sqCq s q)) = false →
     (∃ e : Cpl, Out.completion (sqCq s q) (cqOf s (sqCq s q)).tail e ∈ (complete op h st d s).out ∧
       e.tag = h.tag ∧ e.opcode = op ∧ e.qseq = h.qseq ∧ e.status = st ∧ e.detail = d ∧ e.interim = false ∧
       e.phase = (cqOf s (sqCq s q)).phase ∧ e.time = tb3Stamp s) ∧
     (cqOf (complete op h st d s) (sqCq s q)).tail =
       ((cqOf s (sqCq s q)).tail + 1) % cqSize (cqOf s (sqCq s q)) ∧
     (cqOf (complete op h st d s) (sqCq s q)).phase =
       (if ((cqOf s (sqCq s q)).tail + 1) % cqSize (cqOf s (sqCq s q)) = 0 then !(cqOf s (sqCq s q)).phase
        else (cqOf s (sqCq s q)).phase)) ∧
  (∀ (op : Byte) (h : Hdr) (st : Status) (d : W64) (s : State) (q : Nat),
     h.src = .sq q → quieted h st false = false →
     (discardedTo h s = none → (cqOf s (sqCq s q)).state = .active →
       portHolds (portOf s (cqOf s (sqCq s q)).owner) = false → cqFull (cqOf s (sqCq s q)) = true →
       (cqOf (complete op h st d s) (sqCq s q)).drop = satAdd 32 (cqOf s (sqCq s q)).drop 1 ∧
       (cqOf (complete op h st d s) (sqCq s q)).overflow = true ∧
       (cqOf (complete op h st d s) (sqCq s q)).tail = (cqOf s (sqCq s q)).tail ∧
       bitOf (complete op h st d s).hq.err 4 = true ∧
       ∀ k i e, Out.completion k i e ∈ (complete op h st d s).out → Out.completion k i e ∈ s.out) ∧
     (discardedTo h s = none → (cqOf s (sqCq s q)).state = .disabled →
       (cqOf (complete op h st d s) (sqCq s q)).drop = satAdd 32 (cqOf s (sqCq s q)).drop 1 ∧
       bitOf (complete op h st d s).hq.err 3 = true ∧
       ∀ k i e, Out.completion k i e ∈ (complete op h st d s).out → Out.completion k i e ∈ s.out) ∧
     (∀ c, discardedTo h s = some c →
       (cqOf (complete op h st d s) c).drop = satAdd 32 (cqOf s c).drop 1 ∧
       bitOf (complete op h st d s).hq.err 3 = true ∧
       ∀ k i e, Out.completion k i e ∈ (complete op h st d s).out → Out.completion k i e ∈ s.out))

/-- Whatever command completes, its entry changes nothing but the ports and completion queues of the host interface, the
mesh ports, the interrupt sources, the log, the outputs and the model's own count of free values, and the command is
no longer in flight. -/
def Obligations.CompletionTouchesNothingElse : Prop :=
  ∀ (op : Byte) (h : Hdr) (st : Status) (d : W64) (records : List Byte) (s : State),
    completeWith op h st d records s = { s with
      hq := { s.hq with
        ha := (completeWith op h st d records s).hq.ha, hb := (completeWith op h st d records s).hq.hb
        err := (completeWith op h st d records s).hq.err, cqs := (completeWith op h st d records s).hq.cqs
        mboxResp := (completeWith op h st d records s).hq.mboxResp, alert := (completeWith op h st d records s).hq.alert
        inflight := dropFirst (fun f => f.hdr == h) s.hq.inflight }
      trz := { s.trz with ports := (completeWith op h st d records s).trz.ports }
      brk := (completeWith op h st d records s).brk
      log := (completeWith op h st d records s).log
      out := (completeWith op h st d records s).out
      free := (completeWith op h st d records s).free }

/-- R341: NOP completes OK with detail 0. FENCE with another SCOPE than 0, 1 and 2 completes with BAD_PARAM. FENCE that
finds no earlier command of its scope in flight completes OK and has waited for none; otherwise it waits for exactly
those. R341: a FENCE completes OK when the last command it waits for has completed, and its detail word carries the
number of commands it waited for. -/
def Obligations.FencesWait : Prop :=
  (∀ (h : Hdr) (s : State),
     (Starts h .nop s → Ends (.nop h) 0x01 h .ok 0 s (fun u => u = toFlight 0x01 h s)) ∧
     (∀ p : FenceP, Starts h (.fence p) s →
       let waits := (s.hq.inflight.filter fun f =>
         decide (f.id < s.hq.nextId) && inScope s h.src f.hdr.src p.scope.toNat).map (·.id)
       ((3 ≤ p.scope.toNat ∨ p.rsvd = true) → Ends (.fence h p) 0x02 h .badParam 0 s (fun u => u = toFlight 0x02 h s)) ∧
       (p.scope.toNat < 3 → p.rsvd = false → waits = [] →
         Ends (.fence h p) 0x02 h .ok 0 s (fun u => u = toFlight 0x02 h s)) ∧
       (p.scope.toNat < 3 → p.rsvd = false → waits ≠ [] →
         GoesOn (.fence h p) 0x02 h s (fun u => u = { toFlight 0x02 h s with
           hq := { (toFlight 0x02 h s).hq with fences := [⟨h, waits, waits.length⟩] } })))) ∧
  (∀ (s : State) (f : FenceWait), s.hq.fences = [f] → s.hq.held = [] → s.rm.resetAfterDown = none →
     ((∀ x ∈ s.hq.inflight, x.id ∉ f.waits) →
       settle s = complete 0x02 f.hdr .ok (put f.count 0) { s with hq := { s.hq with fences := [] } }) ∧
     ((∃ x ∈ s.hq.inflight, x.id ∈ f.waits) → settle s = s))

/-! ### Queues and ports -/

/-- R332: through the port that owns its ACTIVE queue, a submission tail doorbell below the ring size sets the tail and
changes nothing else; any other is ignored and sets HQ_ERR.DOORBELL. R335: a head doorbell moves the head no further
than the tail; any other, one not below the ring size, one for a queue that is not ACTIVE and one through another port
are ignored and set HQ_ERR.DOORBELL. -/
def Obligations.QueueDoorbells : Prop :=
  (∀ (p : Port) (q : Nat) (v : W32) (s : State), q < 1024 → Quiet s → PortOpen p (0x10000 + 8 * q) s → isReady s = true →
     ((sqOf s q).state = .active → (sqOf s q).owner = p → fld v 17 0 < sqSize (sqOf s q) →
       exec (.sqDoorbell p q v) s = .next (modSq q (fun x => { x with tail := fld v 17 0 }) s)) ∧
     (((sqOf s q).state ≠ .active ∨ (sqOf s q).owner ≠ p ∨ sqSize (sqOf s q) ≤ fld v 17 0) →
       exec (.sqDoorbell p q v) s = .next { s with hq := { s.hq with err := setBit s.hq.err 1 } })) ∧
  (∀ (p : Port) (q : Nat) (v : W32) (s : State), q < 1024 → Quiet s → PortOpen p (0x10004 + 8 * q) s → isReady s = true →
     let c := cqOf s q
     let n := cqSize c
     let i := fld v 15 0
     let takes := i < n ∧ c.state = .active ∧ c.owner = p ∧ (i + n - c.head) % n ≤ (c.tail + n - c.head) % n
     (takes → exec (.cqDoorbell p q v) s = .next (modCq q (fun c => { c with head := i }) s)) ∧
     (¬ takes → exec (.cqDoorbell p q v) s = .next { s with hq := { s.hq with err := setBit s.hq.err 1 } }))

/-- R332, R333: the queue whose turn it is gives its next packet. A packet whose LENGTH passes step 1, whose QSEQ is the
expected one and which passes the other checks is taken off the ring, and its command is taken. R333 steps 1 and 2: a
LENGTH below 4, above 4,096 or past the tail completes with LENGTH_RANGE, another QSEQ than the expected one with
BAD_PARAM; either way the queue enters ERROR and the detail word carries the ring offset. R353: so it does, without a
completion, when the host refuses the read. -/
def Obligations.PacketsAreFetched : Prop :=
  (∀ (q : Nat) (bytes : List Byte) (c : Cmd) (s : State), q < 1024 → fetchTurn s = some q →
     let x := sqOf s q
     let b := fit (4 * (parseHead bytes).length) bytes
     let hd := parseHead b
     let h := headHdr (.sq q) hd
     (4 ≤ (parseHead bytes).length ∧ (parseHead bytes).length ≤ 4096 ∧ (parseHead bytes).length ≤ sqDist x x.tail) →
     hd.qseq.toNat = x.expect → packetCheck b = .ok c → remoteId x = none →
     (lacksRoom h c s = false ∨ retimeHolds s = true) →
     ∃ u, exec (.packetFetch q (.data bytes)) s = .next { settle (takeCmd h c u) with pending := s.pending } ∧
       (x.state = .active → (sqOf u q).head = (x.head + hd.length) % sqSize x ∧
         (sqOf u q).expect = (x.expect + 1) % 65536 ∧ (sqOf u q).lastSeq = hd.qseq) ∧
       (∀ k, k ≠ q → sqOf u k = sqOf s k) ∧
       u = { s with hq := { s.hq with sqs := u.hq.sqs, rr := q } }) ∧
  (∀ (q : Nat) (bytes : List Byte) (s : State), q < 1024 → Quiet s → fetchTurn s = some q →
     let x := sqOf s q
     let n := (parseHead bytes).length
     let hd := parseHead (fit (4 * n) bytes)
     let lost (s : State) : State := modSq q (fun x => { x with state := .error }) s
     ((n < 4 ∨ 4096 < n ∨ sqDist x x.tail < n) →
       exec (.packetFetch q (.data bytes)) s = .next (refuse (parseHead bytes).opcode
         (headHdr (.sq q) (parseHead bytes)) .lengthRange (put x.head 0) (lost s))) ∧
     (4 ≤ n → n ≤ 4096 → n ≤ sqDist x x.tail → hd.qseq.toNat ≠ x.expect →
       exec (.packetFetch q (.data bytes)) s = .next (refuse hd.opcode (headHdr (.sq q) hd) .badParam (put x.head 0)
         (lost s))) ∧
     exec (.packetFetch q .refused) s = .next { lost s with hq := { (lost s).hq with err := setBit s.hq.err 0 } })

/-- R330, R331: EN set on a DISABLED queue with a valid configuration makes it ACTIVE for the port, its ring empty at
dword 0; a configuration that is not valid sets HQ_ERR.CONFIG and leaves the queue as it was. EN cleared makes an
ACTIVE queue DRAINING, its last completion makes it DISABLED, and RESET makes it DISABLED. R330, R335: a completion
queue enabled with SIZE from 4 to 16 is ACTIVE for the port at entry 0 with PHASE 1; EN cleared or RESET makes it
DISABLED; the port that does not own it changes nothing but HQ_ERR.CONFIG. -/
def Obligations.QueueStates : Prop :=
  (∀ (p : Port) (s : State), Quiet s → PortOpen p 0x54 s → isReady s = true →
     let q := s.hq.qSel
     ((sqOf s q).state = .disabled → sqValid s p q = true →
       exec (.sqEnable p) s = .next (modSq q (fun x => { x with
         state := .active, owner := p, head := 0, tail := 0, expect := 0, turn := 0 }) s)) ∧
     ((sqOf s q).state = .disabled → sqValid s p q = false →
       exec (.sqEnable p) s = .next { s with hq := { s.hq with err := setBit s.hq.err 2 } }) ∧
     ((sqOf s q).state = .active → (sqOf s q).owner = p →
       exec (.sqDisable p) s = .next (modSq q (fun x => { x with state := .draining }) s)) ∧
     ((sqOf s q).state = .active → (sqOf s q).owner ≠ p →
       exec (.sqDisable p) s = .next { s with hq := { s.hq with err := setBit s.hq.err 2 } }) ∧
     (((sqOf s q).owner = p ∨ (sqOf s q).state = .error ∨ (sqOf s q).state = .orphaned) →
       exec (.sqReset p) s = .next (modSq q (fun x => { x with state := .disabled }) s)) ∧
     (∀ k, k < 1024 → (sqOf s k).state = .draining → sqInflight s k = 0 →
       exec (.sqDrainDone k) s = .next (modSq k (fun x => { x with state := .disabled }) s))) ∧
  (∀ (p : Port) (s : State), Quiet s → PortOpen p 0x6C s → isReady s = true →
     let q := s.hq.qSel
     ((cqOf s q).state = .disabled → 4 ≤ fld (cqOf s q).cfg 4 0 → fld (cqOf s q).cfg 4 0 ≤ 16 →
       exec (.cqEnable p) s = .next (modCq q (fun c => { c with
         state := .active, owner := p, head := 0, tail := 0, phase := true, unsignalled := 0, owed := false }) s)) ∧
     ((cqOf s q).state = .active → (cqOf s q).owner = p →
       exec (.cqDisable p) s = .next (modCq q (fun c => { c with state := .disabled }) s)) ∧
     ((cqOf s q).state = .active → (cqOf s q).owner ≠ p →
       exec (.cqDisable p) s = .next { s with hq := { s.hq with err := setBit s.hq.err 2 } } ∧
       exec (.cqReset p) s = .next { s with hq := { s.hq with err := setBit s.hq.err 2 } }) ∧
     ((cqOf s q).owner = p →
       exec (.cqReset p) s = .next (modCq q (fun c => { c with state := .disabled, held := [] }) s)))

/-- R329: an ORPHANED completion queue is adopted by the other port, which becomes the owner, and the held completions are
written first; then a submission queue can be adopted: its new ring starts empty at dword 0, and numbering continues
from LAST_SEQ + 1. R331: of a queue in service such a write of the port that does not own it changes nothing but
HQ_ERR.CONFIG. R336, R337: when the oldest unsignalled entry of an ACTIVE queue is TIME old, the queue's message goes
out on its vector, its count restarts and the vector's idle hint is cleared. A write of HQ_VEC_IDLE sets the hints
written as 1. -/
def Obligations.QueuesBelongToPorts : Prop :=
  (∀ (p : Port) (s : State), Quiet s →
     let q := s.hq.qSel
     (PortOpen p 0x6C s → (cqOf s q).state = .orphaned → (cqOf s q).owner ≠ p →
       exec (.cqAdopt p) s = .next (cqRelease q (modCq q (fun c => { c with
         state := .active, owner := p, head := 0, tail := 0, phase := true, unsignalled := 0, owed := false }) s))) ∧
     (PortOpen p 0x54 s → (sqOf s q).state = .orphaned → (sqOf s q).owner ≠ p → (cqOf s (sqCq s q)).state = .active →
       (cqOf s (sqCq s q)).owner = p →
       exec (.sqAdopt p) s = .next (modSq q (fun x => { x with
         state := .active, owner := p, head := 0, tail := 0, turn := 0, expect := (x.lastSeq + 1).toNat }) s)) ∧
     (PortOpen p 0x6C s → (cqOf s q).state = .active → (cqOf s q).owner ≠ p →
       exec (.cqAdopt p) s = .next { s with hq := { s.hq with err := setBit s.hq.err 2 } }) ∧
     (PortOpen p 0x54 s → ((sqOf s q).state = .active ∨ (sqOf s q).state = .draining) → (sqOf s q).owner ≠ p →
       exec (.sqAdopt p) s = .next { s with hq := { s.hq with err := setBit s.hq.err 2 } })) ∧
  (∀ (s : State), Quiet s →
     (∀ q, q < 1024 → (cqOf s q).state = .active → portHolds (portOf s (cqOf s q).owner) = false →
       (cqOf s q).unsignalled ≠ 0 → msixMasked (portOf s (cqOf s q).owner) (fld (cqOf s q).cfg 26 16) = false →
       ∃ t, exec (.cqInterruptTimer q) s = .next t ∧
         t.out = .msix (cqOf s q).owner (fld (cqOf s q).cfg 26 16) :: s.out ∧
         (cqOf t q).unsignalled = 0 ∧ (∀ k, k ≠ q → cqOf t k = cqOf s k) ∧
         t = { s with hq := { s.hq with ha := t.hq.ha, hb := t.hq.hb, cqs := t.hq.cqs }, out := t.out }) ∧
     (∀ (n : Nat) (v : W32), n < 64 → PortOpen .ha (0x20000 + 4 * n) s →
       exec (.vecIdleWrite .ha n v) s = .next { s with hq := { s.hq with ha := { s.hq.ha with
         vecIdle := spMod 0 s.hq.ha.vecIdle n fun w => w ||| v } } }) ∧
     (∀ (n : Nat) (v : W32), n < 64 → PortOpen .hb (0x20100 + 4 * n) s →
       exec (.vecIdleWrite .hb n v) s = .next { s with hq := { s.hq with hb := { s.hq.hb with
         vecIdle := spMod 0 s.hq.hb.vecIdle n fun w => w ||| v } } }))

/-- R328: a conventional reset or an FLR of a port disables every queue the port owns, discards and counts the entries
held for them and marks the commands in flight from them, whose entries are discarded as they come, and leaves the
display, the other port and every other block as they are. R329: with HB_MODE = 1 the loss of a port's link starts the
failover timer and leaves its queues; with HB_MODE = 0 its queues are disabled. When the timer expires first every
queue the port owns is ORPHANED and HQ_ERR.FAILOVER is set; the return of the link ends the timer. R326, R330, R338: a
port's link that comes up has its speed and width, and takes back its ORPHANED queues; port HB comes up with HB_MODE =
1 only. D3hot stops fetch and entries; the return to D0 ends it. -/
def Obligations.PortsChange : Prop :=
  (∀ (p : Port) (s : State), Quiet s →
     let sq' := spUpdate {} s.hq.sqs (fun x => x.owner == p && x.state != .disabled) fun x => { x with state := .disabled }
     let cq' := spUpdate {} s.hq.cqs (fun c => c.owner == p && c.state != .disabled) fun c =>
       { c with state := .disabled, drop := satAdd 32 c.drop c.held.length, held := [] }
     let fl := s.hq.inflight.map fun f => match f.hdr.src with
       | .sq q => if (sqOf s q).owner == p && f.dropCq.isNone then { f with dropCq := some (sqCq s q) } else f
       | _ => f
     let t := { s with hq := { s.hq with sqs := sq', cqs := cq', inflight := fl } }
     (∃ h, exec (.perst p) s = .next (modPort p (fun _ => h) t) ∧
       h.linkUp = false ∧ h.busMaster = false ∧ h.d3hot = false) ∧
     (∃ h, exec (.flr p) s = .next (modPort p (fun _ => h) t) ∧
       h.linkUp = (portOf s p).linkUp ∧ h.bar4 = 0 ∧ h.vecIdle = [] ∧ h.msix = [] ∧ h.pba = [] ∧ h.busMaster = false)) ∧
  (∀ (p : Port) (s : State), Quiet s →
     (s.hq.hbMode = true → ∃ t, exec (.portLinkDown p) s = .next t ∧ (portOf t p).failover = true ∧
       (portOf t p).linkUp = false ∧ t.hq.sqs = s.hq.sqs ∧ t.hq.cqs = s.hq.cqs ∧
       t = { s with hq := { s.hq with ha := t.hq.ha, hb := t.hq.hb } }) ∧
     (s.hq.hbMode = false → ∃ t, exec (.portLinkDown p) s = .next t ∧ (portOf t p).failover = false ∧
       (portOf t p).linkUp = false ∧
       t.hq.sqs = spUpdate {} s.hq.sqs (fun x => x.owner == p && x.state != .disabled) (fun x =>
         { x with state := .disabled })) ∧
     ((portOf s p).failover = true → ∃ t, exec (.failoverTimeout p) s = .next t ∧ (portOf t p).failover = false ∧
       bitOf t.hq.err 5 = true ∧
       t.hq.sqs = spUpdate {} s.hq.sqs (fun x => x.owner == p && x.state != .disabled) (fun x =>
         { x with state := .orphaned }) ∧
       t.hq.cqs = spUpdate {} s.hq.cqs (fun c => c.owner == p && c.state != .disabled) (fun c =>
         { c with state := .orphaned })) ∧
     ((portOf s p).failover = true → ∃ t, exec (.portLinkReturn p) s = .next t ∧ (portOf t p).linkUp = true ∧
       (portOf t p).failover = false ∧ t.hq.sqs = s.hq.sqs)) ∧
  (∀ (p : Port) (s : State), Quiet s →
     (∀ sp w, (p = .ha ∨ s.hq.hbMode = true) → ∃ t, exec (.pcieLinkUp p sp w) s = .next t ∧
       (portOf t p).linkUp = true ∧ (portOf t p).speed = sp ∧ (portOf t p).width = w ∧ (portOf t p).failover = false) ∧
     (∀ sp w, p = .hb → s.hq.hbMode = false → exec (.pcieLinkUp p sp w) s = .next s) ∧
     (∀ pme, (portOf s p).linkUp = true → ∃ b,
       exec (.d3hotEntry p pme) s = .next (modPort p (fun h => { h with
         d3hot := true, l1 := b, pmeEn := pme, pmeSent := false }) s)) ∧
     ((portOf s p).d3hot = true → ∃ t, exec (.d0Return p) s = .next t ∧ (portOf t p).d3hot = false ∧
       (portOf t p).busMaster = true ∧ t.hq.sqs = s.hq.sqs))

/-! ### Scene packages and the player -/

/-- R70, R407: OPEN of an EMPTY slot, or with REPLACE of a READY or DEGRADED one that is not playing, reserves the length
rounded up to whole GiB in the lowest free run that holds it, and the slot is LOADING. With 64 slots LOADING, or with
no run large enough, it completes with NO_RESOURCE. R70, R71: DATA that the host gives and the Turnstile passes lands
in the package at ARG_A; a chunk that reaches past the package length completes with LENGTH_RANGE, and nothing is
copied. R250: the copy goes through the regulator of the port the command came by. R69, R70: CLOSE of a LOADING slot
starts its checks; their end completes it OK with FRAME_COUNT and makes the slot READY, or completes it with the
failing status and empties the slot; a line of the package that fails its retry completes it with UNCORRECTABLE (R67).
FREE returns the slot's space, but is BUSY on a slot that plays. On a slot in VERIFYING every subfunction is BUSY. -/
def Obligations.ScenesLoad : Prop :=
  (∀ (h : Hdr) (p : SceneLoadP) (s : State), Starts h (.sceneLoadOpen p) s →
     let n := p.slot.toNat
     let x := slotOf s n
     let need := (p.argA.toNat + gib - 1) / gib
     let s' := slotRelease n s
     (x.state = .empty ∨ (bitOf p.flags 0 = true ∧ (x.state = .ready ∨ x.state = .degraded) ∧ slotPlaying s n = false)) →
     p.flags.toNat < 2 → p.argA.toNat ≠ 0 → p.argA.toNat ≠ 2 ^ 64 - 1 →
     (∀ r, loadingCount s' < 64 → (storeRuns s').find? (fun r => decide (need ≤ r.2)) = some r →
       Ends (.sceneLoadOpen h p) 0x10 h .ok 0 s fun u =>
         slotOf u n = { state := .loading, base := r.1, gib := need, length := p.argA.toNat } ∧
         (∀ m, m ≠ n → slotOf u m = slotOf s m) ∧
         u = { toFlight 0x10 h s with scene := { s.scene with slots := u.scene.slots }, trn := { s.trn with live := u.trn.live } }) ∧
     ((64 ≤ loadingCount s' ∨ (storeRuns s').find? (fun r => decide (need ≤ r.2)) = none) →
       Ends (.sceneLoadOpen h p) 0x10 h .noResource 0 s fun u => u = slotRelease n (toFlight 0x10 h s))) ∧
  (∀ (h : Hdr) (p : SceneLoadP) (bs : List Byte) (s : State), Starts h (.sceneLoadData p (.data bs)) s → bs ≠ [] →
     let x := slotOf s p.slot.toNat
     let a := p.argA.toNat
     let c := p.argC.toNat
     let jp := jglPortOf s h.src
     let k := flits (slotAddr x + a) c
     x.state = .loading → x.lostMark = none → 0 < c → c ≤ 2 ^ 26 → a ≠ 2 ^ 64 - 1 →
     (x.length < a + c → Ends (.sceneLoadData h p (.data bs)) 0x10 h .lengthRange 0 s fun u => u = toFlight 0x10 h s) ∧
     (a + c ≤ x.length → a % 64 = 0 → p.argB.toNat % 64 = 0 → c % 64 = 0 → p.flags = 0 →
       trnCheck s 0 (srcMaster s h.src) .w (slotAddr x + a) c = .pass → (12 ≤ jp ∨ regIssues jp k s = true) →
       Ends (.sceneLoadData h p (.data bs)) 0x10 h .ok 0 s fun u =>
         u = dramStore jp (slotAddr x + a) (fit c bs)
           (if 12 ≤ jp then toFlight 0x10 h s else regDrain jp k (toFlight 0x10 h s)))) ∧
  (∀ (h : Hdr) (p : SceneLoadP) (s : State),
     let n := p.slot.toNat
     let x := slotOf s n
     (Starts h (.sceneLoadClose p) s → p.flags = 0 → x.state = .loading → x.lostMark = none →
       GoesOn (.sceneLoadClose h p) 0x10 h s fun u =>
         slotOf u n = { x with state := .verifying, closing := some h } ∧ (∀ m, m ≠ n → slotOf u m = slotOf s m)) ∧
     (Quiet s → x.state = .verifying → x.closing = some h → dramPoisoned s (slotAddr x) x.length = false →
       (pkgCheck (pkgReader s x) (dramReader s) (handleAt s) x.length = none →
         let hd := parseHdr (pkgReader s x 0 256)
         exec (.sceneVerifyDone n []) s = .next (complete 0x10 h .ok (put hd.frames 0)
           (modSlot n (fun x => { x with closing := none, frames := hd.frames, hdr := some hd, state := .ready }) s))) ∧
       (∀ st d, pkgCheck (pkgReader s x) (dramReader s) (handleAt s) x.length = some (st, d) →
         exec (.sceneVerifyDone n []) s = .next (complete 0x10 h st d (slotRelease n s)))) ∧
     (∀ failed, Quiet s → x.state = .verifying → x.closing = some h →
       (∃ l ∈ failed, slotAddr x < 64 * l + 64 ∧ 64 * l < slotAddr x + x.length) →
       exec (.sceneVerifyDone n failed) s =
         .next (complete 0x10 h .uncorrectable 0 (slotRelease n (verifyReads x failed s)))) ∧
     (Starts h (.sceneLoadFree p) s → p.flags = 0 → x.state ≠ .verifying → slotPlaying s n = false →
       Ends (.sceneLoadFree h p) 0x10 h .ok 0 s fun u => u = slotRelease n (toFlight 0x10 h s)) ∧
     (Starts h (.sceneLoadFree p) s → p.flags = 0 → x.state ≠ .verifying → slotPlaying s n = true →
       Ends (.sceneLoadFree h p) 0x10 h .busy 0 s fun u => u = toFlight 0x10 h s) ∧
     (Starts h (.sceneLoadFree p) s → x.state = .verifying →
       Ends (.sceneLoadFree h p) 0x10 h .busy 0 s fun u => u = toFlight 0x10 h s))

/-- R74 to R76, R216: SCENE_PLAY of a READY slot on an IDLE player starts the player at START_FRAME with its counters at
0; while the panel is not ON or a streamed frame waits it completes with BUSY, and a DEGRADED slot gives DEGRADED with
the first lost offset (R79). R76: SCENE_STOP and SCENE_SEEK of the scene that plays wait for the next selection;
SCENE_STOP of another slot completes OK with no effect. R174: a scene's frame that is due is an exit cause of a hold
extension, as they are. -/
def Obligations.ScenesPlay : Prop :=
  (∀ (h : Hdr) (p : ScenePlayP) (s : State), Starts h (.scenePlay p) s → p.rsvd = false → p.flags.toNat < 4 →
     ((s.pwr.state ≠ .on ∨ streamPending s = true) →
       Ends (.scenePlay h p) 0x11 h .busy 0 s fun u => u = toFlight 0x11 h s) ∧
     (s.pwr.state = .on → streamPending s = false → s.scene.player.state = .idle → s.scene.player.seeking = none →
       (slotOf s p.slot.toNat).state = .ready → (bitOf p.flags 1 = true → timeOk p.time = true) →
       p.frame.toNat < (slotOf s p.slot.toNat).frames → pkgPlayable s (slotHdr s p.slot.toNat) = true →
       Ends (.scenePlay h p) 0x11 h .ok 0 s fun u =>
         (u.scene.player.state = .playing ∨ u.scene.player.state = .armed) ∧
         u.scene.player.slot = p.slot.toNat ∧ u.scene.player.startFrame = p.frame.toNat ∧
         u.scene.player.loop = bitOf p.flags 0 ∧ u.scene.player.shown = 0 ∧ u.scene.player.late = 0 ∧
         u.scene.player.origin = (if bitOf p.flags 1 then some (timeQ p.time) else none) ∧
         u = { toFlight 0x11 h s with scene := { s.scene with player := u.scene.player }, scn := u.scn }) ∧
     (s.pwr.state = .on → streamPending s = false → s.scene.player.state = .idle →
       (slotOf s p.slot.toNat).state ≠ .ready → (slotOf s p.slot.toNat).state ≠ .degraded →
       Ends (.scenePlay h p) 0x11 h .badParam 0 s fun u => u = toFlight 0x11 h s) ∧
     (∀ a b, s.pwr.state = .on → streamPending s = false → s.scene.player.state = .idle →
       (slotOf s p.slot.toNat).state = .degraded → (slotOf s p.slot.toNat).lost = some (a, b) →
       Ends (.scenePlay h p) 0x11 h .degraded (put a 0) s fun u => u = toFlight 0x11 h s)) ∧
  (∀ (h : Hdr) (s : State),
     (∀ p : SceneStopP, Starts h (.sceneStop p) s → p.rsvd = false → p.flags.toNat < 2 →
       (slotPlaying s p.slot.toNat = false → Ends (.sceneStop h p) 0x12 h .ok 0 s fun u => u = toFlight 0x12 h s) ∧
       (slotPlaying s p.slot.toNat = true → GoesOn (.sceneStop h p) 0x12 h s fun u =>
         u.scene = { s.scene with player := { s.scene.player with
           stopping := s.scene.player.stopping ++ [(h, bitOf p.flags 0)] } } ∧
         u = { toFlight 0x12 h s with scene := u.scene, scn := u.scn })) ∧
     (∀ p : ScenePlayP, Starts h (.sceneSeek p) s → p.rsvd = false → p.flags.toNat < 4 → bitOf p.flags 0 = false →
       (s.pwr.state ≠ .on → Ends (.sceneSeek h p) 0x13 h .busy 0 s fun u => u = toFlight 0x13 h s) ∧
       (s.pwr.state = .on → slotPlaying s p.slot.toNat = true → (bitOf p.flags 1 = true → timeOk p.time = true) →
         p.frame.toNat < (slotOf s p.slot.toNat).frames → s.scene.player.seeking = none →
         GoesOn (.sceneSeek h p) 0x13 h s fun u =>
           u.scene = { s.scene with player := { s.scene.player with
             seeking := some (h, p.frame.toNat, if bitOf p.flags 1 then some (timeQ p.time) else none) } } ∧
           u = { toFlight 0x13 h s with scene := u.scene, scn := u.scn })) ∧
     (Quiet s → (s.scene.player.state = .armed ∨ s.scene.player.state = .playing) → s.scn.exitCause = none →
       s.scn.state = .run → s.scn.inExtension = false →
       exec .sceneFrameDue s = .next { s with scn := { s.scn with exitCause := some 3 } }))

/-! ### Streamed frames, layers, commits and timing -/

/-- R72, R73: a FRAME_SUBMIT with every parameter in range, while the panel is ON and no scene plays, takes a free staging
slot; the frame lands there from HOST_ADDR. R216, R74: otherwise, with the parameters in range, it completes with
BUSY. R73, R353: a record that the host refuses or poisons retires its frame with ACCESS or UNCORRECTABLE. A record
without a target whose bounds pass is written to its staging slot, and the frame is PENDING. -/
def Obligations.FramesStream : Prop :=
  (∀ (h : Hdr) (p : FrameSubmitP) (s : State), Starts h (.frameSubmit p) s → p.recLength.toNat ≠ 0 →
     p.recLength.toNat ≤ stagingSize → p.hostAddr.toNat % 64 = 0 → p.rsvd = false → p.flags.toNat < 2 →
     (bitOf p.flags 0 = true → timeOk p.target = true) →
     ((s.pwr.state ≠ .on ∨ s.scene.player.state = .armed ∨ s.scene.player.state = .playing) →
       Ends (.frameSubmit h p) 0x14 h .busy 0 s fun u => u = toFlight 0x14 h s) ∧
     (∀ k, s.pwr.state = .on → s.scene.player.state ≠ .armed → s.scene.player.state ≠ .playing → freeStaging s = some k →
       ∃ u f, exec (.frameSubmit h p) s = .next { askHost h (.frameSubmit p) (accepted 0x14 h u) with pending := s.pending } ∧
         u = { toFlight 0x14 h s with scene := { s.scene with
           frames := s.scene.frames ++ [f], nextFrame := s.scene.nextFrame + 1 } } ∧
         f.state = .landing ∧ f.origin = .stream h k ∧ f.id = s.scene.nextFrame ∧ f.room = p.recLength.toNat ∧
         f.target = (if bitOf p.flags 0 then some (timeQ p.target) else none))) ∧
  (∀ (k : Nat) (h : Hdr) (f : Frame) (s : State), k < 4 → Quiet s →
     s.scene.frames.find? (fun f => f.state == .landing && (match f.origin with | .stream _ j => j == k | _ => false)) = some f →
     f.origin = .stream h k →
     exec (.streamedFrameLanded k .refused) s = .next (complete 0x14 h .access 0 (retireFrame f s)) ∧
     exec (.streamedFrameLanded k .poisoned) s = .next (complete 0x14 h .uncorrectable 0 (retireFrame f s)) ∧
     (∀ bs, let jp := jglPortOf s h.src
       let n := flits (stagingAddr k) f.room
       trnCheck s 0 (srcMaster s h.src) .w (stagingAddr k) f.room = .pass → f.target = none →
       (12 ≤ jp ∨ n = 0 ∨ regIssues jp n s = true) →
       let s2 := dramStore jp (stagingAddr k) (fit f.room bs) (if 12 ≤ jp ∨ n = 0 then s else regDrain jp n s)
       let c := frameCtx false s2 f
       frameBounds c = none →
       exec (.streamedFrameLanded k (.data bs)) s = .next (holdExit 1 (modFrame f.id (fun _ => { f with
         state := .pending, length := (parseEntry c.entry).length, dataOk := !dataCrcBad c }) s2))))

/-- R168: a COMMIT waits for its window, the first one or the first at or after TARGET, and applies nothing before. R122,
R123: a LAYER_SET that passes its checks waits for the next commit window and changes nothing before: it gives its
slot back to package control, disables it, or shows the registered surface. One slot above 7 or one unknown handle
completes with BAD_PARAM, a surface header that fails a check with that check's status (R119). -/
def Obligations.CommitsAndLayersWait : Prop :=
  (∀ (h : Hdr) (p : CommitP) (s : State), Starts h (.commit p) s → p.rsvd = false → p.flags.toNat < 2 →
     (bitOf p.flags 0 = false → GoesOn (.commit h p) 0x31 h s fun u =>
       u.scn.commits = s.scn.commits ++ [⟨h, none, false⟩] ∧ u = { toFlight 0x31 h s with scn := u.scn }) ∧
     (bitOf p.flags 0 = true → timeOk p.target = true → (s.scn.state = .stopped ∨ lastTb0 s < timeQ p.target) →
       GoesOn (.commit h p) 0x31 h s fun u =>
         u.scn.commits = s.scn.commits ++ [⟨h, some (timeQ p.target), false⟩] ∧ u = { toFlight 0x31 h s with scn := u.scn }) ∧
     (bitOf p.flags 0 = true → timeOk p.target = false →
       Ends (.commit h p) 0x31 h .badParam 0 s fun u => u = toFlight 0x31 h s)) ∧
  (∀ (h : Hdr) (p : LayerSetP) (s : State), Starts h (.layerSet p) s → p.rsvd = false → p.flags.toNat < 4 →
     let n := p.slot.toNat
     let waits (release : Bool) (o : Option OvlShow) : Prop := GoesOn (.layerSet h p) 0x30 h s fun u =>
       u.clr = { s.clr with layers := s.clr.layers ++ [⟨h, n, release, o⟩] } ∧
       u = { toFlight 0x30 h s with clr := u.clr, scn := u.scn }
     (8 ≤ n → Ends (.layerSet h p) 0x30 h .badParam 0 s fun u => u = toFlight 0x30 h s) ∧
     (n < 8 → (∀ l ∈ s.clr.layers, l.slot ≠ n) →
       (bitOf p.flags 1 = true → waits true none) ∧
       (bitOf p.flags 1 = false → bitOf p.flags 0 = false → waits false none) ∧
       (bitOf p.flags 1 = false → bitOf p.flags 0 = true → -1024 ≤ sext 16 p.disparity.toNat →
         sext 16 p.disparity.toNat ≤ 1024 → ∀ i hd, handleIndex s p.surface.toNat = some i → layerSurf s i = some (hd, none) →
         waits false (some ⟨n, sext 16 p.disparity.toNat, sext 16 p.posX.toNat, sext 16 p.posY.toNat, hd, some i⟩)) ∧
       (bitOf p.flags 1 = false → bitOf p.flags 0 = true → -1024 ≤ sext 16 p.disparity.toNat →
         sext 16 p.disparity.toNat ≤ 1024 → ∀ i hd st d, handleIndex s p.surface.toNat = some i →
         layerSurf s i = some (hd, some (st, d)) →
         Ends (.layerSet h p) 0x30 h st d s fun u => u = toFlight 0x30 h s)) ∧
     (bitOf p.flags 1 = false → bitOf p.flags 0 = true → handleIndex s p.surface.toNat = none →
       Ends (.layerSet h p) 0x30 h .badParam 0 s fun u => u = toFlight 0x30 h s))

/-- R31, R163: TIMING_SET completes with BAD_PARAM and changes nothing when it names a rate above the mode's maximum, a
rate that R163 does not permit, a hogel grid larger than 4096 × 2160, or a combination beyond RAY_BUDGET. -/
def Obligations.TimingOutOfRangeIsRefused : Prop :=
  ∀ (h : Hdr) (p : TimingSetP) (s : State), Starts h (.timingSet p) s →
    let m := p.mode.toNat
    let num := p.rateNum.toNat
    let den := p.rateDen.toNat
    let permitted := (den = 1 ∧ 24 ≤ num ∧ num ≤ maxRate m) ∨
      (den = 1001 ∧ num % 1000 = 0 ∧ 24 ≤ num / 1000 ∧ num / 1000 ≤ maxRate m)
    (¬ permitted ∨ 4096 < p.hx.toNat ∨ 2160 < p.hy.toNat ∨
      rayBudget * den < p.hx.toNat * p.hy.toNat * (modeUV m).1 * (modeUV m).2 * num) →
    Ends (.timingSet h p) 0x38 h .badParam 0 s fun u => u = toFlight 0x38 h s

/-- R177: a TIMING_SET within range completes with BUSY while the player is not IDLE, OK with no effect when it equals the
timing in force, and, while the raster is STOPPED, OK with its timing recorded; on a running raster a change of rate
alone waits for its time and the raster goes on. -/
def Obligations.TimingIsSet : Prop :=
  ∀ (h : Hdr) (p : TimingSetP) (s : State), Starts h (.timingSet p) s → p.rsvd = false → p.flags.toNat < 2 →
    timingOk s.th.restricted (timingOf p) = true → (bitOf p.flags 0 = true → timeOk p.target = true) →
    (s.scene.player.state ≠ .idle → Ends (.timingSet h p) 0x38 h .busy 0 s fun u => u = toFlight 0x38 h s) ∧
    (s.scene.player.state = .idle → curTiming s = some (timingOf p) →
      Ends (.timingSet h p) 0x38 h .ok 0 s fun u => u = toFlight 0x38 h s) ∧
    (s.scene.player.state = .idle → curTiming s ≠ some (timingOf p) → s.scn.state = .stopped →
      Ends (.timingSet h p) 0x38 h .ok 0 s fun u => u.scn.timing = some (timingOf p) ∧
        u = { toFlight 0x38 h s with scn := u.scn, crsl := u.crsl }) ∧
    (s.scene.player.state = .idle → curTiming s ≠ some (timingOf p) → s.scn.state ≠ .stopped →
      timingSeamless s (timingOf p) = true →
      GoesOn (.timingSet h p) 0x38 h s fun u => u.scn.jobs = s.scn.jobs ++
          [⟨h, timingOf p, if bitOf p.flags 0 then some (timeQ p.target) else none, true, false⟩] ∧
        u = { toFlight 0x38 h s with scn := u.scn })

/-! ### Waveforms -/

/-- R155, R156: an UPDATE_REGION within the grid takes a free request slot and enters the queues at the next tick; with
CRSL_CTRL.EN = 0 it completes with UNSUPPORTED, and with no free slot with NO_RESOURCE. R156: when TIMEOUT ticks have
passed while the region of a host's one-region request is still queued, the region's queue entry is cleared, and the
request completes with TIMEOUT, none finished and one not finished, and frees its slot. -/
def Obligations.RegionRequests : Prop :=
  (∀ (h : Hdr) (p : UpdateRegionP) (t : Timing) (s : State), Starts h (.updateRegion p) s → curTiming s = some t →
     p.w.toNat ≠ 0 → p.h.toNat ≠ 0 → p.rx.toNat + p.w.toNat ≤ regionsX t.hx → p.ry.toNat + p.h.toNat ≤ regionsY t.hy →
     p.rx.toNat < 0xFFFF → p.ry.toNat < 0xFFFF → p.w.toNat < 0xFFFF → p.h.toNat < 0xFFFF →
     p.rsvd = false → p.flags.toNat < 2 → (p.kind = 1 ∨ p.kind = 2) →
     (crslEn s = false → Ends (.updateRegion h p) 0x40 h .unsupported 0 s fun u => u = toFlight 0x40 h s) ∧
     (crslEn s = true → freeReqSlot s = none →
       Ends (.updateRegion h p) 0x40 h .noResource 0 s fun u => u = toFlight 0x40 h s) ∧
     (∀ k, crslEn s = true → freeReqSlot s = some k → GoesOn (.updateRegion h p) 0x40 h s fun u =>
       (∃ q, u.crsl = { s.crsl with reqs := putAt s.crsl.reqs k q, newReqs := s.crsl.newReqs ++ [k] } ∧
         q.by_ = .host h ∧ q.rx = p.rx.toNat ∧ q.ry = p.ry.toNat ∧ q.w = p.w.toNat ∧ q.h = p.h.toNat ∧
         q.kind = (if p.kind = 1 then .clear else .wear) ∧ q.preempt = bitOf p.flags 0 ∧ q.timeout = p.timeout.toNat) ∧
       u = { toFlight 0x40 h s with crsl := u.crsl, scn := u.scn })) ∧
  (∀ (k : Nat) (q : RegionReq) (h : Hdr) (kind : WKind) (s : State), k < 16 → Quiet s → lkp s.crsl.reqs k = some q →
     reqExpired q = true → q.w = 1 → q.h = 1 → q.entered = true → q.finished = 0 → q.notFinished = 0 → q.by_ = .host h →
     let r := q.ry * 512 + q.rx
     (regionOf s r).queued = some (kind, k) →
     exec (.regionRequestTimeout k) s = .next (complete 0x40 h .timeout (put 1 32) { s with crsl := { s.crsl with
       regions := spSet {} s.crsl.regions r { regionOf s r with queued := none }, reqs := delAt s.crsl.reqs k } }))

/-- R158, R159: a WAVEFORM_LOAD of the image's length is read from the host; another length completes with LENGTH_RANGE,
and a second one while one is pending with BUSY. An image that passes its checks is written to the backing copy and
the two spare copies and waits for the next tick; a failure completes with INTEGRITY and the first failing offset, and
leaves the active table and both spares unchanged. R148: a spare copy rewritten holds the backing copy's bytes. That a
rewrite of the active copy waits for a tick is the model's reading, and the backing copy's address is its choice (log
entry 135). -/
def Obligations.WaveformIsLoaded : Prop :=
  ∀ (h : Hdr) (s : State),
    (∀ p : WaveformLoadP, Starts h (.waveformLoad p) s →
      (p.length.toNat ≠ 0 → p.length.toNat ≠ imageLen →
        Ends (.waveformLoad h p) 0x41 h .lengthRange 0 s fun u => u = toFlight 0x41 h s) ∧
      (p.length.toNat = imageLen → p.hostAddr.toNat % 64 = 0 → p.rsvd = false →
        ((s.crsl.loading.isSome ∨ s.crsl.loaded.isSome) →
          Ends (.waveformLoad h p) 0x41 h .busy 0 s fun u => u = toFlight 0x41 h s) ∧
        (s.crsl.loading = none → s.crsl.loaded = none →
          ∃ u, exec (.waveformLoad h p) s =
              .next { askHost h (.waveformLoad p) (accepted 0x41 h u) with pending := s.pending } ∧
            u.crsl = { s.crsl with loading := some h } ∧
            u = { toFlight 0x41 h s with crsl := u.crsl, scn := u.scn }))) ∧
    (∀ bs, Quiet s → s.crsl.loading = some h →
      let img := fit imageLen bs
      let a := s.crsl.activeCopy
      (∀ off, imageBad img = some off → exec (.waveformCheckDone (.data bs)) s =
        .next (complete 0x41 h .integrity (put off 0)
          (dramStore portRm waveBacking img { s with crsl := { s.crsl with loading := none } }))) ∧
      (imageBad img = none → dramInside s waveBacking imageLen = true → s.spm.map = [] → s.spm.bringIn = none →
        (∀ b, b < 512 → (bankOf s b).power ≠ .off) → ∃ t, exec (.waveformCheckDone (.data bs)) s = .next t ∧
        (∀ off, off < imageLen → waveCell t ((a + 1) % 3) off = some (img.getD off 0) ∧
          waveCell t ((a + 2) % 3) off = some (img.getD off 0) ∧ (a < 3 → waveCell t a off = waveCell s a off) ∧
          memByte 0 t.jgl.mem (waveBacking + off) = img.getD off 0) ∧
        t.crsl = { s.crsl with loaded := some h, loading := none } ∧
        t = { s with crsl := t.crsl, spm := t.spm, jgl := t.jgl })) ∧
    (∀ n, n < 3 → Quiet s → s.crsl.rewrite.contains n = true →
      let c := { s.crsl with rewrite := s.crsl.rewrite.erase n }
      (n = s.crsl.activeCopy →
        exec (.crslTblRewriteDone n) s = .next { s with crsl := { c with redone := true } }) ∧
      (n ≠ s.crsl.activeCopy → s.spm.map = [] → s.spm.bringIn = none → (∀ b, b < 512 → (bankOf s b).power ≠ .off) →
        ∃ t, exec (.crslTblRewriteDone n) s = .next t ∧
        (∀ off, off < imageLen → waveCell t n off = some (memByte 0 s.jgl.mem (waveBacking + off)) ∧
          ∀ k, k < 3 → k ≠ n → waveCell t k off = waveCell s k off) ∧
        t.crsl = c ∧ t = { s with crsl := t.crsl, spm := t.spm }))

/-! ### The Sideshow -/

/-- R282, R287, R292: a Sideshow command that passes its checks enters its channel. On an IDLE channel of its own with no
other work waiting, one that is not armed and not staged runs at once, one with ARM waits ARMED, and an empty
rectangle completes OK. A command for channel 0 or 1 that does not come from firmware completes with ACCESS, before
any other check, and with SHW_CTRL.EN = 0 a command completes with UNSUPPORTED. R289, R292: a staged command whose
source reads all pass goes on to RUNNING with its source in the work space, and the next staged command may stage. A
write of SHW_CH_CTRL.ABORT ends the head command of the selected channel with ABORTED and the rows written; clearing
SHW_CTRL.EN leaves queued and running commands as they are. -/
def Obligations.BlitsWaitAndStage : Prop :=
  (∀ (h : Hdr) (p : BlitP) (s : State),
     let n := p.chan.toNat
     let enters (i : Instr) (kind : BlitKind) (c : Cmd) : Prop := Starts h c s →
       (h.src ≠ .fw → n < 2 → Ends i (blitOp kind) h .access 0 s fun u => u = toFlight (blitOp kind) h s) ∧
       ((h.src = .fw ∨ 2 ≤ n) → bitOf s.shw.ctrl 0 = false →
         Ends i (blitOp kind) h .unsupported 0 s fun u => u = toFlight (blitOp kind) h s) ∧
       (blitRefusal kind h p s = none → (∀ k, k < 8 → (chanShw s k).state ≠ .waiting ∧
           ((chanShw s k).state = .idle → (chanShw s k).fifo = [])) → (chanShw s n).state = .idle →
         let b := blitOf kind h p s
         (b.empty = false → bitOf p.flags 2 = false → staged b = false →
           GoesOn i (blitOp kind) h s fun u => chanShw u n = { chanShw s n with state := .running, fifo := [b] } ∧
             (∀ k, k ≠ n → chanShw u k = chanShw s k) ∧
             u = { toFlight (blitOp kind) h s with shw := { s.shw with chans := u.shw.chans } }) ∧
         (b.empty = false → bitOf p.flags 2 = true →
           GoesOn i (blitOp kind) h s fun u => chanShw u n = { chanShw s n with state := .armed, fifo := [b] } ∧
             (∀ k, k ≠ n → chanShw u k = chanShw s k) ∧
             u = { toFlight (blitOp kind) h s with shw := { s.shw with chans := u.shw.chans } }))
     enters (.blitFill h p) .fill (.blitFill p) ∧ enters (.blitCopy h p) .copy (.blitCopy p) ∧
       enters (.blitConvert h p) .convert (.blitConvert p)) ∧
  (∀ (s : State), Quiet s →
     (∀ c b rest k env s1, c < 8 → (chanShw s c).state = .staging → (chanShw s c).fifo = b :: rest →
       (chanShw s c).area = some k →
       let n := b.p.width.toNat * b.p.height.toNat * blitSize b.p.srcFmt.toNat / 64 * (if srcSpm b then 1 else 2) + 1
       let s0 := regDrain 8 n s
       regIssues 8 n s = true →
       stageReads c k b ((List.range b.p.height.toNat).flatMap fun y => (List.range (rowBursts b)).map fun j => (y, j))
         env.reads env.write (if srcSpm b then spmBusy env.busy s0 else s0) = (none, s1) →
       exec (.shwStagingDone c env) s = .next { chansKick (modCh c (fun x => { x with state := .running })
         { s1 with shw := { s1.shw with staging := none } }) with pending := s.pending }) ∧
     (∀ m b, RegOpen m 0x1600024 true s → (2 ≤ s.shw.chSel ∨ fwMaster m = true) →
       (chanShw s s.shw.chSel).state ≠ .idle → (chanShw s s.shw.chSel).fifo = [b] →
       (∀ k, k < 8 → k ≠ s.shw.chSel → (chanShw s k).state ≠ .waiting ∧
         ((chanShw s k).state = .idle → (chanShw s k).fifo = [])) →
       ∃ u, exec (.shwChAbort m) s = .next (complete (blitOp b.kind) b.hdr .aborted (put (chanShw s s.shw.chSel).rows 0) u) ∧
         (chanShw u s.shw.chSel).state = .idle ∧ (chanShw u s.shw.chSel).fifo = [] ∧ bitOf u.shw.err 3 = true ∧
         u = { s with shw := u.shw }) ∧
     (∀ m, RegOpen m 0x1600004 true s →
       exec (.shwDisable m) s = .next { s with shw := { s.shw with ctrl := clrBit s.shw.ctrl 0 } }))

/-- R283, R285, R287: a burst of a fill to DRAM that its submitter may write puts the fill element into each of its
elements, in the order of R288, and leaves every other byte as it was; the burst count goes up, and the channel's dead
time begins. It is issued once the dead time before it has passed, its turn in the round robin has come and port 8 has
spent the tokens (R250). -/
def Obligations.FillBurstIsWritten : Prop :=
  ∀ (c : Nat) (b : Blit) (rest : List Blit) (env : MemEnv) (s : State), c < 8 → Quiet s →
    (chanShw s c).state = .running → (chanShw s c).fifo = b :: rest → b.kind = .fill → dstSpm b = false →
    (∀ k, k < 8 → (chanShw s k).state ≠ .waiting ∧ ((chanShw s k).state = .idle → (chanShw s k).fifo = [])) →
    env.write = .clean → (chanShw s c).burst + 1 < rowBursts b → (chanShw s c).rows < b.p.height.toNat →
    let span := burstSpan b (chanShw s c).burst
    let addr := dstAt b.p span.1 (rowOf b (chanShw s c).rows)
    let bytes := (List.range span.2).flatMap fun _ => leBytes (blitSize b.p.dstFmt.toNat) b.p.src.toNat
    let s0 := deadPass c s
    let k := flits addr bytes.length
    let s1 := if k = 0 then s0 else regSpend 8 k s0
    burstTurn c s0 = true → regIssues 8 k s0 = true →
    trnCheck s 0 b.master .w addr bytes.length = .pass → dramInside s addr bytes.length = true →
    ∃ t, exec (.shwBurstDone c env) s = .next t ∧
      (∀ i, i < bytes.length → memByte 0 t.jgl.mem (addr + i) = bytes.getD i 0) ∧
      (∀ a, (a < addr ∨ addr + bytes.length ≤ a) → memByte 0 t.jgl.mem a = memByte 0 s.jgl.mem a) ∧
      chanShw t c = { chanShw s c with
        burst := (chanShw s c).burst + 1, readyAt := fabricCycles s1.clp.cycle + (chanShw s c).dead } ∧
      (∀ k, k ≠ c → chanShw t k = chanShw s k) ∧
      t = { s1 with
        shw := { s1.shw with chans := t.shw.chans, lastBurst := c }
        jgl := { s1.jgl with mem := t.jgl.mem, poisoned := t.jgl.poisoned }
        pending := s.pending }

/-- R181, R290: an enabled watermark within the raster fires once in a tick, when its point has come: its bit in
SCN_WM_STATUS is set and its Barker source raised. One that falls after an underrun in the same tick does not fire,
and its MISSED bit is set instead. -/
def Obligations.WatermarkFires : Prop :=
  ∀ (n : Nat) (t : Timing) (s : State), n < 8 → Quiet s → s.scn.inForce = some t → bitOf (wmOf s n) 31 = true →
    fld (wmOf s n) 16 0 < linesVt t → s.scn.wmDone.contains n = false →
    (s.scn.state = .run → wmReached t (wmOf s n) s = true → bitOf (wmOf s n) 18 = false → exec (.watermarkFire n) s = .next (brkEvent (512 + n)
      { s with scn := { s.scn with wmFired := s.scn.wmFired ||| 2 ^ n, wmDone := n :: s.scn.wmDone } })) ∧
    (s.scn.state = .run → wmReached t (wmOf s n) s = false → exec (.watermarkFire n) s = .next s) ∧
    (s.scn.state = .aborted → s.scn.line ≤ fld (wmOf s n) 16 0 → exec (.watermarkFire n) s = .next
      { s with scn := { s.scn with wmMissed := s.scn.wmMissed ||| 2 ^ n, wmDone := n :: s.scn.wmDone } })

/-! ### The Contortionist -/

/-- R276, R277: a job within its ranges on a context that is not RUNNING starts: with FIRST on a new stream, with RESUME
on the SUSPENDED one. A job naming a RUNNING context completes with BUSY; one without FIRST or RESUME on an IDLE or
ERROR context, and RESUME on a context that is not SUSPENDED, complete with BAD_PARAM. R281: a job that completes as
it is accepted is counted; that its status is also the last of a context that does not run is deduced (log entry 155).
R277, R278: a job whose source access is refused completes with the refusal, and its context goes to ERROR with
nothing consumed and nothing produced; a poisoned source completes it with UNCORRECTABLE. A decode of a header that
does not check completes with INTEGRITY. R250: the job's DRAM traffic goes through port 9. R274, R278: a decode job
whose source is shorter than the stream's header consumes nothing and produces nothing: it completes OK and the stream
stays open, or with LAST completes with INTEGRITY and the context goes to ERROR. -/
def Obligations.CoderJobs : Prop :=
  (∀ (h : Hdr) (p : CtnJobP) (s : State), bitOf s.ctn.ctrl 0 = true → jobRangeBad s p = false →
     let c := p.ctx.toNat
     let x := ctxOf s c
     let counted (decode : Bool) : State := { toFlight (jobOp decode) h s with ctn := { s.ctn with
       jobCount := satAdd 32 s.ctn.jobCount 1 } }
     let bad (decode : Bool) : State := modCtx c (fun x => { x with lastStatus := statusCode .badParam }) (counted decode)
     let job (decode : Bool) (i : Instr) (cmd : Cmd) : Prop := Starts h cmd s → jobParamBad decode p = false →
       (x.state = .running → Ends i (jobOp decode) h .busy 0 s fun u => u = counted decode) ∧
       (x.state ≠ .running →
         (jobFirst p = false → jobResume p = false → (x.state = .idle ∨ x.state = .error) →
           Ends i (jobOp decode) h .badParam 0 s fun u => u = bad decode) ∧
         (jobResume p = true → x.state ≠ .suspended →
           Ends i (jobOp decode) h .badParam 0 s fun u => u = bad decode) ∧
         (jobFirst p = true → jobResume p = false → p.srcLen.toNat ≠ 0 → GoesOn i (jobOp decode) h s fun u =>
           (ctxOf u c).state = .running ∧ (ctxOf u c).coder = p.coder.toNat ∧ (ctxOf u c).dir = decode ∧
           (ctxOf u c).srcNext = p.srcAddr.toNat ∧ (ctxOf u c).srcLeft = p.srcLen.toNat ∧ (ctxOf u c).history = [] ∧
           (ctxOf u c).job = some (h, p, srcMaster s h.src) ∧ (∀ k, k ≠ c → ctxOf u k = ctxOf s k) ∧
           u = { toFlight (jobOp decode) h s with ctn := { s.ctn with ctxs := u.ctn.ctxs } }) ∧
         (jobResume p = true → jobFirst p = false → x.state = .suspended → x.dir = decode →
           GoesOn i (jobOp decode) h s fun u => ctxOf u c = { x with state := .running, job := some (h, p, srcMaster s h.src) } ∧
             (∀ k, k ≠ c → ctxOf u k = ctxOf s k) ∧
             u = { toFlight (jobOp decode) h s with ctn := { s.ctn with ctxs := u.ctn.ctxs } }))
     job false (.ctnEncode h p) (.ctnEncode p) ∧ job true (.ctnDecode h p) (.ctnDecode p)) ∧
  (∀ (c m : Nat) (h : Hdr) (p : CtnJobP) (env : MemEnv) (s : State), c < 64 → Quiet s → (ctxOf s c).state = .running →
     (ctxOf s c).job = some (h, p, m) → jobSrcSpm p = false → env.reads = [] →
     let x := ctxOf s c
     let n := flits x.srcNext x.srcLeft + if jobDstSpm p then 0 else 1
     (n = 0 ∨ regIssues 9 n s = true) →
     let failed (st : Status) : Ctx := { x with state := .error, job := none, lastStatus := statusCode st }
     let kept (u : State) : Prop := u.jgl.mem = s.jgl.mem ∧ u.jgl.poisoned = s.jgl.poisoned ∧ u.spm.mem = s.spm.mem ∧
       u.ctn.jobCount = satAdd 32 s.ctn.jobCount 1 ∧ (∀ k, k ≠ c → ctxOf u k = ctxOf s k)
     (∀ g e, trnCheck s 0 m .r x.srcNext x.srcLeft = .refused g e false →
       ∃ u, exec (.ctnJobEnd c env) s = .next (complete (jobOp x.dir) h .access 0 u) ∧ ctxOf u c = failed .access ∧
         bitOf u.ctn.err 3 = true ∧ kept u) ∧
     (trnCheck s 0 m .r x.srcNext x.srcLeft = .pass → dramInside s x.srcNext x.srcLeft = true →
       (dramPoisoned s x.srcNext x.srcLeft = true →
         ∃ u, exec (.ctnJobEnd c env) s = .next (complete (jobOp x.dir) h .uncorrectable 0 u) ∧
           ctxOf u c = failed .uncorrectable ∧ bitOf u.ctn.err 1 = true ∧ kept u) ∧
       (dramPoisoned s x.srcNext x.srcLeft = false → x.dir = true → x.coder = 1 → x.headerDone = false → 8 ≤ x.srcLeft →
         lzHeaderOk ((dramBytes s x.srcNext x.srcLeft).take 8) = false →
         ∃ u, exec (.ctnJobEnd c env) s = .next (complete (jobOp x.dir) h .integrity 0 u) ∧
           ctxOf u c = failed .integrity ∧ bitOf u.ctn.err 2 = true ∧ kept u))) ∧
  (∀ (c m : Nat) (h : Hdr) (p : CtnJobP) (env : MemEnv) (s : State), c < 64 → Quiet s → (ctxOf s c).state = .running →
     (ctxOf s c).job = some (h, p, m) → jobSrcSpm p = false → jobDstSpm p = false → env.reads = [] →
     (ctxOf s c).dir = true → (ctxOf s c).coder = 1 → (ctxOf s c).headerDone = false → (ctxOf s c).srcLeft < 8 →
     let n := flits (ctxOf s c).srcNext (ctxOf s c).srcLeft + 1
     regIssues 9 n s = true →
     trnCheck s 0 m .r (ctxOf s c).srcNext (ctxOf s c).srcLeft = .pass →
     dramInside s (ctxOf s c).srcNext (ctxOf s c).srcLeft = true →
     dramPoisoned s (ctxOf s c).srcNext (ctxOf s c).srcLeft = false →
     (jobLast p = false → ∃ u, exec (.ctnJobEnd c env) s = .next (complete 0x61 h .ok 0 u) ∧
       ctxOf u c = { ctxOf s c with state := .open_, job := none, lastStatus := statusCode .ok } ∧
       u = { regDrain 9 n s with ctn := u.ctn }) ∧
     (jobLast p = true → ∃ u, exec (.ctnJobEnd c env) s = .next (complete 0x61 h .integrity 0 u) ∧
       ctxOf u c = { ctxOf s c with state := .error, job := none, lastStatus := statusCode .integrity } ∧
       u = { regDrain 9 n s with ctn := u.ctn }))

/-- R279: SAVE writes the context's image of 33,024 bytes to DRAM, whatever its state but RUNNING. RESTORE of an image
that checks replaces the context; one that does not completes with INTEGRITY and leaves the context unchanged. Both
complete with BUSY on a RUNNING context. They go through port 9 (R250), and with CTN_CTRL.JOB_EN = 0 they complete
with UNSUPPORTED, since the job engine serves them (R267, R281; deduced). -/
def Obligations.ContextIsSavedAndRestored : Prop :=
  ∀ (h : Hdr) (p : CtnStateP) (s : State), p.length = 33024 → p.addr.toNat + 33024 ≤ s.jgl.limit → p.ctx.toNat < 64 →
    p.addr.toNat % 64 = 0 → p.rsvd = false →
    let c := p.ctx.toNat
    let k := flits p.addr.toNat 33024
    (bitOf s.ctn.ctrl 0 = false →
      (Starts h (.ctnSave p) s → Ends (.ctnSaveState h p) 0x62 h .unsupported 0 s fun u => u = toFlight 0x62 h s) ∧
      (Starts h (.ctnRestore p) s →
        Ends (.ctnRestoreState h p) 0x63 h .unsupported 0 s fun u => u = toFlight 0x63 h s)) ∧
    (bitOf s.ctn.ctrl 0 = true → regIssues 9 k s = true →
     (Starts h (.ctnSave p) s →
      ((ctxOf s c).state = .running → Ends (.ctnSaveState h p) 0x62 h .busy 0 s fun u => u = toFlight 0x62 h s) ∧
      ((ctxOf s c).state ≠ .running → trnCheck s 0 (srcMaster s h.src) .w p.addr.toNat 33024 = .pass →
        Ends (.ctnSaveState h p) 0x62 h .ok 0 s fun u =>
          u = dramStore 9 p.addr.toNat (ctxImage (ctxOf s c)) (regDrain 9 k (toFlight 0x62 h s)))) ∧
     (Starts h (.ctnRestore p) s →
      ((ctxOf s c).state = .running → Ends (.ctnRestoreState h p) 0x63 h .busy 0 s fun u => u = toFlight 0x63 h s) ∧
      ((ctxOf s c).state ≠ .running → trnCheck s 0 (srcMaster s h.src) .r p.addr.toNat 33024 = .pass →
        dramPoisoned s p.addr.toNat 33024 = false →
        (imageOk (dramBytes s p.addr.toNat 33024) = true → Ends (.ctnRestoreState h p) 0x63 h .ok 0 s fun u =>
          u = modCtx c (fun x => { imageCtx (dramBytes s p.addr.toNat 33024) with lastStatus := x.lastStatus })
            (regDrain 9 k (toFlight 0x63 h s))) ∧
        (imageOk (dramBytes s p.addr.toNat 33024) = false → Ends (.ctnRestoreState h p) 0x63 h .integrity 0 s fun u =>
          u.ctn.ctxs = s.ctn.ctxs ∧ u = { regDrain 9 k (toFlight 0x63 h s) with ctn := u.ctn }))))

/-! ### Firmware -/

/-- R409, R410, R412: FW_OPEN of a target within its length while no session is open makes the session OPENING with the
command running; while one is open it completes with BUSY and the session's ID and holder in the detail. FW_ERASE_DONE
leaves the destination erased, makes the session RECEIVING, and completes FW_OPEN OK with the session's ID. A block of
the session that checks is written at its offset and counted; one of another session completes with ACCESS, one whose
CRC differs with INTEGRITY, and neither is written. R411, R412: FW_COMMIT makes the session COMMITTING; its checks end
it. One that fails completes with its status, and a firmware slot is left REJECTED; a firmware image that passes
leaves its slot PENDING, and with ACTIVATE the device resets afterwards. FW_ABORT and the lock's expiry leave the slot
EMPTY. However a session ends, the lock is free. -/
def Obligations.FirmwareSession : Prop :=
  (∀ (h : Hdr) (s : State),
     (∀ p : FwOpenP, Starts h (.fwOpen p) s → p.imageLen ≠ 0 → p.target.toNat < 4 →
       fwLenOk p.target.toNat p.imageLen.toNat = true → p.rsvd = false → s.mram.lifecycle ≠ .retired →
       (s.fw.session ≠ .idle → Ends (.fwOpen h p) 0x80 h .busy (put s.fw.sessionId.toNat 0 |||
         put (s.fw.holderPath % 4) 32 ||| put (s.fw.holderQueue % 16384) 34) s fun u => u = toFlight 0x80 h s) ∧
       (s.fw.session = .idle → (p.target.toNat = 0 → inTrial s = false) → GoesOn (.fwOpen h p) 0x80 h s fun u =>
         u.fw.session = .opening ∧ u.fw.target = p.target.toNat ∧ u.fw.imageLen = p.imageLen.toNat ∧
         u.fw.running = some h ∧ u.fw.blocks = [] ∧ u.fw.flash = s.fw.flash ∧ u = { toFlight 0x80 h s with fw := u.fw })) ∧
     (∀ id, id ≠ 0 → Quiet s → s.fw.session = .opening → s.fw.running = some h →
       ∃ u, exec (.fwEraseDone id) s = .next (complete 0x80 h .ok (put id.toNat 0 ||| put (destIndex s s.fw.target) 32) u) ∧
         u.fw.session = .receiving ∧ u.fw.sessionId = id ∧ u.fw.running = none ∧
         (∀ b, destBase s s.fw.target = some b → ∀ a, memByte 0xFF u.fw.flash a =
           if b ≤ a ∧ a < b + (if s.fw.target = 0 then slotSize else copySize) then 0xFF else memByte 0xFF s.fw.flash a) ∧
         u = { s with fw := u.fw }) ∧
     (∀ p : FwBlockP, Starts h (.fwBlock p) s →
       ((s.fw.session ≠ .receiving ∨ p.session ≠ s.fw.sessionId) →
         Ends (.fwBlock h p) 0x81 h .access (put s.fw.blocks.length 0) s fun u => u = toFlight 0x81 h s) ∧
       (s.fw.session = .receiving → p.session = s.fw.sessionId → p.offset.toNat < s.fw.imageLen →
         p.offset.toNat % 4096 = 0 → p.rsvd = false →
         (crc32c p.data ≠ p.crc → Ends (.fwBlock h p) 0x81 h .integrity (put s.fw.blocks.length 0) s fun u =>
           u = fwErr 0 (toFlight 0x81 h s)) ∧
         (crc32c p.data = p.crc → p.data.length = 4096 → lkp s.fw.blocks p.offset.toNat = none →
           ∃ u, exec (.fwBlock h p) s =
               .next { complete 0x81 h .ok (put u.fw.blocks.length 0) u with pending := s.pending } ∧
             u.fw.blocks = putAt s.fw.blocks p.offset.toNat p.crc ∧ sessionRead u p.offset.toNat 4096 = p.data ∧
             u = { toFlight 0x81 h s with fw := u.fw })))) ∧
  (∀ (h : Hdr) (s : State),
     (∀ p : FwCommitP, Starts h (.fwCommit p) s →
       (s.fw.session = .receiving → p.session = s.fw.sessionId → p.flags.toNat < 2 → p.rsvd = false →
         GoesOn (.fwCommit h p) 0x82 h s fun u =>
           u.fw = { s.fw with session := .committing, running := some h, activate := bitOf p.flags 0 } ∧
           u = { toFlight 0x82 h s with fw := u.fw }) ∧
       ((s.fw.session ≠ .receiving ∨ p.session ≠ s.fw.sessionId) →
         Ends (.fwCommit h p) 0x82 h .access 0 s fun u => u = toFlight 0x82 h s)) ∧
     (Quiet s → s.fw.session = .committing → s.fw.running = some h →
       (∀ st d, commitRefusal s = some (st, d) →
         ∃ u, exec .fwCommitCheckDone s = .next (complete 0x82 h st d u) ∧ u.fw.session = .idle ∧
           (s.fw.target = 0 → (fwSlot u (destIndex s 0)).state = .rejected ∧
             fwSlot u (1 - destIndex s 0) = fwSlot s (1 - destIndex s 0)) ∧
           u.fw.flash = s.fw.flash ∧ u = { s with fw := u.fw }) ∧
       (commitRefusal s = none → s.fw.target = 0 → ∃ t, exec .fwCommitCheckDone s = .next t ∧ t.fw.session = .idle ∧
         fwSlot t (destIndex s 0) = {
           state := .pending, version := imgVersion (sessionRead s 0 s.fw.imageLen)
           svn := imgSvn (sessionRead s 0 s.fw.imageLen), length := imgLen (sessionRead s 0 s.fw.imageLen) } ∧
         fwSlot t (1 - destIndex s 0) = fwSlot s (1 - destIndex s 0) ∧
         t.rm.activatePending = (s.fw.activate || s.rm.stage == .recovery) ∧
         t = { complete 0x82 h .ok 0 s with fw := t.fw, rm := { s.rm with activatePending := t.rm.activatePending } })) ∧
     (∀ p : FwAbortP, Starts h (.fwAbort p) s → s.fw.session ≠ .idle → p.session ≠ 0 → p.session = s.fw.sessionId →
       p.rsvd = false →
       (s.fw.session = .committing → Ends (.fwAbort h p) 0x83 h .busy 0 s fun u => u = toFlight 0x83 h s) ∧
       (s.fw.session ≠ .committing → s.fw.running = none → Ends (.fwAbort h p) 0x83 h .ok 0 s fun u =>
         u.fw.session = .idle ∧ u.fw.sessionId = 0 ∧ u.fw.blocks = [] ∧
         (s.fw.target = 0 → fwSlot u (destIndex s 0) = {}) ∧ u = { toFlight 0x83 h s with fw := u.fw })) ∧
     (Quiet s → s.fw.session = .receiving → s.fw.running = none → ∃ t, exec .fwLockExpiry s = .next t ∧
       t.fw.session = .idle ∧ bitOf t.fw.err 3 = true ∧ (s.fw.target = 0 → fwSlot t (destIndex s 0) = {}) ∧
       t.fw.flash = s.fw.flash ∧ apart t = apart { s with fw := t.fw }))

/-- R411, R413, R414: FW_CONFIRM naming the running version in a TRIAL boot confirms the boot, the third confirmation
makes the slot CONFIRMED and raises MIN_SVN to its own; another version completes with BAD_PARAM. A confirm window
that closes unconfirmed makes the slot REJECTED and resets the device with cause 5; an activation resets it with cause
6, and an accepted lifecycle token with cause 7, its pending record carried out. R391: while panel power is not OFF
the reset waits for the native power-down. -/
def Obligations.TrialsAndActivation : Prop :=
  ∀ (h : Hdr) (s : State),
    (∀ p : FwConfirmP, Starts h (.fwConfirm p) s → p.rsvd = false →
      (p.version ≠ (fwSlot s s.rm.runSlot).version →
        Ends (.fwConfirm h p) 0x84 h .badParam 0 s fun u => u = toFlight 0x84 h s) ∧
      (p.version = (fwSlot s s.rm.runSlot).version → inTrial s = true → s.fw.bootConfirmed = false → s.rm.runSlot < 2 →
        Ends (.fwConfirm h p) 0x84 h .ok (put (s.fw.confirms + 1) 0 ||| put s.fw.trialBoot 8) s fun u =>
          u.fw.confirms = s.fw.confirms + 1 ∧ u.fw.bootConfirmed = true ∧ u.fw.winEnd = none ∧
          (s.fw.confirms < 2 → u.mram = s.mram ∧ ∀ i, fwSlot u i = fwSlot s i) ∧
          (2 ≤ s.fw.confirms → (fwSlot u s.rm.runSlot).state = .confirmed ∧
            u.mram.minSvn = max s.mram.minSvn (fwSlot s s.rm.runSlot).svn ∧
            ((fwSlot s (1 - s.rm.runSlot)).state = .confirmed → (fwSlot u (1 - s.rm.runSlot)).state = .valid)) ∧
          u = { toFlight 0x84 h s with fw := u.fw, mram := u.mram })) ∧
    (s.rm.activatePending = true → s.pwr.state = .off → exec .fwActivateReset s = .next
      { deviceReset 6 { s with rm := { s.rm with activatePending := false } } with pending := s.pending }) ∧
    (Quiet s → s.rm.activatePending = true → s.pwr.state = .on → s.pwr.undoing = false →
      ∃ t, exec .fwActivateReset s = .next t ∧ t.rm.resetAfterDown = some 6 ∧ t.pwr.state = .poweringDown) ∧
    (s.fw.winEnd ≠ none → s.rm.runSlot < 2 → s.pwr.state = .off → ∃ t, exec .confirmWindowExpiry s = .next t ∧ t.rm.resetCause = 5 ∧
      t.rm.stage = .por ∧ bitOf t.fw.err 4 = true ∧ (fwSlot t s.rm.runSlot).state = .rejected ∧ t.fw.flash = s.fw.flash) ∧
    (∀ c w, s.fw.token = some c → s.fw.session = .idle → s.pwr.state = .off → ∃ t, exec (.lifecycleChange w) s = .next t ∧
      t.rm.resetCause = 7 ∧ t.rm.stage = .por ∧ t.mram.pending = none ∧ t.mram.lifecycle = c.dest ∧
      (c.dest = .deployed → t.mram.intDigest = c.cfgDigest ∧ t.mram.linkDigest = c.linkDigest) ∧
      (c.dest = .returned → t.mram.intDigest = 0 ∧ t.mram.linkDigest = 0 ∧ t.mram.mapA = {} ∧ t.mram.mapB = {}))

/-! ### Surfaces, calibration, units, the event log -/

/-- R342, R344: SURFACE_REGISTER of a free range takes the lowest free entry and completes OK with the handle, whose low
bits are the entry's number; with 64 entries taken it completes with NO_RESOURCE. SURFACE_RELEASE of a handle that
nothing reads frees its entry and completes OK; one that a frame reads is retired at once and completes when its last
reader has gone. An unknown handle completes with BAD_PARAM. -/
def Obligations.SurfaceHandles : Prop :=
  ∀ (h : Hdr) (s : State),
    (∀ p : SurfaceRegisterP, Starts h (.surfaceRegister p) s → p.size ≠ 0 → ones 4 p.size.toNat = false →
      ones 8 p.addr.toNat = false → p.size.toNat ≤ 2 ^ 28 → surfaceRangeOk s p.addr.toNat p.size.toNat = true →
      p.addr.toNat % 4096 = 0 → p.size.toNat % 4096 = 0 → p.rsvd = false →
      (s.hq.surfaces.any fun c => overlaps p.addr.toNat p.size.toNat c.2.addr c.2.size) = false →
      (firstBelow 64 (fun i => (surfaceOf s i).isNone) = none →
        Ends (.surfaceRegister h p) 0x70 h .noResource 0 s fun u => u = toFlight 0x70 h s) ∧
      (∀ i, firstBelow 64 (fun i => (surfaceOf s i).isNone) = some i →
        ∃ hd : W32, fld hd 5 0 = i ∧ Ends (.surfaceRegister h p) 0x70 h .ok (put hd.toNat 0) s fun u =>
          u.hq.surfaces = putAt s.hq.surfaces i ⟨p.addr.toNat, p.size.toNat, hd, none⟩ ∧
          u = { toFlight 0x70 h s with hq := { (toFlight 0x70 h s).hq with
            surfaces := u.hq.surfaces, regCount := u.hq.regCount } })) ∧
    (∀ p : SurfaceReleaseP, Starts h (.surfaceRelease p) s → p.rsvd = false →
      (handleIndex s p.handle.toNat = none →
        Ends (.surfaceRelease h p) 0x71 h .badParam 0 s fun u => u = toFlight 0x71 h s) ∧
      (∀ i x, handleIndex s p.handle.toNat = some i → surfaceOf s i = some x →
        (surfaceRead s i = false → Ends (.surfaceRelease h p) 0x71 h .ok 0 s fun u =>
          u.hq.surfaces = delAt (modAt s.hq.surfaces i fun x => { x with release := some h }) i ∧
          u.trn = (trnSet 0 i {} s).trn ∧
          u = { toFlight 0x71 h s with hq := { (toFlight 0x71 h s).hq with surfaces := u.hq.surfaces }, trn := u.trn }) ∧
        (surfaceRead s i = true → GoesOn (.surfaceRelease h p) 0x71 h s fun u =>
          u.hq.surfaces = modAt s.hq.surfaces i (fun x => { x with release := some h }) ∧
          u = { toFlight 0x71 h s with hq := { (toFlight 0x71 h s).hq with surfaces := u.hq.surfaces }, trn := u.trn })))

/-- R428, R429, R431 to R433: CAL_RUN of items in range is BUSY while a run goes on or while an emitter item is asked for
with the panel not OFF; otherwise it runs. A measured item whose span, gain and offset are plausible sets the item's
gain to round(3276 × 32768 / span) and its offset from it, unless the run is dry; the last item ends the run. CAL_READ
answers with the record of the values in force or of the factory; CAL_WRITE of a record that checks sets the items it
names. -/
def Obligations.CalibrationRuns : Prop :=
  ∀ (h : Hdr) (s : State),
    (∀ p : CalRunP, Starts h (.calRun p) s → 0 < p.items.toNat → p.items.toNat < 0x4000 → p.flags.toNat < 2 →
      p.rsvd = false →
      ((s.cal.running.isSome ∨ (p.items.toNat &&& 0x3FE ≠ 0 ∧ s.pwr.state ≠ .off)) →
        Ends (.calRun h p) 0x90 h .busy 0 s fun u => u = toFlight 0x90 h s) ∧
      (s.cal.running = none → (p.items.toNat &&& 0x3FE = 0 ∨ s.pwr.state = .off) → GoesOn (.calRun h p) 0x90 h s fun u =>
        u.cal = { s.cal with
          running := some (h, bitOf p.flags 0), applied := 0, failed := 0, failItem := 0x1F, reason := 0
          todo := (List.range 14).filter fun i => p.items.toNat / 2 ^ i % 2 == 1 } ∧
        u = { toFlight 0x90 h s with cal := u.cal })) ∧
    (∀ i j rest dry m, i < 14 → Quiet s → s.cal.running = some (h, dry) → s.cal.todo = i :: j :: rest →
      (refinOk m.refin = true ∨ s.cal.applied ≠ 0) →
      (measReason m = 0 → ∃ t, exec (.calItemDone i m) s = .next t ∧ t.cal.todo = j :: rest ∧
        t.cal.applied = s.cal.applied ||| 2 ^ i ∧ t.cal.failed = s.cal.failed ∧
        (dry = true → t.cal.items = s.cal.items) ∧
        (dry = false → t.cal.items = spSet {} s.cal.items i
          ⟨((3276 * 32768 + (m.mHi - m.mLo) / 2) / (m.mHi - m.mLo)).toNat, (calCompute m).2.2⟩) ∧
        t = { s with cal := t.cal }) ∧
      (measReason m ≠ 0 → ∃ t, exec (.calItemDone i m) s = .next t ∧ t.cal.failed = s.cal.failed ||| 2 ^ i ∧
        t.cal.items = s.cal.items ∧ bitOf t.cal.err 0 = true ∧ t = { s with cal := t.cal })) ∧
    (∀ i m, i < 14 → Quiet s → s.cal.running = some (h, false) → s.cal.todo = [i] → s.cal.failed = 0 →
      refinOk m.refin = true → measReason m = 0 → s.pwr.onDue = false →
      ∃ u, exec (.calItemDone i m) s = .next (complete 0x90 h .ok
          (calDetail (s.cal.applied ||| 2 ^ i) 0 u.cal.refin) u) ∧
        u.cal.running = none ∧ calItem u i = ⟨(calCompute m).2.1, (calCompute m).2.2⟩ ∧ u = { s with cal := u.cal }) ∧
    (∀ p : CalReadP, Starts h (.calRead p) s → (∀ t, h.src ≠ .mbox t) → p.hostAddr.toNat % 64 = 0 → p.rsvd = false →
      (p.set = 0 → Ends (.calRead h p) 0x91 h .ok (put (leAt (calRecord s) 124 4) 0) s fun u =>
        u = { toFlight 0x91 h s with out := .hostWrite h.src p.hostAddr.toNat (calRecord s) :: s.out }) ∧
      (∀ b, p.set = 1 → s.cal.factory = some b → Ends (.calRead h p) 0x91 h .ok (put (leAt b 124 4) 0) s fun u =>
        u = { toFlight 0x91 h s with out := .hostWrite h.src p.hostAddr.toNat b :: s.out }) ∧
      (p.set = 1 → s.cal.factory = none → Ends (.calRead h p) 0x91 h .integrity 0 s fun u => u = toFlight 0x91 h s)) ∧
    (∀ p : CalWriteP, Starts h (.calWrite p) s → p.rsvd = false → s.cal.running = none →
      (0 < p.items.toNat → p.items.toNat < 0x4000 → recordOk p.record = false →
        Ends (.calWrite h p) 0x92 h .integrity 0 s fun u => u = toFlight 0x92 h s) ∧
      (∀ i, i < 14 → p.items.toNat = 2 ^ i → recordOk p.record = true → recordMine s p.record = true →
        calReason (recordItem p.record i).gain (recordItem p.record i).off = 0 → (i = 0 ∨ 6 < i ∨ s.scn.state = .stopped) →
        Ends (.calWrite h p) 0x92 h .ok (calDetail (2 ^ i) 0 (leAt p.record 24 2)) s fun u =>
          calItem u i = recordItem p.record i ∧ u.cal.written = true ∧ u = { toFlight 0x92 h s with cal := u.cal }))

/-- R348 to R352, R418: UNIT_STATE_GET answers with the unit's entry; a class or index the device does not have completes
with BAD_PARAM. UNIT_STATE_SET and RESET_UNIT with another GEN than the unit's complete with STALE and change nothing;
a DEGRADED unit set ONLINE, and an OFFLINE one set to TEST, are so with the generation gone up; RESET_UNIT of a unit
in service is BUSY, and a pipeline that fails its test shows in HOM_SELFTEST_FAIL (R106, R107, R111). A data-path
request that is not lasting makes the unit DEGRADED; one whose state no longer matches is dropped. -/
def Obligations.UnitStatesChange : Prop :=
  ∀ (h : Hdr) (p : UnitP) (s : State),
    let c := p.cls.toNat
    let i := p.index.toNat
    let u := unitOf s c i
    (Starts h (.unitGet p) s → p.rsvd = false → p.dest = 0 → p.flags = 0 →
      (unitExists c i = true → Ends (.unitStateGet h p) 0xB0 h .ok (unitDetail s c i) s fun t => t = toFlight 0xB0 h s) ∧
      (unitExists c i = false → Ends (.unitStateGet h p) 0xB0 h .badParam 0 s fun t => t = toFlight 0xB0 h s)) ∧
    (Starts h (.unitSet p) s → unitExists c i = true → p.rsvd = false → p.flags.toNat < 2 →
      (h.gen ≠ u.gen → Ends (.unitStateSet h p) 0xB1 h .stale (unitDetail s c i) s fun t => t = toFlight 0xB1 h s) ∧
      (h.gen = u.gen → u.state = .degraded → p.dest = 0 → ∃ t, exec (.unitStateSet h p) s =
          .next { complete 0xB1 h .ok (unitDetail t c i) t with pending := s.pending } ∧
        unitOf t c i = { u with state := .online, gen := u.gen + 1, cause := 7 } ∧
        (∀ c' i', c' < 6 → i' < 1024 → i < 1024 → ¬ (c' = c ∧ i' = i) → unitOf t c' i' = unitOf s c' i')) ∧
      (h.gen = u.gen → u.state = .offline → p.dest = 4 → c < 3 → ∃ t, exec (.unitStateSet h p) s =
          .next { complete 0xB1 h .ok (unitDetail t c i) t with pending := s.pending } ∧
        unitOf t c i = { u with state := .test, gen := u.gen + 1, cause := 7 } ∧
        apart t = apart { toFlight 0xB1 h s with units := t.units })) ∧
    (Starts h (.resetUnit p) s → unitExists c i = true → p.rsvd = false → p.dest = 0 → p.flags = 0 →
      (h.gen ≠ u.gen → Ends (.resetUnit h p) 0xF0 h .stale (unitDetail s c i) s fun t => t = toFlight 0xF0 h s) ∧
      (h.gen = u.gen → u.state ≠ .offline → u.state ≠ .test →
        Ends (.resetUnit h p) 0xF0 h .busy (unitDetail s c i) s fun t => t = toFlight 0xF0 h s) ∧
      (h.gen = u.gen → u.state = .offline → c < 3 → (s.units.Pairwise fun a b => a.1 < b.1) → ∃ t d, exec (.resetUnit h p) s =
          .next { complete 0xF0 h .ok d t with pending := s.pending } ∧
        (unitOf t c i).state = .offline ∧ (unitOf t c i).gen = u.gen + 1 ∧
        (c = 2 → t.hom = if (unitOf t c i).lastTest then { s.hom with suspects := delAt s.hom.suspects i } else
          { s.hom with selftestFail := setBit s.hom.selftestFail i, err := setBit s.hom.err 4 }) ∧
        (c ≠ 2 → t.hom = s.hom) ∧
        apart t = apart { toFlight 0xF0 h s with units := t.units, hom := t.hom, free := s.free + 1 })) ∧
    (∀ r rest, Quiet s → s.unitReqs = r :: rest → frontReq s = some r → r.cls < 6 → r.idx < 1024 →
      (s.units.Pairwise fun a b => a.1 < b.1) →
      (r.lasting = false → r.reported = .online → (unitOf s r.cls r.idx).state = .online →
        ∃ t, exec .unitRequest s = .next t ∧ (unitOf t r.cls r.idx).state = .degraded ∧
          (unitOf t r.cls r.idx).gen = (unitOf s r.cls r.idx).gen + 1 ∧ t.unitReqs = rest ∧
          apart t = apart { s with units := t.units, unitReqs := rest }) ∧
      ((unitOf s r.cls r.idx).state ≠ r.reported → ∃ t, exec .unitRequest s = .next t ∧ t.unitReqs = rest ∧
        (unitOf t r.cls r.idx).state = (unitOf s r.cls r.idx).state ∧
        apart t = apart { s with units := t.units, unitReqs := rest }))

/-- R367 to R373: an event's entry enters the writer's queue and, once the queue is drained, the log. LOG_READ of entries
answers with the oldest up to COUNT, in order, and their number and first sequence number, and with CONSUME moves the
head past them; LOG_READ of a dictionary answers from LOG_DICT_INDEX and advances it. JOURNAL_COPY copies the oldest
entry not copied yet. LOG_DROP's count clears with its cause bits. -/
def Obligations.LogIsReadAndCopied : Prop :=
  ∀ (s : State),
    (∀ (h : Hdr) (p : LogReadP), Starts h (.logEntries p) s → s.log.input = [] → p.count ≠ 0 →
      logReadBad h true p = none → (∀ t, h.src ≠ .mbox t) → s.log.entries.length ≠ 0 →
      let es := s.log.entries.take p.count.toNat
      ∃ u, exec (.logReadEntries h p) s =
          .next { complete 0xC0 h .ok (put es.length 0 ||| put (headSeq s) 32) u with pending := s.pending } ∧
        u.out = .hostWrite h.src p.hostAddr.toNat (es.flatMap logBytes) :: s.out ∧
        u.log.entries = (if bitOf p.flags 0 then s.log.entries.drop es.length else s.log.entries) ∧
        u.log.head = (if bitOf p.flags 0 then (s.log.head + es.length) % 16384 else s.log.head)) ∧
    (∀ (h : Hdr) (p : LogReadP), p.count ≠ 0 → logReadBad h false p = none → (∀ t, h.src ≠ .mbox t) →
      let reads (c : Cmd) (i : Instr) (all : List DictRec) : Prop := Starts h c s →
        let ds := (all.drop s.log.dictIndex).take p.count.toNat
        Ends i 0xC0 h .ok (put ds.length 0) s fun u => u.log.dictIndex = (s.log.dictIndex + ds.length) % 65536 ∧
          (ds ≠ [] → u.out = .hostWrite h.src p.hostAddr.toNat (ds.flatMap dictBytes) :: s.out) ∧
          u = { toFlight 0xC0 h s with log := { s.log with dictIndex := u.log.dictIndex }, out := u.out }
      reads (.logCodes p) (.logReadCodeDictionary h p) s.log.codes ∧
        reads (.logSources p) (.logReadSourceDictionary h p) s.log.sources) ∧
    (∀ name core args, core < 4 → Quiet s → s.log.input.length < 64 →
      ∃ t, exec (.logEntrySubmit name core args) s = .next t ∧ apart t = apart s ∧ ∃ e, t.log.input = s.log.input ++ [e] ∧ e.name = name ∧ e.core = core ∧ e.args = args) ∧
    (∀ e rest, Quiet s → s.log.input = [] → s.log.toJournal = e :: rest → ∃ t, exec .journalCopy s = .next t ∧
      t.log = { s.log with toJournal := rest } ∧ t = { s with log := t.log, mram := t.mram } ∧
      (journalRepeat e.name (logBytes e) s = none → ∀ i, journalSlot false s = some i →
        ∃ j, t.mram.journal = putAt s.mram.journal i j ∧ j.name = e.name ∧ j.source = e.source ∧ j.valid = true ∧
          j.cleared = false ∧ j.content = (logBytes e).take 224)) ∧
    (∀ m v, Quiet s → s.log.input = [] → RegOpen m 0x800018 true s → (bitOf v 30 = true ∨ bitOf v 31 = true) →
      exec (.logDropClear m v) s = .next { s with log := { s.log with
        drop := 0, dropFull := s.log.dropFull && !bitOf v 30, dropQueue := s.log.dropQueue && !bitOf v 31 } })

/-! ### The Barker -/

/-- R358, R360, R361: a claim by core n returns, with VALID, the PENDING source routed to it that ranks first by group,
then sub-priority, then number, where its group is lower than that of the top of the stack or the stack is empty; the
source becomes ACTIVE and is pushed onto the stack. With no such source, and fewer than 8 sources on the stack, the
claim returns VALID = 0 and changes nothing; with one and 8 sources on the stack it returns VALID = 0 and sets
NEST_OVERFLOW. A completion of the source at the top of the stack pops it: an edge source goes from ACTIVE_PENDING to
PENDING and from ACTIVE to IDLE, a level source to PENDING where its filtered value is 1 and to IDLE otherwise, and
one whose EN was cleared to IDLE. Any other completion is ignored and sets COMPLETE_ORDER. (That the claim of TRZ_MSG,
source 672, also takes the messages out of the receive ring of R315 is the model's choice: log entry 80.) -/
def Obligations.ClaimAndComplete : Prop :=
  ∀ (n : Nat) (s : State), n < 4 → Quiet s →
    let p := fld s.brk.ctrl 2 0
    let stack := (coreOf s n).stack
    let waits (k : Nat) (x : Source) : Prop :=
      (k, x) ∈ s.brk.sources ∧ x.state = .pending ∧ x.coreEn = true ∧ x.core = n
    let before (a b : Nat × Source) : Prop := a.2.prio >>> p < b.2.prio >>> p ∨
      (a.2.prio >>> p = b.2.prio >>> p ∧ (a.2.prio % 2 ^ p < b.2.prio % 2 ^ p ∨
        (a.2.prio % 2 ^ p = b.2.prio % 2 ^ p ∧ a.1 < b.1)))
    let passes (x : Source) : Prop := ∀ t, stack.head? = some t → x.prio >>> p < (srcOf s t).prio >>> p
    (RegOpen (3 + n) (brkCoreOff n 0) false s →
      (∀ k x, k < 1024 → waits k x → (∀ j y, waits j y → (j, y) ≠ (k, x) → before (k, x) (j, y)) → passes x →
        (stack.length < 8 → ∃ t, exec (.brkClaim n) s = .next t ∧ t.out = .readReg (put k 0 ||| put 1 31) :: s.out ∧
          srcOf t k = { srcOf s k with state := .active } ∧ (∀ j, j ≠ k → srcOf t j = srcOf s j) ∧
          (coreOf t n).stack = k :: stack ∧ (∀ m, m ≠ n → coreOf t m = coreOf s m) ∧
          t = { s with
            brk := { s.brk with sources := t.brk.sources, cores := t.brk.cores }, out := t.out
            trz := if k = 672 then { s.trz with ring := [] } else s.trz }) ∧
        (8 ≤ stack.length → exec (.brkClaim n) s = .next
          { s with brk := { s.brk with err := setBit s.brk.err 1 }, out := .readReg 0 :: s.out })) ∧
      (stack.length < 8 → (∀ k x, waits k x → ¬ passes x) →
        exec (.brkClaim n) s = .next { s with out := .readReg 0 :: s.out })) ∧
    (RegOpen (3 + n) (brkCoreOff n 4) true s → ∀ v,
      let k := fld v 9 0
      let x := srcOf s k
      (∀ rest, stack = k :: rest → (srcIsLevel k = true → x.state = .active) →
        exec (.brkComplete n v) s = .next (modSrc k (fun x => { x with
            state := if !x.en then .idle else if srcIsLevel k then (if x.filtered then .pending else .idle)
              else if x.state == .activePending then .pending else .idle })
          (modCore n (fun c => { c with stack := rest }) s))) ∧
      (stack.head? ≠ some k → exec (.brkComplete n v) s = .next
        { s with brk := { s.brk with err := setBit s.brk.err 0 } }))

/-- R356, R357, R361, R363 to R365: FORCE counts an event and presents it; CLEAR zeroes the count. A route is written but
for UNIT_REQ's and HOST = 3. An edge source's input counts and presents its 0-to-1 transitions. A host pending bit
clears. A core's reset empties its stack and loses no event; moderation ends when its TIME has run out. DEDUCED (log
94): a claim with nothing pending changes nothing though 8 sources are on the stack; an enabled source completed in
ACTIVE_PENDING, of either type, goes to PENDING. -/
def Obligations.BarkerSources : Prop :=
  ∀ (s : State), Quiet s →
    (∀ n, n < 4 →
      (RegOpen (3 + n) (brkCoreOff n 0) false s → 8 ≤ (coreOf s n).stack.length →
        (∀ x, x ∈ s.brk.sources → x.2.state ≠ .pending) →
        exec (.brkClaim n) s = .next { s with out := .readReg 0 :: s.out }) ∧
      (∀ v rest, RegOpen (3 + n) (brkCoreOff n 4) true s → (coreOf s n).stack = fld v 9 0 :: rest →
        (srcOf s (fld v 9 0)).en = true → (srcOf s (fld v 9 0)).state = .activePending →
        exec (.brkComplete n v) s = .next (modSrc (fld v 9 0) (fun x => { x with state := .pending })
          (modCore n (fun c => { c with stack := rest }) s)))) ∧
    (∀ m, RegOpen m 0x100014 true s → ∃ t, exec (.brkSrcForce m) s = .next t ∧ apart t = apart s ∧
      (srcOf t s.brk.srcSel).count = satAdd 8 (srcOf s s.brk.srcSel).count 1 ∧
      ((srcOf s s.brk.srcSel).en = true → (srcOf s s.brk.srcSel).coreEn = true → (srcOf s s.brk.srcSel).state = .idle →
        (srcOf t s.brk.srcSel).state = .pending) ∧
      ((srcOf s s.brk.srcSel).en = false → (srcOf t s.brk.srcSel).state = (srcOf s s.brk.srcSel).state) ∧
      (∀ k, k ≠ s.brk.srcSel → srcOf t k = srcOf s k)) ∧
    (∀ m, RegOpen m 0x100024 true s →
      exec (.brkCountClear m) s = .next (modSrc s.brk.srcSel (fun x => { x with count := 0 }) s)) ∧
    (∀ m k b, k < 32 → b < 32 → RegOpen m (0x100400 + 4 * k) true s →
      (srcIsLevel (32 * k + b) = false ∨ (srcOf s (32 * k + b)).filtered = false) →
      exec (.brkHostPendClear m k (put 1 b)) s = .next (modSrc (32 * k + b) (fun x => { x with hostPend := false }) s)) ∧
    (∀ m v, RegOpen m 0x100018 true s →
      (fld v 17 16 = 3 → exec (.brkRouteWrite m v) s = .next { s with brk := { s.brk with err := setBit s.brk.err 2 } }) ∧
      (fld v 17 16 ≠ 3 → s.brk.srcSel % 32 = 31 → exec (.brkRouteWrite m v) s = .next s) ∧
      (fld v 17 16 ≠ 3 → s.brk.srcSel % 32 ≠ 31 → srcIsLevel s.brk.srcSel = false →
        exec (.brkRouteWrite m v) s = .next (modSrc s.brk.srcSel (fun x => { x with
          core := fld v 1 0, coreEn := bitOf v 2, vector := fld v 14 4, host := fld v 17 16 }) s))) ∧
    (∀ n, srcExists n = true → srcIsLevel n = false →
      ((srcOf s n).filtered = false → ∃ t, exec (.brkSourceEvent n true) s = .next t ∧ (srcOf t n).filtered = true ∧
        (srcOf t n).count = satAdd 8 (srcOf s n).count 1 ∧ apart t = apart s ∧ ∀ k, k ≠ n → srcOf t k = srcOf s k) ∧
      exec (.brkSourceEvent n false) s = .next (modSrc n (fun x => { x with filtered := false, raw := false }) s)) ∧
    (∀ n, n < 4 → modPending s n ≠ [] →
      exec (.brkModTimer n) s = .next (modCore n (fun c => { c with released := true }) s)) ∧
    (∀ n w, n < 4 → spWf {} s.brk.cores = true → (coreOf s n).released = false →
      exec (.coreWait n w) s = .next (modCore n (fun c => { c with wait := w }) s)) ∧
    (∀ n, n < 4 → spWf {} s.brk.cores = true → spWf srcDflt s.brk.sources = true →
      ∃ t, exec (.coreReset n) s = .next t ∧ (coreOf t n).stack = [] ∧ (∀ m, m ≠ n → coreOf t m = coreOf s m) ∧
        (∀ k, (srcOf t k).count = (srcOf s k).count ∧
          (¬ ((srcOf s k).coreEn = true ∧ (srcOf s k).core = n) → srcOf t k = srcOf s k) ∧
          ((srcOf s k).coreEn = true → (srcOf s k).core = n → (srcOf s k).en = true →
            (srcIsLevel k = false → ((srcOf s k).state = .active ∨ (srcOf s k).state = .activePending) →
              (srcOf t k).state = .pending) ∧
            (srcIsLevel k = true → (srcOf s k).filtered = true → (srcOf t k).state = .pending) ∧
            (srcIsLevel k = true → (srcOf s k).filtered = false → (srcOf t k).state = .idle))) ∧
        t = { s with brk := { s.brk with sources := t.brk.sources, cores := t.brk.cores } })

/-! ### Register accesses -/

/-- R14, R390, R392: a write of a W1C register clears the bits written as 1, one of an RWS register goes to its shadow
alone, and one of an RO register is ignored. RM_RESET does nothing but on its key, with which it resets the device
with cause 4; RM_WDOG.KICK by firmware starts the watchdog's time anew, and the running watchdog's expiry resets the
device with cause 3. R130, R323, R382, R388, R389, R435: an access to a data port reads or writes the entry its index
selects and advances the index: CAL_JRNL_DATA through the words of a journal entry and then to the next entry,
CLR_TBL_DATA modulo 2,048, TRZ_ROUTE_DATA modulo 16,384, TH_TRIP_DATA modulo 32. A CLR index past its table writes
nothing and sets its error. -/
def Obligations.RegistersAndDataPorts : Prop :=
  (∀ (m : Nat) (s : State),
     (Quiet s →
       (∀ v, RegOpen m 0x100008 true s → exec (.registerWrite m 0x100008 v) s =
         .next { s with brk := { s.brk with err := s.brk.err &&& ~~~v } }) ∧
       (∀ v, RegOpen m 0x1100004 true s → exec (.registerWrite m 0x1100004 v) s =
         .next { s with crsl := { s.crsl with ctrl := { s.crsl.ctrl with sh := v &&& 0x73 } } }) ∧
       (∀ v, RegOpen m 0 true s → exec (.registerWrite m 0 v) s = .next s) ∧
       (∀ v, RegOpen m 0x28 true s → v ≠ 0x9216 → exec (.rmResetWrite m v) s = .next s) ∧
       (RegOpen m 0x24 true s → fwMaster m = true →
         exec (.wdogKick m) s = .next { s with rm := { s.rm with wdogStart := s.clp.cycle / 1600000 } }) ∧
       (RegOpen m 0x24 true s → fwMaster m = false → exec (.wdogKick m) s = .next s) ∧
       (s.rm.wdogRunning = false → exec .watchdogExpiry s = .next s)) ∧
     (RegOpen m 0x28 true s → ∃ t, exec (.rmResetWrite m 0x9216) s = .next t ∧ t.rm.resetCause = 4 ∧ t.rm.stage = .por ∧
       t.hq = State.reset.hq ∧ t.scene = State.reset.scene ∧ t.pwr = State.reset.pwr ∧ t.scn = State.reset.scn ∧
       t.rm.resets = satAdd 8 s.rm.resets 1) ∧
     (s.rm.wdogRunning = true → ∃ t, exec .watchdogExpiry s = .next t ∧ t.rm.resetCause = 3 ∧ t.rm.stage = .por ∧
       t.hq = State.reset.hq ∧ t.scene = State.reset.scene ∧ t.pwr = State.reset.pwr)) ∧
  (∀ (m : Nat) (s : State), Quiet s →
     (RegOpen m 0x600078 false s → s.cal.jrnlIndex < 256 * 64 → exec (.calJrnlDataRead m) s = .next { s with
       cal := { s.cal with jrnlIndex := if s.cal.jrnlIndex / 256 = 63 then (s.cal.jrnlIndex + 1) % 256
         else s.cal.jrnlIndex + 256 }
       out := .readReg (jWord s (s.cal.jrnlIndex % 256) (s.cal.jrnlIndex / 256)) :: s.out }) ∧
     (∀ v, RegOpen m 0x1300028 true s → s.clr.tblIndex < tblSize (s.clr.tblSel.toNat % 16) →
       exec (.clrTblDataAccess m (some v)) s = .next { s with clr := { s.clr with
         tblIndex := (s.clr.tblIndex + 1) % 2048
         tblSh := tblSet s.clr.tblSh (s.clr.tblSel.toNat % 16) s.clr.tblIndex
           (v.toNat % 2 ^ tblBits (s.clr.tblSel.toNat % 16)) } }) ∧
     (∀ v, RegOpen m 0x1300028 true s → tblSize (s.clr.tblSel.toNat % 16) ≤ s.clr.tblIndex →
       exec (.clrTblDataAccess m (some v)) s = .next { s with clr := { s.clr with
         tblIndex := (s.clr.tblIndex + 1) % 2048, err := setBit s.clr.err 0 } }) ∧
     (RegOpen m 0x1300028 false s → s.clr.tblIndex < tblSize (s.clr.tblSel.toNat % 16) →
       exec (.clrTblDataAccess m none) s = .next { s with
         clr := { s.clr with tblIndex := (s.clr.tblIndex + 1) % 2048 }
         out := .readReg (BitVec.ofNat 32 (tblGet s.clr.tblSh (s.clr.tblSel.toNat % 16) s.clr.tblIndex)) :: s.out }) ∧
     (∀ v, RegOpen m 0x1500034 true s → exec (.trzRouteDataAccess m (some v)) s = .next { s with trz := { s.trz with
       routeIndex := (s.trz.routeIndex + 1) % 16384, routes := spSet 7 s.trz.routes s.trz.routeIndex (fld v 2 0) } }) ∧
     (RegOpen m 0x1500034 false s → exec (.trzRouteDataAccess m none) s = .next { s with
       trz := { s.trz with routeIndex := (s.trz.routeIndex + 1) % 16384 }
       out := .readReg (BitVec.ofNat 32 (routeOf s s.trz.routeIndex)) :: s.out }) ∧
     (RegOpen m 0x400074 false s → exec (.thTripDataRead m) s = .next { s with
       th := { s.th with tripIndex := (s.th.tripIndex + 1) % 32 }, out := .readReg (tripWord s) :: s.out }))

/-- R190, R217, R219, R220, R243, R264, R299, R316, R317, R324, R381, R382, R388, R405: what the other registers with a
row do when they are written. -/
def Obligations.RegisterWritesAct : Prop :=
  ∀ (m : Nat) (s : State), Quiet s →
    (RegOpen m 0x500004 true s → s.pwr.state = .off → noService s = false → s.cal.running = none →
      (s.scn.timing.isSome = true → mapOk s.pwr.r = true → mapOk s.pwr.g = true → mapOk s.pwr.b = true →
        ∃ t, exec (.panelOnSet m) s = .next t ∧ t.pwr.state = .poweringUp ∧ t.pwr.step = 1 ∧ t.pwr.enLogic = true ∧
          bitOf t.pwr.ctrl 0 = true ∧ apart t = apart { s with pwr := t.pwr }) ∧
      (s.scn.timing = none → ∃ t, exec (.panelOnSet m) s = .next t ∧ t.pwr.state = .faulted ∧ bitOf t.pwr.err 8 = true ∧
        apart t = apart { s with pwr := t.pwr })) ∧
    (RegOpen m 0x500004 true s →
      (s.pwr.state = .on → s.pwr.undoing = false → ∃ t, exec (.panelOnClear m) s = .next t ∧
        t.pwr.state = .poweringDown ∧ bitOf t.pwr.ctrl 0 = false) ∧
      (s.pwr.state = .faulted → s.scn.jobs = [] → ∃ t, exec (.panelOnClear m) s = .next t ∧ t.pwr.state = .off ∧
        bitOf t.pwr.ctrl 0 = false ∧ apart t = apart { s with pwr := t.pwr })) ∧
    (∀ on, RegOpen m 0x500004 true s →
      (s.pwr.state = .off → exec (.pwrseqLegacyWrite m on) s = .next { s with pwr := { s.pwr with
        ctrl := if on then setBit s.pwr.ctrl 1 else clrBit s.pwr.ctrl 1 } }) ∧
      (s.pwr.state ≠ .off → exec (.pwrseqLegacyWrite m on) s = .next s)) ∧
    (RegOpen m 0x400020 true s → s.th.l3Forced = true →
      exec (.thAckL3 m) s = .next { s with th := { s.th with ackL3 := true } }) ∧
    (∀ v i e, RegOpen m 0x400078 true s → s.mram.journal = [(i, e)] → i < 256 → e.valid = true → e.trip = true →
      e.cleared = false →
      (leAt e.content 124 4 = v.toNat → exec (.thTripClear m v) s = .next { s with
        mram := { s.mram with journal := [(i, { e with cleared := true })] }
        th := { s.th with restricted := false, tripRecord := false } }) ∧
      (leAt e.content 124 4 ≠ v.toNat → exec (.thTripClear m v) s = .next s)) ∧
    (∀ v, RegOpen m 0x400010 true s →
      let on := min (sext 16 (fld v 15 0)) 0x640
      let sv := min (sext 16 (fld v 31 16)) 0x6E0
      (sv - on < 64 → exec (.thLimitsWrite m v) s = .next { s with th := { s.th with err := setBit s.th.err 6 } }) ∧
      (64 ≤ sv - on → exec (.thLimitsWrite m v) s = .next { s with th := { s.th with
        limits := put (wrapN 16 on) 0 ||| put (wrapN 16 sv) 16 } })) ∧
    (RegOpen m 0x20004C true s → fwMaster m = true →
      ((s.trn.lock = false ∨ fld s.trn.sel 7 0 < 128) → exec (.trnEntryApply m) s =
        .next (trnSet (fld s.trn.sel 9 8) (fld s.trn.sel 7 0) (spGet {} s.trn.staged (trnKey s)) s)) ∧
      (s.trn.lock = true → 128 ≤ fld s.trn.sel 7 0 → exec (.trnEntryApply m) s = .next s)) ∧
    (∀ v, RegOpen m 0x300008 true s →
      let q := match fld v 1 0 with | 0 => tb0Q s | 1 => tb1Q s | 2 => tb2Q s | _ => tb3Q s
      exec (.clpSnap m v) s = .next { s with clp := { s.clp with snap := qTime q } }) ∧
    (∀ v, RegOpen m 0x300030 true s →
      let q := signedQ (put v.toNat 64 ||| put s.clp.step1.toNat 32 ||| put s.clp.step0.toNat 0)
      (bitOf s.trz.time 8 = true → exec (.clpTb1Step m v) s = .next { s with clp := { s.clp with
        tb1 := s.clp.tb1 + q * 2 ^ 32, slew := if s.scn.state == .stopped then s.clp.slew else s.clp.slew - q } }) ∧
      (bitOf s.trz.time 8 = false → exec (.clpTb1Step m v) s = .next s)) ∧
    (∀ v, RegOpen m 0x30003C true s → exec (.clpTb0OffsetWrite m v) s = .next { s with clp := { s.clp with
      tb0Ofs := setWord s.clp.tb0Ofs 2 v, ofs0New := some (signedQ (setWord s.clp.tb0Ofs 2 v)) } }) ∧
    (∀ v, RegOpen m 0x300048 true s →
      (s.scn.state = .stopped → exec (.clpTb2OffsetWrite m v) s = .next { s with clp := { s.clp with
        tb2Ofs := setWord s.clp.tb2Ofs 2 v, ofs2 := signedQ (setWord s.clp.tb2Ofs 2 v), ofs2New := none } }) ∧
      (s.scn.state ≠ .stopped → exec (.clpTb2OffsetWrite m v) s = .next { s with clp := { s.clp with
        tb2Ofs := setWord s.clp.tb2Ofs 2 v, ofs2New := some (signedQ (setWord s.clp.tb2Ofs 2 v)) } })) ∧
    (∀ v, RegOpen m 0x300058 true s → exec (.clpTb3Set m v) s = .next { s with clp := { s.clp with
      tb3 := timeQ (put v.toNat 64 ||| put s.clp.set1.toNat 32 ||| put s.clp.set0.toNat 0) * 2 ^ 32, tb3Set := true } }) ∧
    (∀ ch, RegOpen m 0x1900020 true s → s.jgl.job = some (.foldCopy ch) →
      (s.jgl.fold.isSome → exec (.jglFoldAck m) s = .next { s with jgl := { s.jgl with foldAck := true } }) ∧
      (s.jgl.fold = none → exec (.jglFoldAck m) s = .next s)) ∧
    (∀ v, RegOpen m 0x1500050 true s → s.trz.portSel < 6 → bitOf s.trz.ctrl 0 = false → exec (.trzPortExpectWrite m v) s =
      .next (modMesh s.trz.portSel (fun x => { x with expect := v &&& 0x80003FFF, miswired := false }) s)) ∧
    (∀ v, RegOpen m 0x1400028 true s →
      (bitOf v 31 = true → (15 < fld v 3 0 ∨ 24 < fld v 12 8 ∨ 63 < 24 + fld v 3 0 + fld v 12 8) →
        exec (.pxGrpFirWrite m v) s = .next { s with px := { s.px with err := setBit s.px.err 9 } }) ∧
      ((bitOf v 31 = false ∨ (fld v 3 0 ≤ 15 ∧ fld v 12 8 ≤ 24 ∧ 24 + fld v 3 0 + fld v 12 8 ≤ 63)) →
        exec (.pxGrpFirWrite m v) s = .next (modGrp s.px.grpSel (fun x => { x with
          fir := put (fld v 3 0) 0 ||| put (fld v 12 8) 8 ||| put (wrapN 6 (63 - (fld v 3 0 : Int) - fld v 12 8)) 16 |||
            put (fld v 26 24) 24 ||| putB (bitOf v 31) 31 }) s))) ∧
    (∀ v, RegOpen m 0x1800028 true s → s.spm.bankSel < 544 → fwMaster m = true → bankSecure s s.spm.bankSel = false →
      let b := s.spm.bankSel
      let asked (k : Nat) : State := modBank b (fun x => { x with req := k }) s
      (fld v 1 0 = 1 → (bankOf s b).power = .on → exec (.spmBankPwrWrite m v) s =
        .next (modBank b (fun x => { x with power := .ret }) (asked 1))) ∧
      (fld v 1 0 = 0 → (bankOf s b).power = .ret → exec (.spmBankPwrWrite m v) s =
        .next (modBank b (fun x => { x with power := .on }) (asked 0))) ∧
      (fld v 1 0 = 0 → (bankOf s b).power = .off → exec (.spmBankPwrWrite m v) s =
        .next (modBank b (fun x => { x with power := .on, zeroing := true }) (bankLose b (asked 0)))) ∧
      (fld v 1 0 = 2 → exec (.spmBankPwrWrite m v) s =
        .next (modBank b (fun x => { x with power := .off, zeroing := false }) (bankLose b (asked 2)))))

/-! ### Resets, supplies and start -/

/-- R386, R390, R391, R412, R446, R450, R451: a power-on reset and the loss of VAON leave every block as after reset but
MRAM and the serial flash. RESET_N, a brownout and a thermal trip leave every block as after reset too, with the panel
powered down first; TB1, TB3, the latches of VAON, MRAM, the flash and the slots are kept, a slot being written is
left EMPTY, the cause is 2 or 8 and the resets are counted. A trip drives THERMTRIP and writes its record. While a
trip, a brownout or a lost VAON holds reset, none of the three does anything. -/
def Obligations.ResetsAndSupplies : Prop :=
  ∀ s : State,
    let fresh (t : State) : Prop := t = { State.reset with
      rm := t.rm, mram := t.mram, clp := t.clp, fw := t.fw, out := t.out, free := t.free, pending := s.pending }
    let keepsFw (t : State) : Prop :=
      t.fw = { State.reset.fw with
        slot0 := t.fw.slot0, slot1 := t.fw.slot1, dirSeq := t.fw.dirSeq, trialBoot := s.fw.trialBoot
        confirms := s.fw.confirms, bootConfirmed := s.fw.bootConfirmed, activeCfg := s.fw.activeCfg, flash := s.fw.flash } ∧
      ((s.fw.session = .idle ∨ s.fw.target ≠ 0) →
        t.fw.slot0 = s.fw.slot0 ∧ t.fw.slot1 = s.fw.slot1 ∧ t.fw.dirSeq = s.fw.dirSeq) ∧
      (s.fw.session ≠ .idle → s.fw.target = 0 → fwSlot t (destIndex s 0) = {})
    let down : Prop := (s.pwr.state = .off ∨ s.pwr.state = .faulted) ∧ s.pwr.fastRun = false ∧ s.pwr.disch = false
    let held : Prop := s.rm.tripped = true ∨ s.rm.brown.isSome ∨ s.rm.vaon = false
    (∀ a, ∃ t, exec (.powerOnReset a) s = .next t ∧ fresh t ∧ keepsFw t ∧ t.mram = s.mram ∧ t.clp = State.reset.clp ∧
      t.out = s.out ∧ t.rm = { State.reset.rm with
        vaon := true, smbAddr := a % 8, lref := s.rm.lref, tamperNow := s.rm.tamperNow, tamperLatch := s.rm.tamperNow }) ∧
    (∃ t, exec .vaonLoss s = .next t ∧ fresh t ∧ keepsFw t ∧ t.mram = s.mram ∧ t.clp = State.reset.clp ∧
      t.rm.vaon = false ∧ t.rm.stage = .por) ∧
    (¬ held →
      (∀ a, ∃ t, exec (.resetNAssert a) s = .next t ∧ fresh t ∧ t.rm.stage = .por ∧ t.rm.resetCause = 2 ∧
        t.rm.smbAddr = a % 8 ∧
        (down → keepsFw t ∧ t.mram = s.mram ∧ t.clp.tb1 = s.clp.tb1 ∧ t.clp.tb3 = s.clp.tb3 ∧
          t.rm = { State.reset.rm with
            resetCause := 2, resets := satAdd 8 s.rm.resets 1, tamperNow := s.rm.tamperNow
            tamperLatch := s.rm.tamperLatch, tripped := s.rm.tripped, brown := s.rm.brown, vaon := s.rm.vaon
            lref := s.rm.lref, smbAddr := a % 8, thermtrip := s.rm.thermtrip, tap := s.rm.tap })) ∧
      (∀ r, ∃ t, exec (.brownout r) s = .next t ∧ fresh t ∧ t.rm.stage = .por ∧ t.rm.resetCause = 8 ∧
        t.rm.brown = some r ∧ (down → s.pwr.state = .off → keepsFw t ∧ t.mram = s.mram ∧ t.clp.tb1 = s.clp.tb1 ∧
          t.rm.resets = satAdd 8 s.rm.resets 1))) ∧
    (Quiet s → held → (∀ a, exec (.resetNAssert a) s = .next s) ∧ (∀ r, exec (.brownout r) s = .next s)) ∧
    (Quiet s → exec .brownoutEnd s = .next { s with rm := { s.rm with brown := none } }) ∧
    (∀ i temp prev, i < 40 → s.rm.tripped = false → s.rm.vaon = true → sensServes s i = true →
      2000 ≤ temp → temp ≤ 2400 → 2000 ≤ prev → prev ≤ 2400 →
      ∃ t, exec (.thermalTrip i temp prev) s = .next t ∧ fresh t ∧ t.rm.tripped = true ∧ t.rm.thermtrip = true ∧
        (down → s.mram.journal = [] → ∃ e, t.mram.journal = [((s.mram.jrnlNewest + 1) % 256, e)] ∧ e.valid = true ∧
          e.trip = true ∧ e.hw = true ∧ e.cleared = false ∧ e.content = (tripRecord i temp prev s).take 224)) ∧
    (Quiet s → ∀ i temp prev, i < 40 → (temp < 2000 ∨ prev < 2000 ∨ s.rm.tripped = true) →
      exec (.thermalTrip i temp prev) s = .next s)

/-- R266, R402, R451, R455: TAMPER_N while reset is held is latched; otherwise it wipes the secure part of the Scratchpad,
whose bytes then read 0, and destroys the link key. The end of a wipe that verified says so in SPM_WIPE; banks that
fail the first time are wiped once more, and one that fails again is powered off with WIPE_FAIL set. LREFCLK lost
while running brings DRAM into self-refresh, and its return takes it out; before TRAIN its absence is logged only. -/
def Obligations.TamperAndClock : Prop :=
  ∀ s : State, Quiet s →
    (s.rm.stage = .por → exec .tamperAssert s =
      .next { s with rm := { s.rm with tamperNow := true, tamperLatch := true } }) ∧
    (s.rm.stage ≠ .por → ∃ t, exec .tamperAssert s = .next t ∧ t.rm.tamperNow = true ∧ t.rm.tamperSeen = true ∧
      t.rm.tamperWipes = satAdd 8 s.rm.tamperWipes 1 ∧ t.trz.key = none ∧ t.fw.session = .idle ∧
      t.spm.wipeActive = true ∧ t.spm.wipeCause = 1 ∧ t.spm.wipePassed = false ∧
      (∀ l a, l < 16 → a < bankSize → memByte 0 t.spm.mem (bankPhys s l * bankSize + a) = 0)) ∧
    (∀ failed, s.spm.wipeActive = false → exec (.secureWipeDone failed) s = .next s) ∧
    (s.spm.wipeActive = true → exec (.secureWipeDone []) s =
      .next (log .spmWipe [s.spm.wipeCause, 1] { s with spm := { s.spm with
        wipeActive := false, wipeRetry := [], wipePassed := true, wipes := satAdd 16 s.spm.wipes 1 } })) ∧
    (∀ failed, failed ≠ [] → s.spm.wipeActive = true → s.spm.wipeRetry = [] →
      exec (.secureWipeDone failed) s = .next { s with spm := { s.spm with wipeRetry := failed } }) ∧
    (∀ failed l, l ∈ failed → l ∈ s.spm.wipeRetry → l < 16 → s.spm.wipeActive = true →
      ∃ t, exec (.secureWipeDone failed) s = .next t ∧ t.spm.wipeActive = false ∧ t.spm.wipePassed = false ∧
        bitOf t.spm.err 3 = true ∧ (bankPhys s l < 512 → (bankOf t (bankPhys s l)).power = .off)) ∧
    (s.rm.lref = true →
      (s.rm.stage = .por → exec .clkLrefLost s = .next { s with rm := { s.rm with lref := false } }) ∧
      ((s.rm.stage = .rom ∨ s.rm.stage = .load ∨ s.rm.stage = .train) → exec .clkLrefLost s =
        .next (log .clkLrefAbsent [] { s with rm := { s.rm with lref := false } })) ∧
      (s.rm.stage = .ready → ∃ t, exec .clkLrefLost s = .next t ∧ t.rm.lref = false ∧ t.jgl.selfRefresh = true) ∧
      exec .clkLrefReturn s = .next s) ∧
    (s.rm.lref = false →
      exec .clkLrefLost s = .next s ∧
      (s.jgl.selfRefresh = false → exec .clkLrefReturn s = .next { s with rm := { s.rm with lref := true } }) ∧
      (s.jgl.selfRefresh = true → s.jgl.state ≠ .switching → ∃ t, exec .clkLrefReturn s = .next t ∧
        t.rm.lref = true ∧ t.jgl.selfRefresh = false))

/-- R266, R348, R393, R394, R396, R399, R400, R424, R455: the stages of start. POR counts the boot, carries out a latched
tamper as a wipe, whose banks that fail twice show in WIPE_FAIL, and goes on to ROM. ROM runs the CONFIRMED slot, or
makes a PENDING one a TRIAL, where the image checks; a RETIRED device stays in RECOVERY. LOAD lays the waveform
section into the three copies of R148 and takes the configuration; TRAIN applies the committed spare map, writes the
backing copies of the waveform (at the model's address: log entry 135) and of the tables, and waits for LREFCLK; CHECK
gives every unit the generation of this start and enters READY. A stage that is not the present one does nothing. A
commitment that failed is tried again. -/
def Obligations.StartStages : Prop :=
  ∀ s : State, Quiet s →
    (∀ v w, s.rm.stage ≠ .por → exec (.bootPorDone v w) s = .next s) ∧
    (s.rm.stage = .por → s.rm.brown = none → s.rm.tripped = false → s.rm.vaon = true → s.rm.tamperLatch = false →
      s.mram.pending = none → s.rm.lref = true → ∀ v w, exec (.bootPorDone v w) s = .next { s with
        mram := { s.mram with bootCount := (s.mram.bootCount + 1) % 2 ^ 32 }
        rm := { s.rm with stage := .rom } }) ∧
    (s.rm.stage = .por → s.rm.brown = none → s.rm.tripped = false → s.rm.vaon = true → s.rm.tamperLatch = true →
      s.mram.pending = none → ∀ v w, ∃ t, exec (.bootPorDone v w) s = .next t ∧ t.rm.stage = .rom ∧
        t.rm.tamperLatch = false ∧ t.rm.tamperSeen = true ∧ t.spm.wipeCause = 1 ∧
        (v.first = [] → t.spm.wipeActive = false ∧ t.spm.wipePassed = true) ∧
        (∀ l, l ∈ v.first → l ∈ v.second → l < 16 → t.spm.wipePassed = false ∧ bitOf t.spm.err 3 = true)) ∧
    (s.rm.stage ≠ .rom → exec .bootRomDone s = .next s) ∧
    (s.rm.stage = .rom → s.mram.lifecycle ≠ .retired →
      (∀ i, slotIn s .pending = none → slotIn s .trial = none → slotIn s .confirmed = some i →
        imgOk s 0 (slotImage s i) = true → exec .bootRomDone s = .next { s with rm := { s.rm with
          stage := .load, runSlot := i, trialIndex := 0, wdogRunning := true, wdogStart := mtOf s } }) ∧
      (∀ i, slotIn s .pending = some i → imgOk s 0 (slotImage s i) = true →
        ∃ t, exec .bootRomDone s = .next t ∧ t.rm.stage = .load ∧ t.rm.runSlot = i ∧ t.rm.trialIndex = 1 ∧
          (fwSlot t i).state = .trial ∧ fwSlot t (1 - i) = fwSlot s (1 - i) ∧ t.fw.trialBoot = 1 ∧
          t = { s with rm := t.rm, fw := t.fw }) ∧
      (slotIn s .pending = none → slotIn s .trial = none → slotIn s .confirmed = none → slotIn s .valid = none →
        ∃ t, exec .bootRomDone s = .next t ∧ t.rm.stage = .recovery ∧ t = { s with rm := t.rm })) ∧
    (s.rm.stage = .rom → s.mram.lifecycle = .retired →
      ∃ t, exec .bootRomDone s = .next t ∧ t.rm.stage = .recovery ∧ t = { s with rm := t.rm }) ∧
    (∀ c, s.rm.stage ≠ .load → exec (.bootLoadDone c) s = .next s) ∧
    (∀ c, s.rm.stage = .load → ∃ t, exec (.bootLoadDone c) s = .next t ∧ t.rm.stage = .train ∧
      (s.spm.map = [] → s.spm.banks = [] → s.spm.bringIn = none → ∀ n off, n < 3 → off < imageLen →
        waveCell t n off = some (memByte 0 (memWrite 0 [] 0 (sectionOf (slotImage s s.rm.runSlot) 3)) off)) ∧
      t.log.codes = c.dictCodes ∧ t.px.config = c.partnerConfig ∧
      (s.fw.activeCfg < 2 → imgOk s 1 (copyImage s s.fw.activeCfg) = true →
        t.rm.cfgCopy = s.fw.activeCfg ∧ t.hq.portLock = true ∧ t.trn.lock = true ∧ t.fw.confirmLock = true ∧
        t.hq.subsystem = c.subsystem)) ∧
    (∀ e, s.rm.stage ≠ .train ∨ s.rm.lref = false → exec (.bootTrainDone e) s = .next s) ∧
    (∀ e, s.rm.stage = .train → s.rm.lref = true → ∃ t, exec (.bootTrainDone e) s = .next t ∧ t.rm.stage = .check ∧
      (∀ w, w = sectionOf (slotImage s s.rm.runSlot) 3 → w ≠ [] → waveBacking + w.length ≤ t.jgl.limit →
        t.jgl.mem = memWrite 0 s.jgl.mem waveBacking w) ∧
      t.clr.backing = s.clr.tblAct ∧ t.hom.pipeMap = (mapInForce s.mram).homMap ∧
      t.spm.map = (mapInForce s.mram).spmMap ∧ t.px.sliceMap = (mapInForce s.mram).pxMap) ∧
    (∀ e, s.rm.stage ≠ .check → exec (.bootCheckDone e) s = .next s) ∧
    (∀ e, s.rm.stage = .check → s.hq.early = [] → ∃ t, exec (.bootCheckDone e) s = .next t ∧ t.rm.stage = .ready ∧
      t.genBase = BitVec.ofNat 16 (256 * s.mram.bootCount) ∧ ((tripSlot s).isSome → t.th.restricted = true)) ∧
    (∀ ok, s.cal.retryMap = false → exec (.mramCommitRetry ok) s = .next s) ∧
    (s.cal.retryMap = true → ∃ t, exec (.mramCommitRetry true) s = .next t ∧ t.cal.retryMap = false ∧
      mapInForce t.mram = { mapNow s with seq := (mapInForce s.mram).seq + 1 }) ∧
    (s.cal.retryMap = true → ∃ t, exec (.mramCommitRetry false) s = .next t ∧ t.cal.retryMap = true ∧
      bitOf t.cal.err 3 = true ∧ t.mram = s.mram)

/-! ### The mailbox -/

/-- R325, R345, R346, R394, R442: a packet that does not end its message adds its bytes to the assembly of its tag, which
SOM begins anew; one for another address, with a bad PEC, or with no assembly to extend, is discarded, and one out of
sequence ends its message (log 45). A whole message of type 0x7E, this vendor and this version is a request; any
other, and one not assembled in time, is discarded and counted. A request beyond the fourth outstanding is answered
BUSY, one that fails a check of R333 with its status, and any other runs under the mailbox's tag. The last response
collected frees its tag and releases SMB_ALERT_N. Control messages are answered from ROM on. -/
def Obligations.MailboxMessages : Prop :=
  ∀ s : State, Quiet s →
    (∀ p : McPacket, p.msgTag < 8 →
      let others := s.hq.assembling.filter fun a => a.msgTag != p.msgTag
      let dropped : State := { s with hq := { s.hq with
        assembling := others, mboxDiscard := satAdd 16 s.hq.mboxDiscard 1 } }
      let b := (if p.som then [] else ((assemblyOf p.msgTag s).map (·.bytes)).getD []) ++ p.bytes
      let taken : Prop := p.addr = 0x40 + s.rm.smbAddr % 8 ∧ p.pecOk = true ∧ p.bytes.length ≤ 64 ∧
        (p.som = true ∨ (assemblyOf p.msgTag s).isSome)
      let inTurn : Prop := p.som = true ∨ ∃ a, assemblyOf p.msgTag s = some a ∧ p.seq % 4 = a.seq
      let request : Prop := byteAt b 0 = 0x7E ∧ leAt b 1 2 = 0x1F2B ∧ byteAt b 3 = 1 ∧ 7 ≤ b.length
      (¬ taken → exec (.mctpPacket p) s = .next s) ∧
      (taken → ¬ inTurn → exec (.mctpPacket p) s = .next dropped) ∧
      (taken → inTurn → p.eom = false → exec (.mctpPacket p) s =
        .next { s with hq := { s.hq with assembling := others ++ [⟨p.msgTag, b, (p.seq + 1) % 4⟩] } }) ∧
      (taken → inTurn → p.eom = true → request → exec (.mctpPacket p) s =
        exec (.mctpRequest p.msgTag (b.drop 7)) { s with hq := { s.hq with assembling := others } }) ∧
      (taken → inTurn → p.eom = true → ¬ request → exec (.mctpPacket p) s = .next dropped)) ∧
    (∀ t, (assemblyOf t s = none → exec (.mctpAssemblyTimeout t) s = .next s) ∧
      ((assemblyOf t s).isSome → exec (.mctpAssemblyTimeout t) s = .next { s with hq := { s.hq with
        assembling := s.hq.assembling.filter fun a => a.msgTag != t
        mboxDiscard := satAdd 16 s.hq.mboxDiscard 1 } })) ∧
    (∀ t b,
      let hd := parseHead b
      let h := { headHdr (.mbox t) hd with quiet := false }
      (served s = false → exec (.mctpRequest t b) s = .next s) ∧
      (served s = true → 4 ≤ s.hq.mboxOut.length →
        exec (.mctpRequest t b) s = .next (refuse hd.opcode h .busy 0 s)) ∧
      (served s = true → s.hq.mboxOut.length < 4 →
        ((hd.length < 4 ∨ 4096 < hd.length ∨ b.length < 4 * hd.length) →
          exec (.mctpRequest t b) s = .next (refuse hd.opcode h .lengthRange 0 (mailboxOut t s))) ∧
        (4 ≤ hd.length → hd.length ≤ 4096 → 4 * hd.length ≤ b.length →
          (∀ st, packetCheck b = .error st →
            exec (.mctpRequest t b) s = .next (refuse hd.opcode h st 0 (mailboxOut t s))) ∧
          (packetCheck b = .ok .nop →
            exec (.mctpRequest t b) s = exec (.nop (headHdr (.mbox t) hd)) (mailboxOut t s)) ∧
          (∀ p, packetCheck b = .ok (.calRead p) →
            exec (.mctpRequest t b) s = exec (.calRead (headHdr (.mbox t) hd) p) (mailboxOut t s))))) ∧
    (s.hq.mboxResp = [] → exec .mctpResponseCollected s = .next s) ∧
    (∀ t last r, s.hq.mboxResp = (t, last) :: r → exec .mctpResponseCollected s = .next { s with hq := { s.hq with
      mboxResp := r, alert := !r.isEmpty, mboxOut := if last then s.hq.mboxOut.erase t else s.hq.mboxOut } }) ∧
    (∀ c, s.rm.stage = .por → exec (.mctpControlMessage c) s = .next s) ∧
    (s.rm.stage ≠ .por →
      (∀ e, e ≠ 0 → e ≠ 0xFF → exec (.mctpControlMessage (.setEid e)) s =
        .next { s with hq := { s.hq with eid := e }, out := .mctpControl (.setEid e) [0, 0, e, 0] :: s.out }) ∧
      exec (.mctpControlMessage .getEid) s = .next { s with out := .mctpControl .getEid [0, s.hq.eid, 0, 0] :: s.out } ∧
      exec (.mctpControlMessage .getTypes) s = .next { s with out := .mctpControl .getTypes [0, 1, 0x7E] :: s.out })

/-! ### The Trapeze -/

/-- R303 to R305, R313, R314: a frame of a class that the link state does not pass is not received. One whose CRC or link
sequence number does not fit draws one NAK with the number awaited; later frames draw none until the replay, which
draws another when it fails again. One whose counter or MAC fails is counted and NAKed, and the third in a second
takes the port's unit OFFLINE and begins the handshake anew; one that is malformed is counted as bad. The frames this
device forms pass those same checks at a port that awaits them (the layout of their payloads is open:
Config.meshLayout). -/
def Obligations.FramesAreChecked : Prop :=
  (∀ (c : Instr) (p cls kind : Nat) (b : List Byte) (s : State), frameRow c = some (p, cls, kind, b) → p < 6 → Quiet s →
    let m := meshPort s p
    let again : Prop := m.rxNak = false ∨ frameLseq b = m.rxSeq
    let fails := mtOf s :: m.macFails.filter fun t => decide (mtOf s < t + 1000)
    (meshPasses m.link cls = false → exec c s = .next s) ∧
    (meshPasses m.link cls = true → (frameCrcOk b = false ∨ frameLseq b ≠ m.rxSeq) →
      (¬ again → exec c s = .next s) ∧
      (again → ∃ t, exec c s = .next t ∧ (meshPort t p).rxNak = true ∧ apart t = apart s ∧
        (m.waiting = [] → 0 < creditOf m 0 → (m.replay.map meshFrameSize).sum ≤ 258000 →
          ∃ frame rows, t.out = .mesh p 0 kNak [m.rxSeq] [] frame rows :: s.out))) ∧
    (meshPasses m.link cls = true → frameCrcOk b = true → frameLseq b = m.rxSeq →
      (frameMacOk m cls b = false → ∃ t, exec c s = .next t ∧ (meshPort t p).authBad = satAdd 32 m.authBad 1 ∧
        (3 ≤ fails.length → (meshPort t p).link = .auth ∧ (meshPort t p).session = none) ∧
        (fails.length < 3 → apart t = apart s ∧ (meshPort t p).rxNak = true ∧ (meshPort t p).macFails = fails)) ∧
      (frameMacOk m cls b = true → frameFormOk cls kind b = false → ∃ t, exec c s = .next t ∧ apart t = apart s ∧
        (meshPort t p).badFrames = satAdd 32 m.badFrames 1 ∧ (meshPort t p).rxSeq = (m.rxSeq + 1) % 256))) ∧
  (∀ (f : MeshFrame) (ts : Time96) (session : Option (BitVec 384)) (m : MeshPort),
    f.cls < 7 → f.dst < 16384 → f.src < 16384 → f.hops < 256 → f.lseq < 256 → f.payload.length % 16 = 0 →
    f.payload.length ≤ 4096 → f.ctr = (if session.isSome ∧ f.cls ≠ 2 then m.rxCtr + 1 else 0) → m.rxCtr + 1 < 2 ^ 32 →
    m.session = session →
    let b := meshBytes session ts f
    frameCrcOk b = true ∧ frameFormOk f.cls f.kind b = true ∧ frameMacOk m f.cls b = true ∧ framePayload b = f.payload ∧
      frameLseq b = f.lseq ∧ frameDst b = f.dst ∧ frameSrc b = f.src ∧ frameHops b = f.hops ∧ frameTs b = ts)

/-- R300 to R302, R307, R309, R311, R312, R315: what the frames that pass do. A routed frame for this device is delivered,
one for another leaves by its route with one hop less, and one without a route, or with no hop left, is dropped and
counted at its arrival port. A user message lands in the receive ring (in the scratchpad at the model's place: log
entry 80), or is dropped where 64 wait; its acknowledgement completes MESH_SEND. A completion completes the command
sent to a remote device, and its interim entry is passed on as one; a command of a listed gateway runs once it is
whole, one of another is refused. A halo fragment lands in its edge's part of the frame's slot through the port's
regulator and joins its strip (the placing is the model's: log entry 145), or is counted as bad; a cancel discards the
strips its port brought, and the slot with the last of them (log entry 146). HELLO is answered and records the peer's
nonce, and PROOF, where it is right, makes the session and the link ACTIVE, and otherwise AUTH_FAIL. -/
def Obligations.FramesAct : Prop :=
  ∀ (p : Nat) (b : List Byte) (s : State),
    let here : Prop := frameDst b = trzId s ∨ routeOf s (frameDst b) = 6
    let e := routeOf s (frameDst b)
    (FrameArrives p 6 kMessage b s → ∀ id msg,
      (¬ here → (frameHops b ≤ 1 ∨ 6 ≤ e ∨ meshActive s e = false) →
        ∃ t, exec (.trzUserMsgRx p b id msg) s = .next t ∧ bitOf t.trz.err 4 = true ∧
          (meshPort t p).drop = satAdd 32 (meshPort s p).drop 1 ∧
          apart t = apart { s with trz := { s.trz with err := t.trz.err } }) ∧
      (¬ here → 1 < frameHops b → e < 6 → meshActive s e = true →
        ∃ t, exec (.trzUserMsgRx p b id msg) s = .next t ∧ apart t = apart s ∧
          (e ≠ p → (meshPort s e).waiting = [] → 0 < creditOf (meshPort s e) 6 →
            ((meshPort s e).replay.map meshFrameSize).sum ≤ 258000 →
            ∃ frame rows, .mesh e 6 kMessage [id] msg frame rows ∈ t.out ∧ frameHops frame = frameHops b - 1 ∧
              framePayload frame = framePayload b ∧ frameTs frame = frameTs b ∧ frameDst frame = frameDst b ∧
              frameSrc frame = frameSrc b)) ∧
      (here →
        (s.trz.ring.length < 64 → ∃ t, exec (.trzUserMsgRx p b id msg) s = .next t ∧
          t.spm = (spmWrite (ringSlot s.trz.ringNext) msg (meshTake p 6 s)).spm ∧
          apart t = apart { s with
            trz := { s.trz with
              ring := s.trz.ring ++ [(frameSrc b, ringSlot s.trz.ringNext, msg.length)]
              ringNext := (s.trz.ringNext + 1) % 64 }
            spm := t.spm }) ∧
        (64 ≤ s.trz.ring.length → ∃ t, exec (.trzUserMsgRx p b id msg) s = .next t ∧
          apart t = apart { s with trz := { s.trz with rxDrop := satAdd 32 s.trz.rxDrop 1 } }))) ∧
    (FrameArrives p 6 kMsgAck b s → here → ∀ id i h, (s.trz.sends.find? fun x => x.1 == id) = some (i, h) →
      ∃ u, exec (.trzMsgAckRx p b id) s = .next (complete 0xA0 h .ok 0 u) ∧
        apart u = apart { s with trz := { s.trz with sends := s.trz.sends.filter fun x => x.1 != id } }) ∧
    (FrameArrives p 5 kRequest b s → here → ∀ id addr len ans,
      ∃ t, exec (.trzDataRequestRx p b id addr len ans) s = .next t ∧ apart t = apart s ∧
        ∀ port, hostLink s = some port → gwWindow s (frameSrc b) addr len = true → .hostRead port addr len ∈ t.out) ∧
    (FrameArrives p 5 kResponse b s → here → ∀ id ans r,
      let mine (r : DataReq) : Bool := r.parts.any fun q => q.1 == id && q.2.isNone
      s.trz.dataReqs.find? mine = some r →
      (∀ q k, r.parts = [(id, none)] → r.cmd = .frameSubmit q → stagingOf r.hdr s = some k → k < 4 →
        exec (.trzDataResponseRx p b id ans) s = exec (.streamedFrameLanded k ans)
          { meshTake p 5 s with trz := { (meshTake p 5 s).trz with
            dataReqs := s.trz.dataReqs.filter fun x => !mine x } }) ∧
      ((r.parts.any fun q => q.1 != id && q.2.isNone) = true →
        ∃ t, exec (.trzDataResponseRx p b id ans) s = .next t ∧ apart t = apart { s with trz := { s.trz with
          dataReqs := s.trz.dataReqs.map fun x => if mine x then { x with
            parts := r.parts.map fun q => if q.1 = id then (q.1, some ans) else q } else x } })) ∧
    (FrameArrives p 4 kCommand b s → here → ∀ id packet,
      (s.trz.mgmtIn.any fun x => x.1 == p && x.2.1 == frameSrc b && x.2.2.1 == id) = false →
      let whole : Prop := packet.length < 4096 ∨ 4 * (parseHead packet).length ≤ packet.length
      (¬ whole → ∃ t, exec (.trzMgmtRx p b (.command id packet)) s = .next t ∧
        apart t = apart { s with trz := { s.trz with mgmtIn := s.trz.mgmtIn ++ [(p, frameSrc b, id, packet)] } }) ∧
      (whole → gwAccepted s (frameSrc b) = false → ∃ t, exec (.trzMgmtRx p b (.command id packet)) s = .next t ∧
        bitOf t.trz.err 3 = true ∧ apart t = apart { s with trz := { s.trz with err := t.trz.err } }) ∧
      (gwAccepted s (frameSrc b) = true → served s = true → 4 ≤ (parseHead packet).length →
        (parseHead packet).length ≤ 4096 → 4 * (parseHead packet).length ≤ packet.length →
        packetCheck packet = .ok .nop → exec (.trzMgmtRx p b (.command id packet)) s =
          exec (.nop (headHdr (.mesh p (frameSrc b) id) (parseHead packet))) (meshTake p 4 s))) ∧
    (FrameArrives p 4 kCompletion b s → here → ∀ id st d i h op, (s.trz.gwOut.find? fun g => g.1 == id) = some (i, h, op) →
      (st ≠ 2 → ∃ u, exec (.trzMgmtRx p b (.completion id st d)) s = .next (complete op h (statusOf st.toNat) d u) ∧
        apart u = apart { s with trz := { s.trz with gwOut := s.trz.gwOut.filter fun g => g.1 != id } }) ∧
      (st = 2 → exec (.trzMgmtRx p b (.completion id st d)) s =
        .next (deliver h (mkCpl h op .queued true d (meshTake p 4 s)) [] (meshTake p 4 s)))) ∧
    (FrameArrives p 3 kFragment b s →
      let q := timeQ (frameTs b)
      let pl := framePayload b
      let dat := pl.drop 16
      let plane := leAt pl 0 1
      let off := leAt pl 4 4
      (edgeOfPort s p = none → ∃ t, exec (.trzHaloFragmentRx p b) s = .next t ∧ bitOf t.trz.err 0 = true ∧
        t.trz.haloBad = satAdd 32 s.trz.haloBad 1 ∧ t.trz.strips = s.trz.strips ∧
        apart t = apart { s with trz := { s.trz with err := t.trz.err, haloBad := t.trz.haloBad } }) ∧
      (∀ e slot, edgeOfPort s p = some e → leAt pl 1 1 = facingEdge e → targetOk s q = true →
        geometryOk s q e plane (leAt pl 8 2) = true → haloRoom s q = some slot → stripHeld s q e plane = none →
        let addr := fragAddr s slot q e plane off dat.length
        let k := flits addr dat.length
        dat ≠ [] → off + dat.length ≤ edgeAllowance e → addr + dat.length ≤ edgeAddr slot e + edgeAllowance e →
        regIssues (2 + p) k s = true → trnCheck s 0 (18 + p) .w addr dat.length = .pass →
        dramInside s addr dat.length = true →
        ∃ t st, exec (.trzHaloFragmentRx p b) s = .next t ∧
          t.trz.strips = (s.trz.strips.filter fun x => !(x.target == q && x.edge == e && x.plane == plane)) ++ [st] ∧
          st.target = q ∧ st.edge = e ∧ st.plane = plane ∧ (off, addr, dat.length) ∈ st.frags ∧
          t.jgl = (dramPut addr dat (regDrain (2 + p) k s)).jgl ∧
          apart t = apart { s with
            trz := { s.trz with strips := t.trz.strips, haloSlots := putAt s.trz.haloSlots slot q }, jgl := t.jgl })) ∧
    (FrameArrives p 3 kCancel b s → ∀ at_,
      let left := s.trz.strips.filter fun st => !(st.port == p && st.target == timeQ at_)
      ∃ t, exec (.trzHaloCancelRx p b at_) s = .next t ∧ apart t = apart { s with trz := { s.trz with
        strips := left
        haloSlots := if left.any (fun st => st.target == timeQ at_) then s.trz.haloSlots
          else s.trz.haloSlots.filter fun c => c.2 != timeQ at_ } }) ∧
    (FrameArrives p 2 kHello b s → ∀ peer nonce own,
      let m := meshPort s p
      ∃ t, exec (.trzHelloRx p b peer nonce own) s = .next t ∧ apart t = apart s ∧
        (meshPort t p).peer = peer % 16384 ∧ (meshPort t p).peerNonce = nonce ∧
        (meshPort t p).ownNonce = if m.ownNonce = [] ∨ m.peerNonce ≠ [] then own else m.ownNonce) ∧
    (FrameArrives p 2 kProof b s → ∀ proof, (meshPort s p).ownNonce ≠ [] → (meshPort s p).peerNonce ≠ [] →
      let m := meshPort s p
      (proof = proofOf s m.peer (trzId s) m.peerNonce m.ownNonce → (m.link = .auth ∨ m.link = .authFail) →
        ∃ t, exec (.trzProofRx p b proof) s = .next t ∧ (meshPort t p).link = .active ∧
          (meshPort t p).session = some (sessionOf s m) ∧ (meshPort t p).rxCtr = 0 ∧ t.spm = s.spm ∧ t.clp = s.clp) ∧
      (proof ≠ proofOf s m.peer (trzId s) m.peerNonce m.ownNonce →
        ∃ t, exec (.trzProofRx p b proof) s = .next t ∧ (meshPort t p).link = .authFail ∧
          (meshPort t p).session = none ∧ bitOf t.trz.err 2 = true))

/-- R190, R195, R295 to R298, R300, R301, R305, R312, R314: training sets that check carry the peer's identity and BAD
map; eight TS1 without a request lead to sixteen TS2. A training ends once sixteen TS2 have come after sixteen sent:
it finds the lanes in use, outside both BAD maps, and leads to AUTH, to ACTIVE, or to FAILED below 7 lanes; a peer
that TRZ_PORT_EXPECT does not name makes the port MISWIRED. One training more follows the first that times out, then
FAILED. A second lane window in succession over the limit is a lasting fault: the lane goes into BAD, the port
retrains, and the commit follows that retraining. Loss of lock and a credit stall retrain; a handshake that times out
is AUTH_FAIL. An acknowledgement empties the replay buffer up to its frame; a NAK replays from it, a second one of the
same frame retrains; credits are added. A frame that waited too long is dropped, and a remote command that had no
answer completes with TIMEOUT. -/
def Obligations.MeshPortsRun : Prop :=
  ∀ (p : Nat) (s : State), p < 6 → Quiet s →
    let m := meshPort s p
    (meshTraining m = false → (∀ ts, exec (.trzTsRx p ts) s = .next s) ∧ exec (.trzTrainTimeout p) s = .next s ∧
      (∀ r, exec (.trzTrainDone p r) s = .next s)) ∧
    (∀ ts : TsBytes, meshTraining m = true → tsCheck ts = true →
      let met : State := modMesh p (fun m => { m with
        peer := leAt ts 7 2 % 16384, peerPort := fld (byteAt ts 2) 2 0
        peerBad := m.peerBad ||| BitVec.ofNat 16 (leAt ts 9 2) }) s
      (byteAt ts 0 = 0x2D → meshExpects m (leAt ts 7 2) = true →
        (m.cfg = true → exec (.trzTsRx p ts) s = .next (modMesh p (fun m => { m with ts2Rx := m.ts2Rx + 1 }) met)) ∧
        (m.cfg = false → exec (.trzTsRx p ts) s = .next met)) ∧
      (byteAt ts 0 = 0x1E → meshExpects m (leAt ts 7 2) = true → m.cfg = false → bitOf (byteAt ts 3) 0 = false →
        bitOf (byteAt ts 3) 2 = false →
        (m.eqOk + 1 < 8 → exec (.trzTsRx p ts) s = .next (modMesh p (fun m => { m with eqOk := m.eqOk + 1 }) met)) ∧
        (8 ≤ m.eqOk + 1 → ∃ t, exec (.trzTsRx p ts) s = .next t ∧ (meshPort t p).cfg = true ∧
          (meshPort t p).ts2Tx = m.ts2Tx + 16 ∧ apart t = apart s))) ∧
    (∀ r, meshTraining m = true →
      ((m.ts2Rx < 16 ∨ m.ts2Tx < 16) → exec (.trzTrainDone p r) s = .next s) ∧
      (16 ≤ m.ts2Rx → 16 ≤ m.ts2Tx →
        (meshExpects m r.peer = false → ∃ t, exec (.trzTrainDone p r) s = .next t ∧ (meshPort t p).miswired = true ∧
          (meshPort t p).link = .disabled ∧ bitOf t.trz.err 5 = true) ∧
        (meshExpects m r.peer = true → r.failed = [] →
          let out := m.bad ||| (m.peerBad ||| r.bad)
          (m.sparing = [] → ∃ t, exec (.trzTrainDone p r) s = .next t ∧ (meshPort t p).bad = m.bad ∧
            (meshPort t p).w = meshWidth out ∧ (meshPort t p).active = goodLanes out (meshWidth out) ∧
            (meshPort t p).peer = r.peer % 16384 ∧
            (meshPort t p).link = (if meshWidth out = 0 then .failed else if authReq s p then .auth else .active) ∧
            t.mram = s.mram ∧ t.clp = s.clp) ∧
          (m.sparing ≠ [] → m.commitOk = true → ∃ t, exec (.trzTrainDone p r) s = .next t ∧ (meshPort t p).sparing = [] ∧
            (meshPort t p).bad = m.bad ∧ spGet 0 (mapInForce t.mram).trzBad p = m.bad.toNat)) ∧
        (∀ l, meshExpects m r.peer = true → l < 16 → bitOf m.bad l = false → r.failed = [l] → m.sparing = [] →
          meshWidth (setBit (m.bad ||| (m.peerBad ||| r.bad)) l) ≠ 0 →
          ∃ t, exec (.trzTrainDone p r) s = .next t ∧ bitOf t.trz.err 6 = true ∧ (meshPort t p).bad = m.bad))) ∧
    ((m.link = .training ∨ m.link = .retrain) →
      (m.fails = 0 → ∃ t, exec (.trzTrainTimeout p) s = .next t ∧ (meshPort t p).link = m.link ∧
        (meshPort t p).fails = 1 ∧ apart t = apart s) ∧
      (m.fails ≠ 0 → ∃ t, exec (.trzTrainTimeout p) s = .next t ∧ (meshPort t p).link = .failed)) ∧
    (m.link = .failed → meshEnabled s p = true → ∃ t, exec (.trzFailedRetry p) s = .next t ∧
      (meshPort t p).retrying = true ∧ (meshPort t p).link = .failed ∧ (meshPort t p).firIn = m.fir ∧ apart t = apart s) ∧
    (∀ lane n, lane < 16 → m.link = .active →
      (16 < n → lane ∈ m.laneOver → exec (.trzLaneWindow p lane n) s = .next (unitLasting 4 p (trzErr 6 s))) ∧
      (16 < n → lane ∉ m.laneOver → ∃ t, exec (.trzLaneWindow p lane n) s = .next t ∧
        lane ∈ (meshPort t p).laneOver ∧ apart t = apart s) ∧
      (n ≤ 16 → lane ∉ m.laneOver → exec (.trzLaneWindow p lane n) s = .next s) ∧
      (∀ ok, lastingTurn s 4 p = true → ∃ t, exec (.trzLaneSpare p lane ok) s = .next t ∧
        (meshPort t p).bad = setBit m.bad lane ∧ (meshPort t p).link = .retrain ∧ lane ∈ (meshPort t p).sparing ∧ (meshPort t p).commitOk = ok ∧
        t.mram = s.mram)) ∧
    (m.link = .active → m.w = 15 → (unitOf s 4 p).state = .degraded →
      exec (.trzPortCleanWindow p) s = .next (unitTo 4 p .online 6 s)) ∧
    ((m.link ≠ .active ∨ m.w ≠ 15 ∨ (unitOf s 4 p).state ≠ .degraded) →
      exec (.trzPortCleanWindow p) s = .next s) ∧
    (m.link = .active → ∃ t, exec (.meshLossOfLock p) s = .next t ∧ (meshPort t p).link = .retrain ∧
      (meshPort t p).session = none ∧ (meshPort t p).replay = m.replay ∧ apart t = apart s ∧
      (m.waiting ≠ [] → exec (.trzCreditStall p) s = .next t) ∧
      (m.waiting = [] → exec (.trzCreditStall p) s = .next s)) ∧
    (m.link = .auth → ∃ t, exec (.trzAuthTimeout p) s = .next t ∧ (meshPort t p).link = .authFail ∧
      bitOf t.trz.err 2 = true) ∧
    (m.link = .authFail → ∀ nonce, ∃ t, exec (.trzAuthRetry p nonce) s = .next t ∧ (meshPort t p).ownNonce = nonce ∧
      (meshPort t p).peerNonce = [] ∧ apart t = apart s) ∧
    (∀ b l, m.link = .active → (m.replay.any fun f => f.lseq == l) = true →
      let s1 := meshTake p 0 s
      let m1 := meshPort s1 p
      let left := m1.replay.dropWhile fun f => f.lseq != l
      (FrameArrives p 0 kAck b s → m.naked = none → ∃ t, exec (.trzAckRx p l b) s = .next t ∧ apart t = apart s ∧
        (m1.waiting = [] → (meshPort t p).replay = left.drop 1)) ∧
      (FrameArrives p 0 kNak b s →
        (m.naked = some l → exec (.trzNakRx p l b) s = exec (.meshLossOfLock p) s1) ∧
        (m.naked ≠ some l → ∃ t sent, exec (.trzNakRx p l b) s = .next t ∧ (meshPort t p).naked = some l ∧
          apart t = apart s ∧ t.out = sent ++ s1.out ∧
          (sent.map fun o => match o with | .mesh q c k w bs _ _ => some (q, c, k, w, bs) | _ => none) =
            (left.map fun f => some (p, f.cls, f.kind, f.words, f.bytes)).reverse))) ∧
    (∀ b cls n, cls < 7 → m.link = .active → FrameArrives p 0 kCredit b s →
      let m1 := meshPort (meshTake p 0 s) p
      ∃ t, exec (.trzCreditRx p cls n b) s = .next t ∧ apart t = apart s ∧
        (m1.waiting = [] → (m1.credits.Pairwise fun a b => a.1 < b.1) →
          creditOf (meshPort t p) cls = creditOf m1 cls + n)) ∧
    ((m.waiting.find? fun f => decide (4 ≤ f.cls)) = none → exec (.trzForwardTimeout p) s = .next s) ∧
    (∀ f, (m.waiting.find? fun f => decide (4 ≤ f.cls)) = some f → f.arrival = some p → m.link ≠ .disabled → ∃ t,
      exec (.trzForwardTimeout p) s = .next t ∧ (meshPort t p).waiting = m.waiting.erase f ∧
      (meshPort t p).drop = satAdd 32 m.drop 1 ∧ bitOf t.trz.err 4 = true) ∧
    (∀ id i h op, (s.trz.gwOut.find? fun g => g.1 == id) = some (i, h, op) → exec (.trzGwTimeout id) s =
      .next (complete op h .timeout 0 { s with trz := { s.trz with gwOut := s.trz.gwOut.filter fun g => g.1 != id } }))

/-- R299, R300, R315: MESH_SEND without a valid ID completes with UNSUPPORTED; one longer than 4,096 bytes with
LENGTH_RANGE; one without a route with BAD_PARAM; one whose bytes the host refuses with ACCESS. To this device it puts
the message in the receive ring (at the model's place: log entry 80) and completes OK, or waits where the ring is
full; to another it waits for the acknowledgement, and completes with TIMEOUT where none comes. -/
def Obligations.MeshSendWaits : Prop :=
  (∀ (h : Hdr) (p : MeshSendP) (ans : HostAns) (s : State), Starts h (.meshSend p ans) s →
    let u0 := toFlight 0xA0 h s
    let here : Prop := p.dst.toNat = trzId s ∨ routeOf s p.dst.toNat = 6
    (trzValid s = false → Ends (.meshSend h p ans) 0xA0 h .unsupported 0 s fun u => u = u0) ∧
    (trzValid s = true → 4096 < p.msgLen.toNat → Ends (.meshSend h p ans) 0xA0 h .lengthRange 0 s fun u => u = u0) ∧
    (trzValid s = true → p.msgLen.toNat ≤ 4096 → p.rsvd = false → p.dst.toNat < 16384 →
      (p.msgLen = 0 → Ends (.meshSend h p ans) 0xA0 h .ok 0 s fun u => u = u0) ∧
      (p.msgLen ≠ 0 → routeOf s p.dst.toNat = 7 → Ends (.meshSend h p ans) 0xA0 h .badParam 0 s fun u => u = u0) ∧
      (p.msgLen ≠ 0 → routeOf s p.dst.toNat ≠ 7 →
        (ans = .refused → Ends (.meshSend h p ans) 0xA0 h .access 0 s fun u => u = u0) ∧
        (∀ bs, ans = .data bs → bs ≠ [] → here → s.trz.ring.length < 64 → Ends (.meshSend h p ans) 0xA0 h .ok 0 s fun u =>
          u.spm = (spmWrite (ringSlot s.trz.ringNext) (fit p.msgLen.toNat bs) u0).spm ∧
          apart u = apart { u0 with
            trz := { u0.trz with
              ring := s.trz.ring ++ [(trzId s, ringSlot s.trz.ringNext, p.msgLen.toNat)]
              ringNext := (s.trz.ringNext + 1) % 64 }
            spm := u.spm }) ∧
        (∀ bs, ans = .data bs → bs ≠ [] → here → 64 ≤ s.trz.ring.length → GoesOn (.meshSend h p ans) 0xA0 h s fun u =>
          apart u = apart { u0 with trz := { u0.trz with
            rxDrop := satAdd 32 s.trz.rxDrop 1, nextId := s.trz.nextId + 1
            sends := s.trz.sends ++ [(s.trz.nextId, h)] } }) ∧
        (∀ bs, ans = .data bs → bs ≠ [] → ¬ here → GoesOn (.meshSend h p ans) 0xA0 h s fun u =>
          apart u = apart { u0 with trz := { u0.trz with
            nextId := s.trz.nextId + 1, sends := s.trz.sends ++ [(s.trz.nextId, h)] } })))) ∧
  (∀ (id : Nat) (s : State), Quiet s →
    ((s.trz.sends.find? fun x => x.1 == id) = none → exec (.meshSendTimeout id) s = .next s) ∧
    (∀ i h, (s.trz.sends.find? fun x => x.1 == id) = some (i, h) → exec (.meshSendTimeout id) s =
      .next (complete 0xA0 h .timeout 0 { s with trz := { s.trz with sends := s.trz.sends.filter fun x => x.1 != id } })))

/-! ### Calliope -/

/-- R318 to R321: a SYNC the device follows corrects TB1: UNLOCKED it steps by an offset above the threshold and locks;
LOCKED it takes an offset into the rate, and counts one that is out of line, the eighth of which unlocks. Other SYNCs
only record the port's offset. SYNC leaves every ACTIVE port but the parent, stamped as it leaves. A request for the
link delay notes the time it leaves, its answer gives the delay over the last eight, and a peer's is answered with the
time since it came. Without SYNC a device that is not grandmaster is in holdover. R307: halo phase 2 sends the left
and right strips once. -/
def Obligations.TimeIsFollowed : Prop :=
  ∀ (p : Nat) (b : List Byte) (s : State),
    let free (m : MeshPort) : Prop := m.waiting = [] ∧ 0 < creditOf m 1 ∧ (m.replay.map meshFrameSize).sum ≤ 258000
    (FrameArrives p 1 kSync b s → ∀ steps tRx,
      let m := meshPort s p
      let off := timeQ (frameTs b) + m.delay - arrivalQ m tRx
      ∃ t, exec (.trzSyncRx p b steps tRx) s = .next t ∧ (meshPort t p).off = off ∧
        apart t = apart { s with clp := t.clp } ∧
        (syncFollows s p steps = false → t.clp = s.clp) ∧
        (syncFollows s p steps = true → t.clp.steps = steps % 256 ∧ t.clp.holdover = false ∧
          (s.clp.state = .unlocked → t.clp.state = .locked ∧ t.clp.acc = 0 ∧
            t.clp.tb1 = if (s.clp.stepThresh.toNat : Int) < off.natAbs then s.clp.tb1 + off * 2 ^ 32 else s.clp.tb1) ∧
          (s.clp.state = .locked → (s.clp.outlier.toNat : Int) < off.natAbs →
            t.clp.tb1 = s.clp.tb1 ∧ t.clp.rate1 = s.clp.rate1 ∧ t.clp.bad = s.clp.bad + 1 ∧
            t.clp.state = if s.clp.bad + 1 = 8 then .unlocked else .locked) ∧
          (s.clp.state = .locked → (off.natAbs : Int) ≤ s.clp.outlier.toNat →
            let acc := sat (s.clp.acc + off) (-(2 ^ 47)) (2 ^ 47 - 1)
            t.clp.tb1 = s.clp.tb1 ∧ t.clp.bad = 0 ∧ t.clp.acc = acc ∧ t.clp.rate1 = BitVec.ofInt 32
              (sat (rshr (off * sext 32 s.clp.kp.toNat) 24 + rshr (acc * sext 32 s.clp.ki.toNat) 32)
                (-(2 ^ 31)) (2 ^ 31 - 1))))) ∧
    (FrameArrives p 1 kPdelayReq b s → ∀ tRx,
      ∃ t, exec (.trzPdelayReqRx p b tRx) s = .next t ∧ apart t = apart s ∧
        (free (meshPort (meshTake p 1 s) p) → ∃ frame rows, .mesh p 1 kPdelayResp [] [] frame rows ∈ t.out ∧
          frameTs frame = qTime (tb1Q s - arrivalQ (meshPort s p) tRx))) ∧
    (FrameArrives p 1 kPdelayResp b s → ∀ tRx,
      let m := meshPort (meshTake p 1 s) p
      ∃ t, exec (.trzPdelayRespRx p b tRx) s = .next t ∧ apart t = apart s ∧
        (∀ t1, m.t1 = some t1 →
          let ds := (((arrivalQ m tRx - t1) - timeQ (frameTs b)) / 2 :: m.delays).take 8
          (meshPort t p).t1 = none ∧ (meshPort t p).delays = ds ∧ (meshPort t p).delay = ds.sum / ds.length)) ∧
    (Quiet s →
      (∃ t, exec .trzSyncSend s = .next t ∧ apart t = apart s ∧
        (p < 6 → meshActive s p = true → (isGm s = true ∨ p ≠ parentPort s) → free (meshPort s p) →
          ∃ frame rows, .mesh p 1 kSync [stepsSent s] [] frame rows ∈ t.out ∧ frameTs frame = qTime (tb1Q s))) ∧
      (p < 6 → meshActive s p = true → isGm s = false → (fld s.trz.time 2 0 = p ∨ fld s.trz.time 6 4 = p) →
        ∃ t, exec (.trzPdelaySend p) s = .next t ∧ apart t = apart s ∧
          (free (meshPort s p) → (meshPort t p).t1 = some (tb1Q s))) ∧
      (p < 6 → (meshActive s p = false ∨ isGm s = true) → exec (.trzPdelaySend p) s = .next s) ∧
      ((isGm s = true ∨ s.clp.holdover = true) → exec .clpHoldover s = .next s) ∧
      (isGm s = false → s.clp.holdover = false → exec .clpHoldover s =
        .next (log .clpHoldover [] { s with clp := { s.clp with holdover := true, useAlt := false } })) ∧
      (s.trz.phase2 = true → exec .haloSendPhase2 s = .next s) ∧
      (∀ f, s.trz.phase2 = false →
        (s.scene.frames.find? fun f => f.state == .preflight || f.state == .admitted) = some f → topBottomHeld s f = true →
        ∃ t, exec .haloSendPhase2 s = .next t ∧ t.trz.phase2 = true ∧ t.trz.strips = s.trz.strips ∧
          apart t = apart { s with trz := t.trz, jgl := t.jgl, trn := t.trn }))

/-! ### Juggler and scratchpad -/

/-- R234, R235, R241 to R248, R421: an accepted retraining request puts the channel in RETRAIN, DEGRADED; one that passes
is logged, one that fails starts the first action that applies: a rank copy, a copy to a spare channel, a fold, or a
re-base. At the end of a rank copy the spare rank serves, at the end of a channel copy the spare takes the slot, and
the map is committed; lines a copy could not read stay poisoned (R253). A fold lowers JGL_LIMIT and, acknowledged,
takes the channel OFFLINE; a re-base ends while the raster is STOPPED, keeps the frame-working region alone and builds
the interleave anew, or leaves NO_SERVICE below 8 channels. -/
def Obligations.ChannelsAreReplaced : Prop :=
  ∀ s : State, Quiet s → spWf {} s.jgl.chans = true →
    (∀ c, c < 24 →
      (lastingTurn s 0 c = false → exec (.jglRetrain c) s = .next s) ∧
      (lastingTurn s 0 c = true → unitUp (unitOf s 0 c) = true → ∃ t, exec (.jglRetrain c) s = .next t ∧
        t.jgl.job = some (.retrain c) ∧ (chanOf t c).role = 1 ∧ (unitOf t 0 c).state = .degraded ∧
        t.unitReqs = s.unitReqs.drop 1 ∧ t.jgl.mem = s.jgl.mem)) ∧
    (∀ c, s.jgl.job = some (.retrain c) → unitUp (unitOf s 0 c) = true →
      (∀ l, exec (.jglRetrainDone true l) s = .next (log .jglRetrainOk [c] (setRole c 0
        { s with jgl := { s.jgl with job := none, jobStarted := false } }))) ∧
      (∀ r, spareRankOn s = true → (chanOf s c).rankSpared = false → ∃ t, exec (.jglRetrainDone false [r]) s = .next t ∧
        t.jgl.job = some (.rankCopy c r) ∧ (chanOf t c).role = 2 ∧ (unitOf t 0 c).state = .degraded ∧
        bitOf t.jgl.err 5 = true ∧ t.jgl.mem = s.jgl.mem) ∧
      (∀ d, spareChannel s = some d → ∃ t, exec (.jglRetrainDone false []) s = .next t ∧
        t.jgl.job = some (.chanCopy c d) ∧ (chanOf t c).role = 2 ∧ (chanOf t d).role = 3 ∧ bitOf t.jgl.err 5 = true) ∧
      (spareChannel s = none → ∃ t, exec (.jglRetrainDone false []) s = .next t ∧ bitOf t.jgl.err 5 = true ∧
        t.jgl.job = some (if s.jgl.fold.isNone then .foldCopy c else .rebase c))) ∧
    (∀ c r bad, s.jgl.job = some (.rankCopy c r) → ∃ t, exec (.jglRankCopyDone true bad) s = .next t ∧ t.jgl.job = none ∧
      (chanOf t c).rankSpared = true ∧ (chanOf t c).rankReplaced = r ∧ (unitOf t 0 c).state = .online ∧
      lkp (mapInForce t.mram).jglRank c = some r ∧ t.jgl.mem = s.jgl.mem ∧ (∀ l ∈ bad, l ∈ t.jgl.poisoned) ∧
      (bad ≠ [] → bitOf t.jgl.err 1 = true)) ∧
    (∀ c d bad, s.jgl.job = some (.chanCopy c d) → c ≠ d → setWaits s 0 c = false →
      (s.jgl.slotMap.Pairwise fun a b => a.1 < b.1) → ∃ t, exec (.jglChannelCopyDone true bad) s = .next t ∧
      t.jgl.job = none ∧ t.jgl.mem = s.jgl.mem ∧ (∀ l ∈ bad, l ∈ t.jgl.poisoned) ∧
      slotChan t (chanOf s c).slot = d ∧ (unitOf t 0 d).state = .online ∧ (unitOf t 0 c).state = .spared ∧
      (unitOf t 0 c).partner = some d ∧ spGet (chanOf s c).slot (mapInForce t.mram).jglSlot (chanOf s c).slot = d) ∧
    (∀ c, c < 24 → s.jgl.job = some (.foldCopy c) → s.jgl.fold = none →
      let top := s.jgl.stripes - (s.jgl.stripes + s.jgl.n - 1) / s.jgl.n
      exec (.jglFold c) s = .next { s with jgl := { s.jgl with
        fold := some (chanOf s c).slot, foldTop := top, limit := top * s.jgl.n * 256, evacPtr := 0
        report := some (storeGib (top * s.jgl.n * 256)), lostFrom := some (top * s.jgl.n * 256) } }) ∧
    (∀ c l, s.jgl.job = some (.foldCopy c) →
      ((s.jgl.foldAck = false ∨ s.jgl.fold = none) → exec (.jglFoldCopyDone l) s = .next s) ∧
      (s.jgl.foldAck = true → s.jgl.fold.isSome → setWaits s 0 c = false →
        ∃ t, exec (.jglFoldCopyDone l) s = .next t ∧ t.jgl.job = none ∧
        (unitOf t 0 c).state = .offline ∧ t.jgl.foldAck = false ∧ t.jgl.evacPtr = s.jgl.foldTop ∧
        t.jgl.mem = s.jgl.mem ∧ (∀ x ∈ l, foldMoves s.jgl x = true → x ∈ t.jgl.poisoned ∧ bitOf t.jgl.err 7 = true) ∧
        (∀ x ∈ s.jgl.poisoned, foldMoves s.jgl x = true → bitOf t.jgl.err 7 = true))) ∧
    (∀ c, c < 24 → s.jgl.job = some (.rebase c) → s.scn.state = .stopped → exec (.jglRebase c) s = .next { s with
      scene := (stagingGivenUp s).scene
      jgl := { s.jgl with
        state := .rebase, jobStarted := true, limit := 2 ^ 33, report := some 0, lostFrom := some (2 ^ 33) } }) ∧
    (∀ bad, s.scn.state ≠ .stopped → exec (.jglRebaseDone bad) s = .next s) ∧
    (∀ c bad, s.jgl.job = some (.rebase c) → s.jgl.state = .rebase → s.scn.state = .stopped → setWaits s 0 c = false →
      ∃ t, exec (.jglRebaseDone bad) s = .next t ∧ t.jgl.job = none ∧ (unitOf t 0 c).state = .offline ∧
        (∀ l ∈ bad, 0x1B8000000 ≤ 64 * l → 64 * l < 0x200000000 → l ∈ t.jgl.poisoned) ∧
        t.jgl.n = (rebaseChannels s c).length ∧ t.jgl.fold = none ∧
        t.jgl.limit = (rebaseChannels s c).length * s.jgl.stripes * 256 ∧
        (∀ i, i < (rebaseChannels s c).length → slotChan t i = (rebaseChannels s c).getD i 0) ∧
        t.jgl.state = (if (rebaseChannels s c).length < 8 then .noService else if s.th.restricted then .low else .high) ∧
        (∀ a, memByte 0 t.jgl.mem a =
          if 0x1B8000000 ≤ a ∧ a < 0x200000000 then memByte 0 s.jgl.mem a else 0)) ∧
    (s.jgl.report = none → exec .storeShrink s = .next s) ∧
    (∀ lim, s.jgl.report = some lim → ∃ t, exec .storeShrink s = .next t ∧ t.scene.storeSize = lim ∧
      t.jgl.report = none ∧ (∀ n x, s.scene.slots = [(n, x)] → x.state = .ready →
        (lim < x.base + x.gib → (slotOf t n).state = .degraded) ∧
        (x.base + x.gib ≤ lim → t.scene.slots = s.scene.slots)))

/-- R235, R241, R249 to R251, R254 to R257: more corrected errors than the limit set CE_LIMIT and ask for DEGRADED and for
a retraining. A postponed refresh is counted, and the one at the limit is issued with REF_LIMIT. A row crossing
counts, sets RH and cuts the port's regulator, but those of ports 12 to 15; a cut ends. An MR4 read sets the
multiplier; a calibration and a timing correction change nothing that shows. Patrol scrub writes no bytes and poisons
none. A switch to the point wanted begins in self-refresh, and its end loads it and is counted. -/
def Obligations.DramIsKept : Prop :=
  ∀ s : State, Quiet s →
    (∀ c, c < 24 →
      let flagged : State := jglErr 0 (modChan c (fun x => { x with ceOver := true }) s)
      (unitUp (unitOf s 0 c) = false → exec (.jglCeLimit c) s = .next flagged) ∧
      ((unitOf s 0 c).state = .online → (s.unitReqs.any fun r => r.cls == 0 && r.idx == c) = false →
        ∃ t, exec (.jglCeLimit c) s = .next t ∧ t.jgl = flagged.jgl ∧
          t.unitReqs = s.unitReqs ++ [⟨0, c, .online, false⟩, ⟨0, c, .degraded, true⟩]) ∧
      (∀ bank,
        let owed := spGet 0 (chanOf s c).postponed bank
        (exec (.sameBankRefresh c bank true) s =
          .next (modChan c (fun x => { x with postponed := spSet 0 x.postponed bank 0 }) s)) ∧
        (owed < min (fld s.jgl.ref 2 0) 4 → exec (.sameBankRefresh c bank false) s =
          .next (modChan c (fun x => { x with postponed := spSet 0 x.postponed bank (owed + 1) }) s)) ∧
        (min (fld s.jgl.ref 2 0) 4 ≤ owed → exec (.sameBankRefresh c bank false) s = .next (jglErr 8 s)) ∧
        exec (.jglRefreshLimit c bank) s = .next (jglErr 8 (modChan c (fun x => { x with
          postponed := spSet 0 x.postponed bank (spGet 0 x.postponed bank - 1) }) s))) ∧
      (∀ port, port < 16 → ∃ t, exec (.jglRowDisturb c port) s = .next t ∧
        (chanOf t c).rh = satAdd 32 (chanOf s c).rh 1 ∧ bitOf t.jgl.err 3 = true ∧ t.jgl.mem = s.jgl.mem ∧
        (port < 12 → (regOf t port).cut = true ∧ (regOf t port).rate = (regOf s port).rate) ∧
        (12 ≤ port → t.jgl.regs = s.jgl.regs)) ∧
      (∀ r m v, r < 4 → exec (.jglMr4Read c r m v) s =
          .next (modChan c (fun x => { x with mult := m % 8, temp := v }) s) ∧
        exec (.jglZqCal c r) s = .next s ∧ exec (.jglDqsTrack c r) s = .next s) ∧
      ((chanOf s c).role = 0 → (unitOf s 0 c).state = .degraded →
        exec (.jglChannelCleanWindow c) s = .next (unitTo 0 c .online 6 s)) ∧
      (((chanOf s c).role ≠ 0 ∨ (unitOf s 0 c).state ≠ .degraded) → exec (.jglChannelCleanWindow c) s = .next s)) ∧
    (∀ port, port < 12 → exec (.jglRegCutEnd port) s = .next (modReg port (fun r => { r with cut := false }) s)) ∧
    (∀ line ecc,
      ((fld s.jgl.scrub 7 0 = 0 ∨ copyActive s.jgl = true ∨ s.jgl.state = .switching) →
        exec (.jglScrub line ecc) s = .next s) ∧
      exec (.jglScrub line .clean) s = .next s ∧
      (fld s.jgl.scrub 7 0 ≠ 0 → copyActive s.jgl = false → s.jgl.state ≠ .switching → 64 * line + 64 ≤ s.jgl.limit →
        ∃ t, exec (.jglScrub line .corrected) s = .next t ∧ t.jgl.mem = s.jgl.mem ∧ t.jgl.poisoned = s.jgl.poisoned ∧
          (chanOf t (mapAddr s (64 * line)).1).ce = satAdd 32 (chanOf s (mapAddr s (64 * line)).1).ce 1)) ∧
    (noSwitch s.jgl = false →
      ((s.jgl.state = .high → wantsLow s = true → exec .jglSwitchStart s = .next { s with jgl := { s.jgl with
        state := .switching, switchTo := some .low, selfRefresh := true } }) ∧
      (s.jgl.state = .low → wantsLow s = false → exec .jglSwitchStart s = .next { s with jgl := { s.jgl with
        state := .switching, switchTo := some .high, selfRefresh := true } }))) ∧
    (noSwitch s.jgl = true → exec .jglSwitchStart s = .next s) ∧
    (∀ d, s.jgl.state = .switching → s.jgl.switchTo = some d → exec .jglSwitchDone s = .next { s with jgl := { s.jgl with
      state := d, switchTo := none, selfRefresh := false, fc := satAdd 16 s.jgl.fc 1 } }) ∧
    (s.jgl.state ≠ .switching → exec .jglSwitchDone s = .next s)

/-- R259, R260, R263 to R265, R327: a host access through BAR2 of a word of a bank that is ON reads and writes the
physical bank behind it; the banks of the secure part read 0 and take no write; an access of a bank that is OFF is
flagged. More corrected reads than the limit ask for a spare. The lowest spare that passed is brought in, and the copy
puts every byte of the failing bank there, a word that cannot be read as a poisoned one, and changes no other; without
a spare the bank stays in DEGRADED. R266: the secure part is replaced by a wiped spare. -/
def Obligations.BanksAreServed : Prop :=
  ∀ s : State, Quiet s →
    (∀ port a bs busy, bs ≠ [] → a % 32 + bs.length ≤ 32 →
      let b := bankPhys s (a / bankSize)
      (a / bankSize < 16 →
        exec (.bar2Access port a (.write bs) [] busy) s =
          .next { s with spm := { s.spm with busyCount := satAdd 32 s.spm.busyCount busy } } ∧
        exec (.bar2Access port a (.read bs.length) [] busy) s = .next { s with
          spm := { s.spm with busyCount := satAdd 32 s.spm.busyCount busy }
          out := .readData (fill bs.length 0) false :: s.out }) ∧
      (16 ≤ a / bankSize → (bankOf s b).power = .on → s.spm.bringIn = none →
        (∃ t, exec (.bar2Access port a (.write bs) [] busy) s = .next t ∧
          t.spm.mem = memWrite 0 s.spm.mem (b * bankSize + a % bankSize) bs ∧
          (bs.length ≠ 32 → t.spm.poisoned = s.spm.poisoned) ∧ t = { s with spm := t.spm }) ∧
        (∃ t, exec (.bar2Access port a (.read bs.length) [] busy) s = .next t ∧ t.spm.mem = s.spm.mem ∧
          t = { s with
            spm := t.spm
            out := .readData (memRead 0 s.spm.mem (b * bankSize + a % bankSize) bs.length)
              (s.spm.poisoned.contains (b * 16384 + a % bankSize / 32)) :: s.out })) ∧
      (16 ≤ a / bankSize → (bankOf s b).power = .off → ∃ t, exec (.bar2Access port a (.write bs) [] busy) s = .next t ∧
        bitOf t.spm.err 2 = true ∧ t.spm.mem = s.spm.mem)) ∧
    (∀ b, b < 544 →
      exec (.spmBankZeroDone b) s = .next (modBank b (fun x => { x with zeroing := false }) s) ∧
      (unitUp (unitOf s 1 b) = false → exec (.spmCeLimit b) s = .next s) ∧
      (unitUp (unitOf s 1 b) = true → (s.unitReqs.any fun r => r.cls == 1 && r.idx == b) = false →
        ∃ t, exec (.spmCeLimit b) s = .next t ∧ t.spm = s.spm ∧
          t.unitReqs = s.unitReqs ++ [⟨1, b, (unitOf s 1 b).state, true⟩]) ∧
      (lastingTurn s 1 b = false → exec (.spmBankSpare b) s = .next s) ∧
      (∀ sp, lastingTurn s 1 b = true → spareBank (frontPop s) = some sp → ∃ t, exec (.spmBankSpare b) s = .next t ∧
        t.spm.bringIn = some (b, sp, false, false) ∧ t.unitReqs = s.unitReqs.drop 1 ∧
        (∀ a, memByte 0 t.spm.mem a =
          if sp * bankSize ≤ a ∧ a < (sp + 1) * bankSize then 0 else memByte 0 s.spm.mem a) ∧
        (512 ≤ sp → (bankOf t sp).power = .on)) ∧
      (lastingTurn s 1 b = true → spareBank (frontPop s) = none → unitUp (unitOf (frontPop s) 1 b) = true →
        ∃ t, exec (.spmBankSpare b) s = .next t ∧ bitOf t.spm.err 4 = true ∧ (unitOf t 1 b).state = .degraded ∧
          t.spm.mem = s.spm.mem ∧ t.spm.map = s.spm.map) ∧
      ((unitOf s 1 b).state = .degraded → exec (.spmBankCleanWindow b) s = .next (unitTo 1 b .online 6 s)) ∧
      ((unitOf s 1 b).state ≠ .degraded → exec (.spmBankCleanWindow b) s = .next s)) ∧
    (∀ bad, s.spm.bringIn = none → exec (.spmBankCopyDone bad) s = .next s) ∧
    (∀ bad b sp x f, s.spm.bringIn = some (b, sp, x, f) → ∃ t, exec (.spmBankCopyDone bad) s = .next t ∧
      t.spm.bringIn = some (b, sp, true, f) ∧ (bad = [] → t = { s with spm := t.spm }) ∧
      (∀ w ∈ bad, w < 16384 → bankSecure s b = false → sp * 16384 + w ∈ t.spm.poisoned ∧ bitOf t.spm.err 1 = true) ∧
      (∀ a, memByte 0 t.spm.mem a = if sp * bankSize ≤ a ∧ a < (sp + 1) * bankSize then
          (if bankSecure s b then 0 else memByte 0 s.spm.mem (a - sp * bankSize + b * bankSize))
        else memByte 0 s.spm.mem a))

/-! ### The raster -/

/-- R162, R165, R166, R167, R177, R179, R217, R222: a tick that may fall takes the next number at the time the grid gives
it, and begins a scan; at step 3 of a retime the raster enters STOPPED instead. The raster leaves STOPPED at step 5 of
a power-up, with a black scan on a slot of the grid counted from TB2 time 0, and at step 4 of a retime, whose change
then completes. The ramp that ends at T3 brings step 4 and the new timing. -/
def Obligations.TicksAndStarts : Prop :=
  ∀ s : State, Quiet s →
    (∀ env, tickAllowed s = false → exec (.frameTick env) s = .next s) ∧
    (∀ env, tickAllowed s = true → s.scn.inForce.isSome → ∃ t, exec (.frameTick env) s = .next t ∧
      t.scn.tick = (if s.scn.first then 0 else (s.scn.tick + 1) % 2 ^ 64) ∧ t.scn.tickTb2 = nextTick s ∧
      (s.scn.retimeStep = 3 → t.scn.state = .stopped) ∧
      (s.scn.retimeStep ≠ 3 → s.pwr.state ≠ .poweringDown →
        t.scn.state = .run ∧ t.scn.line = 0 ∧ t.scn.scan.synth = false ∧ t.scn.scan.line = 0)) ∧
    ((startAllowed s = false ∨ s.scn.timing = none) → exec .rasterStart s = .next s) ∧
    (∀ tm, s.scn.timing = some tm → s.scn.state = .stopped → s.pwr.state = .poweringUp → s.pwr.step = 5 →
      failedHandled s = true → s.scn.retimeStep ≠ 4 → ∃ t, exec .rasterStart s = .next t ∧ t.scn.state = .run ∧ t.scn.inForce = some tm ∧
        t.scn.gridOrigin = slotAtOrAfter 0 (tb2Q s) (basePeriod tm) ∧ t.scn.tickTb2 = t.scn.gridOrigin ∧
        t.scn.scan.black = true) ∧
    (∀ tm, s.scn.timing = some tm → startAllowed s = true → s.scn.retimeStep = 4 → s.pwr.state ≠ .poweringDown →
      ∃ t, exec .rasterStart s = .next t ∧ t.scn.state = .run ∧ t.scn.retimeStep = 5 ∧ t.scn.restart = 1 ∧
        t.scn.inForce = some tm ∧ t.scn.jobs = s.scn.jobs.drop 1 ∧ t.scn.scan.black = true) ∧
    ((s.scn.retimeStep ≠ 3 ∨ s.scn.jobs = [] ∨ s.scn.state ≠ .stopped) → exec .retimeRampEnd s = .next s) ∧
    (∀ j r, s.scn.retimeStep = 3 → s.scn.jobs = j :: r → s.scn.state = .stopped →
      ∃ t, exec .retimeRampEnd s = .next t ∧ t.scn.retimeStep = 4 ∧ t.scn.timing = some j.timing ∧
        t.crsl.priorPitch = priorPitch j.timing ∧ t.pwr.ramp = none ∧ t.scn.jobs = s.scn.jobs)

/-- R37, R41, R104, R106, R166, R170 to R174, R201, R208: a scan. Line 256 starts synthesis and captures the edges of the
frame in pre-flight, which ends admitted within its budget and refused otherwise. A blank line and an active line
leave in order; a line that is not complete, or that a failed pipeline takes, aborts the scan as an underrun. The last
line ends the scan, and a quiet raster then holds for 2, 4 or 8 slots; the extension ends with its cause, and the
links wake. A pipeline's error is counted and the pipeline suspected. -/
def Obligations.ScansRun : Prop :=
  ∀ s : State, Quiet s →
    ((s.scn.state ≠ .run ∨ s.scn.scan.synth = true ∨ s.scn.scan.complete = true) →
      exec .synthesisStart s = .next s) ∧
    (s.scn.state = .run → s.scn.scan.synth = false → s.scn.scan.complete = false →
      ∃ t, exec .synthesisStart s = .next t ∧ t.scn.scan.synth = true ∧ t.scn.line = max s.scn.line 256 ∧
        (∀ f, frameIn s .preflight = some f →
          ∃ g, frameIn t .preflight = some g ∧ g.id = f.id ∧ g.edge = some s.hom.edge.act)) ∧
    (∀ e, frameIn s .preflight = none → exec (.preflightDecided e) s = .next s) ∧
    (∀ f tm, frameIn s .preflight = some f → pfTiming s = some tm →
      (f.edge = none → ∀ e, exec (.preflightDecided e) s = .next s) ∧
      (f.edge.isSome → frameLost f = true → ∀ e, ∃ t, exec (.preflightDecided e) s = .next t ∧ t.hom.pfBusy = false ∧
        (∃ a b, t.hom.pfNext = some (5, 0xFFFF, 0, a, b, 0)) ∧ (∀ g ∈ t.scene.frames, g.id ≠ f.id)) ∧
      (f.edge.isSome → frameLost f = false → ∀ u, u = pfNotes f s →
        (∀ e, (tableRead e f u).1.isSome → ∃ t, exec (.preflightDecided e) s = .next t ∧ t.hom.pfBusy = false ∧
          (∃ a b, t.hom.pfNext = some (4, 0xFFFF, 0, a, b, 0)) ∧ (∀ g ∈ t.scene.frames, g.id ≠ f.id)) ∧
        (tablePoisoned u f = none → pfChecks u f = none →
          let c := costOf u (captureFrame u f) tm (pfPipes u)
          let fits : Prop := c.failRow = none ∧ c.total ≤ (pfBudget tm (pfPipes u)).1
          (fits → ∃ t g, exec (.preflightDecided none) s = .next t ∧ t.hom.pfBusy = false ∧
            frameById t f.id = some g ∧ g.state = .admitted ∧ g.cost = c.total) ∧
          (¬ fits → ∃ t, exec (.preflightDecided none) s = .next t ∧ t.hom.pfBusy = false ∧
            (∀ g ∈ t.scene.frames, g.id ≠ f.id))))) ∧
    (∀ l, s.scn.state ≠ .run → exec (.blankLineStart l) s = .next s) ∧
    (∀ l tm, s.scn.inForce = some tm → s.scn.state = .run → l < linesB tm → (l = 0 ∨ s.scn.line < l) →
      ∃ t, exec (.blankLineStart l) s = .next t ∧ t.scn.line = l ∧ t.scn.state = .run ∧ t.scene = s.scene ∧
        t.crsl = s.crsl) ∧
    (∀ env, s.scn.scan.synth = false → exec (.lineDeparture env) s = .next s) ∧
    (∀ env tm, s.scn.inForce = some tm → s.scn.state = .run → s.scn.scan.synth = true → s.scn.scan.line < linesA tm →
      ((s.scn.scan.holdTick = true ∨ (pipeTakes s s.scn.scan.line = false ∧ env.complete = true)) →
        ∃ t, exec (.lineDeparture env) s = .next t ∧ t.scn.scan.line = s.scn.scan.line + 1 ∧
          t.scn.line = linesB tm + s.scn.scan.line ∧ t.scn.state = .run) ∧
      (s.scn.scan.holdTick = false → (pipeTakes s s.scn.scan.line = true ∨ env.complete = false) →
        ∃ t, exec (.lineDeparture env) s = .next t ∧ t.scn.state = .aborted ∧ t.scn.underrun = true ∧
          t.scn.underrunCount = satAdd 32 s.scn.underrunCount 1 ∧ t.scn.underrunLine = s.scn.scan.line ∧
          t.scn.underrunStage = if pipeTakes s s.scn.scan.line then 4 else env.stage)) ∧
    (∀ q l, q < 72 →
      (pipeLogical s q = none → exec (.homPipeErr q l) s = .next s) ∧
      ((pipeLogical s q).isSome → s.scn.state = .run → s.scn.scan.complete = false → s.scn.scan.holdTick = false →
        ∃ t, exec (.homPipeErr q l) s = .next t ∧ t.hom.pipeErrCount = satAdd 32 s.hom.pipeErrCount 1 ∧
          bitOf t.hom.err 3 = true ∧ t.hom.suppressed.isSome ∧ (lkp t.hom.suspects q).isSome ∧ t.scn = s.scn)) ∧
    (s.scn.state ≠ .run → exec .scanEnd s = .next s) ∧
    (∀ tm, s.scn.inForce = some tm → s.scn.state = .run → s.scn.scan.holdTick = false → s.scn.scan.complete = false →
      linesA tm ≤ s.scn.scan.line →
      (holdMult s = 0 → ∃ t, exec .scanEnd s = .next t ∧ t.scn.scan.complete = true ∧ t.scn.state = .run ∧
        t.scn.multLog = 0 ∧ t.scn.fifoMin = s.scn.scan.minLead) ∧
      (holdMult s ≠ 0 → ∃ t, exec .scanEnd s = .next t ∧ t.scn.scan.complete = true ∧ t.scn.state = .hold ∧
        t.scn.inExtension = true ∧ t.scn.extension = 2 ^ holdMult s - 1 ∧ t.scn.multLog = holdMult s ∧
        t.scn.holdBegun = satAdd 16 s.scn.holdBegun 1)) ∧
    ((s.scn.state ≠ .hold ∨ s.scn.inExtension = false) → exec .holdExtensionEnd s = .next s) ∧
    (s.scn.inForce.isSome → s.scn.state = .hold → s.scn.inExtension = true →
      ∃ t, exec .holdExtensionEnd s = .next t ∧ t.scn.inExtension = false ∧ t.scn.holdEnd = s.scn.exitCause.getD 0 ∧
        t.scn.holdSlots = satAdd 32 s.scn.holdSlots s.scn.extension ∧ t.scn.state = .hold) ∧
    (s.scn.state ≠ .hold → exec .linkWake s = .next s) ∧
    (s.scn.state = .hold → ∃ t, exec .linkWake s = .next t ∧ apart t = apart { s with px := t.px } ∧
      (∀ g, g < 32 → (grp s g).link = .sleep →
        (grp t g).link = (if (grp s g).bcDown then LinkState.bcRetrain else LinkState.active)) ∧
      (∀ g, (grp s g).link ≠ .sleep → grp t g = grp s g))

/-- R105, R107, R108, R110, R418: the sparing request of a pipeline brings in the lowest spare that passed, in the shadow
of the map, or without a spare takes the pipeline out at a later tick; the map in force and the units wait for the
commit window. A clean window returns a DEGRADED pipeline to ONLINE. -/
def Obligations.PipelinesAreSpared : Prop :=
  ∀ (q : Nat) (s : State), q < 72 → Quiet s →
    (lastingTurn s 2 q = false → exec (.homPipeSpare q) s = .next s) ∧
    (∀ p, lastingTurn s 2 q = true → pipeLogical s q = some p →
      (∀ sp r, pipeSpares (frontPop s) = sp :: r → ∃ t, exec (.homPipeSpare q) s = .next t ∧
        t.hom = { s.hom with bringIn := some (q, some sp, false), pipeMapSh := some (spSet p s.hom.pipeMap p sp) } ∧
        t.unitReqs = s.unitReqs.drop 1 ∧ t.scn = s.scn) ∧
      (pipeSpares (frontPop s) = [] → ∃ t, exec (.homPipeSpare q) s = .next t ∧
        t.hom = { s.hom with bringIn := some (q, none, false) } ∧ t.unitReqs = s.unitReqs.drop 1)) ∧
    ((unitOf s 2 q).state = .degraded → exec (.homPipeCleanWindow q) s = .next (unitTo 2 q .online 6 s)) ∧
    ((unitOf s 2 q).state ≠ .degraded → exec (.homPipeCleanWindow q) s = .next s)

/-! ### Panel power -/

/-- R214, R217, R218: POWERING_UP. A power-good that rises begins the 2 MT of its step; their end takes the next step: EN
and the link, the gate rails, the bias, the black scans, and after the emitter rails the IREF ramp, whose end is ON
with the outputs at their effective values. A bound that expires fails the power-up at its step, with the raster
STOPPED and the enables undone in reverse order; the link's ends with step 3 where a group is ACTIVE. -/
def Obligations.PanelPowersUp : Prop :=
  ∀ s : State, Quiet s →
    let up : Prop := s.pwr.state = .poweringUp
    (∀ r, ∃ t, exec (.pnlPowerGoodRise r) s = .next t ∧ pgHigh t (pgBit r) = true ∧ t = { s with pwr := t.pwr } ∧
      (up → s.pwr.undoing = false → ((s.pwr.step = 1 ∧ r = .logic) ∨ (s.pwr.step = 3 ∧ r = .gate) ∨
        (s.pwr.step = 4 ∧ r = .bias) ∨ (s.pwr.step = 6 ∧ r = .vledB ∧ pgHigh s 3 = true ∧ pgHigh s 4 = true)) →
        t.pwr.settling = true) ∧
      ((¬ up ∨ s.pwr.undoing = true) → t.pwr.settling = s.pwr.settling)) ∧
    (s.pwr.settling = false → exec .pwrSettleDone s = .next s) ∧
    (up → s.pwr.settling = true →
      (s.pwr.step = 1 → (servingGroups s).all (groupTrained s) = false → ∃ t, exec .pwrSettleDone s = .next t ∧
        t.pwr = { s.pwr with settling := false, step := 2 } ∧ bitOf t.px.ctrl 0 = true ∧ t = { s with pwr := t.pwr, px := t.px }) ∧
      (s.pwr.step = 3 → exec .pwrSettleDone s =
        .next { s with pwr := { s.pwr with settling := false, step := 4, enBias := true } }) ∧
      (s.pwr.step = 4 → exec .pwrSettleDone s =
        .next { s with pwr := { s.pwr with settling := false, step := 5, blackScans := 0 } }) ∧
      (s.pwr.step = 6 → exec .pwrSettleDone s = .next { s with pwr := { s.pwr with
        settling := false, step := 7, ramp := some ⟨true, s.clp.cycle, mtCycles (fld s.pwr.seq 7 0)⟩ } })) ∧
    ((¬ up ∨ s.pwr.undoing = true ∨ s.pwr.settling = true) → exec .powerGoodBoundExpiry s = .next s) ∧
    (up → s.pwr.undoing = false → s.pwr.settling = false →
      ((s.pwr.step ∈ [1, 3, 4, 6] ∨
          (s.pwr.step = 2 ∧ ((servingGroups s).any fun g => (grp s g).link == .active) = false)) →
        ∃ t, exec .powerGoodBoundExpiry s = .next t ∧ t.pwr.failStep = s.pwr.step ∧ bitOf t.pwr.err 0 = true ∧
          t.scn.state = .stopped ∧ ((t.pwr.state = .poweringUp ∧ t.pwr.undoing = true) ∨ t.pwr.state = .faulted)) ∧
      (s.pwr.step = 2 → ((servingGroups s).any fun g => (grp s g).link == .active) = true →
        ∃ t, exec .powerGoodBoundExpiry s = .next t ∧ t.pwr = { s.pwr with step := 3, enGate := true })) ∧
    (s.pwr.ramp = none → exec .irefRampEnd s = .next s) ∧
    (∀ r, s.pwr.ramp = some r → r.up = true → up → s.pwr.step = 7 → ∃ t, exec .irefRampEnd s = .next t ∧
      t.pwr.state = .on ∧ t.pwr.step = 0 ∧ t.pwr.ramp = none ∧ t.pwr.r.out = s.pwr.r.eff ∧ t.pwr.g.out = s.pwr.g.eff ∧
      t.pwr.b.out = s.pwr.b.eff ∧ apart t = apart { s with pwr := t.pwr }) ∧
    (∀ r, s.pwr.ramp = some r → r.up = false → (s.pwr.state ≠ .poweringDown ∨ s.pwr.step ≠ 2) →
      exec .irefRampEnd s = .next s)

/-- R218 to R221, R231: POWERING_DOWN and faults. The end of the ramp down switches the emitter rails off; their
power-goods low begin 2 MT more, and where they stay high PG_STUCK is set and the sequence goes on. After a discharge
the raster stops; the enables fall bias, gate, logic, and the last brings OFF. A power-good lost while its rail is
enabled, and an overvoltage, run the fast power-down with the outputs at 0 at once; a PANEL_ON that waits starts a
power-up from OFF; an undervoltage is flagged, and at VMAX for 10 MT powers down natively to FAULTED. -/
def Obligations.PanelPowersDown : Prop :=
  ∀ s : State, Quiet s →
    let dn : Prop := s.pwr.state = .poweringDown
    (∀ r, s.pwr.ramp = some r → r.up = false → dn → s.pwr.step = 2 → vledUp s = true → vledPgLow s = false →
      ∃ t, exec .irefRampEnd s = .next t ∧ t.pwr.step = 3 ∧ t.pwr.state = .poweringDown ∧ t.pwr.ramp = none ∧
        t.pwr.r.en = false ∧ t.pwr.g.en = false ∧ t.pwr.b.en = false ∧ t.pwr.r.code = 0 ∧ t.pwr.r.out = 0 ∧
        t = { s with pwr := t.pwr }) ∧
    (dn → s.pwr.step = 3 →
      (s.pwr.settling = true → exec .vledPgFall s = .next s) ∧
      (s.pwr.settling = false → s.pwr.fastRun = false → ∃ t, exec .vledPgFall s = .next t ∧ vledPgLow t = true ∧
        t = { s with pwr := { s.pwr with pg := t.pwr.pg, settling := true } }) ∧
      (vledPgLow s = true → exec .pwrPgStuck s = .next s) ∧
      (vledPgLow s = false → ∃ t, exec .pwrPgStuck s = .next t ∧ bitOf t.pwr.err 7 = true ∧
        (bitOf s.pwr.ctrl 1 = true → t.pwr = { (pwrErr 7 s).pwr with step := 4, disch := true }))) ∧
    ((¬ dn ∨ s.pwr.step ≠ 3) → exec .pwrPgStuck s = .next s) ∧
    (s.pwr.disch = false → exec .dischargeEnd s = .next s) ∧
    (s.pwr.disch = true → s.pwr.fastRun = false → s.scn.state ≠ .stopped →
      exec .dischargeEnd s = .next { s with pwr := { s.pwr with disch := false, step := 5 } }) ∧
    (s.pwr.undoing = false → (¬ dn ∨ s.pwr.step ≠ 6) → exec .railDisableStep s = .next s) ∧
    (s.pwr.undoing = false → dn → s.pwr.step = 6 → s.pwr.fastRun = false →
      (s.pwr.enBias = true → exec .railDisableStep s = .next { s with pwr := { s.pwr with enBias := false } }) ∧
      (s.pwr.enBias = false → s.pwr.enGate = true →
        exec .railDisableStep s = .next { s with pwr := { s.pwr with enGate := false } }) ∧
      (s.pwr.enBias = false → s.pwr.enGate = false → s.pwr.enLogic = true →
        exec .railDisableStep s = .next { s with pwr := { s.pwr with enLogic := false } }) ∧
      (railsOn s = false → s.pwr.toFaulted = false → s.scn.jobs = [] → s.pwr.onDue = false → ∃ t, exec .railDisableStep s = .next t ∧
        t.pwr.state = .off ∧ t.pwr.step = 0 ∧ apart t = apart { s with pwr := t.pwr }) ∧
      (railsOn s = false → s.pwr.toFaulted = false → s.pwr.onDue = true → s.cal.running = none → noService s = false →
        s.scn.timing.isSome → mapOk s.pwr.r = true → mapOk s.pwr.g = true → mapOk s.pwr.b = true →
        ∃ t, exec .railDisableStep s = .next t ∧ t.pwr.state = .poweringUp ∧ t.pwr.step = 1 ∧ t.pwr.enLogic = true) ∧
      (railsOn s = false → s.pwr.toFaulted = true → ∃ t, exec .railDisableStep s = .next t ∧
        t.pwr.state = .faulted ∧ apart t = apart { s with pwr := t.pwr })) ∧
    (∀ r, (pgHigh s (pgBit r) = false → exec (.powerGoodLost r) s = .next s) ∧
      (pgHigh s (pgBit r) = true → railEn s r = true → s.pwr.state = .on → s.pwr.undoing = false → s.pwr.fastRun = false →
        ∃ t, exec (.powerGoodLost r) s = .next t ∧ bitOf t.pwr.err 3 = true ∧ pgHigh t (pgBit r) = false ∧
          t.scn.state = .stopped ∧ (t.pwr.state = .poweringDown ∨ t.pwr.state = .faulted) ∧ t.pwr.r.en = false ∧
          t.pwr.g.en = false ∧ t.pwr.b.en = false ∧ t.pwr.r.out = 0 ∧ t.pwr.g.out = 0 ∧ t.pwr.b.out = 0)) ∧
    (∀ c, c < 3 →
      (s.pwr.state = .on → s.pwr.fastRun = false → ∃ t, exec (.railOvervoltage c) s = .next t ∧ bitOf t.pwr.err 1 = true ∧
        t.scn.state = .stopped ∧ (t.pwr.state = .poweringDown ∨ t.pwr.state = .faulted) ∧ t.pwr.r.en = false ∧
        t.pwr.g.en = false ∧ t.pwr.b.en = false ∧ t.pwr.r.out = 0 ∧ t.pwr.g.out = 0 ∧ t.pwr.b.out = 0) ∧
      (∀ mv,
        let low := decide (((mv * 10 : Nat) : Int) < 9 * (vrail s c).vset)
        ∃ t, exec (.railUndervoltage c mv) s = .next t ∧ (vrail t c).sns = mv ∧ (vrail t c).uv = low ∧
          t.pwr.err = (if low then setBit s.pwr.err 2 else s.pwr.err) ∧ t = { s with pwr := t.pwr } ∧
          ∀ k, k < 3 → k ≠ c → vrail t k = vrail s k)) ∧
    (([0, 1, 2].any fun c => (vrail s c).uv && decide ((vrail s c).vset = vMax (vrail s c))) = false →
      exec .pwrUvTimeout s = .next s) ∧
    (([0, 1, 2].any fun c => (vrail s c).uv && decide ((vrail s c).vset = vMax (vrail s c))) = true →
      s.pwr.state = .on → s.pwr.undoing = false → vledUp s = true → s.scn.state ≠ .stopped →
      ∃ t, exec .pwrUvTimeout s = .next t ∧ t.pwr.state = .poweringDown ∧ t.pwr.step = 1 ∧ t.pwr.toFaulted = true)

/-- R223 to R225: the headroom loop runs where it is armed, after a tick that ended a scan: with HEADROOM_EN each rail's
setpoint rises by the missing headroom, at most STEP_UP, or falls by half the excess above the dead band, at most
STEP_DOWN, after a complete scan without stale partners or undervoltage, and stays within VMIN and VMAX; without it
every rail goes to VMAX, as it does when partners have been stale for 8 ticks. -/
def Obligations.HeadroomIsHeld : Prop :=
  ∀ s : State, Quiet s →
    ((loopArmed s = false ∨ s.pwr.scanEnded = false) → exec .headroomLoop s = .next s) ∧
    (loopArmed s = true → s.pwr.scanEnded = true → ∃ t, exec .headroomLoop s = .next t ∧ t.pwr.scanEnded = false ∧
      (bitOf s.pwr.ctrl 3 = false → ∀ c, c < 3 → (vrail t c).vset = vMax (vrail s c)) ∧
      (bitOf s.pwr.ctrl 3 = true → ∀ c, c < 3 →
        let x := vrail s c
        let dead : Int := fld s.pwr.margin 31 16
        (hminOf s c = none → (vrail t c).vset = sat x.vset (vMin x) (vMax x) ∧ (vrail t c).hmin = 0xFFFF) ∧
        (∀ m sl, hminOf s c = some (m, sl) →
          let err : Int := (m : Int) - fld s.pwr.margin 15 0
          (vrail t c).hmin = m ∧ (vrail t c).hminSlice = sl ∧
          (err < 0 → (vrail t c).vset = sat (x.vset + min (-err) (fld s.pwr.stepReg 15 0)) (vMin x) (vMax x)) ∧
          (0 ≤ err → dead < err → s.pwr.lastComplete = true → anyStale s = false → x.uv = false →
            (vrail t c).vset = sat (x.vset - min ((err - dead) / 2) (fld s.pwr.stepReg 31 16)) (vMin x) (vMax x)) ∧
          (0 ≤ err → (err ≤ dead ∨ s.pwr.lastComplete = false ∨ anyStale s = true ∨ x.uv = true) →
            (vrail t c).vset = sat x.vset (vMin x) (vMax x)))) ∧
      (∀ c, c < 3 → fld (vrail s c).map 31 16 ≠ 0 → (vrail t c).code = vCode (vrail s c) (vrail t c).vset)) ∧
    ((loopArmed s = false ∨ s.pwr.staleTicks < 8) → exec .pwrHeadroomStaleLimit s = .next s) ∧
    (loopArmed s = true → 8 ≤ s.pwr.staleTicks → ∃ t, exec .pwrHeadroomStaleLimit s = .next t ∧
      t.pwr.headroomStale = true ∧ ∀ c, c < 3 → (vrail t c).vset = vMax (vrail s c))

/-! ### The panel link -/

/-- R189, R190, R194 to R197, R211, R212, R217: a requested training starts in DETECT from the group's coefficients; lock
of the back channel brings TRAIN_EQ, eight TS1 in a row without a request TRAIN_CFG with sixteen TS2 sent, and 16 good
TS2 received ACTIVE; a group in TEST stays in TRAIN_EQ. A spare group trains only with DUAL_INPUT. A TS2 of another
slice makes the group MISWIRED. The first phase that times out trains once more, the second fails the group. The last
training of step 2 ends the step. A lost back channel is retrained, twice at most. The sparing request of a group
starts its half's spare, or takes the group OFFLINE. R211, R217, R218: the training event that leaves no serving group
and no spare's check in training ends step 2 of power-up, with step 3 and the gate rails enabled where a serving group
is ACTIVE; a serving group that has FAILED is OFFLINE without DUAL_INPUT, at that end and at every later training
event before the raster starts. -/
def Obligations.GroupsTrain : Prop :=
  (∀ (g : Nat) (s : State), g < 32 → Quiet s → spWf {} s.px.groups = true →
     (s.pwr.state ≠ .poweringUp ∨ (s.pwr.step ≠ 2 ∧ s.scn.state ≠ .stopped)) →
     let x := grp s g
     let served : Prop := (grpSlice s g).isSome ∧ bringInSpare s g = false
     ((bitOf s.px.ctrl 0 = false ∨ (x.link ≠ .disabled ∧ x.link ≠ .failed)) → exec (.pxTrainRequest g) s = .next s) ∧
     (bitOf s.px.ctrl 0 = true → (x.link = .disabled ∨ x.link = .failed) → serves s g = true →
       mayTrain s g = true → ∃ t, exec (.pxTrainRequest g) s = .next t ∧ (grp t g).link = .detect ∧ (grp t g).second = false ∧
         (grp t g).trainings = satAdd 8 x.trainings 1 ∧ ((grp t g).pre, (grp t g).post) = firStart x.fir ∧
         t = { s with px := t.px }) ∧
     (mayTrain s g = false → exec (.pxTrainRequest g) s = .next s) ∧
     (x.link = .detect → ∃ t, exec (.backChannelLock g) s = .next t ∧ (grp t g).link = .trainEq ∧
       t = { s with px := t.px, out := t.out }) ∧
     (x.link = .bcRetrain → ∃ t, exec (.backChannelLock g) s = .next t ∧ (grp t g).link = .active ∧
       (grp t g).bcSecond = false ∧ t = { s with px := t.px }) ∧
     (x.link = .sleep → exec (.backChannelLock g) s = .next (modGrp g (fun x => { x with bcDown := false }) s)) ∧
     (x.link ≠ .detect → x.link ≠ .bcRetrain → x.link ≠ .sleep → exec (.backChannelLock g) s = .next s) ∧
     (∀ l ts, (tsCheck ts = false ∨ (x.link ≠ .trainEq ∧ x.link ≠ .trainCfg)) → exec (.pxTsRx g l ts) s = .next s) ∧
     (∀ l (ts : TsBytes), tsCheck ts = true → byteAt ts 0 = 0x1E → x.link = .trainEq → bitOf (byteAt ts 3) 0 = false →
       bitOf (byteAt ts 3) 2 = false → ∃ t, exec (.pxTsRx g l ts) s = .next t ∧ (grp t g).eqOk = x.eqOk + 1 ∧
         (linkTest s g = true → (grp t g).link = .trainEq) ∧
         (linkTest s g = false → (grp t g).link = (if 8 ≤ x.eqOk + 1 then LinkState.trainCfg else LinkState.trainEq) ∧
           (grp t g).ts2Tx = if 8 ≤ x.eqOk + 1 then x.ts2Tx + 16 else x.ts2Tx)) ∧
     (∀ l (ts : TsBytes), tsCheck ts = true → byteAt ts 0 = 0x2D → x.link = .trainCfg → g < 30 →
       (trainSlice s g = some (fld (byteAt ts 2) 4 0) → bitOf (byteAt ts 2) 7 = false →
         ∃ t, exec (.pxTsRx g l ts) s = .next t ∧ (grp t g).ts2Rx = x.ts2Rx + 1 ∧ (grp t g).link = .trainCfg ∧
           (grp t g).partnerId = BitVec.ofNat 32 (leAt ts 7 4)) ∧
       (trainSlice s g ≠ some (fld (byteAt ts 2) 4 0) → bringInSpare s g = false →
         ∃ t, exec (.pxTsRx g l ts) s = .next t ∧ (grp t g).link = .disabled ∧ (grp t g).miswired = true ∧
           bitOf t.px.err 2 = true)) ∧
     ((inTraining x.link = false ∨ linkTest s g = true) → exec (.pxTrainTimeout g) s = .next s) ∧
     (inTraining x.link = true → linkTest s g = false →
       (x.second = false → ∃ t, exec (.pxTrainTimeout g) s = .next t ∧ (grp t g).link = .detect ∧ (grp t g).second = true ∧
         t = { s with px := t.px }) ∧
       (x.second = true → served → ∃ t, exec (.pxTrainTimeout g) s = .next t ∧ (grp t g).link = .failed ∧
         bitOf t.px.err 5 = true ∧ (x.link = .detect → bitOf t.px.err 1 = true))) ∧
     ((x.link ≠ .trainCfg ∨ x.ts2Rx < 16 ∨ x.ts2Tx < 16) → exec (.pxTrainDone g) s = .next s) ∧
     (x.link = .trainCfg → 16 ≤ x.ts2Rx → 16 ≤ x.ts2Tx → served → ∃ t, exec (.pxTrainDone g) s = .next t ∧ (grp t g).link = .active ∧
       (grp t g).second = false ∧ t.px.sliceMap = s.px.sliceMap) ∧
     (x.link ≠ .active → x.link ≠ .sleep → exec (.bcLockLost g) s = .next s) ∧
     (x.link = .sleep → exec (.bcLockLost g) s = .next (modGrp g (fun x => { x with bcDown := true }) s)) ∧
     (x.link = .active → ∃ t, exec (.bcLockLost g) s = .next t ∧ (grp t g).link = .bcRetrain ∧
       t.px.cmds = s.px.cmds ++ [(some g, [(0x001C, 1)])] ∧ t = { s with px := t.px }) ∧
     (x.link ≠ .bcRetrain → exec (.bcRetrainTimeout g) s = .next s) ∧
     (x.link = .bcRetrain → (x.bcSecond = false → ∃ t, exec (.bcRetrainTimeout g) s = .next t ∧
         (grp t g).bcSecond = true ∧ (grp t g).link = .bcRetrain ∧ t.px.cmds = s.px.cmds ++ [(some g, [(0x001C, 1)])]) ∧
       (x.bcSecond = true → ∃ t, exec (.bcRetrainTimeout g) s = .next t ∧ (grp t g).link = .active)) ∧
     (lastingTurn s 3 g = false → exec (.pxGroupSpare g) s = .next s) ∧
     (lastingTurn s 3 g = true →
       (∀ sl, spareReady (frontPop s) g = true → grpSlice s g = some sl → ∃ t, exec (.pxGroupSpare g) s = .next t ∧
         t.px.bringIn = some (g, 30 + sl / 15, sl, false) ∧ (grp t (30 + sl / 15)).link = .detect ∧
         t.px.sliceMap = s.px.sliceMap) ∧
       (spareReady (frontPop s) g = false → ∃ t, exec (.pxGroupSpare g) s = .next t ∧ (grp t g).link = .disabled ∧
         (unitOf t 3 g).state = .offline ∧ (unitOf t 3 g).cause = 11)) ∧
     ((unitOf s 3 g).state = .degraded → exec (.pxGroupCleanWindow g) s = .next (unitTo 3 g .online 6 s)) ∧
     ((unitOf s 3 g).state ≠ .degraded → exec (.pxGroupCleanWindow g) s = .next s)) ∧
  (∀ (g : Nat) (s : State), g < 32 → Quiet s → s.pwr.state = .poweringUp → s.pwr.undoing = false →
     (grp s g).link = .active → serves s g = true →
     let handled (t : State) : Prop := ∀ k, k < 30 → serves s k = true → (grp s k).link = .failed → dualInput s = false →
       (unitOf t 3 k).state = .offline
     ((s.pwr.step = 2 ∧ (servingGroups s).all (groupTrained s) = true ∧ spareDue s 30 = false ∧ spareDue s 31 = false) →
       ∃ t, exec (.backChannelLock g) s = .next t ∧ t.pwr = { s.pwr with step := 3, enGate := true } ∧ handled t) ∧
     ((s.pwr.step = 2 ∧ ((servingGroups s).all (groupTrained s) = false ∨ spareDue s 30 = true ∨ spareDue s 31 = true)) →
       exec (.backChannelLock g) s = .next s) ∧
     (2 < s.pwr.step → s.scn.state = .stopped → s.px.bringIn = none →
       ∃ t, exec (.backChannelLock g) s = .next t ∧ t.pwr = s.pwr ∧ handled t))

/-- R205, R206, R209, R210, R230, R377, R378: partners' reports are taken while the back channel is awake; one that fails
its checks is discarded and counted. HEADROOM is kept; TEMP feeds the partner's declared sensors; a CRCREPORT of the
span awaited is compared, and a difference is a path fault. A FAULT is flagged and acts by its code: an emitter waits
for its retest, line errors are counted, a lost configuration is sent again. Missing and stale reports are flagged. -/
def Obligations.PartnersReport : Prop :=
  ∀ (g : Nat) (pkt : List Byte) (s : State), g < 32 → Quiet s → spWf {} s.px.groups = true →
    let x := grp s g
    let awake := bcAwake x
    (awake = false → exec (.headroomRx g pkt) s = .next s ∧ exec (.crcreportRx g pkt) s = .next s ∧
      exec (.faultRx g pkt) s = .next s ∧ exec (.tempRx g pkt) s = .next s) ∧
    (awake = true →
      (∀ c, (c = .headroomRx g pkt ∧ bcOk x 0x21 2 pkt = false) ∨ (c = .crcreportRx g pkt ∧ bcOk x 0x23 2 pkt = false) ∨
        (c = .faultRx g pkt ∧ bcOk x 0x24 2 pkt = false) ∨ (c = .tempRx g pkt ∧ bcOk x 0x22 3 pkt = false) →
        ∃ t, exec c s = .next t ∧ (grp t g).bcBad = satAdd 32 x.bcBad 1 ∧ bitOf t.px.err 3 = true ∧
          (grp t g).headroom = x.headroom) ∧
      (bcOk x 0x21 2 pkt = true →
        let u (i : Nat) : Nat := leAt pkt (16 + 2 * i) 2
        exec (.headroomRx g pkt) s = .next (modGrp g (fun x => { x with
          headroom := some ([u 0, u 1, u 2], [u 3, u 4, u 5]), headStale := false }) s)) ∧
      (bcOk x 0x22 3 pkt = true → ∀ p, grpSlice s g = some p → ∃ t, exec (.tempRx g pkt) s = .next t ∧
        (grp t g).tempStale = false ∧
        (∀ i, i < 8 → i < leAt pkt 16 1 → bitOf (byteAt pkt 36) i = true →
          let v := sext 16 (leAt pkt (20 + 2 * i) 2)
          let n := 40 + 8 * p + i
          sensDeclared s n = true → sensServes s n = true → (sensor s n).lost = false → -640 ≤ v → v ≤ 2400 →
          (sensor s n).lastRaw ≠ some v → (sensor t n).value = v ∧ (sensor t n).seen = true)) ∧
      (bcOk x 0x23 2 pkt = true →
        let far : W32 := BitVec.ofNat 32 (leAt pkt 16 4)
        ((x.awaiting = false ∨ leAt pkt 20 2 ≠ x.closedTick) →
          exec (.crcreportRx g pkt) s = .next (modGrp g (fun x => { x with crcFar := far }) s)) ∧
        (x.awaiting = true → leAt pkt 20 2 = x.closedTick → x.padDue = true → ∃ t, exec (.crcreportRx g pkt) s = .next t ∧
          (grp t g).awaiting = false ∧ (grp t g).farHeld = some (far, bitOf (byteAt pkt 22) 2) ∧
          (grp t g).mismatch = x.mismatch) ∧
        (x.awaiting = true → leAt pkt 20 2 = x.closedTick → x.padDue = false → ∃ t, exec (.crcreportRx g pkt) s = .next t ∧
          (grp t g).awaiting = false ∧ t.px.spanTick = x.closedTick ∧
          (far = x.crcPre → (grp t g).mismatch = x.mismatch ∧ (grp t g).crcFar = far) ∧
          (far ≠ x.crcPre → x.curBad = false → (grp t g).mismatch = satAdd 16 x.mismatch 1 ∧ (grp t g).cause = 2 ∧
            bitOf t.px.err 0 = true ∧ bitOf t.px.pathFault g = true))) ∧
      (bcOk x 0x24 2 pkt = true → ∃ t, exec (.faultRx g pkt) s = .next t ∧ bitOf t.px.err 6 = true ∧
        (leAt pkt 16 1 = 7 → (grp t g).lineCrc = satAdd 32 x.lineCrc (leAt pkt 24 4)) ∧
        (leAt pkt 16 1 = 8 → (grp t g).configLost = true) ∧
        (∀ p, leAt pkt 16 1 = 1 → grpSlice s g = some p →
          let e : Emitter := ⟨leAt pkt 18 2, p, leAt pkt 22 1, false, leAt pkt 20 2⟩
          s.pwr.retested.contains e = false → s.pwr.reported.contains e = false → s.pwr.retests.contains e = false →
          t.pwr = { s.pwr with reported := s.pwr.reported ++ [e] }))) ∧
    (x.awaiting = false → exec (.crcreportMissing g) s = .next s) ∧
    (x.awaiting = true → exec (.crcreportMissing g) s = .next (pxErr 4 (modGrp g (fun x => { x with
      awaiting := false, missing := satAdd 16 x.missing 1 }) s))) ∧
    (grpSlice s g = none → exec (.tempStale g) s = .next s ∧ exec (.headroomStale g) s = .next s) ∧
    ((grpSlice s g).isSome → exec (.headroomStale g) s =
        .next (pxErr 8 (modGrp g (fun x => { x with headStale := true }) s)) ∧
      ∃ t, exec (.tempStale g) s = .next t ∧ (grp t g).tempStale = true ∧ bitOf t.px.err 7 = true)

/-! ### Temperature -/

/-- R376 to R385, R389, R456: a sample counts the period, follows REFIN, and sets level and skip from the hottest reading
by the rules of hysteresis, or level 3 with skip 12 where a site is lost. Pauses begin where skip does not help and
the fallback is enabled. The sparing request of a lost sensor brings its site's spare in, which then serves for it, or
takes the sensor OFFLINE. REFIN that has returned is used again. -/
def Obligations.TemperatureIsHeld : Prop :=
  ∀ s : State, Quiet s →
    (∀ env, ∃ t, exec (.thSample env) s = .next t ∧ t.th.ms = s.th.ms + samplePeriod s ∧
      t.th.timeL1 = (if s.th.level = 1 then satAdd 32 s.th.timeL1 (samplePeriod s) else s.th.timeL1) ∧
      t.th.timePause = (if s.th.pauseActive then satAdd 32 s.th.timePause (samplePeriod s) else s.th.timePause) ∧
      (env.refinInRange = true → t.th.refinBad = false ∧ t.th.onBandgap = s.th.onBandgap) ∧
      (env.refinInRange = false → t.th.onBandgap = (s.th.onBandgap || s.th.refinBad)) ∧
      (t.th.l3Forced = true → t.th.level = 3 ∧ t.th.skip = 12) ∧
      (s.th.l3Forced = false → t.th.l3Forced = false →
        t.th.level = levelRule s.th.level t.th.t (thOnset s) (thSevere s) (substActive t) ∧
        t.th.skip = (skipRule t.th.level s.th.skip (satAdd 16 s.th.upMs (samplePeriod s))
          (satAdd 16 s.th.dnMs (samplePeriod s)) t.th.t (thOnset s) (thSevere s) (substActive t)).1)) ∧
    ((s.th.level = 0 ∨ (ceilStuck s = false ∧ bitOf s.th.ctrl 0 = false)) → exec .thPause s = .next s) ∧
    (s.th.level ≠ 0 → (ceilStuck s = true ∨ bitOf s.th.ctrl 0 = true) →
      (bitOf s.th.ctrl 1 = false → exec .thPause s = .next (thErr 7 s)) ∧
      (bitOf s.th.ctrl 1 = true → s.th.pauseActive = true → exec .thPause s = .next s) ∧
      (bitOf s.th.ctrl 1 = true → s.th.pauseActive = false → exec .thPause s =
        .next (log .thPause [s.th.level] (thErr 4 { s with th := { s.th with pauseActive := true } })))) ∧
    ((s.th.onBandgap = false ∨ s.th.refinBad = true) → exec .refinReturn s = .next s) ∧
    (s.th.onBandgap = true → s.th.refinBad = false →
      exec .refinReturn s = .next { s with th := { s.th with onBandgap := false } }) ∧
    (∀ i, i < 284 →
      (∀ ok, lastingTurn s 5 i = false → exec (.thSensorSpare i ok) s = .next s) ∧
      (lastingTurn s 5 i = true → i < 36 →
        let q := siteSpare (i / 2)
        (unitOf (frontPop s) 5 q).state = .offline → (unitOf (frontPop s) 5 q).lastTest = true → setWaits s 5 i = false →
        ∃ t, exec (.thSensorSpare i true) s = .next t ∧ (unitOf t 5 i).state = .spared ∧ (unitOf t 5 q).state = .online ∧
          (sensor t q).servesFor = some i ∧ (sensor t i).lost = true ∧ lkp (mapInForce t.mram).thSpare q = some i) ∧
      (lastingTurn s 5 i = true → 36 ≤ i → setWaits s 5 i = false → ∃ t, exec (.thSensorSpare i true) s = .next t ∧
        (unitOf t 5 i).state = .offline ∧ (unitOf t 5 i).cause = 11 ∧ (sensor t i).lost = true ∧
        (i < 40 → bitOf t.th.err 2 = true)) ∧
      ((unitOf s 5 i).state = .degraded → exec (.sensorCleanWindow i) s = .next (unitTo 5 i .online 6 s)) ∧
      ((unitOf s 5 i).state ≠ .degraded → exec (.sensorCleanWindow i) s = .next s))

end
end

