-- ==== Sys2Proof/Laws/Quiet.lean ====
section
/-! SUPPORT. What no operation of the machine changes but the submission of a command and a reset: the FENCEs and the
commands held back, and the reset that waits for the panel. One lemma per operation; a row whose operation has one does
just that operation in a quiet state. -/

set_option linter.unusedSimpArgs false
set_option linter.unusedVariables false
set_option linter.unreachableTactic false
set_option linter.unusedTactic false
set_option linter.unnecessarySeqFocus false

namespace Sys2Proof.Machine

/-- The FENCEs outstanding, the commands held back and the reset that waits for the panel (R180, R341, R391). -/
def holds (s : State) : List FenceWait × List (Hdr × Cmd) × Option Nat := (s.hq.fences, s.hq.held, s.rm.resetAfterDown)

@[simp] theorem holds_eta (s : State) : (s.hq.fences, s.hq.held, s.rm.resetAfterDown) = holds s := rfl

@[simp] theorem holds_mk (x_rm : Rm) (x_mram : Mram) (x_hq : Hq) (x_scene : Scene) (x_hom : Hom) (x_clr : Clr) (x_crsl : Crsl) (x_scn : Scn) (x_px : Px) (x_pwr : Pwr) (x_jgl : Jgl) (x_spm : Spm) (x_ctn : Ctn) (x_shw : Shw) (x_trz : Trz) (x_clp : Clp) (x_brk : Brk) (x_log : Log) (x_th : Th) (x_trn : Trn) (x_fw : Fw) (x_cal : Cal) (x_units : Sparse UnitEntry) (x_genBase : W16) (x_unitReqs : List UnitReq) (x_unitSets : List (Hdr × Nat × Nat × Bool)) (x_out : List Out) (x_free : Nat) (x_pending : List Instr) :
    holds ⟨x_rm, x_mram, x_hq, x_scene, x_hom, x_clr, x_crsl, x_scn, x_px, x_pwr, x_jgl, x_spm, x_ctn, x_shw, x_trz, x_clp, x_brk, x_log, x_th, x_trn, x_fw, x_cal, x_units, x_genBase, x_unitReqs, x_unitSets, x_out, x_free, x_pending⟩ = (x_hq.fences, x_hq.held, x_rm.resetAfterDown) := rfl

theorem holds_ite (c : Prop) [Decidable c] (a b : State) : holds (if c then a else b) = if c then holds a else holds b := by
  split <;> rfl

@[simp] theorem holds_foldl {α : Type} (g : State → α → State) (l : List α) (s : State) (h : ∀ s a, holds (g s a) = holds s) :
    holds (l.foldl g s) = holds s := by
  induction l generalizing s with
  | nil => rfl
  | cons a l ih => rw [List.foldl_cons, ih, h]
theorem holds_getD (o : Option State) (s : State) (h : ∀ x, o = some x → holds x = holds s) : holds (o.getD s) = holds s := by
  cases o with
  | none => rfl
  | some x => exact h x rfl

@[simp] theorem eachNat_holds (f : Nat → State → State) (l : List Nat) (s : State) (h : ∀ n s, holds (f n s) = holds s) :
    holds (eachNat f l s) = holds s := by
  induction l generalizing s with
  | nil => rfl
  | cons a l ih => rw [eachNat, ih, h]

@[simp] theorem ownerOnly_holds (b : Bool) (o p : Port) (f : State → State) (s : State) (h : holds (f s) = holds s) :
    holds (ownerOnly b o p f s) = holds s := by
  unfold ownerOnly hqErr; split
  · rfl
  · exact h

@[simp] theorem emit_holds (o : Out) (s : State) : holds (emit o s) = holds s := by
  unfold emit; simp [holds_ite, holds_foldl, holds_getD, eachNat_holds]

@[simp] theorem drawFree_holds (s : State) : holds ((drawFree s).2) = holds s := by
  unfold drawFree; simp [holds_ite, holds_foldl, holds_getD, eachNat_holds]

theorem drawFree_holds_pair (s : State) {a_ : W64} {t_ : State} (h_ : drawFree s = (a_, t_)) : holds t_ = holds s := by
  have e_ := drawFree_holds  s
  rw [h_] at e_; exact e_

@[simp] theorem modPort_holds (p : Port) (f : HostPort → HostPort) (s : State) : holds (modPort p f s) = holds s := by
  unfold modPort; dsimp only; (repeat' split) <;> (try simp_all [holds_ite, holds_foldl, holds_getD, eachNat_holds]) <;> (try rfl)

@[simp] theorem msixSend_holds (p : Port) (v : Nat) (s : State) : holds (msixSend p v s) = holds s := by
  unfold msixSend; simp [holds_ite, holds_foldl, holds_getD, eachNat_holds]

@[simp] theorem pmeOwed_holds (p : Port) (s : State) : holds (pmeOwed p s) = holds s := by
  unfold pmeOwed; simp [holds_ite, holds_foldl, holds_getD, eachNat_holds]

@[simp] theorem modSrc_holds (n : Nat) (f : Source → Source) (s : State) : holds (modSrc n f s) = holds s := by
  unfold modSrc; simp [holds_ite, holds_foldl, holds_getD, eachNat_holds]

@[simp] theorem brkSend_holds (n : Nat) (s : State) : holds (brkSend n s) = holds s := by
  unfold brkSend; dsimp only; (repeat' split) <;> (try simp_all [holds_ite, holds_foldl, holds_getD, eachNat_holds]) <;> (try rfl)

@[simp] theorem brkToHost_holds (n : Nat) (s : State) : holds (brkToHost n s) = holds s := by
  unfold brkToHost; simp [holds_ite, holds_foldl, holds_getD, eachNat_holds]

@[simp] theorem brkEvent_holds (n : Nat) (s : State) : holds (brkEvent n s) = holds s := by
  unfold brkEvent; simp [holds_ite, holds_foldl, holds_getD, eachNat_holds]

@[simp] theorem brkLevel_holds (n : Nat) (v : Bool) (s : State) : holds (brkLevel n v s) = holds s := by
  unfold brkLevel; simp [holds_ite, holds_foldl, holds_getD, eachNat_holds]

@[simp] theorem logDrop_holds (full : Bool) (s : State) : holds (logDrop full s) = holds s := by
  unfold logDrop; simp [holds_ite, holds_foldl, holds_getD, eachNat_holds]

@[simp] theorem logFrom_holds (core : Nat) (name : LogName) (args : List Nat) (s : State) : holds (logFrom core name args s) = holds s := by
  unfold logFrom; simp [holds_ite, holds_foldl, holds_getD, eachNat_holds]

@[simp] theorem log_holds (name : LogName) (args : List Nat) (s : State) : holds (log name args s) = holds s := by
  unfold log; simp [holds_ite, holds_foldl, holds_getD, eachNat_holds]

@[simp] theorem logLevel_holds (s : State) : holds (logLevel s) = holds s := by
  unfold logLevel; simp [holds_ite, holds_foldl, holds_getD, eachNat_holds]

@[simp] theorem logDrain1_holds (s : State) : holds (logDrain1 s) = holds s := by
  unfold logDrain1; dsimp only; (repeat' split) <;> (try simp_all [holds_ite, holds_foldl, holds_getD, eachNat_holds]) <;> (try rfl)

@[simp] theorem logDrainN_holds  (z0 : Nat) (s : State) : holds (logDrainN z0 s) = holds s := by
  fun_induction logDrainN z0 s <;> simp_all [holds_ite, holds_foldl, holds_getD, eachNat_holds]

@[simp] theorem logDrain_holds (s : State) : holds (logDrain s) = holds s := by
  unfold logDrain; simp [holds_ite, holds_foldl, holds_getD, eachNat_holds]

@[simp] theorem modUnit_holds (cls idx : Nat) (f : UnitEntry → UnitEntry) (s : State) : holds (modUnit cls idx f s) = holds s := by
  unfold modUnit; simp [holds_ite, holds_foldl, holds_getD, eachNat_holds]

@[simp] theorem unitTo_holds (cls idx : Nat) (st : UState) (cause : Nat) (s : State) : holds (unitTo cls idx st cause s) = holds s := by
  unfold unitTo; simp [holds_ite, holds_foldl, holds_getD, eachNat_holds]

@[simp] theorem unitReq_holds (cls idx : Nat) (lasting : Bool) (s : State) : holds (unitReq cls idx lasting s) = holds s := by
  unfold unitReq; simp [holds_ite, holds_foldl, holds_getD, eachNat_holds]

@[simp] theorem unitTransient_holds (cls idx : Nat) (s : State) : holds (unitTransient cls idx s) = holds s := by
  unfold unitTransient; simp [holds_ite, holds_foldl, holds_getD, eachNat_holds]

@[simp] theorem unitLasting_holds (cls idx : Nat) (s : State) : holds (unitLasting cls idx s) = holds s := by
  unfold unitLasting; simp [holds_ite, holds_foldl, holds_getD, eachNat_holds]

@[simp] theorem unitReqsLeft_holds (cls idx : Nat) (rest : List UnitReq) (s : State) : holds (unitReqsLeft cls idx rest s) = holds s := by
  unfold unitReqsLeft; simp [holds_ite, holds_foldl, holds_getD, eachNat_holds]

@[simp] theorem unitReqPop_holds (r : UnitReq) (s : State) : holds (unitReqPop r s) = holds s := by
  unfold unitReqPop; simp [holds_ite, holds_foldl, holds_getD, eachNat_holds]

@[simp] theorem trnSet_holds (target entry : Nat) (e : TrnEntry) (s : State) : holds (trnSet target entry e s) = holds s := by
  unfold trnSet; simp [holds_ite, holds_foldl, holds_getD, eachNat_holds]

@[simp] theorem trnNote_holds (target m : Nat) (p : Perm) (addr : Nat) (entry : Option Nat) (fence : Bool) (s : State) : holds (trnNote target m p addr entry fence s) = holds s := by
  unfold trnNote; simp [holds_ite, holds_foldl, holds_getD, eachNat_holds]

@[simp] theorem trnAccess_holds (target m : Nat) (p : Perm) (addr len : Nat) (s : State) : holds ((trnAccess target m p addr len s).2) = holds s := by
  fun_cases trnAccess target m p addr len s <;> simp_all [holds_ite, holds_foldl, holds_getD, eachNat_holds]

theorem trnAccess_holds_pair (target m : Nat) (p : Perm) (addr len : Nat) (s : State) {a_ : Option Status} {t_ : State} (h_ : trnAccess target m p addr len s = (a_, t_)) : holds t_ = holds s := by
  have e_ := trnAccess_holds  target m p addr len s
  rw [h_] at e_; exact e_

@[simp] theorem modMesh_holds (p : Nat) (f : MeshPort → MeshPort) (s : State) : holds (modMesh p f s) = holds s := by
  unfold modMesh; simp [holds_ite, holds_foldl, holds_getD, eachNat_holds]

@[simp] theorem trzErr_holds (i : Nat) (s : State) : holds (trzErr i s) = holds s := by
  unfold trzErr; simp [holds_ite, holds_foldl, holds_getD, eachNat_holds]

@[simp] theorem meshStream_holds (p : Nat) (bytes : List Byte) (s : State) : holds ((meshStream p bytes s).2) = holds s := by
  unfold meshStream; simp [holds_ite, holds_foldl, holds_getD, eachNat_holds]

theorem meshStream_holds_pair (p : Nat) (bytes : List Byte) (s : State) {a_ : List (List (BitVec 130))} {t_ : State} (h_ : meshStream p bytes s = (a_, t_)) : holds t_ = holds s := by
  have e_ := meshStream_holds  p bytes s
  rw [h_] at e_; exact e_

@[simp] theorem meshDepart_holds (p : Nat) (f : MeshFrame) (s : State) : holds (meshDepart p f s) = holds s := by
  unfold meshDepart; simp [holds_ite, holds_foldl, holds_getD, eachNat_holds]

@[simp] theorem meshTx_holds (p : Nat) (f : MeshFrame) (s : State) : holds (meshTx p f s) = holds s := by
  unfold meshTx; simp [holds_ite, holds_foldl, holds_getD, eachNat_holds]

@[simp] theorem meshPumpN_holds (p : Nat) (z0 : Nat) (s : State) : holds (meshPumpN p z0 s) = holds s := by
  fun_induction meshPumpN p z0 s <;> simp_all [holds_ite, holds_foldl, holds_getD, eachNat_holds]

@[simp] theorem meshPump_holds (p : Nat) (s : State) : holds (meshPump p s) = holds s := by
  unfold meshPump; simp [holds_ite, holds_foldl, holds_getD, eachNat_holds]

@[simp] theorem meshQueue_holds (p : Nat) (f : MeshFrame) (s : State) : holds (meshQueue p f s) = holds s := by
  unfold meshQueue; simp [holds_ite, holds_foldl, holds_getD, eachNat_holds]

@[simp] theorem meshSendTimed_holds (p cls kind : Nat) (time : MeshTime) (words : List Nat) (bytes : List Byte) (s : State) : holds (meshSendTimed p cls kind time words bytes s) = holds s := by
  unfold meshSendTimed; simp [holds_ite, holds_foldl, holds_getD, eachNat_holds]

@[simp] theorem meshSendFrame_holds (p cls kind : Nat) (words : List Nat) (bytes : List Byte) (s : State) : holds (meshSendFrame p cls kind words bytes s) = holds s := by
  unfold meshSendFrame; simp [holds_ite, holds_foldl, holds_getD, eachNat_holds]

@[simp] theorem meshRoute_holds (dst cls kind : Nat) (words : List Nat) (bytes : List Byte) (s : State) : holds (meshRoute dst cls kind words bytes s) = holds s := by
  unfold meshRoute; simp [holds_ite, holds_foldl, holds_getD, eachNat_holds]

@[simp] theorem hqErr_holds (i : Nat) (s : State) : holds (hqErr i s) = holds s := by
  unfold hqErr; simp [holds_ite, holds_foldl, holds_getD, eachNat_holds]

@[simp] theorem modSq_holds (q : Nat) (f : Sq → Sq) (s : State) : holds (modSq q f s) = holds s := by
  unfold modSq; simp [holds_ite, holds_foldl, holds_getD, eachNat_holds]

@[simp] theorem modCq_holds (q : Nat) (f : Cq → Cq) (s : State) : holds (modCq q f s) = holds s := by
  unfold modCq; simp [holds_ite, holds_foldl, holds_getD, eachNat_holds]

@[simp] theorem clearHint_holds (p : Port) (v : Nat) (s : State) : holds (clearHint p v s) = holds s := by
  unfold clearHint; simp [holds_ite, holds_foldl, holds_getD, eachNat_holds]

@[simp] theorem cqSend_holds (q : Nat) (s : State) : holds (cqSend q s) = holds s := by
  unfold cqSend; simp [holds_ite, holds_foldl, holds_getD, eachNat_holds]

@[simp] theorem cqSignal_holds (q : Nat) (s : State) : holds (cqSignal q s) = holds s := by
  unfold cqSignal; simp [holds_ite, holds_foldl, holds_getD, eachNat_holds]

@[simp] theorem cqDrop_holds (q : Nat) (e : Cpl) (s : State) : holds (cqDrop q e s) = holds s := by
  unfold cqDrop; simp [holds_ite, holds_foldl, holds_getD, eachNat_holds]

@[simp] theorem cqOverflow_holds (q : Nat) (e : Cpl) (s : State) : holds (cqOverflow q e s) = holds s := by
  unfold cqOverflow; simp [holds_ite, holds_foldl, holds_getD, eachNat_holds]

@[simp] theorem cqWrite_holds (q : Nat) (e : Cpl) (s : State) : holds (cqWrite q e s) = holds s := by
  unfold cqWrite; simp [holds_ite, holds_foldl, holds_getD, eachNat_holds]

@[simp] theorem cqHold_holds (q : Nat) (e : Cpl) (s : State) : holds (cqHold q e s) = holds s := by
  unfold cqHold; simp [holds_ite, holds_foldl, holds_getD, eachNat_holds]

@[simp] theorem cqDeliver_holds (q : Nat) (e : Cpl) (s : State) : holds (cqDeliver q e s) = holds s := by
  unfold cqDeliver; dsimp only; (repeat' split) <;> (try simp_all [holds_ite, holds_foldl, holds_getD, eachNat_holds]) <;> (try rfl)

@[simp] theorem cqWriteAll_holds (q : Nat) (z0 : List Cpl) (s : State) : holds (cqWriteAll q z0 s) = holds s := by
  fun_induction cqWriteAll q z0 s <;> simp_all [holds_ite, holds_foldl, holds_getD, eachNat_holds]

@[simp] theorem cqRelease_holds (q : Nat) (s : State) : holds (cqRelease q s) = holds s := by
  unfold cqRelease; simp [holds_ite, holds_foldl, holds_getD, eachNat_holds]

@[simp] theorem deliver_holds (h : Hdr) (e : Cpl) (records : List Byte) (s : State) : holds (deliver h e records s) = holds s := by
  unfold deliver; dsimp only; (repeat' split) <;> (try simp_all [holds_ite, holds_foldl, holds_getD, eachNat_holds]) <;> (try rfl)

@[simp] theorem unflight_holds (h : Hdr) (s : State) : holds (unflight h s) = holds s := by
  unfold unflight; simp [holds_ite, holds_foldl, holds_getD, eachNat_holds]

@[simp] theorem completeWith_holds (op : Byte) (h : Hdr) (st : Status) (detail : W64) (records : List Byte) (s : State) : holds (completeWith op h st detail records s) = holds s := by
  unfold completeWith; simp [holds_ite, holds_foldl, holds_getD, eachNat_holds]

@[simp] theorem complete_holds (op : Byte) (h : Hdr) (st : Status) (detail : W64) (s : State) : holds (complete op h st detail s) = holds s := by
  unfold complete; simp [holds_ite, holds_foldl, holds_getD, eachNat_holds]

@[simp] theorem refuse_holds (op : Byte) (h : Hdr) (st : Status) (detail : W64) (s : State) : holds (refuse op h st detail s) = holds s := by
  unfold refuse; simp [holds_ite, holds_foldl, holds_getD, eachNat_holds]

@[simp] theorem accepted_holds (op : Byte) (h : Hdr) (s : State) : holds (accepted op h s) = holds s := by
  unfold accepted; simp [holds_ite, holds_foldl, holds_getD, eachNat_holds]

@[simp] theorem toFlight_holds (op : Byte) (h : Hdr) (s : State) : holds (toFlight op h s) = holds s := by
  unfold toFlight; simp [holds_ite, holds_foldl, holds_getD, eachNat_holds]

@[simp] theorem sqEnableNow_holds (p : Port) (q : Nat) (s : State) : holds (sqEnableNow p q s) = holds s := by
  unfold sqEnableNow; simp [holds_ite, holds_foldl, holds_getD, eachNat_holds]

@[simp] theorem sqEnableOwn_holds (p : Port) (q : Nat) (s : State) : holds (sqEnableOwn p q s) = holds s := by
  unfold sqEnableOwn; simp [holds_ite, holds_foldl, holds_getD, eachNat_holds]

@[simp] theorem sqEnable_holds (p : Port) (q : Nat) (s : State) : holds (sqEnable p q s) = holds s := by
  unfold sqEnable; simp [holds_ite, holds_foldl, holds_getD, eachNat_holds]

@[simp] theorem sqDisable_holds (p : Port) (q : Nat) (s : State) : holds (sqDisable p q s) = holds s := by
  unfold sqDisable; simp [holds_ite, holds_foldl, holds_getD, eachNat_holds]

@[simp] theorem sqDrained_holds (q : Nat) (s : State) : holds (sqDrained q s) = holds s := by
  unfold sqDrained; simp [holds_ite, holds_foldl, holds_getD, eachNat_holds]

@[simp] theorem sqReset_holds (p : Port) (q : Nat) (s : State) : holds (sqReset p q s) = holds s := by
  unfold sqReset; simp [holds_ite, holds_foldl, holds_getD, eachNat_holds]

@[simp] theorem sqAdopt_holds (p : Port) (q : Nat) (s : State) : holds (sqAdopt p q s) = holds s := by
  unfold sqAdopt; simp [holds_ite, holds_foldl, holds_getD, eachNat_holds]

@[simp] theorem sqDoorbellNow_holds (p : Port) (q v : Nat) (s : State) : holds (sqDoorbellNow p q v s) = holds s := by
  unfold sqDoorbellNow; simp [holds_ite, holds_foldl, holds_getD, eachNat_holds]

@[simp] theorem sqDoorbell_holds (p : Port) (q v : Nat) (s : State) : holds (sqDoorbell p q v s) = holds s := by
  unfold sqDoorbell; simp [holds_ite, holds_foldl, holds_getD, eachNat_holds]

@[simp] theorem cqEnableNow_holds (p : Port) (q : Nat) (s : State) : holds (cqEnableNow p q s) = holds s := by
  unfold cqEnableNow; simp [holds_ite, holds_foldl, holds_getD, eachNat_holds]

@[simp] theorem cqEnableOwn_holds (p : Port) (q : Nat) (s : State) : holds (cqEnableOwn p q s) = holds s := by
  unfold cqEnableOwn; simp [holds_ite, holds_foldl, holds_getD, eachNat_holds]

@[simp] theorem cqEnable_holds (p : Port) (q : Nat) (s : State) : holds (cqEnable p q s) = holds s := by
  unfold cqEnable; simp [holds_ite, holds_foldl, holds_getD, eachNat_holds]

@[simp] theorem cqDisable_holds (p : Port) (q : Nat) (s : State) : holds (cqDisable p q s) = holds s := by
  unfold cqDisable; simp [holds_ite, holds_foldl, holds_getD, eachNat_holds]

@[simp] theorem cqReset_holds (p : Port) (q : Nat) (s : State) : holds (cqReset p q s) = holds s := by
  unfold cqReset; simp [holds_ite, holds_foldl, holds_getD, eachNat_holds]

@[simp] theorem cqAdopt_holds (p : Port) (q : Nat) (s : State) : holds (cqAdopt p q s) = holds s := by
  unfold cqAdopt; simp [holds_ite, holds_foldl, holds_getD, eachNat_holds]

@[simp] theorem cqDoorbellNow_holds (p : Port) (q v : Nat) (s : State) : holds (cqDoorbellNow p q v s) = holds s := by
  unfold cqDoorbellNow; simp [holds_ite, holds_foldl, holds_getD, eachNat_holds]

@[simp] theorem cqDoorbell_holds (p : Port) (q v : Nat) (s : State) : holds (cqDoorbell p q v s) = holds s := by
  unfold cqDoorbell; simp [holds_ite, holds_foldl, holds_getD, eachNat_holds]

@[simp] theorem cqTimer_holds (q : Nat) (s : State) : holds (cqTimer q s) = holds s := by
  unfold cqTimer; simp [holds_ite, holds_foldl, holds_getD, eachNat_holds]

@[simp] theorem applyEarly_holds  (z0 : List Early) (s : State) : holds (applyEarly z0 s) = holds s := by
  fun_induction applyEarly z0 s <;> simp_all [holds_ite, holds_foldl, holds_getD, eachNat_holds]

@[simp] theorem mapSqs_holds (p : Port) (f : Sq → Sq) (s : State) : holds (mapSqs p f s) = holds s := by
  unfold mapSqs; simp [holds_ite, holds_foldl, holds_getD, eachNat_holds]

@[simp] theorem mapCqs_holds (p : Port) (f : Cq → Cq) (s : State) : holds (mapCqs p f s) = holds s := by
  unfold mapCqs; simp [holds_ite, holds_foldl, holds_getD, eachNat_holds]

@[simp] theorem discardFlight_holds (p : Port) (s : State) : holds (discardFlight p s) = holds s := by
  unfold discardFlight; simp [holds_ite, holds_foldl, holds_getD, eachNat_holds]

@[simp] theorem disableQueues_holds (p : Port) (s : State) : holds (disableQueues p s) = holds s := by
  unfold disableQueues; simp [holds_ite, holds_foldl, holds_getD, eachNat_holds]

@[simp] theorem perst_holds (p : Port) (s : State) : holds (perst p s) = holds s := by
  unfold perst; simp [holds_ite, holds_foldl, holds_getD, eachNat_holds]

@[simp] theorem flr_holds (p : Port) (s : State) : holds (flr p s) = holds s := by
  unfold flr; simp [holds_ite, holds_foldl, holds_getD, eachNat_holds]

@[simp] theorem linkDown_holds (p : Port) (s : State) : holds (linkDown p s) = holds s := by
  unfold linkDown; simp [holds_ite, holds_foldl, holds_getD, eachNat_holds]

@[simp] theorem brkRelease_holds (p : Port) (s : State) : holds (brkRelease p s) = holds s := by
  unfold brkRelease; simp [holds_ite, holds_foldl, holds_getD, eachNat_holds]

@[simp] theorem portRelease_holds (p : Port) (asleep : Bool) (s : State) : holds (portRelease p asleep s) = holds s := by
  unfold portRelease; simp [holds_ite, holds_foldl, holds_getD, eachNat_holds]

@[simp] theorem linkReturn_holds (p : Port) (s : State) : holds (linkReturn p s) = holds s := by
  unfold linkReturn; simp [holds_ite, holds_foldl, holds_getD, eachNat_holds]

@[simp] theorem failoverExpire_holds (p : Port) (s : State) : holds (failoverExpire p s) = holds s := by
  unfold failoverExpire; simp [holds_ite, holds_foldl, holds_getD, eachNat_holds]

@[simp] theorem d3hot_holds (p : Port) (pme : Bool) (s : State) : holds (d3hot p pme s) = holds s := by
  unfold d3hot; simp [holds_ite, holds_foldl, holds_getD, eachNat_holds]

@[simp] theorem d0Return_holds (p : Port) (s : State) : holds (d0Return p s) = holds s := by
  unfold d0Return; simp [holds_ite, holds_foldl, holds_getD, eachNat_holds]

@[simp] theorem takeBack_holds (p : Port) (s : State) : holds (takeBack p s) = holds s := by
  unfold takeBack; simp [holds_ite, holds_foldl, holds_getD, eachNat_holds]

@[simp] theorem linkUp_holds (p : Port) (speed width : Nat) (s : State) : holds (linkUp p speed width s) = holds s := by
  unfold linkUp; simp [holds_ite, holds_foldl, holds_getD, eachNat_holds]

@[simp] theorem modCore_holds (n : Nat) (f : Core → Core) (s : State) : holds (modCore n f s) = holds s := by
  unfold modCore; simp [holds_ite, holds_foldl, holds_getD, eachNat_holds]

@[simp] theorem brkErr_holds (i : Nat) (s : State) : holds (brkErr i s) = holds s := by
  unfold brkErr; simp [holds_ite, holds_foldl, holds_getD, eachNat_holds]

@[simp] theorem modSettle_holds (n : Nat) (s : State) : holds (modSettle n s) = holds s := by
  unfold modSettle; simp [holds_ite, holds_foldl, holds_getD, eachNat_holds]

@[simp] theorem ringEmptied_holds (src : Nat) (s : State) : holds (ringEmptied src s) = holds s := by
  unfold ringEmptied; simp [holds_ite, holds_foldl, holds_getD, eachNat_holds]

@[simp] theorem brkClaim_holds (n : Nat) (s : State) : holds (brkClaim n s) = holds s := by
  fun_cases brkClaim n s <;> simp_all [holds_ite, holds_foldl, holds_getD, eachNat_holds]

@[simp] theorem brkComplete_holds (n k : Nat) (s : State) : holds (brkComplete n k s) = holds s := by
  fun_cases brkComplete n k s <;> simp_all [holds_ite, holds_foldl, holds_getD, eachNat_holds]

@[simp] theorem brkInput_holds (n : Nat) (v : Bool) (s : State) : holds (brkInput n v s) = holds s := by
  unfold brkInput; simp [holds_ite, holds_foldl, holds_getD, eachNat_holds]

@[simp] theorem brkRearm_holds (n : Nat) (s : State) : holds (brkRearm n s) = holds s := by
  unfold brkRearm; simp [holds_ite, holds_foldl, holds_getD, eachNat_holds]

@[simp] theorem srcCtrlWrite_holds (n : Nat) (v : W32) (s : State) : holds (srcCtrlWrite n v s) = holds s := by
  unfold srcCtrlWrite; simp [holds_ite, holds_foldl, holds_getD, eachNat_holds]

@[simp] theorem srcRouteWrite_holds (n : Nat) (v : W32) (s : State) : holds (srcRouteWrite n v s) = holds s := by
  unfold srcRouteWrite; simp [holds_ite, holds_foldl, holds_getD, eachNat_holds]

@[simp] theorem hostPendClear_holds (n : Nat) (s : State) : holds (hostPendClear n s) = holds s := by
  unfold hostPendClear; simp [holds_ite, holds_foldl, holds_getD, eachNat_holds]

@[simp] theorem modTimer_holds (n : Nat) (s : State) : holds (modTimer n s) = holds s := by
  unfold modTimer; simp [holds_ite, holds_foldl, holds_getD, eachNat_holds]

@[simp] theorem coreReset_holds (n : Nat) (s : State) : holds (coreReset n s) = holds s := by
  unfold coreReset; simp [holds_ite, holds_foldl, holds_getD, eachNat_holds]

@[simp] theorem jglErr_holds (i : Nat) (s : State) : holds (jglErr i s) = holds s := by
  unfold jglErr; simp [holds_ite, holds_foldl, holds_getD, eachNat_holds]

@[simp] theorem modChan_holds (c : Nat) (f : Chan → Chan) (s : State) : holds (modChan c f s) = holds s := by
  unfold modChan; simp [holds_ite, holds_foldl, holds_getD, eachNat_holds]

@[simp] theorem dramRange_holds (port addr : Nat) (s : State) : holds (dramRange port addr s) = holds s := by
  unfold dramRange; simp [holds_ite, holds_foldl, holds_getD, eachNat_holds]

@[simp] theorem dramNote_holds (port addr len : Nat) (s : State) : holds (dramNote port addr len s) = holds s := by
  unfold dramNote; simp [holds_ite, holds_foldl, holds_getD, eachNat_holds]

@[simp] theorem ceLimit_holds (c : Nat) (s : State) : holds (ceLimit c s) = holds s := by
  unfold ceLimit; simp [holds_ite, holds_foldl, holds_getD, eachNat_holds]

@[simp] theorem dramCorrected_holds (addr : Nat) (s : State) : holds (dramCorrected addr s) = holds s := by
  unfold dramCorrected; simp [holds_ite, holds_foldl, holds_getD, eachNat_holds]

@[simp] theorem dramTransient_holds (addr : Nat) (s : State) : holds (dramTransient addr s) = holds s := by
  unfold dramTransient; simp [holds_ite, holds_foldl, holds_getD, eachNat_holds]

@[simp] theorem dramLasting_holds (port addr : Nat) (s : State) : holds (dramLasting port addr s) = holds s := by
  unfold dramLasting; simp [holds_ite, holds_foldl, holds_getD, eachNat_holds]

@[simp] theorem dramBus_holds (port addr : Nat) (s : State) : holds (dramBus port addr s) = holds s := by
  unfold dramBus; simp [holds_ite, holds_foldl, holds_getD, eachNat_holds]

@[simp] theorem lineEcc_holds (port addr : Nat) (ecc : Ecc) (s : State) : holds (lineEcc port addr ecc s) = holds s := by
  fun_cases lineEcc port addr ecc s <;> simp_all [holds_ite, holds_foldl, holds_getD, eachNat_holds]

@[simp] theorem eccRun_holds (port : Nat) (z0 : Nat) (z1 : List Ecc) (s : State) : holds (eccRun port z0 z1 s) = holds s := by
  fun_induction eccRun port z0 z1 s <;> simp_all [holds_ite, holds_foldl, holds_getD, eachNat_holds]

@[simp] theorem dramRead_holds (port addr len : Nat) (eccs : List Ecc) (s : State) : holds ((dramRead port addr len eccs s).2) = holds s := by
  unfold dramRead; dsimp only; (repeat' split) <;> (try simp_all [holds_ite, holds_foldl, holds_getD, eachNat_holds]) <;> (try rfl)

theorem dramRead_holds_pair (port addr len : Nat) (eccs : List Ecc) (s : State) {a_ : MemRes} {t_ : State} (h_ : dramRead port addr len eccs s = (a_, t_)) : holds t_ = holds s := by
  have e_ := dramRead_holds  port addr len eccs s
  rw [h_] at e_; exact e_

@[simp] theorem dramPut_holds (addr : Nat) (bs : List Byte) (s : State) : holds (dramPut addr bs s) = holds s := by
  unfold dramPut; simp [holds_ite, holds_foldl, holds_getD, eachNat_holds]

@[simp] theorem dramStore_holds (port addr : Nat) (bs : List Byte) (s : State) : holds (dramStore port addr bs s) = holds s := by
  unfold dramStore; simp [holds_ite, holds_foldl, holds_getD, eachNat_holds]

@[simp] theorem dramWrite_holds (port addr : Nat) (bs : List Byte) (ecc : Ecc) (s : State) : holds ((dramWrite port addr bs ecc s).2) = holds s := by
  unfold dramWrite; dsimp only; (repeat' split) <;> (try simp_all [holds_ite, holds_foldl, holds_getD, eachNat_holds]) <;> (try rfl)

theorem dramWrite_holds_pair (port addr : Nat) (bs : List Byte) (ecc : Ecc) (s : State) {a_ : Bool} {t_ : State} (h_ : dramWrite port addr bs ecc s = (a_, t_)) : holds t_ = holds s := by
  have e_ := dramWrite_holds  port addr bs ecc s
  rw [h_] at e_; exact e_

@[simp] theorem dramPoison_holds (lines : List Nat) (s : State) : holds (dramPoison lines s) = holds s := by
  unfold dramPoison; simp [holds_ite, holds_foldl, holds_getD, eachNat_holds]

@[simp] theorem spmErr_holds (i : Nat) (s : State) : holds (spmErr i s) = holds s := by
  unfold spmErr; simp [holds_ite, holds_foldl, holds_getD, eachNat_holds]

@[simp] theorem modBank_holds (b : Nat) (f : Bank → Bank) (s : State) : holds (modBank b f s) = holds s := by
  unfold modBank; simp [holds_ite, holds_foldl, holds_getD, eachNat_holds]

@[simp] theorem bankLose_holds (b : Nat) (s : State) : holds (bankLose b s) = holds s := by
  unfold bankLose; simp [holds_ite, holds_foldl, holds_getD, eachNat_holds]

@[simp] theorem bankCopy_holds (a b : Nat) (s : State) : holds (bankCopy a b s) = holds s := by
  unfold bankCopy; simp [holds_ite, holds_foldl, holds_getD, eachNat_holds]

@[simp] theorem bankOffAccess_holds (b : Nat) (s : State) : holds (bankOffAccess b s) = holds s := by
  unfold bankOffAccess; simp [holds_ite, holds_foldl, holds_getD, eachNat_holds]

@[simp] theorem bankWake_holds (b : Nat) (s : State) : holds (bankWake b s) = holds s := by
  unfold bankWake; simp [holds_ite, holds_foldl, holds_getD, eachNat_holds]

@[simp] theorem spmCeLimit_holds (b : Nat) (s : State) : holds (spmCeLimit b s) = holds s := by
  unfold spmCeLimit; simp [holds_ite, holds_foldl, holds_getD, eachNat_holds]

@[simp] theorem bankEcc_holds (b word : Nat) (ecc : Ecc) (s : State) : holds (bankEcc b word ecc s) = holds s := by
  unfold bankEcc; dsimp only; (repeat' split) <;> (try simp_all [holds_ite, holds_foldl, holds_getD, eachNat_holds]) <;> (try rfl)

@[simp] theorem wordRead_holds (ecc : Ecc) (a len : Nat) (s : State) : holds ((wordRead ecc a len s).2) = holds s := by
  unfold wordRead; dsimp only; (repeat' split) <;> (try simp_all [holds_ite, holds_foldl, holds_getD, eachNat_holds]) <;> (try rfl)

theorem wordRead_holds_pair (ecc : Ecc) (a len : Nat) (s : State) {a_ : (List Byte × Bool)} {t_ : State} (h_ : wordRead ecc a len s = (a_, t_)) : holds t_ = holds s := by
  have e_ := wordRead_holds  ecc a len s
  rw [h_] at e_; exact e_

@[simp] theorem spmReadN_holds  (z0 : Nat) (z1 : List Ecc) (z2 : Nat) (z3 : Nat) (s : State) : holds ((spmReadN z0 z1 z2 z3 s).2) = holds s := by
  fun_induction spmReadN z0 z1 z2 z3 s <;> (try dsimp only) <;> (repeat' (first
      | (simp [holds_ite, holds_foldl, holds_getD, eachNat_holds]; done)
      | split
      | (refine (holds_foldl _ _ _ ?_).trans ?_ <;> intros)
      | (refine (eachNat_holds _ _ _ ?_).trans ?_ <;> intros)
      | (simp [holds_ite, holds_foldl, holds_getD, eachNat_holds])
      | (grind [→ drawFree_holds_pair, → trnAccess_holds_pair, → meshStream_holds_pair, → dramRead_holds_pair, → dramWrite_holds_pair, → wordRead_holds_pair])))

theorem spmReadN_holds_pair  (z0 : Nat) (z1 : List Ecc) (z2 : Nat) (z3 : Nat) (s : State) {a_ : (List Byte × Bool)} {t_ : State} (h_ : spmReadN z0 z1 z2 z3 s = (a_, t_)) : holds t_ = holds s := by
  have e_ := spmReadN_holds  z0 z1 z2 z3 s
  rw [h_] at e_; exact e_

@[simp] theorem spmRead_holds (ecc : List Ecc) (a len : Nat) (s : State) : holds ((spmRead ecc a len s).2) = holds s := by
  unfold spmRead; simp [holds_ite, holds_foldl, holds_getD, eachNat_holds]

theorem spmRead_holds_pair (ecc : List Ecc) (a len : Nat) (s : State) {a_ : (List Byte × Bool)} {t_ : State} (h_ : spmRead ecc a len s = (a_, t_)) : holds t_ = holds s := by
  have e_ := spmRead_holds  ecc a len s
  rw [h_] at e_; exact e_

@[simp] theorem bankStore_holds (b off : Nat) (bs : List Byte) (s : State) : holds (bankStore b off bs s) = holds s := by
  unfold bankStore; simp [holds_ite, holds_foldl, holds_getD, eachNat_holds]

@[simp] theorem wordWrite_holds (a : Nat) (bs : List Byte) (s : State) : holds (wordWrite a bs s) = holds s := by
  unfold wordWrite; dsimp only; (repeat' split) <;> (try simp_all [holds_ite, holds_foldl, holds_getD, eachNat_holds]) <;> (try rfl)

@[simp] theorem spmWriteN_holds  (z0 : Nat) (z1 : Nat) (z2 : List Byte) (s : State) : holds (spmWriteN z0 z1 z2 s) = holds s := by
  fun_induction spmWriteN z0 z1 z2 s <;> simp_all [holds_ite, holds_foldl, holds_getD, eachNat_holds]

@[simp] theorem spmWrite_holds (a : Nat) (bs : List Byte) (s : State) : holds (spmWrite a bs s) = holds s := by
  unfold spmWrite; simp [holds_ite, holds_foldl, holds_getD, eachNat_holds]

@[simp] theorem bankLay_holds (l off n : Nat) (src : Mem) (a : Nat) (s : State) : holds (bankLay l off n src a s) = holds s := by
  unfold bankLay; dsimp only; (repeat' split) <;> (try simp_all [holds_ite, holds_foldl, holds_getD, eachNat_holds]) <;> (try rfl)

@[simp] theorem wordsPoison_holds (words : List Nat) (s : State) : holds (wordsPoison words s) = holds s := by
  unfold wordsPoison; simp [holds_ite, holds_foldl, holds_getD, eachNat_holds]

@[simp] theorem spmPoison_holds (a n : Nat) (s : State) : holds (spmPoison a n s) = holds s := by
  unfold spmPoison; simp [holds_ite, holds_foldl, holds_getD, eachNat_holds]

@[simp] theorem spmBusy_holds (n : Nat) (s : State) : holds (spmBusy n s) = holds s := by
  unfold spmBusy; simp [holds_ite, holds_foldl, holds_getD, eachNat_holds]

@[simp] theorem crslErr_holds (i : Nat) (s : State) : holds (crslErr i s) = holds s := by
  unfold crslErr; simp [holds_ite, holds_foldl, holds_getD, eachNat_holds]

@[simp] theorem setCopy_holds (n : Nat) (src : Mem) (a : Nat) (s : State) : holds (setCopy n src a s) = holds s := by
  unfold setCopy; dsimp only; (repeat' split) <;> (try simp_all [holds_ite, holds_foldl, holds_getD, eachNat_holds]) <;> (try rfl)

@[simp] theorem waveReload_holds (n : Nat) (s : State) : holds (waveReload n s) = holds s := by
  unfold waveReload; simp [holds_ite, holds_foldl, holds_getD, eachNat_holds]

@[simp] theorem tableFail_holds (f : Nat × Nat) (s : State) : holds (tableFail f s) = holds s := by
  unfold tableFail; simp [holds_ite, holds_foldl, holds_getD, eachNat_holds]

@[simp] theorem modReq_holds (k : Nat) (f : RegionReq → RegionReq) (s : State) : holds (modReq k f s) = holds s := by
  unfold modReq; simp [holds_ite, holds_foldl, holds_getD, eachNat_holds]

@[simp] theorem reqFinished_holds (k : Nat) (s : State) : holds (reqFinished k s) = holds s := by
  unfold reqFinished; simp [holds_ite, holds_foldl, holds_getD, eachNat_holds]

@[simp] theorem reqReplaced_holds (k : Nat) (s : State) : holds (reqReplaced k s) = holds s := by
  unfold reqReplaced; simp [holds_ite, holds_foldl, holds_getD, eachNat_holds]

@[simp] theorem reqTimedOut_holds (k : Nat) (s : State) : holds (reqTimedOut k s) = holds s := by
  unfold reqTimedOut; simp [holds_ite, holds_foldl, holds_getD, eachNat_holds]

@[simp] theorem reqClose_holds (k : Nat) (s : State) : holds (reqClose k s) = holds s := by
  unfold reqClose; dsimp only; (repeat' split) <;> (try simp_all [holds_ite, holds_foldl, holds_getD, eachNat_holds]) <;> (try rfl)

@[simp] theorem reqCloseAll_holds (s : State) : holds (reqCloseAll s) = holds s := by
  unfold reqCloseAll; simp [holds_ite, holds_foldl, holds_getD, eachNat_holds]

@[simp] theorem deviceClear_holds (by_ : ReqBy) (preempt : Bool) (s : State) : holds (deviceClear by_ preempt s) = holds s := by
  unfold deviceClear; dsimp only; (repeat' split) <;> (try simp_all [holds_ite, holds_foldl, holds_getD, eachNat_holds]) <;> (try rfl)

@[simp] theorem evalBands_holds (s : State) : holds ((evalBands s).1) = holds s := by
  unfold evalBands; simp [holds_ite, holds_foldl, holds_getD, eachNat_holds]

@[simp] theorem commitBands_holds (s : State) : holds (commitBands s) = holds s := by
  unfold commitBands; simp [holds_ite, holds_foldl, holds_getD, eachNat_holds]

@[simp] theorem setRegion_holds (r : Nat) (x : Region) (s : State) : holds (setRegion r x s) = holds s := by
  unfold setRegion; simp [holds_ite, holds_foldl, holds_getD, eachNat_holds]

@[simp] theorem regionEnd_holds (r : Nat) (x : Region) (s : State) : holds (regionEnd r x s) = holds s := by
  unfold regionEnd; dsimp only; (repeat' split) <;> (try simp_all [holds_ite, holds_foldl, holds_getD, eachNat_holds]) <;> (try rfl)

@[simp] theorem advanceRegion_holds (r : Nat) (s : State) : holds (advanceRegion r s) = holds s := by
  unfold advanceRegion; simp [holds_ite, holds_foldl, holds_getD, eachNat_holds]

@[simp] theorem discardRegion_holds (r : Nat) (s : State) : holds (discardRegion r s) = holds s := by
  unfold discardRegion; simp [holds_ite, holds_foldl, holds_getD, eachNat_holds]

@[simp] theorem cutRegion_holds (r : Nat) (s : State) : holds (cutRegion r s) = holds s := by
  unfold cutRegion; simp [holds_ite, holds_foldl, holds_getD, eachNat_holds]

@[simp] theorem enqueueRegion_holds (k : Nat) (q : RegionReq) (r : Nat) (s : State) : holds (enqueueRegion k q r s) = holds s := by
  unfold enqueueRegion; dsimp only; (repeat' split) <;> (try simp_all [holds_ite, holds_foldl, holds_getD, eachNat_holds]) <;> (try rfl)

@[simp] theorem enterReq_holds (k : Nat) (s : State) : holds (enterReq k s) = holds s := by
  fun_cases enterReq k s <;> simp_all [holds_ite, holds_foldl, holds_getD, eachNat_holds]

@[simp] theorem retargetRegion_holds (frame : Bool) (r : Nat) (s : State) : holds (retargetRegion frame r s) = holds s := by
  unfold retargetRegion; dsimp only; (repeat' split) <;> (try simp_all [holds_ite, holds_foldl, holds_getD, eachNat_holds]) <;> (try rfl)

@[simp] theorem startRegion_holds (r : Nat) (s : State) : holds (startRegion r s) = holds s := by
  unfold startRegion; dsimp only; (repeat' split) <;> (try simp_all [holds_ite, holds_foldl, holds_getD, eachNat_holds]) <;> (try rfl)

@[simp] theorem criticalCut_holds (zones : List Nat) (s : State) : holds (criticalCut zones s) = holds s := by
  unfold criticalCut; simp [holds_ite, holds_foldl, holds_getD, eachNat_holds]

@[simp] theorem regionsIdle_holds (t : Timing) (s : State) : holds (regionsIdle t s) = holds s := by
  unfold regionsIdle; simp [holds_ite, holds_foldl, holds_getD, eachNat_holds]

@[simp] theorem crslDisable_holds (s : State) : holds (crslDisable s) = holds s := by
  unfold crslDisable; dsimp only
  have e : ∀ t : State, holds (t.crsl.regions.foldl (fun s c => setRegion c.1 (outsideEnds c.2)
      (match runSlot c.2 with
        | some k => if c.2.state == .run then reqReplaced k (match c.2.queued with | some (_, k) => reqReplaced k s | none => s)
            else (match c.2.queued with | some (_, k) => reqReplaced k s | none => s)
        | none => (match c.2.queued with | some (_, k) => reqReplaced k s | none => s)))
      { t with crsl := { t.crsl with newReqs := [] } }) = holds t := by
    intro t
    refine (holds_foldl _ _ _ ?_).trans rfl
    intro s c; (repeat' split) <;> simp
  split
  · simp only [reqCloseAll_holds, regionsIdle_holds]
    exact (e _).trans (eachNat_holds _ _ _ (by simp))
  · simp only [reqCloseAll_holds]
    exact (e _).trans (eachNat_holds _ _ _ (by simp))

@[simp] theorem waitReqs_holds (s : State) : holds (waitReqs s) = holds s := by
  unfold waitReqs; simp [holds_ite, holds_foldl, holds_getD, eachNat_holds]

@[simp] theorem waveSwitch_holds (s : State) : holds (waveSwitch s) = holds s := by
  unfold waveSwitch; dsimp only; (repeat' split) <;> (try simp_all [holds_ite, holds_foldl, holds_getD, eachNat_holds]) <;> (try rfl)

@[simp] theorem carouselTick_holds (complete_ frame commit : Bool) (s : State) : holds (carouselTick complete_ frame commit s) = holds s := by
  unfold carouselTick; dsimp only; (repeat' split) <;> (try simp_all [holds_ite, holds_foldl, holds_getD, eachNat_holds]) <;> (try rfl)

@[simp] theorem requestTimeout_holds (k : Nat) (s : State) : holds (requestTimeout k s) = holds s := by
  unfold requestTimeout; dsimp only
  (repeat' (first
      | (simp [holds_ite, holds_foldl, holds_getD, eachNat_holds]; done)
      | split
      | (refine (holds_foldl _ _ _ ?_).trans ?_ <;> intros)
      | (refine (eachNat_holds _ _ _ ?_).trans ?_ <;> intros)
      | (simp [holds_ite, holds_foldl, holds_getD, eachNat_holds])
      | (grind [→ drawFree_holds_pair, → trnAccess_holds_pair, → meshStream_holds_pair, → dramRead_holds_pair, → dramWrite_holds_pair, → wordRead_holds_pair, → spmReadN_holds_pair, → spmRead_holds_pair])))

@[simp] theorem doUpdateRegion_holds (h : Hdr) (p : UpdateRegionP) (s : State) : holds (doUpdateRegion h p s) = holds s := by
  unfold doUpdateRegion; dsimp only; (repeat' split) <;> (try simp_all [holds_ite, holds_foldl, holds_getD, eachNat_holds]) <;> (try rfl)

@[simp] theorem doWaveformLoad_holds (h : Hdr) (p : WaveformLoadP) (s : State) : holds (doWaveformLoad h p s) = holds s := by
  unfold doWaveformLoad; simp [holds_ite, holds_foldl, holds_getD, eachNat_holds]

@[simp] theorem waveformChecked_holds (ans : HostAns) (s : State) : holds (waveformChecked ans s) = holds s := by
  unfold waveformChecked
  cases s.crsl.loading with
  | none => rfl
  | some h =>
    cases ans with
    | refused => exact complete_holds _ _ _ _ _
    | poisoned => exact complete_holds _ _ _ _ _
    | data bs =>
      show holds (match imageBad (fit imageLen bs) with | some off => _ | none => _) = _
      generalize imageBad (fit imageLen bs) = o
      cases o with
      | some off => exact (complete_holds _ _ _ _ _).trans (dramStore_holds _ _ _ _)
      | none =>
        refine (holds_mk _ _ _ _ _ _ _ _ _ _ _ _ _ _ _ _ _ _ _ _ _ _ _ _ _ _ _ _ _).trans ((holds_eta _).trans ?_)
        exact (setCopy_holds _ _ _ _).trans ((setCopy_holds _ _ _ _).trans (dramStore_holds _ _ _ _))

@[simp] theorem tableRewritten_holds (n : Nat) (s : State) : holds (tableRewritten n s) = holds s := by
  unfold tableRewritten; simp [holds_ite, holds_foldl, holds_getD, eachNat_holds]

@[simp] theorem fin_holds (h : Hdr) (st : Status) (detail : W64) (s : State) : holds (fin h st detail s) = holds s := by
  unfold fin; simp [holds_ite, holds_foldl, holds_getD, eachNat_holds]

@[simp] theorem finAll_holds (st : Status) (z0 : List Hdr) (s : State) : holds (finAll st z0 s) = holds s := by
  fun_induction finAll st z0 s <;> simp_all [holds_ite, holds_foldl, holds_getD, eachNat_holds]

@[simp] theorem calErr_holds (i : Nat) (s : State) : holds (calErr i s) = holds s := by
  unfold calErr; simp [holds_ite, holds_foldl, holds_getD, eachNat_holds]

@[simp] theorem journalWrite_holds (name : LogName) (source : Nat) (trip hw : Bool) (content : List Byte) (s : State) : holds (journalWrite name source trip hw content s) = holds s := by
  unfold journalWrite; dsimp only; (repeat' split) <;> (try simp_all [holds_ite, holds_foldl, holds_getD, eachNat_holds]) <;> (try rfl)

@[simp] theorem journalRecord_holds (name : LogName) (hw : Bool) (args : List Nat) (s : State) : holds (journalRecord name hw args s) = holds s := by
  unfold journalRecord; simp [holds_ite, holds_foldl, holds_getD, eachNat_holds]

@[simp] theorem commitMap_holds (ok : Bool) (s : State) : holds (commitMap ok s) = holds s := by
  unfold commitMap; simp [holds_ite, holds_foldl, holds_getD, eachNat_holds]

@[simp] theorem unitPair_holds (cls a b : Nat) (s : State) : holds (unitPair cls a b s) = holds s := by
  unfold unitPair; simp [holds_ite, holds_foldl, holds_getD, eachNat_holds]

@[simp] theorem unitSetsDone_holds (st : Status) (cls idx : Nat) (s : State) : holds (unitSetsDone st cls idx s) = holds s := by
  unfold unitSetsDone; simp [holds_ite, holds_foldl, holds_getD, eachNat_holds]

@[simp] theorem frontPop_holds (s : State) : holds (frontPop s) = holds s := by
  fun_cases frontPop s <;> simp_all [holds_ite, holds_foldl, holds_getD, eachNat_holds]

@[simp] theorem unitRequest_holds (s : State) : holds (unitRequest s) = holds s := by
  fun_cases unitRequest s <;> simp_all [holds_ite, holds_foldl, holds_getD, eachNat_holds]

@[simp] theorem cleanWindow_holds (cls idx : Nat) (s : State) : holds (cleanWindow cls idx s) = holds s := by
  unfold cleanWindow; simp [holds_ite, holds_foldl, holds_getD, eachNat_holds]

@[simp] theorem modReg_holds (p : Nat) (f : Regulator → Regulator) (s : State) : holds (modReg p f s) = holds s := by
  unfold modReg; simp [holds_ite, holds_foldl, holds_getD, eachNat_holds]

@[simp] theorem setRole_holds (c r : Nat) (s : State) : holds (setRole c r s) = holds s := by
  unfold setRole; simp [holds_ite, holds_foldl, holds_getD, eachNat_holds]

@[simp] theorem retrainStart_holds (c : Nat) (s : State) : holds (retrainStart c s) = holds s := by
  unfold retrainStart; simp [holds_ite, holds_foldl, holds_getD, eachNat_holds]

@[simp] theorem removalStart_holds (c : Nat) (failRanks : List Nat) (allowRank : Bool) (s : State) : holds (removalStart c failRanks allowRank s) = holds s := by
  unfold removalStart; dsimp only; (repeat' split) <;> (try simp_all [holds_ite, holds_foldl, holds_getD, eachNat_holds]) <;> (try rfl)

@[simp] theorem retrainDone_holds (pass : Bool) (failRanks : List Nat) (s : State) : holds (retrainDone pass failRanks s) = holds s := by
  unfold retrainDone; dsimp only; (repeat' split) <;> (try simp_all [holds_ite, holds_foldl, holds_getD, eachNat_holds]) <;> (try rfl)

@[simp] theorem copyErrors_holds (lines : List Nat) (s : State) : holds (copyErrors lines s) = holds s := by
  unfold copyErrors; simp [holds_ite, holds_foldl, holds_getD, eachNat_holds]

@[simp] theorem jobEnd_holds (s : State) : holds (jobEnd s) = holds s := by
  unfold jobEnd; simp [holds_ite, holds_foldl, holds_getD, eachNat_holds]

@[simp] theorem rankCopyDone_holds (mramOk : Bool) (bad : List Nat) (s0 : State) : holds (rankCopyDone mramOk bad s0) = holds s0 := by
  unfold rankCopyDone; dsimp only; (repeat' split) <;> (try simp_all [holds_ite, holds_foldl, holds_getD, eachNat_holds]) <;> (try rfl)

@[simp] theorem chanCopyDone_holds (mramOk : Bool) (bad : List Nat) (s0 : State) : holds (chanCopyDone mramOk bad s0) = holds s0 := by
  unfold chanCopyDone; dsimp only; (repeat' split) <;> (try simp_all [holds_ite, holds_foldl, holds_getD, eachNat_holds]) <;> (try rfl)

@[simp] theorem foldStart_holds (c : Nat) (s : State) : holds (foldStart c s) = holds s := by
  unfold foldStart; dsimp only; (repeat' split) <;> (try simp_all [holds_ite, holds_foldl, holds_getD, eachNat_holds]) <;> (try rfl)

@[simp] theorem foldAck_holds (s : State) : holds (foldAck s) = holds s := by
  unfold foldAck; dsimp only; (repeat' split) <;> (try simp_all [holds_ite, holds_foldl, holds_getD, eachNat_holds]) <;> (try rfl)

@[simp] theorem foldCopyDone_holds (lines : List Nat) (s : State) : holds (foldCopyDone lines s) = holds s := by
  unfold foldCopyDone; dsimp only; (repeat' split) <;> (try simp_all [holds_ite, holds_foldl, holds_getD, eachNat_holds]) <;> (try rfl)

@[simp] theorem rebaseStart_holds (c : Nat) (s : State) : holds (rebaseStart c s) = holds s := by
  unfold rebaseStart; dsimp only; (repeat' split) <;> (try simp_all [holds_ite, holds_foldl, holds_getD, eachNat_holds]) <;> (try rfl)

@[simp] theorem buildMap_holds (chs : List Nat) (stripes : Nat) (s : State) : holds (buildMap chs stripes s) = holds s := by
  unfold buildMap; simp [holds_ite, holds_foldl, holds_getD, eachNat_holds]

@[simp] theorem widthCheck_holds (s : State) : holds (widthCheck s) = holds s := by
  unfold widthCheck; simp [holds_ite, holds_foldl, holds_getD, eachNat_holds]

@[simp] theorem rebaseDone_holds (bad : List Nat) (s0 : State) : holds (rebaseDone bad s0) = holds s0 := by
  unfold rebaseDone; dsimp only; (repeat' split) <;> (try simp_all [holds_ite, holds_foldl, holds_getD, eachNat_holds]) <;> (try rfl)

@[simp] theorem sameBankRefresh_holds (c bank : Nat) (idle : Bool) (s : State) : holds (sameBankRefresh c bank idle s) = holds s := by
  unfold sameBankRefresh; simp [holds_ite, holds_foldl, holds_getD, eachNat_holds]

@[simp] theorem refreshLimit_holds (c bank : Nat) (s : State) : holds (refreshLimit c bank s) = holds s := by
  unfold refreshLimit; simp [holds_ite, holds_foldl, holds_getD, eachNat_holds]

@[simp] theorem rowDisturb_holds (c port : Nat) (s : State) : holds (rowDisturb c port s) = holds s := by
  unfold rowDisturb; simp [holds_ite, holds_foldl, holds_getD, eachNat_holds]

@[simp] theorem regCutEnd_holds (port : Nat) (s : State) : holds (regCutEnd port s) = holds s := by
  unfold regCutEnd; simp [holds_ite, holds_foldl, holds_getD, eachNat_holds]

@[simp] theorem scrubLine_holds (line : Nat) (ecc : Ecc) (s : State) : holds (scrubLine line ecc s) = holds s := by
  unfold scrubLine; simp [holds_ite, holds_foldl, holds_getD, eachNat_holds]

@[simp] theorem channelClean_holds (c : Nat) (s : State) : holds (channelClean c s) = holds s := by
  unfold channelClean; simp [holds_ite, holds_foldl, holds_getD, eachNat_holds]

@[simp] theorem bar2Access_holds (addr : Nat) (acc : Access) (env : MemEnv) (s : State) : holds (bar2Access addr acc env s) = holds s := by
  unfold bar2Access; dsimp only; (repeat' split) <;> (try simp_all [holds_ite, holds_foldl, holds_getD, eachNat_holds]) <;> (try rfl)

@[simp] theorem bankPower_holds (b v : Nat) (s0 : State) : holds (bankPower b v s0) = holds s0 := by
  unfold bankPower; dsimp only; (repeat' split) <;> (try simp_all [holds_ite, holds_foldl, holds_getD, eachNat_holds]) <;> (try rfl)

@[simp] theorem bankZeroed_holds (b : Nat) (s : State) : holds (bankZeroed b s) = holds s := by
  unfold bankZeroed; simp [holds_ite, holds_foldl, holds_getD, eachNat_holds]

@[simp] theorem bankBringIn_holds (b spare : Nat) (byHost : Bool) (s : State) : holds (bankBringIn b spare byHost s) = holds s := by
  unfold bankBringIn; simp [holds_ite, holds_foldl, holds_getD, eachNat_holds]

@[simp] theorem bankSpare_holds (b : Nat) (s : State) : holds (bankSpare b s) = holds s := by
  unfold bankSpare; dsimp only; (repeat' split) <;> (try simp_all [holds_ite, holds_foldl, holds_getD, eachNat_holds]) <;> (try rfl)

@[simp] theorem bankCopyDone_holds (bad : List Nat) (s : State) : holds (bankCopyDone bad s) = holds s := by
  unfold bankCopyDone; dsimp only; (repeat' split) <;> (try simp_all [holds_ite, holds_foldl, holds_getD, eachNat_holds]) <;> (try rfl)

@[simp] theorem tableReload_holds (l : Nat) (s : State) : holds (tableReload l s) = holds s := by
  unfold tableReload; dsimp only; (repeat' split) <;> (try simp_all [holds_ite, holds_foldl, holds_getD, eachNat_holds]) <;> (try rfl)

@[simp] theorem bankMapApply_holds (mramOk : Bool) (s : State) : holds (bankMapApply mramOk s) = holds s := by
  unfold bankMapApply; dsimp only; (repeat' split) <;> (try simp_all [holds_ite, holds_foldl, holds_getD, eachNat_holds]) <;> (try rfl)

@[simp] theorem bankClean_holds (b : Nat) (s : State) : holds (bankClean b s) = holds s := by
  unfold bankClean; simp [holds_ite, holds_foldl, holds_getD, eachNat_holds]

@[simp] theorem wipeStart_holds (cause : Nat) (s : State) : holds (wipeStart cause s) = holds s := by
  unfold wipeStart; simp [holds_ite, holds_foldl, holds_getD, eachNat_holds]

@[simp] theorem wipeBankFail_holds (l : Nat) (s : State) : holds (wipeBankFail l s) = holds s := by
  unfold wipeBankFail; simp [holds_ite, holds_foldl, holds_getD, eachNat_holds]

@[simp] theorem wipeDone_holds (failed : List Nat) (s : State) : holds (wipeDone failed s) = holds s := by
  unfold wipeDone; simp [holds_ite, holds_foldl, holds_getD, eachNat_holds]

@[simp] theorem wipeRun_holds (first second : List Nat) (s : State) : holds (wipeRun first second s) = holds s := by
  unfold wipeRun; simp [holds_ite, holds_foldl, holds_getD, eachNat_holds]

@[simp] theorem copyRefill_holds (k : Nat) (s : State) : holds (copyRefill k s) = holds s := by
  unfold copyRefill; simp [holds_ite, holds_foldl, holds_getD, eachNat_holds]

@[simp] theorem refillAll_holds (k : Nat) (s : State) : holds (refillAll k s) = holds s := by
  unfold refillAll; simp [holds_ite, holds_foldl, holds_getD, eachNat_holds]

@[simp] theorem windowsRestart_holds (s : State) : holds (windowsRestart s) = holds s := by
  unfold windowsRestart; simp [holds_ite, holds_foldl, holds_getD, eachNat_holds]

@[simp] theorem clockRun_holds (n : Nat) (s : State) : holds (clockRun n s) = holds s := by
  unfold clockRun; simp [holds_ite, holds_foldl, holds_getD, eachNat_holds]

@[simp] theorem clockTo_holds (tb2 : Int) (s : State) : holds (clockTo tb2 s) = holds s := by
  unfold clockTo; simp [holds_ite, holds_foldl, holds_getD, eachNat_holds]

@[simp] theorem regSpend_holds (p k : Nat) (s : State) : holds (regSpend p k s) = holds s := by
  unfold regSpend; simp [holds_ite, holds_foldl, holds_getD, eachNat_holds]

@[simp] theorem regulated_holds (p k : Nat) (f : State → State) (s : State) (hf : ∀ s, holds (f s) = holds s) :
    holds (regulated p k f s) = holds s := by
  unfold regulated; (try dsimp only); (repeat' split) <;> simp [hf]

@[simp] theorem regDrain_holds (p k : Nat) (s : State) : holds (regDrain p k s) = holds s := by
  unfold regDrain; simp [holds_ite, holds_foldl, holds_getD, eachNat_holds]

@[simp] theorem regBulk_holds (p k : Nat) (f : State → State) (s : State) (hf : ∀ s, holds (f s) = holds s) :
    holds (regBulk p k f s) = holds s := by
  unfold regBulk; (try dsimp only); (repeat' split) <;> simp [hf]

@[simp] theorem bar4Access_holds (p : Port) (off : Nat) (acc : Access) (env : MemEnv) (s : State) : holds (bar4Access p off acc env s) = holds s := by
  unfold bar4Access; dsimp only; (repeat' split) <;> (try simp_all [holds_ite, holds_foldl, holds_getD, eachNat_holds]) <;> (try rfl)

@[simp] theorem switchStart_holds (s : State) : holds (switchStart s) = holds s := by
  unfold switchStart; dsimp only; (repeat' split) <;> (try simp_all [holds_ite, holds_foldl, holds_getD, eachNat_holds]) <;> (try rfl)

@[simp] theorem switchDone_holds (s : State) : holds (switchDone s) = holds s := by
  unfold switchDone; dsimp only; (repeat' split) <;> (try simp_all [holds_ite, holds_foldl, holds_getD, eachNat_holds]) <;> (try rfl)

@[simp] theorem pxErr_holds (i : Nat) (s : State) : holds (pxErr i s) = holds s := by
  unfold pxErr; simp [holds_ite, holds_foldl, holds_getD, eachNat_holds]

@[simp] theorem modGrp_holds (g : Nat) (f : Group → Group) (s : State) : holds (modGrp g f s) = holds s := by
  unfold modGrp; simp [holds_ite, holds_foldl, holds_getD, eachNat_holds]

@[simp] theorem setSel_holds (h v : Nat) (s : State) : holds (setSel h v s) = holds s := by
  unfold setSel; simp [holds_ite, holds_foldl, holds_getD, eachNat_holds]

@[simp] theorem streamOn_holds (g : Nat) (bytes : List Byte) (s : State) : holds ((streamOn g bytes s).2) = holds s := by
  unfold streamOn; simp [holds_ite, holds_foldl, holds_getD, eachNat_holds]

theorem streamOn_holds_pair (g : Nat) (bytes : List Byte) (s : State) {a_ : List (List (BitVec 130))} {t_ : State} (h_ : streamOn g bytes s = (a_, t_)) : holds t_ = holds s := by
  have e_ := streamOn_holds  g bytes s
  rw [h_] at e_; exact e_

@[simp] theorem sendSet_holds (g : Nat) (code : Byte) (s : State) : holds (sendSet g code s) = holds s := by
  unfold sendSet; simp [holds_ite, holds_foldl, holds_getD, eachNat_holds]

@[simp] theorem pxSend_holds (g ty flags line tick pos : Nat) (payload : List Byte) (s : State) : holds (pxSend g ty flags line tick pos payload s) = holds s := by
  unfold pxSend; simp [holds_ite, holds_foldl, holds_getD, eachNat_holds]

@[simp] theorem pxSendSlice_holds (ty flags line : Nat) (payload : Nat → List Byte) (sl : Nat) (s : State) : holds (pxSendSlice ty flags line payload sl s) = holds s := by
  unfold pxSendSlice; simp [holds_ite, holds_foldl, holds_getD, eachNat_holds]

@[simp] theorem pxSendAll_holds (ty flags line : Nat) (payload : Nat → List Byte) (s : State) : holds (pxSendAll ty flags line payload s) = holds s := by
  unfold pxSendAll; simp [holds_ite, holds_foldl, holds_getD, eachNat_holds]

@[simp] theorem queueCmd_holds (g : Option Nat) (es : List (Nat × W32)) (s : State) : holds (queueCmd g es s) = holds s := by
  unfold queueCmd; simp [holds_ite, holds_foldl, holds_getD, eachNat_holds]

@[simp] theorem queuePartner_holds (config : Bool) (sl : Nat) (s : State) : holds (queuePartner config sl s) = holds s := by
  fun_cases queuePartner config sl s <;> simp_all [holds_ite, holds_foldl, holds_getD, eachNat_holds]

@[simp] theorem queueConfig_holds (s : State) : holds (queueConfig s) = holds s := by
  unfold queueConfig; simp [holds_ite, holds_foldl, holds_getD, eachNat_holds]

@[simp] theorem queueGeometry_holds (s : State) : holds (queueGeometry s) = holds s := by
  unfold queueGeometry; simp [holds_ite, holds_foldl, holds_getD, eachNat_holds]

@[simp] theorem sendCmds_holds (line : Nat) (s : State) : holds (sendCmds line s) = holds s := by
  unfold sendCmds; dsimp only
  (repeat' (first
      | (simp [holds_ite, holds_foldl, holds_getD, eachNat_holds]; done)
      | split
      | (refine (holds_foldl _ _ _ ?_).trans ?_ <;> intros)
      | (refine (eachNat_holds _ _ _ ?_).trans ?_ <;> intros)
      | (simp [holds_ite, holds_foldl, holds_getD, eachNat_holds])
      | (grind [→ drawFree_holds_pair, → trnAccess_holds_pair, → meshStream_holds_pair, → dramRead_holds_pair, → dramWrite_holds_pair, → wordRead_holds_pair, → spmReadN_holds_pair, → spmRead_holds_pair, → streamOn_holds_pair])))

@[simp] theorem linkTo_holds (g : Nat) (l : LinkState) (s : State) : holds (linkTo g l s) = holds s := by
  unfold linkTo; simp [holds_ite, holds_foldl, holds_getD, eachNat_holds]

@[simp] theorem firWrite_holds (g : Nat) (v : W32) (s : State) : holds (firWrite g v s) = holds s := by
  unfold firWrite; simp [holds_ite, holds_foldl, holds_getD, eachNat_holds]

@[simp] theorem sendTs_holds (g kind flags : Nat) (s : State) : holds (sendTs g kind flags s) = holds s := by
  unfold sendTs; simp [holds_ite, holds_foldl, holds_getD, eachNat_holds]

@[simp] theorem sendTs2_holds (g : Nat) (s : State) : holds (sendTs2 g s) = holds s := by
  unfold sendTs2; simp [holds_ite, holds_foldl, holds_getD, eachNat_holds]

@[simp] theorem trainStart_holds (g : Nat) (second : Bool) (s : State) : holds (trainStart g second s) = holds s := by
  unfold trainStart; simp [holds_ite, holds_foldl, holds_getD, eachNat_holds]

@[simp] theorem selectServing_holds (g : Nat) (s : State) : holds (selectServing g s) = holds s := by
  fun_cases selectServing g s <;> simp_all [holds_ite, holds_foldl, holds_getD, eachNat_holds]

@[simp] theorem trainRequest_holds (g : Nat) (s : State) : holds (trainRequest g s) = holds s := by
  unfold trainRequest; simp [holds_ite, holds_foldl, holds_getD, eachNat_holds]

@[simp] theorem bringInFail_holds (cause : Nat) (s : State) : holds (bringInFail cause s) = holds s := by
  unfold bringInFail; dsimp only; (repeat' split) <;> (try simp_all [holds_ite, holds_foldl, holds_getD, eachNat_holds]) <;> (try rfl)

@[simp] theorem sparesOff_holds (s : State) : holds (sparesOff s) = holds s := by
  unfold sparesOff; dsimp only; (repeat' split) <;> (try simp_all [holds_ite, holds_foldl, holds_getD, eachNat_holds]) <;> (try rfl)

@[simp] theorem spareChecked_holds (g : Nat) (pass : Bool) (s : State) : holds (spareChecked g pass s) = holds s := by
  unfold spareChecked; simp [holds_ite, holds_foldl, holds_getD, eachNat_holds]

@[simp] theorem trainFailed_holds (g phase cause : Nat) (s : State) : holds (trainFailed g phase cause s) = holds s := by
  unfold trainFailed; simp [holds_ite, holds_foldl, holds_getD, eachNat_holds]

@[simp] theorem trainTimeout_holds (g : Nat) (s : State) : holds (trainTimeout g s) = holds s := by
  unfold trainTimeout; simp [holds_ite, holds_foldl, holds_getD, eachNat_holds]

@[simp] theorem miswire_holds (g : Nat) (s : State) : holds (miswire g s) = holds s := by
  unfold miswire; simp [holds_ite, holds_foldl, holds_getD, eachNat_holds]

@[simp] theorem ts1Rx_holds (g : Nat) (ts : List Byte) (s : State) : holds (ts1Rx g ts s) = holds s := by
  unfold ts1Rx; simp [holds_ite, holds_foldl, holds_getD, eachNat_holds]

@[simp] theorem ts2Rx_holds (g : Nat) (ts : List Byte) (s : State) : holds (ts2Rx g ts s) = holds s := by
  unfold ts2Rx; simp [holds_ite, holds_foldl, holds_getD, eachNat_holds]

@[simp] theorem tsRx_holds (g : Nat) (ts : List Byte) (s : State) : holds (tsRx g ts s) = holds s := by
  unfold tsRx; simp [holds_ite, holds_foldl, holds_getD, eachNat_holds]

@[simp] theorem backLock_holds (g : Nat) (s : State) : holds (backLock g s) = holds s := by
  fun_cases backLock g s <;> simp_all [holds_ite, holds_foldl, holds_getD, eachNat_holds]

@[simp] theorem bringInTrained_holds (s : State) : holds (bringInTrained s) = holds s := by
  unfold bringInTrained; dsimp only; (repeat' split) <;> (try simp_all [holds_ite, holds_foldl, holds_getD, eachNat_holds]) <;> (try rfl)

@[simp] theorem sliceMapApply_holds (mramOk : Bool) (s : State) : holds (sliceMapApply mramOk s) = holds s := by
  unfold sliceMapApply; dsimp only; (repeat' split) <;> (try simp_all [holds_ite, holds_foldl, holds_getD, eachNat_holds]) <;> (try rfl)

@[simp] theorem spareConfig_holds (b : Option (Nat × Nat × Nat × Bool)) (s : State) : holds (spareConfig b s) = holds s := by
  fun_cases spareConfig b s <;> simp_all [holds_ite, holds_foldl, holds_getD, eachNat_holds]

@[simp] theorem trainDone_holds (g : Nat) (s : State) : holds (trainDone g s) = holds s := by
  unfold trainDone; simp [holds_ite, holds_foldl, holds_getD, eachNat_holds]

@[simp] theorem retrainRetry_holds (g : Nat) (s : State) : holds (retrainRetry g s) = holds s := by
  unfold retrainRetry; simp [holds_ite, holds_foldl, holds_getD, eachNat_holds]

@[simp] theorem spanMismatch_holds (g : Nat) (far rxErr : Bool) (s : State) : holds (spanMismatch g far rxErr s) = holds s := by
  unfold spanMismatch; simp [holds_ite, holds_foldl, holds_getD, eachNat_holds]

@[simp] theorem farCompare_holds (g : Nat) (far : W32) (rxErr : Bool) (s : State) : holds (farCompare g far rxErr s) = holds s := by
  unfold farCompare; simp [holds_ite, holds_foldl, holds_getD, eachNat_holds]

@[simp] theorem padCompare_holds (pad : List (Nat × W32)) (g : Nat) (s : State) : holds (padCompare pad g s) = holds s := by
  unfold padCompare; dsimp only; (repeat' split) <;> (try simp_all [holds_ite, holds_foldl, holds_getD, eachNat_holds]) <;> (try rfl)

@[simp] theorem bcDiscard_holds (g : Nat) (s : State) : holds (bcDiscard g s) = holds s := by
  unfold bcDiscard; simp [holds_ite, holds_foldl, holds_getD, eachNat_holds]

@[simp] theorem bcTake_holds (g ty len : Nat) (pkt : List Byte) (f : State → State) (s : State)
    (hf : ∀ s, holds (f s) = holds s) : holds (bcTake g ty len pkt f s) = holds s := by
  unfold bcTake; (repeat' split) <;> simp [hf]

@[simp] theorem headroomTake_holds (g : Nat) (pkt : List Byte) (s : State) : holds (headroomTake g pkt s) = holds s := by
  unfold headroomTake; simp [holds_ite, holds_foldl, holds_getD, eachNat_holds]

@[simp] theorem crcreportTake_holds (g : Nat) (pkt : List Byte) (s : State) : holds (crcreportTake g pkt s) = holds s := by
  unfold crcreportTake; simp [holds_ite, holds_foldl, holds_getD, eachNat_holds]

@[simp] theorem crcreportMissing_holds (g : Nat) (s : State) : holds (crcreportMissing g s) = holds s := by
  unfold crcreportMissing; simp [holds_ite, holds_foldl, holds_getD, eachNat_holds]

@[simp] theorem faultLog_holds (g code : Nat) (pkt : List Byte) (s : State) : holds (faultLog g code pkt s) = holds s := by
  unfold faultLog; simp [holds_ite, holds_foldl, holds_getD, eachNat_holds]

@[simp] theorem linkLost_holds (g : Nat) (s : State) : holds (linkLost g s) = holds s := by
  unfold linkLost; simp [holds_ite, holds_foldl, holds_getD, eachNat_holds]

@[simp] theorem faultTake_holds (g : Nat) (pkt : List Byte) (s : State) : holds (faultTake g pkt s) = holds s := by
  unfold faultTake; dsimp only; (repeat' split) <;> (try simp_all [holds_ite, holds_foldl, holds_getD, eachNat_holds]) <;> (try rfl)

@[simp] theorem bcRetrainStart_holds (g : Nat) (s : State) : holds (bcRetrainStart g s) = holds s := by
  unfold bcRetrainStart; simp [holds_ite, holds_foldl, holds_getD, eachNat_holds]

@[simp] theorem bcLost_holds (g : Nat) (s : State) : holds (bcLost g s) = holds s := by
  fun_cases bcLost g s <;> simp_all [holds_ite, holds_foldl, holds_getD, eachNat_holds]

@[simp] theorem bcTimeout_holds (g : Nat) (s : State) : holds (bcTimeout g s) = holds s := by
  unfold bcTimeout; simp [holds_ite, holds_foldl, holds_getD, eachNat_holds]

@[simp] theorem headStale_holds (g : Nat) (s : State) : holds (headStale g s) = holds s := by
  unfold headStale; simp [holds_ite, holds_foldl, holds_getD, eachNat_holds]

@[simp] theorem tickClose_holds (pad : List (Nat × W32)) (g : Nat) (s : State) : holds (tickClose pad g s) = holds s := by
  unfold tickClose; simp [holds_ite, holds_foldl, holds_getD, eachNat_holds]

@[simp] theorem tickGroup_holds (pad : List (Nat × W32)) (tick : Nat) (g : Nat) (s : State) : holds (tickGroup pad tick g s) = holds s := by
  unfold tickGroup; simp [holds_ite, holds_foldl, holds_getD, eachNat_holds]

@[simp] theorem resendConfig_holds (g : Nat) (s : State) : holds (resendConfig g s) = holds s := by
  fun_cases resendConfig g s <;> simp_all [holds_ite, holds_foldl, holds_getD, eachNat_holds]

@[simp] theorem headroomAge_holds (s : State) : holds (headroomAge s) = holds s := by
  unfold headroomAge; simp [holds_ite, holds_foldl, holds_getD, eachNat_holds]

@[simp] theorem sleepGroup_holds (g : Nat) (s : State) : holds (sleepGroup g s) = holds s := by
  unfold sleepGroup; simp [holds_ite, holds_foldl, holds_getD, eachNat_holds]

@[simp] theorem wakeGroup_holds (g : Nat) (s : State) : holds (wakeGroup g s) = holds s := by
  unfold wakeGroup; simp [holds_ite, holds_foldl, holds_getD, eachNat_holds]

@[simp] theorem stopGroup_holds (g : Nat) (s : State) : holds (stopGroup g s) = holds s := by
  unfold stopGroup; simp [holds_ite, holds_foldl, holds_getD, eachNat_holds]

@[simp] theorem sendAbort_holds (line : Nat) (s : State) : holds (sendAbort line s) = holds s := by
  unfold sendAbort; simp [holds_ite, holds_foldl, holds_getD, eachNat_holds]

@[simp] theorem bringInStart_holds (g : Nat) (byHost : Bool) (s : State) : holds (bringInStart g byHost s) = holds s := by
  unfold bringInStart; dsimp only; (repeat' split) <;> (try simp_all [holds_ite, holds_foldl, holds_getD, eachNat_holds]) <;> (try rfl)

@[simp] theorem groupSpare_holds (g : Nat) (s : State) : holds (groupSpare g s) = holds s := by
  unfold groupSpare; simp [holds_ite, holds_foldl, holds_getD, eachNat_holds]

@[simp] theorem holdExit_holds (cause : Nat) (s : State) : holds (holdExit cause s) = holds s := by
  unfold holdExit; dsimp only; (repeat' split) <;> (try simp_all [holds_ite, holds_foldl, holds_getD, eachNat_holds]) <;> (try rfl)

@[simp] theorem surfaceSettle_holds (i : Nat) (s : State) : holds (surfaceSettle i s) = holds s := by
  unfold surfaceSettle; dsimp only; (repeat' split) <;> (try simp_all [holds_ite, holds_foldl, holds_getD, eachNat_holds]) <;> (try rfl)

@[simp] theorem surfacesSettle_holds (s : State) : holds (surfacesSettle s) = holds s := by
  unfold surfacesSettle; simp [holds_ite, holds_foldl, holds_getD, eachNat_holds]

@[simp] theorem doSurfaceRegister_holds (h : Hdr) (p : SurfaceRegisterP) (s : State) : holds (doSurfaceRegister h p s) = holds s := by
  unfold doSurfaceRegister; dsimp only; (repeat' split) <;> (try simp_all [holds_ite, holds_foldl, holds_getD, eachNat_holds]) <;> (try rfl)

@[simp] theorem doSurfaceRelease_holds (h : Hdr) (p : SurfaceReleaseP) (s : State) : holds (doSurfaceRelease h p s) = holds s := by
  unfold doSurfaceRelease; dsimp only; (repeat' split) <;> (try simp_all [holds_ite, holds_foldl, holds_getD, eachNat_holds]) <;> (try rfl)

@[simp] theorem modSlot_holds (n : Nat) (f : SceneSlot → SceneSlot) (s : State) : holds (modSlot n f s) = holds s := by
  unfold modSlot; simp [holds_ite, holds_foldl, holds_getD, eachNat_holds]

@[simp] theorem loadGrant_holds (x : SceneSlot) (s : State) : holds (loadGrant x s) = holds s := by
  fun_cases loadGrant x s <;> simp_all [holds_ite, holds_foldl, holds_getD, eachNat_holds]

@[simp] theorem loadRevoke_holds (x : SceneSlot) (s : State) : holds (loadRevoke x s) = holds s := by
  fun_cases loadRevoke x s <;> simp_all [holds_ite, holds_foldl, holds_getD, eachNat_holds]

@[simp] theorem slotRelease_holds (n : Nat) (s : State) : holds (slotRelease n s) = holds s := by
  unfold slotRelease; simp [holds_ite, holds_foldl, holds_getD, eachNat_holds]

@[simp] theorem sceneVerifying_holds (h : Hdr) (p : SceneLoadP) (s f : State) (hf : holds f = holds s) :
    holds (sceneVerifying h p s f) = holds s := by
  unfold sceneVerifying; split <;> simp [hf]

@[simp] theorem sceneReserve_holds (h : Hdr) (n len : Nat) (s : State) : holds (sceneReserve h n len s) = holds s := by
  unfold sceneReserve; dsimp only; (repeat' split) <;> (try simp_all [holds_ite, holds_foldl, holds_getD, eachNat_holds]) <;> (try rfl)

@[simp] theorem doSceneOpen_holds (h : Hdr) (p : SceneLoadP) (s : State) : holds (doSceneOpen h p s) = holds s := by
  unfold doSceneOpen; simp [holds_ite, holds_foldl, holds_getD, eachNat_holds]

@[simp] theorem sceneDataLand_holds (h : Hdr) (p : SceneLoadP) (ans : HostAns) (s : State) :
    holds (sceneDataLand h p ans s) = holds s := by
  unfold sceneDataLand; dsimp only
  split
  · simp
  · simp
  · refine regBulk_holds _ _ _ _ fun t => ?_
    split <;> rename_i h1 <;> have e1 := trnAccess_holds_pair _ _ _ _ _ _ h1 <;> simpa using e1

@[simp] theorem doSceneData_holds (h : Hdr) (p : SceneLoadP) (ans : HostAns) (s : State) : holds (doSceneData h p ans s) = holds s := by
  unfold doSceneData; dsimp only; (repeat' split) <;> (try simp_all [holds_ite, holds_foldl, holds_getD, eachNat_holds]) <;> (try rfl)

@[simp] theorem doSceneClose_holds (h : Hdr) (p : SceneLoadP) (s : State) : holds (doSceneClose h p s) = holds s := by
  unfold doSceneClose; dsimp only; (repeat' split) <;> (try simp_all [holds_ite, holds_foldl, holds_getD, eachNat_holds]) <;> (try rfl)

@[simp] theorem doSceneFree_holds (h : Hdr) (p : SceneLoadP) (s : State) : holds (doSceneFree h p s) = holds s := by
  unfold doSceneFree; simp [holds_ite, holds_foldl, holds_getD, eachNat_holds]

@[simp] theorem verifyReads_holds (x : SceneSlot) (failed : List Nat) (s : State) : holds (verifyReads x failed s) = holds s := by
  unfold verifyReads; simp [holds_ite, holds_foldl, holds_getD, eachNat_holds]

@[simp] theorem verifyVerdict_holds (n : Nat) (x : SceneSlot) (h : Hdr) (p : PkgHdr) (o : Option (Status × W64)) (s : State) : holds (verifyVerdict n x h p o s) = holds s := by
  unfold verifyVerdict; dsimp only; (repeat' split) <;> (try simp_all [holds_ite, holds_foldl, holds_getD, eachNat_holds]) <;> (try rfl)

@[simp] theorem verifyDone_holds (n : Nat) (failed : List Nat) (s0 : State) : holds (verifyDone n failed s0) = holds s0 := by
  unfold verifyDone; dsimp only; (repeat' split) <;> (try simp_all [holds_ite, holds_foldl, holds_getD, eachNat_holds]) <;> (try rfl)

@[simp] theorem shrinkSlot_holds (lim n : Nat) (s : State) : holds (shrinkSlot lim n s) = holds s := by
  unfold shrinkSlot; dsimp only; (repeat' split) <;> (try simp_all [holds_ite, holds_foldl, holds_getD, eachNat_holds]) <;> (try rfl)

@[simp] theorem storeShrink_holds (s : State) : holds (storeShrink s) = holds s := by
  unfold storeShrink; dsimp only; (repeat' split) <;> (try simp_all [holds_ite, holds_foldl, holds_getD, eachNat_holds]) <;> (try rfl)

@[simp] theorem modPlayer_holds (f : Player → Player) (s : State) : holds (modPlayer f s) = holds s := by
  unfold modPlayer; simp [holds_ite, holds_foldl, holds_getD, eachNat_holds]

@[simp] theorem playerStart_holds (n f : Nat) (time : Option Int) (s : State) : holds (playerStart n f time s) = holds s := by
  unfold playerStart; simp [holds_ite, holds_foldl, holds_getD, eachNat_holds]

@[simp] theorem doScenePlay_holds (h : Hdr) (p : ScenePlayP) (s : State) : holds (doScenePlay h p s) = holds s := by
  unfold doScenePlay; dsimp only; (repeat' split) <;> (try simp_all [holds_ite, holds_foldl, holds_getD, eachNat_holds]) <;> (try rfl)

@[simp] theorem doSceneStop_holds (h : Hdr) (p : SceneStopP) (s : State) : holds (doSceneStop h p s) = holds s := by
  unfold doSceneStop; simp [holds_ite, holds_foldl, holds_getD, eachNat_holds]

@[simp] theorem doSceneSeek_holds (h : Hdr) (p : ScenePlayP) (s : State) : holds (doSceneSeek h p s) = holds s := by
  unfold doSceneSeek; dsimp only; (repeat' split) <;> (try simp_all [holds_ite, holds_foldl, holds_getD, eachNat_holds]) <;> (try rfl)

@[simp] theorem sendFragments_holds (port : Nat) (target : Int) (plane edge flags dim : Nat) (stream : List Byte)
    (n off : Nat) (s : State) : holds (sendFragments port target plane edge flags dim stream n off s) = holds s := by
  induction n generalizing off s with
  | zero => rfl
  | succ n ih =>
    unfold sendFragments; dsimp only
    have e : ∀ (k : Nat) (b : List Byte) (u : State), holds (regBulk (2 + port) k (fun s =>
        match trnAccess 0 24 .w (haloSendBuf port) (slice stream off 4080).length s with
        | (some _, s1) => s1
        | (none, s1) => meshSendFrame port 3 kFragment [(qTime target).toNat] b
            (dramStore (2 + port) (haloSendBuf port) (slice stream off 4080) s1)) u) = holds u := by
      intro k b u
      refine regBulk_holds _ _ _ _ fun t => ?_
      split <;> rename_i h1 <;> have e1 := trnAccess_holds_pair _ _ _ _ _ _ h1 <;> simpa using e1
    split
    · exact e _ _ _
    · rw [ih]; exact e _ _ _

@[simp] theorem haloPoison_holds (port plane : Nat) (f : Frame) (d : PlaneDesc) (bad : List (Nat × Nat)) (s : State) : holds (haloPoison port plane f d bad s) = holds s := by
  unfold haloPoison; dsimp only
  (repeat' (first
      | (simp [holds_ite, holds_foldl, holds_getD, eachNat_holds]; done)
      | split
      | (refine (holds_foldl _ _ _ ?_).trans ?_ <;> intros)
      | (refine (eachNat_holds _ _ _ ?_).trans ?_ <;> intros)
      | (simp [holds_ite, holds_foldl, holds_getD, eachNat_holds])
      | (grind [→ drawFree_holds_pair, → trnAccess_holds_pair, → meshStream_holds_pair, → dramRead_holds_pair, → dramWrite_holds_pair, → wordRead_holds_pair, → spmReadN_holds_pair, → spmRead_holds_pair, → streamOn_holds_pair])))

@[simp] theorem sendPlanes_holds (port edge used : Nat) (f : Frame) (i : Nat) (l : List PlaneDesc) (s : State) :
    holds (sendPlanes port edge used f i l s) = holds s := by
  induction l generalizing i s used with
  | nil => simp [sendPlanes]
  | cons d rest ih =>
    unfold sendPlanes; dsimp only
    generalize sentStream s f i edge d = x
    (repeat' split) <;> simp [ih, holds_ite]

@[simp] theorem sendStrips_holds (edges : List Nat) (f : Frame) (s : State) : holds (sendStrips edges f s) = holds s := by
  unfold sendStrips; simp [holds_ite, holds_foldl, holds_getD, eachNat_holds]

@[simp] theorem haloCancel_holds (f : Frame) (s : State) : holds (haloCancel f s) = holds s := by
  unfold haloCancel; simp [holds_ite, holds_foldl, holds_getD, eachNat_holds]

@[simp] theorem dropStrips_holds (p : Strip → Bool) (s : State) : holds (dropStrips p s) = holds s := by
  unfold dropStrips; simp [holds_ite, holds_foldl, holds_getD, eachNat_holds]

@[simp] theorem haloFree_holds (target : Int) (s : State) : holds (haloFree target s) = holds s := by
  unfold haloFree; simp [holds_ite, holds_foldl, holds_getD, eachNat_holds]

@[simp] theorem cancelStrips_holds (port : Nat) (target : Int) (s : State) : holds (cancelStrips port target s) = holds s := by
  unfold cancelStrips; simp [holds_ite, holds_foldl, holds_getD, eachNat_holds]

@[simp] theorem haloBad_holds (geometry : Bool) (s : State) : holds (haloBad geometry s) = holds s := by
  unfold haloBad; simp [holds_ite, holds_foldl, holds_getD, eachNat_holds]

@[simp] theorem haloRecheck_holds (f : Frame) (s : State) : holds (haloRecheck f s) = holds s := by
  unfold haloRecheck; simp [holds_ite, holds_foldl, holds_getD, eachNat_holds]

@[simp] theorem haloKeep_holds (port : Nat) (target : Int) (e addr len : Nat) (payload : List Byte) (s : State) : holds (haloKeep port target e addr len payload s) = holds s := by
  unfold haloKeep; simp [holds_ite, holds_foldl, holds_getD, eachNat_holds]

@[simp] theorem haloLand_holds (port : Nat) (target : Int) (e slot addr : Nat) (payload : List Byte) (s : State) :
    holds (haloLand port target e slot addr payload s) = holds s := by
  unfold haloLand; dsimp only
  refine regBulk_holds _ _ _ _ fun t => ?_
  split <;> rename_i h1 <;> have e1 := trnAccess_holds_pair _ _ _ _ _ _ h1 <;> simpa using e1

@[simp] theorem haloFragment_holds (port : Nat) (target : Int) (payload : List Byte) (s : State) : holds (haloFragment port target payload s) = holds s := by
  unfold haloFragment; dsimp only
  (repeat' (first
      | (simp [holds_ite, holds_foldl, holds_getD, eachNat_holds]; done)
      | split
      | (refine (holds_foldl _ _ _ ?_).trans ?_ <;> intros)
      | (refine (eachNat_holds _ _ _ ?_).trans ?_ <;> intros)
      | (simp [holds_ite, holds_foldl, holds_getD, eachNat_holds])
      | (grind [→ drawFree_holds_pair, → trnAccess_holds_pair, → meshStream_holds_pair, → dramRead_holds_pair, → dramWrite_holds_pair, → wordRead_holds_pair, → spmReadN_holds_pair, → spmRead_holds_pair, → streamOn_holds_pair])))

@[simp] theorem haloExpire_holds (s : State) : holds (haloExpire s) = holds s := by
  unfold haloExpire; simp [holds_ite, holds_foldl, holds_getD, eachNat_holds]

@[simp] theorem haloPhase2_holds (s : State) : holds (haloPhase2 s) = holds s := by
  unfold haloPhase2; dsimp only; (repeat' split) <;> (try simp_all [holds_ite, holds_foldl, holds_getD, eachNat_holds]) <;> (try rfl)

@[simp] theorem modFrame_holds (id : Nat) (f : Frame → Frame) (s : State) : holds (modFrame id f s) = holds s := by
  unfold modFrame; simp [holds_ite, holds_foldl, holds_getD, eachNat_holds]

@[simp] theorem retireFrame_holds (f : Frame) (s : State) : holds (retireFrame f s) = holds s := by
  unfold retireFrame; simp [holds_ite, holds_foldl, holds_getD, eachNat_holds]

@[simp] theorem sceneReport_holds (slot n : Nat) (st : Status) (s : State) : holds (sceneReport slot n st s) = holds s := by
  fun_cases sceneReport slot n st s <;> simp_all [holds_ite, holds_foldl, holds_getD, eachNat_holds]

@[simp] theorem frameReport_holds (f : Frame) (st : Status) (detail : W64) (s : State) : holds (frameReport f st detail s) = holds s := by
  fun_cases frameReport f st detail s <;> simp_all [holds_ite, holds_foldl, holds_getD, eachNat_holds]

@[simp] theorem refuseFrame_holds (f : Frame) (st : Status) (detail : W64) (s : State) : holds (refuseFrame f st detail s) = holds s := by
  unfold refuseFrame; dsimp only; (repeat' split) <;> (try simp_all [holds_ite, holds_foldl, holds_getD, eachNat_holds]) <;> (try rfl)

@[simp] theorem abortFrames_holds (p : Frame → Bool) (s : State) : holds (abortFrames p s) = holds s := by
  unfold abortFrames; dsimp only
  (repeat' (first
      | (simp [holds_ite, holds_foldl, holds_getD, eachNat_holds]; done)
      | split
      | (refine (holds_foldl _ _ _ ?_).trans ?_ <;> intros)
      | (refine (eachNat_holds _ _ _ ?_).trans ?_ <;> intros)
      | (simp [holds_ite, holds_foldl, holds_getD, eachNat_holds])
      | (grind [→ drawFree_holds_pair, → trnAccess_holds_pair, → meshStream_holds_pair, → dramRead_holds_pair, → dramWrite_holds_pair, → wordRead_holds_pair, → spmReadN_holds_pair, → spmRead_holds_pair, → streamOn_holds_pair])))

@[simp] theorem addFrame_holds (f : Frame) (s : State) : holds (addFrame f s) = holds s := by
  unfold addFrame; simp [holds_ite, holds_foldl, holds_getD, eachNat_holds]

@[simp] theorem doFrameSubmit_holds (h : Hdr) (p : FrameSubmitP) (s : State) : holds (doFrameSubmit h p s) = holds s := by
  fun_cases doFrameSubmit h p s <;> simp_all [holds_ite, holds_foldl, holds_getD, eachNat_holds]

@[simp] theorem frameChecked_holds (f : Frame) (s2 : State) : holds (frameChecked f s2) = holds s2 := by
  unfold frameChecked; dsimp only; (repeat' split) <;> (try simp_all [holds_ite, holds_foldl, holds_getD, eachNat_holds]) <;> (try rfl)

@[simp] theorem frameLanded_holds (k : Nat) (ans : HostAns) (s : State) : holds (frameLanded k ans s) = holds s := by
  unfold frameLanded
  split
  · rfl
  · split
    · simp
    · simp
    · dsimp only
      refine regBulk_holds _ _ _ _ fun t => ?_
      split <;> rename_i h1 <;> have e1 := trnAccess_holds_pair _ _ _ _ _ _ h1 <;> simpa using e1

@[simp] theorem pfRecord_holds (outcome row cost rowMax : Nat) (s : State) : holds (pfRecord outcome row cost rowMax s) = holds s := by
  unfold pfRecord; simp [holds_ite, holds_foldl, holds_getD, eachNat_holds]

@[simp] theorem pfRefuse_holds (f : Frame) (st : Status) (detail : W64) (s : State) : holds (pfRefuse f st detail s) = holds s := by
  unfold pfRefuse; simp [holds_ite, holds_foldl, holds_getD, eachNat_holds]

@[simp] theorem stagingGivenUp_holds (s : State) : holds (stagingGivenUp s) = holds s := by
  unfold stagingGivenUp; simp [holds_ite, holds_foldl, holds_getD, eachNat_holds]

@[simp] theorem pfCost_holds (f : Frame) (t : Timing) (s : State) : holds (pfCost f t s) = holds s := by
  unfold pfCost; dsimp only; (repeat' split) <;> (try simp_all [holds_ite, holds_foldl, holds_getD, eachNat_holds]) <;> (try rfl)

@[simp] theorem pfNotes_holds (f : Frame) (s : State) : holds (pfNotes f s) = holds s := by
  unfold pfNotes; simp [holds_ite, holds_foldl, holds_getD, eachNat_holds]

@[simp] theorem tableRead_holds (poison : Option Nat) (f : Frame) (s : State) : holds ((tableRead poison f s).2) = holds s := by
  fun_cases tableRead poison f s <;> simp_all [holds_ite, holds_foldl, holds_getD, eachNat_holds]

theorem tableRead_holds_pair (poison : Option Nat) (f : Frame) (s : State) {a_ : Option Nat} {t_ : State} (h_ : tableRead poison f s = (a_, t_)) : holds t_ = holds s := by
  have e_ := tableRead_holds  poison f s
  rw [h_] at e_; exact e_

@[simp] theorem preflightDecided_holds (poison : Option Nat) (s : State) : holds (preflightDecided poison s) = holds s := by
  unfold preflightDecided
  split
  · split
    · rfl
    · split
      · simp
      · dsimp only
        split <;> rename_i h1 <;> have e1 := tableRead_holds_pair _ _ _ h1
        · simpa using e1
        · generalize pfChecks _ _ = o
          cases o <;> simpa using e1
  · rfl

@[simp] theorem startPreflight_holds (f : Frame) (tb2 : Int) (s : State) : holds (startPreflight f tb2 s) = holds s := by
  unfold startPreflight; simp [holds_ite, holds_foldl, holds_getD, eachNat_holds]

@[simp] theorem selectFrame_holds (tk tb2 : Int) (s : State) : holds (selectFrame tk tb2 s) = holds s := by
  unfold selectFrame; simp [holds_ite, holds_foldl, holds_getD, eachNat_holds]

@[simp] theorem applySeek_holds (s : State) : holds (applySeek s) = holds s := by
  fun_cases applySeek s <;> simp_all [holds_ite, holds_foldl, holds_getD, eachNat_holds]

@[simp] theorem stopDone_holds (h : Hdr) (s : State) : holds (stopDone h s) = holds s := by
  unfold stopDone; simp [holds_ite, holds_foldl, holds_getD, eachNat_holds]

@[simp] theorem showingOut_holds (s : State) : holds (showingOut s) = holds s := by
  fun_cases showingOut s <;> simp_all [holds_ite, holds_foldl, holds_getD, eachNat_holds]

@[simp] theorem stopOne_holds (frame : Bool) (s : State) (w : Hdr × Bool) : holds (stopOne frame s w) = holds s := by
  unfold stopOne; simp [holds_ite, holds_foldl, holds_getD, eachNat_holds]

@[simp] theorem applyStops_holds (frame : Bool) (s : State) : holds (applyStops frame s) = holds s := by
  unfold applyStops; dsimp only; (repeat' split) <;> (try simp_all [holds_ite, holds_foldl, holds_getD, eachNat_holds]) <;> (try rfl)

@[simp] theorem playerStop_holds (s : State) : holds (playerStop s) = holds s := by
  unfold playerStop; dsimp only; (repeat' split) <;> (try simp_all [holds_ite, holds_foldl, holds_getD, eachNat_holds]) <;> (try rfl)

@[simp] theorem startStream_holds (tk tb2 : Int) (s : State) : holds (startStream tk tb2 s) = holds s := by
  unfold startStream; dsimp only; (repeat' split) <;> (try simp_all [holds_ite, holds_foldl, holds_getD, eachNat_holds]) <;> (try rfl)

@[simp] theorem preflightStart_holds (frame : Bool) (s : State) : holds (preflightStart frame s) = holds s := by
  unfold preflightStart; simp [holds_ite, holds_foldl, holds_getD, eachNat_holds]

@[simp] theorem frameShown_holds (f : Frame) (s : State) : holds (frameShown f s) = holds s := by
  unfold frameShown; dsimp only; (repeat' split) <;> (try simp_all [holds_ite, holds_foldl, holds_getD, eachNat_holds]) <;> (try rfl)

@[simp] theorem frameAborted_holds (a : Nat) (s : State) : holds (frameAborted a s) = holds s := by
  fun_cases frameAborted a s <;> simp_all [holds_ite, holds_foldl, holds_getD, eachNat_holds]

@[simp] theorem framesTick_holds (complete_ hold : Bool) (s : State) : holds (framesTick complete_ hold s) = holds s := by
  unfold framesTick; dsimp only; (repeat' split) <;> (try simp_all [holds_ite, holds_foldl, holds_getD, eachNat_holds]) <;> (try rfl)

@[simp] theorem publishPf_holds (s : State) : holds (publishPf s) = holds s := by
  unfold publishPf; dsimp only; (repeat' split) <;> (try simp_all [holds_ite, holds_foldl, holds_getD, eachNat_holds]) <;> (try rfl)

@[simp] theorem framesDrain_holds (s : State) : holds (framesDrain s) = holds s := by
  unfold framesDrain; simp [holds_ite, holds_foldl, holds_getD, eachNat_holds]

@[simp] theorem framesResume_holds (s : State) : holds (framesResume s) = holds s := by
  unfold framesResume; simp [holds_ite, holds_foldl, holds_getD, eachNat_holds]

@[simp] theorem pwrErr_holds (i : Nat) (s : State) : holds (pwrErr i s) = holds s := by
  unfold pwrErr; simp [holds_ite, holds_foldl, holds_getD, eachNat_holds]

@[simp] theorem pwrTo_holds (st : PwrState) (step : Nat) (s : State) : holds (pwrTo st step s) = holds s := by
  unfold pwrTo; dsimp only; (repeat' split) <;> (try simp_all [holds_ite, holds_foldl, holds_getD, eachNat_holds]) <;> (try rfl)

@[simp] theorem modRail_holds (c : Nat) (f : VRail → VRail) (s : State) : holds (modRail c f s) = holds s := by
  unfold modRail; dsimp only; (repeat' split) <;> (try simp_all [holds_ite, holds_foldl, holds_getD, eachNat_holds]) <;> (try rfl)

@[simp] theorem allRails_holds (f : VRail → VRail) (s : State) : holds (allRails f s) = holds s := by
  unfold allRails; simp [holds_ite, holds_foldl, holds_getD, eachNat_holds]

@[simp] theorem setV_holds (c : Nat) (v : Int) (s : State) : holds (setV c v s) = holds s := by
  unfold setV; simp [holds_ite, holds_foldl, holds_getD, eachNat_holds]

@[simp] theorem rampUp_holds (s : State) : holds (rampUp s) = holds s := by
  unfold rampUp; simp [holds_ite, holds_foldl, holds_getD, eachNat_holds]

@[simp] theorem rampDown_holds (fromEff : Bool) (ms : Nat) (s : State) : holds (rampDown fromEff ms s) = holds s := by
  unfold rampDown; simp [holds_ite, holds_foldl, holds_getD, eachNat_holds]

@[simp] theorem rampEnd_holds (s : State) : holds (rampEnd s) = holds s := by
  unfold rampEnd; dsimp only; (repeat' split) <;> (try simp_all [holds_ite, holds_foldl, holds_getD, eachNat_holds]) <;> (try rfl)

@[simp] theorem irefZero_holds (s : State) : holds (irefZero s) = holds s := by
  unfold irefZero; simp [holds_ite, holds_foldl, holds_getD, eachNat_holds]

@[simp] theorem derateTick_holds (s : State) : holds (derateTick s) = holds s := by
  unfold derateTick; simp [holds_ite, holds_foldl, holds_getD, eachNat_holds]

@[simp] theorem setPg_holds (b : Nat) (v : Bool) (s : State) : holds (setPg b v s) = holds s := by
  unfold setPg; simp [holds_ite, holds_foldl, holds_getD, eachNat_holds]

@[simp] theorem vledPgFall_holds (s : State) : holds (vledPgFall s) = holds s := by
  unfold vledPgFall; simp [holds_ite, holds_foldl, holds_getD, eachNat_holds]

@[simp] theorem vledOff_holds (s : State) : holds (vledOff s) = holds s := by
  unfold vledOff; simp [holds_ite, holds_foldl, holds_getD, eachNat_holds]

@[simp] theorem railOff_holds (s : State) : holds (railOff s) = holds s := by
  unfold railOff; simp [holds_ite, holds_foldl, holds_getD, eachNat_holds]

@[simp] theorem extensionClose_holds (cause slots : Nat) (s : State) : holds (extensionClose cause slots s) = holds s := by
  unfold extensionClose; simp [holds_ite, holds_foldl, holds_getD, eachNat_holds]

@[simp] theorem rasterStop_holds (s : State) : holds (rasterStop s) = holds s := by
  unfold rasterStop; simp [holds_ite, holds_foldl, holds_getD, eachNat_holds]

@[simp] theorem timingRecord_holds (t : Timing) (s : State) : holds (timingRecord t s) = holds s := by
  unfold timingRecord; simp [holds_ite, holds_foldl, holds_getD, eachNat_holds]

@[simp] theorem retimeEnd_holds (s : State) : holds (retimeEnd s) = holds s := by
  unfold retimeEnd; dsimp only; (repeat' split) <;> (try simp_all [holds_ite, holds_foldl, holds_getD, eachNat_holds]) <;> (try rfl)

@[simp] theorem downStart_holds (s : State) : holds (downStart s) = holds s := by
  unfold downStart; simp [holds_ite, holds_foldl, holds_getD, eachNat_holds]

@[simp] theorem regionsBlack_holds (s : State) : holds (regionsBlack s) = holds s := by
  unfold regionsBlack; simp [holds_ite, holds_foldl, holds_getD, eachNat_holds]

@[simp] theorem powerUp_holds (s : State) : holds (powerUp s) = holds s := by
  unfold powerUp; simp [holds_ite, holds_foldl, holds_getD, eachNat_holds]

@[simp] theorem panelOnDue_holds (s : State) : holds (panelOnDue s) = holds s := by
  unfold panelOnDue; simp [holds_ite, holds_foldl, holds_getD, eachNat_holds]

@[simp] theorem linksStop_holds (s : State) : holds (linksStop s) = holds s := by
  unfold linksStop; simp [holds_ite, holds_foldl, holds_getD, eachNat_holds]

@[simp] theorem offReached_holds (s : State) : holds (offReached s) = holds s := by
  unfold offReached; dsimp only; (repeat' split) <;> (try simp_all [holds_ite, holds_foldl, holds_getD, eachNat_holds]) <;> (try rfl)

@[simp] theorem downDone_holds (s : State) : holds (downDone s) = holds s := by
  unfold downDone; simp [holds_ite, holds_foldl, holds_getD, eachNat_holds]

@[simp] theorem downRails_holds (s : State) : holds (downRails s) = holds s := by
  unfold downRails; simp [holds_ite, holds_foldl, holds_getD, eachNat_holds]

@[simp] theorem downStop_holds (s : State) : holds (downStop s) = holds s := by
  unfold downStop; simp [holds_ite, holds_foldl, holds_getD, eachNat_holds]

@[simp] theorem downDisch_holds (s : State) : holds (downDisch s) = holds s := by
  unfold downDisch; simp [holds_ite, holds_foldl, holds_getD, eachNat_holds]

@[simp] theorem downVledLow_holds (s : State) : holds (downVledLow s) = holds s := by
  unfold downVledLow; simp [holds_ite, holds_foldl, holds_getD, eachNat_holds]

@[simp] theorem downVled_holds (s : State) : holds (downVled s) = holds s := by
  unfold downVled; simp [holds_ite, holds_foldl, holds_getD, eachNat_holds]

@[simp] theorem downDim_holds (s : State) : holds (downDim s) = holds s := by
  unfold downDim; simp [holds_ite, holds_foldl, holds_getD, eachNat_holds]

@[simp] theorem rampStop_holds (s : State) : holds (rampStop s) = holds s := by
  unfold rampStop; simp [holds_ite, holds_foldl, holds_getD, eachNat_holds]

@[simp] theorem powerDown_holds (toFaulted : Bool) (s : State) : holds (powerDown toFaulted s) = holds s := by
  unfold powerDown; simp [holds_ite, holds_foldl, holds_getD, eachNat_holds]

@[simp] theorem dischargeEnd_holds (s : State) : holds (dischargeEnd s) = holds s := by
  unfold dischargeEnd; simp [holds_ite, holds_foldl, holds_getD, eachNat_holds]

@[simp] theorem undoStep_holds (s : State) : holds (undoStep s) = holds s := by
  unfold undoStep; simp [holds_ite, holds_foldl, holds_getD, eachNat_holds]

@[simp] theorem powerFail_holds (step : Nat) (s : State) : holds (powerFail step s) = holds s := by
  unfold powerFail; simp [holds_ite, holds_foldl, holds_getD, eachNat_holds]

@[simp] theorem fastFrom_holds (step : Nat) (s : State) : holds (fastFrom step s) = holds s := by
  unfold fastFrom; dsimp only; (repeat' split) <;> (try simp_all [holds_ite, holds_foldl, holds_getD, eachNat_holds]) <;> (try rfl)

@[simp] theorem fastPowerDown_holds (s : State) : holds (fastPowerDown s) = holds s := by
  unfold fastPowerDown; simp [holds_ite, holds_foldl, holds_getD, eachNat_holds]

@[simp] theorem fastPowerDownWhole_holds (s : State) : holds (fastPowerDownWhole s) = holds s := by
  unfold fastPowerDownWhole; simp [holds_ite, holds_foldl, holds_getD, eachNat_holds]

@[simp] theorem panelOnSet_holds (s : State) : holds (panelOnSet s) = holds s := by
  unfold panelOnSet; dsimp only; (repeat' split) <;> (try simp_all [holds_ite, holds_foldl, holds_getD, eachNat_holds]) <;> (try rfl)

@[simp] theorem panelOnClear_holds (s : State) : holds (panelOnClear s) = holds s := by
  unfold panelOnClear; dsimp only; (repeat' split) <;> (try simp_all [holds_ite, holds_foldl, holds_getD, eachNat_holds]) <;> (try rfl)

@[simp] theorem legacyWrite_holds (on : Bool) (s : State) : holds (legacyWrite on s) = holds s := by
  unfold legacyWrite; simp [holds_ite, holds_foldl, holds_getD, eachNat_holds]

@[simp] theorem linkBegin_holds (s : State) : holds (linkBegin s) = holds s := by
  unfold linkBegin; simp [holds_ite, holds_foldl, holds_getD, eachNat_holds]

@[simp] theorem miswiredOff_holds (g : Nat) (s : State) : holds (miswiredOff g s) = holds s := by
  unfold miswiredOff; simp [holds_ite, holds_foldl, holds_getD, eachNat_holds]

@[simp] theorem grpReqsLeft_holds (g : Nat) (s : State) : holds (grpReqsLeft g s) = holds s := by
  unfold grpReqsLeft; simp [holds_ite, holds_foldl, holds_getD, eachNat_holds]

@[simp] theorem failedOff_holds (g : Nat) (s : State) : holds (failedOff g s) = holds s := by
  unfold failedOff; simp [holds_ite, holds_foldl, holds_getD, eachNat_holds]

@[simp] theorem failedNext_holds (s : State) : holds (failedNext s) = holds s := by
  unfold failedNext; simp [holds_ite, holds_foldl, holds_getD, eachNat_holds]

@[simp] theorem linkEnd_holds (s : State) : holds (linkEnd s) = holds s := by
  unfold linkEnd; simp [holds_ite, holds_foldl, holds_getD, eachNat_holds]

@[simp] theorem linkCheck_holds (s : State) : holds (linkCheck s) = holds s := by
  unfold linkCheck; simp [holds_ite, holds_foldl, holds_getD, eachNat_holds]

@[simp] theorem powerGoodRise_holds (r : PnlRail) (s : State) : holds (powerGoodRise r s) = holds s := by
  unfold powerGoodRise; simp [holds_ite, holds_foldl, holds_getD, eachNat_holds]

@[simp] theorem settleDone_holds (s : State) : holds (settleDone s) = holds s := by
  unfold settleDone; dsimp only; (repeat' split) <;> (try simp_all [holds_ite, holds_foldl, holds_getD, eachNat_holds]) <;> (try rfl)

@[simp] theorem boundExpiry_holds (s : State) : holds (boundExpiry s) = holds s := by
  fun_cases boundExpiry s <;> simp_all [holds_ite, holds_foldl, holds_getD, eachNat_holds]

@[simp] theorem vledBegin_holds (s : State) : holds (vledBegin s) = holds s := by
  unfold vledBegin; simp [holds_ite, holds_foldl, holds_getD, eachNat_holds]

@[simp] theorem irefRampEnd_holds (s : State) : holds (irefRampEnd s) = holds s := by
  unfold irefRampEnd; dsimp only; (repeat' split) <;> (try simp_all [holds_ite, holds_foldl, holds_getD, eachNat_holds]) <;> (try rfl)

@[simp] theorem vledFell_holds (s : State) : holds (vledFell s) = holds s := by
  unfold vledFell; simp [holds_ite, holds_foldl, holds_getD, eachNat_holds]

@[simp] theorem pgStuck_holds (s : State) : holds (pgStuck s) = holds s := by
  unfold pgStuck; simp [holds_ite, holds_foldl, holds_getD, eachNat_holds]

@[simp] theorem railStep_holds (s : State) : holds (railStep s) = holds s := by
  unfold railStep; simp [holds_ite, holds_foldl, holds_getD, eachNat_holds]

@[simp] theorem powerGoodLost_holds (r : PnlRail) (s : State) : holds (powerGoodLost r s) = holds s := by
  unfold powerGoodLost; simp [holds_ite, holds_foldl, holds_getD, eachNat_holds]

@[simp] theorem overvoltage_holds (s : State) : holds (overvoltage s) = holds s := by
  unfold overvoltage; simp [holds_ite, holds_foldl, holds_getD, eachNat_holds]

@[simp] theorem undervoltage_holds (c mv : Nat) (s : State) : holds (undervoltage c mv s) = holds s := by
  unfold undervoltage; simp [holds_ite, holds_foldl, holds_getD, eachNat_holds]

@[simp] theorem supplyUv_holds (c : Nat) (s : State) : holds (supplyUv c s) = holds s := by
  unfold supplyUv; simp [holds_ite, holds_foldl, holds_getD, eachNat_holds]

@[simp] theorem uvTimeout_holds (s : State) : holds (uvTimeout s) = holds s := by
  unfold uvTimeout; simp [holds_ite, holds_foldl, holds_getD, eachNat_holds]

@[simp] theorem uvTick_holds (c : Nat) (s : State) : holds (uvTick c s) = holds s := by
  unfold uvTick; simp [holds_ite, holds_foldl, holds_getD, eachNat_holds]

@[simp] theorem loopStep_holds (c : Nat) (s : State) : holds (loopStep c s) = holds s := by
  unfold loopStep; simp [holds_ite, holds_foldl, holds_getD, eachNat_holds]

@[simp] theorem headroomLoop_holds (s : State) : holds (headroomLoop s) = holds s := by
  unfold headroomLoop; simp [holds_ite, holds_foldl, holds_getD, eachNat_holds]

@[simp] theorem staleLimit_holds (s : State) : holds (staleLimit s) = holds s := by
  unfold staleLimit; simp [holds_ite, holds_foldl, holds_getD, eachNat_holds]

@[simp] theorem sendDiag_holds (line row : Nat) (s : State) : holds (sendDiag line row s) = holds s := by
  unfold sendDiag; simp [holds_ite, holds_foldl, holds_getD, eachNat_holds]

@[simp] theorem diagAdvance_holds (t : Timing) (s : State) : holds (diagAdvance t s) = holds s := by
  unfold diagAdvance; simp [holds_ite, holds_foldl, holds_getD, eachNat_holds]

@[simp] theorem diagLine_holds (line : Nat) (s : State) : holds (diagLine line s) = holds s := by
  unfold diagLine; dsimp only; (repeat' split) <;> (try simp_all [holds_ite, holds_foldl, holds_getD, eachNat_holds]) <;> (try rfl)

@[simp] theorem emitterLasting_holds (e : Emitter) (s : State) : holds (emitterLasting e s) = holds s := by
  unfold emitterLasting; simp [holds_ite, holds_foldl, holds_getD, eachNat_holds]

@[simp] theorem emitterReport_holds (e : Emitter) (s : State) : holds (emitterReport e s) = holds s := by
  unfold emitterReport; simp [holds_ite, holds_foldl, holds_getD, eachNat_holds]

@[simp] theorem retestTick_holds (s : State) : holds (retestTick s) = holds s := by
  unfold retestTick; simp [holds_ite, holds_foldl, holds_getD, eachNat_holds]

@[simp] theorem pwrTick_holds (scan complete_ : Bool) (s : State) : holds (pwrTick scan complete_ s) = holds s := by
  unfold pwrTick; simp [holds_ite, holds_foldl, holds_getD, eachNat_holds]

@[simp] theorem blackTick_holds (s : State) : holds (blackTick s) = holds s := by
  unfold blackTick; simp [holds_ite, holds_foldl, holds_getD, eachNat_holds]

@[simp] theorem clearTick_holds (s : State) : holds (clearTick s) = holds s := by
  unfold clearTick; simp [holds_ite, holds_foldl, holds_getD, eachNat_holds]

@[simp] theorem clearDone_holds (was : Bool) (s : State) : holds (clearDone was s) = holds s := by
  unfold clearDone; simp [holds_ite, holds_foldl, holds_getD, eachNat_holds]

@[simp] theorem homErr_holds (i : Nat) (s : State) : holds (homErr i s) = holds s := by
  unfold homErr; simp [holds_ite, holds_foldl, holds_getD, eachNat_holds]

@[simp] theorem clrErr_holds (i : Nat) (s : State) : holds (clrErr i s) = holds s := by
  unfold clrErr; simp [holds_ite, holds_foldl, holds_getD, eachNat_holds]

@[simp] theorem ctnErr_holds (i : Nat) (s : State) : holds (ctnErr i s) = holds s := by
  unfold ctnErr; simp [holds_ite, holds_foldl, holds_getD, eachNat_holds]

@[simp] theorem modScan_holds (f : Scan → Scan) (s : State) : holds (modScan f s) = holds s := by
  unfold modScan; simp [holds_ite, holds_foldl, holds_getD, eachNat_holds]

@[simp] theorem tileNotes_holds (f : Frame) (d : PlaneDesc) (tt : List Byte) (failed : Bool) (t r : Nat) (s : State) : holds (tileNotes f d tt failed t r s) = holds s := by
  unfold tileNotes; dsimp only; (repeat' split) <;> (try simp_all [holds_ite, holds_foldl, holds_getD, eachNat_holds]) <;> (try rfl)

@[simp] theorem tilePoison_holds (f : Frame) (i : Nat) (d : PlaneDesc) (tt : List Byte) (failed : Bool) (t r : Nat) (s : State) : holds (tilePoison f i d tt failed t r s) = holds s := by
  unfold tilePoison; simp [holds_ite, holds_foldl, holds_getD, eachNat_holds]

@[simp] theorem fillPlane_holds (t : Timing) (hy : Nat) (poisoned : List (Nat × Nat × Nat)) (f : Frame) (i : Nat) (d : PlaneDesc) (s : State) : holds (fillPlane t hy poisoned f i d s) = holds s := by
  unfold fillPlane; simp [holds_ite, holds_foldl, holds_getD, eachNat_holds]

@[simp] theorem fillPlanes_holds (t : Timing) (hy : Nat) (poisoned : List (Nat × Nat × Nat)) (f : Frame) (s : State) :
    holds (fillPlanes t hy poisoned f s) = holds s := by
  unfold fillPlanes
  refine holds_foldl _ _ _ ?_
  intro s i; split <;> simp

@[simp] theorem lensFill_holds (t : Timing) (hy : Nat) (s : State) : holds (lensFill t hy s) = holds s := by
  unfold lensFill
  generalize (!bitOf s.hom.ctrl.act 0 || _ : Bool) = c
  cases c
  · refine (modScan_holds _ _).trans ?_
    refine (holds_mk _ _ _ _ _ _ _ _ _ _ _ _ _ _ _ _ _ _ _ _ _ _ _ _ _ _ _ _ _).trans ((holds_eta _).trans ?_)
    exact (dramNote_holds _ _ _ _).trans (trnAccess_holds _ _ _ _ _ _)
  · rfl

@[simp] theorem ovlPoison_holds (slot x y n : Nat) (s : State) : holds (ovlPoison slot x y n s) = holds s := by
  unfold ovlPoison; simp [holds_ite, holds_foldl, holds_getD, eachNat_holds]

@[simp] theorem fillOvlRow_holds (o : OvlShow) (y : Nat) (s : State) : holds (fillOvlRow o y s) = holds s := by
  unfold fillOvlRow; simp [holds_ite, holds_foldl, holds_getD, eachNat_holds]

@[simp] theorem ovlFailed_holds (b : Nat × Nat × Nat × Nat) (s : State) : holds (ovlFailed b s) = holds s := by
  unfold ovlFailed; dsimp only; (repeat' split) <;> (try simp_all [holds_ite, holds_foldl, holds_getD, eachNat_holds]) <;> (try rfl)

@[simp] theorem fillOvl_holds (t : Timing) (hy v : Nat) (env : List (Nat × Nat × Nat × Nat)) (s : State) : holds (fillOvl t hy v env s) = holds s := by
  unfold fillOvl; simp [holds_ite, holds_foldl, holds_getD, eachNat_holds]

@[simp] theorem priorRead_holds (t : Timing) (a : Nat) (env : List Nat) (s : State) : holds ((priorRead t a env s).2) = holds s := by
  unfold priorRead; dsimp only
  (repeat' (first
      | (simp [holds_ite, holds_foldl, holds_getD, eachNat_holds]; done)
      | split
      | (refine (holds_foldl _ _ _ ?_).trans ?_ <;> intros)
      | (refine (eachNat_holds _ _ _ ?_).trans ?_ <;> intros)
      | (simp [holds_ite, holds_foldl, holds_getD, eachNat_holds])
      | (grind [→ drawFree_holds_pair, → trnAccess_holds_pair, → meshStream_holds_pair, → dramRead_holds_pair, → dramWrite_holds_pair, → wordRead_holds_pair, → spmReadN_holds_pair, → spmRead_holds_pair, → streamOn_holds_pair, → tableRead_holds_pair])))

theorem priorRead_holds_pair (t : Timing) (a : Nat) (env : List Nat) (s : State) {a_ : List Byte} {t_ : State} (h_ : priorRead t a env s = (a_, t_)) : holds t_ = holds s := by
  have e_ := priorRead_holds  t a env s
  rw [h_] at e_; exact e_

@[simp] theorem priorWrite_holds (t : Timing) (a v : Nat) (codes : List (RayRes × List Nat)) (s : State) : holds (priorWrite t a v codes s) = holds s := by
  unfold priorWrite; dsimp only
  (repeat' (first
      | (simp [holds_ite, holds_foldl, holds_getD, eachNat_holds]; done)
      | split
      | (refine (holds_foldl _ _ _ ?_).trans ?_ <;> intros)
      | (refine (eachNat_holds _ _ _ ?_).trans ?_ <;> intros)
      | (simp [holds_ite, holds_foldl, holds_getD, eachNat_holds])
      | (grind [→ drawFree_holds_pair, → trnAccess_holds_pair, → meshStream_holds_pair, → dramRead_holds_pair, → dramWrite_holds_pair, → wordRead_holds_pair, → spmReadN_holds_pair, → spmRead_holds_pair, → streamOn_holds_pair, → tableRead_holds_pair, → priorRead_holds_pair])))

@[simp] theorem setDiff_holds (regions : List Nat) (s : State) : holds (setDiff regions s) = holds s := by
  unfold setDiff; simp [holds_ite, holds_foldl, holds_getD, eachNat_holds]

@[simp] theorem tilesRetried_holds (tiles : List (Nat × Nat × Nat)) (f : Frame) (s : State) : holds (tilesRetried tiles f s) = holds s := by
  unfold tilesRetried; dsimp only
  (repeat' (first
      | (simp [holds_ite, holds_foldl, holds_getD, eachNat_holds]; done)
      | split
      | (refine (holds_foldl _ _ _ ?_).trans ?_ <;> intros)
      | (refine (eachNat_holds _ _ _ ?_).trans ?_ <;> intros)
      | (simp [holds_ite, holds_foldl, holds_getD, eachNat_holds])
      | (grind [→ drawFree_holds_pair, → trnAccess_holds_pair, → meshStream_holds_pair, → dramRead_holds_pair, → dramWrite_holds_pair, → wordRead_holds_pair, → spmReadN_holds_pair, → spmRead_holds_pair, → streamOn_holds_pair, → tableRead_holds_pair, → priorRead_holds_pair])))

@[simp] theorem lineSend_holds (t : Timing) (a : Nat) (env : LineEnv) (s : State) : holds (lineSend t a env s) = holds s := by
  unfold lineSend; dsimp only; (repeat' split) <;> (try simp_all [holds_ite, holds_foldl, holds_getD, eachNat_holds]) <;> (try rfl)

@[simp] theorem pipeClear_holds (q : Nat) (s : State) : holds (pipeClear q s) = holds s := by
  unfold pipeClear; simp [holds_ite, holds_foldl, holds_getD, eachNat_holds]

@[simp] theorem pipeFail_holds (n q : Nat) (s : State) : holds (pipeFail n q s) = holds s := by
  unfold pipeFail; dsimp only; (repeat' split) <;> (try simp_all [holds_ite, holds_foldl, holds_getD, eachNat_holds]) <;> (try rfl)

@[simp] theorem homPipeErr_holds (q line : Nat) (s : State) : holds (homPipeErr q line s) = holds s := by
  unfold homPipeErr; simp [holds_ite, holds_foldl, holds_getD, eachNat_holds]

@[simp] theorem pipesScanned_holds (complete_ : Bool) (s : State) : holds (pipesScanned complete_ s) = holds s := by
  unfold pipesScanned; simp [holds_ite, holds_foldl, holds_getD, eachNat_holds]

@[simp] theorem pipeTested_holds (q : Nat) (pass : Bool) (s : State) : holds (pipeTested q pass s) = holds s := by
  unfold pipeTested; simp [holds_ite, holds_foldl, holds_getD, eachNat_holds]

@[simp] theorem pipeDrawn_holds (q : Nat) (s : State) : holds (pipeDrawn q s) = holds s := by
  unfold pipeDrawn; simp [holds_ite, holds_foldl, holds_getD, eachNat_holds]

@[simp] theorem selfTestTick_holds (pass : Bool) (s : State) : holds (selfTestTick pass s) = holds s := by
  unfold selfTestTick; simp [holds_ite, holds_foldl, holds_getD, eachNat_holds]

@[simp] theorem pipeBringIn_holds (q : Nat) (byHost : Bool) (s : State) : holds (pipeBringIn q byHost s) = holds s := by
  unfold pipeBringIn; dsimp only; (repeat' split) <;> (try simp_all [holds_ite, holds_foldl, holds_getD, eachNat_holds]) <;> (try rfl)

@[simp] theorem pipeSpare_holds (q : Nat) (s : State) : holds (pipeSpare q s) = holds s := by
  unfold pipeSpare; simp [holds_ite, holds_foldl, holds_getD, eachNat_holds]

@[simp] theorem pipeMapTick_holds (mramOk : Bool) (s : State) : holds (pipeMapTick mramOk s) = holds s := by
  unfold pipeMapTick; dsimp only; (repeat' split) <;> (try simp_all [holds_ite, holds_foldl, holds_getD, eachNat_holds]) <;> (try rfl)

@[simp] theorem pipeClean_holds (q : Nat) (s : State) : holds (pipeClean q s) = holds s := by
  unfold pipeClean; simp [holds_ite, holds_foldl, holds_getD, eachNat_holds]

@[simp] theorem publishScan_holds (s : State) : holds (publishScan s) = holds s := by
  unfold publishScan; simp [holds_ite, holds_foldl, holds_getD, eachNat_holds]

@[simp] theorem commitMiss_holds (s : State) : holds (commitMiss s) = holds s := by
  unfold commitMiss; simp [holds_ite, holds_foldl, holds_getD, eachNat_holds]

@[simp] theorem doCommit_holds (h : Hdr) (p : CommitP) (s : State) : holds (doCommit h p s) = holds s := by
  unfold doCommit; simp [holds_ite, holds_foldl, holds_getD, eachNat_holds]

@[simp] theorem layerAccept_holds (h : Hdr) (slot : Nat) (release : Bool) (o : Option OvlShow) (s : State) : holds (layerAccept h slot release o s) = holds s := by
  unfold layerAccept; simp [holds_ite, holds_foldl, holds_getD, eachNat_holds]

@[simp] theorem doLayerSet_holds (h : Hdr) (p : LayerSetP) (s : State) : holds (doLayerSet h p s) = holds s := by
  unfold doLayerSet; dsimp only; (repeat' split) <;> (try simp_all [holds_ite, holds_foldl, holds_getD, eachNat_holds]) <;> (try rfl)

@[simp] theorem layersApply_holds (s : State) : holds (layersApply s) = holds s := by
  unfold layersApply; simp [holds_ite, holds_foldl, holds_getD, eachNat_holds]

@[simp] theorem laCommit_holds (s : State) : holds (laCommit s) = holds s := by
  unfold laCommit; simp [holds_ite, holds_foldl, holds_getD, eachNat_holds]

@[simp] theorem tablesCommit_holds (s : State) : holds (tablesCommit s) = holds s := by
  unfold tablesCommit; simp [holds_ite, holds_foldl, holds_getD, eachNat_holds]

@[simp] theorem commitApply_holds (s : State) : holds (commitApply s) = holds s := by
  unfold commitApply; simp [holds_ite, holds_foldl, holds_getD, eachNat_holds]

@[simp] theorem commitsTick_holds (inTime : Bool) (s : State) : holds (commitsTick inTime s) = holds s := by
  unfold commitsTick; simp [holds_ite, holds_foldl, holds_getD, eachNat_holds]

@[simp] theorem retimeBegin_holds (s : State) : holds (retimeBegin s) = holds s := by
  unfold retimeBegin; simp [holds_ite, holds_foldl, holds_getD, eachNat_holds]

@[simp] theorem timingAccept_holds (j : TimingJob) (s : State) : holds (timingAccept j s) = holds s := by
  unfold timingAccept; simp [holds_ite, holds_foldl, holds_getD, eachNat_holds]

@[simp] theorem doTimingSet_holds (h : Hdr) (p : TimingSetP) (s : State) : holds (doTimingSet h p s) = holds s := by
  unfold doTimingSet; simp [holds_ite, holds_foldl, holds_getD, eachNat_holds]

@[simp] theorem timingDone_holds (s : State) : holds (timingDone s) = holds s := by
  unfold timingDone; dsimp only; (repeat' split) <;> (try simp_all [holds_ite, holds_foldl, holds_getD, eachNat_holds]) <;> (try rfl)

@[simp] theorem deviceRetime_holds (s : State) : holds (deviceRetime s) = holds s := by
  fun_cases deviceRetime s <;> simp_all [holds_ite, holds_foldl, holds_getD, eachNat_holds]

@[simp] theorem setPeriod_holds (t : Timing) (s : State) : holds (setPeriod t s) = holds s := by
  unfold setPeriod; simp [holds_ite, holds_foldl, holds_getD, eachNat_holds]

@[simp] theorem tickBegin_holds (time : Int) (s : State) : holds (tickBegin time s) = holds s := by
  unfold tickBegin; simp [holds_ite, holds_foldl, holds_getD, eachNat_holds]

@[simp] theorem rateApply_holds (time : Int) (s : State) : holds (rateApply time s) = holds s := by
  unfold rateApply; dsimp only; (repeat' split) <;> (try simp_all [holds_ite, holds_foldl, holds_getD, eachNat_holds]) <;> (try rfl)

@[simp] theorem rateStart_holds (s : State) : holds (rateStart s) = holds s := by
  unfold rateStart; dsimp only; (repeat' split) <;> (try simp_all [holds_ite, holds_foldl, holds_getD, eachNat_holds]) <;> (try rfl)

@[simp] theorem retrainTick_holds (s : State) : holds (retrainTick s) = holds s := by
  unfold retrainTick; simp [holds_ite, holds_foldl, holds_getD, eachNat_holds]

@[simp] theorem scanBegin_holds (t : Timing) (black : Bool) (s : State) : holds (scanBegin t black s) = holds s := by
  unfold scanBegin; simp [holds_ite, holds_foldl, holds_getD, eachNat_holds]

@[simp] theorem spansTick_holds (pad : List (Nat × W32)) (s : State) : holds (spansTick pad s) = holds s := by
  unfold spansTick; simp [holds_ite, holds_foldl, holds_getD, eachNat_holds]

@[simp] theorem spansEnd_holds (pad : List (Nat × W32)) (s : State) : holds (spansEnd pad s) = holds s := by
  unfold spansEnd; simp [holds_ite, holds_foldl, holds_getD, eachNat_holds]

@[simp] theorem retimeDark_holds (pad : List (Nat × W32)) (s : State) : holds (retimeDark pad s) = holds s := by
  unfold retimeDark; simp [holds_ite, holds_foldl, holds_getD, eachNat_holds]

@[simp] theorem retimeClear_holds (s : State) : holds (retimeClear s) = holds s := by
  unfold retimeClear; simp [holds_ite, holds_foldl, holds_getD, eachNat_holds]

@[simp] theorem retimeTick_holds (before : Nat) (s : State) : holds (retimeTick before s) = holds s := by
  unfold retimeTick; dsimp only; (repeat' split) <;> (try simp_all [holds_ite, holds_foldl, holds_getD, eachNat_holds]) <;> (try rfl)

@[simp] theorem stopCleared_holds (was : Bool) (s : State) : holds (stopCleared was s) = holds s := by
  unfold stopCleared; simp [holds_ite, holds_foldl, holds_getD, eachNat_holds]

theorem powerStop_holds (pad : List (Nat × W32)) (s t : State) (h : powerStop pad s = some t) : holds t = holds s := by
  simp only [powerStop, Option.ite_none_right_eq_some, Option.some.injEq] at h
  rw [← h.2]; simp

@[simp] theorem tickBody_holds (env : TickEnv) (complete_ ended first : Bool) (t : Timing) (s : State) :
    holds (tickBody env complete_ ended first t s) = holds s := by
  unfold tickBody; dsimp only
  split
  · simp [holds_ite]
  · split <;> rename_i h1
    · rw [powerStop_holds _ _ _ h1]; simp [holds_ite]
    · split <;> simp [holds_ite]

@[simp] theorem scanClose_holds (s : State) : holds (scanClose s) = holds s := by
  unfold scanClose; simp [holds_ite, holds_foldl, holds_getD, eachNat_holds]

@[simp] theorem frameTick_holds (env : TickEnv) (s : State) : holds (frameTick env s) = holds s := by
  unfold frameTick; dsimp only; (repeat' split) <;> (try simp_all [holds_ite, holds_foldl, holds_getD, eachNat_holds]) <;> (try rfl)

@[simp] theorem rasterStart_holds (s : State) : holds (rasterStart s) = holds s := by
  unfold rasterStart; dsimp only; (repeat' split) <;> (try simp_all [holds_ite, holds_foldl, holds_getD, eachNat_holds]) <;> (try rfl)

@[simp] theorem retimeRampEnd_holds (s : State) : holds (retimeRampEnd s) = holds s := by
  unfold retimeRampEnd; dsimp only; (repeat' split) <;> (try simp_all [holds_ite, holds_foldl, holds_getD, eachNat_holds]) <;> (try rfl)

@[simp] theorem blankLine_holds (l : Nat) (s : State) : holds (blankLine l s) = holds s := by
  unfold blankLine; dsimp only; (repeat' split) <;> (try simp_all [holds_ite, holds_foldl, holds_getD, eachNat_holds]) <;> (try rfl)

@[simp] theorem stripsCheck_holds (s : State) : holds (stripsCheck s) = holds s := by
  unfold stripsCheck; dsimp only; (repeat' split) <;> (try simp_all [holds_ite, holds_foldl, holds_getD, eachNat_holds]) <;> (try rfl)

@[simp] theorem synthesisStart_holds (s : State) : holds (synthesisStart s) = holds s := by
  unfold synthesisStart; dsimp only; (repeat' split) <;> (try simp_all [holds_ite, holds_foldl, holds_getD, eachNat_holds]) <;> (try rfl)

@[simp] theorem underrun_holds (a stage : Nat) (s : State) : holds (underrun a stage s) = holds s := by
  unfold underrun; simp [holds_ite, holds_foldl, holds_getD, eachNat_holds]

@[simp] theorem lineDeparture_holds (env : LineEnv) (s : State) : holds (lineDeparture env s) = holds s := by
  unfold lineDeparture; dsimp only; (repeat' split) <;> (try simp_all [holds_ite, holds_foldl, holds_getD, eachNat_holds]) <;> (try rfl)

@[simp] theorem scanEnd_holds (s : State) : holds (scanEnd s) = holds s := by
  unfold scanEnd; dsimp only; (repeat' split) <;> (try simp_all [holds_ite, holds_foldl, holds_getD, eachNat_holds]) <;> (try rfl)

@[simp] theorem holdExtensionEnd_holds (s : State) : holds (holdExtensionEnd s) = holds s := by
  unfold holdExtensionEnd; dsimp only; (repeat' split) <;> (try simp_all [holds_ite, holds_foldl, holds_getD, eachNat_holds]) <;> (try rfl)

@[simp] theorem linkWake_holds (s : State) : holds (linkWake s) = holds s := by
  unfold linkWake; simp [holds_ite, holds_foldl, holds_getD, eachNat_holds]

@[simp] theorem sceneFrameDue_holds (s : State) : holds (sceneFrameDue s) = holds s := by
  unfold sceneFrameDue; simp [holds_ite, holds_foldl, holds_getD, eachNat_holds]

@[simp] theorem thErr_holds (i : Nat) (s : State) : holds (thErr i s) = holds s := by
  unfold thErr; simp [holds_ite, holds_foldl, holds_getD, eachNat_holds]

@[simp] theorem modSensor_holds (i : Nat) (f : Sensor → Sensor) (s : State) : holds (modSensor i f s) = holds s := by
  unfold modSensor; simp [holds_ite, holds_foldl, holds_getD, eachNat_holds]

@[simp] theorem substApply_holds (i : Nat) (s : State) : holds (substApply i s) = holds s := by
  unfold substApply; dsimp only; (repeat' split) <;> (try simp_all [holds_ite, holds_foldl, holds_getD, eachNat_holds]) <;> (try rfl)

@[simp] theorem sensorLose_holds (i : Nat) (s : State) : holds (sensorLose i s) = holds s := by
  unfold sensorLose; simp [holds_ite, holds_foldl, holds_getD, eachNat_holds]

@[simp] theorem spareReads_holds (i : Nat) (s : State) : holds (spareReads i s) = holds s := by
  fun_cases spareReads i s <;> simp_all [holds_ite, holds_foldl, holds_getD, eachNat_holds]

@[simp] theorem sensorSample_holds (i : Nat) (r : Option Int) (s : State) : holds (sensorSample i r s) = holds s := by
  unfold sensorSample; dsimp only; (repeat' split) <;> (try simp_all [holds_ite, holds_foldl, holds_getD, eachNat_holds]) <;> (try rfl)

@[simp] theorem partnerFails_holds (p : Nat) (s : State) : holds (partnerFails p s) = holds s := by
  unfold partnerFails; simp [holds_ite, holds_foldl, holds_getD, eachNat_holds]

@[simp] theorem substRefresh_holds (s : State) : holds (substRefresh s) = holds s := by
  unfold substRefresh; simp [holds_ite, holds_foldl, holds_getD, eachNat_holds]

@[simp] theorem sitesCheck_holds (s : State) : holds (sitesCheck s) = holds s := by
  unfold sitesCheck; simp [holds_ite, holds_foldl, holds_getD, eachNat_holds]

@[simp] theorem levelSet_holds (lvl skip up dn : Nat) (s : State) : holds (levelSet lvl skip up dn s) = holds s := by
  unfold levelSet; simp [holds_ite, holds_foldl, holds_getD, eachNat_holds]

@[simp] theorem ceilTrack_holds (oldLevel : Nat) (s : State) : holds (ceilTrack oldLevel s) = holds s := by
  unfold ceilTrack; simp [holds_ite, holds_foldl, holds_getD, eachNat_holds]

@[simp] theorem levelEval_holds (s : State) : holds (levelEval s) = holds s := by
  unfold levelEval; simp [holds_ite, holds_foldl, holds_getD, eachNat_holds]

@[simp] theorem thPause_holds (s : State) : holds (thPause s) = holds s := by
  unfold thPause; simp [holds_ite, holds_foldl, holds_getD, eachNat_holds]

@[simp] theorem critZone_holds (s : State) (g : Nat) : holds (critZone s g) = holds s := by
  unfold critZone; simp [holds_ite, holds_foldl, holds_getD, eachNat_holds]

@[simp] theorem critOwn_holds (p : Nat) (s : State) : holds (critOwn p s) = holds s := by
  unfold critOwn; simp [holds_ite, holds_foldl, holds_getD, eachNat_holds]

@[simp] theorem periodCount_holds (n : Nat) (s : State) : holds (periodCount n s) = holds s := by
  unfold periodCount; simp [holds_ite, holds_foldl, holds_getD, eachNat_holds]

@[simp] theorem refinSample_holds (good : Bool) (s : State) : holds (refinSample good s) = holds s := by
  unfold refinSample; simp [holds_ite, holds_foldl, holds_getD, eachNat_holds]

@[simp] theorem refinReturn_holds (s : State) : holds (refinReturn s) = holds s := by
  unfold refinReturn; simp [holds_ite, holds_foldl, holds_getD, eachNat_holds]

@[simp] theorem thSample_holds (env : SampleEnv) (s : State) : holds (thSample env s) = holds s := by
  unfold thSample; simp [holds_ite, holds_foldl, holds_getD, eachNat_holds]

@[simp] theorem sensorBringIn_holds (i : Nat) (byHost mramOk : Bool) (s : State) : holds (sensorBringIn i byHost mramOk s) = holds s := by
  unfold sensorBringIn; simp [holds_ite, holds_foldl, holds_getD, eachNat_holds]

@[simp] theorem sensorSpare_holds (i : Nat) (mramOk : Bool) (s : State) : holds (sensorSpare i mramOk s) = holds s := by
  unfold sensorSpare; simp [holds_ite, holds_foldl, holds_getD, eachNat_holds]

@[simp] theorem sensorClean_holds (i : Nat) (s : State) : holds (sensorClean i s) = holds s := by
  unfold sensorClean; simp [holds_ite, holds_foldl, holds_getD, eachNat_holds]

@[simp] theorem ackL3_holds (s : State) : holds (ackL3 s) = holds s := by
  unfold ackL3; simp [holds_ite, holds_foldl, holds_getD, eachNat_holds]

@[simp] theorem limitsWrite_holds (v : W32) (s : State) : holds (limitsWrite v s) = holds s := by
  unfold limitsWrite; simp [holds_ite, holds_foldl, holds_getD, eachNat_holds]

@[simp] theorem tripRead_holds (s : State) : holds (tripRead s) = holds s := by
  unfold tripRead; simp [holds_ite, holds_foldl, holds_getD, eachNat_holds]

@[simp] theorem tripClear_holds (v : W32) (s : State) : holds (tripClear v s) = holds s := by
  unfold tripClear; dsimp only; (repeat' split) <;> (try simp_all [holds_ite, holds_foldl, holds_getD, eachNat_holds]) <;> (try rfl)

@[simp] theorem tempTake_holds (g : Nat) (pkt : List Byte) (s : State) : holds (tempTake g pkt s) = holds s := by
  unfold tempTake; dsimp only; (repeat' split) <;> (try simp_all [holds_ite, holds_foldl, holds_getD, eachNat_holds]) <;> (try rfl)

@[simp] theorem tempRx_holds (g : Nat) (pkt : List Byte) (s : State) : holds (tempRx g pkt s) = holds s := by
  unfold tempRx; dsimp only; (repeat' split) <;> (try simp_all [holds_ite, holds_foldl, holds_getD, eachNat_holds]) <;> (try rfl)

@[simp] theorem tempStaleEv_holds (g : Nat) (s : State) : holds (tempStaleEv g s) = holds s := by
  fun_cases tempStaleEv g s <;> simp_all [holds_ite, holds_foldl, holds_getD, eachNat_holds]

@[simp] theorem overtemp_holds (p : Nat) (s : State) : holds (overtemp p s) = holds s := by
  unfold overtemp; simp [holds_ite, holds_foldl, holds_getD, eachNat_holds]

@[simp] theorem faultForward_holds (g : Nat) (pkt : List Byte) (s : State) : holds (faultForward g pkt s) = holds s := by
  unfold faultForward; dsimp only; (repeat' split) <;> (try simp_all [holds_ite, holds_foldl, holds_getD, eachNat_holds]) <;> (try rfl)

@[simp] theorem faultRx_holds (g : Nat) (pkt : List Byte) (s : State) : holds (faultRx g pkt s) = holds s := by
  unfold faultRx; simp [holds_ite, holds_foldl, holds_getD, eachNat_holds]

@[simp] theorem shwErr_holds (i : Nat) (s : State) : holds (shwErr i s) = holds s := by
  unfold shwErr; simp [holds_ite, holds_foldl, holds_getD, eachNat_holds]

@[simp] theorem modCh_holds (c : Nat) (f : Channel → Channel) (s : State) : holds (modCh c f s) = holds s := by
  unfold modCh; simp [holds_ite, holds_foldl, holds_getD, eachNat_holds]

@[simp] theorem chanPop_holds (c : Nat) (st : Status) (detail : W64) (s : State) : holds (chanPop c st detail s) = holds s := by
  unfold chanPop; dsimp only; (repeat' split) <;> (try simp_all [holds_ite, holds_foldl, holds_getD, eachNat_holds]) <;> (try rfl)

@[simp] theorem blitStart_holds (c : Nat) (b : Blit) (s : State) : holds (blitStart c b s) = holds s := by
  unfold blitStart; dsimp only; (repeat' split) <;> (try simp_all [holds_ite, holds_foldl, holds_getD, eachNat_holds]) <;> (try rfl)

@[simp] theorem chanKick1_holds (c : Nat) (s : State) : holds (chanKick1 c s) = holds s := by
  unfold chanKick1; dsimp only; (repeat' split) <;> (try simp_all [holds_ite, holds_foldl, holds_getD, eachNat_holds]) <;> (try rfl)

@[simp] theorem chansKick_holds (s : State) : holds (chansKick s) = holds s := by
  unfold chansKick; simp [holds_ite, holds_foldl, holds_getD, eachNat_holds]

@[simp] theorem doBlit_holds (kind : BlitKind) (h : Hdr) (p : BlitP) (s : State) : holds (doBlit kind h p s) = holds s := by
  fun_cases doBlit kind h p s <;> simp_all [holds_ite, holds_foldl, holds_getD, eachNat_holds]

@[simp] theorem shwRead_holds (m : Nat) (spm : Bool) (a n : Nat) (eccs : List Ecc) (s : State) : holds ((shwRead m spm a n eccs s).2.2) = holds s := by
  unfold shwRead; dsimp only
  (repeat' (first
      | (simp [holds_ite, holds_foldl, holds_getD, eachNat_holds]; done)
      | split
      | (refine (holds_foldl _ _ _ ?_).trans ?_ <;> intros)
      | (refine (eachNat_holds _ _ _ ?_).trans ?_ <;> intros)
      | (simp [holds_ite, holds_foldl, holds_getD, eachNat_holds])
      | (grind [→ drawFree_holds_pair, → trnAccess_holds_pair, → meshStream_holds_pair, → dramRead_holds_pair, → dramWrite_holds_pair, → wordRead_holds_pair, → spmReadN_holds_pair, → spmRead_holds_pair, → streamOn_holds_pair, → tableRead_holds_pair, → priorRead_holds_pair])))

theorem shwRead_holds_pair (m : Nat) (spm : Bool) (a n : Nat) (eccs : List Ecc) (s : State) {a_ : Option Status} {b_ : MemRes} {t_ : State} (h_ : shwRead m spm a n eccs s = (a_, b_, t_)) : holds t_ = holds s := by
  have e_ := shwRead_holds  m spm a n eccs s
  rw [h_] at e_; exact e_

@[simp] theorem shwWrite_holds (m : Nat) (spm : Bool) (a : Nat) (bs : List Byte) (poison : Bool) (ecc : Ecc) (s : State) : holds ((shwWrite m spm a bs poison ecc s).2) = holds s := by
  unfold shwWrite; dsimp only
  (repeat' (first
      | (simp [holds_ite, holds_foldl, holds_getD, eachNat_holds]; done)
      | split
      | (refine (holds_foldl _ _ _ ?_).trans ?_ <;> intros)
      | (refine (eachNat_holds _ _ _ ?_).trans ?_ <;> intros)
      | (simp [holds_ite, holds_foldl, holds_getD, eachNat_holds])
      | (grind [→ drawFree_holds_pair, → trnAccess_holds_pair, → meshStream_holds_pair, → dramRead_holds_pair, → dramWrite_holds_pair, → wordRead_holds_pair, → spmReadN_holds_pair, → spmRead_holds_pair, → streamOn_holds_pair, → tableRead_holds_pair, → priorRead_holds_pair, → shwRead_holds_pair])))

theorem shwWrite_holds_pair (m : Nat) (spm : Bool) (a : Nat) (bs : List Byte) (poison : Bool) (ecc : Ecc) (s : State) {a_ : Option Status} {t_ : State} (h_ : shwWrite m spm a bs poison ecc s = (a_, t_)) : holds t_ = holds s := by
  have e_ := shwWrite_holds  m spm a bs poison ecc s
  rw [h_] at e_; exact e_

@[simp] theorem chanStop_holds (c : Nat) (st : Status) (s : State) : holds (chanStop c st s) = holds s := by
  unfold chanStop; simp [holds_ite, holds_foldl, holds_getD, eachNat_holds]

@[simp] theorem burstWritten_holds (c : Nat) (b : Blit) (poison : Bool) (s : State) : holds (burstWritten c b poison s) = holds s := by
  unfold burstWritten; simp [holds_ite, holds_foldl, holds_getD, eachNat_holds]

@[simp] theorem burstSource_holds (c : Nat) (b : Blit) (x0 n y : Nat) (eccs : List Ecc) (s : State) : holds ((burstSource c b x0 n y eccs s).2.2) = holds s := by
  unfold burstSource; dsimp only; (repeat' split) <;> (try simp_all [holds_ite, holds_foldl, holds_getD, eachNat_holds]) <;> (try rfl)

theorem burstSource_holds_pair (c : Nat) (b : Blit) (x0 n y : Nat) (eccs : List Ecc) (s : State) {a_ : Option Status} {b_ : MemRes} {t_ : State} (h_ : burstSource c b x0 n y eccs s = (a_, b_, t_)) : holds t_ = holds s := by
  have e_ := burstSource_holds  c b x0 n y eccs s
  rw [h_] at e_; exact e_

@[simp] theorem burstRun_holds (c : Nat) (b : Blit) (env : MemEnv) (s : State) : holds (burstRun c b env s) = holds s := by
  unfold burstRun; dsimp only
  split <;> rename_i h1 <;> have e1 := burstSource_holds_pair _ _ _ _ _ _ _ h1
  · simp [e1, holds_ite]
  · split <;> rename_i h2 <;> have e2 := shwWrite_holds_pair _ _ _ _ _ _ _ h2 <;> simp [e1, e2, holds_ite]

@[simp] theorem deadPass_holds (c : Nat) (s : State) : holds (deadPass c s) = holds s := by
  unfold deadPass; simp [holds_ite, holds_foldl, holds_getD, eachNat_holds]

@[simp] theorem burstIssued_holds (c : Nat) (s : State) : holds (burstIssued c s) = holds s := by
  unfold burstIssued; simp [holds_ite, holds_foldl, holds_getD, eachNat_holds]

@[simp] theorem burstDone_holds (c : Nat) (env : MemEnv) (s : State) : holds (burstDone c env s) = holds s := by
  unfold burstDone; dsimp only; (repeat' split) <;> (try simp_all [holds_ite, holds_foldl, holds_getD, eachNat_holds]) <;> (try rfl)

@[simp] theorem stageBurst_holds (c k : Nat) (b : Blit) (y j : Nat) (eccs : List Ecc) (ecc : Ecc) (s : State) : holds ((stageBurst c k b y j eccs ecc s).2) = holds s := by
  unfold stageBurst; dsimp only
  (repeat' (first
      | (simp [holds_ite, holds_foldl, holds_getD, eachNat_holds]; done)
      | split
      | (refine (holds_foldl _ _ _ ?_).trans ?_ <;> intros)
      | (refine (eachNat_holds _ _ _ ?_).trans ?_ <;> intros)
      | (simp [holds_ite, holds_foldl, holds_getD, eachNat_holds])
      | (grind [→ drawFree_holds_pair, → trnAccess_holds_pair, → meshStream_holds_pair, → dramRead_holds_pair, → dramWrite_holds_pair, → wordRead_holds_pair, → spmReadN_holds_pair, → spmRead_holds_pair, → streamOn_holds_pair, → tableRead_holds_pair, → priorRead_holds_pair, → shwRead_holds_pair, → shwWrite_holds_pair, → burstSource_holds_pair])))

theorem stageBurst_holds_pair (c k : Nat) (b : Blit) (y j : Nat) (eccs : List Ecc) (ecc : Ecc) (s : State) {a_ : Option Status} {t_ : State} (h_ : stageBurst c k b y j eccs ecc s = (a_, t_)) : holds t_ = holds s := by
  have e_ := stageBurst_holds  c k b y j eccs ecc s
  rw [h_] at e_; exact e_

@[simp] theorem stageReads_holds (c k : Nat) (b : Blit) (z0 : List (Nat × Nat)) (z1 : List Ecc) (z2 : Ecc) (s : State) : holds ((stageReads c k b z0 z1 z2 s).2) = holds s := by
  fun_induction stageReads c k b z0 z1 z2 s <;> (try dsimp only) <;> (repeat' (first
      | (simp [holds_ite, holds_foldl, holds_getD, eachNat_holds]; done)
      | split
      | (refine (holds_foldl _ _ _ ?_).trans ?_ <;> intros)
      | (refine (eachNat_holds _ _ _ ?_).trans ?_ <;> intros)
      | (simp [holds_ite, holds_foldl, holds_getD, eachNat_holds])
      | (grind [→ drawFree_holds_pair, → trnAccess_holds_pair, → meshStream_holds_pair, → dramRead_holds_pair, → dramWrite_holds_pair, → wordRead_holds_pair, → spmReadN_holds_pair, → spmRead_holds_pair, → streamOn_holds_pair, → tableRead_holds_pair, → priorRead_holds_pair, → shwRead_holds_pair, → shwWrite_holds_pair, → burstSource_holds_pair, → stageBurst_holds_pair])))

theorem stageReads_holds_pair (c k : Nat) (b : Blit) (z0 : List (Nat × Nat)) (z1 : List Ecc) (z2 : Ecc) (s : State) {a_ : Option Status} {t_ : State} (h_ : stageReads c k b z0 z1 z2 s = (a_, t_)) : holds t_ = holds s := by
  have e_ := stageReads_holds  c k b z0 z1 z2 s
  rw [h_] at e_; exact e_

@[simp] theorem stagingDone_holds (c : Nat) (env : MemEnv) (s : State) : holds (stagingDone c env s) = holds s := by
  unfold stagingDone; dsimp only
  split
  · refine regBulk_holds _ _ _ _ fun t => ?_
    split <;> rename_i h1 <;> have e1 := stageReads_holds_pair _ _ _ _ _ _ _ h1 <;> simp [e1, holds_ite]
  · rfl

@[simp] theorem shwAbort_holds (c : Nat) (s : State) : holds (shwAbort c s) = holds s := by
  unfold shwAbort; simp [holds_ite, holds_foldl, holds_getD, eachNat_holds]

@[simp] theorem shwDisable_holds (s : State) : holds (shwDisable s) = holds s := by
  unfold shwDisable; simp [holds_ite, holds_foldl, holds_getD, eachNat_holds]

@[simp] theorem wmStart_holds (n : Nat) (s : State) : holds (wmStart n s) = holds s := by
  unfold wmStart
  refine (chansKick_holds _).trans (eachNat_holds _ _ _ ?_)
  intro c t
  split
  · split <;> simp
  · rfl

@[simp] theorem watermarkFire_holds (n : Nat) (s : State) : holds (watermarkFire n s) = holds s := by
  unfold watermarkFire; dsimp only; (repeat' split) <;> (try simp_all [holds_ite, holds_foldl, holds_getD, eachNat_holds]) <;> (try rfl)

@[simp] theorem modCtx_holds (c : Nat) (f : Ctx → Ctx) (s : State) : holds (modCtx c f s) = holds s := by
  unfold modCtx; simp [holds_ite, holds_foldl, holds_getD, eachNat_holds]

@[simp] theorem jobAtOnce_holds (decode : Bool) (h : Hdr) (c : Nat) (st : Status) (s : State) : holds (jobAtOnce decode h c st s) = holds s := by
  unfold jobAtOnce; simp [holds_ite, holds_foldl, holds_getD, eachNat_holds]

@[simp] theorem doJob_holds (decode : Bool) (h : Hdr) (p : CtnJobP) (s : State) : holds (doJob decode h p s) = holds s := by
  unfold doJob; simp [holds_ite, holds_foldl, holds_getD, eachNat_holds]

@[simp] theorem jobRead_holds (m : Nat) (spm : Bool) (a n : Nat) (eccs : List Ecc) (s : State) : holds ((jobRead m spm a n eccs s).2.2) = holds s := by
  unfold jobRead; dsimp only
  (repeat' (first
      | (simp [holds_ite, holds_foldl, holds_getD, eachNat_holds]; done)
      | split
      | (refine (holds_foldl _ _ _ ?_).trans ?_ <;> intros)
      | (refine (eachNat_holds _ _ _ ?_).trans ?_ <;> intros)
      | (simp [holds_ite, holds_foldl, holds_getD, eachNat_holds])
      | (grind [→ drawFree_holds_pair, → trnAccess_holds_pair, → meshStream_holds_pair, → dramRead_holds_pair, → dramWrite_holds_pair, → wordRead_holds_pair, → spmReadN_holds_pair, → spmRead_holds_pair, → streamOn_holds_pair, → tableRead_holds_pair, → priorRead_holds_pair, → shwRead_holds_pair, → shwWrite_holds_pair, → burstSource_holds_pair, → stageBurst_holds_pair, → stageReads_holds_pair])))

theorem jobRead_holds_pair (m : Nat) (spm : Bool) (a n : Nat) (eccs : List Ecc) (s : State) {a_ : Option Status} {b_ : MemRes} {t_ : State} (h_ : jobRead m spm a n eccs s = (a_, b_, t_)) : holds t_ = holds s := by
  have e_ := jobRead_holds  m spm a n eccs s
  rw [h_] at e_; exact e_

@[simp] theorem jobStore_holds (spm : Bool) (a : Nat) (bs : List Byte) (ecc : Ecc) (s : State) : holds (jobStore spm a bs ecc s) = holds s := by
  unfold jobStore; simp [holds_ite, holds_foldl, holds_getD, eachNat_holds]

@[simp] theorem takeEntry_holds (m : Nat) (p : CtnJobP) (lossEnc : Bool) (i : Nat) (eccs : List Ecc) (s : State) : holds ((takeEntry m p lossEnc i eccs s).2) = holds s := by
  unfold takeEntry; dsimp only
  (repeat' (first
      | (simp [holds_ite, holds_foldl, holds_getD, eachNat_holds]; done)
      | split
      | (refine (holds_foldl _ _ _ ?_).trans ?_ <;> intros)
      | (refine (eachNat_holds _ _ _ ?_).trans ?_ <;> intros)
      | (simp [holds_ite, holds_foldl, holds_getD, eachNat_holds])
      | (grind [→ drawFree_holds_pair, → trnAccess_holds_pair, → meshStream_holds_pair, → dramRead_holds_pair, → dramWrite_holds_pair, → wordRead_holds_pair, → spmReadN_holds_pair, → spmRead_holds_pair, → streamOn_holds_pair, → tableRead_holds_pair, → priorRead_holds_pair, → shwRead_holds_pair, → shwWrite_holds_pair, → burstSource_holds_pair, → stageBurst_holds_pair, → stageReads_holds_pair, → jobRead_holds_pair])))

theorem takeEntry_holds_pair (m : Nat) (p : CtnJobP) (lossEnc : Bool) (i : Nat) (eccs : List Ecc) (s : State) {a_ : Sum Status (Nat × Nat)} {t_ : State} (h_ : takeEntry m p lossEnc i eccs s = (a_, t_)) : holds t_ = holds s := by
  have e_ := takeEntry_holds  m p lossEnc i eccs s
  rw [h_] at e_; exact e_

@[simp] theorem chainRun_holds (m : Nat) (p : CtnJobP) (lossEnc pred : Bool) (ecc : Ecc) (n i : Nat) (j : JobRun) (s : State) :
    holds (chainRun m p lossEnc pred ecc n i j s).2 = holds s := by
  induction n generalizing i j s with
  | zero => rfl
  | succ n ih =>
    unfold chainRun; dsimp only
    split
    · rfl
    · rfl
    · rfl
    · split
      · rfl
      · split <;> rename_i h1 <;> have e1 := takeEntry_holds_pair _ _ _ _ _ _ h1
        · exact e1
        · split
          · rw [ih]; simpa using e1
          · simpa using e1

theorem chainRun_holds_pair (m : Nat) (p : CtnJobP) (lossEnc pred : Bool) (ecc : Ecc) (z0 : Nat) (z1 : Nat) (z2 : JobRun) (s : State) {a_ : JobRun} {t_ : State} (h_ : chainRun m p lossEnc pred ecc z0 z1 z2 s = (a_, t_)) : holds t_ = holds s := by
  have e_ := chainRun_holds  m p lossEnc pred ecc z0 z1 z2 s
  rw [h_] at e_; exact e_

@[simp] theorem jobFinish_holds (c : Nat) (st : Status) (state : CtxState) (used made : Nat) (s : State) : holds (jobFinish c st state used made s) = holds s := by
  unfold jobFinish; dsimp only; (repeat' split) <;> (try simp_all [holds_ite, holds_foldl, holds_getD, eachNat_holds]) <;> (try rfl)

@[simp] theorem jobErrs_holds (st : Status) (s : State) : holds (jobErrs st s) = holds s := by
  fun_cases jobErrs st s <;> simp_all [holds_ite, holds_foldl, holds_getD, eachNat_holds]

@[simp] theorem runPieces_holds (c m : Nat) (p : CtnJobP) (env : MemEnv) (x : Ctx) (src : List Byte) (retried : Bool) (s : State) : holds (runPieces c m p env x src retried s) = holds s := by
  unfold runPieces; simp [holds_ite, holds_foldl, holds_getD, eachNat_holds]

@[simp] theorem runRaw_holds (c m : Nat) (p : CtnJobP) (env : MemEnv) (left head : Nat) (src : List Byte) (retried : Bool) (s : State) : holds (runRaw c m p env left head src retried s) = holds s := by
  unfold runRaw; simp [holds_ite, holds_foldl, holds_getD, eachNat_holds]

@[simp] theorem runTokens_holds (c m : Nat) (p : CtnJobP) (env : MemEnv) (head : Nat) (src : List Byte) (retried : Bool) (s : State) : holds (runTokens c m p env head src retried s) = holds s := by
  unfold runTokens; simp [holds_ite, holds_foldl, holds_getD, eachNat_holds]

@[simp] theorem runDecode_holds (c m : Nat) (p : CtnJobP) (env : MemEnv) (x : Ctx) (src : List Byte) (retried : Bool) (s : State) : holds (runDecode c m p env x src retried s) = holds s := by
  unfold runDecode; simp [holds_ite, holds_foldl, holds_getD, eachNat_holds]

@[simp] theorem jobRun_holds (c m : Nat) (p : CtnJobP) (env : MemEnv) (s : State) : holds (jobRun c m p env s) = holds s := by
  unfold jobRun; dsimp only
  split <;> rename_i h1 <;> have e1 := jobRead_holds_pair _ _ _ _ _ _ h1
  · simp [e1, holds_ite]
  · (repeat' split) <;> simp [e1, holds_ite]

@[simp] theorem jobEndEvent_holds (c : Nat) (env : MemEnv) (s : State) : holds (jobEndEvent c env s) = holds s := by
  unfold jobEndEvent; dsimp only
  (repeat' (first
      | (simp [holds_ite, holds_foldl, holds_getD, eachNat_holds]; done)
      | split
      | (refine (holds_foldl _ _ _ ?_).trans ?_ <;> intros)
      | (refine (eachNat_holds _ _ _ ?_).trans ?_ <;> intros)
      | (simp [holds_ite, holds_foldl, holds_getD, eachNat_holds])
      | (grind [→ drawFree_holds_pair, → trnAccess_holds_pair, → meshStream_holds_pair, → dramRead_holds_pair, → dramWrite_holds_pair, → wordRead_holds_pair, → spmReadN_holds_pair, → spmRead_holds_pair, → streamOn_holds_pair, → tableRead_holds_pair, → priorRead_holds_pair, → shwRead_holds_pair, → shwWrite_holds_pair, → burstSource_holds_pair, → stageBurst_holds_pair, → stageReads_holds_pair, → jobRead_holds_pair, → takeEntry_holds_pair, → chainRun_holds_pair])))

@[simp] theorem ctxCommand_holds (op : Byte) (h : Hdr) (p : CtnStateP) (go : State → State) (s : State)
    (hf : ∀ s, holds (go s) = holds s) : holds (ctxCommand op h p go s) = holds s := by
  unfold ctxCommand; (try dsimp only); (repeat' split) <;> simp [hf]

@[simp] theorem doCtxSave_holds (h : Hdr) (p : CtnStateP) (s : State) : holds (doCtxSave h p s) = holds s := by
  unfold doCtxSave
  refine ctxCommand_holds _ _ _ _ _ fun t => ?_
  split <;> rename_i h1 <;> have e1 := trnAccess_holds_pair _ _ _ _ _ _ h1 <;> simpa using e1

@[simp] theorem doCtxRestore_holds (h : Hdr) (p : CtnStateP) (s : State) : holds (doCtxRestore h p s) = holds s := by
  unfold doCtxRestore
  refine ctxCommand_holds _ _ _ _ _ fun t => ?_
  dsimp only
  split <;> rename_i h1 <;> have e1 := jobRead_holds_pair _ _ _ _ _ _ h1
  · simpa using e1
  · (repeat' split) <;> simpa using e1

@[simp] theorem meshOffline_holds (p cause : Nat) (s : State) : holds (meshOffline p cause s) = holds s := by
  unfold meshOffline; simp [holds_ite, holds_foldl, holds_getD, eachNat_holds]

@[simp] theorem meshOnline_holds (p : Nat) (s : State) : holds (meshOnline p s) = holds s := by
  unfold meshOnline; dsimp only; (repeat' split) <;> (try simp_all [holds_ite, holds_foldl, holds_getD, eachNat_holds]) <;> (try rfl)

@[simp] theorem meshSendTs_holds (p kind flags : Nat) (s : State) : holds (meshSendTs p kind flags s) = holds s := by
  unfold meshSendTs; simp [holds_ite, holds_foldl, holds_getD, eachNat_holds]

@[simp] theorem meshConfig_holds (p : Nat) (s : State) : holds (meshConfig p s) = holds s := by
  unfold meshConfig; simp [holds_ite, holds_foldl, holds_getD, eachNat_holds]

@[simp] theorem meshTrain_holds (p : Nat) (link : MeshLink) (s : State) : holds (meshTrain p link s) = holds s := by
  unfold meshTrain; simp [holds_ite, holds_foldl, holds_getD, eachNat_holds]

@[simp] theorem meshStart_holds (p : Nat) (s : State) : holds (meshStart p s) = holds s := by
  unfold meshStart; simp [holds_ite, holds_foldl, holds_getD, eachNat_holds]

@[simp] theorem meshStartAll_holds (s : State) : holds (meshStartAll s) = holds s := by
  unfold meshStartAll; simp [holds_ite, holds_foldl, holds_getD, eachNat_holds]

@[simp] theorem meshDisable_holds (p cause : Nat) (s : State) : holds (meshDisable p cause s) = holds s := by
  unfold meshDisable; simp [holds_ite, holds_foldl, holds_getD, eachNat_holds]

@[simp] theorem trzCtrlWrite_holds (v : W32) (s : State) : holds (trzCtrlWrite v s) = holds s := by
  unfold trzCtrlWrite; simp [holds_ite, holds_foldl, holds_getD, eachNat_holds]

@[simp] theorem meshMiswire_holds (p : Nat) (s : State) : holds (meshMiswire p s) = holds s := by
  unfold meshMiswire; simp [holds_ite, holds_foldl, holds_getD, eachNat_holds]

@[simp] theorem meshTs1_holds (p : Nat) (ts : List Byte) (s : State) : holds (meshTs1 p ts s) = holds s := by
  unfold meshTs1; simp [holds_ite, holds_foldl, holds_getD, eachNat_holds]

@[simp] theorem meshTsRx_holds (p : Nat) (ts : List Byte) (s : State) : holds (meshTsRx p ts s) = holds s := by
  unfold meshTsRx; simp [holds_ite, holds_foldl, holds_getD, eachNat_holds]

@[simp] theorem drawNonce_holds (s : State) : holds ((drawNonce s).2) = holds s := by
  unfold drawNonce; simp [holds_ite, holds_foldl, holds_getD, eachNat_holds]

theorem drawNonce_holds_pair (s : State) {a_ : List Byte} {t_ : State} (h_ : drawNonce s = (a_, t_)) : holds t_ = holds s := by
  have e_ := drawNonce_holds  s
  rw [h_] at e_; exact e_

@[simp] theorem sendHello_holds (p : Nat) (nonce : List Byte) (s : State) : holds (sendHello p nonce s) = holds s := by
  unfold sendHello; simp [holds_ite, holds_foldl, holds_getD, eachNat_holds]

@[simp] theorem meshAuth_holds (p : Nat) (s : State) : holds (meshAuth p s) = holds s := by
  unfold meshAuth; simp [holds_ite, holds_foldl, holds_getD, eachNat_holds]

@[simp] theorem meshReplay_holds (p lseq : Nat) (s : State) : holds (meshReplay p lseq s) = holds s := by
  unfold meshReplay; simp [holds_ite, holds_foldl, holds_getD, eachNat_holds]

@[simp] theorem meshUp_holds (p : Nat) (s : State) : holds (meshUp p s) = holds s := by
  unfold meshUp; dsimp only; (repeat' split) <;> (try simp_all [holds_ite, holds_foldl, holds_getD, eachNat_holds]) <;> (try rfl)

@[simp] theorem laneCommit_holds (p : Nat) (lanes : List Nat) (s : State) : holds (laneCommit p lanes s) = holds s := by
  unfold laneCommit; simp [holds_ite, holds_foldl, holds_getD, eachNat_holds]

@[simp] theorem meshSds_holds (p : Nat) (s : State) : holds (meshSds p s) = holds s := by
  unfold meshSds; simp [holds_ite, holds_foldl, holds_getD, eachNat_holds]

@[simp] theorem lanesFailed_holds (p : Nat) (lanes : List Nat) (s : State) : holds (lanesFailed p lanes s) = holds s := by
  unfold lanesFailed; simp [holds_ite, holds_foldl, holds_getD, eachNat_holds]

@[simp] theorem meshTrained_holds (p : Nat) (t : MeshTrain) (s : State) : holds (meshTrained p t s) = holds s := by
  unfold meshTrained; simp [holds_ite, holds_foldl, holds_getD, eachNat_holds]

@[simp] theorem meshTrainTimeout_holds (p : Nat) (s : State) : holds (meshTrainTimeout p s) = holds s := by
  unfold meshTrainTimeout; simp [holds_ite, holds_foldl, holds_getD, eachNat_holds]

@[simp] theorem meshFailedRetry_holds (p : Nat) (s : State) : holds (meshFailedRetry p s) = holds s := by
  unfold meshFailedRetry; simp [holds_ite, holds_foldl, holds_getD, eachNat_holds]

@[simp] theorem meshRetrain_holds (p : Nat) (s : State) : holds (meshRetrain p s) = holds s := by
  fun_cases meshRetrain p s <;> simp_all [holds_ite, holds_foldl, holds_getD, eachNat_holds]

@[simp] theorem expectWrite_holds (p : Nat) (v : W32) (s : State) : holds (expectWrite p v s) = holds s := by
  unfold expectWrite; simp [holds_ite, holds_foldl, holds_getD, eachNat_holds]

@[simp] theorem meshFirWrite_holds (p : Nat) (v : W32) (s : State) : holds (meshFirWrite p v s) = holds s := by
  unfold meshFirWrite; simp [holds_ite, holds_foldl, holds_getD, eachNat_holds]

@[simp] theorem laneWindow_holds (p lane bad : Nat) (s : State) : holds (laneWindow p lane bad s) = holds s := by
  unfold laneWindow; simp [holds_ite, holds_foldl, holds_getD, eachNat_holds]

@[simp] theorem laneSpare_holds (p lane : Nat) (mramOk : Bool) (s : State) : holds (laneSpare p lane mramOk s) = holds s := by
  unfold laneSpare; simp [holds_ite, holds_foldl, holds_getD, eachNat_holds]

@[simp] theorem meshClean_holds (p : Nat) (s : State) : holds (meshClean p s) = holds s := by
  unfold meshClean; simp [holds_ite, holds_foldl, holds_getD, eachNat_holds]

@[simp] theorem sendNak_holds (p lseq : Nat) (s : State) : holds (sendNak p lseq s) = holds s := by
  unfold sendNak; simp [holds_ite, holds_foldl, holds_getD, eachNat_holds]

@[simp] theorem macFail_holds (p : Nat) (s : State) : holds (macFail p s) = holds s := by
  unfold macFail; simp [holds_ite, holds_foldl, holds_getD, eachNat_holds]

@[simp] theorem meshBad_holds (p : Nat) (s : State) : holds (meshBad p s) = holds s := by
  unfold meshBad; simp [holds_ite, holds_foldl, holds_getD, eachNat_holds]

@[simp] theorem sendAck_holds (p lseq : Nat) (s : State) : holds (sendAck p lseq s) = holds s := by
  unfold sendAck; simp [holds_ite, holds_foldl, holds_getD, eachNat_holds]

@[simp] theorem meshTake_holds (p cls : Nat) (s : State) : holds (meshTake p cls s) = holds s := by
  unfold meshTake; simp [holds_ite, holds_foldl, holds_getD, eachNat_holds]

@[simp] theorem meshRx_holds (p cls kind : Nat) (b : List Byte) (f : State → State) (s : State)
    (hf : ∀ s, holds (f s) = holds s) : holds (meshRx p cls kind b f s) = holds s := by
  unfold meshRx; (try dsimp only); (repeat' split) <;> simp [hf]

@[simp] theorem ackTake_holds (p lseq : Nat) (s : State) : holds (ackTake p lseq s) = holds s := by
  unfold ackTake; simp [holds_ite, holds_foldl, holds_getD, eachNat_holds]

@[simp] theorem ackRx_holds (p : Nat) (b : List Byte) (lseq : Nat) (s : State) : holds (ackRx p b lseq s) = holds s := by
  unfold ackRx; simp [holds_ite, holds_foldl, holds_getD, eachNat_holds]

@[simp] theorem nakTake_holds (p lseq : Nat) (s : State) : holds (nakTake p lseq s) = holds s := by
  unfold nakTake; simp [holds_ite, holds_foldl, holds_getD, eachNat_holds]

@[simp] theorem nakRx_holds (p : Nat) (b : List Byte) (lseq : Nat) (s : State) : holds (nakRx p b lseq s) = holds s := by
  unfold nakRx; simp [holds_ite, holds_foldl, holds_getD, eachNat_holds]

@[simp] theorem creditRx_holds (p : Nat) (b : List Byte) (cls n : Nat) (s : State) : holds (creditRx p b cls n s) = holds s := by
  unfold creditRx; simp [holds_ite, holds_foldl, holds_getD, eachNat_holds]

@[simp] theorem creditStall_holds (p : Nat) (s : State) : holds (creditStall p s) = holds s := by
  unfold creditStall; simp [holds_ite, holds_foldl, holds_getD, eachNat_holds]

@[simp] theorem meshLockLost_holds (p : Nat) (s : State) : holds (meshLockLost p s) = holds s := by
  unfold meshLockLost; simp [holds_ite, holds_foldl, holds_getD, eachNat_holds]

@[simp] theorem meshDrop_holds (p : Nat) (s : State) : holds (meshDrop p s) = holds s := by
  unfold meshDrop; simp [holds_ite, holds_foldl, holds_getD, eachNat_holds]

@[simp] theorem meshForward_holds (p cls kind : Nat) (b : List Byte) (words : List Nat) (bytes : List Byte)
    (here : State → State) (s : State) (hf : ∀ s, holds (here s) = holds s) :
    holds (meshForward p cls kind b words bytes here s) = holds s := by
  unfold meshForward; (try dsimp only); (repeat' split) <;> simp [hf]

@[simp] theorem forwardTimeout_holds (p : Nat) (s : State) : holds (forwardTimeout p s) = holds s := by
  unfold forwardTimeout; dsimp only; (repeat' split) <;> (try simp_all [holds_ite, holds_foldl, holds_getD, eachNat_holds]) <;> (try rfl)

@[simp] theorem authFail_holds (p : Nat) (s : State) : holds (authFail p s) = holds s := by
  unfold authFail; simp [holds_ite, holds_foldl, holds_getD, eachNat_holds]

@[simp] theorem helloRx_holds (p : Nat) (b : List Byte) (peer : Nat) (nonce ownNonce : List Byte) (s : State) : holds (helloRx p b peer nonce ownNonce s) = holds s := by
  unfold helloRx; simp [holds_ite, holds_foldl, holds_getD, eachNat_holds]

@[simp] theorem proofRx_holds (p : Nat) (b proof : List Byte) (s : State) : holds (proofRx p b proof s) = holds s := by
  unfold proofRx; simp [holds_ite, holds_foldl, holds_getD, eachNat_holds]

@[simp] theorem authTimeout_holds (p : Nat) (s : State) : holds (authTimeout p s) = holds s := by
  unfold authTimeout; simp [holds_ite, holds_foldl, holds_getD, eachNat_holds]

@[simp] theorem authRetry_holds (p : Nat) (nonce : List Byte) (s : State) : holds (authRetry p nonce s) = holds s := by
  unfold authRetry; simp [holds_ite, holds_foldl, holds_getD, eachNat_holds]

@[simp] theorem halofragRx_holds (p : Nat) (b : List Byte) (s : State) : holds (halofragRx p b s) = holds s := by
  unfold halofragRx; simp [holds_ite, holds_foldl, holds_getD, eachNat_holds]

@[simp] theorem halocancelRx_holds (p : Nat) (b : List Byte) (target : Time96) (s : State) : holds (halocancelRx p b target s) = holds s := by
  unfold halocancelRx; simp [holds_ite, holds_foldl, holds_getD, eachNat_holds]

@[simp] theorem nextMeshId_holds (s : State) : holds ((nextMeshId s).2) = holds s := by
  unfold nextMeshId; simp [holds_ite, holds_foldl, holds_getD, eachNat_holds]

theorem nextMeshId_holds_pair (s : State) {a_ : Nat} {t_ : State} (h_ : nextMeshId s = (a_, t_)) : holds t_ = holds s := by
  have e_ := nextMeshId_holds  s
  rw [h_] at e_; exact e_

@[simp] theorem gwCompletion_holds (id : Nat) (status : Byte) (detail : W64) (s : State) : holds (gwCompletion id status detail s) = holds s := by
  unfold gwCompletion; dsimp only; (repeat' split) <;> (try simp_all [holds_ite, holds_foldl, holds_getD, eachNat_holds]) <;> (try rfl)

@[simp] theorem gwTimeout_holds (id : Nat) (s : State) : holds (gwTimeout id s) = holds s := by
  unfold gwTimeout; dsimp only; (repeat' split) <;> (try simp_all [holds_ite, holds_foldl, holds_getD, eachNat_holds]) <;> (try rfl)

@[simp] theorem routePieces_holds (dst cls kind : Nat) (words : List Nat) (bs : List Byte) (s : State) :
    holds (routePieces dst cls kind words bs s) = holds s := by
  have e : ∀ (l : List (List Byte)) (x : Nat × State), holds (l.foldl (fun x piece =>
      (x.1 + 4096, meshRoute dst cls kind (words ++ [x.1]) piece x.2)) x).2 = holds x.2 := by
    intro l
    induction l with
    | nil => intro x; rfl
    | cons a l ih => intro x; rw [List.foldl_cons, ih]; simp
  exact e _ _

@[simp] theorem gwSend_holds (h : Hdr) (op : Byte) (dst : Nat) (packet : List Byte) (s : State) : holds (gwSend h op dst packet s) = holds s := by
  unfold gwSend; simp [holds_ite, holds_foldl, holds_getD, eachNat_holds]

@[simp] theorem dataRequest_holds (p : Nat) (b : List Byte) (id addr len : Nat) (ans : HostAns) (s : State) :
    holds (dataRequest p b id addr len ans s) = holds s := by
  unfold dataRequest
  refine meshRx_holds _ _ _ _ _ _ fun t => meshForward_holds _ _ _ _ _ _ _ _ fun u => ?_
  dsimp only; (repeat' split) <;> simp

@[simp] theorem ringPut_holds (src : Nat) (msg : List Byte) (s : State) : holds ((ringPut src msg s).2) = holds s := by
  unfold ringPut; dsimp only; (repeat' split) <;> (try simp_all [holds_ite, holds_foldl, holds_getD, eachNat_holds]) <;> (try rfl)

theorem ringPut_holds_pair (src : Nat) (msg : List Byte) (s : State) {a_ : Bool} {t_ : State} (h_ : ringPut src msg s = (a_, t_)) : holds t_ = holds s := by
  have e_ := ringPut_holds  src msg s
  rw [h_] at e_; exact e_

@[simp] theorem userMsg_holds (p : Nat) (b : List Byte) (id : Nat) (msg : List Byte) (s : State) : holds (userMsg p b id msg s) = holds s := by
  unfold userMsg; simp [holds_ite, holds_foldl, holds_getD, eachNat_holds]

@[simp] theorem sendEnd_holds (id : Nat) (st : Status) (s : State) : holds (sendEnd id st s) = holds s := by
  unfold sendEnd; dsimp only; (repeat' split) <;> (try simp_all [holds_ite, holds_foldl, holds_getD, eachNat_holds]) <;> (try rfl)

@[simp] theorem msgAck_holds (p : Nat) (b : List Byte) (id : Nat) (s : State) : holds (msgAck p b id s) = holds s := by
  unfold msgAck; simp [holds_ite, holds_foldl, holds_getD, eachNat_holds]

@[simp] theorem doMeshSend_holds (h : Hdr) (p : MeshSendP) (ans : HostAns) (s : State) : holds (doMeshSend h p ans s) = holds s := by
  unfold doMeshSend; dsimp only; (repeat' split) <;> (try simp_all [holds_ite, holds_foldl, holds_getD, eachNat_holds]) <;> (try rfl)

@[simp] theorem tb1Step_holds (q : Int) (s : State) : holds (tb1Step q s) = holds s := by
  unfold tb1Step; simp [holds_ite, holds_foldl, holds_getD, eachNat_holds]

@[simp] theorem clpSnap_holds (n : Nat) (s : State) : holds (clpSnap n s) = holds s := by
  unfold clpSnap; simp [holds_ite, holds_foldl, holds_getD, eachNat_holds]

@[simp] theorem clpTb1Step_holds (v : W32) (s : State) : holds (clpTb1Step v s) = holds s := by
  unfold clpTb1Step; simp [holds_ite, holds_foldl, holds_getD, eachNat_holds]

@[simp] theorem tb0OffsetWrite_holds (v : W32) (s : State) : holds (tb0OffsetWrite v s) = holds s := by
  unfold tb0OffsetWrite; simp [holds_ite, holds_foldl, holds_getD, eachNat_holds]

@[simp] theorem tb2OffsetWrite_holds (v : W32) (s : State) : holds (tb2OffsetWrite v s) = holds s := by
  unfold tb2OffsetWrite; simp [holds_ite, holds_foldl, holds_getD, eachNat_holds]

@[simp] theorem tb3SetWrite_holds (v : W32) (s : State) : holds (tb3SetWrite v s) = holds s := by
  unfold tb3SetWrite; simp [holds_ite, holds_foldl, holds_getD, eachNat_holds]

@[simp] theorem syncSend_holds (s : State) : holds (syncSend s) = holds s := by
  unfold syncSend; simp [holds_ite, holds_foldl, holds_getD, eachNat_holds]

@[simp] theorem pdelaySend_holds (p : Nat) (s : State) : holds (pdelaySend p s) = holds s := by
  unfold pdelaySend; simp [holds_ite, holds_foldl, holds_getD, eachNat_holds]

@[simp] theorem pdelayReq_holds (p : Nat) (b : List Byte) (tRx : Time96) (s : State) : holds (pdelayReq p b tRx s) = holds s := by
  unfold pdelayReq; simp [holds_ite, holds_foldl, holds_getD, eachNat_holds]

@[simp] theorem pdelayResp_holds (p : Nat) (b : List Byte) (tRx : Time96) (s : State) :
    holds (pdelayResp p b tRx s) = holds s := by
  unfold pdelayResp
  refine meshRx_holds _ _ _ _ _ _ fun t => ?_
  (try dsimp only); split <;> simp

@[simp] theorem servo_holds (off : Int) (s : State) : holds (servo off s) = holds s := by
  unfold servo; dsimp only; (repeat' split) <;> (try simp_all [holds_ite, holds_foldl, holds_getD, eachNat_holds]) <;> (try rfl)

@[simp] theorem syncRx_holds (p : Nat) (b : List Byte) (steps : Nat) (tRx : Time96) (s : State) : holds (syncRx p b steps tRx s) = holds s := by
  unfold syncRx; simp [holds_ite, holds_foldl, holds_getD, eachNat_holds]

@[simp] theorem clpHoldover_holds (s : State) : holds (clpHoldover s) = holds s := by
  unfold clpHoldover; simp [holds_ite, holds_foldl, holds_getD, eachNat_holds]

@[simp] theorem drawTest_holds (s : State) : holds ((drawTest s).2) = holds s := by
  unfold drawTest; simp [holds_ite, holds_foldl, holds_getD, eachNat_holds]

theorem drawTest_holds_pair (s : State) {a_ : Bool} {t_ : State} (h_ : drawTest s = (a_, t_)) : holds t_ = holds s := by
  have e_ := drawTest_holds  s
  rw [h_] at e_; exact e_

@[simp] theorem doUnitGet_holds (h : Hdr) (p : UnitP) (s : State) : holds (doUnitGet h p s) = holds s := by
  unfold doUnitGet; simp [holds_ite, holds_foldl, holds_getD, eachNat_holds]

@[simp] theorem unitOut_holds (h : Hdr) (cls idx : Nat) (force : Bool) (s : State) : holds (unitOut h cls idx force s) = holds s := by
  unfold unitOut; dsimp only; (repeat' split) <;> (try simp_all [holds_ite, holds_foldl, holds_getD, eachNat_holds]) <;> (try rfl)

@[simp] theorem windowsClear_holds (cls idx : Nat) (s : State) : holds (windowsClear cls idx s) = holds s := by
  fun_cases windowsClear cls idx s <;> simp_all [holds_ite, holds_foldl, holds_getD, eachNat_holds]

@[simp] theorem unitLogicReset_holds (cls idx : Nat) (s : State) : holds (unitLogicReset cls idx s) = holds s := by
  unfold unitLogicReset; dsimp only; (repeat' split) <;> (try simp_all [holds_ite, holds_foldl, holds_getD, eachNat_holds]) <;> (try rfl)

@[simp] theorem unitTested_holds (cls idx : Nat) (pass : Bool) (s : State) : holds (unitTested cls idx pass s) = holds s := by
  unfold unitTested; simp [holds_ite, holds_foldl, holds_getD, eachNat_holds]

@[simp] theorem testStart_holds (cls idx : Nat) (s : State) : holds (testStart cls idx s) = holds s := by
  fun_cases testStart cls idx s <;> simp_all [holds_ite, holds_foldl, holds_getD, eachNat_holds]

@[simp] theorem doUnitSet_holds (h : Hdr) (p : UnitP) (s : State) : holds (doUnitSet h p s) = holds s := by
  unfold doUnitSet; dsimp only; (repeat' split) <;> (try simp_all [holds_ite, holds_foldl, holds_getD, eachNat_holds]) <;> (try rfl)

@[simp] theorem doResetUnit_holds (h : Hdr) (p : UnitP) (s : State) : holds (doResetUnit h p s) = holds s := by
  unfold doResetUnit; simp [holds_ite, holds_foldl, holds_getD, eachNat_holds]

@[simp] theorem unitTurnTake_holds (h : Hdr) (c : Cmd) (s : State) : holds (unitTurnTake h c s) = holds s := by
  unfold unitTurnTake; simp [holds_ite, holds_foldl, holds_getD, eachNat_holds]

@[simp] theorem unitTurnLeave_holds (h : Hdr) (s : State) : holds (unitTurnLeave h s) = holds s := by
  unfold unitTurnLeave; simp [holds_ite, holds_foldl, holds_getD, eachNat_holds]

@[simp] theorem logAnswer_holds (h : Hdr) (p : LogReadP) (detail : W64) (bytes : List Byte) (s : State) : holds (logAnswer h p detail bytes s) = holds s := by
  unfold logAnswer; dsimp only; (repeat' split) <;> (try simp_all [holds_ite, holds_foldl, holds_getD, eachNat_holds]) <;> (try rfl)

@[simp] theorem logConsume_holds (n : Nat) (s : State) : holds (logConsume n s) = holds s := by
  unfold logConsume; simp [holds_ite, holds_foldl, holds_getD, eachNat_holds]

@[simp] theorem doLogEntries_holds (h : Hdr) (p : LogReadP) (s : State) : holds (doLogEntries h p s) = holds s := by
  unfold doLogEntries; dsimp only; (repeat' split) <;> (try simp_all [holds_ite, holds_foldl, holds_getD, eachNat_holds]) <;> (try rfl)

@[simp] theorem doLogDict_holds (codes : Bool) (h : Hdr) (p : LogReadP) (s : State) : holds (doLogDict codes h p s) = holds s := by
  unfold doLogDict; dsimp only; (repeat' split) <;> (try simp_all [holds_ite, holds_foldl, holds_getD, eachNat_holds]) <;> (try rfl)

@[simp] theorem doLogBad_holds (h : Hdr) (p : LogReadP) (s : State) : holds (doLogBad h p s) = holds s := by
  unfold doLogBad; simp [holds_ite, holds_foldl, holds_getD, eachNat_holds]

@[simp] theorem journalCopy_holds (s : State) : holds (journalCopy s) = holds s := by
  unfold journalCopy; dsimp only; (repeat' split) <;> (try simp_all [holds_ite, holds_foldl, holds_getD, eachNat_holds]) <;> (try rfl)

@[simp] theorem logDropClear_holds (v : W32) (s : State) : holds (logDropClear v s) = holds s := by
  unfold logDropClear; simp [holds_ite, holds_foldl, holds_getD, eachNat_holds]

@[simp] theorem calSet_holds (i : Nat) (c : CalItem) (s : State) : holds (calSet i c s) = holds s := by
  unfold calSet; simp [holds_ite, holds_foldl, holds_getD, eachNat_holds]

@[simp] theorem calFail_holds (i reason : Nat) (s : State) : holds (calFail i reason s) = holds s := by
  unfold calFail; simp [holds_ite, holds_foldl, holds_getD, eachNat_holds]

@[simp] theorem calEnd_holds (s : State) : holds (calEnd s) = holds s := by
  unfold calEnd; dsimp only; (repeat' split) <;> (try simp_all [holds_ite, holds_foldl, holds_getD, eachNat_holds]) <;> (try rfl)

@[simp] theorem doCalRun_holds (h : Hdr) (p : CalRunP) (s : State) : holds (doCalRun h p s) = holds s := by
  unfold doCalRun; simp [holds_ite, holds_foldl, holds_getD, eachNat_holds]

@[simp] theorem calItemDone_holds (i : Nat) (m : CalMeas) (s : State) : holds (calItemDone i m s) = holds s := by
  unfold calItemDone; dsimp only; (repeat' split) <;> (try simp_all [holds_ite, holds_foldl, holds_getD, eachNat_holds]) <;> (try rfl)

@[simp] theorem doCalRead_holds (h : Hdr) (p : CalReadP) (s : State) : holds (doCalRead h p s) = holds s := by
  unfold doCalRead; dsimp only; (repeat' split) <;> (try simp_all [holds_ite, holds_foldl, holds_getD, eachNat_holds]) <;> (try rfl)

@[simp] theorem calWriteItem_holds (b : List Byte) (i : Nat) (s : State) : holds (calWriteItem b i s) = holds s := by
  unfold calWriteItem; simp [holds_ite, holds_foldl, holds_getD, eachNat_holds]

@[simp] theorem doCalWrite_holds (h : Hdr) (p : CalWriteP) (s : State) : holds (doCalWrite h p s) = holds s := by
  unfold doCalWrite; simp [holds_ite, holds_foldl, holds_getD, eachNat_holds]

@[simp] theorem factoryLoad_holds (b : List Byte) (s : State) : holds (factoryLoad b s) = holds s := by
  unfold factoryLoad; simp [holds_ite, holds_foldl, holds_getD, eachNat_holds]

@[simp] theorem commitRetry_holds (ok : Bool) (s : State) : holds (commitRetry ok s) = holds s := by
  unfold commitRetry; simp [holds_ite, holds_foldl, holds_getD, eachNat_holds]

@[simp] theorem fwErr_holds (i : Nat) (s : State) : holds (fwErr i s) = holds s := by
  unfold fwErr; simp [holds_ite, holds_foldl, holds_getD, eachNat_holds]

@[simp] theorem flashWrite_holds (a : Nat) (bs : List Byte) (s : State) : holds (flashWrite a bs s) = holds s := by
  unfold flashWrite; simp [holds_ite, holds_foldl, holds_getD, eachNat_holds]

@[simp] theorem flashErase_holds (a n : Nat) (s : State) : holds (flashErase a n s) = holds s := by
  unfold flashErase; simp [holds_ite, holds_foldl, holds_getD, eachNat_holds]

@[simp] theorem modFwSlot_holds (i : Nat) (f : FwSlot → FwSlot) (s : State) : holds (modFwSlot i f s) = holds s := by
  unfold modFwSlot; simp [holds_ite, holds_foldl, holds_getD, eachNat_holds]

@[simp] theorem doFwOpen_holds (h : Hdr) (p : FwOpenP) (s : State) : holds (doFwOpen h p s) = holds s := by
  unfold doFwOpen; simp [holds_ite, holds_foldl, holds_getD, eachNat_holds]

@[simp] theorem eraseDone_holds (session : W32) (s : State) : holds (eraseDone session s) = holds s := by
  unfold eraseDone; dsimp only; (repeat' split) <;> (try simp_all [holds_ite, holds_foldl, holds_getD, eachNat_holds]) <;> (try rfl)

@[simp] theorem sessionWrite_holds (off : Nat) (bs : List Byte) (s : State) : holds (sessionWrite off bs s) = holds s := by
  unfold sessionWrite; dsimp only; (repeat' split) <;> (try simp_all [holds_ite, holds_foldl, holds_getD, eachNat_holds]) <;> (try rfl)

@[simp] theorem doFwBlock_holds (h : Hdr) (p : FwBlockP) (s : State) : holds (doFwBlock h p s) = holds s := by
  unfold doFwBlock; simp [holds_ite, holds_foldl, holds_getD, eachNat_holds]

@[simp] theorem doFwCommit_holds (h : Hdr) (p : FwCommitP) (s : State) : holds (doFwCommit h p s) = holds s := by
  unfold doFwCommit; simp [holds_ite, holds_foldl, holds_getD, eachNat_holds]

@[simp] theorem sessionClose_holds (s : State) : holds (sessionClose s) = holds s := by
  unfold sessionClose; simp [holds_ite, holds_foldl, holds_getD, eachNat_holds]

@[simp] theorem commitAction_holds (b : List Byte) (act : Bool) (s : State) : holds (commitAction b act s) = holds s := by
  unfold commitAction; dsimp only; (repeat' split) <;> (try simp_all [holds_ite, holds_foldl, holds_getD, eachNat_holds]) <;> (try rfl)

@[simp] theorem commitCheckDone_holds (s : State) : holds (commitCheckDone s) = holds s := by
  unfold commitCheckDone; dsimp only; (repeat' split) <;> (try simp_all [holds_ite, holds_foldl, holds_getD, eachNat_holds]) <;> (try rfl)

@[simp] theorem sessionAbort_holds (s : State) : holds (sessionAbort s) = holds s := by
  unfold sessionAbort; dsimp only; (repeat' split) <;> (try simp_all [holds_ite, holds_foldl, holds_getD, eachNat_holds]) <;> (try rfl)

@[simp] theorem doFwAbort_holds (h : Hdr) (p : FwAbortP) (s : State) : holds (doFwAbort h p s) = holds s := by
  unfold doFwAbort; simp [holds_ite, holds_foldl, holds_getD, eachNat_holds]

@[simp] theorem lockExpiry_holds (s : State) : holds (lockExpiry s) = holds s := by
  unfold lockExpiry; simp [holds_ite, holds_foldl, holds_getD, eachNat_holds]

@[simp] theorem bootConfirm_holds (s : State) : holds (bootConfirm s) = holds s := by
  unfold bootConfirm; simp [holds_ite, holds_foldl, holds_getD, eachNat_holds]

@[simp] theorem doFwConfirm_holds (h : Hdr) (p : FwConfirmP) (s : State) : holds (doFwConfirm h p s) = holds s := by
  unfold doFwConfirm; simp [holds_ite, holds_foldl, holds_getD, eachNat_holds]

@[simp] theorem resetSlot_holds (s : State) : holds (resetSlot s) = holds s := by
  unfold resetSlot; simp [holds_ite, holds_foldl, holds_getD, eachNat_holds]

@[simp] theorem wdogTime_holds (s : State) : holds (wdogTime s) = holds s := by
  unfold wdogTime; simp [holds_ite, holds_foldl, holds_getD, eachNat_holds]

@[simp] theorem brownoutEnd_holds (s : State) : holds (brownoutEnd s) = holds s := by
  unfold brownoutEnd; simp [holds_ite, holds_foldl, holds_getD, eachNat_holds]

@[simp] theorem secureLost_holds (s : State) : holds (secureLost s) = holds s := by
  unfold secureLost; simp [holds_ite, holds_foldl, holds_getD, eachNat_holds]

@[simp] theorem secureMesh_holds (s : State) : holds (secureMesh s) = holds s := by
  unfold secureMesh; simp [holds_ite, holds_foldl, holds_getD, eachNat_holds]

@[simp] theorem tamperNote_holds (s : State) : holds (tamperNote s) = holds s := by
  unfold tamperNote; simp [holds_ite, holds_foldl, holds_getD, eachNat_holds]

@[simp] theorem tamperAssert_holds (s : State) : holds (tamperAssert s) = holds s := by
  unfold tamperAssert; simp [holds_ite, holds_foldl, holds_getD, eachNat_holds]

@[simp] theorem tamperLatched_holds (w : WipeEnv) (s : State) : holds (tamperLatched w s) = holds s := by
  unfold tamperLatched; simp [holds_ite, holds_foldl, holds_getD, eachNat_holds]

@[simp] theorem lcApply_holds (s : State) : holds (lcApply s) = holds s := by
  unfold lcApply; dsimp only; (repeat' split) <;> (try simp_all [holds_ite, holds_foldl, holds_getD, eachNat_holds]) <;> (try rfl)

@[simp] theorem lcCarry_holds (w : WipeEnv) (s : State) : holds (lcCarry w s) = holds s := by
  unfold lcCarry; simp [holds_ite, holds_foldl, holds_getD, eachNat_holds]

@[simp] theorem porDone_holds (tamper lc : WipeEnv) (s : State) : holds (porDone tamper lc s) = holds s := by
  unfold porDone; simp [holds_ite, holds_foldl, holds_getD, eachNat_holds]

@[simp] theorem slotSelect_holds (s : State) : holds ((slotSelect s).2) = holds s := by
  unfold slotSelect; dsimp only; (repeat' split) <;> (try simp_all [holds_ite, holds_foldl, holds_getD, eachNat_holds]) <;> (try rfl)

theorem slotSelect_holds_pair (s : State) {a_ : Option Nat} {t_ : State} (h_ : slotSelect s = (a_, t_)) : holds t_ = holds s := by
  have e_ := slotSelect_holds  s
  rw [h_] at e_; exact e_

@[simp] theorem slotBoot_holds (n : Nat) (s : State) : holds (slotBoot n s).2 = holds s := by
  induction n generalizing s with
  | zero => rfl
  | succ n ih =>
    unfold slotBoot
    split <;> rename_i h1 <;> have e1 := slotSelect_holds_pair _ h1
    · exact e1
    · split
      · exact e1
      · rw [ih]; simpa using e1

theorem slotBoot_holds_pair  (z0 : Nat) (s : State) {a_ : Option Nat} {t_ : State} (h_ : slotBoot z0 s = (a_, t_)) : holds t_ = holds s := by
  have e_ := slotBoot_holds  z0 s
  rw [h_] at e_; exact e_

@[simp] theorem romDone_holds (s : State) : holds (romDone s) = holds s := by
  unfold romDone; dsimp only; (repeat' split) <;> (try simp_all [holds_ite, holds_foldl, holds_getD, eachNat_holds]) <;> (try rfl)

@[simp] theorem declareUnits_holds (s : State) : holds (declareUnits s) = holds s := by
  unfold declareUnits; simp [holds_ite, holds_foldl, holds_getD, eachNat_holds]

@[simp] theorem policyLoad_holds (l : List PolicyEntry) (s : State) : holds (policyLoad l s) = holds s := by
  unfold policyLoad; simp [holds_ite, holds_foldl, holds_getD, eachNat_holds]

@[simp] theorem configApply_holds (c : ConfigItems) (s : State) : holds (configApply c s) = holds s := by
  unfold configApply; simp [holds_ite, holds_foldl, holds_getD, eachNat_holds]

@[simp] theorem configLoad_holds (c : ConfigItems) (s : State) : holds (configLoad c s) = holds s := by
  unfold configLoad; dsimp only; (repeat' split) <;> (try simp_all [holds_ite, holds_foldl, holds_getD, eachNat_holds]) <;> (try rfl)

@[simp] theorem loadDone_holds (c : ConfigItems) (s : State) : holds (loadDone c s) = holds s := by
  have h0 : ∀ w, holds (eachNat (fun n s => setCopy n w 0 s) (List.range 3) s) = holds s := fun w => eachNat_holds _ _ _ (by simp)
  unfold loadDone
  split
  · rfl
  · generalize sectionOf _ 3 = b
    have h1 := h0 (memWrite 0 [] 0 b)
    generalize eachNat _ (List.range 3) s = u at h1 ⊢
    simp [h1]

@[simp] theorem mapUnits_holds (cls : Nat) (spared : List Nat) (serving : List (Nat × Nat)) (s : State) : holds (mapUnits cls spared serving s) = holds s := by
  unfold mapUnits; simp [holds_ite, holds_foldl, holds_getD, eachNat_holds]

@[simp] theorem mapApply_holds (m : SpareMap) (s : State) : holds (mapApply m s) = holds s := by
  unfold mapApply; simp [holds_ite, holds_foldl, holds_getD, eachNat_holds]

@[simp] theorem chanTrained_holds (m : SpareMap) (rankSpare : Bool) (t : ChannelTrain) (s : State) : holds (chanTrained m rankSpare t s) = holds s := by
  unfold chanTrained; dsimp only; (repeat' split) <;> (try simp_all [holds_ite, holds_foldl, holds_getD, eachNat_holds]) <;> (try rfl)

@[simp] theorem jglTrain_holds (t : TrainEnv) (s : State) : holds (jglTrain t s) = holds s := by
  unfold jglTrain; simp [holds_ite, holds_foldl, holds_getD, eachNat_holds]

@[simp] theorem trainStageDone_holds (t : TrainEnv) (s : State) : holds (trainStageDone t s) = holds s := by
  unfold trainStageDone; simp [holds_ite, holds_foldl, holds_getD, eachNat_holds]

@[simp] theorem startTestFail_holds (cls i : Nat) (s : State) : holds (startTestFail cls i s) = holds s := by
  unfold startTestFail; simp [holds_ite, holds_foldl, holds_getD, eachNat_holds]

@[simp] theorem gensStart_holds (s : State) : holds (gensStart s) = holds s := by
  unfold gensStart; simp [holds_ite, holds_foldl, holds_getD, eachNat_holds]

@[simp] theorem tripCheck_holds (s : State) : holds (tripCheck s) = holds s := by
  unfold tripCheck; simp [holds_ite, holds_foldl, holds_getD, eachNat_holds]

@[simp] theorem readyEnter_holds (s : State) : holds (readyEnter s) = holds s := by
  unfold readyEnter; simp [holds_ite, holds_foldl, holds_getD, eachNat_holds]

@[simp] theorem checkDone_holds (c : CheckEnv) (s : State) : holds (checkDone c s) = holds s := by
  unfold checkDone; simp [holds_ite, holds_foldl, holds_getD, eachNat_holds]

@[simp] theorem lrefLost_holds (s : State) : holds (lrefLost s) = holds s := by
  unfold lrefLost; dsimp only; (repeat' split) <;> (try simp_all [holds_ite, holds_foldl, holds_getD, eachNat_holds]) <;> (try rfl)

@[simp] theorem lrefReturn_holds (s : State) : holds (lrefReturn s) = holds s := by
  unfold lrefReturn; simp [holds_ite, holds_foldl, holds_getD, eachNat_holds]

@[simp] theorem doNop_holds (h : Hdr) (s : State) : holds (doNop h s) = holds s := by
  unfold doNop; simp [holds_ite, holds_foldl, holds_getD, eachNat_holds]

@[simp] theorem doSceneBad_holds (h : Hdr) (s : State) : holds (doSceneBad h s) = holds s := by
  unfold doSceneBad; simp [holds_ite, holds_foldl, holds_getD, eachNat_holds]

@[simp] theorem exitOnAccept_holds (h : Hdr) (s : State) : holds (exitOnAccept h s) = holds s := by
  unfold exitOnAccept; simp [holds_ite, holds_foldl, holds_getD, eachNat_holds]

@[simp] theorem askGateway_holds (gw : Nat) (h : Hdr) (c : Cmd) (a n : Nat) (s : State) : holds (askGateway gw h c a n s) = holds s := by
  unfold askGateway; simp [holds_ite, holds_foldl, holds_getD, eachNat_holds]

@[simp] theorem askHost_holds (h : Hdr) (c : Cmd) (s : State) : holds (askHost h c s) = holds s := by
  fun_cases askHost h c s <;> simp_all [holds_ite, holds_foldl, holds_getD, eachNat_holds]

@[simp] theorem turnTake_holds (q n : Nat) (s : State) : holds (turnTake q n s) = holds s := by
  unfold turnTake; simp [holds_ite, holds_foldl, holds_getD, eachNat_holds]

@[simp] theorem streamError_holds (q : Nat) (h : Hdr) (op : Byte) (st : Status) (s : State) : holds (streamError q h op st s) = holds s := by
  unfold streamError; simp [holds_ite, holds_foldl, holds_getD, eachNat_holds]

@[simp] theorem mailboxAnswer_holds (t : Nat) (b : List Byte) (st : Status) (s : State) : holds (mailboxAnswer t b st s) = holds s := by
  unfold mailboxAnswer; simp [holds_ite, holds_foldl, holds_getD, eachNat_holds]

@[simp] theorem mailboxOut_holds (t : Nat) (s : State) : holds (mailboxOut t s) = holds s := by
  unfold mailboxOut; simp [holds_ite, holds_foldl, holds_getD, eachNat_holds]

@[simp] theorem discardMessage_holds (s : State) : holds (discardMessage s) = holds s := by
  unfold discardMessage; simp [holds_ite, holds_foldl, holds_getD, eachNat_holds]

@[simp] theorem assemblyTimeout_holds (t : Nat) (s : State) : holds (assemblyTimeout t s) = holds s := by
  unfold assemblyTimeout; simp [holds_ite, holds_foldl, holds_getD, eachNat_holds]

@[simp] theorem responseCollected_holds (s : State) : holds (responseCollected s) = holds s := by
  unfold responseCollected; dsimp only; (repeat' split) <;> (try simp_all [holds_ite, holds_foldl, holds_getD, eachNat_holds]) <;> (try rfl)

@[simp] theorem mctpControl_holds (c : McCtrl) (s : State) : holds (mctpControl c s) = holds s := by
  unfold mctpControl; dsimp only; (repeat' split) <;> (try simp_all [holds_ite, holds_foldl, holds_getD, eachNat_holds]) <;> (try rfl)

@[simp] theorem barGate_holds (m off : Nat) (write : Bool) (s : State) : holds (barGate m off write s).2 = holds s := by
  unfold barGate; split
  · (try dsimp only); split <;> rename_i h1 <;> exact trnAccess_holds_pair _ _ _ _ _ _ h1
  · rfl

theorem barGate_holds_pair (m off : Nat) (write : Bool) (s : State) {a_ : Bool} {t_ : State} (h_ : barGate m off write s = (a_, t_)) : holds t_ = holds s := by
  have e_ := barGate_holds  m off write s
  rw [h_] at e_; exact e_

@[simp] theorem barWrite_holds (m off : Nat) (f : State → State) (s : State) (hf : ∀ s, holds (f s) = holds s) :
    holds (barWrite m off f s) = holds s := by
  unfold barWrite; (try dsimp only); split <;> simp [hf]

@[simp] theorem barRead_holds (m off : Nat) (v : State → W32) (f : State → State) (s : State)
    (hf : ∀ s, holds (f s) = holds s) : holds (barRead m off v f s) = holds s := by
  unfold barRead; (try dsimp only); split <;> simp [hf]

@[simp] theorem bar0BadAccess_holds (m off : Nat) (write : Bool) (len : Nat) (s : State) : holds (bar0BadAccess m off write len s) = holds s := by
  unfold bar0BadAccess; simp [holds_ite, holds_foldl, holds_getD, eachNat_holds]

@[simp] theorem wdogKick_holds (s : State) : holds (wdogKick s) = holds s := by
  unfold wdogKick; simp [holds_ite, holds_foldl, holds_getD, eachNat_holds]

@[simp] theorem wdogWrite_holds (m : Nat) (v : W32) (s : State) : holds (wdogWrite m v s) = holds s := by
  unfold wdogWrite; simp [holds_ite, holds_foldl, holds_getD, eachNat_holds]

@[simp] theorem srcForce_holds (n : Nat) (s : State) : holds (srcForce n s) = holds s := by
  unfold srcForce; simp [holds_ite, holds_foldl, holds_getD, eachNat_holds]

@[simp] theorem brkSrcCtrlWrite_holds (v : W32) (s : State) : holds (brkSrcCtrlWrite v s) = holds s := by
  unfold brkSrcCtrlWrite; simp [holds_ite, holds_foldl, holds_getD, eachNat_holds]

@[simp] theorem brkCountWrite_holds (v : W32) (s : State) : holds (brkCountWrite v s) = holds s := by
  unfold brkCountWrite; simp [holds_ite, holds_foldl, holds_getD, eachNat_holds]

@[simp] theorem brkHostPendWrite_holds (k : Nat) (v : W32) (s : State) : holds (brkHostPendWrite k v s) = holds s := by
  unfold brkHostPendWrite; simp [holds_ite, holds_foldl, holds_getD, eachNat_holds]

@[simp] theorem brkCoreWrite_holds (n o : Nat) (v : W32) (s : State) : holds (brkCoreWrite n o v s) = holds s := by
  fun_cases brkCoreWrite n o v s <;> simp_all [holds_ite, holds_foldl, holds_getD, eachNat_holds]

@[simp] theorem brkWrite_holds (m o : Nat) (v : W32) (s : State) : holds (brkWrite m o v s) = holds s := by
  unfold brkWrite; dsimp only; (repeat' split) <;> (try simp_all [holds_ite, holds_foldl, holds_getD, eachNat_holds]) <;> (try rfl)

@[simp] theorem trnStage_holds (f : TrnEntry → TrnEntry) (s : State) : holds (trnStage f s) = holds s := by
  unfold trnStage; simp [holds_ite, holds_foldl, holds_getD, eachNat_holds]

@[simp] theorem trnApply_holds (s : State) : holds (trnApply s) = holds s := by
  unfold trnApply; simp [holds_ite, holds_foldl, holds_getD, eachNat_holds]

@[simp] theorem trnCtrlWrite_holds (v : W32) (s : State) : holds (trnCtrlWrite v s) = holds s := by
  unfold trnCtrlWrite; simp [holds_ite, holds_foldl, holds_getD, eachNat_holds]

@[simp] theorem trnWrite_holds (m o : Nat) (v : W32) (s : State) : holds (trnWrite m o v s) = holds s := by
  unfold trnWrite; dsimp only; (repeat' split) <;> (try simp_all [holds_ite, holds_foldl, holds_getD, eachNat_holds]) <;> (try rfl)

@[simp] theorem clpWrite_holds (o : Nat) (v : W32) (s : State) : holds (clpWrite o v s) = holds s := by
  unfold clpWrite; dsimp only; (repeat' split) <;> (try simp_all [holds_ite, holds_foldl, holds_getD, eachNat_holds]) <;> (try rfl)

@[simp] theorem declareBy_holds (f : State → State) (s : State) (hf : ∀ s, holds (f s) = holds s) :
    holds (declareBy f s) = holds s := by
  unfold declareBy; (try dsimp only)
  refine (eachNat_holds _ _ _ ?_).trans (hf s)
  intro n t; (repeat' split) <;> simp

@[simp] theorem psensWrite_holds (k : Nat) (v : W32) (s : State) : holds (psensWrite k v s) = holds s := by
  unfold psensWrite; simp [holds_ite, holds_foldl, holds_getD, eachNat_holds]

@[simp] theorem thWrite_holds (m o : Nat) (v : W32) (s : State) : holds (thWrite m o v s) = holds s := by
  unfold thWrite; dsimp only
  (repeat' (first
      | (simp [holds_ite, holds_foldl, holds_getD, eachNat_holds]; done)
      | split
      | (refine (holds_foldl _ _ _ ?_).trans ?_ <;> intros)
      | (refine (eachNat_holds _ _ _ ?_).trans ?_ <;> intros)
      | (simp [holds_ite, holds_foldl, holds_getD, eachNat_holds])
      | (grind [→ drawFree_holds_pair, → trnAccess_holds_pair, → meshStream_holds_pair, → dramRead_holds_pair, → dramWrite_holds_pair, → wordRead_holds_pair, → spmReadN_holds_pair, → spmRead_holds_pair, → streamOn_holds_pair, → tableRead_holds_pair, → priorRead_holds_pair, → shwRead_holds_pair, → shwWrite_holds_pair, → burstSource_holds_pair, → stageBurst_holds_pair, → stageReads_holds_pair, → jobRead_holds_pair, → takeEntry_holds_pair, → chainRun_holds_pair, → drawNonce_holds_pair, → nextMeshId_holds_pair, → ringPut_holds_pair, → drawTest_holds_pair, → slotSelect_holds_pair, → slotBoot_holds_pair, → barGate_holds_pair])))

@[simp] theorem pwrCtrlWrite_holds (v : W32) (s : State) : holds (pwrCtrlWrite v s) = holds s := by
  unfold pwrCtrlWrite; simp [holds_ite, holds_foldl, holds_getD, eachNat_holds]

@[simp] theorem railWrite_holds (c o : Nat) (v : W32) (s : State) : holds (railWrite c o v s) = holds s := by
  fun_cases railWrite c o v s <;> simp_all [holds_ite, holds_foldl, holds_getD, eachNat_holds]

@[simp] theorem irefWrite_holds (c : Nat) (v : W32) (s : State) : holds (irefWrite c v s) = holds s := by
  unfold irefWrite; simp [holds_ite, holds_foldl, holds_getD, eachNat_holds]

@[simp] theorem pwrWrite_holds (o : Nat) (v : W32) (s : State) : holds (pwrWrite o v s) = holds s := by
  unfold pwrWrite; dsimp only; (repeat' split) <;> (try simp_all [holds_ite, holds_foldl, holds_getD, eachNat_holds]) <;> (try rfl)

@[simp] theorem calWrite_holds (o : Nat) (v : W32) (s : State) : holds (calWrite o v s) = holds s := by
  unfold calWrite; dsimp only; (repeat' split) <;> (try simp_all [holds_ite, holds_foldl, holds_getD, eachNat_holds]) <;> (try rfl)

@[simp] theorem fwWrite_holds (o : Nat) (v : W32) (s : State) : holds (fwWrite o v s) = holds s := by
  unfold fwWrite; dsimp only; (repeat' split) <;> (try simp_all [holds_ite, holds_foldl, holds_getD, eachNat_holds]) <;> (try rfl)

@[simp] theorem logWrite_holds (o : Nat) (v : W32) (s : State) : holds (logWrite o v s) = holds s := by
  unfold logWrite; dsimp only; (repeat' split) <;> (try simp_all [holds_ite, holds_foldl, holds_getD, eachNat_holds]) <;> (try rfl)

@[simp] theorem scnWrite_holds (o : Nat) (v : W32) (s : State) : holds (scnWrite o v s) = holds s := by
  unfold scnWrite; dsimp only; (repeat' split) <;> (try simp_all [holds_ite, holds_foldl, holds_getD, eachNat_holds]) <;> (try rfl)

@[simp] theorem crslWrite_holds (o : Nat) (v : W32) (s : State) : holds (crslWrite o v s) = holds s := by
  unfold crslWrite; dsimp only; (repeat' split) <;> (try simp_all [holds_ite, holds_foldl, holds_getD, eachNat_holds]) <;> (try rfl)

@[simp] theorem homWrite_holds (o : Nat) (v : W32) (s : State) : holds (homWrite o v s) = holds s := by
  unfold homWrite; dsimp only; (repeat' split) <;> (try simp_all [holds_ite, holds_foldl, holds_getD, eachNat_holds]) <;> (try rfl)

@[simp] theorem clrTblNext_holds (s : State) : holds (clrTblNext s) = holds s := by
  unfold clrTblNext; simp [holds_ite, holds_foldl, holds_getD, eachNat_holds]

@[simp] theorem clrTblRange_holds (s : State) : holds (clrTblRange s) = holds s := by
  unfold clrTblRange; simp [holds_ite, holds_foldl, holds_getD, eachNat_holds]

@[simp] theorem clrTblWrite_holds (v : W32) (s : State) : holds (clrTblWrite v s) = holds s := by
  unfold clrTblWrite; simp [holds_ite, holds_foldl, holds_getD, eachNat_holds]

@[simp] theorem clrWrite_holds (o : Nat) (v : W32) (s : State) : holds (clrWrite o v s) = holds s := by
  unfold clrWrite; dsimp only; (repeat' split) <;> (try simp_all [holds_ite, holds_foldl, holds_getD, eachNat_holds]) <;> (try rfl)

@[simp] theorem pxWrite_holds (o : Nat) (v : W32) (s : State) : holds (pxWrite o v s) = holds s := by
  unfold pxWrite; dsimp only; (repeat' split) <;> (try simp_all [holds_ite, holds_foldl, holds_getD, eachNat_holds]) <;> (try rfl)

@[simp] theorem trzRouteNext_holds (s : State) : holds (trzRouteNext s) = holds s := by
  unfold trzRouteNext; simp [holds_ite, holds_foldl, holds_getD, eachNat_holds]

@[simp] theorem trzRouteWrite_holds (v : W32) (s : State) : holds (trzRouteWrite v s) = holds s := by
  unfold trzRouteWrite; simp [holds_ite, holds_foldl, holds_getD, eachNat_holds]

@[simp] theorem gwMod_holds (f : Gateway → Gateway) (s : State) : holds (gwMod f s) = holds s := by
  unfold gwMod; simp [holds_ite, holds_foldl, holds_getD, eachNat_holds]

@[simp] theorem trzIdWrite_holds (v : W32) (s : State) : holds (trzIdWrite v s) = holds s := by
  unfold trzIdWrite; simp [holds_ite, holds_foldl, holds_getD, eachNat_holds]

@[simp] theorem trzWrite_holds (o : Nat) (v : W32) (s : State) : holds (trzWrite o v s) = holds s := by
  unfold trzWrite; dsimp only; (repeat' split) <;> (try simp_all [holds_ite, holds_foldl, holds_getD, eachNat_holds]) <;> (try rfl)

@[simp] theorem shwCtrlWrite_holds (m : Nat) (v : W32) (s : State) : holds (shwCtrlWrite m v s) = holds s := by
  unfold shwCtrlWrite; simp [holds_ite, holds_foldl, holds_getD, eachNat_holds]

@[simp] theorem shwRegWrite_holds (m o : Nat) (v : W32) (s : State) : holds (shwRegWrite m o v s) = holds s := by
  unfold shwRegWrite; dsimp only; (repeat' split) <;> (try simp_all [holds_ite, holds_foldl, holds_getD, eachNat_holds]) <;> (try rfl)

@[simp] theorem ctnWrite_holds (o : Nat) (v : W32) (s : State) : holds (ctnWrite o v s) = holds s := by
  unfold ctnWrite; dsimp only; (repeat' split) <;> (try simp_all [holds_ite, holds_foldl, holds_getD, eachNat_holds]) <;> (try rfl)

@[simp] theorem bankPwrWrite_holds (m : Nat) (v : W32) (s : State) : holds (bankPwrWrite m v s) = holds s := by
  unfold bankPwrWrite; simp [holds_ite, holds_foldl, holds_getD, eachNat_holds]

@[simp] theorem spmRegWrite_holds (m o : Nat) (v : W32) (s : State) : holds (spmRegWrite m o v s) = holds s := by
  unfold spmRegWrite; dsimp only; (repeat' split) <;> (try simp_all [holds_ite, holds_foldl, holds_getD, eachNat_holds]) <;> (try rfl)

@[simp] theorem foldAckWrite_holds (v : W32) (s : State) : holds (foldAckWrite v s) = holds s := by
  unfold foldAckWrite; simp [holds_ite, holds_foldl, holds_getD, eachNat_holds]

@[simp] theorem jglWrite_holds (o : Nat) (v : W32) (s : State) : holds (jglWrite o v s) = holds s := by
  unfold jglWrite; dsimp only; (repeat' split) <;> (try simp_all [holds_ite, holds_foldl, holds_getD, eachNat_holds]) <;> (try rfl)

@[simp] theorem sqCfgWrite_holds (p : Port) (f : Sq → Sq) (s : State) : holds (sqCfgWrite p f s) = holds s := by
  unfold sqCfgWrite; simp [holds_ite, holds_foldl, holds_getD, eachNat_holds]

@[simp] theorem cqCfgWrite_holds (p : Port) (f : Cq → Cq) (s : State) : holds (cqCfgWrite p f s) = holds s := by
  unfold cqCfgWrite; simp [holds_ite, holds_foldl, holds_getD, eachNat_holds]

@[simp] theorem sqCtrlWrite_holds (p : Port) (v : W32) (s : State) : holds (sqCtrlWrite p v s) = holds s := by
  unfold sqCtrlWrite; simp [holds_ite, holds_foldl, holds_getD, eachNat_holds]

@[simp] theorem cqCtrlWrite_holds (p : Port) (v : W32) (s : State) : holds (cqCtrlWrite p v s) = holds s := by
  unfold cqCtrlWrite; simp [holds_ite, holds_foldl, holds_getD, eachNat_holds]

@[simp] theorem cqOwnWrite_holds (p : Port) (f : Cq → Cq) (s : State) : holds (cqOwnWrite p f s) = holds s := by
  unfold cqOwnWrite; simp [holds_ite, holds_foldl, holds_getD, eachNat_holds]

@[simp] theorem portCfgWrite_holds (v : W32) (s : State) : holds (portCfgWrite v s) = holds s := by
  unfold portCfgWrite; simp [holds_ite, holds_foldl, holds_getD, eachNat_holds]

@[simp] theorem bar4Write_holds (p : Port) (high : Bool) (v : W32) (s : State) : holds (bar4Write p high v s) = holds s := by
  unfold bar4Write; simp [holds_ite, holds_foldl, holds_getD, eachNat_holds]

@[simp] theorem vecIdleWrite_holds (p : Port) (n : Nat) (v : W32) (s : State) : holds (vecIdleWrite p n v s) = holds s := by
  unfold vecIdleWrite; simp [holds_ite, holds_foldl, holds_getD, eachNat_holds]

@[simp] theorem msixWrite_holds (p : Port) (o : Nat) (v : W32) (s : State) : holds (msixWrite p o v s) = holds s := by
  unfold msixWrite; simp [holds_ite, holds_foldl, holds_getD, eachNat_holds]

@[simp] theorem hqRegWrite_holds (p : Port) (o : Nat) (v : W32) (s : State) : holds (hqRegWrite p o v s) = holds s := by
  unfold hqRegWrite; dsimp only; (repeat' split) <;> (try simp_all [holds_ite, holds_foldl, holds_getD, eachNat_holds]) <;> (try rfl)

@[simp] theorem jrnlNext_holds (s : State) : holds (jrnlNext s) = holds s := by
  unfold jrnlNext; simp [holds_ite, holds_foldl, holds_getD, eachNat_holds]

@[simp] theorem portWrite_holds (p : Port) (off : Nat) (f : State → State) (s : State) (hf : ∀ s, holds (f s) = holds s) :
    holds (portWrite p off f s) = holds s := by
  unfold portWrite; exact barWrite_holds _ _ _ _ hf

@[simp] theorem selWrite_holds (p : Port) (off : Nat) (f : Nat → State → State) (s : State)
    (hf : ∀ n s, holds (f n s) = holds s) : holds (selWrite p off f s) = holds s := by
  unfold selWrite; exact portWrite_holds _ _ _ _ fun s => hf _ s

@[simp] theorem claimRead_holds (core : Nat) (s : State) : holds (claimRead core s) = holds s := by
  unfold claimRead; simp [holds_ite, holds_foldl, holds_getD, eachNat_holds]

@[simp] theorem chAbortWrite_holds (m : Nat) (s : State) : holds (chAbortWrite m s) = holds s := by
  unfold chAbortWrite; simp [holds_ite, holds_foldl, holds_getD, eachNat_holds]

@[simp] theorem clrTblAccess_holds (m : Nat) (w : Option W32) (s : State) : holds (clrTblAccess m w s) = holds s := by
  fun_cases clrTblAccess m w s <;> simp_all [holds_ite, holds_foldl, holds_getD, eachNat_holds]

@[simp] theorem routeAccess_holds (m : Nat) (w : Option W32) (s : State) : holds (routeAccess m w s) = holds s := by
  fun_cases routeAccess m w s <;> simp_all [holds_ite, holds_foldl, holds_getD, eachNat_holds]

@[simp] theorem trainEvent_holds (f : State → State) (s : State) (hf : ∀ s, holds (f s) = holds s) :
    holds (trainEvent f s) = holds s := by
  unfold trainEvent; simp [hf]

@[simp] theorem mr4Read_holds (ch mult : Nat) (temp : W16) (s : State) : holds (mr4Read ch mult temp s) = holds s := by
  unfold mr4Read; simp [holds_ite, holds_foldl, holds_getD, eachNat_holds]

@[simp] theorem rebase_holds (ch : Nat) (s : State) : holds (rebase ch s) = holds s := by
  fun_cases rebase ch s <;> simp_all [holds_ite, holds_foldl, holds_getD, eachNat_holds]

@[simp] theorem rebaseFinish_holds (bad : List Nat) (s : State) : holds (rebaseFinish bad s) = holds s := by
  fun_cases rebaseFinish bad s <;> simp_all [holds_ite, holds_foldl, holds_getD, eachNat_holds]

end Sys2Proof.Machine
end

