-- ==== Sys2Proof/Laws/Memory.lean ====
section
/-! SUPPORT. Byte memories: what each operation on one does, and that it keeps the canonical form. -/

namespace Sys2Proof.Machine

/-- The canonical form as a property of the listed cells: keys at or above the bound and rising, no default listed. -/
theorem spWfFrom_iff {α : Type} [DecidableEq α] (d : α) (b : Nat) (m : Sparse α) :
    spWfFrom d b m = true ↔ (∀ c ∈ m, b ≤ c.1 ∧ c.2 ≠ d) ∧ m.Pairwise (fun x y => x.1 < y.1) := by
  induction m generalizing b with
  | nil => simp [spWfFrom]
  | cons c r ih =>
    obtain ⟨k, v⟩ := c
    simp only [spWfFrom, Bool.and_eq_true, decide_eq_true_eq, Bool.not_eq_true', decide_eq_false_iff_not, ih,
      List.forall_mem_cons, List.pairwise_cons]
    constructor
    · rintro ⟨⟨h1, h2⟩, h3, h4⟩
      exact ⟨⟨⟨h1, h2⟩, fun c hc => ⟨by have := (h3 c hc).1; omega, (h3 c hc).2⟩⟩, fun c hc => by have := (h3 c hc).1; omega, h4⟩
    · rintro ⟨⟨⟨h1, h2⟩, h3⟩, h4, h5⟩
      exact ⟨⟨h1, h2⟩, fun c hc => ⟨by have := h4 c hc; omega, (h3 c hc).2⟩, h5⟩

theorem memory_wf_iff (d : Byte) (m : Mem) :
    Memory.wf d m = true ↔ (∀ c ∈ m, c.2 ≠ d) ∧ m.Pairwise (fun x y => x.1 < y.1) := by
  simp [Memory.wf, spWf, spWfFrom_iff]

/-- Cells taken from a memory are in canonical form. -/
theorem memory_wf_filter {d : Byte} {m : Mem} (p : Host.Cell → Bool) (h : Memory.wf d m = true) :
    Memory.wf d (m.filter p) = true := by
  rw [memory_wf_iff] at *
  exact ⟨fun c hc => h.1 c (List.mem_of_mem_filter hc), h.2.filter p⟩

@[simp] theorem memory_wf_nil (d : Byte) : Memory.wf d [] = true := rfl

/-- Two memories, the first wholly below the second, make one. -/
theorem memory_wf_append {d : Byte} {m n : Mem} (hm : Memory.wf d m = true) (hn : Memory.wf d n = true)
    (h : ∀ x ∈ m, ∀ y ∈ n, x.1 < y.1) : Memory.wf d (m ++ n) = true := by
  rw [memory_wf_iff] at *
  refine ⟨fun c hc => ?_, List.pairwise_append.2 ⟨hm.2, hn.2, h⟩⟩
  rcases List.mem_append.1 hc with hc | hc
  · exact hm.1 c hc
  · exact hn.1 c hc

/-- The cells that bytes from an address make lie in their range. -/
theorem memCells_range (d : Byte) (a : Nat) (bs : List Byte) :
    ∀ c ∈ memCells d a bs, a ≤ c.1 ∧ c.1 < a + bs.length ∧ c.2 ≠ d := by
  induction bs generalizing a with
  | nil => simp [memCells]
  | cons b r ih =>
    intro c hc
    rw [memCells] at hc
    split at hc
    · have := ih (a + 1) c hc; simp only [List.length_cons]; exact ⟨by omega, by omega, this.2.2⟩
    · rcases List.mem_cons.1 hc with rfl | hc
      · simp only [List.length_cons]; exact ⟨Nat.le_refl _, by omega, by assumption⟩
      · have := ih (a + 1) c hc; simp only [List.length_cons]; exact ⟨by omega, by omega, this.2.2⟩

theorem memCells_wf (d : Byte) (a : Nat) (bs : List Byte) : Memory.wf d (memCells d a bs) = true := by
  rw [memory_wf_iff]
  refine ⟨fun c hc => (memCells_range d a bs c hc).2.2, ?_⟩
  induction bs generalizing a with
  | nil => simp [memCells]
  | cons b r ih =>
    rw [memCells]; split
    · exact ih _
    · exact List.pairwise_cons.2 ⟨fun c hc => by have := (memCells_range d (a + 1) r c hc).1; simpa using this, ih _⟩

/-- A write keeps the canonical form. -/
@[simp] theorem memWrite_wf {d : Byte} {m : Mem} (a : Nat) (bs : List Byte) (h : Memory.wf d m = true) :
    Memory.wf d (memWrite d m a bs) = true := by
  unfold memWrite
  refine memory_wf_append (memory_wf_append (memory_wf_filter _ h) (memCells_wf d a bs) ?_) (memory_wf_filter _ h) ?_
  · intro x hx y hy
    have h1 := List.of_mem_filter hx
    have h2 := (memCells_range d a bs y hy).1
    simp at h1; omega
  · intro x hx y hy
    have h2 := List.of_mem_filter hy
    simp at h2
    rcases List.mem_append.1 hx with hx | hx
    · have h1 := List.of_mem_filter hx
      simp at h1; omega
    · have h1 := (memCells_range d a bs x hx).2.1
      omega

/-- An erasure keeps the canonical form. -/
@[simp] theorem spErase_wf {d : Byte} {m : Mem} (lo hi : Nat) (h : Memory.wf d m = true) :
    Memory.wf d (spErase m lo hi) = true := memory_wf_filter _ h

/-- A part of a memory keeps the canonical form. -/
@[simp] theorem memCut_wf {d : Byte} {m : Mem} (a b : Nat) (h : Memory.wf d m = true) :
    Memory.wf d (memCut m a b) = true := memory_wf_filter _ h

/-- Cells moved by one distance, from a range, keep the canonical form. -/
theorem memory_wf_move {d : Byte} {m : Mem} (lo b : Nat) (hlo : ∀ c ∈ m, lo ≤ c.1) (h : Memory.wf d m = true) :
    Memory.wf d (m.map fun c => (c.1 - lo + b, c.2)) = true := by
  rw [memory_wf_iff] at *
  refine ⟨fun c hc => ?_, ?_⟩
  · obtain ⟨x, hx, rfl⟩ := List.mem_map.1 hc
    exact h.1 x hx
  · refine List.pairwise_map.2 (h.2.imp_of_mem ?_)
    intro x y hx hy hxy
    have := hlo x hx; have := hlo y hy
    simp; omega

/-- A range of one memory laid over another keeps the canonical form. -/
@[simp] theorem memMove_wf {d : Byte} {src m : Mem} (a b n : Nat) (hs : Memory.wf d src = true) (hm : Memory.wf d m = true) :
    Memory.wf d (memMove src a b n m) = true := by
  have cut : ∀ c ∈ memCut src a (a + n), a ≤ c.1 ∧ c.1 < a + n := fun c hc => by
    have := List.of_mem_filter hc; simpa using this
  refine memory_wf_append (memory_wf_append (memory_wf_filter _ hm)
    (memory_wf_move _ _ (fun c hc => (cut c hc).1) (memCut_wf _ _ hs)) ?_) (memory_wf_filter _ hm) ?_
  · intro x hx y hy
    have h1 := List.of_mem_filter hx
    obtain ⟨z, hz, rfl⟩ := List.mem_map.1 hy
    have := cut z hz
    simp at h1 ⊢; omega
  · intro x hx y hy
    have h2 := List.of_mem_filter hy
    simp only [decide_eq_true_eq] at h2
    rcases List.mem_append.1 hx with hx | hx
    · have h1 := List.of_mem_filter hx
      simp only [decide_eq_true_eq] at h1; omega
    · obtain ⟨z, hz, rfl⟩ := List.mem_map.1 hx
      have := cut z hz
      simp only; omega

/-! ### Reading what was written -/

/-- An address that no cell lists reads as the default. -/
theorem spGet_of_not_mem {d : Byte} {m : Mem} {a : Nat} (h : ∀ c ∈ m, c.1 ≠ a) : spGet d m a = d := by
  induction m with
  | nil => rfl
  | cons c r ih =>
    obtain ⟨k, v⟩ := c
    have h1 : k ≠ a := h (k, v) (List.mem_cons_self ..)
    rw [spGet, if_neg h1]
    exact ih fun c hc => h c (List.mem_cons_of_mem _ hc)

theorem spGet_append {d : Byte} (m n : Mem) (a : Nat) :
    spGet d (m ++ n) a = if (∃ c ∈ m, c.1 = a) then spGet d m a else spGet d n a := by
  induction m with
  | nil => simp
  | cons c r ih =>
    obtain ⟨k, v⟩ := c
    by_cases h : k = a
    · simp [spGet, h]
    · simp only [List.cons_append, spGet, h, if_false, ih]
      by_cases h2 : ∃ c ∈ r, c.1 = a
      · obtain ⟨c, hc, e⟩ := h2
        rw [if_pos ⟨c, hc, e⟩, if_pos ⟨c, List.mem_cons_of_mem _ hc, e⟩]
      · rw [if_neg h2, if_neg]
        rintro ⟨c, hc, e⟩
        rcases List.mem_cons.1 hc with rfl | hc
        · exact h e
        · exact h2 ⟨c, hc, e⟩

theorem spGet_filter {d : Byte} (m : Mem) (p : Nat → Bool) (a : Nat) (h : p a = true) :
    spGet d (m.filter fun c => p c.1) a = spGet d m a := by
  induction m with
  | nil => rfl
  | cons c r ih =>
    obtain ⟨k, v⟩ := c
    by_cases hk : k = a
    · subst hk; simp [h, spGet]
    · by_cases hp : p k = true
      · simp [hp, spGet, hk, ih]
      · simp [hp, spGet, hk, ih]

theorem spGet_memCells (d : Byte) (a : Nat) (bs : List Byte) (i : Nat) (hi : i < bs.length) :
    spGet d (memCells d a bs) (a + i) = bs.getD i 0 := by
  induction bs generalizing a i with
  | nil => simp at hi
  | cons b r ih =>
    cases i with
    | zero =>
      simp only [memCells, Nat.add_zero, List.getD_cons_zero]
      split
      · rename_i h
        rw [spGet_of_not_mem]
        · exact h.symm
        · intro c hc; have := (memCells_range d (a + 1) r c hc).1; omega
      · simp [spGet]
    | succ i =>
      have h := ih (a + 1) i (by simpa using hi)
      rw [show a + 1 + i = a + (i + 1) by omega] at h
      simp only [memCells, List.getD_cons_succ]
      split
      · exact h
      · rw [spGet, if_neg (by omega)]; exact h

/-- A written byte reads back (the canonical form is not needed). -/
theorem memByte_write_in (d : Byte) (m : Mem) (a : Nat) (bs : List Byte) (i : Nat) (hi : i < bs.length) :
    memByte d (memWrite d m a bs) (a + i) = bs.getD i 0 := by
  unfold memByte memWrite
  have below : ∀ x ∈ m.filter (fun c => decide (c.1 < a)), x.1 ≠ a + i := by
    intro x hx; have := List.of_mem_filter hx; simp at this; omega
  have above : ∀ x ∈ m.filter (fun c => decide (a + bs.length ≤ c.1)), x.1 ≠ a + i := by
    intro x hx; have := List.of_mem_filter hx; simp at this; omega
  rw [List.append_assoc, spGet_append, if_neg (by rintro ⟨c, hc, e⟩; exact below c hc e), spGet_append]
  split
  · exact spGet_memCells d a bs i hi
  · rename_i h
    rw [spGet_of_not_mem above, ← spGet_memCells d a bs i hi]
    exact (spGet_of_not_mem fun c hc e => h ⟨c, hc, e⟩).symm

/-- A write leaves every other byte alone. -/
theorem memByte_write_out (d : Byte) (m : Mem) (a : Nat) (bs : List Byte) (x : Nat) (hx : x < a ∨ a + bs.length ≤ x) :
    memByte d (memWrite d m a bs) x = memByte d m x := by
  unfold memByte memWrite
  have cells : ∀ c ∈ memCells d a bs, c.1 ≠ x := by
    intro c hc; have := memCells_range d a bs c hc; omega
  rcases hx with hx | hx
  · have above : ∀ c ∈ m.filter (fun c => decide (a + bs.length ≤ c.1)), c.1 ≠ x := by
      intro c hc; have := List.of_mem_filter hc; simp at this; omega
    rw [List.append_assoc, spGet_append]
    have e := spGet_filter (d := d) m (fun k => decide (k < a)) x (by simpa using hx)
    split
    · exact e
    · rename_i h
      rw [spGet_append, if_neg (by rintro ⟨c, hc, e⟩; exact cells c hc e), spGet_of_not_mem above, ← e]
      exact (spGet_of_not_mem fun c hc e => h ⟨c, hc, e⟩).symm
  · have below : ∀ c ∈ m.filter (fun c => decide (c.1 < a)), c.1 ≠ x := by
      intro c hc; have := List.of_mem_filter hc; simp at this; omega
    rw [List.append_assoc, spGet_append, if_neg (by rintro ⟨c, hc, e⟩; exact below c hc e), spGet_append,
      if_neg (by rintro ⟨c, hc, e⟩; exact cells c hc e)]
    exact spGet_filter (d := d) m (fun k => decide (a + bs.length ≤ k)) x (by simpa using hx)

end Sys2Proof.Machine
end

