-- ==== Sys2Proof/Laws/Untouched.lean ====
section
/-! SUPPORT. The operations that leave every byte memory of the device alone: one lemma each. -/

set_option linter.unusedSimpArgs false
set_option linter.unusedVariables false
set_option linter.unreachableTactic false
set_option linter.unusedTactic false
set_option linter.unnecessarySeqFocus false

namespace Sys2Proof.Machine

/-- The byte memories of the device. -/
def mems (s : State) : Mem × Mem × Mem × Mem := (s.jgl.mem, s.spm.mem, s.fw.flash, s.fw.inline_)

@[simp] theorem mems_eta (s : State) : (s.jgl.mem, s.spm.mem, s.fw.flash, s.fw.inline_) = mems s := by
  simp only [mems]

@[simp] theorem mems_mk (x_rm : Rm) (x_mram : Mram) (x_hq : Hq) (x_scene : Scene) (x_hom : Hom) (x_clr : Clr) (x_crsl : Crsl) (x_scn : Scn) (x_px : Px) (x_pwr : Pwr) (x_jgl : Jgl) (x_spm : Spm) (x_ctn : Ctn) (x_shw : Shw) (x_trz : Trz) (x_clp : Clp) (x_brk : Brk) (x_log : Log) (x_th : Th) (x_trn : Trn) (x_fw : Fw) (x_cal : Cal) (x_units : Sparse UnitEntry) (x_genBase : W16) (x_unitReqs : List UnitReq) (x_unitSets : List (Hdr × Nat × Nat × Bool)) (x_out : List Out) (x_free : Nat) (x_pending : List Instr) :
    mems ⟨x_rm, x_mram, x_hq, x_scene, x_hom, x_clr, x_crsl, x_scn, x_px, x_pwr, x_jgl, x_spm, x_ctn, x_shw, x_trz, x_clp, x_brk, x_log, x_th, x_trn, x_fw, x_cal, x_units, x_genBase, x_unitReqs, x_unitSets, x_out, x_free, x_pending⟩ = (x_jgl.mem, x_spm.mem, x_fw.flash, x_fw.inline_) := by
  simp only [mems]

theorem mems_ite (c : Prop) [Decidable c] (a b : State) : mems (if c then a else b) = if c then mems a else mems b := by
  split <;> rfl

@[simp] theorem mems_foldl {α : Type} (g : State → α → State) (l : List α) (s : State) (h : ∀ s a, mems (g s a) = mems s) :
    mems (l.foldl g s) = mems s := by
  induction l generalizing s with
  | nil => rfl
  | cons a l ih => rw [List.foldl_cons, ih, h]
theorem mems_getD (o : Option State) (s : State) (h : ∀ x, o = some x → mems x = mems s) : mems (o.getD s) = mems s := by
  cases o with
  | none => rfl
  | some x => exact h x rfl

@[simp] theorem eachNat_mems (f : Nat → State → State) (l : List Nat) (s : State) (h : ∀ n s, mems (f n s) = mems s) :
    mems (eachNat f l s) = mems s := by
  induction l generalizing s with
  | nil => rfl
  | cons a l ih => rw [eachNat, ih, h]

@[simp] theorem ownerOnly_mems (b : Bool) (o p : Port) (f : State → State) (s : State) (h : mems (f s) = mems s) :
    mems (ownerOnly b o p f s) = mems s := by
  unfold ownerOnly hqErr; split
  · rfl
  · exact h

@[simp] theorem emit_mems (o : Out) (s : State) : mems (emit o s) = mems s := by
  unfold emit; simp [mems_ite, mems_foldl, mems_getD, eachNat_mems]

@[simp] theorem drawFree_mems (s : State) : mems ((drawFree s).2) = mems s := by
  unfold drawFree; simp [mems_ite, mems_foldl, mems_getD, eachNat_mems]

theorem drawFree_mems_pair (s : State) {a_ : W64} {t_ : State} (h_ : drawFree s = (a_, t_)) : mems t_ = mems s := by
  have e_ := drawFree_mems  s
  rw [h_] at e_; exact e_

@[simp] theorem modPort_mems (p : Port) (f : HostPort → HostPort) (s : State) : mems (modPort p f s) = mems s := by
  unfold modPort; dsimp only; (repeat' split) <;> (try simp_all [mems_ite, mems_foldl, mems_getD, eachNat_mems]) <;> (try rfl)

@[simp] theorem msixSend_mems (p : Port) (v : Nat) (s : State) : mems (msixSend p v s) = mems s := by
  unfold msixSend; simp [mems_ite, mems_foldl, mems_getD, eachNat_mems]

@[simp] theorem pmeOwed_mems (p : Port) (s : State) : mems (pmeOwed p s) = mems s := by
  unfold pmeOwed; simp [mems_ite, mems_foldl, mems_getD, eachNat_mems]

@[simp] theorem modSrc_mems (n : Nat) (f : Source → Source) (s : State) : mems (modSrc n f s) = mems s := by
  unfold modSrc; simp [mems_ite, mems_foldl, mems_getD, eachNat_mems]

@[simp] theorem brkSend_mems (n : Nat) (s : State) : mems (brkSend n s) = mems s := by
  unfold brkSend; dsimp only; (repeat' split) <;> (try simp_all [mems_ite, mems_foldl, mems_getD, eachNat_mems]) <;> (try rfl)

@[simp] theorem brkToHost_mems (n : Nat) (s : State) : mems (brkToHost n s) = mems s := by
  unfold brkToHost; simp [mems_ite, mems_foldl, mems_getD, eachNat_mems]

@[simp] theorem brkEvent_mems (n : Nat) (s : State) : mems (brkEvent n s) = mems s := by
  unfold brkEvent; simp [mems_ite, mems_foldl, mems_getD, eachNat_mems]

@[simp] theorem brkLevel_mems (n : Nat) (v : Bool) (s : State) : mems (brkLevel n v s) = mems s := by
  unfold brkLevel; simp [mems_ite, mems_foldl, mems_getD, eachNat_mems]

@[simp] theorem logDrop_mems (full : Bool) (s : State) : mems (logDrop full s) = mems s := by
  unfold logDrop; simp [mems_ite, mems_foldl, mems_getD, eachNat_mems]

@[simp] theorem logFrom_mems (core : Nat) (name : LogName) (args : List Nat) (s : State) : mems (logFrom core name args s) = mems s := by
  unfold logFrom; simp [mems_ite, mems_foldl, mems_getD, eachNat_mems]

@[simp] theorem log_mems (name : LogName) (args : List Nat) (s : State) : mems (log name args s) = mems s := by
  unfold log; simp [mems_ite, mems_foldl, mems_getD, eachNat_mems]

@[simp] theorem logLevel_mems (s : State) : mems (logLevel s) = mems s := by
  unfold logLevel; simp [mems_ite, mems_foldl, mems_getD, eachNat_mems]

@[simp] theorem logDrain1_mems (s : State) : mems (logDrain1 s) = mems s := by
  unfold logDrain1; dsimp only; (repeat' split) <;> (try simp_all [mems_ite, mems_foldl, mems_getD, eachNat_mems]) <;> (try rfl)

@[simp] theorem logDrainN_mems  (z0 : Nat) (s : State) : mems (logDrainN z0 s) = mems s := by
  fun_induction logDrainN z0 s <;> simp_all [mems_ite, mems_foldl, mems_getD, eachNat_mems]

@[simp] theorem logDrain_mems (s : State) : mems (logDrain s) = mems s := by
  unfold logDrain; simp [mems_ite, mems_foldl, mems_getD, eachNat_mems]

@[simp] theorem modUnit_mems (cls idx : Nat) (f : UnitEntry → UnitEntry) (s : State) : mems (modUnit cls idx f s) = mems s := by
  unfold modUnit; simp [mems_ite, mems_foldl, mems_getD, eachNat_mems]

@[simp] theorem unitTo_mems (cls idx : Nat) (st : UState) (cause : Nat) (s : State) : mems (unitTo cls idx st cause s) = mems s := by
  unfold unitTo; simp [mems_ite, mems_foldl, mems_getD, eachNat_mems]

@[simp] theorem unitReq_mems (cls idx : Nat) (lasting : Bool) (s : State) : mems (unitReq cls idx lasting s) = mems s := by
  unfold unitReq; simp [mems_ite, mems_foldl, mems_getD, eachNat_mems]

@[simp] theorem unitTransient_mems (cls idx : Nat) (s : State) : mems (unitTransient cls idx s) = mems s := by
  unfold unitTransient; simp [mems_ite, mems_foldl, mems_getD, eachNat_mems]

@[simp] theorem unitLasting_mems (cls idx : Nat) (s : State) : mems (unitLasting cls idx s) = mems s := by
  unfold unitLasting; simp [mems_ite, mems_foldl, mems_getD, eachNat_mems]

@[simp] theorem unitReqsLeft_mems (cls idx : Nat) (rest : List UnitReq) (s : State) : mems (unitReqsLeft cls idx rest s) = mems s := by
  unfold unitReqsLeft; simp [mems_ite, mems_foldl, mems_getD, eachNat_mems]

@[simp] theorem unitReqPop_mems (r : UnitReq) (s : State) : mems (unitReqPop r s) = mems s := by
  unfold unitReqPop; simp [mems_ite, mems_foldl, mems_getD, eachNat_mems]

@[simp] theorem trnSet_mems (target entry : Nat) (e : TrnEntry) (s : State) : mems (trnSet target entry e s) = mems s := by
  unfold trnSet; simp [mems_ite, mems_foldl, mems_getD, eachNat_mems]

@[simp] theorem trnNote_mems (target m : Nat) (p : Perm) (addr : Nat) (entry : Option Nat) (fence : Bool) (s : State) : mems (trnNote target m p addr entry fence s) = mems s := by
  unfold trnNote; simp [mems_ite, mems_foldl, mems_getD, eachNat_mems]

@[simp] theorem trnAccess_mems (target m : Nat) (p : Perm) (addr len : Nat) (s : State) : mems ((trnAccess target m p addr len s).2) = mems s := by
  fun_cases trnAccess target m p addr len s <;> simp_all [mems_ite, mems_foldl, mems_getD, eachNat_mems]

theorem trnAccess_mems_pair (target m : Nat) (p : Perm) (addr len : Nat) (s : State) {a_ : Option Status} {t_ : State} (h_ : trnAccess target m p addr len s = (a_, t_)) : mems t_ = mems s := by
  have e_ := trnAccess_mems  target m p addr len s
  rw [h_] at e_; exact e_

@[simp] theorem modMesh_mems (p : Nat) (f : MeshPort → MeshPort) (s : State) : mems (modMesh p f s) = mems s := by
  unfold modMesh; simp [mems_ite, mems_foldl, mems_getD, eachNat_mems]

@[simp] theorem trzErr_mems (i : Nat) (s : State) : mems (trzErr i s) = mems s := by
  unfold trzErr; simp [mems_ite, mems_foldl, mems_getD, eachNat_mems]

@[simp] theorem meshStream_mems (p : Nat) (bytes : List Byte) (s : State) : mems ((meshStream p bytes s).2) = mems s := by
  unfold meshStream; simp [mems_ite, mems_foldl, mems_getD, eachNat_mems]

theorem meshStream_mems_pair (p : Nat) (bytes : List Byte) (s : State) {a_ : List (List (BitVec 130))} {t_ : State} (h_ : meshStream p bytes s = (a_, t_)) : mems t_ = mems s := by
  have e_ := meshStream_mems  p bytes s
  rw [h_] at e_; exact e_

@[simp] theorem meshDepart_mems (p : Nat) (f : MeshFrame) (s : State) : mems (meshDepart p f s) = mems s := by
  unfold meshDepart; simp [mems_ite, mems_foldl, mems_getD, eachNat_mems]

@[simp] theorem meshTx_mems (p : Nat) (f : MeshFrame) (s : State) : mems (meshTx p f s) = mems s := by
  unfold meshTx; simp [mems_ite, mems_foldl, mems_getD, eachNat_mems]

@[simp] theorem meshPumpN_mems (p : Nat) (z0 : Nat) (s : State) : mems (meshPumpN p z0 s) = mems s := by
  fun_induction meshPumpN p z0 s <;> simp_all [mems_ite, mems_foldl, mems_getD, eachNat_mems]

@[simp] theorem meshPump_mems (p : Nat) (s : State) : mems (meshPump p s) = mems s := by
  unfold meshPump; simp [mems_ite, mems_foldl, mems_getD, eachNat_mems]

@[simp] theorem meshQueue_mems (p : Nat) (f : MeshFrame) (s : State) : mems (meshQueue p f s) = mems s := by
  unfold meshQueue; simp [mems_ite, mems_foldl, mems_getD, eachNat_mems]

@[simp] theorem meshSendTimed_mems (p cls kind : Nat) (time : MeshTime) (words : List Nat) (bytes : List Byte) (s : State) : mems (meshSendTimed p cls kind time words bytes s) = mems s := by
  unfold meshSendTimed; simp [mems_ite, mems_foldl, mems_getD, eachNat_mems]

@[simp] theorem meshSendFrame_mems (p cls kind : Nat) (words : List Nat) (bytes : List Byte) (s : State) : mems (meshSendFrame p cls kind words bytes s) = mems s := by
  unfold meshSendFrame; simp [mems_ite, mems_foldl, mems_getD, eachNat_mems]

@[simp] theorem meshRoute_mems (dst cls kind : Nat) (words : List Nat) (bytes : List Byte) (s : State) : mems (meshRoute dst cls kind words bytes s) = mems s := by
  unfold meshRoute; simp [mems_ite, mems_foldl, mems_getD, eachNat_mems]

@[simp] theorem hqErr_mems (i : Nat) (s : State) : mems (hqErr i s) = mems s := by
  unfold hqErr; simp [mems_ite, mems_foldl, mems_getD, eachNat_mems]

@[simp] theorem modSq_mems (q : Nat) (f : Sq → Sq) (s : State) : mems (modSq q f s) = mems s := by
  unfold modSq; simp [mems_ite, mems_foldl, mems_getD, eachNat_mems]

@[simp] theorem modCq_mems (q : Nat) (f : Cq → Cq) (s : State) : mems (modCq q f s) = mems s := by
  unfold modCq; simp [mems_ite, mems_foldl, mems_getD, eachNat_mems]

@[simp] theorem clearHint_mems (p : Port) (v : Nat) (s : State) : mems (clearHint p v s) = mems s := by
  unfold clearHint; simp [mems_ite, mems_foldl, mems_getD, eachNat_mems]

@[simp] theorem cqSend_mems (q : Nat) (s : State) : mems (cqSend q s) = mems s := by
  unfold cqSend; simp [mems_ite, mems_foldl, mems_getD, eachNat_mems]

@[simp] theorem cqSignal_mems (q : Nat) (s : State) : mems (cqSignal q s) = mems s := by
  unfold cqSignal; simp [mems_ite, mems_foldl, mems_getD, eachNat_mems]

@[simp] theorem cqDrop_mems (q : Nat) (e : Cpl) (s : State) : mems (cqDrop q e s) = mems s := by
  unfold cqDrop; simp [mems_ite, mems_foldl, mems_getD, eachNat_mems]

@[simp] theorem cqOverflow_mems (q : Nat) (e : Cpl) (s : State) : mems (cqOverflow q e s) = mems s := by
  unfold cqOverflow; simp [mems_ite, mems_foldl, mems_getD, eachNat_mems]

@[simp] theorem cqWrite_mems (q : Nat) (e : Cpl) (s : State) : mems (cqWrite q e s) = mems s := by
  unfold cqWrite; simp [mems_ite, mems_foldl, mems_getD, eachNat_mems]

@[simp] theorem cqHold_mems (q : Nat) (e : Cpl) (s : State) : mems (cqHold q e s) = mems s := by
  unfold cqHold; simp [mems_ite, mems_foldl, mems_getD, eachNat_mems]

@[simp] theorem cqDeliver_mems (q : Nat) (e : Cpl) (s : State) : mems (cqDeliver q e s) = mems s := by
  unfold cqDeliver; dsimp only; (repeat' split) <;> (try simp_all [mems_ite, mems_foldl, mems_getD, eachNat_mems]) <;> (try rfl)

@[simp] theorem cqWriteAll_mems (q : Nat) (z0 : List Cpl) (s : State) : mems (cqWriteAll q z0 s) = mems s := by
  fun_induction cqWriteAll q z0 s <;> simp_all [mems_ite, mems_foldl, mems_getD, eachNat_mems]

@[simp] theorem cqRelease_mems (q : Nat) (s : State) : mems (cqRelease q s) = mems s := by
  unfold cqRelease; simp [mems_ite, mems_foldl, mems_getD, eachNat_mems]

@[simp] theorem deliver_mems (h : Hdr) (e : Cpl) (records : List Byte) (s : State) : mems (deliver h e records s) = mems s := by
  unfold deliver; dsimp only; (repeat' split) <;> (try simp_all [mems_ite, mems_foldl, mems_getD, eachNat_mems]) <;> (try rfl)

@[simp] theorem unflight_mems (h : Hdr) (s : State) : mems (unflight h s) = mems s := by
  unfold unflight; simp [mems_ite, mems_foldl, mems_getD, eachNat_mems]

@[simp] theorem completeWith_mems (op : Byte) (h : Hdr) (st : Status) (detail : W64) (records : List Byte) (s : State) : mems (completeWith op h st detail records s) = mems s := by
  unfold completeWith; simp [mems_ite, mems_foldl, mems_getD, eachNat_mems]

@[simp] theorem complete_mems (op : Byte) (h : Hdr) (st : Status) (detail : W64) (s : State) : mems (complete op h st detail s) = mems s := by
  unfold complete; simp [mems_ite, mems_foldl, mems_getD, eachNat_mems]

@[simp] theorem refuse_mems (op : Byte) (h : Hdr) (st : Status) (detail : W64) (s : State) : mems (refuse op h st detail s) = mems s := by
  unfold refuse; simp [mems_ite, mems_foldl, mems_getD, eachNat_mems]

@[simp] theorem accepted_mems (op : Byte) (h : Hdr) (s : State) : mems (accepted op h s) = mems s := by
  unfold accepted; simp [mems_ite, mems_foldl, mems_getD, eachNat_mems]

@[simp] theorem toFlight_mems (op : Byte) (h : Hdr) (s : State) : mems (toFlight op h s) = mems s := by
  unfold toFlight; simp [mems_ite, mems_foldl, mems_getD, eachNat_mems]

@[simp] theorem sqEnableNow_mems (p : Port) (q : Nat) (s : State) : mems (sqEnableNow p q s) = mems s := by
  unfold sqEnableNow; simp [mems_ite, mems_foldl, mems_getD, eachNat_mems]

@[simp] theorem sqEnableOwn_mems (p : Port) (q : Nat) (s : State) : mems (sqEnableOwn p q s) = mems s := by
  unfold sqEnableOwn; simp [mems_ite, mems_foldl, mems_getD, eachNat_mems]

@[simp] theorem sqEnable_mems (p : Port) (q : Nat) (s : State) : mems (sqEnable p q s) = mems s := by
  unfold sqEnable; simp [mems_ite, mems_foldl, mems_getD, eachNat_mems]

@[simp] theorem sqDisable_mems (p : Port) (q : Nat) (s : State) : mems (sqDisable p q s) = mems s := by
  unfold sqDisable; simp [mems_ite, mems_foldl, mems_getD, eachNat_mems]

@[simp] theorem sqDrained_mems (q : Nat) (s : State) : mems (sqDrained q s) = mems s := by
  unfold sqDrained; simp [mems_ite, mems_foldl, mems_getD, eachNat_mems]

@[simp] theorem sqReset_mems (p : Port) (q : Nat) (s : State) : mems (sqReset p q s) = mems s := by
  unfold sqReset; simp [mems_ite, mems_foldl, mems_getD, eachNat_mems]

@[simp] theorem sqAdopt_mems (p : Port) (q : Nat) (s : State) : mems (sqAdopt p q s) = mems s := by
  unfold sqAdopt; simp [mems_ite, mems_foldl, mems_getD, eachNat_mems]

@[simp] theorem sqDoorbellNow_mems (p : Port) (q v : Nat) (s : State) : mems (sqDoorbellNow p q v s) = mems s := by
  unfold sqDoorbellNow; simp [mems_ite, mems_foldl, mems_getD, eachNat_mems]

@[simp] theorem sqDoorbell_mems (p : Port) (q v : Nat) (s : State) : mems (sqDoorbell p q v s) = mems s := by
  unfold sqDoorbell; simp [mems_ite, mems_foldl, mems_getD, eachNat_mems]

@[simp] theorem cqEnableNow_mems (p : Port) (q : Nat) (s : State) : mems (cqEnableNow p q s) = mems s := by
  unfold cqEnableNow; simp [mems_ite, mems_foldl, mems_getD, eachNat_mems]

@[simp] theorem cqEnableOwn_mems (p : Port) (q : Nat) (s : State) : mems (cqEnableOwn p q s) = mems s := by
  unfold cqEnableOwn; simp [mems_ite, mems_foldl, mems_getD, eachNat_mems]

@[simp] theorem cqEnable_mems (p : Port) (q : Nat) (s : State) : mems (cqEnable p q s) = mems s := by
  unfold cqEnable; simp [mems_ite, mems_foldl, mems_getD, eachNat_mems]

@[simp] theorem cqDisable_mems (p : Port) (q : Nat) (s : State) : mems (cqDisable p q s) = mems s := by
  unfold cqDisable; simp [mems_ite, mems_foldl, mems_getD, eachNat_mems]

@[simp] theorem cqReset_mems (p : Port) (q : Nat) (s : State) : mems (cqReset p q s) = mems s := by
  unfold cqReset; simp [mems_ite, mems_foldl, mems_getD, eachNat_mems]

@[simp] theorem cqAdopt_mems (p : Port) (q : Nat) (s : State) : mems (cqAdopt p q s) = mems s := by
  unfold cqAdopt; simp [mems_ite, mems_foldl, mems_getD, eachNat_mems]

@[simp] theorem cqDoorbellNow_mems (p : Port) (q v : Nat) (s : State) : mems (cqDoorbellNow p q v s) = mems s := by
  unfold cqDoorbellNow; simp [mems_ite, mems_foldl, mems_getD, eachNat_mems]

@[simp] theorem cqDoorbell_mems (p : Port) (q v : Nat) (s : State) : mems (cqDoorbell p q v s) = mems s := by
  unfold cqDoorbell; simp [mems_ite, mems_foldl, mems_getD, eachNat_mems]

@[simp] theorem cqTimer_mems (q : Nat) (s : State) : mems (cqTimer q s) = mems s := by
  unfold cqTimer; simp [mems_ite, mems_foldl, mems_getD, eachNat_mems]

@[simp] theorem applyEarly_mems  (z0 : List Early) (s : State) : mems (applyEarly z0 s) = mems s := by
  fun_induction applyEarly z0 s <;> simp_all [mems_ite, mems_foldl, mems_getD, eachNat_mems]

@[simp] theorem mapSqs_mems (p : Port) (f : Sq → Sq) (s : State) : mems (mapSqs p f s) = mems s := by
  unfold mapSqs; simp [mems_ite, mems_foldl, mems_getD, eachNat_mems]

@[simp] theorem mapCqs_mems (p : Port) (f : Cq → Cq) (s : State) : mems (mapCqs p f s) = mems s := by
  unfold mapCqs; simp [mems_ite, mems_foldl, mems_getD, eachNat_mems]

@[simp] theorem discardFlight_mems (p : Port) (s : State) : mems (discardFlight p s) = mems s := by
  unfold discardFlight; simp [mems_ite, mems_foldl, mems_getD, eachNat_mems]

@[simp] theorem disableQueues_mems (p : Port) (s : State) : mems (disableQueues p s) = mems s := by
  unfold disableQueues; simp [mems_ite, mems_foldl, mems_getD, eachNat_mems]

@[simp] theorem perst_mems (p : Port) (s : State) : mems (perst p s) = mems s := by
  unfold perst; simp [mems_ite, mems_foldl, mems_getD, eachNat_mems]

@[simp] theorem flr_mems (p : Port) (s : State) : mems (flr p s) = mems s := by
  unfold flr; simp [mems_ite, mems_foldl, mems_getD, eachNat_mems]

@[simp] theorem linkDown_mems (p : Port) (s : State) : mems (linkDown p s) = mems s := by
  unfold linkDown; simp [mems_ite, mems_foldl, mems_getD, eachNat_mems]

@[simp] theorem brkRelease_mems (p : Port) (s : State) : mems (brkRelease p s) = mems s := by
  unfold brkRelease; simp [mems_ite, mems_foldl, mems_getD, eachNat_mems]

@[simp] theorem portRelease_mems (p : Port) (asleep : Bool) (s : State) : mems (portRelease p asleep s) = mems s := by
  unfold portRelease; simp [mems_ite, mems_foldl, mems_getD, eachNat_mems]

@[simp] theorem linkReturn_mems (p : Port) (s : State) : mems (linkReturn p s) = mems s := by
  unfold linkReturn; simp [mems_ite, mems_foldl, mems_getD, eachNat_mems]

@[simp] theorem failoverExpire_mems (p : Port) (s : State) : mems (failoverExpire p s) = mems s := by
  unfold failoverExpire; simp [mems_ite, mems_foldl, mems_getD, eachNat_mems]

@[simp] theorem d3hot_mems (p : Port) (pme : Bool) (s : State) : mems (d3hot p pme s) = mems s := by
  unfold d3hot; simp [mems_ite, mems_foldl, mems_getD, eachNat_mems]

@[simp] theorem d0Return_mems (p : Port) (s : State) : mems (d0Return p s) = mems s := by
  unfold d0Return; simp [mems_ite, mems_foldl, mems_getD, eachNat_mems]

@[simp] theorem takeBack_mems (p : Port) (s : State) : mems (takeBack p s) = mems s := by
  unfold takeBack; simp [mems_ite, mems_foldl, mems_getD, eachNat_mems]

@[simp] theorem linkUp_mems (p : Port) (speed width : Nat) (s : State) : mems (linkUp p speed width s) = mems s := by
  unfold linkUp; simp [mems_ite, mems_foldl, mems_getD, eachNat_mems]

@[simp] theorem modCore_mems (n : Nat) (f : Core → Core) (s : State) : mems (modCore n f s) = mems s := by
  unfold modCore; simp [mems_ite, mems_foldl, mems_getD, eachNat_mems]

@[simp] theorem brkErr_mems (i : Nat) (s : State) : mems (brkErr i s) = mems s := by
  unfold brkErr; simp [mems_ite, mems_foldl, mems_getD, eachNat_mems]

@[simp] theorem modSettle_mems (n : Nat) (s : State) : mems (modSettle n s) = mems s := by
  unfold modSettle; simp [mems_ite, mems_foldl, mems_getD, eachNat_mems]

@[simp] theorem ringEmptied_mems (src : Nat) (s : State) : mems (ringEmptied src s) = mems s := by
  unfold ringEmptied; simp [mems_ite, mems_foldl, mems_getD, eachNat_mems]

@[simp] theorem brkClaim_mems (n : Nat) (s : State) : mems (brkClaim n s) = mems s := by
  fun_cases brkClaim n s <;> simp_all [mems_ite, mems_foldl, mems_getD, eachNat_mems]

@[simp] theorem brkComplete_mems (n k : Nat) (s : State) : mems (brkComplete n k s) = mems s := by
  fun_cases brkComplete n k s <;> simp_all [mems_ite, mems_foldl, mems_getD, eachNat_mems]

@[simp] theorem brkInput_mems (n : Nat) (v : Bool) (s : State) : mems (brkInput n v s) = mems s := by
  unfold brkInput; simp [mems_ite, mems_foldl, mems_getD, eachNat_mems]

@[simp] theorem brkRearm_mems (n : Nat) (s : State) : mems (brkRearm n s) = mems s := by
  unfold brkRearm; simp [mems_ite, mems_foldl, mems_getD, eachNat_mems]

@[simp] theorem srcCtrlWrite_mems (n : Nat) (v : W32) (s : State) : mems (srcCtrlWrite n v s) = mems s := by
  unfold srcCtrlWrite; simp [mems_ite, mems_foldl, mems_getD, eachNat_mems]

@[simp] theorem srcRouteWrite_mems (n : Nat) (v : W32) (s : State) : mems (srcRouteWrite n v s) = mems s := by
  unfold srcRouteWrite; simp [mems_ite, mems_foldl, mems_getD, eachNat_mems]

@[simp] theorem hostPendClear_mems (n : Nat) (s : State) : mems (hostPendClear n s) = mems s := by
  unfold hostPendClear; simp [mems_ite, mems_foldl, mems_getD, eachNat_mems]

@[simp] theorem modTimer_mems (n : Nat) (s : State) : mems (modTimer n s) = mems s := by
  unfold modTimer; simp [mems_ite, mems_foldl, mems_getD, eachNat_mems]

@[simp] theorem coreReset_mems (n : Nat) (s : State) : mems (coreReset n s) = mems s := by
  unfold coreReset; simp [mems_ite, mems_foldl, mems_getD, eachNat_mems]

@[simp] theorem jglErr_mems (i : Nat) (s : State) : mems (jglErr i s) = mems s := by
  unfold jglErr; simp [mems_ite, mems_foldl, mems_getD, eachNat_mems]

@[simp] theorem modChan_mems (c : Nat) (f : Chan → Chan) (s : State) : mems (modChan c f s) = mems s := by
  unfold modChan; simp [mems_ite, mems_foldl, mems_getD, eachNat_mems]

@[simp] theorem dramRange_mems (port addr : Nat) (s : State) : mems (dramRange port addr s) = mems s := by
  unfold dramRange; simp [mems_ite, mems_foldl, mems_getD, eachNat_mems]

@[simp] theorem dramNote_mems (port addr len : Nat) (s : State) : mems (dramNote port addr len s) = mems s := by
  unfold dramNote; simp [mems_ite, mems_foldl, mems_getD, eachNat_mems]

@[simp] theorem ceLimit_mems (c : Nat) (s : State) : mems (ceLimit c s) = mems s := by
  unfold ceLimit; simp [mems_ite, mems_foldl, mems_getD, eachNat_mems]

@[simp] theorem dramCorrected_mems (addr : Nat) (s : State) : mems (dramCorrected addr s) = mems s := by
  unfold dramCorrected; simp [mems_ite, mems_foldl, mems_getD, eachNat_mems]

@[simp] theorem dramTransient_mems (addr : Nat) (s : State) : mems (dramTransient addr s) = mems s := by
  unfold dramTransient; simp [mems_ite, mems_foldl, mems_getD, eachNat_mems]

@[simp] theorem dramLasting_mems (port addr : Nat) (s : State) : mems (dramLasting port addr s) = mems s := by
  unfold dramLasting; simp [mems_ite, mems_foldl, mems_getD, eachNat_mems]

@[simp] theorem dramBus_mems (port addr : Nat) (s : State) : mems (dramBus port addr s) = mems s := by
  unfold dramBus; simp [mems_ite, mems_foldl, mems_getD, eachNat_mems]

@[simp] theorem lineEcc_mems (port addr : Nat) (ecc : Ecc) (s : State) : mems (lineEcc port addr ecc s) = mems s := by
  fun_cases lineEcc port addr ecc s <;> simp_all [mems_ite, mems_foldl, mems_getD, eachNat_mems]

@[simp] theorem eccRun_mems (port : Nat) (z0 : Nat) (z1 : List Ecc) (s : State) : mems (eccRun port z0 z1 s) = mems s := by
  fun_induction eccRun port z0 z1 s <;> simp_all [mems_ite, mems_foldl, mems_getD, eachNat_mems]

@[simp] theorem dramRead_mems (port addr len : Nat) (eccs : List Ecc) (s : State) : mems ((dramRead port addr len eccs s).2) = mems s := by
  unfold dramRead; dsimp only; (repeat' split) <;> (try simp_all [mems_ite, mems_foldl, mems_getD, eachNat_mems]) <;> (try rfl)

theorem dramRead_mems_pair (port addr len : Nat) (eccs : List Ecc) (s : State) {a_ : MemRes} {t_ : State} (h_ : dramRead port addr len eccs s = (a_, t_)) : mems t_ = mems s := by
  have e_ := dramRead_mems  port addr len eccs s
  rw [h_] at e_; exact e_

@[simp] theorem dramPoison_mems (lines : List Nat) (s : State) : mems (dramPoison lines s) = mems s := by
  unfold dramPoison; simp [mems_ite, mems_foldl, mems_getD, eachNat_mems]

@[simp] theorem spmErr_mems (i : Nat) (s : State) : mems (spmErr i s) = mems s := by
  unfold spmErr; simp [mems_ite, mems_foldl, mems_getD, eachNat_mems]

@[simp] theorem modBank_mems (b : Nat) (f : Bank → Bank) (s : State) : mems (modBank b f s) = mems s := by
  unfold modBank; simp [mems_ite, mems_foldl, mems_getD, eachNat_mems]

@[simp] theorem bankOffAccess_mems (b : Nat) (s : State) : mems (bankOffAccess b s) = mems s := by
  unfold bankOffAccess; simp [mems_ite, mems_foldl, mems_getD, eachNat_mems]

@[simp] theorem bankWake_mems (b : Nat) (s : State) : mems (bankWake b s) = mems s := by
  unfold bankWake; simp [mems_ite, mems_foldl, mems_getD, eachNat_mems]

@[simp] theorem spmCeLimit_mems (b : Nat) (s : State) : mems (spmCeLimit b s) = mems s := by
  unfold spmCeLimit; simp [mems_ite, mems_foldl, mems_getD, eachNat_mems]

@[simp] theorem bankEcc_mems (b word : Nat) (ecc : Ecc) (s : State) : mems (bankEcc b word ecc s) = mems s := by
  unfold bankEcc; dsimp only; (repeat' split) <;> (try simp_all [mems_ite, mems_foldl, mems_getD, eachNat_mems]) <;> (try rfl)

@[simp] theorem wordRead_mems (ecc : Ecc) (a len : Nat) (s : State) : mems ((wordRead ecc a len s).2) = mems s := by
  unfold wordRead; dsimp only; (repeat' split) <;> (try simp_all [mems_ite, mems_foldl, mems_getD, eachNat_mems]) <;> (try rfl)

theorem wordRead_mems_pair (ecc : Ecc) (a len : Nat) (s : State) {a_ : (List Byte × Bool)} {t_ : State} (h_ : wordRead ecc a len s = (a_, t_)) : mems t_ = mems s := by
  have e_ := wordRead_mems  ecc a len s
  rw [h_] at e_; exact e_

@[simp] theorem spmReadN_mems  (z0 : Nat) (z1 : List Ecc) (z2 : Nat) (z3 : Nat) (s : State) : mems ((spmReadN z0 z1 z2 z3 s).2) = mems s := by
  fun_induction spmReadN z0 z1 z2 z3 s <;> (try dsimp only) <;> (repeat' (first
      | (simp [mems_ite, mems_foldl, mems_getD, eachNat_mems]; done)
      | split
      | (refine (mems_foldl _ _ _ ?_).trans ?_ <;> intros)
      | (refine (eachNat_mems _ _ _ ?_).trans ?_ <;> intros)
      | (simp [mems_ite, mems_foldl, mems_getD, eachNat_mems])
      | (grind [→ drawFree_mems_pair, → trnAccess_mems_pair, → meshStream_mems_pair, → dramRead_mems_pair, → wordRead_mems_pair])))

theorem spmReadN_mems_pair  (z0 : Nat) (z1 : List Ecc) (z2 : Nat) (z3 : Nat) (s : State) {a_ : (List Byte × Bool)} {t_ : State} (h_ : spmReadN z0 z1 z2 z3 s = (a_, t_)) : mems t_ = mems s := by
  have e_ := spmReadN_mems  z0 z1 z2 z3 s
  rw [h_] at e_; exact e_

@[simp] theorem spmRead_mems (ecc : List Ecc) (a len : Nat) (s : State) : mems ((spmRead ecc a len s).2) = mems s := by
  unfold spmRead; simp [mems_ite, mems_foldl, mems_getD, eachNat_mems]

theorem spmRead_mems_pair (ecc : List Ecc) (a len : Nat) (s : State) {a_ : (List Byte × Bool)} {t_ : State} (h_ : spmRead ecc a len s = (a_, t_)) : mems t_ = mems s := by
  have e_ := spmRead_mems  ecc a len s
  rw [h_] at e_; exact e_

@[simp] theorem wordsPoison_mems (words : List Nat) (s : State) : mems (wordsPoison words s) = mems s := by
  unfold wordsPoison; simp [mems_ite, mems_foldl, mems_getD, eachNat_mems]

@[simp] theorem spmPoison_mems (a n : Nat) (s : State) : mems (spmPoison a n s) = mems s := by
  unfold spmPoison; simp [mems_ite, mems_foldl, mems_getD, eachNat_mems]

@[simp] theorem spmBusy_mems (n : Nat) (s : State) : mems (spmBusy n s) = mems s := by
  unfold spmBusy; simp [mems_ite, mems_foldl, mems_getD, eachNat_mems]

@[simp] theorem crslErr_mems (i : Nat) (s : State) : mems (crslErr i s) = mems s := by
  unfold crslErr; simp [mems_ite, mems_foldl, mems_getD, eachNat_mems]

@[simp] theorem tableFail_mems (f : Nat × Nat) (s : State) : mems (tableFail f s) = mems s := by
  unfold tableFail; simp [mems_ite, mems_foldl, mems_getD, eachNat_mems]

@[simp] theorem modReq_mems (k : Nat) (f : RegionReq → RegionReq) (s : State) : mems (modReq k f s) = mems s := by
  unfold modReq; simp [mems_ite, mems_foldl, mems_getD, eachNat_mems]

@[simp] theorem reqFinished_mems (k : Nat) (s : State) : mems (reqFinished k s) = mems s := by
  unfold reqFinished; simp [mems_ite, mems_foldl, mems_getD, eachNat_mems]

@[simp] theorem reqReplaced_mems (k : Nat) (s : State) : mems (reqReplaced k s) = mems s := by
  unfold reqReplaced; simp [mems_ite, mems_foldl, mems_getD, eachNat_mems]

@[simp] theorem reqTimedOut_mems (k : Nat) (s : State) : mems (reqTimedOut k s) = mems s := by
  unfold reqTimedOut; simp [mems_ite, mems_foldl, mems_getD, eachNat_mems]

@[simp] theorem reqClose_mems (k : Nat) (s : State) : mems (reqClose k s) = mems s := by
  unfold reqClose; dsimp only; (repeat' split) <;> (try simp_all [mems_ite, mems_foldl, mems_getD, eachNat_mems]) <;> (try rfl)

@[simp] theorem reqCloseAll_mems (s : State) : mems (reqCloseAll s) = mems s := by
  unfold reqCloseAll; simp [mems_ite, mems_foldl, mems_getD, eachNat_mems]

@[simp] theorem deviceClear_mems (by_ : ReqBy) (preempt : Bool) (s : State) : mems (deviceClear by_ preempt s) = mems s := by
  unfold deviceClear; dsimp only; (repeat' split) <;> (try simp_all [mems_ite, mems_foldl, mems_getD, eachNat_mems]) <;> (try rfl)

@[simp] theorem evalBands_mems (s : State) : mems ((evalBands s).1) = mems s := by
  unfold evalBands; simp [mems_ite, mems_foldl, mems_getD, eachNat_mems]

@[simp] theorem commitBands_mems (s : State) : mems (commitBands s) = mems s := by
  unfold commitBands; simp [mems_ite, mems_foldl, mems_getD, eachNat_mems]

@[simp] theorem setRegion_mems (r : Nat) (x : Region) (s : State) : mems (setRegion r x s) = mems s := by
  unfold setRegion; simp [mems_ite, mems_foldl, mems_getD, eachNat_mems]

@[simp] theorem regionEnd_mems (r : Nat) (x : Region) (s : State) : mems (regionEnd r x s) = mems s := by
  unfold regionEnd; dsimp only; (repeat' split) <;> (try simp_all [mems_ite, mems_foldl, mems_getD, eachNat_mems]) <;> (try rfl)

@[simp] theorem advanceRegion_mems (r : Nat) (s : State) : mems (advanceRegion r s) = mems s := by
  unfold advanceRegion; simp [mems_ite, mems_foldl, mems_getD, eachNat_mems]

@[simp] theorem discardRegion_mems (r : Nat) (s : State) : mems (discardRegion r s) = mems s := by
  unfold discardRegion; simp [mems_ite, mems_foldl, mems_getD, eachNat_mems]

@[simp] theorem cutRegion_mems (r : Nat) (s : State) : mems (cutRegion r s) = mems s := by
  unfold cutRegion; simp [mems_ite, mems_foldl, mems_getD, eachNat_mems]

@[simp] theorem enqueueRegion_mems (k : Nat) (q : RegionReq) (r : Nat) (s : State) : mems (enqueueRegion k q r s) = mems s := by
  unfold enqueueRegion; dsimp only; (repeat' split) <;> (try simp_all [mems_ite, mems_foldl, mems_getD, eachNat_mems]) <;> (try rfl)

@[simp] theorem enterReq_mems (k : Nat) (s : State) : mems (enterReq k s) = mems s := by
  fun_cases enterReq k s <;> simp_all [mems_ite, mems_foldl, mems_getD, eachNat_mems]

@[simp] theorem retargetRegion_mems (frame : Bool) (r : Nat) (s : State) : mems (retargetRegion frame r s) = mems s := by
  unfold retargetRegion; dsimp only; (repeat' split) <;> (try simp_all [mems_ite, mems_foldl, mems_getD, eachNat_mems]) <;> (try rfl)

@[simp] theorem startRegion_mems (r : Nat) (s : State) : mems (startRegion r s) = mems s := by
  unfold startRegion; dsimp only; (repeat' split) <;> (try simp_all [mems_ite, mems_foldl, mems_getD, eachNat_mems]) <;> (try rfl)

@[simp] theorem criticalCut_mems (zones : List Nat) (s : State) : mems (criticalCut zones s) = mems s := by
  unfold criticalCut; simp [mems_ite, mems_foldl, mems_getD, eachNat_mems]

@[simp] theorem regionsIdle_mems (t : Timing) (s : State) : mems (regionsIdle t s) = mems s := by
  unfold regionsIdle; simp [mems_ite, mems_foldl, mems_getD, eachNat_mems]

@[simp] theorem crslDisable_mems (s : State) : mems (crslDisable s) = mems s := by
  unfold crslDisable; dsimp only
  have e : ∀ t : State, mems (t.crsl.regions.foldl (fun s c => setRegion c.1 (outsideEnds c.2)
      (match runSlot c.2 with
        | some k => if c.2.state == .run then reqReplaced k (match c.2.queued with | some (_, k) => reqReplaced k s | none => s)
            else (match c.2.queued with | some (_, k) => reqReplaced k s | none => s)
        | none => (match c.2.queued with | some (_, k) => reqReplaced k s | none => s)))
      { t with crsl := { t.crsl with newReqs := [] } }) = mems t := by
    intro t
    refine (mems_foldl _ _ _ ?_).trans rfl
    intro s c; (repeat' split) <;> simp
  split
  · simp only [reqCloseAll_mems, regionsIdle_mems]
    exact (e _).trans (eachNat_mems _ _ _ (by simp))
  · simp only [reqCloseAll_mems]
    exact (e _).trans (eachNat_mems _ _ _ (by simp))

@[simp] theorem waitReqs_mems (s : State) : mems (waitReqs s) = mems s := by
  unfold waitReqs; simp [mems_ite, mems_foldl, mems_getD, eachNat_mems]

@[simp] theorem requestTimeout_mems (k : Nat) (s : State) : mems (requestTimeout k s) = mems s := by
  unfold requestTimeout; dsimp only
  (repeat' (first
      | (simp [mems_ite, mems_foldl, mems_getD, eachNat_mems]; done)
      | split
      | (refine (mems_foldl _ _ _ ?_).trans ?_ <;> intros)
      | (refine (eachNat_mems _ _ _ ?_).trans ?_ <;> intros)
      | (simp [mems_ite, mems_foldl, mems_getD, eachNat_mems])
      | (grind [→ drawFree_mems_pair, → trnAccess_mems_pair, → meshStream_mems_pair, → dramRead_mems_pair, → wordRead_mems_pair, → spmReadN_mems_pair, → spmRead_mems_pair])))

@[simp] theorem doUpdateRegion_mems (h : Hdr) (p : UpdateRegionP) (s : State) : mems (doUpdateRegion h p s) = mems s := by
  unfold doUpdateRegion; dsimp only; (repeat' split) <;> (try simp_all [mems_ite, mems_foldl, mems_getD, eachNat_mems]) <;> (try rfl)

@[simp] theorem doWaveformLoad_mems (h : Hdr) (p : WaveformLoadP) (s : State) : mems (doWaveformLoad h p s) = mems s := by
  unfold doWaveformLoad; simp [mems_ite, mems_foldl, mems_getD, eachNat_mems]

@[simp] theorem fin_mems (h : Hdr) (st : Status) (detail : W64) (s : State) : mems (fin h st detail s) = mems s := by
  unfold fin; simp [mems_ite, mems_foldl, mems_getD, eachNat_mems]

@[simp] theorem finAll_mems (st : Status) (z0 : List Hdr) (s : State) : mems (finAll st z0 s) = mems s := by
  fun_induction finAll st z0 s <;> simp_all [mems_ite, mems_foldl, mems_getD, eachNat_mems]

@[simp] theorem calErr_mems (i : Nat) (s : State) : mems (calErr i s) = mems s := by
  unfold calErr; simp [mems_ite, mems_foldl, mems_getD, eachNat_mems]

@[simp] theorem journalWrite_mems (name : LogName) (source : Nat) (trip hw : Bool) (content : List Byte) (s : State) : mems (journalWrite name source trip hw content s) = mems s := by
  unfold journalWrite; dsimp only; (repeat' split) <;> (try simp_all [mems_ite, mems_foldl, mems_getD, eachNat_mems]) <;> (try rfl)

@[simp] theorem journalRecord_mems (name : LogName) (hw : Bool) (args : List Nat) (s : State) : mems (journalRecord name hw args s) = mems s := by
  unfold journalRecord; simp [mems_ite, mems_foldl, mems_getD, eachNat_mems]

@[simp] theorem commitMap_mems (ok : Bool) (s : State) : mems (commitMap ok s) = mems s := by
  unfold commitMap; simp [mems_ite, mems_foldl, mems_getD, eachNat_mems]

@[simp] theorem unitPair_mems (cls a b : Nat) (s : State) : mems (unitPair cls a b s) = mems s := by
  unfold unitPair; simp [mems_ite, mems_foldl, mems_getD, eachNat_mems]

@[simp] theorem unitSetsDone_mems (st : Status) (cls idx : Nat) (s : State) : mems (unitSetsDone st cls idx s) = mems s := by
  unfold unitSetsDone; simp [mems_ite, mems_foldl, mems_getD, eachNat_mems]

@[simp] theorem frontPop_mems (s : State) : mems (frontPop s) = mems s := by
  fun_cases frontPop s <;> simp_all [mems_ite, mems_foldl, mems_getD, eachNat_mems]

@[simp] theorem unitRequest_mems (s : State) : mems (unitRequest s) = mems s := by
  fun_cases unitRequest s <;> simp_all [mems_ite, mems_foldl, mems_getD, eachNat_mems]

@[simp] theorem cleanWindow_mems (cls idx : Nat) (s : State) : mems (cleanWindow cls idx s) = mems s := by
  unfold cleanWindow; simp [mems_ite, mems_foldl, mems_getD, eachNat_mems]

@[simp] theorem modReg_mems (p : Nat) (f : Regulator → Regulator) (s : State) : mems (modReg p f s) = mems s := by
  unfold modReg; simp [mems_ite, mems_foldl, mems_getD, eachNat_mems]

@[simp] theorem setRole_mems (c r : Nat) (s : State) : mems (setRole c r s) = mems s := by
  unfold setRole; simp [mems_ite, mems_foldl, mems_getD, eachNat_mems]

@[simp] theorem retrainStart_mems (c : Nat) (s : State) : mems (retrainStart c s) = mems s := by
  unfold retrainStart; simp [mems_ite, mems_foldl, mems_getD, eachNat_mems]

@[simp] theorem removalStart_mems (c : Nat) (failRanks : List Nat) (allowRank : Bool) (s : State) : mems (removalStart c failRanks allowRank s) = mems s := by
  unfold removalStart; dsimp only; (repeat' split) <;> (try simp_all [mems_ite, mems_foldl, mems_getD, eachNat_mems]) <;> (try rfl)

@[simp] theorem retrainDone_mems (pass : Bool) (failRanks : List Nat) (s : State) : mems (retrainDone pass failRanks s) = mems s := by
  unfold retrainDone; dsimp only; (repeat' split) <;> (try simp_all [mems_ite, mems_foldl, mems_getD, eachNat_mems]) <;> (try rfl)

@[simp] theorem copyErrors_mems (lines : List Nat) (s : State) : mems (copyErrors lines s) = mems s := by
  unfold copyErrors; simp [mems_ite, mems_foldl, mems_getD, eachNat_mems]

@[simp] theorem jobEnd_mems (s : State) : mems (jobEnd s) = mems s := by
  unfold jobEnd; simp [mems_ite, mems_foldl, mems_getD, eachNat_mems]

@[simp] theorem rankCopyDone_mems (mramOk : Bool) (bad : List Nat) (s0 : State) : mems (rankCopyDone mramOk bad s0) = mems s0 := by
  unfold rankCopyDone; dsimp only; (repeat' split) <;> (try simp_all [mems_ite, mems_foldl, mems_getD, eachNat_mems]) <;> (try rfl)

@[simp] theorem chanCopyDone_mems (mramOk : Bool) (bad : List Nat) (s0 : State) : mems (chanCopyDone mramOk bad s0) = mems s0 := by
  unfold chanCopyDone; dsimp only; (repeat' split) <;> (try simp_all [mems_ite, mems_foldl, mems_getD, eachNat_mems]) <;> (try rfl)

@[simp] theorem foldStart_mems (c : Nat) (s : State) : mems (foldStart c s) = mems s := by
  unfold foldStart; dsimp only; (repeat' split) <;> (try simp_all [mems_ite, mems_foldl, mems_getD, eachNat_mems]) <;> (try rfl)

@[simp] theorem foldAck_mems (s : State) : mems (foldAck s) = mems s := by
  unfold foldAck; dsimp only; (repeat' split) <;> (try simp_all [mems_ite, mems_foldl, mems_getD, eachNat_mems]) <;> (try rfl)

@[simp] theorem foldCopyDone_mems (lines : List Nat) (s : State) : mems (foldCopyDone lines s) = mems s := by
  unfold foldCopyDone; dsimp only; (repeat' split) <;> (try simp_all [mems_ite, mems_foldl, mems_getD, eachNat_mems]) <;> (try rfl)

@[simp] theorem rebaseStart_mems (c : Nat) (s : State) : mems (rebaseStart c s) = mems s := by
  unfold rebaseStart; dsimp only; (repeat' split) <;> (try simp_all [mems_ite, mems_foldl, mems_getD, eachNat_mems]) <;> (try rfl)

@[simp] theorem buildMap_mems (chs : List Nat) (stripes : Nat) (s : State) : mems (buildMap chs stripes s) = mems s := by
  unfold buildMap; simp [mems_ite, mems_foldl, mems_getD, eachNat_mems]

@[simp] theorem widthCheck_mems (s : State) : mems (widthCheck s) = mems s := by
  unfold widthCheck; simp [mems_ite, mems_foldl, mems_getD, eachNat_mems]

@[simp] theorem sameBankRefresh_mems (c bank : Nat) (idle : Bool) (s : State) : mems (sameBankRefresh c bank idle s) = mems s := by
  unfold sameBankRefresh; simp [mems_ite, mems_foldl, mems_getD, eachNat_mems]

@[simp] theorem refreshLimit_mems (c bank : Nat) (s : State) : mems (refreshLimit c bank s) = mems s := by
  unfold refreshLimit; simp [mems_ite, mems_foldl, mems_getD, eachNat_mems]

@[simp] theorem rowDisturb_mems (c port : Nat) (s : State) : mems (rowDisturb c port s) = mems s := by
  unfold rowDisturb; simp [mems_ite, mems_foldl, mems_getD, eachNat_mems]

@[simp] theorem regCutEnd_mems (port : Nat) (s : State) : mems (regCutEnd port s) = mems s := by
  unfold regCutEnd; simp [mems_ite, mems_foldl, mems_getD, eachNat_mems]

@[simp] theorem scrubLine_mems (line : Nat) (ecc : Ecc) (s : State) : mems (scrubLine line ecc s) = mems s := by
  unfold scrubLine; simp [mems_ite, mems_foldl, mems_getD, eachNat_mems]

@[simp] theorem channelClean_mems (c : Nat) (s : State) : mems (channelClean c s) = mems s := by
  unfold channelClean; simp [mems_ite, mems_foldl, mems_getD, eachNat_mems]

@[simp] theorem bankZeroed_mems (b : Nat) (s : State) : mems (bankZeroed b s) = mems s := by
  unfold bankZeroed; simp [mems_ite, mems_foldl, mems_getD, eachNat_mems]

@[simp] theorem bankClean_mems (b : Nat) (s : State) : mems (bankClean b s) = mems s := by
  unfold bankClean; simp [mems_ite, mems_foldl, mems_getD, eachNat_mems]

@[simp] theorem copyRefill_mems (k : Nat) (s : State) : mems (copyRefill k s) = mems s := by
  unfold copyRefill; simp [mems_ite, mems_foldl, mems_getD, eachNat_mems]

@[simp] theorem refillAll_mems (k : Nat) (s : State) : mems (refillAll k s) = mems s := by
  unfold refillAll; simp [mems_ite, mems_foldl, mems_getD, eachNat_mems]

@[simp] theorem windowsRestart_mems (s : State) : mems (windowsRestart s) = mems s := by
  unfold windowsRestart; simp [mems_ite, mems_foldl, mems_getD, eachNat_mems]

@[simp] theorem clockRun_mems (n : Nat) (s : State) : mems (clockRun n s) = mems s := by
  unfold clockRun; simp [mems_ite, mems_foldl, mems_getD, eachNat_mems]

@[simp] theorem clockTo_mems (tb2 : Int) (s : State) : mems (clockTo tb2 s) = mems s := by
  unfold clockTo; simp [mems_ite, mems_foldl, mems_getD, eachNat_mems]

@[simp] theorem regSpend_mems (p k : Nat) (s : State) : mems (regSpend p k s) = mems s := by
  unfold regSpend; simp [mems_ite, mems_foldl, mems_getD, eachNat_mems]

@[simp] theorem regulated_mems (p k : Nat) (f : State → State) (s : State) (hf : ∀ s, mems (f s) = mems s) :
    mems (regulated p k f s) = mems s := by
  unfold regulated; (try dsimp only); (repeat' split) <;> simp [hf]

@[simp] theorem regDrain_mems (p k : Nat) (s : State) : mems (regDrain p k s) = mems s := by
  unfold regDrain; simp [mems_ite, mems_foldl, mems_getD, eachNat_mems]

@[simp] theorem regBulk_mems (p k : Nat) (f : State → State) (s : State) (hf : ∀ s, mems (f s) = mems s) :
    mems (regBulk p k f s) = mems s := by
  unfold regBulk; (try dsimp only); (repeat' split) <;> simp [hf]

@[simp] theorem switchStart_mems (s : State) : mems (switchStart s) = mems s := by
  unfold switchStart; dsimp only; (repeat' split) <;> (try simp_all [mems_ite, mems_foldl, mems_getD, eachNat_mems]) <;> (try rfl)

@[simp] theorem switchDone_mems (s : State) : mems (switchDone s) = mems s := by
  unfold switchDone; dsimp only; (repeat' split) <;> (try simp_all [mems_ite, mems_foldl, mems_getD, eachNat_mems]) <;> (try rfl)

@[simp] theorem pxErr_mems (i : Nat) (s : State) : mems (pxErr i s) = mems s := by
  unfold pxErr; simp [mems_ite, mems_foldl, mems_getD, eachNat_mems]

@[simp] theorem modGrp_mems (g : Nat) (f : Group → Group) (s : State) : mems (modGrp g f s) = mems s := by
  unfold modGrp; simp [mems_ite, mems_foldl, mems_getD, eachNat_mems]

@[simp] theorem setSel_mems (h v : Nat) (s : State) : mems (setSel h v s) = mems s := by
  unfold setSel; simp [mems_ite, mems_foldl, mems_getD, eachNat_mems]

@[simp] theorem streamOn_mems (g : Nat) (bytes : List Byte) (s : State) : mems ((streamOn g bytes s).2) = mems s := by
  unfold streamOn; simp [mems_ite, mems_foldl, mems_getD, eachNat_mems]

theorem streamOn_mems_pair (g : Nat) (bytes : List Byte) (s : State) {a_ : List (List (BitVec 130))} {t_ : State} (h_ : streamOn g bytes s = (a_, t_)) : mems t_ = mems s := by
  have e_ := streamOn_mems  g bytes s
  rw [h_] at e_; exact e_

@[simp] theorem sendSet_mems (g : Nat) (code : Byte) (s : State) : mems (sendSet g code s) = mems s := by
  unfold sendSet; simp [mems_ite, mems_foldl, mems_getD, eachNat_mems]

@[simp] theorem pxSend_mems (g ty flags line tick pos : Nat) (payload : List Byte) (s : State) : mems (pxSend g ty flags line tick pos payload s) = mems s := by
  unfold pxSend; simp [mems_ite, mems_foldl, mems_getD, eachNat_mems]

@[simp] theorem pxSendSlice_mems (ty flags line : Nat) (payload : Nat → List Byte) (sl : Nat) (s : State) : mems (pxSendSlice ty flags line payload sl s) = mems s := by
  unfold pxSendSlice; simp [mems_ite, mems_foldl, mems_getD, eachNat_mems]

@[simp] theorem pxSendAll_mems (ty flags line : Nat) (payload : Nat → List Byte) (s : State) : mems (pxSendAll ty flags line payload s) = mems s := by
  unfold pxSendAll; simp [mems_ite, mems_foldl, mems_getD, eachNat_mems]

@[simp] theorem queueCmd_mems (g : Option Nat) (es : List (Nat × W32)) (s : State) : mems (queueCmd g es s) = mems s := by
  unfold queueCmd; simp [mems_ite, mems_foldl, mems_getD, eachNat_mems]

@[simp] theorem queuePartner_mems (config : Bool) (sl : Nat) (s : State) : mems (queuePartner config sl s) = mems s := by
  fun_cases queuePartner config sl s <;> simp_all [mems_ite, mems_foldl, mems_getD, eachNat_mems]

@[simp] theorem queueConfig_mems (s : State) : mems (queueConfig s) = mems s := by
  unfold queueConfig; simp [mems_ite, mems_foldl, mems_getD, eachNat_mems]

@[simp] theorem queueGeometry_mems (s : State) : mems (queueGeometry s) = mems s := by
  unfold queueGeometry; simp [mems_ite, mems_foldl, mems_getD, eachNat_mems]

@[simp] theorem sendCmds_mems (line : Nat) (s : State) : mems (sendCmds line s) = mems s := by
  unfold sendCmds; dsimp only
  (repeat' (first
      | (simp [mems_ite, mems_foldl, mems_getD, eachNat_mems]; done)
      | split
      | (refine (mems_foldl _ _ _ ?_).trans ?_ <;> intros)
      | (refine (eachNat_mems _ _ _ ?_).trans ?_ <;> intros)
      | (simp [mems_ite, mems_foldl, mems_getD, eachNat_mems])
      | (grind [→ drawFree_mems_pair, → trnAccess_mems_pair, → meshStream_mems_pair, → dramRead_mems_pair, → wordRead_mems_pair, → spmReadN_mems_pair, → spmRead_mems_pair, → streamOn_mems_pair])))

@[simp] theorem linkTo_mems (g : Nat) (l : LinkState) (s : State) : mems (linkTo g l s) = mems s := by
  unfold linkTo; simp [mems_ite, mems_foldl, mems_getD, eachNat_mems]

@[simp] theorem firWrite_mems (g : Nat) (v : W32) (s : State) : mems (firWrite g v s) = mems s := by
  unfold firWrite; simp [mems_ite, mems_foldl, mems_getD, eachNat_mems]

@[simp] theorem sendTs_mems (g kind flags : Nat) (s : State) : mems (sendTs g kind flags s) = mems s := by
  unfold sendTs; simp [mems_ite, mems_foldl, mems_getD, eachNat_mems]

@[simp] theorem sendTs2_mems (g : Nat) (s : State) : mems (sendTs2 g s) = mems s := by
  unfold sendTs2; simp [mems_ite, mems_foldl, mems_getD, eachNat_mems]

@[simp] theorem trainStart_mems (g : Nat) (second : Bool) (s : State) : mems (trainStart g second s) = mems s := by
  unfold trainStart; simp [mems_ite, mems_foldl, mems_getD, eachNat_mems]

@[simp] theorem selectServing_mems (g : Nat) (s : State) : mems (selectServing g s) = mems s := by
  fun_cases selectServing g s <;> simp_all [mems_ite, mems_foldl, mems_getD, eachNat_mems]

@[simp] theorem trainRequest_mems (g : Nat) (s : State) : mems (trainRequest g s) = mems s := by
  unfold trainRequest; simp [mems_ite, mems_foldl, mems_getD, eachNat_mems]

@[simp] theorem bringInFail_mems (cause : Nat) (s : State) : mems (bringInFail cause s) = mems s := by
  unfold bringInFail; dsimp only; (repeat' split) <;> (try simp_all [mems_ite, mems_foldl, mems_getD, eachNat_mems]) <;> (try rfl)

@[simp] theorem sparesOff_mems (s : State) : mems (sparesOff s) = mems s := by
  unfold sparesOff; dsimp only; (repeat' split) <;> (try simp_all [mems_ite, mems_foldl, mems_getD, eachNat_mems]) <;> (try rfl)

@[simp] theorem spareChecked_mems (g : Nat) (pass : Bool) (s : State) : mems (spareChecked g pass s) = mems s := by
  unfold spareChecked; simp [mems_ite, mems_foldl, mems_getD, eachNat_mems]

@[simp] theorem trainFailed_mems (g phase cause : Nat) (s : State) : mems (trainFailed g phase cause s) = mems s := by
  unfold trainFailed; simp [mems_ite, mems_foldl, mems_getD, eachNat_mems]

@[simp] theorem trainTimeout_mems (g : Nat) (s : State) : mems (trainTimeout g s) = mems s := by
  unfold trainTimeout; simp [mems_ite, mems_foldl, mems_getD, eachNat_mems]

@[simp] theorem miswire_mems (g : Nat) (s : State) : mems (miswire g s) = mems s := by
  unfold miswire; simp [mems_ite, mems_foldl, mems_getD, eachNat_mems]

@[simp] theorem ts1Rx_mems (g : Nat) (ts : List Byte) (s : State) : mems (ts1Rx g ts s) = mems s := by
  unfold ts1Rx; simp [mems_ite, mems_foldl, mems_getD, eachNat_mems]

@[simp] theorem ts2Rx_mems (g : Nat) (ts : List Byte) (s : State) : mems (ts2Rx g ts s) = mems s := by
  unfold ts2Rx; simp [mems_ite, mems_foldl, mems_getD, eachNat_mems]

@[simp] theorem tsRx_mems (g : Nat) (ts : List Byte) (s : State) : mems (tsRx g ts s) = mems s := by
  unfold tsRx; simp [mems_ite, mems_foldl, mems_getD, eachNat_mems]

@[simp] theorem backLock_mems (g : Nat) (s : State) : mems (backLock g s) = mems s := by
  fun_cases backLock g s <;> simp_all [mems_ite, mems_foldl, mems_getD, eachNat_mems]

@[simp] theorem bringInTrained_mems (s : State) : mems (bringInTrained s) = mems s := by
  unfold bringInTrained; dsimp only; (repeat' split) <;> (try simp_all [mems_ite, mems_foldl, mems_getD, eachNat_mems]) <;> (try rfl)

@[simp] theorem sliceMapApply_mems (mramOk : Bool) (s : State) : mems (sliceMapApply mramOk s) = mems s := by
  unfold sliceMapApply; dsimp only; (repeat' split) <;> (try simp_all [mems_ite, mems_foldl, mems_getD, eachNat_mems]) <;> (try rfl)

@[simp] theorem spareConfig_mems (b : Option (Nat × Nat × Nat × Bool)) (s : State) : mems (spareConfig b s) = mems s := by
  fun_cases spareConfig b s <;> simp_all [mems_ite, mems_foldl, mems_getD, eachNat_mems]

@[simp] theorem trainDone_mems (g : Nat) (s : State) : mems (trainDone g s) = mems s := by
  unfold trainDone; simp [mems_ite, mems_foldl, mems_getD, eachNat_mems]

@[simp] theorem retrainRetry_mems (g : Nat) (s : State) : mems (retrainRetry g s) = mems s := by
  unfold retrainRetry; simp [mems_ite, mems_foldl, mems_getD, eachNat_mems]

@[simp] theorem spanMismatch_mems (g : Nat) (far rxErr : Bool) (s : State) : mems (spanMismatch g far rxErr s) = mems s := by
  unfold spanMismatch; simp [mems_ite, mems_foldl, mems_getD, eachNat_mems]

@[simp] theorem farCompare_mems (g : Nat) (far : W32) (rxErr : Bool) (s : State) : mems (farCompare g far rxErr s) = mems s := by
  unfold farCompare; simp [mems_ite, mems_foldl, mems_getD, eachNat_mems]

@[simp] theorem padCompare_mems (pad : List (Nat × W32)) (g : Nat) (s : State) : mems (padCompare pad g s) = mems s := by
  unfold padCompare; dsimp only; (repeat' split) <;> (try simp_all [mems_ite, mems_foldl, mems_getD, eachNat_mems]) <;> (try rfl)

@[simp] theorem bcDiscard_mems (g : Nat) (s : State) : mems (bcDiscard g s) = mems s := by
  unfold bcDiscard; simp [mems_ite, mems_foldl, mems_getD, eachNat_mems]

@[simp] theorem bcTake_mems (g ty len : Nat) (pkt : List Byte) (f : State → State) (s : State)
    (hf : ∀ s, mems (f s) = mems s) : mems (bcTake g ty len pkt f s) = mems s := by
  unfold bcTake; (repeat' split) <;> simp [hf]

@[simp] theorem headroomTake_mems (g : Nat) (pkt : List Byte) (s : State) : mems (headroomTake g pkt s) = mems s := by
  unfold headroomTake; simp [mems_ite, mems_foldl, mems_getD, eachNat_mems]

@[simp] theorem crcreportTake_mems (g : Nat) (pkt : List Byte) (s : State) : mems (crcreportTake g pkt s) = mems s := by
  unfold crcreportTake; simp [mems_ite, mems_foldl, mems_getD, eachNat_mems]

@[simp] theorem crcreportMissing_mems (g : Nat) (s : State) : mems (crcreportMissing g s) = mems s := by
  unfold crcreportMissing; simp [mems_ite, mems_foldl, mems_getD, eachNat_mems]

@[simp] theorem faultLog_mems (g code : Nat) (pkt : List Byte) (s : State) : mems (faultLog g code pkt s) = mems s := by
  unfold faultLog; simp [mems_ite, mems_foldl, mems_getD, eachNat_mems]

@[simp] theorem linkLost_mems (g : Nat) (s : State) : mems (linkLost g s) = mems s := by
  unfold linkLost; simp [mems_ite, mems_foldl, mems_getD, eachNat_mems]

@[simp] theorem faultTake_mems (g : Nat) (pkt : List Byte) (s : State) : mems (faultTake g pkt s) = mems s := by
  unfold faultTake; dsimp only; (repeat' split) <;> (try simp_all [mems_ite, mems_foldl, mems_getD, eachNat_mems]) <;> (try rfl)

@[simp] theorem bcRetrainStart_mems (g : Nat) (s : State) : mems (bcRetrainStart g s) = mems s := by
  unfold bcRetrainStart; simp [mems_ite, mems_foldl, mems_getD, eachNat_mems]

@[simp] theorem bcLost_mems (g : Nat) (s : State) : mems (bcLost g s) = mems s := by
  fun_cases bcLost g s <;> simp_all [mems_ite, mems_foldl, mems_getD, eachNat_mems]

@[simp] theorem bcTimeout_mems (g : Nat) (s : State) : mems (bcTimeout g s) = mems s := by
  unfold bcTimeout; simp [mems_ite, mems_foldl, mems_getD, eachNat_mems]

@[simp] theorem headStale_mems (g : Nat) (s : State) : mems (headStale g s) = mems s := by
  unfold headStale; simp [mems_ite, mems_foldl, mems_getD, eachNat_mems]

@[simp] theorem tickClose_mems (pad : List (Nat × W32)) (g : Nat) (s : State) : mems (tickClose pad g s) = mems s := by
  unfold tickClose; simp [mems_ite, mems_foldl, mems_getD, eachNat_mems]

@[simp] theorem tickGroup_mems (pad : List (Nat × W32)) (tick : Nat) (g : Nat) (s : State) : mems (tickGroup pad tick g s) = mems s := by
  unfold tickGroup; simp [mems_ite, mems_foldl, mems_getD, eachNat_mems]

@[simp] theorem resendConfig_mems (g : Nat) (s : State) : mems (resendConfig g s) = mems s := by
  fun_cases resendConfig g s <;> simp_all [mems_ite, mems_foldl, mems_getD, eachNat_mems]

@[simp] theorem headroomAge_mems (s : State) : mems (headroomAge s) = mems s := by
  unfold headroomAge; simp [mems_ite, mems_foldl, mems_getD, eachNat_mems]

@[simp] theorem sleepGroup_mems (g : Nat) (s : State) : mems (sleepGroup g s) = mems s := by
  unfold sleepGroup; simp [mems_ite, mems_foldl, mems_getD, eachNat_mems]

@[simp] theorem wakeGroup_mems (g : Nat) (s : State) : mems (wakeGroup g s) = mems s := by
  unfold wakeGroup; simp [mems_ite, mems_foldl, mems_getD, eachNat_mems]

@[simp] theorem stopGroup_mems (g : Nat) (s : State) : mems (stopGroup g s) = mems s := by
  unfold stopGroup; simp [mems_ite, mems_foldl, mems_getD, eachNat_mems]

@[simp] theorem sendAbort_mems (line : Nat) (s : State) : mems (sendAbort line s) = mems s := by
  unfold sendAbort; simp [mems_ite, mems_foldl, mems_getD, eachNat_mems]

@[simp] theorem bringInStart_mems (g : Nat) (byHost : Bool) (s : State) : mems (bringInStart g byHost s) = mems s := by
  unfold bringInStart; dsimp only; (repeat' split) <;> (try simp_all [mems_ite, mems_foldl, mems_getD, eachNat_mems]) <;> (try rfl)

@[simp] theorem groupSpare_mems (g : Nat) (s : State) : mems (groupSpare g s) = mems s := by
  unfold groupSpare; simp [mems_ite, mems_foldl, mems_getD, eachNat_mems]

@[simp] theorem holdExit_mems (cause : Nat) (s : State) : mems (holdExit cause s) = mems s := by
  unfold holdExit; dsimp only; (repeat' split) <;> (try simp_all [mems_ite, mems_foldl, mems_getD, eachNat_mems]) <;> (try rfl)

@[simp] theorem surfaceSettle_mems (i : Nat) (s : State) : mems (surfaceSettle i s) = mems s := by
  unfold surfaceSettle; dsimp only; (repeat' split) <;> (try simp_all [mems_ite, mems_foldl, mems_getD, eachNat_mems]) <;> (try rfl)

@[simp] theorem surfacesSettle_mems (s : State) : mems (surfacesSettle s) = mems s := by
  unfold surfacesSettle; simp [mems_ite, mems_foldl, mems_getD, eachNat_mems]

@[simp] theorem doSurfaceRegister_mems (h : Hdr) (p : SurfaceRegisterP) (s : State) : mems (doSurfaceRegister h p s) = mems s := by
  unfold doSurfaceRegister; dsimp only; (repeat' split) <;> (try simp_all [mems_ite, mems_foldl, mems_getD, eachNat_mems]) <;> (try rfl)

@[simp] theorem doSurfaceRelease_mems (h : Hdr) (p : SurfaceReleaseP) (s : State) : mems (doSurfaceRelease h p s) = mems s := by
  unfold doSurfaceRelease; dsimp only; (repeat' split) <;> (try simp_all [mems_ite, mems_foldl, mems_getD, eachNat_mems]) <;> (try rfl)

@[simp] theorem modSlot_mems (n : Nat) (f : SceneSlot → SceneSlot) (s : State) : mems (modSlot n f s) = mems s := by
  unfold modSlot; simp [mems_ite, mems_foldl, mems_getD, eachNat_mems]

@[simp] theorem loadGrant_mems (x : SceneSlot) (s : State) : mems (loadGrant x s) = mems s := by
  fun_cases loadGrant x s <;> simp_all [mems_ite, mems_foldl, mems_getD, eachNat_mems]

@[simp] theorem loadRevoke_mems (x : SceneSlot) (s : State) : mems (loadRevoke x s) = mems s := by
  fun_cases loadRevoke x s <;> simp_all [mems_ite, mems_foldl, mems_getD, eachNat_mems]

@[simp] theorem slotRelease_mems (n : Nat) (s : State) : mems (slotRelease n s) = mems s := by
  unfold slotRelease; simp [mems_ite, mems_foldl, mems_getD, eachNat_mems]

@[simp] theorem sceneVerifying_mems (h : Hdr) (p : SceneLoadP) (s f : State) (hf : mems f = mems s) :
    mems (sceneVerifying h p s f) = mems s := by
  unfold sceneVerifying; split <;> simp [hf]

@[simp] theorem sceneReserve_mems (h : Hdr) (n len : Nat) (s : State) : mems (sceneReserve h n len s) = mems s := by
  unfold sceneReserve; dsimp only; (repeat' split) <;> (try simp_all [mems_ite, mems_foldl, mems_getD, eachNat_mems]) <;> (try rfl)

@[simp] theorem doSceneOpen_mems (h : Hdr) (p : SceneLoadP) (s : State) : mems (doSceneOpen h p s) = mems s := by
  unfold doSceneOpen; simp [mems_ite, mems_foldl, mems_getD, eachNat_mems]

@[simp] theorem doSceneClose_mems (h : Hdr) (p : SceneLoadP) (s : State) : mems (doSceneClose h p s) = mems s := by
  unfold doSceneClose; dsimp only; (repeat' split) <;> (try simp_all [mems_ite, mems_foldl, mems_getD, eachNat_mems]) <;> (try rfl)

@[simp] theorem doSceneFree_mems (h : Hdr) (p : SceneLoadP) (s : State) : mems (doSceneFree h p s) = mems s := by
  unfold doSceneFree; simp [mems_ite, mems_foldl, mems_getD, eachNat_mems]

@[simp] theorem verifyReads_mems (x : SceneSlot) (failed : List Nat) (s : State) : mems (verifyReads x failed s) = mems s := by
  unfold verifyReads; simp [mems_ite, mems_foldl, mems_getD, eachNat_mems]

@[simp] theorem verifyVerdict_mems (n : Nat) (x : SceneSlot) (h : Hdr) (p : PkgHdr) (o : Option (Status × W64)) (s : State) : mems (verifyVerdict n x h p o s) = mems s := by
  unfold verifyVerdict; dsimp only; (repeat' split) <;> (try simp_all [mems_ite, mems_foldl, mems_getD, eachNat_mems]) <;> (try rfl)

@[simp] theorem verifyDone_mems (n : Nat) (failed : List Nat) (s0 : State) : mems (verifyDone n failed s0) = mems s0 := by
  unfold verifyDone; dsimp only; (repeat' split) <;> (try simp_all [mems_ite, mems_foldl, mems_getD, eachNat_mems]) <;> (try rfl)

@[simp] theorem shrinkSlot_mems (lim n : Nat) (s : State) : mems (shrinkSlot lim n s) = mems s := by
  unfold shrinkSlot; dsimp only; (repeat' split) <;> (try simp_all [mems_ite, mems_foldl, mems_getD, eachNat_mems]) <;> (try rfl)

@[simp] theorem storeShrink_mems (s : State) : mems (storeShrink s) = mems s := by
  unfold storeShrink; dsimp only; (repeat' split) <;> (try simp_all [mems_ite, mems_foldl, mems_getD, eachNat_mems]) <;> (try rfl)

@[simp] theorem modPlayer_mems (f : Player → Player) (s : State) : mems (modPlayer f s) = mems s := by
  unfold modPlayer; simp [mems_ite, mems_foldl, mems_getD, eachNat_mems]

@[simp] theorem playerStart_mems (n f : Nat) (time : Option Int) (s : State) : mems (playerStart n f time s) = mems s := by
  unfold playerStart; simp [mems_ite, mems_foldl, mems_getD, eachNat_mems]

@[simp] theorem doScenePlay_mems (h : Hdr) (p : ScenePlayP) (s : State) : mems (doScenePlay h p s) = mems s := by
  unfold doScenePlay; dsimp only; (repeat' split) <;> (try simp_all [mems_ite, mems_foldl, mems_getD, eachNat_mems]) <;> (try rfl)

@[simp] theorem doSceneStop_mems (h : Hdr) (p : SceneStopP) (s : State) : mems (doSceneStop h p s) = mems s := by
  unfold doSceneStop; simp [mems_ite, mems_foldl, mems_getD, eachNat_mems]

@[simp] theorem doSceneSeek_mems (h : Hdr) (p : ScenePlayP) (s : State) : mems (doSceneSeek h p s) = mems s := by
  unfold doSceneSeek; dsimp only; (repeat' split) <;> (try simp_all [mems_ite, mems_foldl, mems_getD, eachNat_mems]) <;> (try rfl)

@[simp] theorem haloPoison_mems (port plane : Nat) (f : Frame) (d : PlaneDesc) (bad : List (Nat × Nat)) (s : State) : mems (haloPoison port plane f d bad s) = mems s := by
  unfold haloPoison; dsimp only
  (repeat' (first
      | (simp [mems_ite, mems_foldl, mems_getD, eachNat_mems]; done)
      | split
      | (refine (mems_foldl _ _ _ ?_).trans ?_ <;> intros)
      | (refine (eachNat_mems _ _ _ ?_).trans ?_ <;> intros)
      | (simp [mems_ite, mems_foldl, mems_getD, eachNat_mems])
      | (grind [→ drawFree_mems_pair, → trnAccess_mems_pair, → meshStream_mems_pair, → dramRead_mems_pair, → wordRead_mems_pair, → spmReadN_mems_pair, → spmRead_mems_pair, → streamOn_mems_pair])))

@[simp] theorem haloCancel_mems (f : Frame) (s : State) : mems (haloCancel f s) = mems s := by
  unfold haloCancel; simp [mems_ite, mems_foldl, mems_getD, eachNat_mems]

@[simp] theorem dropStrips_mems (p : Strip → Bool) (s : State) : mems (dropStrips p s) = mems s := by
  unfold dropStrips; simp [mems_ite, mems_foldl, mems_getD, eachNat_mems]

@[simp] theorem haloFree_mems (target : Int) (s : State) : mems (haloFree target s) = mems s := by
  unfold haloFree; simp [mems_ite, mems_foldl, mems_getD, eachNat_mems]

@[simp] theorem cancelStrips_mems (port : Nat) (target : Int) (s : State) : mems (cancelStrips port target s) = mems s := by
  unfold cancelStrips; simp [mems_ite, mems_foldl, mems_getD, eachNat_mems]

@[simp] theorem haloBad_mems (geometry : Bool) (s : State) : mems (haloBad geometry s) = mems s := by
  unfold haloBad; simp [mems_ite, mems_foldl, mems_getD, eachNat_mems]

@[simp] theorem haloRecheck_mems (f : Frame) (s : State) : mems (haloRecheck f s) = mems s := by
  unfold haloRecheck; simp [mems_ite, mems_foldl, mems_getD, eachNat_mems]

@[simp] theorem haloKeep_mems (port : Nat) (target : Int) (e addr len : Nat) (payload : List Byte) (s : State) : mems (haloKeep port target e addr len payload s) = mems s := by
  unfold haloKeep; simp [mems_ite, mems_foldl, mems_getD, eachNat_mems]

@[simp] theorem haloExpire_mems (s : State) : mems (haloExpire s) = mems s := by
  unfold haloExpire; simp [mems_ite, mems_foldl, mems_getD, eachNat_mems]

@[simp] theorem modFrame_mems (id : Nat) (f : Frame → Frame) (s : State) : mems (modFrame id f s) = mems s := by
  unfold modFrame; simp [mems_ite, mems_foldl, mems_getD, eachNat_mems]

@[simp] theorem retireFrame_mems (f : Frame) (s : State) : mems (retireFrame f s) = mems s := by
  unfold retireFrame; simp [mems_ite, mems_foldl, mems_getD, eachNat_mems]

@[simp] theorem sceneReport_mems (slot n : Nat) (st : Status) (s : State) : mems (sceneReport slot n st s) = mems s := by
  fun_cases sceneReport slot n st s <;> simp_all [mems_ite, mems_foldl, mems_getD, eachNat_mems]

@[simp] theorem frameReport_mems (f : Frame) (st : Status) (detail : W64) (s : State) : mems (frameReport f st detail s) = mems s := by
  fun_cases frameReport f st detail s <;> simp_all [mems_ite, mems_foldl, mems_getD, eachNat_mems]

@[simp] theorem refuseFrame_mems (f : Frame) (st : Status) (detail : W64) (s : State) : mems (refuseFrame f st detail s) = mems s := by
  unfold refuseFrame; dsimp only; (repeat' split) <;> (try simp_all [mems_ite, mems_foldl, mems_getD, eachNat_mems]) <;> (try rfl)

@[simp] theorem abortFrames_mems (p : Frame → Bool) (s : State) : mems (abortFrames p s) = mems s := by
  unfold abortFrames; dsimp only
  (repeat' (first
      | (simp [mems_ite, mems_foldl, mems_getD, eachNat_mems]; done)
      | split
      | (refine (mems_foldl _ _ _ ?_).trans ?_ <;> intros)
      | (refine (eachNat_mems _ _ _ ?_).trans ?_ <;> intros)
      | (simp [mems_ite, mems_foldl, mems_getD, eachNat_mems])
      | (grind [→ drawFree_mems_pair, → trnAccess_mems_pair, → meshStream_mems_pair, → dramRead_mems_pair, → wordRead_mems_pair, → spmReadN_mems_pair, → spmRead_mems_pair, → streamOn_mems_pair])))

@[simp] theorem addFrame_mems (f : Frame) (s : State) : mems (addFrame f s) = mems s := by
  unfold addFrame; simp [mems_ite, mems_foldl, mems_getD, eachNat_mems]

@[simp] theorem doFrameSubmit_mems (h : Hdr) (p : FrameSubmitP) (s : State) : mems (doFrameSubmit h p s) = mems s := by
  fun_cases doFrameSubmit h p s <;> simp_all [mems_ite, mems_foldl, mems_getD, eachNat_mems]

@[simp] theorem frameChecked_mems (f : Frame) (s2 : State) : mems (frameChecked f s2) = mems s2 := by
  unfold frameChecked; dsimp only; (repeat' split) <;> (try simp_all [mems_ite, mems_foldl, mems_getD, eachNat_mems]) <;> (try rfl)

@[simp] theorem pfRecord_mems (outcome row cost rowMax : Nat) (s : State) : mems (pfRecord outcome row cost rowMax s) = mems s := by
  unfold pfRecord; simp [mems_ite, mems_foldl, mems_getD, eachNat_mems]

@[simp] theorem pfRefuse_mems (f : Frame) (st : Status) (detail : W64) (s : State) : mems (pfRefuse f st detail s) = mems s := by
  unfold pfRefuse; simp [mems_ite, mems_foldl, mems_getD, eachNat_mems]

@[simp] theorem stagingGivenUp_mems (s : State) : mems (stagingGivenUp s) = mems s := by
  unfold stagingGivenUp; simp [mems_ite, mems_foldl, mems_getD, eachNat_mems]

@[simp] theorem pfCost_mems (f : Frame) (t : Timing) (s : State) : mems (pfCost f t s) = mems s := by
  unfold pfCost; dsimp only; (repeat' split) <;> (try simp_all [mems_ite, mems_foldl, mems_getD, eachNat_mems]) <;> (try rfl)

@[simp] theorem pfNotes_mems (f : Frame) (s : State) : mems (pfNotes f s) = mems s := by
  unfold pfNotes; simp [mems_ite, mems_foldl, mems_getD, eachNat_mems]

@[simp] theorem tableRead_mems (poison : Option Nat) (f : Frame) (s : State) : mems ((tableRead poison f s).2) = mems s := by
  fun_cases tableRead poison f s <;> simp_all [mems_ite, mems_foldl, mems_getD, eachNat_mems]

theorem tableRead_mems_pair (poison : Option Nat) (f : Frame) (s : State) {a_ : Option Nat} {t_ : State} (h_ : tableRead poison f s = (a_, t_)) : mems t_ = mems s := by
  have e_ := tableRead_mems  poison f s
  rw [h_] at e_; exact e_

@[simp] theorem preflightDecided_mems (poison : Option Nat) (s : State) : mems (preflightDecided poison s) = mems s := by
  unfold preflightDecided
  split
  · split
    · rfl
    · split
      · simp
      · dsimp only
        split <;> rename_i h1 <;> have e1 := tableRead_mems_pair _ _ _ h1
        · simpa using e1
        · generalize pfChecks _ _ = o
          cases o <;> simpa using e1
  · rfl

@[simp] theorem applySeek_mems (s : State) : mems (applySeek s) = mems s := by
  fun_cases applySeek s <;> simp_all [mems_ite, mems_foldl, mems_getD, eachNat_mems]

@[simp] theorem stopDone_mems (h : Hdr) (s : State) : mems (stopDone h s) = mems s := by
  unfold stopDone; simp [mems_ite, mems_foldl, mems_getD, eachNat_mems]

@[simp] theorem showingOut_mems (s : State) : mems (showingOut s) = mems s := by
  fun_cases showingOut s <;> simp_all [mems_ite, mems_foldl, mems_getD, eachNat_mems]

@[simp] theorem stopOne_mems (frame : Bool) (s : State) (w : Hdr × Bool) : mems (stopOne frame s w) = mems s := by
  unfold stopOne; simp [mems_ite, mems_foldl, mems_getD, eachNat_mems]

@[simp] theorem applyStops_mems (frame : Bool) (s : State) : mems (applyStops frame s) = mems s := by
  unfold applyStops; dsimp only; (repeat' split) <;> (try simp_all [mems_ite, mems_foldl, mems_getD, eachNat_mems]) <;> (try rfl)

@[simp] theorem playerStop_mems (s : State) : mems (playerStop s) = mems s := by
  unfold playerStop; dsimp only; (repeat' split) <;> (try simp_all [mems_ite, mems_foldl, mems_getD, eachNat_mems]) <;> (try rfl)

@[simp] theorem frameShown_mems (f : Frame) (s : State) : mems (frameShown f s) = mems s := by
  unfold frameShown; dsimp only; (repeat' split) <;> (try simp_all [mems_ite, mems_foldl, mems_getD, eachNat_mems]) <;> (try rfl)

@[simp] theorem frameAborted_mems (a : Nat) (s : State) : mems (frameAborted a s) = mems s := by
  fun_cases frameAborted a s <;> simp_all [mems_ite, mems_foldl, mems_getD, eachNat_mems]

@[simp] theorem framesTick_mems (complete_ hold : Bool) (s : State) : mems (framesTick complete_ hold s) = mems s := by
  unfold framesTick; dsimp only; (repeat' split) <;> (try simp_all [mems_ite, mems_foldl, mems_getD, eachNat_mems]) <;> (try rfl)

@[simp] theorem publishPf_mems (s : State) : mems (publishPf s) = mems s := by
  unfold publishPf; dsimp only; (repeat' split) <;> (try simp_all [mems_ite, mems_foldl, mems_getD, eachNat_mems]) <;> (try rfl)

@[simp] theorem framesDrain_mems (s : State) : mems (framesDrain s) = mems s := by
  unfold framesDrain; simp [mems_ite, mems_foldl, mems_getD, eachNat_mems]

@[simp] theorem framesResume_mems (s : State) : mems (framesResume s) = mems s := by
  unfold framesResume; simp [mems_ite, mems_foldl, mems_getD, eachNat_mems]

@[simp] theorem pwrErr_mems (i : Nat) (s : State) : mems (pwrErr i s) = mems s := by
  unfold pwrErr; simp [mems_ite, mems_foldl, mems_getD, eachNat_mems]

@[simp] theorem pwrTo_mems (st : PwrState) (step : Nat) (s : State) : mems (pwrTo st step s) = mems s := by
  unfold pwrTo; dsimp only; (repeat' split) <;> (try simp_all [mems_ite, mems_foldl, mems_getD, eachNat_mems]) <;> (try rfl)

@[simp] theorem modRail_mems (c : Nat) (f : VRail → VRail) (s : State) : mems (modRail c f s) = mems s := by
  unfold modRail; dsimp only; (repeat' split) <;> (try simp_all [mems_ite, mems_foldl, mems_getD, eachNat_mems]) <;> (try rfl)

@[simp] theorem allRails_mems (f : VRail → VRail) (s : State) : mems (allRails f s) = mems s := by
  unfold allRails; simp [mems_ite, mems_foldl, mems_getD, eachNat_mems]

@[simp] theorem setV_mems (c : Nat) (v : Int) (s : State) : mems (setV c v s) = mems s := by
  unfold setV; simp [mems_ite, mems_foldl, mems_getD, eachNat_mems]

@[simp] theorem rampUp_mems (s : State) : mems (rampUp s) = mems s := by
  unfold rampUp; simp [mems_ite, mems_foldl, mems_getD, eachNat_mems]

@[simp] theorem rampDown_mems (fromEff : Bool) (ms : Nat) (s : State) : mems (rampDown fromEff ms s) = mems s := by
  unfold rampDown; simp [mems_ite, mems_foldl, mems_getD, eachNat_mems]

@[simp] theorem rampEnd_mems (s : State) : mems (rampEnd s) = mems s := by
  unfold rampEnd; dsimp only; (repeat' split) <;> (try simp_all [mems_ite, mems_foldl, mems_getD, eachNat_mems]) <;> (try rfl)

@[simp] theorem irefZero_mems (s : State) : mems (irefZero s) = mems s := by
  unfold irefZero; simp [mems_ite, mems_foldl, mems_getD, eachNat_mems]

@[simp] theorem derateTick_mems (s : State) : mems (derateTick s) = mems s := by
  unfold derateTick; simp [mems_ite, mems_foldl, mems_getD, eachNat_mems]

@[simp] theorem setPg_mems (b : Nat) (v : Bool) (s : State) : mems (setPg b v s) = mems s := by
  unfold setPg; simp [mems_ite, mems_foldl, mems_getD, eachNat_mems]

@[simp] theorem vledPgFall_mems (s : State) : mems (vledPgFall s) = mems s := by
  unfold vledPgFall; simp [mems_ite, mems_foldl, mems_getD, eachNat_mems]

@[simp] theorem vledOff_mems (s : State) : mems (vledOff s) = mems s := by
  unfold vledOff; simp [mems_ite, mems_foldl, mems_getD, eachNat_mems]

@[simp] theorem railOff_mems (s : State) : mems (railOff s) = mems s := by
  unfold railOff; simp [mems_ite, mems_foldl, mems_getD, eachNat_mems]

@[simp] theorem extensionClose_mems (cause slots : Nat) (s : State) : mems (extensionClose cause slots s) = mems s := by
  unfold extensionClose; simp [mems_ite, mems_foldl, mems_getD, eachNat_mems]

@[simp] theorem rasterStop_mems (s : State) : mems (rasterStop s) = mems s := by
  unfold rasterStop; simp [mems_ite, mems_foldl, mems_getD, eachNat_mems]

@[simp] theorem timingRecord_mems (t : Timing) (s : State) : mems (timingRecord t s) = mems s := by
  unfold timingRecord; simp [mems_ite, mems_foldl, mems_getD, eachNat_mems]

@[simp] theorem retimeEnd_mems (s : State) : mems (retimeEnd s) = mems s := by
  unfold retimeEnd; dsimp only; (repeat' split) <;> (try simp_all [mems_ite, mems_foldl, mems_getD, eachNat_mems]) <;> (try rfl)

@[simp] theorem downStart_mems (s : State) : mems (downStart s) = mems s := by
  unfold downStart; simp [mems_ite, mems_foldl, mems_getD, eachNat_mems]

@[simp] theorem regionsBlack_mems (s : State) : mems (regionsBlack s) = mems s := by
  unfold regionsBlack; simp [mems_ite, mems_foldl, mems_getD, eachNat_mems]

@[simp] theorem powerUp_mems (s : State) : mems (powerUp s) = mems s := by
  unfold powerUp; simp [mems_ite, mems_foldl, mems_getD, eachNat_mems]

@[simp] theorem panelOnDue_mems (s : State) : mems (panelOnDue s) = mems s := by
  unfold panelOnDue; simp [mems_ite, mems_foldl, mems_getD, eachNat_mems]

@[simp] theorem linksStop_mems (s : State) : mems (linksStop s) = mems s := by
  unfold linksStop; simp [mems_ite, mems_foldl, mems_getD, eachNat_mems]

@[simp] theorem offReached_mems (s : State) : mems (offReached s) = mems s := by
  unfold offReached; dsimp only; (repeat' split) <;> (try simp_all [mems_ite, mems_foldl, mems_getD, eachNat_mems]) <;> (try rfl)

@[simp] theorem downDone_mems (s : State) : mems (downDone s) = mems s := by
  unfold downDone; simp [mems_ite, mems_foldl, mems_getD, eachNat_mems]

@[simp] theorem downRails_mems (s : State) : mems (downRails s) = mems s := by
  unfold downRails; simp [mems_ite, mems_foldl, mems_getD, eachNat_mems]

@[simp] theorem downStop_mems (s : State) : mems (downStop s) = mems s := by
  unfold downStop; simp [mems_ite, mems_foldl, mems_getD, eachNat_mems]

@[simp] theorem downDisch_mems (s : State) : mems (downDisch s) = mems s := by
  unfold downDisch; simp [mems_ite, mems_foldl, mems_getD, eachNat_mems]

@[simp] theorem downVledLow_mems (s : State) : mems (downVledLow s) = mems s := by
  unfold downVledLow; simp [mems_ite, mems_foldl, mems_getD, eachNat_mems]

@[simp] theorem downVled_mems (s : State) : mems (downVled s) = mems s := by
  unfold downVled; simp [mems_ite, mems_foldl, mems_getD, eachNat_mems]

@[simp] theorem downDim_mems (s : State) : mems (downDim s) = mems s := by
  unfold downDim; simp [mems_ite, mems_foldl, mems_getD, eachNat_mems]

@[simp] theorem rampStop_mems (s : State) : mems (rampStop s) = mems s := by
  unfold rampStop; simp [mems_ite, mems_foldl, mems_getD, eachNat_mems]

@[simp] theorem powerDown_mems (toFaulted : Bool) (s : State) : mems (powerDown toFaulted s) = mems s := by
  unfold powerDown; simp [mems_ite, mems_foldl, mems_getD, eachNat_mems]

@[simp] theorem dischargeEnd_mems (s : State) : mems (dischargeEnd s) = mems s := by
  unfold dischargeEnd; simp [mems_ite, mems_foldl, mems_getD, eachNat_mems]

@[simp] theorem undoStep_mems (s : State) : mems (undoStep s) = mems s := by
  unfold undoStep; simp [mems_ite, mems_foldl, mems_getD, eachNat_mems]

@[simp] theorem powerFail_mems (step : Nat) (s : State) : mems (powerFail step s) = mems s := by
  unfold powerFail; simp [mems_ite, mems_foldl, mems_getD, eachNat_mems]

@[simp] theorem fastFrom_mems (step : Nat) (s : State) : mems (fastFrom step s) = mems s := by
  unfold fastFrom; dsimp only; (repeat' split) <;> (try simp_all [mems_ite, mems_foldl, mems_getD, eachNat_mems]) <;> (try rfl)

@[simp] theorem fastPowerDown_mems (s : State) : mems (fastPowerDown s) = mems s := by
  unfold fastPowerDown; simp [mems_ite, mems_foldl, mems_getD, eachNat_mems]

@[simp] theorem fastPowerDownWhole_mems (s : State) : mems (fastPowerDownWhole s) = mems s := by
  unfold fastPowerDownWhole; simp [mems_ite, mems_foldl, mems_getD, eachNat_mems]

@[simp] theorem panelOnSet_mems (s : State) : mems (panelOnSet s) = mems s := by
  unfold panelOnSet; dsimp only; (repeat' split) <;> (try simp_all [mems_ite, mems_foldl, mems_getD, eachNat_mems]) <;> (try rfl)

@[simp] theorem panelOnClear_mems (s : State) : mems (panelOnClear s) = mems s := by
  unfold panelOnClear; dsimp only; (repeat' split) <;> (try simp_all [mems_ite, mems_foldl, mems_getD, eachNat_mems]) <;> (try rfl)

@[simp] theorem legacyWrite_mems (on : Bool) (s : State) : mems (legacyWrite on s) = mems s := by
  unfold legacyWrite; simp [mems_ite, mems_foldl, mems_getD, eachNat_mems]

@[simp] theorem linkBegin_mems (s : State) : mems (linkBegin s) = mems s := by
  unfold linkBegin; simp [mems_ite, mems_foldl, mems_getD, eachNat_mems]

@[simp] theorem miswiredOff_mems (g : Nat) (s : State) : mems (miswiredOff g s) = mems s := by
  unfold miswiredOff; simp [mems_ite, mems_foldl, mems_getD, eachNat_mems]

@[simp] theorem grpReqsLeft_mems (g : Nat) (s : State) : mems (grpReqsLeft g s) = mems s := by
  unfold grpReqsLeft; simp [mems_ite, mems_foldl, mems_getD, eachNat_mems]

@[simp] theorem failedOff_mems (g : Nat) (s : State) : mems (failedOff g s) = mems s := by
  unfold failedOff; simp [mems_ite, mems_foldl, mems_getD, eachNat_mems]

@[simp] theorem failedNext_mems (s : State) : mems (failedNext s) = mems s := by
  unfold failedNext; simp [mems_ite, mems_foldl, mems_getD, eachNat_mems]

@[simp] theorem linkEnd_mems (s : State) : mems (linkEnd s) = mems s := by
  unfold linkEnd; simp [mems_ite, mems_foldl, mems_getD, eachNat_mems]

@[simp] theorem linkCheck_mems (s : State) : mems (linkCheck s) = mems s := by
  unfold linkCheck; simp [mems_ite, mems_foldl, mems_getD, eachNat_mems]

@[simp] theorem powerGoodRise_mems (r : PnlRail) (s : State) : mems (powerGoodRise r s) = mems s := by
  unfold powerGoodRise; simp [mems_ite, mems_foldl, mems_getD, eachNat_mems]

@[simp] theorem settleDone_mems (s : State) : mems (settleDone s) = mems s := by
  unfold settleDone; dsimp only; (repeat' split) <;> (try simp_all [mems_ite, mems_foldl, mems_getD, eachNat_mems]) <;> (try rfl)

@[simp] theorem boundExpiry_mems (s : State) : mems (boundExpiry s) = mems s := by
  fun_cases boundExpiry s <;> simp_all [mems_ite, mems_foldl, mems_getD, eachNat_mems]

@[simp] theorem vledBegin_mems (s : State) : mems (vledBegin s) = mems s := by
  unfold vledBegin; simp [mems_ite, mems_foldl, mems_getD, eachNat_mems]

@[simp] theorem irefRampEnd_mems (s : State) : mems (irefRampEnd s) = mems s := by
  unfold irefRampEnd; dsimp only; (repeat' split) <;> (try simp_all [mems_ite, mems_foldl, mems_getD, eachNat_mems]) <;> (try rfl)

@[simp] theorem vledFell_mems (s : State) : mems (vledFell s) = mems s := by
  unfold vledFell; simp [mems_ite, mems_foldl, mems_getD, eachNat_mems]

@[simp] theorem pgStuck_mems (s : State) : mems (pgStuck s) = mems s := by
  unfold pgStuck; simp [mems_ite, mems_foldl, mems_getD, eachNat_mems]

@[simp] theorem railStep_mems (s : State) : mems (railStep s) = mems s := by
  unfold railStep; simp [mems_ite, mems_foldl, mems_getD, eachNat_mems]

@[simp] theorem powerGoodLost_mems (r : PnlRail) (s : State) : mems (powerGoodLost r s) = mems s := by
  unfold powerGoodLost; simp [mems_ite, mems_foldl, mems_getD, eachNat_mems]

@[simp] theorem overvoltage_mems (s : State) : mems (overvoltage s) = mems s := by
  unfold overvoltage; simp [mems_ite, mems_foldl, mems_getD, eachNat_mems]

@[simp] theorem undervoltage_mems (c mv : Nat) (s : State) : mems (undervoltage c mv s) = mems s := by
  unfold undervoltage; simp [mems_ite, mems_foldl, mems_getD, eachNat_mems]

@[simp] theorem supplyUv_mems (c : Nat) (s : State) : mems (supplyUv c s) = mems s := by
  unfold supplyUv; simp [mems_ite, mems_foldl, mems_getD, eachNat_mems]

@[simp] theorem uvTimeout_mems (s : State) : mems (uvTimeout s) = mems s := by
  unfold uvTimeout; simp [mems_ite, mems_foldl, mems_getD, eachNat_mems]

@[simp] theorem uvTick_mems (c : Nat) (s : State) : mems (uvTick c s) = mems s := by
  unfold uvTick; simp [mems_ite, mems_foldl, mems_getD, eachNat_mems]

@[simp] theorem loopStep_mems (c : Nat) (s : State) : mems (loopStep c s) = mems s := by
  unfold loopStep; simp [mems_ite, mems_foldl, mems_getD, eachNat_mems]

@[simp] theorem headroomLoop_mems (s : State) : mems (headroomLoop s) = mems s := by
  unfold headroomLoop; simp [mems_ite, mems_foldl, mems_getD, eachNat_mems]

@[simp] theorem staleLimit_mems (s : State) : mems (staleLimit s) = mems s := by
  unfold staleLimit; simp [mems_ite, mems_foldl, mems_getD, eachNat_mems]

@[simp] theorem sendDiag_mems (line row : Nat) (s : State) : mems (sendDiag line row s) = mems s := by
  unfold sendDiag; simp [mems_ite, mems_foldl, mems_getD, eachNat_mems]

@[simp] theorem diagAdvance_mems (t : Timing) (s : State) : mems (diagAdvance t s) = mems s := by
  unfold diagAdvance; simp [mems_ite, mems_foldl, mems_getD, eachNat_mems]

@[simp] theorem diagLine_mems (line : Nat) (s : State) : mems (diagLine line s) = mems s := by
  unfold diagLine; dsimp only; (repeat' split) <;> (try simp_all [mems_ite, mems_foldl, mems_getD, eachNat_mems]) <;> (try rfl)

@[simp] theorem emitterLasting_mems (e : Emitter) (s : State) : mems (emitterLasting e s) = mems s := by
  unfold emitterLasting; simp [mems_ite, mems_foldl, mems_getD, eachNat_mems]

@[simp] theorem emitterReport_mems (e : Emitter) (s : State) : mems (emitterReport e s) = mems s := by
  unfold emitterReport; simp [mems_ite, mems_foldl, mems_getD, eachNat_mems]

@[simp] theorem retestTick_mems (s : State) : mems (retestTick s) = mems s := by
  unfold retestTick; simp [mems_ite, mems_foldl, mems_getD, eachNat_mems]

@[simp] theorem pwrTick_mems (scan complete_ : Bool) (s : State) : mems (pwrTick scan complete_ s) = mems s := by
  unfold pwrTick; simp [mems_ite, mems_foldl, mems_getD, eachNat_mems]

@[simp] theorem blackTick_mems (s : State) : mems (blackTick s) = mems s := by
  unfold blackTick; simp [mems_ite, mems_foldl, mems_getD, eachNat_mems]

@[simp] theorem clearTick_mems (s : State) : mems (clearTick s) = mems s := by
  unfold clearTick; simp [mems_ite, mems_foldl, mems_getD, eachNat_mems]

@[simp] theorem clearDone_mems (was : Bool) (s : State) : mems (clearDone was s) = mems s := by
  unfold clearDone; simp [mems_ite, mems_foldl, mems_getD, eachNat_mems]

@[simp] theorem homErr_mems (i : Nat) (s : State) : mems (homErr i s) = mems s := by
  unfold homErr; simp [mems_ite, mems_foldl, mems_getD, eachNat_mems]

@[simp] theorem clrErr_mems (i : Nat) (s : State) : mems (clrErr i s) = mems s := by
  unfold clrErr; simp [mems_ite, mems_foldl, mems_getD, eachNat_mems]

@[simp] theorem ctnErr_mems (i : Nat) (s : State) : mems (ctnErr i s) = mems s := by
  unfold ctnErr; simp [mems_ite, mems_foldl, mems_getD, eachNat_mems]

@[simp] theorem modScan_mems (f : Scan → Scan) (s : State) : mems (modScan f s) = mems s := by
  unfold modScan; simp [mems_ite, mems_foldl, mems_getD, eachNat_mems]

@[simp] theorem tileNotes_mems (f : Frame) (d : PlaneDesc) (tt : List Byte) (failed : Bool) (t r : Nat) (s : State) : mems (tileNotes f d tt failed t r s) = mems s := by
  unfold tileNotes; dsimp only; (repeat' split) <;> (try simp_all [mems_ite, mems_foldl, mems_getD, eachNat_mems]) <;> (try rfl)

@[simp] theorem tilePoison_mems (f : Frame) (i : Nat) (d : PlaneDesc) (tt : List Byte) (failed : Bool) (t r : Nat) (s : State) : mems (tilePoison f i d tt failed t r s) = mems s := by
  unfold tilePoison; simp [mems_ite, mems_foldl, mems_getD, eachNat_mems]

@[simp] theorem fillPlane_mems (t : Timing) (hy : Nat) (poisoned : List (Nat × Nat × Nat)) (f : Frame) (i : Nat) (d : PlaneDesc) (s : State) : mems (fillPlane t hy poisoned f i d s) = mems s := by
  unfold fillPlane; simp [mems_ite, mems_foldl, mems_getD, eachNat_mems]

@[simp] theorem fillPlanes_mems (t : Timing) (hy : Nat) (poisoned : List (Nat × Nat × Nat)) (f : Frame) (s : State) :
    mems (fillPlanes t hy poisoned f s) = mems s := by
  unfold fillPlanes
  refine mems_foldl _ _ _ ?_
  intro s i; split <;> simp

@[simp] theorem lensFill_mems (t : Timing) (hy : Nat) (s : State) : mems (lensFill t hy s) = mems s := by
  unfold lensFill
  generalize (!bitOf s.hom.ctrl.act 0 || _ : Bool) = c
  cases c
  · refine (modScan_mems _ _).trans ?_
    refine (mems_mk _ _ _ _ _ _ _ _ _ _ _ _ _ _ _ _ _ _ _ _ _ _ _ _ _ _ _ _ _).trans ((mems_eta _).trans ?_)
    exact (dramNote_mems _ _ _ _).trans (trnAccess_mems _ _ _ _ _ _)
  · rfl

@[simp] theorem ovlPoison_mems (slot x y n : Nat) (s : State) : mems (ovlPoison slot x y n s) = mems s := by
  unfold ovlPoison; simp [mems_ite, mems_foldl, mems_getD, eachNat_mems]

@[simp] theorem fillOvlRow_mems (o : OvlShow) (y : Nat) (s : State) : mems (fillOvlRow o y s) = mems s := by
  unfold fillOvlRow; simp [mems_ite, mems_foldl, mems_getD, eachNat_mems]

@[simp] theorem ovlFailed_mems (b : Nat × Nat × Nat × Nat) (s : State) : mems (ovlFailed b s) = mems s := by
  unfold ovlFailed; dsimp only; (repeat' split) <;> (try simp_all [mems_ite, mems_foldl, mems_getD, eachNat_mems]) <;> (try rfl)

@[simp] theorem fillOvl_mems (t : Timing) (hy v : Nat) (env : List (Nat × Nat × Nat × Nat)) (s : State) : mems (fillOvl t hy v env s) = mems s := by
  unfold fillOvl; simp [mems_ite, mems_foldl, mems_getD, eachNat_mems]

@[simp] theorem priorRead_mems (t : Timing) (a : Nat) (env : List Nat) (s : State) : mems ((priorRead t a env s).2) = mems s := by
  unfold priorRead; dsimp only
  (repeat' (first
      | (simp [mems_ite, mems_foldl, mems_getD, eachNat_mems]; done)
      | split
      | (refine (mems_foldl _ _ _ ?_).trans ?_ <;> intros)
      | (refine (eachNat_mems _ _ _ ?_).trans ?_ <;> intros)
      | (simp [mems_ite, mems_foldl, mems_getD, eachNat_mems])
      | (grind [→ drawFree_mems_pair, → trnAccess_mems_pair, → meshStream_mems_pair, → dramRead_mems_pair, → wordRead_mems_pair, → spmReadN_mems_pair, → spmRead_mems_pair, → streamOn_mems_pair, → tableRead_mems_pair])))

theorem priorRead_mems_pair (t : Timing) (a : Nat) (env : List Nat) (s : State) {a_ : List Byte} {t_ : State} (h_ : priorRead t a env s = (a_, t_)) : mems t_ = mems s := by
  have e_ := priorRead_mems  t a env s
  rw [h_] at e_; exact e_

@[simp] theorem setDiff_mems (regions : List Nat) (s : State) : mems (setDiff regions s) = mems s := by
  unfold setDiff; simp [mems_ite, mems_foldl, mems_getD, eachNat_mems]

@[simp] theorem tilesRetried_mems (tiles : List (Nat × Nat × Nat)) (f : Frame) (s : State) : mems (tilesRetried tiles f s) = mems s := by
  unfold tilesRetried; dsimp only
  (repeat' (first
      | (simp [mems_ite, mems_foldl, mems_getD, eachNat_mems]; done)
      | split
      | (refine (mems_foldl _ _ _ ?_).trans ?_ <;> intros)
      | (refine (eachNat_mems _ _ _ ?_).trans ?_ <;> intros)
      | (simp [mems_ite, mems_foldl, mems_getD, eachNat_mems])
      | (grind [→ drawFree_mems_pair, → trnAccess_mems_pair, → meshStream_mems_pair, → dramRead_mems_pair, → wordRead_mems_pair, → spmReadN_mems_pair, → spmRead_mems_pair, → streamOn_mems_pair, → tableRead_mems_pair, → priorRead_mems_pair])))

@[simp] theorem pipeClear_mems (q : Nat) (s : State) : mems (pipeClear q s) = mems s := by
  unfold pipeClear; simp [mems_ite, mems_foldl, mems_getD, eachNat_mems]

@[simp] theorem pipeFail_mems (n q : Nat) (s : State) : mems (pipeFail n q s) = mems s := by
  unfold pipeFail; dsimp only; (repeat' split) <;> (try simp_all [mems_ite, mems_foldl, mems_getD, eachNat_mems]) <;> (try rfl)

@[simp] theorem homPipeErr_mems (q line : Nat) (s : State) : mems (homPipeErr q line s) = mems s := by
  unfold homPipeErr; simp [mems_ite, mems_foldl, mems_getD, eachNat_mems]

@[simp] theorem pipesScanned_mems (complete_ : Bool) (s : State) : mems (pipesScanned complete_ s) = mems s := by
  unfold pipesScanned; simp [mems_ite, mems_foldl, mems_getD, eachNat_mems]

@[simp] theorem pipeTested_mems (q : Nat) (pass : Bool) (s : State) : mems (pipeTested q pass s) = mems s := by
  unfold pipeTested; simp [mems_ite, mems_foldl, mems_getD, eachNat_mems]

@[simp] theorem pipeDrawn_mems (q : Nat) (s : State) : mems (pipeDrawn q s) = mems s := by
  unfold pipeDrawn; simp [mems_ite, mems_foldl, mems_getD, eachNat_mems]

@[simp] theorem selfTestTick_mems (pass : Bool) (s : State) : mems (selfTestTick pass s) = mems s := by
  unfold selfTestTick; simp [mems_ite, mems_foldl, mems_getD, eachNat_mems]

@[simp] theorem pipeBringIn_mems (q : Nat) (byHost : Bool) (s : State) : mems (pipeBringIn q byHost s) = mems s := by
  unfold pipeBringIn; dsimp only; (repeat' split) <;> (try simp_all [mems_ite, mems_foldl, mems_getD, eachNat_mems]) <;> (try rfl)

@[simp] theorem pipeSpare_mems (q : Nat) (s : State) : mems (pipeSpare q s) = mems s := by
  unfold pipeSpare; simp [mems_ite, mems_foldl, mems_getD, eachNat_mems]

@[simp] theorem pipeMapTick_mems (mramOk : Bool) (s : State) : mems (pipeMapTick mramOk s) = mems s := by
  unfold pipeMapTick; dsimp only; (repeat' split) <;> (try simp_all [mems_ite, mems_foldl, mems_getD, eachNat_mems]) <;> (try rfl)

@[simp] theorem pipeClean_mems (q : Nat) (s : State) : mems (pipeClean q s) = mems s := by
  unfold pipeClean; simp [mems_ite, mems_foldl, mems_getD, eachNat_mems]

@[simp] theorem publishScan_mems (s : State) : mems (publishScan s) = mems s := by
  unfold publishScan; simp [mems_ite, mems_foldl, mems_getD, eachNat_mems]

@[simp] theorem commitMiss_mems (s : State) : mems (commitMiss s) = mems s := by
  unfold commitMiss; simp [mems_ite, mems_foldl, mems_getD, eachNat_mems]

@[simp] theorem doCommit_mems (h : Hdr) (p : CommitP) (s : State) : mems (doCommit h p s) = mems s := by
  unfold doCommit; simp [mems_ite, mems_foldl, mems_getD, eachNat_mems]

@[simp] theorem layerAccept_mems (h : Hdr) (slot : Nat) (release : Bool) (o : Option OvlShow) (s : State) : mems (layerAccept h slot release o s) = mems s := by
  unfold layerAccept; simp [mems_ite, mems_foldl, mems_getD, eachNat_mems]

@[simp] theorem doLayerSet_mems (h : Hdr) (p : LayerSetP) (s : State) : mems (doLayerSet h p s) = mems s := by
  unfold doLayerSet; dsimp only; (repeat' split) <;> (try simp_all [mems_ite, mems_foldl, mems_getD, eachNat_mems]) <;> (try rfl)

@[simp] theorem layersApply_mems (s : State) : mems (layersApply s) = mems s := by
  unfold layersApply; simp [mems_ite, mems_foldl, mems_getD, eachNat_mems]

@[simp] theorem laCommit_mems (s : State) : mems (laCommit s) = mems s := by
  unfold laCommit; simp [mems_ite, mems_foldl, mems_getD, eachNat_mems]

@[simp] theorem tablesCommit_mems (s : State) : mems (tablesCommit s) = mems s := by
  unfold tablesCommit; simp [mems_ite, mems_foldl, mems_getD, eachNat_mems]

@[simp] theorem commitApply_mems (s : State) : mems (commitApply s) = mems s := by
  unfold commitApply; simp [mems_ite, mems_foldl, mems_getD, eachNat_mems]

@[simp] theorem commitsTick_mems (inTime : Bool) (s : State) : mems (commitsTick inTime s) = mems s := by
  unfold commitsTick; simp [mems_ite, mems_foldl, mems_getD, eachNat_mems]

@[simp] theorem retimeBegin_mems (s : State) : mems (retimeBegin s) = mems s := by
  unfold retimeBegin; simp [mems_ite, mems_foldl, mems_getD, eachNat_mems]

@[simp] theorem timingAccept_mems (j : TimingJob) (s : State) : mems (timingAccept j s) = mems s := by
  unfold timingAccept; simp [mems_ite, mems_foldl, mems_getD, eachNat_mems]

@[simp] theorem doTimingSet_mems (h : Hdr) (p : TimingSetP) (s : State) : mems (doTimingSet h p s) = mems s := by
  unfold doTimingSet; simp [mems_ite, mems_foldl, mems_getD, eachNat_mems]

@[simp] theorem timingDone_mems (s : State) : mems (timingDone s) = mems s := by
  unfold timingDone; dsimp only; (repeat' split) <;> (try simp_all [mems_ite, mems_foldl, mems_getD, eachNat_mems]) <;> (try rfl)

@[simp] theorem deviceRetime_mems (s : State) : mems (deviceRetime s) = mems s := by
  fun_cases deviceRetime s <;> simp_all [mems_ite, mems_foldl, mems_getD, eachNat_mems]

@[simp] theorem setPeriod_mems (t : Timing) (s : State) : mems (setPeriod t s) = mems s := by
  unfold setPeriod; simp [mems_ite, mems_foldl, mems_getD, eachNat_mems]

@[simp] theorem tickBegin_mems (time : Int) (s : State) : mems (tickBegin time s) = mems s := by
  unfold tickBegin; simp [mems_ite, mems_foldl, mems_getD, eachNat_mems]

@[simp] theorem rateApply_mems (time : Int) (s : State) : mems (rateApply time s) = mems s := by
  unfold rateApply; dsimp only; (repeat' split) <;> (try simp_all [mems_ite, mems_foldl, mems_getD, eachNat_mems]) <;> (try rfl)

@[simp] theorem rateStart_mems (s : State) : mems (rateStart s) = mems s := by
  unfold rateStart; dsimp only; (repeat' split) <;> (try simp_all [mems_ite, mems_foldl, mems_getD, eachNat_mems]) <;> (try rfl)

@[simp] theorem retrainTick_mems (s : State) : mems (retrainTick s) = mems s := by
  unfold retrainTick; simp [mems_ite, mems_foldl, mems_getD, eachNat_mems]

@[simp] theorem scanBegin_mems (t : Timing) (black : Bool) (s : State) : mems (scanBegin t black s) = mems s := by
  unfold scanBegin; simp [mems_ite, mems_foldl, mems_getD, eachNat_mems]

@[simp] theorem spansTick_mems (pad : List (Nat × W32)) (s : State) : mems (spansTick pad s) = mems s := by
  unfold spansTick; simp [mems_ite, mems_foldl, mems_getD, eachNat_mems]

@[simp] theorem spansEnd_mems (pad : List (Nat × W32)) (s : State) : mems (spansEnd pad s) = mems s := by
  unfold spansEnd; simp [mems_ite, mems_foldl, mems_getD, eachNat_mems]

@[simp] theorem retimeDark_mems (pad : List (Nat × W32)) (s : State) : mems (retimeDark pad s) = mems s := by
  unfold retimeDark; simp [mems_ite, mems_foldl, mems_getD, eachNat_mems]

@[simp] theorem retimeClear_mems (s : State) : mems (retimeClear s) = mems s := by
  unfold retimeClear; simp [mems_ite, mems_foldl, mems_getD, eachNat_mems]

@[simp] theorem retimeTick_mems (before : Nat) (s : State) : mems (retimeTick before s) = mems s := by
  unfold retimeTick; dsimp only; (repeat' split) <;> (try simp_all [mems_ite, mems_foldl, mems_getD, eachNat_mems]) <;> (try rfl)

@[simp] theorem stopCleared_mems (was : Bool) (s : State) : mems (stopCleared was s) = mems s := by
  unfold stopCleared; simp [mems_ite, mems_foldl, mems_getD, eachNat_mems]

@[simp] theorem scanClose_mems (s : State) : mems (scanClose s) = mems s := by
  unfold scanClose; simp [mems_ite, mems_foldl, mems_getD, eachNat_mems]

@[simp] theorem retimeRampEnd_mems (s : State) : mems (retimeRampEnd s) = mems s := by
  unfold retimeRampEnd; dsimp only; (repeat' split) <;> (try simp_all [mems_ite, mems_foldl, mems_getD, eachNat_mems]) <;> (try rfl)

@[simp] theorem blankLine_mems (l : Nat) (s : State) : mems (blankLine l s) = mems s := by
  unfold blankLine; dsimp only; (repeat' split) <;> (try simp_all [mems_ite, mems_foldl, mems_getD, eachNat_mems]) <;> (try rfl)

@[simp] theorem stripsCheck_mems (s : State) : mems (stripsCheck s) = mems s := by
  unfold stripsCheck; dsimp only; (repeat' split) <;> (try simp_all [mems_ite, mems_foldl, mems_getD, eachNat_mems]) <;> (try rfl)

@[simp] theorem synthesisStart_mems (s : State) : mems (synthesisStart s) = mems s := by
  unfold synthesisStart; dsimp only; (repeat' split) <;> (try simp_all [mems_ite, mems_foldl, mems_getD, eachNat_mems]) <;> (try rfl)

@[simp] theorem underrun_mems (a stage : Nat) (s : State) : mems (underrun a stage s) = mems s := by
  unfold underrun; simp [mems_ite, mems_foldl, mems_getD, eachNat_mems]

@[simp] theorem scanEnd_mems (s : State) : mems (scanEnd s) = mems s := by
  unfold scanEnd; dsimp only; (repeat' split) <;> (try simp_all [mems_ite, mems_foldl, mems_getD, eachNat_mems]) <;> (try rfl)

@[simp] theorem holdExtensionEnd_mems (s : State) : mems (holdExtensionEnd s) = mems s := by
  unfold holdExtensionEnd; dsimp only; (repeat' split) <;> (try simp_all [mems_ite, mems_foldl, mems_getD, eachNat_mems]) <;> (try rfl)

@[simp] theorem linkWake_mems (s : State) : mems (linkWake s) = mems s := by
  unfold linkWake; simp [mems_ite, mems_foldl, mems_getD, eachNat_mems]

@[simp] theorem sceneFrameDue_mems (s : State) : mems (sceneFrameDue s) = mems s := by
  unfold sceneFrameDue; simp [mems_ite, mems_foldl, mems_getD, eachNat_mems]

@[simp] theorem thErr_mems (i : Nat) (s : State) : mems (thErr i s) = mems s := by
  unfold thErr; simp [mems_ite, mems_foldl, mems_getD, eachNat_mems]

@[simp] theorem modSensor_mems (i : Nat) (f : Sensor → Sensor) (s : State) : mems (modSensor i f s) = mems s := by
  unfold modSensor; simp [mems_ite, mems_foldl, mems_getD, eachNat_mems]

@[simp] theorem substApply_mems (i : Nat) (s : State) : mems (substApply i s) = mems s := by
  unfold substApply; dsimp only; (repeat' split) <;> (try simp_all [mems_ite, mems_foldl, mems_getD, eachNat_mems]) <;> (try rfl)

@[simp] theorem sensorLose_mems (i : Nat) (s : State) : mems (sensorLose i s) = mems s := by
  unfold sensorLose; simp [mems_ite, mems_foldl, mems_getD, eachNat_mems]

@[simp] theorem spareReads_mems (i : Nat) (s : State) : mems (spareReads i s) = mems s := by
  fun_cases spareReads i s <;> simp_all [mems_ite, mems_foldl, mems_getD, eachNat_mems]

@[simp] theorem sensorSample_mems (i : Nat) (r : Option Int) (s : State) : mems (sensorSample i r s) = mems s := by
  unfold sensorSample; dsimp only; (repeat' split) <;> (try simp_all [mems_ite, mems_foldl, mems_getD, eachNat_mems]) <;> (try rfl)

@[simp] theorem partnerFails_mems (p : Nat) (s : State) : mems (partnerFails p s) = mems s := by
  unfold partnerFails; simp [mems_ite, mems_foldl, mems_getD, eachNat_mems]

@[simp] theorem substRefresh_mems (s : State) : mems (substRefresh s) = mems s := by
  unfold substRefresh; simp [mems_ite, mems_foldl, mems_getD, eachNat_mems]

@[simp] theorem sitesCheck_mems (s : State) : mems (sitesCheck s) = mems s := by
  unfold sitesCheck; simp [mems_ite, mems_foldl, mems_getD, eachNat_mems]

@[simp] theorem levelSet_mems (lvl skip up dn : Nat) (s : State) : mems (levelSet lvl skip up dn s) = mems s := by
  unfold levelSet; simp [mems_ite, mems_foldl, mems_getD, eachNat_mems]

@[simp] theorem ceilTrack_mems (oldLevel : Nat) (s : State) : mems (ceilTrack oldLevel s) = mems s := by
  unfold ceilTrack; simp [mems_ite, mems_foldl, mems_getD, eachNat_mems]

@[simp] theorem levelEval_mems (s : State) : mems (levelEval s) = mems s := by
  unfold levelEval; simp [mems_ite, mems_foldl, mems_getD, eachNat_mems]

@[simp] theorem thPause_mems (s : State) : mems (thPause s) = mems s := by
  unfold thPause; simp [mems_ite, mems_foldl, mems_getD, eachNat_mems]

@[simp] theorem critZone_mems (s : State) (g : Nat) : mems (critZone s g) = mems s := by
  unfold critZone; simp [mems_ite, mems_foldl, mems_getD, eachNat_mems]

@[simp] theorem critOwn_mems (p : Nat) (s : State) : mems (critOwn p s) = mems s := by
  unfold critOwn; simp [mems_ite, mems_foldl, mems_getD, eachNat_mems]

@[simp] theorem periodCount_mems (n : Nat) (s : State) : mems (periodCount n s) = mems s := by
  unfold periodCount; simp [mems_ite, mems_foldl, mems_getD, eachNat_mems]

@[simp] theorem refinSample_mems (good : Bool) (s : State) : mems (refinSample good s) = mems s := by
  unfold refinSample; simp [mems_ite, mems_foldl, mems_getD, eachNat_mems]

@[simp] theorem refinReturn_mems (s : State) : mems (refinReturn s) = mems s := by
  unfold refinReturn; simp [mems_ite, mems_foldl, mems_getD, eachNat_mems]

@[simp] theorem thSample_mems (env : SampleEnv) (s : State) : mems (thSample env s) = mems s := by
  unfold thSample; simp [mems_ite, mems_foldl, mems_getD, eachNat_mems]

@[simp] theorem sensorBringIn_mems (i : Nat) (byHost mramOk : Bool) (s : State) : mems (sensorBringIn i byHost mramOk s) = mems s := by
  unfold sensorBringIn; simp [mems_ite, mems_foldl, mems_getD, eachNat_mems]

@[simp] theorem sensorSpare_mems (i : Nat) (mramOk : Bool) (s : State) : mems (sensorSpare i mramOk s) = mems s := by
  unfold sensorSpare; simp [mems_ite, mems_foldl, mems_getD, eachNat_mems]

@[simp] theorem sensorClean_mems (i : Nat) (s : State) : mems (sensorClean i s) = mems s := by
  unfold sensorClean; simp [mems_ite, mems_foldl, mems_getD, eachNat_mems]

@[simp] theorem ackL3_mems (s : State) : mems (ackL3 s) = mems s := by
  unfold ackL3; simp [mems_ite, mems_foldl, mems_getD, eachNat_mems]

@[simp] theorem limitsWrite_mems (v : W32) (s : State) : mems (limitsWrite v s) = mems s := by
  unfold limitsWrite; simp [mems_ite, mems_foldl, mems_getD, eachNat_mems]

@[simp] theorem tripRead_mems (s : State) : mems (tripRead s) = mems s := by
  unfold tripRead; simp [mems_ite, mems_foldl, mems_getD, eachNat_mems]

@[simp] theorem tripClear_mems (v : W32) (s : State) : mems (tripClear v s) = mems s := by
  unfold tripClear; dsimp only; (repeat' split) <;> (try simp_all [mems_ite, mems_foldl, mems_getD, eachNat_mems]) <;> (try rfl)

@[simp] theorem tempTake_mems (g : Nat) (pkt : List Byte) (s : State) : mems (tempTake g pkt s) = mems s := by
  unfold tempTake; dsimp only; (repeat' split) <;> (try simp_all [mems_ite, mems_foldl, mems_getD, eachNat_mems]) <;> (try rfl)

@[simp] theorem tempRx_mems (g : Nat) (pkt : List Byte) (s : State) : mems (tempRx g pkt s) = mems s := by
  unfold tempRx; dsimp only; (repeat' split) <;> (try simp_all [mems_ite, mems_foldl, mems_getD, eachNat_mems]) <;> (try rfl)

@[simp] theorem tempStaleEv_mems (g : Nat) (s : State) : mems (tempStaleEv g s) = mems s := by
  fun_cases tempStaleEv g s <;> simp_all [mems_ite, mems_foldl, mems_getD, eachNat_mems]

@[simp] theorem overtemp_mems (p : Nat) (s : State) : mems (overtemp p s) = mems s := by
  unfold overtemp; simp [mems_ite, mems_foldl, mems_getD, eachNat_mems]

@[simp] theorem faultForward_mems (g : Nat) (pkt : List Byte) (s : State) : mems (faultForward g pkt s) = mems s := by
  unfold faultForward; dsimp only; (repeat' split) <;> (try simp_all [mems_ite, mems_foldl, mems_getD, eachNat_mems]) <;> (try rfl)

@[simp] theorem faultRx_mems (g : Nat) (pkt : List Byte) (s : State) : mems (faultRx g pkt s) = mems s := by
  unfold faultRx; simp [mems_ite, mems_foldl, mems_getD, eachNat_mems]

@[simp] theorem shwErr_mems (i : Nat) (s : State) : mems (shwErr i s) = mems s := by
  unfold shwErr; simp [mems_ite, mems_foldl, mems_getD, eachNat_mems]

@[simp] theorem modCh_mems (c : Nat) (f : Channel → Channel) (s : State) : mems (modCh c f s) = mems s := by
  unfold modCh; simp [mems_ite, mems_foldl, mems_getD, eachNat_mems]

@[simp] theorem chanPop_mems (c : Nat) (st : Status) (detail : W64) (s : State) : mems (chanPop c st detail s) = mems s := by
  unfold chanPop; dsimp only; (repeat' split) <;> (try simp_all [mems_ite, mems_foldl, mems_getD, eachNat_mems]) <;> (try rfl)

@[simp] theorem blitStart_mems (c : Nat) (b : Blit) (s : State) : mems (blitStart c b s) = mems s := by
  unfold blitStart; dsimp only; (repeat' split) <;> (try simp_all [mems_ite, mems_foldl, mems_getD, eachNat_mems]) <;> (try rfl)

@[simp] theorem chanKick1_mems (c : Nat) (s : State) : mems (chanKick1 c s) = mems s := by
  unfold chanKick1; dsimp only; (repeat' split) <;> (try simp_all [mems_ite, mems_foldl, mems_getD, eachNat_mems]) <;> (try rfl)

@[simp] theorem chansKick_mems (s : State) : mems (chansKick s) = mems s := by
  unfold chansKick; simp [mems_ite, mems_foldl, mems_getD, eachNat_mems]

@[simp] theorem doBlit_mems (kind : BlitKind) (h : Hdr) (p : BlitP) (s : State) : mems (doBlit kind h p s) = mems s := by
  fun_cases doBlit kind h p s <;> simp_all [mems_ite, mems_foldl, mems_getD, eachNat_mems]

@[simp] theorem shwRead_mems (m : Nat) (spm : Bool) (a n : Nat) (eccs : List Ecc) (s : State) : mems ((shwRead m spm a n eccs s).2.2) = mems s := by
  unfold shwRead; dsimp only
  (repeat' (first
      | (simp [mems_ite, mems_foldl, mems_getD, eachNat_mems]; done)
      | split
      | (refine (mems_foldl _ _ _ ?_).trans ?_ <;> intros)
      | (refine (eachNat_mems _ _ _ ?_).trans ?_ <;> intros)
      | (simp [mems_ite, mems_foldl, mems_getD, eachNat_mems])
      | (grind [→ drawFree_mems_pair, → trnAccess_mems_pair, → meshStream_mems_pair, → dramRead_mems_pair, → wordRead_mems_pair, → spmReadN_mems_pair, → spmRead_mems_pair, → streamOn_mems_pair, → tableRead_mems_pair, → priorRead_mems_pair])))

theorem shwRead_mems_pair (m : Nat) (spm : Bool) (a n : Nat) (eccs : List Ecc) (s : State) {a_ : Option Status} {b_ : MemRes} {t_ : State} (h_ : shwRead m spm a n eccs s = (a_, b_, t_)) : mems t_ = mems s := by
  have e_ := shwRead_mems  m spm a n eccs s
  rw [h_] at e_; exact e_

@[simp] theorem chanStop_mems (c : Nat) (st : Status) (s : State) : mems (chanStop c st s) = mems s := by
  unfold chanStop; simp [mems_ite, mems_foldl, mems_getD, eachNat_mems]

@[simp] theorem burstWritten_mems (c : Nat) (b : Blit) (poison : Bool) (s : State) : mems (burstWritten c b poison s) = mems s := by
  unfold burstWritten; simp [mems_ite, mems_foldl, mems_getD, eachNat_mems]

@[simp] theorem burstSource_mems (c : Nat) (b : Blit) (x0 n y : Nat) (eccs : List Ecc) (s : State) : mems ((burstSource c b x0 n y eccs s).2.2) = mems s := by
  unfold burstSource; dsimp only; (repeat' split) <;> (try simp_all [mems_ite, mems_foldl, mems_getD, eachNat_mems]) <;> (try rfl)

theorem burstSource_mems_pair (c : Nat) (b : Blit) (x0 n y : Nat) (eccs : List Ecc) (s : State) {a_ : Option Status} {b_ : MemRes} {t_ : State} (h_ : burstSource c b x0 n y eccs s = (a_, b_, t_)) : mems t_ = mems s := by
  have e_ := burstSource_mems  c b x0 n y eccs s
  rw [h_] at e_; exact e_

@[simp] theorem deadPass_mems (c : Nat) (s : State) : mems (deadPass c s) = mems s := by
  unfold deadPass; simp [mems_ite, mems_foldl, mems_getD, eachNat_mems]

@[simp] theorem burstIssued_mems (c : Nat) (s : State) : mems (burstIssued c s) = mems s := by
  unfold burstIssued; simp [mems_ite, mems_foldl, mems_getD, eachNat_mems]

@[simp] theorem shwAbort_mems (c : Nat) (s : State) : mems (shwAbort c s) = mems s := by
  unfold shwAbort; simp [mems_ite, mems_foldl, mems_getD, eachNat_mems]

@[simp] theorem shwDisable_mems (s : State) : mems (shwDisable s) = mems s := by
  unfold shwDisable; simp [mems_ite, mems_foldl, mems_getD, eachNat_mems]

@[simp] theorem wmStart_mems (n : Nat) (s : State) : mems (wmStart n s) = mems s := by
  unfold wmStart
  refine (chansKick_mems _).trans (eachNat_mems _ _ _ ?_)
  intro c t
  split
  · split <;> simp
  · rfl

@[simp] theorem watermarkFire_mems (n : Nat) (s : State) : mems (watermarkFire n s) = mems s := by
  unfold watermarkFire; dsimp only; (repeat' split) <;> (try simp_all [mems_ite, mems_foldl, mems_getD, eachNat_mems]) <;> (try rfl)

@[simp] theorem modCtx_mems (c : Nat) (f : Ctx → Ctx) (s : State) : mems (modCtx c f s) = mems s := by
  unfold modCtx; simp [mems_ite, mems_foldl, mems_getD, eachNat_mems]

@[simp] theorem jobAtOnce_mems (decode : Bool) (h : Hdr) (c : Nat) (st : Status) (s : State) : mems (jobAtOnce decode h c st s) = mems s := by
  unfold jobAtOnce; simp [mems_ite, mems_foldl, mems_getD, eachNat_mems]

@[simp] theorem doJob_mems (decode : Bool) (h : Hdr) (p : CtnJobP) (s : State) : mems (doJob decode h p s) = mems s := by
  unfold doJob; simp [mems_ite, mems_foldl, mems_getD, eachNat_mems]

@[simp] theorem jobRead_mems (m : Nat) (spm : Bool) (a n : Nat) (eccs : List Ecc) (s : State) : mems ((jobRead m spm a n eccs s).2.2) = mems s := by
  unfold jobRead; dsimp only
  (repeat' (first
      | (simp [mems_ite, mems_foldl, mems_getD, eachNat_mems]; done)
      | split
      | (refine (mems_foldl _ _ _ ?_).trans ?_ <;> intros)
      | (refine (eachNat_mems _ _ _ ?_).trans ?_ <;> intros)
      | (simp [mems_ite, mems_foldl, mems_getD, eachNat_mems])
      | (grind [→ drawFree_mems_pair, → trnAccess_mems_pair, → meshStream_mems_pair, → dramRead_mems_pair, → wordRead_mems_pair, → spmReadN_mems_pair, → spmRead_mems_pair, → streamOn_mems_pair, → tableRead_mems_pair, → priorRead_mems_pair, → shwRead_mems_pair, → burstSource_mems_pair])))

theorem jobRead_mems_pair (m : Nat) (spm : Bool) (a n : Nat) (eccs : List Ecc) (s : State) {a_ : Option Status} {b_ : MemRes} {t_ : State} (h_ : jobRead m spm a n eccs s = (a_, b_, t_)) : mems t_ = mems s := by
  have e_ := jobRead_mems  m spm a n eccs s
  rw [h_] at e_; exact e_

@[simp] theorem takeEntry_mems (m : Nat) (p : CtnJobP) (lossEnc : Bool) (i : Nat) (eccs : List Ecc) (s : State) : mems ((takeEntry m p lossEnc i eccs s).2) = mems s := by
  unfold takeEntry; dsimp only
  (repeat' (first
      | (simp [mems_ite, mems_foldl, mems_getD, eachNat_mems]; done)
      | split
      | (refine (mems_foldl _ _ _ ?_).trans ?_ <;> intros)
      | (refine (eachNat_mems _ _ _ ?_).trans ?_ <;> intros)
      | (simp [mems_ite, mems_foldl, mems_getD, eachNat_mems])
      | (grind [→ drawFree_mems_pair, → trnAccess_mems_pair, → meshStream_mems_pair, → dramRead_mems_pair, → wordRead_mems_pair, → spmReadN_mems_pair, → spmRead_mems_pair, → streamOn_mems_pair, → tableRead_mems_pair, → priorRead_mems_pair, → shwRead_mems_pair, → burstSource_mems_pair, → jobRead_mems_pair])))

theorem takeEntry_mems_pair (m : Nat) (p : CtnJobP) (lossEnc : Bool) (i : Nat) (eccs : List Ecc) (s : State) {a_ : Sum Status (Nat × Nat)} {t_ : State} (h_ : takeEntry m p lossEnc i eccs s = (a_, t_)) : mems t_ = mems s := by
  have e_ := takeEntry_mems  m p lossEnc i eccs s
  rw [h_] at e_; exact e_

@[simp] theorem jobFinish_mems (c : Nat) (st : Status) (state : CtxState) (used made : Nat) (s : State) : mems (jobFinish c st state used made s) = mems s := by
  unfold jobFinish; dsimp only; (repeat' split) <;> (try simp_all [mems_ite, mems_foldl, mems_getD, eachNat_mems]) <;> (try rfl)

@[simp] theorem jobErrs_mems (st : Status) (s : State) : mems (jobErrs st s) = mems s := by
  fun_cases jobErrs st s <;> simp_all [mems_ite, mems_foldl, mems_getD, eachNat_mems]

@[simp] theorem ctxCommand_mems (op : Byte) (h : Hdr) (p : CtnStateP) (go : State → State) (s : State)
    (hf : ∀ s, mems (go s) = mems s) : mems (ctxCommand op h p go s) = mems s := by
  unfold ctxCommand; (try dsimp only); (repeat' split) <;> simp [hf]

@[simp] theorem doCtxRestore_mems (h : Hdr) (p : CtnStateP) (s : State) : mems (doCtxRestore h p s) = mems s := by
  unfold doCtxRestore
  refine ctxCommand_mems _ _ _ _ _ fun t => ?_
  dsimp only
  split <;> rename_i h1 <;> have e1 := jobRead_mems_pair _ _ _ _ _ _ h1
  · simpa using e1
  · (repeat' split) <;> simpa using e1

@[simp] theorem meshOffline_mems (p cause : Nat) (s : State) : mems (meshOffline p cause s) = mems s := by
  unfold meshOffline; simp [mems_ite, mems_foldl, mems_getD, eachNat_mems]

@[simp] theorem meshOnline_mems (p : Nat) (s : State) : mems (meshOnline p s) = mems s := by
  unfold meshOnline; dsimp only; (repeat' split) <;> (try simp_all [mems_ite, mems_foldl, mems_getD, eachNat_mems]) <;> (try rfl)

@[simp] theorem meshSendTs_mems (p kind flags : Nat) (s : State) : mems (meshSendTs p kind flags s) = mems s := by
  unfold meshSendTs; simp [mems_ite, mems_foldl, mems_getD, eachNat_mems]

@[simp] theorem meshConfig_mems (p : Nat) (s : State) : mems (meshConfig p s) = mems s := by
  unfold meshConfig; simp [mems_ite, mems_foldl, mems_getD, eachNat_mems]

@[simp] theorem meshTrain_mems (p : Nat) (link : MeshLink) (s : State) : mems (meshTrain p link s) = mems s := by
  unfold meshTrain; simp [mems_ite, mems_foldl, mems_getD, eachNat_mems]

@[simp] theorem meshStart_mems (p : Nat) (s : State) : mems (meshStart p s) = mems s := by
  unfold meshStart; simp [mems_ite, mems_foldl, mems_getD, eachNat_mems]

@[simp] theorem meshStartAll_mems (s : State) : mems (meshStartAll s) = mems s := by
  unfold meshStartAll; simp [mems_ite, mems_foldl, mems_getD, eachNat_mems]

@[simp] theorem meshDisable_mems (p cause : Nat) (s : State) : mems (meshDisable p cause s) = mems s := by
  unfold meshDisable; simp [mems_ite, mems_foldl, mems_getD, eachNat_mems]

@[simp] theorem trzCtrlWrite_mems (v : W32) (s : State) : mems (trzCtrlWrite v s) = mems s := by
  unfold trzCtrlWrite; simp [mems_ite, mems_foldl, mems_getD, eachNat_mems]

@[simp] theorem meshMiswire_mems (p : Nat) (s : State) : mems (meshMiswire p s) = mems s := by
  unfold meshMiswire; simp [mems_ite, mems_foldl, mems_getD, eachNat_mems]

@[simp] theorem meshTs1_mems (p : Nat) (ts : List Byte) (s : State) : mems (meshTs1 p ts s) = mems s := by
  unfold meshTs1; simp [mems_ite, mems_foldl, mems_getD, eachNat_mems]

@[simp] theorem meshTsRx_mems (p : Nat) (ts : List Byte) (s : State) : mems (meshTsRx p ts s) = mems s := by
  unfold meshTsRx; simp [mems_ite, mems_foldl, mems_getD, eachNat_mems]

@[simp] theorem drawNonce_mems (s : State) : mems ((drawNonce s).2) = mems s := by
  unfold drawNonce; simp [mems_ite, mems_foldl, mems_getD, eachNat_mems]

theorem drawNonce_mems_pair (s : State) {a_ : List Byte} {t_ : State} (h_ : drawNonce s = (a_, t_)) : mems t_ = mems s := by
  have e_ := drawNonce_mems  s
  rw [h_] at e_; exact e_

@[simp] theorem sendHello_mems (p : Nat) (nonce : List Byte) (s : State) : mems (sendHello p nonce s) = mems s := by
  unfold sendHello; simp [mems_ite, mems_foldl, mems_getD, eachNat_mems]

@[simp] theorem meshAuth_mems (p : Nat) (s : State) : mems (meshAuth p s) = mems s := by
  unfold meshAuth; simp [mems_ite, mems_foldl, mems_getD, eachNat_mems]

@[simp] theorem meshReplay_mems (p lseq : Nat) (s : State) : mems (meshReplay p lseq s) = mems s := by
  unfold meshReplay; simp [mems_ite, mems_foldl, mems_getD, eachNat_mems]

@[simp] theorem meshUp_mems (p : Nat) (s : State) : mems (meshUp p s) = mems s := by
  unfold meshUp; dsimp only; (repeat' split) <;> (try simp_all [mems_ite, mems_foldl, mems_getD, eachNat_mems]) <;> (try rfl)

@[simp] theorem laneCommit_mems (p : Nat) (lanes : List Nat) (s : State) : mems (laneCommit p lanes s) = mems s := by
  unfold laneCommit; simp [mems_ite, mems_foldl, mems_getD, eachNat_mems]

@[simp] theorem meshSds_mems (p : Nat) (s : State) : mems (meshSds p s) = mems s := by
  unfold meshSds; simp [mems_ite, mems_foldl, mems_getD, eachNat_mems]

@[simp] theorem lanesFailed_mems (p : Nat) (lanes : List Nat) (s : State) : mems (lanesFailed p lanes s) = mems s := by
  unfold lanesFailed; simp [mems_ite, mems_foldl, mems_getD, eachNat_mems]

@[simp] theorem meshTrained_mems (p : Nat) (t : MeshTrain) (s : State) : mems (meshTrained p t s) = mems s := by
  unfold meshTrained; simp [mems_ite, mems_foldl, mems_getD, eachNat_mems]

@[simp] theorem meshTrainTimeout_mems (p : Nat) (s : State) : mems (meshTrainTimeout p s) = mems s := by
  unfold meshTrainTimeout; simp [mems_ite, mems_foldl, mems_getD, eachNat_mems]

@[simp] theorem meshFailedRetry_mems (p : Nat) (s : State) : mems (meshFailedRetry p s) = mems s := by
  unfold meshFailedRetry; simp [mems_ite, mems_foldl, mems_getD, eachNat_mems]

@[simp] theorem meshRetrain_mems (p : Nat) (s : State) : mems (meshRetrain p s) = mems s := by
  fun_cases meshRetrain p s <;> simp_all [mems_ite, mems_foldl, mems_getD, eachNat_mems]

@[simp] theorem expectWrite_mems (p : Nat) (v : W32) (s : State) : mems (expectWrite p v s) = mems s := by
  unfold expectWrite; simp [mems_ite, mems_foldl, mems_getD, eachNat_mems]

@[simp] theorem meshFirWrite_mems (p : Nat) (v : W32) (s : State) : mems (meshFirWrite p v s) = mems s := by
  unfold meshFirWrite; simp [mems_ite, mems_foldl, mems_getD, eachNat_mems]

@[simp] theorem laneWindow_mems (p lane bad : Nat) (s : State) : mems (laneWindow p lane bad s) = mems s := by
  unfold laneWindow; simp [mems_ite, mems_foldl, mems_getD, eachNat_mems]

@[simp] theorem laneSpare_mems (p lane : Nat) (mramOk : Bool) (s : State) : mems (laneSpare p lane mramOk s) = mems s := by
  unfold laneSpare; simp [mems_ite, mems_foldl, mems_getD, eachNat_mems]

@[simp] theorem meshClean_mems (p : Nat) (s : State) : mems (meshClean p s) = mems s := by
  unfold meshClean; simp [mems_ite, mems_foldl, mems_getD, eachNat_mems]

@[simp] theorem sendNak_mems (p lseq : Nat) (s : State) : mems (sendNak p lseq s) = mems s := by
  unfold sendNak; simp [mems_ite, mems_foldl, mems_getD, eachNat_mems]

@[simp] theorem macFail_mems (p : Nat) (s : State) : mems (macFail p s) = mems s := by
  unfold macFail; simp [mems_ite, mems_foldl, mems_getD, eachNat_mems]

@[simp] theorem meshBad_mems (p : Nat) (s : State) : mems (meshBad p s) = mems s := by
  unfold meshBad; simp [mems_ite, mems_foldl, mems_getD, eachNat_mems]

@[simp] theorem sendAck_mems (p lseq : Nat) (s : State) : mems (sendAck p lseq s) = mems s := by
  unfold sendAck; simp [mems_ite, mems_foldl, mems_getD, eachNat_mems]

@[simp] theorem meshTake_mems (p cls : Nat) (s : State) : mems (meshTake p cls s) = mems s := by
  unfold meshTake; simp [mems_ite, mems_foldl, mems_getD, eachNat_mems]

@[simp] theorem meshRx_mems (p cls kind : Nat) (b : List Byte) (f : State → State) (s : State)
    (hf : ∀ s, mems (f s) = mems s) : mems (meshRx p cls kind b f s) = mems s := by
  unfold meshRx; (try dsimp only); (repeat' split) <;> simp [hf]

@[simp] theorem ackTake_mems (p lseq : Nat) (s : State) : mems (ackTake p lseq s) = mems s := by
  unfold ackTake; simp [mems_ite, mems_foldl, mems_getD, eachNat_mems]

@[simp] theorem ackRx_mems (p : Nat) (b : List Byte) (lseq : Nat) (s : State) : mems (ackRx p b lseq s) = mems s := by
  unfold ackRx; simp [mems_ite, mems_foldl, mems_getD, eachNat_mems]

@[simp] theorem nakTake_mems (p lseq : Nat) (s : State) : mems (nakTake p lseq s) = mems s := by
  unfold nakTake; simp [mems_ite, mems_foldl, mems_getD, eachNat_mems]

@[simp] theorem nakRx_mems (p : Nat) (b : List Byte) (lseq : Nat) (s : State) : mems (nakRx p b lseq s) = mems s := by
  unfold nakRx; simp [mems_ite, mems_foldl, mems_getD, eachNat_mems]

@[simp] theorem creditRx_mems (p : Nat) (b : List Byte) (cls n : Nat) (s : State) : mems (creditRx p b cls n s) = mems s := by
  unfold creditRx; simp [mems_ite, mems_foldl, mems_getD, eachNat_mems]

@[simp] theorem creditStall_mems (p : Nat) (s : State) : mems (creditStall p s) = mems s := by
  unfold creditStall; simp [mems_ite, mems_foldl, mems_getD, eachNat_mems]

@[simp] theorem meshLockLost_mems (p : Nat) (s : State) : mems (meshLockLost p s) = mems s := by
  unfold meshLockLost; simp [mems_ite, mems_foldl, mems_getD, eachNat_mems]

@[simp] theorem meshDrop_mems (p : Nat) (s : State) : mems (meshDrop p s) = mems s := by
  unfold meshDrop; simp [mems_ite, mems_foldl, mems_getD, eachNat_mems]

@[simp] theorem meshForward_mems (p cls kind : Nat) (b : List Byte) (words : List Nat) (bytes : List Byte)
    (here : State → State) (s : State) (hf : ∀ s, mems (here s) = mems s) :
    mems (meshForward p cls kind b words bytes here s) = mems s := by
  unfold meshForward; (try dsimp only); (repeat' split) <;> simp [hf]

@[simp] theorem forwardTimeout_mems (p : Nat) (s : State) : mems (forwardTimeout p s) = mems s := by
  unfold forwardTimeout; dsimp only; (repeat' split) <;> (try simp_all [mems_ite, mems_foldl, mems_getD, eachNat_mems]) <;> (try rfl)

@[simp] theorem authFail_mems (p : Nat) (s : State) : mems (authFail p s) = mems s := by
  unfold authFail; simp [mems_ite, mems_foldl, mems_getD, eachNat_mems]

@[simp] theorem helloRx_mems (p : Nat) (b : List Byte) (peer : Nat) (nonce ownNonce : List Byte) (s : State) : mems (helloRx p b peer nonce ownNonce s) = mems s := by
  unfold helloRx; simp [mems_ite, mems_foldl, mems_getD, eachNat_mems]

@[simp] theorem proofRx_mems (p : Nat) (b proof : List Byte) (s : State) : mems (proofRx p b proof s) = mems s := by
  unfold proofRx; simp [mems_ite, mems_foldl, mems_getD, eachNat_mems]

@[simp] theorem authTimeout_mems (p : Nat) (s : State) : mems (authTimeout p s) = mems s := by
  unfold authTimeout; simp [mems_ite, mems_foldl, mems_getD, eachNat_mems]

@[simp] theorem authRetry_mems (p : Nat) (nonce : List Byte) (s : State) : mems (authRetry p nonce s) = mems s := by
  unfold authRetry; simp [mems_ite, mems_foldl, mems_getD, eachNat_mems]

@[simp] theorem halocancelRx_mems (p : Nat) (b : List Byte) (target : Time96) (s : State) : mems (halocancelRx p b target s) = mems s := by
  unfold halocancelRx; simp [mems_ite, mems_foldl, mems_getD, eachNat_mems]

@[simp] theorem nextMeshId_mems (s : State) : mems ((nextMeshId s).2) = mems s := by
  unfold nextMeshId; simp [mems_ite, mems_foldl, mems_getD, eachNat_mems]

theorem nextMeshId_mems_pair (s : State) {a_ : Nat} {t_ : State} (h_ : nextMeshId s = (a_, t_)) : mems t_ = mems s := by
  have e_ := nextMeshId_mems  s
  rw [h_] at e_; exact e_

@[simp] theorem gwCompletion_mems (id : Nat) (status : Byte) (detail : W64) (s : State) : mems (gwCompletion id status detail s) = mems s := by
  unfold gwCompletion; dsimp only; (repeat' split) <;> (try simp_all [mems_ite, mems_foldl, mems_getD, eachNat_mems]) <;> (try rfl)

@[simp] theorem gwTimeout_mems (id : Nat) (s : State) : mems (gwTimeout id s) = mems s := by
  unfold gwTimeout; dsimp only; (repeat' split) <;> (try simp_all [mems_ite, mems_foldl, mems_getD, eachNat_mems]) <;> (try rfl)

@[simp] theorem routePieces_mems (dst cls kind : Nat) (words : List Nat) (bs : List Byte) (s : State) :
    mems (routePieces dst cls kind words bs s) = mems s := by
  have e : ∀ (l : List (List Byte)) (x : Nat × State), mems (l.foldl (fun x piece =>
      (x.1 + 4096, meshRoute dst cls kind (words ++ [x.1]) piece x.2)) x).2 = mems x.2 := by
    intro l
    induction l with
    | nil => intro x; rfl
    | cons a l ih => intro x; rw [List.foldl_cons, ih]; simp
  exact e _ _

@[simp] theorem gwSend_mems (h : Hdr) (op : Byte) (dst : Nat) (packet : List Byte) (s : State) : mems (gwSend h op dst packet s) = mems s := by
  unfold gwSend; simp [mems_ite, mems_foldl, mems_getD, eachNat_mems]

@[simp] theorem dataRequest_mems (p : Nat) (b : List Byte) (id addr len : Nat) (ans : HostAns) (s : State) :
    mems (dataRequest p b id addr len ans s) = mems s := by
  unfold dataRequest
  refine meshRx_mems _ _ _ _ _ _ fun t => meshForward_mems _ _ _ _ _ _ _ _ fun u => ?_
  dsimp only; (repeat' split) <;> simp

@[simp] theorem sendEnd_mems (id : Nat) (st : Status) (s : State) : mems (sendEnd id st s) = mems s := by
  unfold sendEnd; dsimp only; (repeat' split) <;> (try simp_all [mems_ite, mems_foldl, mems_getD, eachNat_mems]) <;> (try rfl)

@[simp] theorem msgAck_mems (p : Nat) (b : List Byte) (id : Nat) (s : State) : mems (msgAck p b id s) = mems s := by
  unfold msgAck; simp [mems_ite, mems_foldl, mems_getD, eachNat_mems]

@[simp] theorem tb1Step_mems (q : Int) (s : State) : mems (tb1Step q s) = mems s := by
  unfold tb1Step; simp [mems_ite, mems_foldl, mems_getD, eachNat_mems]

@[simp] theorem clpSnap_mems (n : Nat) (s : State) : mems (clpSnap n s) = mems s := by
  unfold clpSnap; simp [mems_ite, mems_foldl, mems_getD, eachNat_mems]

@[simp] theorem clpTb1Step_mems (v : W32) (s : State) : mems (clpTb1Step v s) = mems s := by
  unfold clpTb1Step; simp [mems_ite, mems_foldl, mems_getD, eachNat_mems]

@[simp] theorem tb0OffsetWrite_mems (v : W32) (s : State) : mems (tb0OffsetWrite v s) = mems s := by
  unfold tb0OffsetWrite; simp [mems_ite, mems_foldl, mems_getD, eachNat_mems]

@[simp] theorem tb2OffsetWrite_mems (v : W32) (s : State) : mems (tb2OffsetWrite v s) = mems s := by
  unfold tb2OffsetWrite; simp [mems_ite, mems_foldl, mems_getD, eachNat_mems]

@[simp] theorem tb3SetWrite_mems (v : W32) (s : State) : mems (tb3SetWrite v s) = mems s := by
  unfold tb3SetWrite; simp [mems_ite, mems_foldl, mems_getD, eachNat_mems]

@[simp] theorem syncSend_mems (s : State) : mems (syncSend s) = mems s := by
  unfold syncSend; simp [mems_ite, mems_foldl, mems_getD, eachNat_mems]

@[simp] theorem pdelaySend_mems (p : Nat) (s : State) : mems (pdelaySend p s) = mems s := by
  unfold pdelaySend; simp [mems_ite, mems_foldl, mems_getD, eachNat_mems]

@[simp] theorem pdelayReq_mems (p : Nat) (b : List Byte) (tRx : Time96) (s : State) : mems (pdelayReq p b tRx s) = mems s := by
  unfold pdelayReq; simp [mems_ite, mems_foldl, mems_getD, eachNat_mems]

@[simp] theorem pdelayResp_mems (p : Nat) (b : List Byte) (tRx : Time96) (s : State) :
    mems (pdelayResp p b tRx s) = mems s := by
  unfold pdelayResp
  refine meshRx_mems _ _ _ _ _ _ fun t => ?_
  (try dsimp only); split <;> simp

@[simp] theorem servo_mems (off : Int) (s : State) : mems (servo off s) = mems s := by
  unfold servo; dsimp only; (repeat' split) <;> (try simp_all [mems_ite, mems_foldl, mems_getD, eachNat_mems]) <;> (try rfl)

@[simp] theorem syncRx_mems (p : Nat) (b : List Byte) (steps : Nat) (tRx : Time96) (s : State) : mems (syncRx p b steps tRx s) = mems s := by
  unfold syncRx; simp [mems_ite, mems_foldl, mems_getD, eachNat_mems]

@[simp] theorem clpHoldover_mems (s : State) : mems (clpHoldover s) = mems s := by
  unfold clpHoldover; simp [mems_ite, mems_foldl, mems_getD, eachNat_mems]

@[simp] theorem drawTest_mems (s : State) : mems ((drawTest s).2) = mems s := by
  unfold drawTest; simp [mems_ite, mems_foldl, mems_getD, eachNat_mems]

theorem drawTest_mems_pair (s : State) {a_ : Bool} {t_ : State} (h_ : drawTest s = (a_, t_)) : mems t_ = mems s := by
  have e_ := drawTest_mems  s
  rw [h_] at e_; exact e_

@[simp] theorem doUnitGet_mems (h : Hdr) (p : UnitP) (s : State) : mems (doUnitGet h p s) = mems s := by
  unfold doUnitGet; simp [mems_ite, mems_foldl, mems_getD, eachNat_mems]

@[simp] theorem windowsClear_mems (cls idx : Nat) (s : State) : mems (windowsClear cls idx s) = mems s := by
  fun_cases windowsClear cls idx s <;> simp_all [mems_ite, mems_foldl, mems_getD, eachNat_mems]

@[simp] theorem unitLogicReset_mems (cls idx : Nat) (s : State) : mems (unitLogicReset cls idx s) = mems s := by
  unfold unitLogicReset; dsimp only; (repeat' split) <;> (try simp_all [mems_ite, mems_foldl, mems_getD, eachNat_mems]) <;> (try rfl)

@[simp] theorem unitTested_mems (cls idx : Nat) (pass : Bool) (s : State) : mems (unitTested cls idx pass s) = mems s := by
  unfold unitTested; simp [mems_ite, mems_foldl, mems_getD, eachNat_mems]

@[simp] theorem testStart_mems (cls idx : Nat) (s : State) : mems (testStart cls idx s) = mems s := by
  fun_cases testStart cls idx s <;> simp_all [mems_ite, mems_foldl, mems_getD, eachNat_mems]

@[simp] theorem doResetUnit_mems (h : Hdr) (p : UnitP) (s : State) : mems (doResetUnit h p s) = mems s := by
  unfold doResetUnit; simp [mems_ite, mems_foldl, mems_getD, eachNat_mems]

@[simp] theorem unitTurnTake_mems (h : Hdr) (c : Cmd) (s : State) : mems (unitTurnTake h c s) = mems s := by
  unfold unitTurnTake; simp [mems_ite, mems_foldl, mems_getD, eachNat_mems]

@[simp] theorem unitTurnLeave_mems (h : Hdr) (s : State) : mems (unitTurnLeave h s) = mems s := by
  unfold unitTurnLeave; simp [mems_ite, mems_foldl, mems_getD, eachNat_mems]

@[simp] theorem logAnswer_mems (h : Hdr) (p : LogReadP) (detail : W64) (bytes : List Byte) (s : State) : mems (logAnswer h p detail bytes s) = mems s := by
  unfold logAnswer; dsimp only; (repeat' split) <;> (try simp_all [mems_ite, mems_foldl, mems_getD, eachNat_mems]) <;> (try rfl)

@[simp] theorem logConsume_mems (n : Nat) (s : State) : mems (logConsume n s) = mems s := by
  unfold logConsume; simp [mems_ite, mems_foldl, mems_getD, eachNat_mems]

@[simp] theorem doLogEntries_mems (h : Hdr) (p : LogReadP) (s : State) : mems (doLogEntries h p s) = mems s := by
  unfold doLogEntries; dsimp only; (repeat' split) <;> (try simp_all [mems_ite, mems_foldl, mems_getD, eachNat_mems]) <;> (try rfl)

@[simp] theorem doLogDict_mems (codes : Bool) (h : Hdr) (p : LogReadP) (s : State) : mems (doLogDict codes h p s) = mems s := by
  unfold doLogDict; dsimp only; (repeat' split) <;> (try simp_all [mems_ite, mems_foldl, mems_getD, eachNat_mems]) <;> (try rfl)

@[simp] theorem doLogBad_mems (h : Hdr) (p : LogReadP) (s : State) : mems (doLogBad h p s) = mems s := by
  unfold doLogBad; simp [mems_ite, mems_foldl, mems_getD, eachNat_mems]

@[simp] theorem journalCopy_mems (s : State) : mems (journalCopy s) = mems s := by
  unfold journalCopy; dsimp only; (repeat' split) <;> (try simp_all [mems_ite, mems_foldl, mems_getD, eachNat_mems]) <;> (try rfl)

@[simp] theorem logDropClear_mems (v : W32) (s : State) : mems (logDropClear v s) = mems s := by
  unfold logDropClear; simp [mems_ite, mems_foldl, mems_getD, eachNat_mems]

@[simp] theorem calSet_mems (i : Nat) (c : CalItem) (s : State) : mems (calSet i c s) = mems s := by
  unfold calSet; simp [mems_ite, mems_foldl, mems_getD, eachNat_mems]

@[simp] theorem calFail_mems (i reason : Nat) (s : State) : mems (calFail i reason s) = mems s := by
  unfold calFail; simp [mems_ite, mems_foldl, mems_getD, eachNat_mems]

@[simp] theorem calEnd_mems (s : State) : mems (calEnd s) = mems s := by
  unfold calEnd; dsimp only; (repeat' split) <;> (try simp_all [mems_ite, mems_foldl, mems_getD, eachNat_mems]) <;> (try rfl)

@[simp] theorem doCalRun_mems (h : Hdr) (p : CalRunP) (s : State) : mems (doCalRun h p s) = mems s := by
  unfold doCalRun; simp [mems_ite, mems_foldl, mems_getD, eachNat_mems]

@[simp] theorem calItemDone_mems (i : Nat) (m : CalMeas) (s : State) : mems (calItemDone i m s) = mems s := by
  unfold calItemDone; dsimp only; (repeat' split) <;> (try simp_all [mems_ite, mems_foldl, mems_getD, eachNat_mems]) <;> (try rfl)

@[simp] theorem doCalRead_mems (h : Hdr) (p : CalReadP) (s : State) : mems (doCalRead h p s) = mems s := by
  unfold doCalRead; dsimp only; (repeat' split) <;> (try simp_all [mems_ite, mems_foldl, mems_getD, eachNat_mems]) <;> (try rfl)

@[simp] theorem calWriteItem_mems (b : List Byte) (i : Nat) (s : State) : mems (calWriteItem b i s) = mems s := by
  unfold calWriteItem; simp [mems_ite, mems_foldl, mems_getD, eachNat_mems]

@[simp] theorem doCalWrite_mems (h : Hdr) (p : CalWriteP) (s : State) : mems (doCalWrite h p s) = mems s := by
  unfold doCalWrite; simp [mems_ite, mems_foldl, mems_getD, eachNat_mems]

@[simp] theorem factoryLoad_mems (b : List Byte) (s : State) : mems (factoryLoad b s) = mems s := by
  unfold factoryLoad; simp [mems_ite, mems_foldl, mems_getD, eachNat_mems]

@[simp] theorem commitRetry_mems (ok : Bool) (s : State) : mems (commitRetry ok s) = mems s := by
  unfold commitRetry; simp [mems_ite, mems_foldl, mems_getD, eachNat_mems]

@[simp] theorem fwErr_mems (i : Nat) (s : State) : mems (fwErr i s) = mems s := by
  unfold fwErr; simp [mems_ite, mems_foldl, mems_getD, eachNat_mems]

@[simp] theorem modFwSlot_mems (i : Nat) (f : FwSlot → FwSlot) (s : State) : mems (modFwSlot i f s) = mems s := by
  unfold modFwSlot; dsimp only; (repeat' split) <;> (try simp_all [mems_ite, mems_foldl, mems_getD, eachNat_mems]) <;> (try rfl)

@[simp] theorem doFwCommit_mems (h : Hdr) (p : FwCommitP) (s : State) : mems (doFwCommit h p s) = mems s := by
  unfold doFwCommit; simp [mems_ite, mems_foldl, mems_getD, eachNat_mems]

@[simp] theorem commitAction_mems (b : List Byte) (act : Bool) (s : State) : mems (commitAction b act s) = mems s := by
  unfold commitAction; dsimp only; (repeat' split) <;> (try simp_all [mems_ite, mems_foldl, mems_getD, eachNat_mems]) <;> (try rfl)

@[simp] theorem bootConfirm_mems (s : State) : mems (bootConfirm s) = mems s := by
  unfold bootConfirm; simp [mems_ite, mems_foldl, mems_getD, eachNat_mems]

@[simp] theorem doFwConfirm_mems (h : Hdr) (p : FwConfirmP) (s : State) : mems (doFwConfirm h p s) = mems s := by
  unfold doFwConfirm; simp [mems_ite, mems_foldl, mems_getD, eachNat_mems]

@[simp] theorem resetSlot_mems (s : State) : mems (resetSlot s) = mems s := by
  unfold resetSlot; simp [mems_ite, mems_foldl, mems_getD, eachNat_mems]

@[simp] theorem wdogTime_mems (s : State) : mems (wdogTime s) = mems s := by
  unfold wdogTime; simp [mems_ite, mems_foldl, mems_getD, eachNat_mems]

@[simp] theorem brownoutEnd_mems (s : State) : mems (brownoutEnd s) = mems s := by
  unfold brownoutEnd; simp [mems_ite, mems_foldl, mems_getD, eachNat_mems]

@[simp] theorem secureMesh_mems (s : State) : mems (secureMesh s) = mems s := by
  unfold secureMesh; simp [mems_ite, mems_foldl, mems_getD, eachNat_mems]

@[simp] theorem tamperNote_mems (s : State) : mems (tamperNote s) = mems s := by
  unfold tamperNote; simp [mems_ite, mems_foldl, mems_getD, eachNat_mems]

@[simp] theorem lcApply_mems (s : State) : mems (lcApply s) = mems s := by
  unfold lcApply; dsimp only; (repeat' split) <;> (try simp_all [mems_ite, mems_foldl, mems_getD, eachNat_mems]) <;> (try rfl)

@[simp] theorem slotSelect_mems (s : State) : mems ((slotSelect s).2) = mems s := by
  unfold slotSelect; dsimp only; (repeat' split) <;> (try simp_all [mems_ite, mems_foldl, mems_getD, eachNat_mems]) <;> (try rfl)

theorem slotSelect_mems_pair (s : State) {a_ : Option Nat} {t_ : State} (h_ : slotSelect s = (a_, t_)) : mems t_ = mems s := by
  have e_ := slotSelect_mems  s
  rw [h_] at e_; exact e_

@[simp] theorem slotBoot_mems (n : Nat) (s : State) : mems (slotBoot n s).2 = mems s := by
  induction n generalizing s with
  | zero => rfl
  | succ n ih =>
    unfold slotBoot
    split <;> rename_i h1 <;> have e1 := slotSelect_mems_pair _ h1
    · exact e1
    · split
      · exact e1
      · rw [ih]; simpa using e1

theorem slotBoot_mems_pair  (z0 : Nat) (s : State) {a_ : Option Nat} {t_ : State} (h_ : slotBoot z0 s = (a_, t_)) : mems t_ = mems s := by
  have e_ := slotBoot_mems  z0 s
  rw [h_] at e_; exact e_

@[simp] theorem romDone_mems (s : State) : mems (romDone s) = mems s := by
  unfold romDone; dsimp only; (repeat' split) <;> (try simp_all [mems_ite, mems_foldl, mems_getD, eachNat_mems]) <;> (try rfl)

@[simp] theorem declareUnits_mems (s : State) : mems (declareUnits s) = mems s := by
  unfold declareUnits; simp [mems_ite, mems_foldl, mems_getD, eachNat_mems]

@[simp] theorem policyLoad_mems (l : List PolicyEntry) (s : State) : mems (policyLoad l s) = mems s := by
  unfold policyLoad; simp [mems_ite, mems_foldl, mems_getD, eachNat_mems]

@[simp] theorem configApply_mems (c : ConfigItems) (s : State) : mems (configApply c s) = mems s := by
  unfold configApply; simp [mems_ite, mems_foldl, mems_getD, eachNat_mems]

@[simp] theorem configLoad_mems (c : ConfigItems) (s : State) : mems (configLoad c s) = mems s := by
  unfold configLoad; dsimp only; (repeat' split) <;> (try simp_all [mems_ite, mems_foldl, mems_getD, eachNat_mems]) <;> (try rfl)

@[simp] theorem mapUnits_mems (cls : Nat) (spared : List Nat) (serving : List (Nat × Nat)) (s : State) : mems (mapUnits cls spared serving s) = mems s := by
  unfold mapUnits; simp [mems_ite, mems_foldl, mems_getD, eachNat_mems]

@[simp] theorem mapApply_mems (m : SpareMap) (s : State) : mems (mapApply m s) = mems s := by
  unfold mapApply; simp [mems_ite, mems_foldl, mems_getD, eachNat_mems]

@[simp] theorem chanTrained_mems (m : SpareMap) (rankSpare : Bool) (t : ChannelTrain) (s : State) : mems (chanTrained m rankSpare t s) = mems s := by
  unfold chanTrained; dsimp only; (repeat' split) <;> (try simp_all [mems_ite, mems_foldl, mems_getD, eachNat_mems]) <;> (try rfl)

@[simp] theorem jglTrain_mems (t : TrainEnv) (s : State) : mems (jglTrain t s) = mems s := by
  unfold jglTrain; simp [mems_ite, mems_foldl, mems_getD, eachNat_mems]

@[simp] theorem startTestFail_mems (cls i : Nat) (s : State) : mems (startTestFail cls i s) = mems s := by
  unfold startTestFail; simp [mems_ite, mems_foldl, mems_getD, eachNat_mems]

@[simp] theorem gensStart_mems (s : State) : mems (gensStart s) = mems s := by
  unfold gensStart; simp [mems_ite, mems_foldl, mems_getD, eachNat_mems]

@[simp] theorem tripCheck_mems (s : State) : mems (tripCheck s) = mems s := by
  unfold tripCheck; simp [mems_ite, mems_foldl, mems_getD, eachNat_mems]

@[simp] theorem readyEnter_mems (s : State) : mems (readyEnter s) = mems s := by
  unfold readyEnter; simp [mems_ite, mems_foldl, mems_getD, eachNat_mems]

@[simp] theorem checkDone_mems (c : CheckEnv) (s : State) : mems (checkDone c s) = mems s := by
  unfold checkDone; simp [mems_ite, mems_foldl, mems_getD, eachNat_mems]

@[simp] theorem lrefLost_mems (s : State) : mems (lrefLost s) = mems s := by
  unfold lrefLost; dsimp only; (repeat' split) <;> (try simp_all [mems_ite, mems_foldl, mems_getD, eachNat_mems]) <;> (try rfl)

@[simp] theorem lrefReturn_mems (s : State) : mems (lrefReturn s) = mems s := by
  unfold lrefReturn; simp [mems_ite, mems_foldl, mems_getD, eachNat_mems]

@[simp] theorem doNop_mems (h : Hdr) (s : State) : mems (doNop h s) = mems s := by
  unfold doNop; simp [mems_ite, mems_foldl, mems_getD, eachNat_mems]

@[simp] theorem doFence_mems (h : Hdr) (p : FenceP) (s : State) : mems (doFence h p s) = mems s := by
  unfold doFence; simp [mems_ite, mems_foldl, mems_getD, eachNat_mems]

@[simp] theorem doSceneBad_mems (h : Hdr) (s : State) : mems (doSceneBad h s) = mems s := by
  unfold doSceneBad; simp [mems_ite, mems_foldl, mems_getD, eachNat_mems]

@[simp] theorem exitOnAccept_mems (h : Hdr) (s : State) : mems (exitOnAccept h s) = mems s := by
  unfold exitOnAccept; simp [mems_ite, mems_foldl, mems_getD, eachNat_mems]

@[simp] theorem askGateway_mems (gw : Nat) (h : Hdr) (c : Cmd) (a n : Nat) (s : State) : mems (askGateway gw h c a n s) = mems s := by
  unfold askGateway; simp [mems_ite, mems_foldl, mems_getD, eachNat_mems]

@[simp] theorem askHost_mems (h : Hdr) (c : Cmd) (s : State) : mems (askHost h c s) = mems s := by
  fun_cases askHost h c s <;> simp_all [mems_ite, mems_foldl, mems_getD, eachNat_mems]

@[simp] theorem fencesDone_mems (s : State) : mems (fencesDone s) = mems s := by
  unfold fencesDone; simp [mems_ite, mems_foldl, mems_getD, eachNat_mems]

@[simp] theorem turnTake_mems (q n : Nat) (s : State) : mems (turnTake q n s) = mems s := by
  unfold turnTake; simp [mems_ite, mems_foldl, mems_getD, eachNat_mems]

@[simp] theorem streamError_mems (q : Nat) (h : Hdr) (op : Byte) (st : Status) (s : State) : mems (streamError q h op st s) = mems s := by
  unfold streamError; simp [mems_ite, mems_foldl, mems_getD, eachNat_mems]

@[simp] theorem mailboxAnswer_mems (t : Nat) (b : List Byte) (st : Status) (s : State) : mems (mailboxAnswer t b st s) = mems s := by
  unfold mailboxAnswer; simp [mems_ite, mems_foldl, mems_getD, eachNat_mems]

@[simp] theorem mailboxOut_mems (t : Nat) (s : State) : mems (mailboxOut t s) = mems s := by
  unfold mailboxOut; simp [mems_ite, mems_foldl, mems_getD, eachNat_mems]

@[simp] theorem discardMessage_mems (s : State) : mems (discardMessage s) = mems s := by
  unfold discardMessage; simp [mems_ite, mems_foldl, mems_getD, eachNat_mems]

@[simp] theorem assemblyTimeout_mems (t : Nat) (s : State) : mems (assemblyTimeout t s) = mems s := by
  unfold assemblyTimeout; simp [mems_ite, mems_foldl, mems_getD, eachNat_mems]

@[simp] theorem responseCollected_mems (s : State) : mems (responseCollected s) = mems s := by
  unfold responseCollected; dsimp only; (repeat' split) <;> (try simp_all [mems_ite, mems_foldl, mems_getD, eachNat_mems]) <;> (try rfl)

@[simp] theorem mctpControl_mems (c : McCtrl) (s : State) : mems (mctpControl c s) = mems s := by
  unfold mctpControl; dsimp only; (repeat' split) <;> (try simp_all [mems_ite, mems_foldl, mems_getD, eachNat_mems]) <;> (try rfl)

@[simp] theorem barGate_mems (m off : Nat) (write : Bool) (s : State) : mems (barGate m off write s).2 = mems s := by
  unfold barGate; split
  · (try dsimp only); split <;> rename_i h1 <;> exact trnAccess_mems_pair _ _ _ _ _ _ h1
  · rfl

theorem barGate_mems_pair (m off : Nat) (write : Bool) (s : State) {a_ : Bool} {t_ : State} (h_ : barGate m off write s = (a_, t_)) : mems t_ = mems s := by
  have e_ := barGate_mems  m off write s
  rw [h_] at e_; exact e_

@[simp] theorem barWrite_mems (m off : Nat) (f : State → State) (s : State) (hf : ∀ s, mems (f s) = mems s) :
    mems (barWrite m off f s) = mems s := by
  unfold barWrite; (try dsimp only); split <;> simp [hf]

@[simp] theorem barRead_mems (m off : Nat) (v : State → W32) (f : State → State) (s : State)
    (hf : ∀ s, mems (f s) = mems s) : mems (barRead m off v f s) = mems s := by
  unfold barRead; (try dsimp only); split <;> simp [hf]

@[simp] theorem bar0BadAccess_mems (m off : Nat) (write : Bool) (len : Nat) (s : State) : mems (bar0BadAccess m off write len s) = mems s := by
  unfold bar0BadAccess; simp [mems_ite, mems_foldl, mems_getD, eachNat_mems]

@[simp] theorem wdogKick_mems (s : State) : mems (wdogKick s) = mems s := by
  unfold wdogKick; simp [mems_ite, mems_foldl, mems_getD, eachNat_mems]

@[simp] theorem wdogWrite_mems (m : Nat) (v : W32) (s : State) : mems (wdogWrite m v s) = mems s := by
  unfold wdogWrite; simp [mems_ite, mems_foldl, mems_getD, eachNat_mems]

@[simp] theorem srcForce_mems (n : Nat) (s : State) : mems (srcForce n s) = mems s := by
  unfold srcForce; simp [mems_ite, mems_foldl, mems_getD, eachNat_mems]

@[simp] theorem brkSrcCtrlWrite_mems (v : W32) (s : State) : mems (brkSrcCtrlWrite v s) = mems s := by
  unfold brkSrcCtrlWrite; simp [mems_ite, mems_foldl, mems_getD, eachNat_mems]

@[simp] theorem brkCountWrite_mems (v : W32) (s : State) : mems (brkCountWrite v s) = mems s := by
  unfold brkCountWrite; simp [mems_ite, mems_foldl, mems_getD, eachNat_mems]

@[simp] theorem brkHostPendWrite_mems (k : Nat) (v : W32) (s : State) : mems (brkHostPendWrite k v s) = mems s := by
  unfold brkHostPendWrite; simp [mems_ite, mems_foldl, mems_getD, eachNat_mems]

@[simp] theorem brkCoreWrite_mems (n o : Nat) (v : W32) (s : State) : mems (brkCoreWrite n o v s) = mems s := by
  fun_cases brkCoreWrite n o v s <;> simp_all [mems_ite, mems_foldl, mems_getD, eachNat_mems]

@[simp] theorem brkWrite_mems (m o : Nat) (v : W32) (s : State) : mems (brkWrite m o v s) = mems s := by
  unfold brkWrite; dsimp only; (repeat' split) <;> (try simp_all [mems_ite, mems_foldl, mems_getD, eachNat_mems]) <;> (try rfl)

@[simp] theorem trnStage_mems (f : TrnEntry → TrnEntry) (s : State) : mems (trnStage f s) = mems s := by
  unfold trnStage; simp [mems_ite, mems_foldl, mems_getD, eachNat_mems]

@[simp] theorem trnApply_mems (s : State) : mems (trnApply s) = mems s := by
  unfold trnApply; simp [mems_ite, mems_foldl, mems_getD, eachNat_mems]

@[simp] theorem trnCtrlWrite_mems (v : W32) (s : State) : mems (trnCtrlWrite v s) = mems s := by
  unfold trnCtrlWrite; simp [mems_ite, mems_foldl, mems_getD, eachNat_mems]

@[simp] theorem trnWrite_mems (m o : Nat) (v : W32) (s : State) : mems (trnWrite m o v s) = mems s := by
  unfold trnWrite; dsimp only; (repeat' split) <;> (try simp_all [mems_ite, mems_foldl, mems_getD, eachNat_mems]) <;> (try rfl)

@[simp] theorem clpWrite_mems (o : Nat) (v : W32) (s : State) : mems (clpWrite o v s) = mems s := by
  unfold clpWrite; dsimp only; (repeat' split) <;> (try simp_all [mems_ite, mems_foldl, mems_getD, eachNat_mems]) <;> (try rfl)

@[simp] theorem declareBy_mems (f : State → State) (s : State) (hf : ∀ s, mems (f s) = mems s) :
    mems (declareBy f s) = mems s := by
  unfold declareBy; (try dsimp only)
  refine (eachNat_mems _ _ _ ?_).trans (hf s)
  intro n t; (repeat' split) <;> simp

@[simp] theorem psensWrite_mems (k : Nat) (v : W32) (s : State) : mems (psensWrite k v s) = mems s := by
  unfold psensWrite; simp [mems_ite, mems_foldl, mems_getD, eachNat_mems]

@[simp] theorem thWrite_mems (m o : Nat) (v : W32) (s : State) : mems (thWrite m o v s) = mems s := by
  unfold thWrite; dsimp only
  (repeat' (first
      | (simp [mems_ite, mems_foldl, mems_getD, eachNat_mems]; done)
      | split
      | (refine (mems_foldl _ _ _ ?_).trans ?_ <;> intros)
      | (refine (eachNat_mems _ _ _ ?_).trans ?_ <;> intros)
      | (simp [mems_ite, mems_foldl, mems_getD, eachNat_mems])
      | (grind [→ drawFree_mems_pair, → trnAccess_mems_pair, → meshStream_mems_pair, → dramRead_mems_pair, → wordRead_mems_pair, → spmReadN_mems_pair, → spmRead_mems_pair, → streamOn_mems_pair, → tableRead_mems_pair, → priorRead_mems_pair, → shwRead_mems_pair, → burstSource_mems_pair, → jobRead_mems_pair, → takeEntry_mems_pair, → drawNonce_mems_pair, → nextMeshId_mems_pair, → drawTest_mems_pair, → slotSelect_mems_pair, → slotBoot_mems_pair, → barGate_mems_pair])))

@[simp] theorem pwrCtrlWrite_mems (v : W32) (s : State) : mems (pwrCtrlWrite v s) = mems s := by
  unfold pwrCtrlWrite; simp [mems_ite, mems_foldl, mems_getD, eachNat_mems]

@[simp] theorem railWrite_mems (c o : Nat) (v : W32) (s : State) : mems (railWrite c o v s) = mems s := by
  fun_cases railWrite c o v s <;> simp_all [mems_ite, mems_foldl, mems_getD, eachNat_mems]

@[simp] theorem irefWrite_mems (c : Nat) (v : W32) (s : State) : mems (irefWrite c v s) = mems s := by
  unfold irefWrite; simp [mems_ite, mems_foldl, mems_getD, eachNat_mems]

@[simp] theorem pwrWrite_mems (o : Nat) (v : W32) (s : State) : mems (pwrWrite o v s) = mems s := by
  unfold pwrWrite; dsimp only; (repeat' split) <;> (try simp_all [mems_ite, mems_foldl, mems_getD, eachNat_mems]) <;> (try rfl)

@[simp] theorem calWrite_mems (o : Nat) (v : W32) (s : State) : mems (calWrite o v s) = mems s := by
  unfold calWrite; dsimp only; (repeat' split) <;> (try simp_all [mems_ite, mems_foldl, mems_getD, eachNat_mems]) <;> (try rfl)

@[simp] theorem fwWrite_mems (o : Nat) (v : W32) (s : State) : mems (fwWrite o v s) = mems s := by
  unfold fwWrite; dsimp only; (repeat' split) <;> (try simp_all [mems_ite, mems_foldl, mems_getD, eachNat_mems]) <;> (try rfl)

@[simp] theorem logWrite_mems (o : Nat) (v : W32) (s : State) : mems (logWrite o v s) = mems s := by
  unfold logWrite; dsimp only; (repeat' split) <;> (try simp_all [mems_ite, mems_foldl, mems_getD, eachNat_mems]) <;> (try rfl)

@[simp] theorem scnWrite_mems (o : Nat) (v : W32) (s : State) : mems (scnWrite o v s) = mems s := by
  unfold scnWrite; dsimp only; (repeat' split) <;> (try simp_all [mems_ite, mems_foldl, mems_getD, eachNat_mems]) <;> (try rfl)

@[simp] theorem crslWrite_mems (o : Nat) (v : W32) (s : State) : mems (crslWrite o v s) = mems s := by
  unfold crslWrite; dsimp only; (repeat' split) <;> (try simp_all [mems_ite, mems_foldl, mems_getD, eachNat_mems]) <;> (try rfl)

@[simp] theorem homWrite_mems (o : Nat) (v : W32) (s : State) : mems (homWrite o v s) = mems s := by
  unfold homWrite; dsimp only; (repeat' split) <;> (try simp_all [mems_ite, mems_foldl, mems_getD, eachNat_mems]) <;> (try rfl)

@[simp] theorem clrTblNext_mems (s : State) : mems (clrTblNext s) = mems s := by
  unfold clrTblNext; simp [mems_ite, mems_foldl, mems_getD, eachNat_mems]

@[simp] theorem clrTblRange_mems (s : State) : mems (clrTblRange s) = mems s := by
  unfold clrTblRange; simp [mems_ite, mems_foldl, mems_getD, eachNat_mems]

@[simp] theorem clrTblWrite_mems (v : W32) (s : State) : mems (clrTblWrite v s) = mems s := by
  unfold clrTblWrite; simp [mems_ite, mems_foldl, mems_getD, eachNat_mems]

@[simp] theorem clrWrite_mems (o : Nat) (v : W32) (s : State) : mems (clrWrite o v s) = mems s := by
  unfold clrWrite; dsimp only; (repeat' split) <;> (try simp_all [mems_ite, mems_foldl, mems_getD, eachNat_mems]) <;> (try rfl)

@[simp] theorem pxWrite_mems (o : Nat) (v : W32) (s : State) : mems (pxWrite o v s) = mems s := by
  unfold pxWrite; dsimp only; (repeat' split) <;> (try simp_all [mems_ite, mems_foldl, mems_getD, eachNat_mems]) <;> (try rfl)

@[simp] theorem trzRouteNext_mems (s : State) : mems (trzRouteNext s) = mems s := by
  unfold trzRouteNext; simp [mems_ite, mems_foldl, mems_getD, eachNat_mems]

@[simp] theorem trzRouteWrite_mems (v : W32) (s : State) : mems (trzRouteWrite v s) = mems s := by
  unfold trzRouteWrite; simp [mems_ite, mems_foldl, mems_getD, eachNat_mems]

@[simp] theorem gwMod_mems (f : Gateway → Gateway) (s : State) : mems (gwMod f s) = mems s := by
  unfold gwMod; simp [mems_ite, mems_foldl, mems_getD, eachNat_mems]

@[simp] theorem trzIdWrite_mems (v : W32) (s : State) : mems (trzIdWrite v s) = mems s := by
  unfold trzIdWrite; simp [mems_ite, mems_foldl, mems_getD, eachNat_mems]

@[simp] theorem trzWrite_mems (o : Nat) (v : W32) (s : State) : mems (trzWrite o v s) = mems s := by
  unfold trzWrite; dsimp only; (repeat' split) <;> (try simp_all [mems_ite, mems_foldl, mems_getD, eachNat_mems]) <;> (try rfl)

@[simp] theorem shwCtrlWrite_mems (m : Nat) (v : W32) (s : State) : mems (shwCtrlWrite m v s) = mems s := by
  unfold shwCtrlWrite; simp [mems_ite, mems_foldl, mems_getD, eachNat_mems]

@[simp] theorem shwRegWrite_mems (m o : Nat) (v : W32) (s : State) : mems (shwRegWrite m o v s) = mems s := by
  unfold shwRegWrite; dsimp only; (repeat' split) <;> (try simp_all [mems_ite, mems_foldl, mems_getD, eachNat_mems]) <;> (try rfl)

@[simp] theorem ctnWrite_mems (o : Nat) (v : W32) (s : State) : mems (ctnWrite o v s) = mems s := by
  unfold ctnWrite; dsimp only; (repeat' split) <;> (try simp_all [mems_ite, mems_foldl, mems_getD, eachNat_mems]) <;> (try rfl)

@[simp] theorem foldAckWrite_mems (v : W32) (s : State) : mems (foldAckWrite v s) = mems s := by
  unfold foldAckWrite; simp [mems_ite, mems_foldl, mems_getD, eachNat_mems]

@[simp] theorem jglWrite_mems (o : Nat) (v : W32) (s : State) : mems (jglWrite o v s) = mems s := by
  unfold jglWrite; dsimp only; (repeat' split) <;> (try simp_all [mems_ite, mems_foldl, mems_getD, eachNat_mems]) <;> (try rfl)

@[simp] theorem sqCfgWrite_mems (p : Port) (f : Sq → Sq) (s : State) : mems (sqCfgWrite p f s) = mems s := by
  unfold sqCfgWrite; simp [mems_ite, mems_foldl, mems_getD, eachNat_mems]

@[simp] theorem cqCfgWrite_mems (p : Port) (f : Cq → Cq) (s : State) : mems (cqCfgWrite p f s) = mems s := by
  unfold cqCfgWrite; simp [mems_ite, mems_foldl, mems_getD, eachNat_mems]

@[simp] theorem sqCtrlWrite_mems (p : Port) (v : W32) (s : State) : mems (sqCtrlWrite p v s) = mems s := by
  unfold sqCtrlWrite; simp [mems_ite, mems_foldl, mems_getD, eachNat_mems]

@[simp] theorem cqCtrlWrite_mems (p : Port) (v : W32) (s : State) : mems (cqCtrlWrite p v s) = mems s := by
  unfold cqCtrlWrite; simp [mems_ite, mems_foldl, mems_getD, eachNat_mems]

@[simp] theorem cqOwnWrite_mems (p : Port) (f : Cq → Cq) (s : State) : mems (cqOwnWrite p f s) = mems s := by
  unfold cqOwnWrite; simp [mems_ite, mems_foldl, mems_getD, eachNat_mems]

@[simp] theorem portCfgWrite_mems (v : W32) (s : State) : mems (portCfgWrite v s) = mems s := by
  unfold portCfgWrite; simp [mems_ite, mems_foldl, mems_getD, eachNat_mems]

@[simp] theorem bar4Write_mems (p : Port) (high : Bool) (v : W32) (s : State) : mems (bar4Write p high v s) = mems s := by
  unfold bar4Write; simp [mems_ite, mems_foldl, mems_getD, eachNat_mems]

@[simp] theorem vecIdleWrite_mems (p : Port) (n : Nat) (v : W32) (s : State) : mems (vecIdleWrite p n v s) = mems s := by
  unfold vecIdleWrite; simp [mems_ite, mems_foldl, mems_getD, eachNat_mems]

@[simp] theorem msixWrite_mems (p : Port) (o : Nat) (v : W32) (s : State) : mems (msixWrite p o v s) = mems s := by
  unfold msixWrite; simp [mems_ite, mems_foldl, mems_getD, eachNat_mems]

@[simp] theorem hqRegWrite_mems (p : Port) (o : Nat) (v : W32) (s : State) : mems (hqRegWrite p o v s) = mems s := by
  unfold hqRegWrite; dsimp only; (repeat' split) <;> (try simp_all [mems_ite, mems_foldl, mems_getD, eachNat_mems]) <;> (try rfl)

@[simp] theorem jrnlNext_mems (s : State) : mems (jrnlNext s) = mems s := by
  unfold jrnlNext; simp [mems_ite, mems_foldl, mems_getD, eachNat_mems]

@[simp] theorem portWrite_mems (p : Port) (off : Nat) (f : State → State) (s : State) (hf : ∀ s, mems (f s) = mems s) :
    mems (portWrite p off f s) = mems s := by
  unfold portWrite; exact barWrite_mems _ _ _ _ hf

@[simp] theorem selWrite_mems (p : Port) (off : Nat) (f : Nat → State → State) (s : State)
    (hf : ∀ n s, mems (f n s) = mems s) : mems (selWrite p off f s) = mems s := by
  unfold selWrite; exact portWrite_mems _ _ _ _ fun s => hf _ s

@[simp] theorem claimRead_mems (core : Nat) (s : State) : mems (claimRead core s) = mems s := by
  unfold claimRead; simp [mems_ite, mems_foldl, mems_getD, eachNat_mems]

@[simp] theorem chAbortWrite_mems (m : Nat) (s : State) : mems (chAbortWrite m s) = mems s := by
  unfold chAbortWrite; simp [mems_ite, mems_foldl, mems_getD, eachNat_mems]

@[simp] theorem clrTblAccess_mems (m : Nat) (w : Option W32) (s : State) : mems (clrTblAccess m w s) = mems s := by
  fun_cases clrTblAccess m w s <;> simp_all [mems_ite, mems_foldl, mems_getD, eachNat_mems]

@[simp] theorem routeAccess_mems (m : Nat) (w : Option W32) (s : State) : mems (routeAccess m w s) = mems s := by
  fun_cases routeAccess m w s <;> simp_all [mems_ite, mems_foldl, mems_getD, eachNat_mems]

@[simp] theorem trainEvent_mems (f : State → State) (s : State) (hf : ∀ s, mems (f s) = mems s) :
    mems (trainEvent f s) = mems s := by
  unfold trainEvent; simp [hf]

@[simp] theorem mr4Read_mems (ch mult : Nat) (temp : W16) (s : State) : mems (mr4Read ch mult temp s) = mems s := by
  unfold mr4Read; simp [mems_ite, mems_foldl, mems_getD, eachNat_mems]

@[simp] theorem rebase_mems (ch : Nat) (s : State) : mems (rebase ch s) = mems s := by
  fun_cases rebase ch s <;> simp_all [mems_ite, mems_foldl, mems_getD, eachNat_mems]

end Sys2Proof.Machine
end

