-- ==== Sys2Proof/Laws/Writers.lean ====
section
/-! SUPPORT. The operations that write a byte memory of the device keep its canonical form: one lemma each. -/

set_option linter.unusedSimpArgs false
set_option linter.unusedVariables false
set_option linter.unreachableTactic false
set_option linter.unusedTactic false
set_option linter.unnecessarySeqFocus false

namespace Sys2Proof.Machine

/-- The byte memories are in canonical form. -/
def memsOk (m : Mem × Mem × Mem × Mem) : Prop :=
  Memory.wf 0#8 m.1 ∧ Memory.wf 0#8 m.2.1 ∧ Memory.wf 255#8 m.2.2.1 ∧ Memory.wf 255#8 m.2.2.2

theorem memories_iff (s : State) : MemoriesWf s ↔ memsOk (mems s) := Iff.rfl

@[simp] theorem memsOk_mk (a b c d : Mem) : memsOk (a, b, c, d) =
    (Memory.wf 0#8 a ∧ Memory.wf 0#8 b ∧ Memory.wf 255#8 c ∧ Memory.wf 255#8 d) := rfl

@[simp] theorem memories_dram (s : State) (h : memsOk (mems s)) : Memory.wf 0#8 s.jgl.mem = true := h.1
@[simp] theorem memories_spm (s : State) (h : memsOk (mems s)) : Memory.wf 0#8 s.spm.mem = true := h.2.1
@[simp] theorem memories_flash (s : State) (h : memsOk (mems s)) : Memory.wf 255#8 s.fw.flash = true := h.2.2.1
@[simp] theorem memories_inline (s : State) (h : memsOk (mems s)) : Memory.wf 255#8 s.fw.inline_ = true := h.2.2.2

theorem memsOk_ite (c : Prop) [Decidable c] (a b : State) :
    memsOk (mems (if c then a else b)) = if c then memsOk (mems a) else memsOk (mems b) := by
  split <;> rfl

theorem memsOk_foldl {α : Type} (g : State → α → State) (l : List α) (s : State)
    (h : ∀ s a, memsOk (mems s) → memsOk (mems (g s a))) (hs : memsOk (mems s)) : memsOk (mems (l.foldl g s)) := by
  induction l generalizing s with
  | nil => exact hs
  | cons a l ih => exact ih _ (h _ _ hs)

theorem eachNat_memsOk (f : Nat → State → State) (l : List Nat) (s : State)
    (h : ∀ n s, memsOk (mems s) → memsOk (mems (f n s))) (hs : memsOk (mems s)) : memsOk (mems (eachNat f l s)) := by
  induction l generalizing s with
  | nil => exact hs
  | cons a l ih => exact ih _ (h _ _ hs)

theorem meshRx_memsOk (p cls kind : Nat) (b : List Byte) (f : State → State) (s : State) (h_ : memsOk (mems s))
    (hf : ∀ s, memsOk (mems s) → memsOk (mems (f s))) : memsOk (mems (meshRx p cls kind b f s)) := by
  unfold meshRx; dsimp only; (repeat' split) <;> first | (simp [h_]; done) | (apply hf; simp [h_])

theorem meshForward_memsOk (p cls kind : Nat) (b : List Byte) (words : List Nat) (bytes : List Byte)
    (here : State → State) (s : State) (h_ : memsOk (mems s)) (hf : ∀ s, memsOk (mems s) → memsOk (mems (here s))) :
    memsOk (mems (meshForward p cls kind b words bytes here s)) := by
  unfold meshForward; dsimp only; (repeat' split) <;> first | (simp [h_]; done) | (apply hf; simp [h_])

theorem barWrite_memsOk (m off : Nat) (f : State → State) (s : State) (h_ : memsOk (mems s))
    (hf : ∀ s, memsOk (mems s) → memsOk (mems (f s))) : memsOk (mems (barWrite m off f s)) := by
  unfold barWrite; dsimp only; (repeat' split) <;> first | (simp [h_]; done) | (apply hf; simp [h_])

theorem regBulk_memsOk (p k : Nat) (f : State → State) (s : State) (h_ : memsOk (mems s))
    (hf : ∀ s, memsOk (mems s) → memsOk (mems (f s))) : memsOk (mems (regBulk p k f s)) := by
  unfold regBulk; (repeat' split) <;> first | (simp [h_]; done) | (apply hf; simp [h_])

theorem regulated_memsOk (p k : Nat) (f : State → State) (s : State) (h_ : memsOk (mems s))
    (hf : ∀ s, memsOk (mems s) → memsOk (mems (f s))) : memsOk (mems (regulated p k f s)) := by
  unfold regulated; (repeat' split) <;> first | (simp [h_]; done) | (apply hf; simp [h_])

theorem ctxCommand_memsOk (op : Byte) (h : Hdr) (p : CtnStateP) (go : State → State) (s : State) (h_ : memsOk (mems s))
    (hf : ∀ s, memsOk (mems s) → memsOk (mems (go s))) : memsOk (mems (ctxCommand op h p go s)) := by
  unfold ctxCommand; dsimp only; (repeat' split) <;> first | (simp [h_]; done) | exact regBulk_memsOk _ _ _ _ h_ hf

@[simp] theorem dramPut_memsOk (addr : Nat) (bs : List Byte) (s : State) (h_ : memsOk (mems s)) : memsOk (mems (dramPut addr bs s)) := by
  unfold dramPut; simp (maxDischargeDepth := 20) [memsOk_ite, memsOk_foldl, eachNat_memsOk, mems_ite, mems_foldl, mems_getD, eachNat_mems, h_]

@[simp] theorem dramStore_memsOk (port addr : Nat) (bs : List Byte) (s : State) (h_ : memsOk (mems s)) : memsOk (mems (dramStore port addr bs s)) := by
  unfold dramStore; (try dsimp only); (repeat' split) <;> (try simp_all (maxDischargeDepth := 20) [memsOk_ite, memsOk_foldl, eachNat_memsOk, mems_ite, mems_foldl, mems_getD, eachNat_mems, h_])

@[simp] theorem dramWrite_memsOk (port addr : Nat) (bs : List Byte) (ecc : Ecc) (s : State) (h_ : memsOk (mems s)) : memsOk (mems ((dramWrite port addr bs ecc s).2)) := by
  unfold dramWrite; (try dsimp only); (repeat' split) <;> (try simp_all (maxDischargeDepth := 20) [memsOk_ite, memsOk_foldl, eachNat_memsOk, mems_ite, mems_foldl, mems_getD, eachNat_mems, h_])

theorem dramWrite_memsOk_pair (port addr : Nat) (bs : List Byte) (ecc : Ecc) (s : State) {a_ : Bool} {t_ : State} (h_ : memsOk (mems s)) (e_ : dramWrite port addr bs ecc s = (a_, t_)) : memsOk (mems t_) := by
  have i_ := dramWrite_memsOk  port addr bs ecc s h_
  rw [e_] at i_; exact i_

@[simp] theorem bankLose_memsOk (b : Nat) (s : State) (h_ : memsOk (mems s)) : memsOk (mems (bankLose b s)) := by
  unfold bankLose; simp (maxDischargeDepth := 20) [memsOk_ite, memsOk_foldl, eachNat_memsOk, mems_ite, mems_foldl, mems_getD, eachNat_mems, h_]

@[simp] theorem bankCopy_memsOk (a b : Nat) (s : State) (h_ : memsOk (mems s)) : memsOk (mems (bankCopy a b s)) := by
  unfold bankCopy; simp (maxDischargeDepth := 20) [memsOk_ite, memsOk_foldl, eachNat_memsOk, mems_ite, mems_foldl, mems_getD, eachNat_mems, h_]

@[simp] theorem bankStore_memsOk (b off : Nat) (bs : List Byte) (s : State) (h_ : memsOk (mems s)) : memsOk (mems (bankStore b off bs s)) := by
  unfold bankStore; simp (maxDischargeDepth := 20) [memsOk_ite, memsOk_foldl, eachNat_memsOk, mems_ite, mems_foldl, mems_getD, eachNat_mems, h_]

@[simp] theorem wordWrite_memsOk (a : Nat) (bs : List Byte) (s : State) (h_ : memsOk (mems s)) : memsOk (mems (wordWrite a bs s)) := by
  unfold wordWrite; (try dsimp only); (repeat' split) <;> (try simp_all (maxDischargeDepth := 20) [memsOk_ite, memsOk_foldl, eachNat_memsOk, mems_ite, mems_foldl, mems_getD, eachNat_mems, h_])

@[simp] theorem spmWriteN_memsOk  (z0 : Nat) (z1 : Nat) (z2 : List Byte) (s : State) (h_ : memsOk (mems s)) : memsOk (mems (spmWriteN z0 z1 z2 s)) := by
  fun_induction spmWriteN z0 z1 z2 s <;> simp_all (maxDischargeDepth := 20) [memsOk_ite, memsOk_foldl, eachNat_memsOk, mems_ite, mems_foldl, mems_getD, eachNat_mems]

@[simp] theorem spmWrite_memsOk (a : Nat) (bs : List Byte) (s : State) (h_ : memsOk (mems s)) : memsOk (mems (spmWrite a bs s)) := by
  unfold spmWrite; simp (maxDischargeDepth := 20) [memsOk_ite, memsOk_foldl, eachNat_memsOk, mems_ite, mems_foldl, mems_getD, eachNat_mems, h_]

@[simp] theorem bankLay_memsOk (l off n : Nat) (src : Mem) (a : Nat) (s : State) (hm : Memory.wf 0#8 src = true)
    (h_ : memsOk (mems s)) : memsOk (mems (bankLay l off n src a s)) := by
  unfold bankLay
  extract_lets lay b
  have e : ∀ (b : Nat) (t : State), memsOk (mems t) → memsOk (mems (lay b t)) := by
    intro b t ht; simp [lay, ht, hm]
  have h1 : memsOk (mems (bankWake b s)) := by simp [h_]
  clear_value lay
  split
  · simp [h_]
  · split
    · exact e _ _ (e _ _ h1)
    · exact e _ _ h1

@[simp] theorem setCopy_memsOk (n : Nat) (src : Mem) (a : Nat) (s : State) (hm : Memory.wf 0#8 src = true)
    (h_ : memsOk (mems s)) : memsOk (mems (setCopy n src a s)) :=
  eachNat_memsOk _ _ _ (fun _ _ h => bankLay_memsOk _ _ _ _ _ _ hm h) h_

theorem freshWrite_wf (bs : List Byte) : Memory.wf 0#8 (memWrite 0 [] 0 bs) = true := memWrite_wf _ _ rfl

@[simp] theorem waveReload_memsOk (n : Nat) (s : State) (h_ : memsOk (mems s)) : memsOk (mems (waveReload n s)) := by
  unfold waveReload; simp (maxDischargeDepth := 20) [memsOk_ite, memsOk_foldl, eachNat_memsOk, mems_ite, mems_foldl, mems_getD, eachNat_mems, h_]

@[simp] theorem waveSwitch_memsOk (s : State) (h_ : memsOk (mems s)) : memsOk (mems (waveSwitch s)) := by
  unfold waveSwitch; (try dsimp only); (repeat' split) <;> (try simp_all (maxDischargeDepth := 20) [memsOk_ite, memsOk_foldl, eachNat_memsOk, mems_ite, mems_foldl, mems_getD, eachNat_mems, h_])

@[simp] theorem carouselTick_memsOk (complete_ frame commit : Bool) (s : State) (h_ : memsOk (mems s)) : memsOk (mems (carouselTick complete_ frame commit s)) := by
  unfold carouselTick; (try dsimp only); (repeat' split) <;> (try simp_all (maxDischargeDepth := 20) [memsOk_ite, memsOk_foldl, eachNat_memsOk, mems_ite, mems_foldl, mems_getD, eachNat_mems, h_])

@[simp] theorem waveformChecked_memsOk (ans : HostAns) (s : State) (h_ : memsOk (mems s)) :
    memsOk (mems (waveformChecked ans s)) := by
  unfold waveformChecked
  cases s.crsl.loading with
  | none => exact h_
  | some h =>
    cases ans with
    | refused => simp [h_]
    | poisoned => simp [h_]
    | data bs =>
      show memsOk (mems (match imageBad (fit imageLen bs) with | some off => _ | none => _))
      generalize imageBad (fit imageLen bs) = o
      have h1 : memsOk (mems (dramStore portRm waveBacking (fit imageLen bs) { s with crsl := { s.crsl with loading := none } })) :=
        dramStore_memsOk _ _ _ _ (by simp [h_])
      cases o with
      | some off => rw [complete_mems]; exact h1
      | none =>
        rw [mems_mk, mems_eta]
        exact setCopy_memsOk _ _ _ _ (freshWrite_wf _) (setCopy_memsOk _ _ _ _ (freshWrite_wf _) h1)

@[simp] theorem tableRewritten_memsOk (n : Nat) (s : State) (h_ : memsOk (mems s)) : memsOk (mems (tableRewritten n s)) := by
  unfold tableRewritten; (try dsimp only); (repeat' split) <;> (try simp_all (maxDischargeDepth := 20) [memsOk_ite, memsOk_foldl, eachNat_memsOk, mems_ite, mems_foldl, mems_getD, eachNat_mems, h_])

@[simp] theorem rebaseDone_memsOk (bad : List Nat) (s0 : State) (h_ : memsOk (mems s0)) : memsOk (mems (rebaseDone bad s0)) := by
  unfold rebaseDone; (try dsimp only); (repeat' split) <;> (try simp_all (maxDischargeDepth := 20) [memsOk_ite, memsOk_foldl, eachNat_memsOk, mems_ite, mems_foldl, mems_getD, eachNat_mems, h_])

@[simp] theorem bar2Access_memsOk (addr : Nat) (acc : Access) (env : MemEnv) (s : State) (h_ : memsOk (mems s)) : memsOk (mems (bar2Access addr acc env s)) := by
  unfold bar2Access; (try dsimp only); (repeat' split) <;> (try simp_all (maxDischargeDepth := 20) [memsOk_ite, memsOk_foldl, eachNat_memsOk, mems_ite, mems_foldl, mems_getD, eachNat_mems, h_])

@[simp] theorem bankPower_memsOk (b v : Nat) (s0 : State) (h_ : memsOk (mems s0)) : memsOk (mems (bankPower b v s0)) := by
  unfold bankPower; (try dsimp only)
  (repeat' (first
      | (simp (maxDischargeDepth := 20) [memsOk_ite, memsOk_foldl, eachNat_memsOk, mems_ite, mems_foldl, mems_getD, eachNat_mems, h_]; done)
      | split
      | (refine memsOk_foldl _ _ _ ?_ ?_ <;> intros)
      | (refine eachNat_memsOk _ _ _ ?_ ?_ <;> intros)
      | (simp_all (maxDischargeDepth := 20) [memsOk_ite, memsOk_foldl, eachNat_memsOk, mems_ite, mems_foldl, mems_getD, eachNat_mems, h_]; done)
      | (simp (maxDischargeDepth := 20) [memsOk_ite, memsOk_foldl, eachNat_memsOk, mems_ite, mems_foldl, mems_getD, eachNat_mems, h_])
      | (grind [→ dramWrite_memsOk_pair])))

@[simp] theorem bankBringIn_memsOk (b spare : Nat) (byHost : Bool) (s : State) (h_ : memsOk (mems s)) : memsOk (mems (bankBringIn b spare byHost s)) := by
  unfold bankBringIn; simp (maxDischargeDepth := 20) [memsOk_ite, memsOk_foldl, eachNat_memsOk, mems_ite, mems_foldl, mems_getD, eachNat_mems, h_]

@[simp] theorem bankSpare_memsOk (b : Nat) (s : State) (h_ : memsOk (mems s)) : memsOk (mems (bankSpare b s)) := by
  unfold bankSpare; (try dsimp only); (repeat' split) <;> (try simp_all (maxDischargeDepth := 20) [memsOk_ite, memsOk_foldl, eachNat_memsOk, mems_ite, mems_foldl, mems_getD, eachNat_mems, h_])

@[simp] theorem bankCopyDone_memsOk (bad : List Nat) (s : State) (h_ : memsOk (mems s)) : memsOk (mems (bankCopyDone bad s)) := by
  unfold bankCopyDone; (try dsimp only); (repeat' split) <;> (try simp_all (maxDischargeDepth := 20) [memsOk_ite, memsOk_foldl, eachNat_memsOk, mems_ite, mems_foldl, mems_getD, eachNat_mems, h_])

@[simp] theorem tableReload_memsOk (l : Nat) (s : State) (h_ : memsOk (mems s)) : memsOk (mems (tableReload l s)) := by
  unfold tableReload; (try dsimp only)
  (repeat' (first
      | (simp (maxDischargeDepth := 20) [memsOk_ite, memsOk_foldl, eachNat_memsOk, mems_ite, mems_foldl, mems_getD, eachNat_mems, h_]; done)
      | split
      | (refine memsOk_foldl _ _ _ ?_ ?_ <;> intros)
      | (refine eachNat_memsOk _ _ _ ?_ ?_ <;> intros)
      | (simp_all (maxDischargeDepth := 20) [memsOk_ite, memsOk_foldl, eachNat_memsOk, mems_ite, mems_foldl, mems_getD, eachNat_mems, h_]; done)
      | (simp (maxDischargeDepth := 20) [memsOk_ite, memsOk_foldl, eachNat_memsOk, mems_ite, mems_foldl, mems_getD, eachNat_mems, h_])
      | (grind [→ dramWrite_memsOk_pair])))

@[simp] theorem bankMapApply_memsOk (mramOk : Bool) (s : State) (h_ : memsOk (mems s)) : memsOk (mems (bankMapApply mramOk s)) := by
  unfold bankMapApply; (try dsimp only); (repeat' split) <;> (try simp_all (maxDischargeDepth := 20) [memsOk_ite, memsOk_foldl, eachNat_memsOk, mems_ite, mems_foldl, mems_getD, eachNat_mems, h_])

@[simp] theorem wipeStart_memsOk (cause : Nat) (s : State) (h_ : memsOk (mems s)) : memsOk (mems (wipeStart cause s)) := by
  unfold wipeStart; (try dsimp only); (repeat' split) <;> (try simp_all (maxDischargeDepth := 20) [memsOk_ite, memsOk_foldl, eachNat_memsOk, mems_ite, mems_foldl, mems_getD, eachNat_mems, h_])

@[simp] theorem wipeBankFail_memsOk (l : Nat) (s : State) (h_ : memsOk (mems s)) : memsOk (mems (wipeBankFail l s)) := by
  unfold wipeBankFail; simp (maxDischargeDepth := 20) [memsOk_ite, memsOk_foldl, eachNat_memsOk, mems_ite, mems_foldl, mems_getD, eachNat_mems, h_]

@[simp] theorem wipeDone_memsOk (failed : List Nat) (s : State) (h_ : memsOk (mems s)) : memsOk (mems (wipeDone failed s)) := by
  unfold wipeDone; (try dsimp only); (repeat' split) <;> (try simp_all (maxDischargeDepth := 20) [memsOk_ite, memsOk_foldl, eachNat_memsOk, mems_ite, mems_foldl, mems_getD, eachNat_mems, h_])

@[simp] theorem wipeRun_memsOk (first second : List Nat) (s : State) (h_ : memsOk (mems s)) : memsOk (mems (wipeRun first second s)) := by
  unfold wipeRun; (try dsimp only); (repeat' split) <;> (try simp_all (maxDischargeDepth := 20) [memsOk_ite, memsOk_foldl, eachNat_memsOk, mems_ite, mems_foldl, mems_getD, eachNat_mems, h_])

@[simp] theorem bar4Access_memsOk (p : Port) (off : Nat) (acc : Access) (env : MemEnv) (s : State) (h_ : memsOk (mems s)) :
    memsOk (mems (bar4Access p off acc env s)) := by
  unfold bar4Access
  refine regulated_memsOk _ _ _ _ h_ fun t ht => ?_
  cases acc <;> simp [ht]

@[simp] theorem sceneDataLand_memsOk (h : Hdr) (p : SceneLoadP) (ans : HostAns) (s : State) (h_ : memsOk (mems s)) :
    memsOk (mems (sceneDataLand h p ans s)) := by
  unfold sceneDataLand; dsimp only
  split
  · simp [h_]
  · simp [h_]
  · refine regBulk_memsOk _ _ _ _ h_ fun t ht => ?_
    split <;> rename_i h1 <;> have e1 := trnAccess_mems_pair _ _ _ _ _ _ h1 <;> simp [e1, ht]

@[simp] theorem doSceneData_memsOk (h : Hdr) (p : SceneLoadP) (ans : HostAns) (s : State) (h_ : memsOk (mems s)) :
    memsOk (mems (doSceneData h p ans s)) := by
  unfold doSceneData sceneVerifying; dsimp only
  (repeat' split) <;> first | exact sceneDataLand_memsOk _ _ _ _ h_ | simp [h_]

@[simp] theorem sendFragments_memsOk (port : Nat) (target : Int) (plane edge flags dim : Nat) (stream : List Byte)
    (n off : Nat) (s : State) (h_ : memsOk (mems s)) :
    memsOk (mems (sendFragments port target plane edge flags dim stream n off s)) := by
  induction n generalizing off s with
  | zero => exact h_
  | succ n ih =>
    unfold sendFragments; dsimp only
    have e : ∀ (k : Nat) (b : List Byte) (u : State), memsOk (mems u) → memsOk (mems (regBulk (2 + port) k (fun s =>
        match trnAccess 0 24 .w (haloSendBuf port) (slice stream off 4080).length s with
        | (some _, s1) => s1
        | (none, s1) => meshSendFrame port 3 kFragment [(qTime target).toNat] b
            (dramStore (2 + port) (haloSendBuf port) (slice stream off 4080) s1)) u)) := by
      intro k b u hu
      refine regBulk_memsOk _ _ _ _ hu fun t ht => ?_
      split <;> rename_i h1 <;> have e1 := trnAccess_mems_pair _ _ _ _ _ _ h1 <;> simp [e1, ht]
    split
    · exact e _ _ _ h_
    · exact ih _ _ (e _ _ _ h_)

@[simp] theorem sendPlanes_memsOk (port edge used : Nat) (f : Frame) (i : Nat) (l : List PlaneDesc) (s : State)
    (h_ : memsOk (mems s)) : memsOk (mems (sendPlanes port edge used f i l s)) := by
  induction l generalizing i s used with
  | nil => simpa [sendPlanes] using h_
  | cons d rest ih =>
    have e : memsOk (mems (haloPoison port i f d (sentStream s f i edge d).2 s)) := by simp [h_]
    unfold sendPlanes; dsimp only
    generalize sentStream s f i edge d = x at e ⊢
    generalize haloPoison port i f d x.2 s = u at e ⊢
    (repeat' split) <;> first
      | exact e
      | (simp [e]; done)
      | (refine ih _ _ _ ?_; exact sendFragments_memsOk _ _ _ _ _ _ _ _ _ _ e)
      | (rw [log_mems, mems_mk, mems_eta]; refine sendFragments_memsOk _ _ _ _ _ _ _ _ _ _ ?_; exact e)

@[simp] theorem sendStrips_memsOk (edges : List Nat) (f : Frame) (s : State) (h_ : memsOk (mems s)) : memsOk (mems (sendStrips edges f s)) := by
  unfold sendStrips; (try dsimp only)
  (repeat' (first
      | (simp (maxDischargeDepth := 20) [memsOk_ite, memsOk_foldl, eachNat_memsOk, mems_ite, mems_foldl, mems_getD, eachNat_mems, h_]; done)
      | split
      | (refine memsOk_foldl _ _ _ ?_ ?_ <;> intros)
      | (refine eachNat_memsOk _ _ _ ?_ ?_ <;> intros)
      | (simp_all (maxDischargeDepth := 20) [memsOk_ite, memsOk_foldl, eachNat_memsOk, mems_ite, mems_foldl, mems_getD, eachNat_mems, h_]; done)
      | (simp (maxDischargeDepth := 20) [memsOk_ite, memsOk_foldl, eachNat_memsOk, mems_ite, mems_foldl, mems_getD, eachNat_mems, h_])
      | (grind [→ dramWrite_memsOk_pair])))

@[simp] theorem haloLand_memsOk (port : Nat) (target : Int) (e slot addr : Nat) (payload : List Byte) (s : State)
    (h_ : memsOk (mems s)) : memsOk (mems (haloLand port target e slot addr payload s)) := by
  unfold haloLand; dsimp only
  refine regBulk_memsOk _ _ _ _ h_ fun t ht => ?_
  split <;> rename_i h1 <;> have e1 := trnAccess_mems_pair _ _ _ _ _ _ h1 <;> simp [e1, ht]

@[simp] theorem haloFragment_memsOk (port : Nat) (target : Int) (payload : List Byte) (s : State) (h_ : memsOk (mems s)) : memsOk (mems (haloFragment port target payload s)) := by
  unfold haloFragment; (try dsimp only); (repeat' split) <;> (try simp_all (maxDischargeDepth := 20) [memsOk_ite, memsOk_foldl, eachNat_memsOk, mems_ite, mems_foldl, mems_getD, eachNat_mems, h_])

@[simp] theorem haloPhase2_memsOk (s : State) (h_ : memsOk (mems s)) : memsOk (mems (haloPhase2 s)) := by
  unfold haloPhase2; (try dsimp only); (repeat' split) <;> (try simp_all (maxDischargeDepth := 20) [memsOk_ite, memsOk_foldl, eachNat_memsOk, mems_ite, mems_foldl, mems_getD, eachNat_mems, h_])

@[simp] theorem frameLanded_memsOk (k : Nat) (ans : HostAns) (s : State) (h_ : memsOk (mems s)) :
    memsOk (mems (frameLanded k ans s)) := by
  unfold frameLanded
  split
  · exact h_
  · split
    · simp [h_]
    · simp [h_]
    · dsimp only
      refine regBulk_memsOk _ _ _ _ h_ fun t ht => ?_
      split <;> rename_i h1 <;> have e1 := trnAccess_mems_pair _ _ _ _ _ _ h1 <;> simp [e1, ht]

@[simp] theorem startPreflight_memsOk (f : Frame) (tb2 : Int) (s : State) (h_ : memsOk (mems s)) : memsOk (mems (startPreflight f tb2 s)) := by
  unfold startPreflight; simp (maxDischargeDepth := 20) [memsOk_ite, memsOk_foldl, eachNat_memsOk, mems_ite, mems_foldl, mems_getD, eachNat_mems, h_]

@[simp] theorem selectFrame_memsOk (tk tb2 : Int) (s : State) (h_ : memsOk (mems s)) : memsOk (mems (selectFrame tk tb2 s)) := by
  unfold selectFrame; (try dsimp only); (repeat' split) <;> (try simp_all (maxDischargeDepth := 20) [memsOk_ite, memsOk_foldl, eachNat_memsOk, mems_ite, mems_foldl, mems_getD, eachNat_mems, h_])

@[simp] theorem startStream_memsOk (tk tb2 : Int) (s : State) (h_ : memsOk (mems s)) : memsOk (mems (startStream tk tb2 s)) := by
  unfold startStream; (try dsimp only); (repeat' split) <;> (try simp_all (maxDischargeDepth := 20) [memsOk_ite, memsOk_foldl, eachNat_memsOk, mems_ite, mems_foldl, mems_getD, eachNat_mems, h_])

@[simp] theorem preflightStart_memsOk (frame : Bool) (s : State) (h_ : memsOk (mems s)) : memsOk (mems (preflightStart frame s)) := by
  unfold preflightStart; (try dsimp only); (repeat' split) <;> (try simp_all (maxDischargeDepth := 20) [memsOk_ite, memsOk_foldl, eachNat_memsOk, mems_ite, mems_foldl, mems_getD, eachNat_mems, h_])

@[simp] theorem priorWrite_memsOk (t : Timing) (a v : Nat) (codes : List (RayRes × List Nat)) (s : State) (h_ : memsOk (mems s)) :
    memsOk (mems (priorWrite t a v codes s)) := by
  unfold priorWrite
  split
  · exact h_
  · extract_lets es pitch
    split <;> rename_i h1 <;> have e1 := trnAccess_mems_pair _ _ _ _ _ _ h1 <;> simp [e1, h_]

@[simp] theorem lineSend_memsOk (t : Timing) (a : Nat) (env : LineEnv) (s : State) (h_ : memsOk (mems s)) : memsOk (mems (lineSend t a env s)) := by
  unfold lineSend; (try dsimp only); (repeat' split) <;> (try simp_all (maxDischargeDepth := 20) [memsOk_ite, memsOk_foldl, eachNat_memsOk, mems_ite, mems_foldl, mems_getD, eachNat_mems, h_])

theorem powerStop_memsOk (pad : List (Nat × W32)) (s t : State) (h : powerStop pad s = some t) (h_ : memsOk (mems s)) : memsOk (mems t) := by
  simp only [powerStop, Option.ite_none_right_eq_some, Option.some.injEq] at h
  rw [← h.2]; simp [h_]

@[simp] theorem tickBody_memsOk (env : TickEnv) (complete_ ended first : Bool) (t : Timing) (s : State) (h_ : memsOk (mems s)) :
    memsOk (mems (tickBody env complete_ ended first t s)) := by
  unfold tickBody; dsimp only
  cases first
  all_goals
    simp only [Bool.false_eq_true, if_true, if_false, reduceIte]
    split
    · simp (maxDischargeDepth := 20) [h_]
    · split <;> rename_i h1
      · exact powerStop_memsOk _ _ _ h1 (by simp (maxDischargeDepth := 20) [h_])
      · (repeat' split) <;> simp (maxDischargeDepth := 20) [h_]

@[simp] theorem frameTick_memsOk (env : TickEnv) (s : State) (h_ : memsOk (mems s)) : memsOk (mems (frameTick env s)) := by
  unfold frameTick; (try dsimp only); (repeat' split) <;> (try simp_all (maxDischargeDepth := 20) [memsOk_ite, memsOk_foldl, eachNat_memsOk, mems_ite, mems_foldl, mems_getD, eachNat_mems, h_])

@[simp] theorem rasterStart_memsOk (s : State) (h_ : memsOk (mems s)) : memsOk (mems (rasterStart s)) := by
  unfold rasterStart; (try dsimp only); (repeat' split) <;> (try simp_all (maxDischargeDepth := 20) [memsOk_ite, memsOk_foldl, eachNat_memsOk, mems_ite, mems_foldl, mems_getD, eachNat_mems, h_])

@[simp] theorem lineDeparture_memsOk (env : LineEnv) (s : State) (h_ : memsOk (mems s)) : memsOk (mems (lineDeparture env s)) := by
  unfold lineDeparture; (try dsimp only); (repeat' split) <;> (try simp_all (maxDischargeDepth := 20) [memsOk_ite, memsOk_foldl, eachNat_memsOk, mems_ite, mems_foldl, mems_getD, eachNat_mems, h_])

@[simp] theorem shwWrite_memsOk (m : Nat) (spm : Bool) (a : Nat) (bs : List Byte) (poison : Bool) (ecc : Ecc) (s : State)
    (h_ : memsOk (mems s)) : memsOk (mems (shwWrite m spm a bs poison ecc s).2) := by
  unfold shwWrite
  split <;> rename_i h1 <;> have e1 := trnAccess_mems_pair _ _ _ _ _ _ h1
  · simp [e1, h_]
  · dsimp only; (repeat' split) <;> simp [e1, h_]

theorem shwWrite_memsOk_pair (m : Nat) (spm : Bool) (a : Nat) (bs : List Byte) (poison : Bool) (ecc : Ecc) (s : State) {a_ : Option Status} {t_ : State} (h_ : memsOk (mems s)) (e_ : shwWrite m spm a bs poison ecc s = (a_, t_)) : memsOk (mems t_) := by
  have i_ := shwWrite_memsOk  m spm a bs poison ecc s h_
  rw [e_] at i_; exact i_

@[simp] theorem burstRun_memsOk (c : Nat) (b : Blit) (env : MemEnv) (s : State) (h_ : memsOk (mems s)) :
    memsOk (mems (burstRun c b env s)) := by
  unfold burstRun; dsimp only
  split <;> rename_i h1 <;> have e1 := burstSource_mems_pair _ _ _ _ _ _ _ h1
  · simp [e1, h_, mems_ite]
  · have k : ∀ (c : Prop) [Decidable c] (t u : State), memsOk (mems t) → memsOk (mems u) → memsOk (mems (if c then t else u)) := by
      intro c _ t u ht hu; split <;> assumption
    split <;> rename_i h2 <;>
      have e2 := shwWrite_memsOk_pair _ _ _ _ _ _ _ (k _ _ _ (by simp [e1, h_, mems_ite]) (by simp [e1, h_, mems_ite])) h2 <;>
      simp [e2]

@[simp] theorem burstDone_memsOk (c : Nat) (env : MemEnv) (s : State) (h_ : memsOk (mems s)) :
    memsOk (mems (burstDone c env s)) := by
  unfold burstDone; dsimp only
  split
  · (repeat' split) <;> first
      | exact h_
      | exact regulated_memsOk _ _ _ _ (by simp [h_]) fun t ht => burstRun_memsOk _ _ _ _ (by simp [ht])
  · exact h_

@[simp] theorem stageBurst_memsOk (c k : Nat) (b : Blit) (y j : Nat) (eccs : List Ecc) (ecc : Ecc) (s : State)
    (h_ : memsOk (mems s)) : memsOk (mems (stageBurst c k b y j eccs ecc s).2) := by
  unfold stageBurst; dsimp only
  split <;> rename_i h1 <;> have e1 := shwRead_mems_pair _ _ _ _ _ _ h1
  · simp [e1, h_]
  · exact shwWrite_memsOk _ _ _ _ _ _ _ (by simp [e1, h_])

theorem stageBurst_memsOk_pair (c k : Nat) (b : Blit) (y j : Nat) (eccs : List Ecc) (ecc : Ecc) (s : State) {a_ : Option Status} {t_ : State} (h_ : memsOk (mems s)) (e_ : stageBurst c k b y j eccs ecc s = (a_, t_)) : memsOk (mems t_) := by
  have i_ := stageBurst_memsOk  c k b y j eccs ecc s h_
  rw [e_] at i_; exact i_

@[simp] theorem stageReads_memsOk (c k : Nat) (b : Blit) (z0 : List (Nat × Nat)) (z1 : List Ecc) (z2 : Ecc) (s : State) (h_ : memsOk (mems s)) : memsOk (mems ((stageReads c k b z0 z1 z2 s).2)) := by
  fun_induction stageReads c k b z0 z1 z2 s <;> (try dsimp only) <;> (repeat' (first
      | (simp (maxDischargeDepth := 20) [memsOk_ite, memsOk_foldl, eachNat_memsOk, mems_ite, mems_foldl, mems_getD, eachNat_mems]; done)
      | split
      | (refine memsOk_foldl _ _ _ ?_ ?_ <;> intros)
      | (refine eachNat_memsOk _ _ _ ?_ ?_ <;> intros)
      | (simp_all (maxDischargeDepth := 20) [memsOk_ite, memsOk_foldl, eachNat_memsOk, mems_ite, mems_foldl, mems_getD, eachNat_mems]; done)
      | (simp (maxDischargeDepth := 20) [memsOk_ite, memsOk_foldl, eachNat_memsOk, mems_ite, mems_foldl, mems_getD, eachNat_mems])
      | (grind [→ dramWrite_memsOk_pair, → shwWrite_memsOk_pair, → stageBurst_memsOk_pair])))

theorem stageReads_memsOk_pair (c k : Nat) (b : Blit) (z0 : List (Nat × Nat)) (z1 : List Ecc) (z2 : Ecc) (s : State) {a_ : Option Status} {t_ : State} (h_ : memsOk (mems s)) (e_ : stageReads c k b z0 z1 z2 s = (a_, t_)) : memsOk (mems t_) := by
  have i_ := stageReads_memsOk  c k b z0 z1 z2 s h_
  rw [e_] at i_; exact i_

@[simp] theorem stagingDone_memsOk (c : Nat) (env : MemEnv) (s : State) (h_ : memsOk (mems s)) :
    memsOk (mems (stagingDone c env s)) := by
  unfold stagingDone; dsimp only
  split
  · refine regBulk_memsOk _ _ _ _ h_ fun t ht => ?_
    split <;> rename_i h1 <;>
      have e1 := stageReads_memsOk_pair _ _ _ _ _ _ _ (by (try split) <;> simp [ht, mems_ite]) h1 <;> simp [e1]
  · exact h_

@[simp] theorem jobStore_memsOk (spm : Bool) (a : Nat) (bs : List Byte) (ecc : Ecc) (s : State) (h_ : memsOk (mems s)) : memsOk (mems (jobStore spm a bs ecc s)) := by
  unfold jobStore; (try dsimp only); (repeat' split) <;> (try simp_all (maxDischargeDepth := 20) [memsOk_ite, memsOk_foldl, eachNat_memsOk, mems_ite, mems_foldl, mems_getD, eachNat_mems, h_])

@[simp] theorem chainRun_memsOk (m : Nat) (p : CtnJobP) (lossEnc pred : Bool) (ecc : Ecc) (n i : Nat) (j : JobRun) (s : State)
    (h_ : memsOk (mems s)) : memsOk (mems (chainRun m p lossEnc pred ecc n i j s).2) := by
  induction n generalizing i j s with
  | zero => exact h_
  | succ n ih =>
    unfold chainRun; dsimp only
    split
    · exact h_
    · exact h_
    · exact h_
    · split
      · exact h_
      · split <;> rename_i h1 <;> have e1 := takeEntry_mems_pair _ _ _ _ _ _ h1
        · simp [e1, h_]
        · split
          · exact ih _ _ _ (by simp [e1, h_])
          · simp [e1, h_]

theorem chainRun_memsOk_pair (m : Nat) (p : CtnJobP) (lossEnc pred : Bool) (ecc : Ecc) (z0 : Nat) (z1 : Nat) (z2 : JobRun) (s : State) {a_ : JobRun} {t_ : State} (h_ : memsOk (mems s)) (e_ : chainRun m p lossEnc pred ecc z0 z1 z2 s = (a_, t_)) : memsOk (mems t_) := by
  have i_ := chainRun_memsOk  m p lossEnc pred ecc z0 z1 z2 s h_
  rw [e_] at i_; exact i_

@[simp] theorem runPieces_memsOk (c m : Nat) (p : CtnJobP) (env : MemEnv) (x : Ctx) (src : List Byte) (retried : Bool) (s : State) (h_ : memsOk (mems s)) : memsOk (mems (runPieces c m p env x src retried s)) := by
  unfold runPieces; simp (maxDischargeDepth := 20) [memsOk_ite, memsOk_foldl, eachNat_memsOk, mems_ite, mems_foldl, mems_getD, eachNat_mems, h_]

@[simp] theorem runRaw_memsOk (c m : Nat) (p : CtnJobP) (env : MemEnv) (left head : Nat) (src : List Byte) (retried : Bool) (s : State) (h_ : memsOk (mems s)) : memsOk (mems (runRaw c m p env left head src retried s)) := by
  unfold runRaw; simp (maxDischargeDepth := 20) [memsOk_ite, memsOk_foldl, eachNat_memsOk, mems_ite, mems_foldl, mems_getD, eachNat_mems, h_]

@[simp] theorem runTokens_memsOk (c m : Nat) (p : CtnJobP) (env : MemEnv) (head : Nat) (src : List Byte) (retried : Bool) (s : State) (h_ : memsOk (mems s)) : memsOk (mems (runTokens c m p env head src retried s)) := by
  unfold runTokens; simp (maxDischargeDepth := 20) [memsOk_ite, memsOk_foldl, eachNat_memsOk, mems_ite, mems_foldl, mems_getD, eachNat_mems, h_]

@[simp] theorem runDecode_memsOk (c m : Nat) (p : CtnJobP) (env : MemEnv) (x : Ctx) (src : List Byte) (retried : Bool) (s : State) (h_ : memsOk (mems s)) : memsOk (mems (runDecode c m p env x src retried s)) := by
  unfold runDecode; (try dsimp only); (repeat' split) <;> (try simp_all (maxDischargeDepth := 20) [memsOk_ite, memsOk_foldl, eachNat_memsOk, mems_ite, mems_foldl, mems_getD, eachNat_mems, h_])

@[simp] theorem jobRun_memsOk (c m : Nat) (p : CtnJobP) (env : MemEnv) (s : State) (h_ : memsOk (mems s)) :
    memsOk (mems (jobRun c m p env s)) := by
  unfold jobRun; dsimp only
  split <;> rename_i h1 <;> have e1 := jobRead_mems_pair _ _ _ _ _ _ h1
  · simp [e1, h_, mems_ite]
  · (repeat' split) <;> simp [e1, h_, mems_ite]

@[simp] theorem jobEndEvent_memsOk (c : Nat) (env : MemEnv) (s : State) (h_ : memsOk (mems s)) :
    memsOk (mems (jobEndEvent c env s)) := by
  unfold jobEndEvent; dsimp only
  split
  · exact regBulk_memsOk _ _ _ _ h_ fun t ht => jobRun_memsOk _ _ _ _ _ ht
  · exact h_

@[simp] theorem doCtxSave_memsOk (h : Hdr) (p : CtnStateP) (s : State) (h_ : memsOk (mems s)) : memsOk (mems (doCtxSave h p s)) := by
  unfold doCtxSave
  refine ctxCommand_memsOk _ _ _ _ _ h_ fun t ht => ?_
  split <;> rename_i h1 <;> have e1 := trnAccess_mems_pair _ _ _ _ _ _ h1 <;> simp [e1, ht]

@[simp] theorem halofragRx_memsOk (p : Nat) (b : List Byte) (s : State) (h_ : memsOk (mems s)) :
    memsOk (mems (halofragRx p b s)) := by
  unfold halofragRx
  exact meshRx_memsOk _ _ _ _ _ _ h_ fun t ht => haloFragment_memsOk _ _ _ _ ht

@[simp] theorem ringPut_memsOk (src : Nat) (msg : List Byte) (s : State) (h_ : memsOk (mems s)) : memsOk (mems ((ringPut src msg s).2)) := by
  unfold ringPut; (try dsimp only); (repeat' split) <;> (try simp_all (maxDischargeDepth := 20) [memsOk_ite, memsOk_foldl, eachNat_memsOk, mems_ite, mems_foldl, mems_getD, eachNat_mems, h_])

theorem ringPut_memsOk_pair (src : Nat) (msg : List Byte) (s : State) {a_ : Bool} {t_ : State} (h_ : memsOk (mems s)) (e_ : ringPut src msg s = (a_, t_)) : memsOk (mems t_) := by
  have i_ := ringPut_memsOk  src msg s h_
  rw [e_] at i_; exact i_

@[simp] theorem userMsg_memsOk (p : Nat) (b : List Byte) (id : Nat) (msg : List Byte) (s : State) (h_ : memsOk (mems s)) :
    memsOk (mems (userMsg p b id msg s)) := by
  unfold userMsg
  refine meshRx_memsOk _ _ _ _ _ _ h_ fun t ht => meshForward_memsOk _ _ _ _ _ _ _ _ ht fun u hu => ?_
  dsimp only
  split <;> simp [hu]

@[simp] theorem doMeshSend_memsOk (h : Hdr) (p : MeshSendP) (ans : HostAns) (s : State) (h_ : memsOk (mems s)) : memsOk (mems (doMeshSend h p ans s)) := by
  unfold doMeshSend; (try dsimp only); (repeat' split) <;> (try simp_all (maxDischargeDepth := 20) [memsOk_ite, memsOk_foldl, eachNat_memsOk, mems_ite, mems_foldl, mems_getD, eachNat_mems, h_])

@[simp] theorem unitOut_memsOk (h : Hdr) (cls idx : Nat) (force : Bool) (s : State) (h_ : memsOk (mems s)) : memsOk (mems (unitOut h cls idx force s)) := by
  unfold unitOut; (try dsimp only)
  (repeat' (first
      | (simp (maxDischargeDepth := 20) [memsOk_ite, memsOk_foldl, eachNat_memsOk, mems_ite, mems_foldl, mems_getD, eachNat_mems, h_]; done)
      | split
      | (refine memsOk_foldl _ _ _ ?_ ?_ <;> intros)
      | (refine eachNat_memsOk _ _ _ ?_ ?_ <;> intros)
      | (simp_all (maxDischargeDepth := 20) [memsOk_ite, memsOk_foldl, eachNat_memsOk, mems_ite, mems_foldl, mems_getD, eachNat_mems, h_]; done)
      | (simp (maxDischargeDepth := 20) [memsOk_ite, memsOk_foldl, eachNat_memsOk, mems_ite, mems_foldl, mems_getD, eachNat_mems, h_])
      | (grind [→ dramWrite_memsOk_pair, → shwWrite_memsOk_pair, → stageBurst_memsOk_pair, → stageReads_memsOk_pair, → chainRun_memsOk_pair, → ringPut_memsOk_pair])))

@[simp] theorem doUnitSet_memsOk (h : Hdr) (p : UnitP) (s : State) (h_ : memsOk (mems s)) : memsOk (mems (doUnitSet h p s)) := by
  unfold doUnitSet; (try dsimp only); (repeat' split) <;> (try simp_all (maxDischargeDepth := 20) [memsOk_ite, memsOk_foldl, eachNat_memsOk, mems_ite, mems_foldl, mems_getD, eachNat_mems, h_])

@[simp] theorem flashWrite_memsOk (a : Nat) (bs : List Byte) (s : State) (h_ : memsOk (mems s)) : memsOk (mems (flashWrite a bs s)) := by
  unfold flashWrite; simp (maxDischargeDepth := 20) [memsOk_ite, memsOk_foldl, eachNat_memsOk, mems_ite, mems_foldl, mems_getD, eachNat_mems, h_]

@[simp] theorem flashErase_memsOk (a n : Nat) (s : State) (h_ : memsOk (mems s)) : memsOk (mems (flashErase a n s)) := by
  unfold flashErase; simp (maxDischargeDepth := 20) [memsOk_ite, memsOk_foldl, eachNat_memsOk, mems_ite, mems_foldl, mems_getD, eachNat_mems, h_]

@[simp] theorem doFwOpen_memsOk (h : Hdr) (p : FwOpenP) (s : State) (h_ : memsOk (mems s)) : memsOk (mems (doFwOpen h p s)) := by
  unfold doFwOpen; (try dsimp only); (repeat' split) <;> (try simp_all (maxDischargeDepth := 20) [memsOk_ite, memsOk_foldl, eachNat_memsOk, mems_ite, mems_foldl, mems_getD, eachNat_mems, h_])

@[simp] theorem eraseDone_memsOk (session : W32) (s : State) (h_ : memsOk (mems s)) : memsOk (mems (eraseDone session s)) := by
  unfold eraseDone; (try dsimp only); (repeat' split) <;> (try simp_all (maxDischargeDepth := 20) [memsOk_ite, memsOk_foldl, eachNat_memsOk, mems_ite, mems_foldl, mems_getD, eachNat_mems, h_])

@[simp] theorem sessionWrite_memsOk (off : Nat) (bs : List Byte) (s : State) (h_ : memsOk (mems s)) : memsOk (mems (sessionWrite off bs s)) := by
  unfold sessionWrite; (try dsimp only); (repeat' split) <;> (try simp_all (maxDischargeDepth := 20) [memsOk_ite, memsOk_foldl, eachNat_memsOk, mems_ite, mems_foldl, mems_getD, eachNat_mems, h_])

@[simp] theorem doFwBlock_memsOk (h : Hdr) (p : FwBlockP) (s : State) (h_ : memsOk (mems s)) : memsOk (mems (doFwBlock h p s)) := by
  unfold doFwBlock; (try dsimp only); (repeat' split) <;> (try simp_all (maxDischargeDepth := 20) [memsOk_ite, memsOk_foldl, eachNat_memsOk, mems_ite, mems_foldl, mems_getD, eachNat_mems, h_])

@[simp] theorem sessionClose_memsOk (s : State) (h_ : memsOk (mems s)) : memsOk (mems (sessionClose s)) := by
  unfold sessionClose; simp (maxDischargeDepth := 20) [memsOk_ite, memsOk_foldl, eachNat_memsOk, mems_ite, mems_foldl, mems_getD, eachNat_mems, h_]

@[simp] theorem commitCheckDone_memsOk (s : State) (h_ : memsOk (mems s)) : memsOk (mems (commitCheckDone s)) := by
  unfold commitCheckDone; (try dsimp only); (repeat' split) <;> (try simp_all (maxDischargeDepth := 20) [memsOk_ite, memsOk_foldl, eachNat_memsOk, mems_ite, mems_foldl, mems_getD, eachNat_mems, h_])

@[simp] theorem sessionAbort_memsOk (s : State) (h_ : memsOk (mems s)) : memsOk (mems (sessionAbort s)) := by
  unfold sessionAbort; (try dsimp only); (repeat' split) <;> (try simp_all (maxDischargeDepth := 20) [memsOk_ite, memsOk_foldl, eachNat_memsOk, mems_ite, mems_foldl, mems_getD, eachNat_mems, h_])

@[simp] theorem doFwAbort_memsOk (h : Hdr) (p : FwAbortP) (s : State) (h_ : memsOk (mems s)) : memsOk (mems (doFwAbort h p s)) := by
  unfold doFwAbort; (try dsimp only); (repeat' split) <;> (try simp_all (maxDischargeDepth := 20) [memsOk_ite, memsOk_foldl, eachNat_memsOk, mems_ite, mems_foldl, mems_getD, eachNat_mems, h_])

@[simp] theorem lockExpiry_memsOk (s : State) (h_ : memsOk (mems s)) : memsOk (mems (lockExpiry s)) := by
  unfold lockExpiry; (try dsimp only); (repeat' split) <;> (try simp_all (maxDischargeDepth := 20) [memsOk_ite, memsOk_foldl, eachNat_memsOk, mems_ite, mems_foldl, mems_getD, eachNat_mems, h_])

@[simp] theorem resetState_memsOk (s : State) (h_ : memsOk (mems s)) : memsOk (mems (resetState s)) := by
  unfold resetState; simp [State.reset, h_]

@[simp] theorem deviceReset_memsOk (cause : Nat) (s : State) (h_ : memsOk (mems s)) : memsOk (mems (deviceReset cause s)) := by
  unfold deviceReset; simp (maxDischargeDepth := 20) [memsOk_ite, memsOk_foldl, eachNat_memsOk, mems_ite, mems_foldl, mems_getD, eachNat_mems, h_]

@[simp] theorem hardReset_memsOk (cause : Nat) (s : State) (h_ : memsOk (mems s)) : memsOk (mems (hardReset cause s)) := by
  unfold hardReset; simp (maxDischargeDepth := 20) [memsOk_ite, memsOk_foldl, eachNat_memsOk, mems_ite, mems_foldl, mems_getD, eachNat_mems, h_]

@[simp] theorem softReset_memsOk (cause : Nat) (s : State) (h_ : memsOk (mems s)) : memsOk (mems (softReset cause s)) := by
  unfold softReset; (try dsimp only); (repeat' split) <;> (try simp_all (maxDischargeDepth := 20) [memsOk_ite, memsOk_foldl, eachNat_memsOk, mems_ite, mems_foldl, mems_getD, eachNat_mems, h_])

@[simp] theorem resetDue_memsOk (s : State) (h_ : memsOk (mems s)) : memsOk (mems (resetDue s)) := by
  unfold resetDue; (try dsimp only); (repeat' split) <;> (try simp_all (maxDischargeDepth := 20) [memsOk_ite, memsOk_foldl, eachNat_memsOk, mems_ite, mems_foldl, mems_getD, eachNat_mems, h_])

@[simp] theorem powerCycle_memsOk (vaon : Bool) (smbAddr : Nat) (s : State) (h_ : memsOk (mems s)) : memsOk (mems (powerCycle vaon smbAddr s)) := by
  unfold powerCycle; simp (maxDischargeDepth := 20) [memsOk_ite, memsOk_foldl, eachNat_memsOk, mems_ite, mems_foldl, mems_getD, eachNat_mems, h_]

@[simp] theorem resetPin_memsOk (smbAddr : Nat) (s : State) (h_ : memsOk (mems s)) : memsOk (mems (resetPin smbAddr s)) := by
  unfold resetPin; (try dsimp only); (repeat' split) <;> (try simp_all (maxDischargeDepth := 20) [memsOk_ite, memsOk_foldl, eachNat_memsOk, mems_ite, mems_foldl, mems_getD, eachNat_mems, h_])

@[simp] theorem rmReset_memsOk (v : W32) (s : State) (h_ : memsOk (mems s)) : memsOk (mems (rmReset v s)) := by
  unfold rmReset; (try dsimp only); (repeat' split) <;> (try simp_all (maxDischargeDepth := 20) [memsOk_ite, memsOk_foldl, eachNat_memsOk, mems_ite, mems_foldl, mems_getD, eachNat_mems, h_])

@[simp] theorem watchdogExpire_memsOk (s : State) (h_ : memsOk (mems s)) : memsOk (mems (watchdogExpire s)) := by
  unfold watchdogExpire; (try dsimp only); (repeat' split) <;> (try simp_all (maxDischargeDepth := 20) [memsOk_ite, memsOk_foldl, eachNat_memsOk, mems_ite, mems_foldl, mems_getD, eachNat_mems, h_])

@[simp] theorem brownout_memsOk (r : Rail) (s : State) (h_ : memsOk (mems s)) : memsOk (mems (brownout r s)) := by
  unfold brownout; (try dsimp only); (repeat' split) <;> (try simp_all (maxDischargeDepth := 20) [memsOk_ite, memsOk_foldl, eachNat_memsOk, mems_ite, mems_foldl, mems_getD, eachNat_mems, h_])

@[simp] theorem thermalTrip_memsOk (i : Nat) (temp prev : Int) (s : State) (h_ : memsOk (mems s)) : memsOk (mems (thermalTrip i temp prev s)) := by
  unfold thermalTrip; (try dsimp only); (repeat' split) <;> (try simp_all (maxDischargeDepth := 20) [memsOk_ite, memsOk_foldl, eachNat_memsOk, mems_ite, mems_foldl, mems_getD, eachNat_mems, h_])

@[simp] theorem secureLost_memsOk (s : State) (h_ : memsOk (mems s)) : memsOk (mems (secureLost s)) := by
  unfold secureLost; simp (maxDischargeDepth := 20) [memsOk_ite, memsOk_foldl, eachNat_memsOk, mems_ite, mems_foldl, mems_getD, eachNat_mems, h_]

@[simp] theorem tamperAssert_memsOk (s : State) (h_ : memsOk (mems s)) : memsOk (mems (tamperAssert s)) := by
  unfold tamperAssert; (try dsimp only); (repeat' split) <;> (try simp_all (maxDischargeDepth := 20) [memsOk_ite, memsOk_foldl, eachNat_memsOk, mems_ite, mems_foldl, mems_getD, eachNat_mems, h_])

@[simp] theorem tamperLatched_memsOk (w : WipeEnv) (s : State) (h_ : memsOk (mems s)) : memsOk (mems (tamperLatched w s)) := by
  unfold tamperLatched; (try dsimp only); (repeat' split) <;> (try simp_all (maxDischargeDepth := 20) [memsOk_ite, memsOk_foldl, eachNat_memsOk, mems_ite, mems_foldl, mems_getD, eachNat_mems, h_])

@[simp] theorem lcCarry_memsOk (w : WipeEnv) (s : State) (h_ : memsOk (mems s)) : memsOk (mems (lcCarry w s)) := by
  unfold lcCarry; (try dsimp only); (repeat' split) <;> (try simp_all (maxDischargeDepth := 20) [memsOk_ite, memsOk_foldl, eachNat_memsOk, mems_ite, mems_foldl, mems_getD, eachNat_mems, h_])

@[simp] theorem lifecycleChange_memsOk (w : WipeEnv) (s : State) (h_ : memsOk (mems s)) : memsOk (mems (lifecycleChange w s)) := by
  unfold lifecycleChange; (try dsimp only); (repeat' split) <;> (try simp_all (maxDischargeDepth := 20) [memsOk_ite, memsOk_foldl, eachNat_memsOk, mems_ite, mems_foldl, mems_getD, eachNat_mems, h_])

@[simp] theorem porDone_memsOk (tamper lc : WipeEnv) (s : State) (h_ : memsOk (mems s)) : memsOk (mems (porDone tamper lc s)) := by
  unfold porDone; (try dsimp only); (repeat' split) <;> (try simp_all (maxDischargeDepth := 20) [memsOk_ite, memsOk_foldl, eachNat_memsOk, mems_ite, mems_foldl, mems_getD, eachNat_mems, h_])

@[simp] theorem loadDone_memsOk (c : ConfigItems) (s : State) (h_ : memsOk (mems s)) : memsOk (mems (loadDone c s)) := by
  unfold loadDone
  split
  · exact h_
  · generalize sectionOf _ 3 = b
    have h1 : memsOk (mems (eachNat (fun n s => setCopy n (memWrite 0 [] 0 b) 0 s) (List.range 3) s)) :=
      eachNat_memsOk _ _ _ (fun _ _ h => setCopy_memsOk _ _ _ _ (freshWrite_wf _) h) h_
    simpa using h1

@[simp] theorem trainStageDone_memsOk (t : TrainEnv) (s : State) (h_ : memsOk (mems s)) : memsOk (mems (trainStageDone t s)) := by
  unfold trainStageDone; (try dsimp only); (repeat' split) <;> (try simp_all (maxDischargeDepth := 20) [memsOk_ite, memsOk_foldl, eachNat_memsOk, mems_ite, mems_foldl, mems_getD, eachNat_mems, h_])

@[simp] theorem activateReset_memsOk (s : State) (h_ : memsOk (mems s)) : memsOk (mems (activateReset s)) := by
  unfold activateReset; (try dsimp only); (repeat' split) <;> (try simp_all (maxDischargeDepth := 20) [memsOk_ite, memsOk_foldl, eachNat_memsOk, mems_ite, mems_foldl, mems_getD, eachNat_mems, h_])

@[simp] theorem windowExpire_memsOk (s : State) (h_ : memsOk (mems s)) : memsOk (mems (windowExpire s)) := by
  unfold windowExpire; (try dsimp only); (repeat' split) <;> (try simp_all (maxDischargeDepth := 20) [memsOk_ite, memsOk_foldl, eachNat_memsOk, mems_ite, mems_foldl, mems_getD, eachNat_mems, h_])

@[simp] theorem runCmd_memsOk (h : Hdr) (c : Cmd) (s : State) (h_ : memsOk (mems s)) : memsOk (mems (runCmd h c s)) := by
  unfold runCmd; (try dsimp only); (repeat' split) <;> (try simp_all (maxDischargeDepth := 20) [memsOk_ite, memsOk_foldl, eachNat_memsOk, mems_ite, mems_foldl, mems_getD, eachNat_mems, h_])

@[simp] theorem startCmd_memsOk (h : Hdr) (c : Cmd) (s : State) (h_ : memsOk (mems s)) : memsOk (mems (startCmd h c s)) := by
  unfold startCmd; (try dsimp only); (repeat' split) <;> (try simp_all (maxDischargeDepth := 20) [memsOk_ite, memsOk_foldl, eachNat_memsOk, mems_ite, mems_foldl, mems_getD, eachNat_mems, h_])

@[simp] theorem settle1_memsOk (s : State) (h_ : memsOk (mems s)) : memsOk (mems (settle1 s)) := by
  unfold settle1; (try dsimp only); (repeat' split) <;> (try simp_all (maxDischargeDepth := 20) [memsOk_ite, memsOk_foldl, eachNat_memsOk, mems_ite, mems_foldl, mems_getD, eachNat_mems, h_])

@[simp] theorem settleN_memsOk  (z0 : Nat) (s : State) (h_ : memsOk (mems s)) : memsOk (mems (settleN z0 s)) := by
  fun_induction settleN z0 s <;> simp_all (maxDischargeDepth := 20) [memsOk_ite, memsOk_foldl, eachNat_memsOk, mems_ite, mems_foldl, mems_getD, eachNat_mems]

@[simp] theorem settle_memsOk (s : State) (h_ : memsOk (mems s)) : memsOk (mems (settle s)) := by
  unfold settle; simp (maxDischargeDepth := 20) [memsOk_ite, memsOk_foldl, eachNat_memsOk, mems_ite, mems_foldl, mems_getD, eachNat_mems, h_]

@[simp] theorem n1Release_memsOk (s : State) (h_ : memsOk (mems s)) : memsOk (mems (n1Release s)) := by
  unfold n1Release; (try dsimp only); (repeat' split) <;> (try simp_all (maxDischargeDepth := 20) [memsOk_ite, memsOk_foldl, eachNat_memsOk, mems_ite, mems_foldl, mems_getD, eachNat_mems, h_])

@[simp] theorem takeCmd_memsOk (h : Hdr) (c : Cmd) (s : State) (h_ : memsOk (mems s)) : memsOk (mems (takeCmd h c s)) := by
  unfold takeCmd; (try dsimp only); (repeat' split) <;> (try simp_all (maxDischargeDepth := 20) [memsOk_ite, memsOk_foldl, eachNat_memsOk, mems_ite, mems_foldl, mems_getD, eachNat_mems, h_])

@[simp] theorem submit_memsOk (h : Hdr) (c : Cmd) (s : State) (h_ : memsOk (mems s)) : memsOk (mems (submit h c s)) := by
  unfold submit; (try dsimp only); (repeat' split) <;> (try simp_all (maxDischargeDepth := 20) [memsOk_ite, memsOk_foldl, eachNat_memsOk, mems_ite, mems_foldl, mems_getD, eachNat_mems, h_])

@[simp] theorem packetGo_memsOk (h : Hdr) (c : Cmd) (packet : List Byte) (remote : Option Nat) (s : State) (h_ : memsOk (mems s)) : memsOk (mems (packetGo h c packet remote s)) := by
  unfold packetGo; (try dsimp only); (repeat' split) <;> (try simp_all (maxDischargeDepth := 20) [memsOk_ite, memsOk_foldl, eachNat_memsOk, mems_ite, mems_foldl, mems_getD, eachNat_mems, h_])

@[simp] theorem packetTake_memsOk (q : Nat) (b : List Byte) (s : State) (h_ : memsOk (mems s)) : memsOk (mems (packetTake q b s)) := by
  unfold packetTake; (try dsimp only); (repeat' split) <;> (try simp_all (maxDischargeDepth := 20) [memsOk_ite, memsOk_foldl, eachNat_memsOk, mems_ite, mems_foldl, mems_getD, eachNat_mems, h_])

@[simp] theorem packetFetch_memsOk (q : Nat) (ans : HostAns) (s : State) (h_ : memsOk (mems s)) : memsOk (mems (packetFetch q ans s)) := by
  unfold packetFetch; (try dsimp only); (repeat' split) <;> (try simp_all (maxDischargeDepth := 20) [memsOk_ite, memsOk_foldl, eachNat_memsOk, mems_ite, mems_foldl, mems_getD, eachNat_mems, h_])

@[simp] theorem mctpRequest_memsOk (t : Nat) (b : List Byte) (s : State) (h_ : memsOk (mems s)) : memsOk (mems (mctpRequest t b s)) := by
  unfold mctpRequest; (try dsimp only); (repeat' split) <;> (try simp_all (maxDischargeDepth := 20) [memsOk_ite, memsOk_foldl, eachNat_memsOk, mems_ite, mems_foldl, mems_getD, eachNat_mems, h_])

@[simp] theorem messageDone_memsOk (t : Nat) (b : List Byte) (s : State) (h_ : memsOk (mems s)) : memsOk (mems (messageDone t b s)) := by
  unfold messageDone; (try dsimp only); (repeat' split) <;> (try simp_all (maxDischargeDepth := 20) [memsOk_ite, memsOk_foldl, eachNat_memsOk, mems_ite, mems_foldl, mems_getD, eachNat_mems, h_])

@[simp] theorem mctpPacket_memsOk (p : McPacket) (s : State) (h_ : memsOk (mems s)) : memsOk (mems (mctpPacket p s)) := by
  unfold mctpPacket; (try dsimp only); (repeat' split) <;> (try simp_all (maxDischargeDepth := 20) [memsOk_ite, memsOk_foldl, eachNat_memsOk, mems_ite, mems_foldl, mems_getD, eachNat_mems, h_])

@[simp] theorem meshCommand_memsOk (p gw id : Nat) (b : List Byte) (s : State) (h_ : memsOk (mems s)) : memsOk (mems (meshCommand p gw id b s)) := by
  unfold meshCommand; (try dsimp only); (repeat' split) <;> (try simp_all (maxDischargeDepth := 20) [memsOk_ite, memsOk_foldl, eachNat_memsOk, mems_ite, mems_foldl, mems_getD, eachNat_mems, h_])

@[simp] theorem meshPiece_memsOk (p gw id : Nat) (piece : List Byte) (s : State) (h_ : memsOk (mems s)) : memsOk (mems (meshPiece p gw id piece s)) := by
  unfold meshPiece; (try dsimp only); (repeat' split) <;> (try simp_all (maxDischargeDepth := 20) [memsOk_ite, memsOk_foldl, eachNat_memsOk, mems_ite, mems_foldl, mems_getD, eachNat_mems, h_])

@[simp] theorem mgmtRx_memsOk (p : Nat) (b : List Byte) (msg : MgmtMsg) (s : State) (h_ : memsOk (mems s)) :
    memsOk (mems (mgmtRx p b msg s)) := by
  unfold mgmtRx; dsimp only; split
  · exact meshRx_memsOk _ _ _ _ _ _ h_ fun t ht => meshForward_memsOk _ _ _ _ _ _ _ _ ht fun u hu => meshPiece_memsOk _ _ _ _ _ hu
  · exact meshRx_memsOk _ _ _ _ _ _ h_ fun t ht => meshForward_memsOk _ _ _ _ _ _ _ _ ht fun u hu => by simp [hu]

@[simp] theorem dataAnswer_memsOk (id : Nat) (ans : HostAns) (s : State) (h_ : memsOk (mems s)) : memsOk (mems (dataAnswer id ans s)) := by
  unfold dataAnswer; (try dsimp only); (repeat' split) <;> (try simp_all (maxDischargeDepth := 20) [memsOk_ite, memsOk_foldl, eachNat_memsOk, mems_ite, mems_foldl, mems_getD, eachNat_mems, h_])

@[simp] theorem dataResponseRx_memsOk (p : Nat) (b : List Byte) (id : Nat) (ans : HostAns) (s : State) (h_ : memsOk (mems s)) :
    memsOk (mems (dataResponseRx p b id ans s)) := by
  unfold dataResponseRx; dsimp only
  exact meshRx_memsOk _ _ _ _ _ _ h_ fun t ht => meshForward_memsOk _ _ _ _ _ _ _ _ ht fun u hu => dataAnswer_memsOk _ _ _ hu

@[simp] theorem rmWrite_memsOk (m o : Nat) (v : W32) (s : State) (h_ : memsOk (mems s)) : memsOk (mems (rmWrite m o v s)) := by
  unfold rmWrite; (try dsimp only); (repeat' split) <;> (try simp_all (maxDischargeDepth := 20) [memsOk_ite, memsOk_foldl, eachNat_memsOk, mems_ite, mems_foldl, mems_getD, eachNat_mems, h_])

@[simp] theorem bankPwrWrite_memsOk (m : Nat) (v : W32) (s : State) (h_ : memsOk (mems s)) : memsOk (mems (bankPwrWrite m v s)) := by
  unfold bankPwrWrite; (try dsimp only); (repeat' split) <;> (try simp_all (maxDischargeDepth := 20) [memsOk_ite, memsOk_foldl, eachNat_memsOk, mems_ite, mems_foldl, mems_getD, eachNat_mems, h_])

@[simp] theorem spmRegWrite_memsOk (m o : Nat) (v : W32) (s : State) (h_ : memsOk (mems s)) : memsOk (mems (spmRegWrite m o v s)) := by
  unfold spmRegWrite; (try dsimp only); (repeat' split) <;> (try simp_all (maxDischargeDepth := 20) [memsOk_ite, memsOk_foldl, eachNat_memsOk, mems_ite, mems_foldl, mems_getD, eachNat_mems, h_])

@[simp] theorem regWrite_memsOk (m off : Nat) (v : W32) (s : State) (h_ : memsOk (mems s)) : memsOk (mems (regWrite m off v s)) := by
  unfold regWrite; (try dsimp only)
  (repeat' (first
      | (simp (maxDischargeDepth := 20) [memsOk_ite, memsOk_foldl, eachNat_memsOk, mems_ite, mems_foldl, mems_getD, eachNat_mems, h_]; done)
      | split
      | (refine memsOk_foldl _ _ _ ?_ ?_ <;> intros)
      | (refine eachNat_memsOk _ _ _ ?_ ?_ <;> intros)
      | (simp_all (maxDischargeDepth := 20) [memsOk_ite, memsOk_foldl, eachNat_memsOk, mems_ite, mems_foldl, mems_getD, eachNat_mems, h_]; done)
      | (simp (maxDischargeDepth := 20) [memsOk_ite, memsOk_foldl, eachNat_memsOk, mems_ite, mems_foldl, mems_getD, eachNat_mems, h_])
      | (grind [→ dramWrite_memsOk_pair, → shwWrite_memsOk_pair, → stageBurst_memsOk_pair, → stageReads_memsOk_pair, → chainRun_memsOk_pair, → ringPut_memsOk_pair])))

@[simp] theorem registerWrite_memsOk (m off : Nat) (v : W32) (s : State) (h_ : memsOk (mems s)) :
    memsOk (mems (registerWrite m off v s)) := by
  unfold registerWrite; split
  · exact barWrite_memsOk _ _ _ _ h_ fun t ht => regWrite_memsOk _ _ _ _ ht
  · simp [h_]

theorem finish_memsOk (f : State → State) (s : State) (h_ : memsOk (mems s)) (hf : ∀ s, memsOk (mems s) → memsOk (mems (f s))) :
    memsOk (mems (finish f s)) := by
  unfold finish; simp [settle_memsOk _ (hf s h_)]

@[simp] theorem rebaseFinish_memsOk (bad : List Nat) (s : State) (h_ : memsOk (mems s)) : memsOk (mems (rebaseFinish bad s)) := by
  unfold rebaseFinish; (try dsimp only); (repeat' split) <;> (try simp_all (maxDischargeDepth := 20) [memsOk_ite, memsOk_foldl, eachNat_memsOk, mems_ite, mems_foldl, mems_getD, eachNat_mems, h_])

end Sys2Proof.Machine
end

