-- ==== Sys2Proof/Laws/Rows.lean ====
section
/-! SUPPORT. What a row answers: in a quiet state its own effect alone, the queue as it was, the memories in canonical
form. -/

namespace Sys2Proof.Machine

/-- In a quiet state nothing follows from a completion. -/
theorem settle_still (s : State) (h : holds s = ([], [], none)) : settle s = s := by
  simp only [holds, Prod.mk.injEq] at h
  simp [settle, settleN, resetDue, h.1, h.2.1, h.2.2]

/-- A quiet state has nothing of what `holds` names. -/
theorem holds_of_quiet {s : State} (h : Quiet s) : holds s = ([], [], none) := by
  simp only [holds, Prod.mk.injEq]; exact ⟨h.1, h.2.1, h.2.2.1⟩

/-- After an operation that leaves alone what `holds` names, nothing follows in a quiet state. -/
theorem settle_quiet {s t : State} (h : Quiet s) (e : holds t = holds s) : settle t = t :=
  settle_still t (e.trans (holds_of_quiet h))

/-- A row does just its operation in a quiet state. -/
theorem row_quiet (f : State → State) (s : State) (h : Quiet s) (e : holds (f s) = holds s) :
    row f s = .next { f s with pending := s.pending } := by
  simp [row, finish, settle_quiet h e]

theorem unitRow_quiet (f : State → State) (s : State) (h : Quiet s) (e : holds (f s) = holds s) :
    unitRow true f s = .next { f s with pending := s.pending } := by
  simp [unitRow, unitFault, finish, settle_quiet h e]

/-- An event of a unit the device does not have stops. -/
theorem unitRow_absent (f : State → State) (s : State) : unitRow false f s = .fault .noSuchUnit := rfl

/-- An access that reaches its register. -/
theorem barGate_open (m off : Nat) (write : Bool) (s : State) (h : RegOpen m off write s) :
    barGate m off write s = (true, s) := by
  rcases h with ⟨h1, h2⟩ | ⟨h1, h2⟩
  · simp [barGate, h1, trnAccess, h2]
  · simp [barGate, h1, h2]

theorem barWrite_open (m off : Nat) (f : State → State) (s : State) (h : RegOpen m off true s) : barWrite m off f s = f s := by
  simp [barWrite, barGate_open m off true s h]

theorem barRead_open (m off : Nat) (v : State → W32) (f : State → State) (s : State) (h : RegOpen m off false s) :
    barRead m off v f s = f (emit (.readReg (v s)) s) := by
  simp [barRead, barGate_open m off false s h]

/-- A register row in a quiet state does just its own operation. -/
theorem row_write_quiet (m off : Nat) (f : State → State) (s : State) (hq : Quiet s) (ho : RegOpen m off true s)
    (e : holds (f s) = holds s) : row (barWrite m off f) s = .next { f s with pending := s.pending } := by
  have e1 := barWrite_open m off f s ho
  rw [row_quiet _ s hq (by rw [e1, e]), e1]

theorem unitRow_write_quiet (m off : Nat) (f : State → State) (s : State) (hq : Quiet s) (ho : RegOpen m off true s)
    (e : holds (f s) = holds s) : unitRow true (barWrite m off f) s = .next { f s with pending := s.pending } := by
  have e1 := barWrite_open m off f s ho
  rw [unitRow_quiet _ s hq (by rw [e1, e]), e1]

/-- A row leaves the queue of waiting commands alone. -/
theorem row_pending (f : State → State) (s t : State) (h : row f s = .next t) : t.pending = s.pending := by
  simp only [row, finish, Host.Outcome.next.injEq] at h
  rw [← h]

theorem unitRow_pending (b : Bool) (f : State → State) (s t : State) (h : unitRow b f s = .next t) :
    t.pending = s.pending := by
  cases b
  · simp [unitRow, unitFault] at h
  · exact row_pending f s t (by simpa [unitRow, unitFault, row] using h)

/-- A row whose operation keeps the memories in canonical form answers such a state. -/
theorem row_memories (f : State → State) (s t : State) (hf : ∀ s, memsOk (mems s) → memsOk (mems (f s)))
    (hs : memsOk (mems s)) (h : row f s = .next t) : memsOk (mems t) := by
  simp only [row, Host.Outcome.next.injEq] at h
  rw [← h]; exact finish_memsOk f s hs hf

theorem unitRow_memories (b : Bool) (f : State → State) (s t : State) (hf : ∀ s, memsOk (mems s) → memsOk (mems (f s)))
    (hs : memsOk (mems s)) (h : unitRow b f s = .next t) : memsOk (mems t) := by
  cases b
  · simp [unitRow, unitFault] at h
  · exact row_memories f s t hf hs (by simpa [unitRow, unitFault, row] using h)

end Sys2Proof.Machine
end

