-- ==== Sys2Proof/Laws/Complete.lean ====
section
/-! SUPPORT. What a completion can change: the completion queues and ports, the interrupt sources, the log, the mesh
ports and the outputs; nothing else. -/

namespace Sys2Proof.Machine

@[simp] theorem apart_mk (rm mram hq scene hom clr crsl scn px pwr jgl spm ctn shw trz clp brk log th trn fw cal units
    genBase unitReqs unitSets out free pending) :
    apart ⟨rm, mram, hq, scene, hom, clr, crsl, scn, px, pwr, jgl, spm, ctn, shw, trz, clp, brk, log, th, trn, fw, cal,
      units, genBase, unitReqs, unitSets, out, free, pending⟩ =
    ⟨rm, mram, { hq with ha := {}, hb := {}, err := 0, cqs := [], mboxResp := [], alert := false }, scene, hom, clr, crsl,
      scn, px, pwr, jgl, spm, ctn, shw, { trz with ports := [] }, clp, {}, {}, th, trn, fw, cal, units, genBase, unitReqs,
      unitSets, [], 0, pending⟩ := rfl

@[simp] theorem emit_apart (o : Out) (s : State) : apart (emit o s) = apart s := rfl
@[simp] theorem modPort_apart (p : Port) (f : HostPort → HostPort) (s : State) : apart (modPort p f s) = apart s := by
  cases p <;> rfl
@[simp] theorem msixSend_apart (p : Port) (v : Nat) (s : State) : apart (msixSend p v s) = apart s := by
  unfold msixSend; split <;> simp
@[simp] theorem pmeOwed_apart (p : Port) (s : State) : apart (pmeOwed p s) = apart s := by
  unfold pmeOwed; dsimp only; split <;> simp
@[simp] theorem modSrc_apart (n : Nat) (f : Source → Source) (s : State) : apart (modSrc n f s) = apart s := rfl
@[simp] theorem brkSend_apart (n : Nat) (s : State) : apart (brkSend n s) = apart s := by
  unfold brkSend; dsimp only
  split
  · rfl
  · split
    · simp
    · simp only [pmeOwed_apart, modSrc_apart]; rfl
@[simp] theorem brkToHost_apart (n : Nat) (s : State) : apart (brkToHost n s) = apart s := by
  unfold brkToHost; dsimp only; split <;> simp
@[simp] theorem brkEvent_apart (n : Nat) (s : State) : apart (brkEvent n s) = apart s := by simp [brkEvent]
@[simp] theorem brkLevel_apart (n : Nat) (v : Bool) (s : State) : apart (brkLevel n v s) = apart s := by
  unfold brkLevel; dsimp only
  split
  · split <;> simp
  · simp
@[simp] theorem logDrop_apart (full : Bool) (s : State) : apart (logDrop full s) = apart s := by
  unfold logDrop; dsimp only
  split
  · simp only [brkEvent_apart]; rfl
  · rfl
@[simp] theorem logFrom_apart (core : Nat) (name : LogName) (args : List Nat) (s : State) :
    apart (logFrom core name args s) = apart s := by
  unfold logFrom; split
  · simp
  · rfl
@[simp] theorem log_apart (name : LogName) (args : List Nat) (s : State) : apart (log name args s) = apart s := by
  simp [log]
@[simp] theorem logLevel_apart (s : State) : apart (logLevel s) = apart s := by simp [logLevel]
@[simp] theorem logDrain1_apart (s : State) : apart (logDrain1 s) = apart s := by
  unfold logDrain1; split
  · rfl
  · dsimp only; split
    · simp only [logDrop_apart]; rfl
    · simp only [logLevel_apart]; rfl
@[simp] theorem logDrainN_apart (n : Nat) (s : State) : apart (logDrainN n s) = apart s := by
  induction n generalizing s with
  | zero => rfl
  | succ n ih => rw [logDrainN, ih, logDrain1_apart]
@[simp] theorem logDrain_apart (s : State) : apart (logDrain s) = apart s := by simp [logDrain]
@[simp] theorem hqErr_apart (i : Nat) (s : State) : apart (hqErr i s) = apart s := rfl
@[simp] theorem modCq_apart (q : Nat) (f : Cq → Cq) (s : State) : apart (modCq q f s) = apart s := rfl
@[simp] theorem clearHint_apart (p : Port) (v : Nat) (s : State) : apart (clearHint p v s) = apart s := by
  simp [clearHint]
@[simp] theorem cqSend_apart (q : Nat) (s : State) : apart (cqSend q s) = apart s := by
  unfold cqSend; dsimp only; split <;> simp
@[simp] theorem cqSignal_apart (q : Nat) (s : State) : apart (cqSignal q s) = apart s := by
  unfold cqSignal; dsimp only; split <;> simp
@[simp] theorem cqDrop_apart (q : Nat) (e : Cpl) (s : State) : apart (cqDrop q e s) = apart s := by simp [cqDrop]
@[simp] theorem cqOverflow_apart (q : Nat) (e : Cpl) (s : State) : apart (cqOverflow q e s) = apart s := by
  simp [cqOverflow]
@[simp] theorem cqWrite_apart (q : Nat) (e : Cpl) (s : State) : apart (cqWrite q e s) = apart s := by
  unfold cqWrite; dsimp only; split <;> simp
@[simp] theorem cqHold_apart (q : Nat) (e : Cpl) (s : State) : apart (cqHold q e s) = apart s := by
  unfold cqHold; dsimp only
  split
  · simp
  · split <;> simp
@[simp] theorem cqDeliver_apart (q : Nat) (e : Cpl) (s : State) : apart (cqDeliver q e s) = apart s := by
  unfold cqDeliver; dsimp only
  split
  · simp
  · simp
  · split <;> simp
@[simp] theorem modMesh_apart (p : Nat) (f : MeshPort → MeshPort) (s : State) : apart (modMesh p f s) = apart s := rfl
@[simp] theorem meshStream_apart (p : Nat) (b : List Byte) (s : State) : apart (meshStream p b s).2 = apart s := rfl
@[simp] theorem meshDepart_apart (p : Nat) (f : MeshFrame) (s : State) : apart (meshDepart p f s) = apart s := by
  have e : ∀ b, apart (meshStream p b { s with free := s.free + 1 }).2 = apart s := fun _ => rfl
  unfold meshDepart; dsimp only
  split <;> simp only [emit_apart, modMesh_apart, e]
@[simp] theorem meshTx_apart (p : Nat) (f : MeshFrame) (s : State) : apart (meshTx p f s) = apart s := by
  simp [meshTx]
@[simp] theorem meshPumpN_apart (p n : Nat) (s : State) : apart (meshPumpN p n s) = apart s := by
  induction n generalizing s with
  | zero => rfl
  | succ n ih =>
    rw [meshPumpN]; split
    · rfl
    · rw [ih]; simp
@[simp] theorem meshPump_apart (p : Nat) (s : State) : apart (meshPump p s) = apart s := by simp [meshPump]
@[simp] theorem meshQueue_apart (p : Nat) (f : MeshFrame) (s : State) : apart (meshQueue p f s) = apart s := by
  simp [meshQueue]
@[simp] theorem meshSendTimed_apart (p cls kind : Nat) (time : MeshTime) (words : List Nat) (bytes : List Byte) (s : State) :
    apart (meshSendTimed p cls kind time words bytes s) = apart s := by simp [meshSendTimed]
@[simp] theorem meshSendFrame_apart (p cls kind : Nat) (words : List Nat) (bytes : List Byte) (s : State) :
    apart (meshSendFrame p cls kind words bytes s) = apart s := by simp [meshSendFrame]
@[simp] theorem meshRoute_apart (dst cls kind : Nat) (words : List Nat) (bytes : List Byte) (s : State) :
    apart (meshRoute dst cls kind words bytes s) = apart s := by
  unfold meshRoute; dsimp only; split <;> simp

/-- The delivery of a completion entry. -/
@[simp] theorem deliver_apart (h : Hdr) (e : Cpl) (records : List Byte) (s : State) :
    apart (deliver h e records s) = apart s := by
  unfold deliver
  split
  · split
    · rfl
    · split <;> simp
  · rfl
  · simp
  · rfl

theorem unflight_apart {s t : State} (h : Hdr) (e : apart s = apart t) : apart (unflight h s) = apart (unflight h t) := by
  have e1 := congrArg (unflight h) e
  exact e1

/-- A completion: what it does apart the delivery is to end the command's flight. -/
theorem completeWith_apart (op : Byte) (h : Hdr) (st : Status) (d : W64) (records : List Byte) (s : State) :
    apart (completeWith op h st d records s) = apart (unflight h s) :=
  unflight_apart h (deliver_apart _ _ _ _)

theorem complete_apart (op : Byte) (h : Hdr) (st : Status) (d : W64) (s : State) :
    apart (complete op h st d s) = apart (unflight h s) := completeWith_apart op h st d [] s

@[simp] theorem accepted_apart (op : Byte) (h : Hdr) (s : State) : apart (accepted op h s) = apart s := by
  unfold accepted; split <;> simp

/-- What `apart` shows of two states that agree in it: every block that it does not blank. -/
theorem apart_blocks {s t : State} (h : apart s = apart t) :
    s.rm = t.rm ∧ s.mram = t.mram ∧ s.scene = t.scene ∧ s.hom = t.hom ∧ s.clr = t.clr ∧ s.crsl = t.crsl ∧ s.scn = t.scn ∧
    s.px = t.px ∧ s.pwr = t.pwr ∧ s.jgl = t.jgl ∧ s.spm = t.spm ∧ s.ctn = t.ctn ∧ s.shw = t.shw ∧ s.clp = t.clp ∧
    s.th = t.th ∧ s.trn = t.trn ∧ s.fw = t.fw ∧ s.cal = t.cal ∧ s.units = t.units ∧ s.genBase = t.genBase ∧
    s.unitReqs = t.unitReqs ∧ s.unitSets = t.unitSets ∧ s.pending = t.pending := by
  simp only [apart, State.mk.injEq] at h
  tauto

/-- What `apart` shows of the host interface. -/
theorem apart_queues {s t : State} (h : apart s = apart t) :
    s.hq.sqs = t.hq.sqs ∧ s.hq.inflight = t.hq.inflight ∧ s.hq.nextId = t.hq.nextId ∧ s.hq.held = t.hq.held ∧
    s.hq.fences = t.hq.fences ∧ s.hq.surfaces = t.hq.surfaces := by
  simp only [apart, State.mk.injEq, Hq.mk.injEq] at h
  tauto

theorem apart_inflight {s t : State} (h : apart s = apart t) : s.hq.inflight = t.hq.inflight := (apart_queues h).2.1

end Sys2Proof.Machine
end

