-- ==== Sys2Proof/Laws/Commands.lean ====
section
/-! SUPPORT. A command that nothing turns away or holds back does what its own operation does. -/

namespace Sys2Proof.Machine

@[simp] theorem dropFirst_append_new {α : Type} (p : α → Bool) (l : List α) (a : α) (hl : l.any p = false)
    (ha : p a = true) : dropFirst p (l ++ [a]) = l := by
  induction l with
  | nil => simp [dropFirst, ha]
  | cons b l ih =>
    simp only [List.any_cons, Bool.or_eq_false_iff] at hl
    simp [dropFirst, hl.1, ih hl.2]

/-- A new command is put at the end of the commands in flight, and its completion takes it out again. -/
theorem unflight_toFlight (op : Byte) (h : Hdr) (s u : State) (hn : isFlight h s = false)
    (hu : u.hq.inflight = (toFlight op h s).hq.inflight) : (unflight h u).hq.inflight = s.hq.inflight := by
  simp only [isFlight] at hn
  simp only [unflight, hu, toFlight, hn]
  split
  · next hf =>
    clear hu
    generalize s.hq.inflight = l at *
    induction l with
    | nil => rfl
    | cons a l ih =>
      simp only [List.any_cons, Bool.or_eq_false_iff] at hn
      simp [dropFirst, hn.1, ih hn.2]
  · exact dropFirst_append_new _ _ _ hn (by simp)

/-- A completed command is no longer in flight. -/
theorem complete_isFlight (op op' : Byte) (h : Hdr) (st : Status) (d : W64) (s u : State) (hn : isFlight h s = false)
    (hu : u.hq.inflight = (toFlight op h s).hq.inflight) : isFlight h (complete op' h st d u) = false := by
  have e := apart_inflight (complete_apart op' h st d u)
  simp only [isFlight, e, unflight_toFlight op h s u hn hu]
  exact hn

/-- The row of a command that starts at once. -/
theorem row_starts (h : Hdr) (c : Cmd) (s : State) (hs : Starts h c s)
    (hh : holds (startCmd h c (toFlight (opcodeOf c) h s)) = holds s) :
    row (submit h c) s = .next { startCmd h c (toFlight (opcodeOf c) h s) with pending := s.pending } := by
  obtain ⟨hq, hr, hg, hp, hf, hl, hb, hn⟩ := hs
  have hst : s.rm.stage = .ready := by simpa [isReady] using hr
  have e : submit h c s = startCmd h c (toFlight (opcodeOf c) h s) := by
    have h1 : served s = true := by simp [served, hr]
    have h2 : (h.gen != 0 && !takesGen (opcodeOf c)) = false := by
      rcases hg with hg | hg <;> simp [hg]
    simp only [submit, h1, takeCmd, h2, hp, hst, hb]
    rcases hl with hl | hl <;> simp [hl]
    split <;> simp
  simp [row, finish, e, settle_quiet hq hh]

/-- A command that completes as it runs. -/
theorem startCmd_complete (h : Hdr) (c : Cmd) (s v u : State) (op : Byte) (st : Status) (d : W64)
    (hw : awaitsData c = true → wantsData h c v = false) (hr : runCmd h c v = complete op h st d u)
    (hn : isFlight h s = false) (hu : u.hq.inflight = (toFlight (opcodeOf c) h s).hq.inflight) :
    startCmd h c v = complete op h st d u := by
  have e := complete_isFlight (opcodeOf c) op h st d s u hn hu
  have h1 : (awaitsData c && wantsData h c v) = false := by
    cases ha : awaitsData c
    · rfl
    · simp [hw ha]
  simp [startCmd, h1, hr, e]

/-- A command that starts and completes at once. -/
theorem starts_ends (h : Hdr) (c : Cmd) (i : Instr) (s u : State) (op : Byte) (st : Status) (d : W64) (P : State → Prop)
    (hi : exec i s = row (submit h c) s) (hs : Starts h c s)
    (hw : awaitsData c = true → wantsData h c (toFlight (opcodeOf c) h s) = false)
    (hr : runCmd h c (toFlight (opcodeOf c) h s) = complete op h st d u)
    (hu : u.hq.inflight = (toFlight (opcodeOf c) h s).hq.inflight) (hh : holds u = holds s) (hP : P u) :
    Ends i op h st d s P := by
  have e := startCmd_complete h c s _ u op st d hw hr hs.2.2.2.2.1 hu
  refine ⟨u, ?_, hP⟩
  rw [hi, row_starts h c s hs (by rw [e]; simp [hh]), e]

/-- Firmware's own commands bring no entry. -/
theorem accepted_fw (op : Byte) (h : Hdr) (s : State) (hf : h.src = .fw) : accepted op h s = s := by
  simp [accepted, deliver, hf]

/-- A command that starts and goes on. -/
theorem starts_goes_on (h : Hdr) (c : Cmd) (i : Instr) (s u : State) (P : State → Prop)
    (hi : exec i s = row (submit h c) s) (hs : Starts h c s) (ha : awaitsData c = false)
    (hc : match c with | .frameSubmit _ => False | .waveformLoad _ => False | _ => True)
    (hr : runCmd h c (toFlight (opcodeOf c) h s) = u) (hf : isFlight h u = true ∨ h.src = .fw)
    (hh : holds u = holds s) (hP : P u) : GoesOn i (opcodeOf c) h s P := by
  have e : startCmd h c (toFlight (opcodeOf c) h s) = accepted (opcodeOf c) h u := by
    simp only [startCmd, ha, hr]
    by_cases hv : isFlight h u = true
    · simp only [Bool.false_and, Bool.false_eq_true, ite_false, hv, ite_true]
      cases c <;> simp_all
    · have hw : h.src = .fw := by rcases hf with hf | hf <;> [exact absurd hf hv; exact hf]
      simp [hv, accepted_fw _ h u hw]
  refine ⟨u, ?_, hP⟩
  rw [hi, row_starts h c s hs (by rw [e]; simp [hh]), e]

end Sys2Proof.Machine
end

