-- ==== Sys2Proof/Laws/State.lean ====
section
/-! SUPPORT. The small lemmas of State: what each named update leaves of every field, and what a collection reads as after
one of its entries is changed. -/

namespace Sys2Proof.Machine

/-! ### Collections -/

/-- An entry changed leaves every other entry. -/
@[simp] theorem spGet_spSet_ne {α : Type} [DecidableEq α] (d : α) (m : Sparse α) (i j : Nat) (v : α) (h : j ≠ i) :
    spGet d (spSet d m i v) j = spGet d m j := by
  induction m with
  | nil => simp only [spSet]; split <;> simp [spGet, h.symm]
  | cons c r ih =>
    obtain ⟨k, w⟩ := c
    simp only [spSet]; split
    · split <;> simp [spGet, h.symm]
    · split
      · next h1 h2 => subst h2; split <;> simp [spGet, h.symm]
      · simp [spGet, ih]

/-- An entry reads as what was put there, unless that is what an unlisted entry reads as. -/
theorem spGet_spSet_eq {α : Type} [DecidableEq α] (d : α) (m : Sparse α) (i : Nat) (v : α) (h : v ≠ d) :
    spGet d (spSet d m i v) i = v := by
  induction m with
  | nil => simp [spSet, h, spGet]
  | cons c r ih =>
    obtain ⟨k, w⟩ := c
    simp only [spSet]; split
    · simp [spGet]
    · split
      · simp [spGet]
      · next h1 h2 => simp [spGet, Ne.symm h2, ih]

@[simp] theorem spGet_spMod_ne {α : Type} [DecidableEq α] (d : α) (m : Sparse α) (i j : Nat) (f : α → α) (h : j ≠ i) :
    spGet d (spMod d m i f) j = spGet d m j := spGet_spSet_ne d m i j _ h

theorem spGet_spMod_eq {α : Type} [DecidableEq α] (d : α) (m : Sparse α) (i : Nat) (f : α → α) (h : f (spGet d m i) ≠ d) :
    spGet d (spMod d m i f) i = f (spGet d m i) := spGet_spSet_eq d m i _ h

/-- In an empty collection the entry changed reads as it was changed to. -/
@[simp] theorem spGet_spMod_nil {α : Type} [DecidableEq α] (d : α) (i : Nat) (f : α → α) :
    spGet d (spMod d [] i f) i = f d := by
  by_cases h : f d = d <;> simp [spMod, spSet, spGet, h]

/-! ### Entries of the blocks -/

@[simp] theorem sqOf_modSq_ne (i j : Nat) (f : Sq → Sq) (s : State) (h : j ≠ i) : sqOf (modSq i f s) j = sqOf s j :=
  spGet_spMod_ne _ _ _ _ _ h
theorem sqOf_modSq (i : Nat) (f : Sq → Sq) (s : State) (h : f (sqOf s i) ≠ {}) : sqOf (modSq i f s) i = f (sqOf s i) :=
  spGet_spMod_eq _ _ _ _ h
@[simp] theorem cqOf_modCq_ne (i j : Nat) (f : Cq → Cq) (s : State) (h : j ≠ i) : cqOf (modCq i f s) j = cqOf s j :=
  spGet_spMod_ne _ _ _ _ _ h
theorem cqOf_modCq (i : Nat) (f : Cq → Cq) (s : State) (h : f (cqOf s i) ≠ {}) : cqOf (modCq i f s) i = f (cqOf s i) :=
  spGet_spMod_eq _ _ _ _ h
@[simp] theorem srcOf_modSrc_ne (i j : Nat) (f : Source → Source) (s : State) (h : j ≠ i) : srcOf (modSrc i f s) j = srcOf s j :=
  spGet_spMod_ne _ _ _ _ _ h
theorem srcOf_modSrc (i : Nat) (f : Source → Source) (s : State) (h : f (srcOf s i) ≠ srcDflt) : srcOf (modSrc i f s) i = f (srcOf s i) :=
  spGet_spMod_eq _ _ _ _ h
@[simp] theorem coreOf_modCore_ne (i j : Nat) (f : Core → Core) (s : State) (h : j ≠ i) : coreOf (modCore i f s) j = coreOf s j :=
  spGet_spMod_ne _ _ _ _ _ h
theorem coreOf_modCore (i : Nat) (f : Core → Core) (s : State) (h : f (coreOf s i) ≠ {}) : coreOf (modCore i f s) i = f (coreOf s i) :=
  spGet_spMod_eq _ _ _ _ h
@[simp] theorem meshPort_modMesh_ne (i j : Nat) (f : MeshPort → MeshPort) (s : State) (h : j ≠ i) : meshPort (modMesh i f s) j = meshPort s j :=
  spGet_spMod_ne _ _ _ _ _ h
theorem meshPort_modMesh (i : Nat) (f : MeshPort → MeshPort) (s : State) (h : f (meshPort s i) ≠ {}) : meshPort (modMesh i f s) i = f (meshPort s i) :=
  spGet_spMod_eq _ _ _ _ h
@[simp] theorem chanOf_modChan_ne (i j : Nat) (f : Chan → Chan) (s : State) (h : j ≠ i) : chanOf (modChan i f s) j = chanOf s j :=
  spGet_spMod_ne _ _ _ _ _ h
theorem chanOf_modChan (i : Nat) (f : Chan → Chan) (s : State) (h : f (chanOf s i) ≠ {}) : chanOf (modChan i f s) i = f (chanOf s i) :=
  spGet_spMod_eq _ _ _ _ h
@[simp] theorem ctxOf_modCtx_ne (i j : Nat) (f : Ctx → Ctx) (s : State) (h : j ≠ i) : ctxOf (modCtx i f s) j = ctxOf s j :=
  spGet_spMod_ne _ _ _ _ _ h
theorem ctxOf_modCtx (i : Nat) (f : Ctx → Ctx) (s : State) (h : f (ctxOf s i) ≠ {}) : ctxOf (modCtx i f s) i = f (ctxOf s i) :=
  spGet_spMod_eq _ _ _ _ h
@[simp] theorem slotOf_modSlot_ne (i j : Nat) (f : SceneSlot → SceneSlot) (s : State) (h : j ≠ i) : slotOf (modSlot i f s) j = slotOf s j :=
  spGet_spMod_ne _ _ _ _ _ h
theorem slotOf_modSlot (i : Nat) (f : SceneSlot → SceneSlot) (s : State) (h : f (slotOf s i) ≠ {}) : slotOf (modSlot i f s) i = f (slotOf s i) :=
  spGet_spMod_eq _ _ _ _ h
@[simp] theorem portOf_modPort (p : Port) (f : HostPort → HostPort) (s : State) : portOf (modPort p f s) p = f (portOf s p) := by
  cases p <;> rfl
@[simp] theorem portOf_modPort_ne (p q : Port) (f : HostPort → HostPort) (s : State) (h : q ≠ p) :
    portOf (modPort p f s) q = portOf s q := by
  cases p <;> cases q <;> first | rfl | exact absurd rfl h

/-! ### emit -/

@[simp] theorem emit_rm (o : Out) (s : State) : (emit o s).rm = s.rm := rfl
@[simp] theorem emit_mram (o : Out) (s : State) : (emit o s).mram = s.mram := rfl
@[simp] theorem emit_hq (o : Out) (s : State) : (emit o s).hq = s.hq := rfl
@[simp] theorem emit_scene (o : Out) (s : State) : (emit o s).scene = s.scene := rfl
@[simp] theorem emit_hom (o : Out) (s : State) : (emit o s).hom = s.hom := rfl
@[simp] theorem emit_clr (o : Out) (s : State) : (emit o s).clr = s.clr := rfl
@[simp] theorem emit_crsl (o : Out) (s : State) : (emit o s).crsl = s.crsl := rfl
@[simp] theorem emit_scn (o : Out) (s : State) : (emit o s).scn = s.scn := rfl
@[simp] theorem emit_px (o : Out) (s : State) : (emit o s).px = s.px := rfl
@[simp] theorem emit_pwr (o : Out) (s : State) : (emit o s).pwr = s.pwr := rfl
@[simp] theorem emit_jgl (o : Out) (s : State) : (emit o s).jgl = s.jgl := rfl
@[simp] theorem emit_spm (o : Out) (s : State) : (emit o s).spm = s.spm := rfl
@[simp] theorem emit_ctn (o : Out) (s : State) : (emit o s).ctn = s.ctn := rfl
@[simp] theorem emit_shw (o : Out) (s : State) : (emit o s).shw = s.shw := rfl
@[simp] theorem emit_trz (o : Out) (s : State) : (emit o s).trz = s.trz := rfl
@[simp] theorem emit_clp (o : Out) (s : State) : (emit o s).clp = s.clp := rfl
@[simp] theorem emit_brk (o : Out) (s : State) : (emit o s).brk = s.brk := rfl
@[simp] theorem emit_log (o : Out) (s : State) : (emit o s).log = s.log := rfl
@[simp] theorem emit_th (o : Out) (s : State) : (emit o s).th = s.th := rfl
@[simp] theorem emit_trn (o : Out) (s : State) : (emit o s).trn = s.trn := rfl
@[simp] theorem emit_fw (o : Out) (s : State) : (emit o s).fw = s.fw := rfl
@[simp] theorem emit_cal (o : Out) (s : State) : (emit o s).cal = s.cal := rfl
@[simp] theorem emit_units (o : Out) (s : State) : (emit o s).units = s.units := rfl
@[simp] theorem emit_genBase (o : Out) (s : State) : (emit o s).genBase = s.genBase := rfl
@[simp] theorem emit_unitReqs (o : Out) (s : State) : (emit o s).unitReqs = s.unitReqs := rfl
@[simp] theorem emit_unitSets (o : Out) (s : State) : (emit o s).unitSets = s.unitSets := rfl
@[simp] theorem emit_free (o : Out) (s : State) : (emit o s).free = s.free := rfl
@[simp] theorem emit_pending (o : Out) (s : State) : (emit o s).pending = s.pending := rfl

/-! ### modPort -/

@[simp] theorem modPort_rm (p : Port) (f : HostPort → HostPort) (s : State) : (modPort p f s).rm = s.rm := by cases p <;> rfl
@[simp] theorem modPort_mram (p : Port) (f : HostPort → HostPort) (s : State) : (modPort p f s).mram = s.mram := by cases p <;> rfl
@[simp] theorem modPort_scene (p : Port) (f : HostPort → HostPort) (s : State) : (modPort p f s).scene = s.scene := by cases p <;> rfl
@[simp] theorem modPort_hom (p : Port) (f : HostPort → HostPort) (s : State) : (modPort p f s).hom = s.hom := by cases p <;> rfl
@[simp] theorem modPort_clr (p : Port) (f : HostPort → HostPort) (s : State) : (modPort p f s).clr = s.clr := by cases p <;> rfl
@[simp] theorem modPort_crsl (p : Port) (f : HostPort → HostPort) (s : State) : (modPort p f s).crsl = s.crsl := by cases p <;> rfl
@[simp] theorem modPort_scn (p : Port) (f : HostPort → HostPort) (s : State) : (modPort p f s).scn = s.scn := by cases p <;> rfl
@[simp] theorem modPort_px (p : Port) (f : HostPort → HostPort) (s : State) : (modPort p f s).px = s.px := by cases p <;> rfl
@[simp] theorem modPort_pwr (p : Port) (f : HostPort → HostPort) (s : State) : (modPort p f s).pwr = s.pwr := by cases p <;> rfl
@[simp] theorem modPort_jgl (p : Port) (f : HostPort → HostPort) (s : State) : (modPort p f s).jgl = s.jgl := by cases p <;> rfl
@[simp] theorem modPort_spm (p : Port) (f : HostPort → HostPort) (s : State) : (modPort p f s).spm = s.spm := by cases p <;> rfl
@[simp] theorem modPort_ctn (p : Port) (f : HostPort → HostPort) (s : State) : (modPort p f s).ctn = s.ctn := by cases p <;> rfl
@[simp] theorem modPort_shw (p : Port) (f : HostPort → HostPort) (s : State) : (modPort p f s).shw = s.shw := by cases p <;> rfl
@[simp] theorem modPort_trz (p : Port) (f : HostPort → HostPort) (s : State) : (modPort p f s).trz = s.trz := by cases p <;> rfl
@[simp] theorem modPort_clp (p : Port) (f : HostPort → HostPort) (s : State) : (modPort p f s).clp = s.clp := by cases p <;> rfl
@[simp] theorem modPort_brk (p : Port) (f : HostPort → HostPort) (s : State) : (modPort p f s).brk = s.brk := by cases p <;> rfl
@[simp] theorem modPort_log (p : Port) (f : HostPort → HostPort) (s : State) : (modPort p f s).log = s.log := by cases p <;> rfl
@[simp] theorem modPort_th (p : Port) (f : HostPort → HostPort) (s : State) : (modPort p f s).th = s.th := by cases p <;> rfl
@[simp] theorem modPort_trn (p : Port) (f : HostPort → HostPort) (s : State) : (modPort p f s).trn = s.trn := by cases p <;> rfl
@[simp] theorem modPort_fw (p : Port) (f : HostPort → HostPort) (s : State) : (modPort p f s).fw = s.fw := by cases p <;> rfl
@[simp] theorem modPort_cal (p : Port) (f : HostPort → HostPort) (s : State) : (modPort p f s).cal = s.cal := by cases p <;> rfl
@[simp] theorem modPort_units (p : Port) (f : HostPort → HostPort) (s : State) : (modPort p f s).units = s.units := by cases p <;> rfl
@[simp] theorem modPort_genBase (p : Port) (f : HostPort → HostPort) (s : State) : (modPort p f s).genBase = s.genBase := by cases p <;> rfl
@[simp] theorem modPort_unitReqs (p : Port) (f : HostPort → HostPort) (s : State) : (modPort p f s).unitReqs = s.unitReqs := by cases p <;> rfl
@[simp] theorem modPort_unitSets (p : Port) (f : HostPort → HostPort) (s : State) : (modPort p f s).unitSets = s.unitSets := by cases p <;> rfl
@[simp] theorem modPort_out (p : Port) (f : HostPort → HostPort) (s : State) : (modPort p f s).out = s.out := by cases p <;> rfl
@[simp] theorem modPort_free (p : Port) (f : HostPort → HostPort) (s : State) : (modPort p f s).free = s.free := by cases p <;> rfl
@[simp] theorem modPort_pending (p : Port) (f : HostPort → HostPort) (s : State) : (modPort p f s).pending = s.pending := by cases p <;> rfl

/-! ### modSq -/

@[simp] theorem modSq_rm (q : Nat) (f : Sq → Sq) (s : State) : (modSq q f s).rm = s.rm := rfl
@[simp] theorem modSq_mram (q : Nat) (f : Sq → Sq) (s : State) : (modSq q f s).mram = s.mram := rfl
@[simp] theorem modSq_scene (q : Nat) (f : Sq → Sq) (s : State) : (modSq q f s).scene = s.scene := rfl
@[simp] theorem modSq_hom (q : Nat) (f : Sq → Sq) (s : State) : (modSq q f s).hom = s.hom := rfl
@[simp] theorem modSq_clr (q : Nat) (f : Sq → Sq) (s : State) : (modSq q f s).clr = s.clr := rfl
@[simp] theorem modSq_crsl (q : Nat) (f : Sq → Sq) (s : State) : (modSq q f s).crsl = s.crsl := rfl
@[simp] theorem modSq_scn (q : Nat) (f : Sq → Sq) (s : State) : (modSq q f s).scn = s.scn := rfl
@[simp] theorem modSq_px (q : Nat) (f : Sq → Sq) (s : State) : (modSq q f s).px = s.px := rfl
@[simp] theorem modSq_pwr (q : Nat) (f : Sq → Sq) (s : State) : (modSq q f s).pwr = s.pwr := rfl
@[simp] theorem modSq_jgl (q : Nat) (f : Sq → Sq) (s : State) : (modSq q f s).jgl = s.jgl := rfl
@[simp] theorem modSq_spm (q : Nat) (f : Sq → Sq) (s : State) : (modSq q f s).spm = s.spm := rfl
@[simp] theorem modSq_ctn (q : Nat) (f : Sq → Sq) (s : State) : (modSq q f s).ctn = s.ctn := rfl
@[simp] theorem modSq_shw (q : Nat) (f : Sq → Sq) (s : State) : (modSq q f s).shw = s.shw := rfl
@[simp] theorem modSq_trz (q : Nat) (f : Sq → Sq) (s : State) : (modSq q f s).trz = s.trz := rfl
@[simp] theorem modSq_clp (q : Nat) (f : Sq → Sq) (s : State) : (modSq q f s).clp = s.clp := rfl
@[simp] theorem modSq_brk (q : Nat) (f : Sq → Sq) (s : State) : (modSq q f s).brk = s.brk := rfl
@[simp] theorem modSq_log (q : Nat) (f : Sq → Sq) (s : State) : (modSq q f s).log = s.log := rfl
@[simp] theorem modSq_th (q : Nat) (f : Sq → Sq) (s : State) : (modSq q f s).th = s.th := rfl
@[simp] theorem modSq_trn (q : Nat) (f : Sq → Sq) (s : State) : (modSq q f s).trn = s.trn := rfl
@[simp] theorem modSq_fw (q : Nat) (f : Sq → Sq) (s : State) : (modSq q f s).fw = s.fw := rfl
@[simp] theorem modSq_cal (q : Nat) (f : Sq → Sq) (s : State) : (modSq q f s).cal = s.cal := rfl
@[simp] theorem modSq_units (q : Nat) (f : Sq → Sq) (s : State) : (modSq q f s).units = s.units := rfl
@[simp] theorem modSq_genBase (q : Nat) (f : Sq → Sq) (s : State) : (modSq q f s).genBase = s.genBase := rfl
@[simp] theorem modSq_unitReqs (q : Nat) (f : Sq → Sq) (s : State) : (modSq q f s).unitReqs = s.unitReqs := rfl
@[simp] theorem modSq_unitSets (q : Nat) (f : Sq → Sq) (s : State) : (modSq q f s).unitSets = s.unitSets := rfl
@[simp] theorem modSq_out (q : Nat) (f : Sq → Sq) (s : State) : (modSq q f s).out = s.out := rfl
@[simp] theorem modSq_free (q : Nat) (f : Sq → Sq) (s : State) : (modSq q f s).free = s.free := rfl
@[simp] theorem modSq_pending (q : Nat) (f : Sq → Sq) (s : State) : (modSq q f s).pending = s.pending := rfl

/-! ### modCq -/

@[simp] theorem modCq_rm (q : Nat) (f : Cq → Cq) (s : State) : (modCq q f s).rm = s.rm := rfl
@[simp] theorem modCq_mram (q : Nat) (f : Cq → Cq) (s : State) : (modCq q f s).mram = s.mram := rfl
@[simp] theorem modCq_scene (q : Nat) (f : Cq → Cq) (s : State) : (modCq q f s).scene = s.scene := rfl
@[simp] theorem modCq_hom (q : Nat) (f : Cq → Cq) (s : State) : (modCq q f s).hom = s.hom := rfl
@[simp] theorem modCq_clr (q : Nat) (f : Cq → Cq) (s : State) : (modCq q f s).clr = s.clr := rfl
@[simp] theorem modCq_crsl (q : Nat) (f : Cq → Cq) (s : State) : (modCq q f s).crsl = s.crsl := rfl
@[simp] theorem modCq_scn (q : Nat) (f : Cq → Cq) (s : State) : (modCq q f s).scn = s.scn := rfl
@[simp] theorem modCq_px (q : Nat) (f : Cq → Cq) (s : State) : (modCq q f s).px = s.px := rfl
@[simp] theorem modCq_pwr (q : Nat) (f : Cq → Cq) (s : State) : (modCq q f s).pwr = s.pwr := rfl
@[simp] theorem modCq_jgl (q : Nat) (f : Cq → Cq) (s : State) : (modCq q f s).jgl = s.jgl := rfl
@[simp] theorem modCq_spm (q : Nat) (f : Cq → Cq) (s : State) : (modCq q f s).spm = s.spm := rfl
@[simp] theorem modCq_ctn (q : Nat) (f : Cq → Cq) (s : State) : (modCq q f s).ctn = s.ctn := rfl
@[simp] theorem modCq_shw (q : Nat) (f : Cq → Cq) (s : State) : (modCq q f s).shw = s.shw := rfl
@[simp] theorem modCq_trz (q : Nat) (f : Cq → Cq) (s : State) : (modCq q f s).trz = s.trz := rfl
@[simp] theorem modCq_clp (q : Nat) (f : Cq → Cq) (s : State) : (modCq q f s).clp = s.clp := rfl
@[simp] theorem modCq_brk (q : Nat) (f : Cq → Cq) (s : State) : (modCq q f s).brk = s.brk := rfl
@[simp] theorem modCq_log (q : Nat) (f : Cq → Cq) (s : State) : (modCq q f s).log = s.log := rfl
@[simp] theorem modCq_th (q : Nat) (f : Cq → Cq) (s : State) : (modCq q f s).th = s.th := rfl
@[simp] theorem modCq_trn (q : Nat) (f : Cq → Cq) (s : State) : (modCq q f s).trn = s.trn := rfl
@[simp] theorem modCq_fw (q : Nat) (f : Cq → Cq) (s : State) : (modCq q f s).fw = s.fw := rfl
@[simp] theorem modCq_cal (q : Nat) (f : Cq → Cq) (s : State) : (modCq q f s).cal = s.cal := rfl
@[simp] theorem modCq_units (q : Nat) (f : Cq → Cq) (s : State) : (modCq q f s).units = s.units := rfl
@[simp] theorem modCq_genBase (q : Nat) (f : Cq → Cq) (s : State) : (modCq q f s).genBase = s.genBase := rfl
@[simp] theorem modCq_unitReqs (q : Nat) (f : Cq → Cq) (s : State) : (modCq q f s).unitReqs = s.unitReqs := rfl
@[simp] theorem modCq_unitSets (q : Nat) (f : Cq → Cq) (s : State) : (modCq q f s).unitSets = s.unitSets := rfl
@[simp] theorem modCq_out (q : Nat) (f : Cq → Cq) (s : State) : (modCq q f s).out = s.out := rfl
@[simp] theorem modCq_free (q : Nat) (f : Cq → Cq) (s : State) : (modCq q f s).free = s.free := rfl
@[simp] theorem modCq_pending (q : Nat) (f : Cq → Cq) (s : State) : (modCq q f s).pending = s.pending := rfl

/-! ### modSrc -/

@[simp] theorem modSrc_rm (n : Nat) (f : Source → Source) (s : State) : (modSrc n f s).rm = s.rm := rfl
@[simp] theorem modSrc_mram (n : Nat) (f : Source → Source) (s : State) : (modSrc n f s).mram = s.mram := rfl
@[simp] theorem modSrc_hq (n : Nat) (f : Source → Source) (s : State) : (modSrc n f s).hq = s.hq := rfl
@[simp] theorem modSrc_scene (n : Nat) (f : Source → Source) (s : State) : (modSrc n f s).scene = s.scene := rfl
@[simp] theorem modSrc_hom (n : Nat) (f : Source → Source) (s : State) : (modSrc n f s).hom = s.hom := rfl
@[simp] theorem modSrc_clr (n : Nat) (f : Source → Source) (s : State) : (modSrc n f s).clr = s.clr := rfl
@[simp] theorem modSrc_crsl (n : Nat) (f : Source → Source) (s : State) : (modSrc n f s).crsl = s.crsl := rfl
@[simp] theorem modSrc_scn (n : Nat) (f : Source → Source) (s : State) : (modSrc n f s).scn = s.scn := rfl
@[simp] theorem modSrc_px (n : Nat) (f : Source → Source) (s : State) : (modSrc n f s).px = s.px := rfl
@[simp] theorem modSrc_pwr (n : Nat) (f : Source → Source) (s : State) : (modSrc n f s).pwr = s.pwr := rfl
@[simp] theorem modSrc_jgl (n : Nat) (f : Source → Source) (s : State) : (modSrc n f s).jgl = s.jgl := rfl
@[simp] theorem modSrc_spm (n : Nat) (f : Source → Source) (s : State) : (modSrc n f s).spm = s.spm := rfl
@[simp] theorem modSrc_ctn (n : Nat) (f : Source → Source) (s : State) : (modSrc n f s).ctn = s.ctn := rfl
@[simp] theorem modSrc_shw (n : Nat) (f : Source → Source) (s : State) : (modSrc n f s).shw = s.shw := rfl
@[simp] theorem modSrc_trz (n : Nat) (f : Source → Source) (s : State) : (modSrc n f s).trz = s.trz := rfl
@[simp] theorem modSrc_clp (n : Nat) (f : Source → Source) (s : State) : (modSrc n f s).clp = s.clp := rfl
@[simp] theorem modSrc_log (n : Nat) (f : Source → Source) (s : State) : (modSrc n f s).log = s.log := rfl
@[simp] theorem modSrc_th (n : Nat) (f : Source → Source) (s : State) : (modSrc n f s).th = s.th := rfl
@[simp] theorem modSrc_trn (n : Nat) (f : Source → Source) (s : State) : (modSrc n f s).trn = s.trn := rfl
@[simp] theorem modSrc_fw (n : Nat) (f : Source → Source) (s : State) : (modSrc n f s).fw = s.fw := rfl
@[simp] theorem modSrc_cal (n : Nat) (f : Source → Source) (s : State) : (modSrc n f s).cal = s.cal := rfl
@[simp] theorem modSrc_units (n : Nat) (f : Source → Source) (s : State) : (modSrc n f s).units = s.units := rfl
@[simp] theorem modSrc_genBase (n : Nat) (f : Source → Source) (s : State) : (modSrc n f s).genBase = s.genBase := rfl
@[simp] theorem modSrc_unitReqs (n : Nat) (f : Source → Source) (s : State) : (modSrc n f s).unitReqs = s.unitReqs := rfl
@[simp] theorem modSrc_unitSets (n : Nat) (f : Source → Source) (s : State) : (modSrc n f s).unitSets = s.unitSets := rfl
@[simp] theorem modSrc_out (n : Nat) (f : Source → Source) (s : State) : (modSrc n f s).out = s.out := rfl
@[simp] theorem modSrc_free (n : Nat) (f : Source → Source) (s : State) : (modSrc n f s).free = s.free := rfl
@[simp] theorem modSrc_pending (n : Nat) (f : Source → Source) (s : State) : (modSrc n f s).pending = s.pending := rfl

/-! ### modCore -/

@[simp] theorem modCore_rm (n : Nat) (f : Core → Core) (s : State) : (modCore n f s).rm = s.rm := rfl
@[simp] theorem modCore_mram (n : Nat) (f : Core → Core) (s : State) : (modCore n f s).mram = s.mram := rfl
@[simp] theorem modCore_hq (n : Nat) (f : Core → Core) (s : State) : (modCore n f s).hq = s.hq := rfl
@[simp] theorem modCore_scene (n : Nat) (f : Core → Core) (s : State) : (modCore n f s).scene = s.scene := rfl
@[simp] theorem modCore_hom (n : Nat) (f : Core → Core) (s : State) : (modCore n f s).hom = s.hom := rfl
@[simp] theorem modCore_clr (n : Nat) (f : Core → Core) (s : State) : (modCore n f s).clr = s.clr := rfl
@[simp] theorem modCore_crsl (n : Nat) (f : Core → Core) (s : State) : (modCore n f s).crsl = s.crsl := rfl
@[simp] theorem modCore_scn (n : Nat) (f : Core → Core) (s : State) : (modCore n f s).scn = s.scn := rfl
@[simp] theorem modCore_px (n : Nat) (f : Core → Core) (s : State) : (modCore n f s).px = s.px := rfl
@[simp] theorem modCore_pwr (n : Nat) (f : Core → Core) (s : State) : (modCore n f s).pwr = s.pwr := rfl
@[simp] theorem modCore_jgl (n : Nat) (f : Core → Core) (s : State) : (modCore n f s).jgl = s.jgl := rfl
@[simp] theorem modCore_spm (n : Nat) (f : Core → Core) (s : State) : (modCore n f s).spm = s.spm := rfl
@[simp] theorem modCore_ctn (n : Nat) (f : Core → Core) (s : State) : (modCore n f s).ctn = s.ctn := rfl
@[simp] theorem modCore_shw (n : Nat) (f : Core → Core) (s : State) : (modCore n f s).shw = s.shw := rfl
@[simp] theorem modCore_trz (n : Nat) (f : Core → Core) (s : State) : (modCore n f s).trz = s.trz := rfl
@[simp] theorem modCore_clp (n : Nat) (f : Core → Core) (s : State) : (modCore n f s).clp = s.clp := rfl
@[simp] theorem modCore_log (n : Nat) (f : Core → Core) (s : State) : (modCore n f s).log = s.log := rfl
@[simp] theorem modCore_th (n : Nat) (f : Core → Core) (s : State) : (modCore n f s).th = s.th := rfl
@[simp] theorem modCore_trn (n : Nat) (f : Core → Core) (s : State) : (modCore n f s).trn = s.trn := rfl
@[simp] theorem modCore_fw (n : Nat) (f : Core → Core) (s : State) : (modCore n f s).fw = s.fw := rfl
@[simp] theorem modCore_cal (n : Nat) (f : Core → Core) (s : State) : (modCore n f s).cal = s.cal := rfl
@[simp] theorem modCore_units (n : Nat) (f : Core → Core) (s : State) : (modCore n f s).units = s.units := rfl
@[simp] theorem modCore_genBase (n : Nat) (f : Core → Core) (s : State) : (modCore n f s).genBase = s.genBase := rfl
@[simp] theorem modCore_unitReqs (n : Nat) (f : Core → Core) (s : State) : (modCore n f s).unitReqs = s.unitReqs := rfl
@[simp] theorem modCore_unitSets (n : Nat) (f : Core → Core) (s : State) : (modCore n f s).unitSets = s.unitSets := rfl
@[simp] theorem modCore_out (n : Nat) (f : Core → Core) (s : State) : (modCore n f s).out = s.out := rfl
@[simp] theorem modCore_free (n : Nat) (f : Core → Core) (s : State) : (modCore n f s).free = s.free := rfl
@[simp] theorem modCore_pending (n : Nat) (f : Core → Core) (s : State) : (modCore n f s).pending = s.pending := rfl

/-! ### modUnit -/

@[simp] theorem modUnit_rm (cls idx : Nat) (f : UnitEntry → UnitEntry) (s : State) : (modUnit cls idx f s).rm = s.rm := rfl
@[simp] theorem modUnit_mram (cls idx : Nat) (f : UnitEntry → UnitEntry) (s : State) : (modUnit cls idx f s).mram = s.mram := rfl
@[simp] theorem modUnit_hq (cls idx : Nat) (f : UnitEntry → UnitEntry) (s : State) : (modUnit cls idx f s).hq = s.hq := rfl
@[simp] theorem modUnit_scene (cls idx : Nat) (f : UnitEntry → UnitEntry) (s : State) : (modUnit cls idx f s).scene = s.scene := rfl
@[simp] theorem modUnit_hom (cls idx : Nat) (f : UnitEntry → UnitEntry) (s : State) : (modUnit cls idx f s).hom = s.hom := rfl
@[simp] theorem modUnit_clr (cls idx : Nat) (f : UnitEntry → UnitEntry) (s : State) : (modUnit cls idx f s).clr = s.clr := rfl
@[simp] theorem modUnit_crsl (cls idx : Nat) (f : UnitEntry → UnitEntry) (s : State) : (modUnit cls idx f s).crsl = s.crsl := rfl
@[simp] theorem modUnit_scn (cls idx : Nat) (f : UnitEntry → UnitEntry) (s : State) : (modUnit cls idx f s).scn = s.scn := rfl
@[simp] theorem modUnit_px (cls idx : Nat) (f : UnitEntry → UnitEntry) (s : State) : (modUnit cls idx f s).px = s.px := rfl
@[simp] theorem modUnit_pwr (cls idx : Nat) (f : UnitEntry → UnitEntry) (s : State) : (modUnit cls idx f s).pwr = s.pwr := rfl
@[simp] theorem modUnit_jgl (cls idx : Nat) (f : UnitEntry → UnitEntry) (s : State) : (modUnit cls idx f s).jgl = s.jgl := rfl
@[simp] theorem modUnit_spm (cls idx : Nat) (f : UnitEntry → UnitEntry) (s : State) : (modUnit cls idx f s).spm = s.spm := rfl
@[simp] theorem modUnit_ctn (cls idx : Nat) (f : UnitEntry → UnitEntry) (s : State) : (modUnit cls idx f s).ctn = s.ctn := rfl
@[simp] theorem modUnit_shw (cls idx : Nat) (f : UnitEntry → UnitEntry) (s : State) : (modUnit cls idx f s).shw = s.shw := rfl
@[simp] theorem modUnit_trz (cls idx : Nat) (f : UnitEntry → UnitEntry) (s : State) : (modUnit cls idx f s).trz = s.trz := rfl
@[simp] theorem modUnit_clp (cls idx : Nat) (f : UnitEntry → UnitEntry) (s : State) : (modUnit cls idx f s).clp = s.clp := rfl
@[simp] theorem modUnit_brk (cls idx : Nat) (f : UnitEntry → UnitEntry) (s : State) : (modUnit cls idx f s).brk = s.brk := rfl
@[simp] theorem modUnit_log (cls idx : Nat) (f : UnitEntry → UnitEntry) (s : State) : (modUnit cls idx f s).log = s.log := rfl
@[simp] theorem modUnit_th (cls idx : Nat) (f : UnitEntry → UnitEntry) (s : State) : (modUnit cls idx f s).th = s.th := rfl
@[simp] theorem modUnit_trn (cls idx : Nat) (f : UnitEntry → UnitEntry) (s : State) : (modUnit cls idx f s).trn = s.trn := rfl
@[simp] theorem modUnit_fw (cls idx : Nat) (f : UnitEntry → UnitEntry) (s : State) : (modUnit cls idx f s).fw = s.fw := rfl
@[simp] theorem modUnit_cal (cls idx : Nat) (f : UnitEntry → UnitEntry) (s : State) : (modUnit cls idx f s).cal = s.cal := rfl
@[simp] theorem modUnit_genBase (cls idx : Nat) (f : UnitEntry → UnitEntry) (s : State) : (modUnit cls idx f s).genBase = s.genBase := rfl
@[simp] theorem modUnit_unitReqs (cls idx : Nat) (f : UnitEntry → UnitEntry) (s : State) : (modUnit cls idx f s).unitReqs = s.unitReqs := rfl
@[simp] theorem modUnit_unitSets (cls idx : Nat) (f : UnitEntry → UnitEntry) (s : State) : (modUnit cls idx f s).unitSets = s.unitSets := rfl
@[simp] theorem modUnit_out (cls idx : Nat) (f : UnitEntry → UnitEntry) (s : State) : (modUnit cls idx f s).out = s.out := rfl
@[simp] theorem modUnit_free (cls idx : Nat) (f : UnitEntry → UnitEntry) (s : State) : (modUnit cls idx f s).free = s.free := rfl
@[simp] theorem modUnit_pending (cls idx : Nat) (f : UnitEntry → UnitEntry) (s : State) : (modUnit cls idx f s).pending = s.pending := rfl

/-! ### modMesh -/

@[simp] theorem modMesh_rm (p : Nat) (f : MeshPort → MeshPort) (s : State) : (modMesh p f s).rm = s.rm := rfl
@[simp] theorem modMesh_mram (p : Nat) (f : MeshPort → MeshPort) (s : State) : (modMesh p f s).mram = s.mram := rfl
@[simp] theorem modMesh_hq (p : Nat) (f : MeshPort → MeshPort) (s : State) : (modMesh p f s).hq = s.hq := rfl
@[simp] theorem modMesh_scene (p : Nat) (f : MeshPort → MeshPort) (s : State) : (modMesh p f s).scene = s.scene := rfl
@[simp] theorem modMesh_hom (p : Nat) (f : MeshPort → MeshPort) (s : State) : (modMesh p f s).hom = s.hom := rfl
@[simp] theorem modMesh_clr (p : Nat) (f : MeshPort → MeshPort) (s : State) : (modMesh p f s).clr = s.clr := rfl
@[simp] theorem modMesh_crsl (p : Nat) (f : MeshPort → MeshPort) (s : State) : (modMesh p f s).crsl = s.crsl := rfl
@[simp] theorem modMesh_scn (p : Nat) (f : MeshPort → MeshPort) (s : State) : (modMesh p f s).scn = s.scn := rfl
@[simp] theorem modMesh_px (p : Nat) (f : MeshPort → MeshPort) (s : State) : (modMesh p f s).px = s.px := rfl
@[simp] theorem modMesh_pwr (p : Nat) (f : MeshPort → MeshPort) (s : State) : (modMesh p f s).pwr = s.pwr := rfl
@[simp] theorem modMesh_jgl (p : Nat) (f : MeshPort → MeshPort) (s : State) : (modMesh p f s).jgl = s.jgl := rfl
@[simp] theorem modMesh_spm (p : Nat) (f : MeshPort → MeshPort) (s : State) : (modMesh p f s).spm = s.spm := rfl
@[simp] theorem modMesh_ctn (p : Nat) (f : MeshPort → MeshPort) (s : State) : (modMesh p f s).ctn = s.ctn := rfl
@[simp] theorem modMesh_shw (p : Nat) (f : MeshPort → MeshPort) (s : State) : (modMesh p f s).shw = s.shw := rfl
@[simp] theorem modMesh_clp (p : Nat) (f : MeshPort → MeshPort) (s : State) : (modMesh p f s).clp = s.clp := rfl
@[simp] theorem modMesh_brk (p : Nat) (f : MeshPort → MeshPort) (s : State) : (modMesh p f s).brk = s.brk := rfl
@[simp] theorem modMesh_log (p : Nat) (f : MeshPort → MeshPort) (s : State) : (modMesh p f s).log = s.log := rfl
@[simp] theorem modMesh_th (p : Nat) (f : MeshPort → MeshPort) (s : State) : (modMesh p f s).th = s.th := rfl
@[simp] theorem modMesh_trn (p : Nat) (f : MeshPort → MeshPort) (s : State) : (modMesh p f s).trn = s.trn := rfl
@[simp] theorem modMesh_fw (p : Nat) (f : MeshPort → MeshPort) (s : State) : (modMesh p f s).fw = s.fw := rfl
@[simp] theorem modMesh_cal (p : Nat) (f : MeshPort → MeshPort) (s : State) : (modMesh p f s).cal = s.cal := rfl
@[simp] theorem modMesh_units (p : Nat) (f : MeshPort → MeshPort) (s : State) : (modMesh p f s).units = s.units := rfl
@[simp] theorem modMesh_genBase (p : Nat) (f : MeshPort → MeshPort) (s : State) : (modMesh p f s).genBase = s.genBase := rfl
@[simp] theorem modMesh_unitReqs (p : Nat) (f : MeshPort → MeshPort) (s : State) : (modMesh p f s).unitReqs = s.unitReqs := rfl
@[simp] theorem modMesh_unitSets (p : Nat) (f : MeshPort → MeshPort) (s : State) : (modMesh p f s).unitSets = s.unitSets := rfl
@[simp] theorem modMesh_out (p : Nat) (f : MeshPort → MeshPort) (s : State) : (modMesh p f s).out = s.out := rfl
@[simp] theorem modMesh_free (p : Nat) (f : MeshPort → MeshPort) (s : State) : (modMesh p f s).free = s.free := rfl
@[simp] theorem modMesh_pending (p : Nat) (f : MeshPort → MeshPort) (s : State) : (modMesh p f s).pending = s.pending := rfl

/-! ### modChan -/

@[simp] theorem modChan_rm (c : Nat) (f : Chan → Chan) (s : State) : (modChan c f s).rm = s.rm := rfl
@[simp] theorem modChan_mram (c : Nat) (f : Chan → Chan) (s : State) : (modChan c f s).mram = s.mram := rfl
@[simp] theorem modChan_hq (c : Nat) (f : Chan → Chan) (s : State) : (modChan c f s).hq = s.hq := rfl
@[simp] theorem modChan_scene (c : Nat) (f : Chan → Chan) (s : State) : (modChan c f s).scene = s.scene := rfl
@[simp] theorem modChan_hom (c : Nat) (f : Chan → Chan) (s : State) : (modChan c f s).hom = s.hom := rfl
@[simp] theorem modChan_clr (c : Nat) (f : Chan → Chan) (s : State) : (modChan c f s).clr = s.clr := rfl
@[simp] theorem modChan_crsl (c : Nat) (f : Chan → Chan) (s : State) : (modChan c f s).crsl = s.crsl := rfl
@[simp] theorem modChan_scn (c : Nat) (f : Chan → Chan) (s : State) : (modChan c f s).scn = s.scn := rfl
@[simp] theorem modChan_px (c : Nat) (f : Chan → Chan) (s : State) : (modChan c f s).px = s.px := rfl
@[simp] theorem modChan_pwr (c : Nat) (f : Chan → Chan) (s : State) : (modChan c f s).pwr = s.pwr := rfl
@[simp] theorem modChan_spm (c : Nat) (f : Chan → Chan) (s : State) : (modChan c f s).spm = s.spm := rfl
@[simp] theorem modChan_ctn (c : Nat) (f : Chan → Chan) (s : State) : (modChan c f s).ctn = s.ctn := rfl
@[simp] theorem modChan_shw (c : Nat) (f : Chan → Chan) (s : State) : (modChan c f s).shw = s.shw := rfl
@[simp] theorem modChan_trz (c : Nat) (f : Chan → Chan) (s : State) : (modChan c f s).trz = s.trz := rfl
@[simp] theorem modChan_clp (c : Nat) (f : Chan → Chan) (s : State) : (modChan c f s).clp = s.clp := rfl
@[simp] theorem modChan_brk (c : Nat) (f : Chan → Chan) (s : State) : (modChan c f s).brk = s.brk := rfl
@[simp] theorem modChan_log (c : Nat) (f : Chan → Chan) (s : State) : (modChan c f s).log = s.log := rfl
@[simp] theorem modChan_th (c : Nat) (f : Chan → Chan) (s : State) : (modChan c f s).th = s.th := rfl
@[simp] theorem modChan_trn (c : Nat) (f : Chan → Chan) (s : State) : (modChan c f s).trn = s.trn := rfl
@[simp] theorem modChan_fw (c : Nat) (f : Chan → Chan) (s : State) : (modChan c f s).fw = s.fw := rfl
@[simp] theorem modChan_cal (c : Nat) (f : Chan → Chan) (s : State) : (modChan c f s).cal = s.cal := rfl
@[simp] theorem modChan_units (c : Nat) (f : Chan → Chan) (s : State) : (modChan c f s).units = s.units := rfl
@[simp] theorem modChan_genBase (c : Nat) (f : Chan → Chan) (s : State) : (modChan c f s).genBase = s.genBase := rfl
@[simp] theorem modChan_unitReqs (c : Nat) (f : Chan → Chan) (s : State) : (modChan c f s).unitReqs = s.unitReqs := rfl
@[simp] theorem modChan_unitSets (c : Nat) (f : Chan → Chan) (s : State) : (modChan c f s).unitSets = s.unitSets := rfl
@[simp] theorem modChan_out (c : Nat) (f : Chan → Chan) (s : State) : (modChan c f s).out = s.out := rfl
@[simp] theorem modChan_free (c : Nat) (f : Chan → Chan) (s : State) : (modChan c f s).free = s.free := rfl
@[simp] theorem modChan_pending (c : Nat) (f : Chan → Chan) (s : State) : (modChan c f s).pending = s.pending := rfl

/-! ### modReg -/

@[simp] theorem modReg_rm (p : Nat) (f : Regulator → Regulator) (s : State) : (modReg p f s).rm = s.rm := rfl
@[simp] theorem modReg_mram (p : Nat) (f : Regulator → Regulator) (s : State) : (modReg p f s).mram = s.mram := rfl
@[simp] theorem modReg_hq (p : Nat) (f : Regulator → Regulator) (s : State) : (modReg p f s).hq = s.hq := rfl
@[simp] theorem modReg_scene (p : Nat) (f : Regulator → Regulator) (s : State) : (modReg p f s).scene = s.scene := rfl
@[simp] theorem modReg_hom (p : Nat) (f : Regulator → Regulator) (s : State) : (modReg p f s).hom = s.hom := rfl
@[simp] theorem modReg_clr (p : Nat) (f : Regulator → Regulator) (s : State) : (modReg p f s).clr = s.clr := rfl
@[simp] theorem modReg_crsl (p : Nat) (f : Regulator → Regulator) (s : State) : (modReg p f s).crsl = s.crsl := rfl
@[simp] theorem modReg_scn (p : Nat) (f : Regulator → Regulator) (s : State) : (modReg p f s).scn = s.scn := rfl
@[simp] theorem modReg_px (p : Nat) (f : Regulator → Regulator) (s : State) : (modReg p f s).px = s.px := rfl
@[simp] theorem modReg_pwr (p : Nat) (f : Regulator → Regulator) (s : State) : (modReg p f s).pwr = s.pwr := rfl
@[simp] theorem modReg_spm (p : Nat) (f : Regulator → Regulator) (s : State) : (modReg p f s).spm = s.spm := rfl
@[simp] theorem modReg_ctn (p : Nat) (f : Regulator → Regulator) (s : State) : (modReg p f s).ctn = s.ctn := rfl
@[simp] theorem modReg_shw (p : Nat) (f : Regulator → Regulator) (s : State) : (modReg p f s).shw = s.shw := rfl
@[simp] theorem modReg_trz (p : Nat) (f : Regulator → Regulator) (s : State) : (modReg p f s).trz = s.trz := rfl
@[simp] theorem modReg_clp (p : Nat) (f : Regulator → Regulator) (s : State) : (modReg p f s).clp = s.clp := rfl
@[simp] theorem modReg_brk (p : Nat) (f : Regulator → Regulator) (s : State) : (modReg p f s).brk = s.brk := rfl
@[simp] theorem modReg_log (p : Nat) (f : Regulator → Regulator) (s : State) : (modReg p f s).log = s.log := rfl
@[simp] theorem modReg_th (p : Nat) (f : Regulator → Regulator) (s : State) : (modReg p f s).th = s.th := rfl
@[simp] theorem modReg_trn (p : Nat) (f : Regulator → Regulator) (s : State) : (modReg p f s).trn = s.trn := rfl
@[simp] theorem modReg_fw (p : Nat) (f : Regulator → Regulator) (s : State) : (modReg p f s).fw = s.fw := rfl
@[simp] theorem modReg_cal (p : Nat) (f : Regulator → Regulator) (s : State) : (modReg p f s).cal = s.cal := rfl
@[simp] theorem modReg_units (p : Nat) (f : Regulator → Regulator) (s : State) : (modReg p f s).units = s.units := rfl
@[simp] theorem modReg_genBase (p : Nat) (f : Regulator → Regulator) (s : State) : (modReg p f s).genBase = s.genBase := rfl
@[simp] theorem modReg_unitReqs (p : Nat) (f : Regulator → Regulator) (s : State) : (modReg p f s).unitReqs = s.unitReqs := rfl
@[simp] theorem modReg_unitSets (p : Nat) (f : Regulator → Regulator) (s : State) : (modReg p f s).unitSets = s.unitSets := rfl
@[simp] theorem modReg_out (p : Nat) (f : Regulator → Regulator) (s : State) : (modReg p f s).out = s.out := rfl
@[simp] theorem modReg_free (p : Nat) (f : Regulator → Regulator) (s : State) : (modReg p f s).free = s.free := rfl
@[simp] theorem modReg_pending (p : Nat) (f : Regulator → Regulator) (s : State) : (modReg p f s).pending = s.pending := rfl

/-! ### modBank -/

@[simp] theorem modBank_rm (b : Nat) (f : Bank → Bank) (s : State) : (modBank b f s).rm = s.rm := rfl
@[simp] theorem modBank_mram (b : Nat) (f : Bank → Bank) (s : State) : (modBank b f s).mram = s.mram := rfl
@[simp] theorem modBank_hq (b : Nat) (f : Bank → Bank) (s : State) : (modBank b f s).hq = s.hq := rfl
@[simp] theorem modBank_scene (b : Nat) (f : Bank → Bank) (s : State) : (modBank b f s).scene = s.scene := rfl
@[simp] theorem modBank_hom (b : Nat) (f : Bank → Bank) (s : State) : (modBank b f s).hom = s.hom := rfl
@[simp] theorem modBank_clr (b : Nat) (f : Bank → Bank) (s : State) : (modBank b f s).clr = s.clr := rfl
@[simp] theorem modBank_crsl (b : Nat) (f : Bank → Bank) (s : State) : (modBank b f s).crsl = s.crsl := rfl
@[simp] theorem modBank_scn (b : Nat) (f : Bank → Bank) (s : State) : (modBank b f s).scn = s.scn := rfl
@[simp] theorem modBank_px (b : Nat) (f : Bank → Bank) (s : State) : (modBank b f s).px = s.px := rfl
@[simp] theorem modBank_pwr (b : Nat) (f : Bank → Bank) (s : State) : (modBank b f s).pwr = s.pwr := rfl
@[simp] theorem modBank_jgl (b : Nat) (f : Bank → Bank) (s : State) : (modBank b f s).jgl = s.jgl := rfl
@[simp] theorem modBank_ctn (b : Nat) (f : Bank → Bank) (s : State) : (modBank b f s).ctn = s.ctn := rfl
@[simp] theorem modBank_shw (b : Nat) (f : Bank → Bank) (s : State) : (modBank b f s).shw = s.shw := rfl
@[simp] theorem modBank_trz (b : Nat) (f : Bank → Bank) (s : State) : (modBank b f s).trz = s.trz := rfl
@[simp] theorem modBank_clp (b : Nat) (f : Bank → Bank) (s : State) : (modBank b f s).clp = s.clp := rfl
@[simp] theorem modBank_brk (b : Nat) (f : Bank → Bank) (s : State) : (modBank b f s).brk = s.brk := rfl
@[simp] theorem modBank_log (b : Nat) (f : Bank → Bank) (s : State) : (modBank b f s).log = s.log := rfl
@[simp] theorem modBank_th (b : Nat) (f : Bank → Bank) (s : State) : (modBank b f s).th = s.th := rfl
@[simp] theorem modBank_trn (b : Nat) (f : Bank → Bank) (s : State) : (modBank b f s).trn = s.trn := rfl
@[simp] theorem modBank_fw (b : Nat) (f : Bank → Bank) (s : State) : (modBank b f s).fw = s.fw := rfl
@[simp] theorem modBank_cal (b : Nat) (f : Bank → Bank) (s : State) : (modBank b f s).cal = s.cal := rfl
@[simp] theorem modBank_units (b : Nat) (f : Bank → Bank) (s : State) : (modBank b f s).units = s.units := rfl
@[simp] theorem modBank_genBase (b : Nat) (f : Bank → Bank) (s : State) : (modBank b f s).genBase = s.genBase := rfl
@[simp] theorem modBank_unitReqs (b : Nat) (f : Bank → Bank) (s : State) : (modBank b f s).unitReqs = s.unitReqs := rfl
@[simp] theorem modBank_unitSets (b : Nat) (f : Bank → Bank) (s : State) : (modBank b f s).unitSets = s.unitSets := rfl
@[simp] theorem modBank_out (b : Nat) (f : Bank → Bank) (s : State) : (modBank b f s).out = s.out := rfl
@[simp] theorem modBank_free (b : Nat) (f : Bank → Bank) (s : State) : (modBank b f s).free = s.free := rfl
@[simp] theorem modBank_pending (b : Nat) (f : Bank → Bank) (s : State) : (modBank b f s).pending = s.pending := rfl

/-! ### modCtx -/

@[simp] theorem modCtx_rm (c : Nat) (f : Ctx → Ctx) (s : State) : (modCtx c f s).rm = s.rm := rfl
@[simp] theorem modCtx_mram (c : Nat) (f : Ctx → Ctx) (s : State) : (modCtx c f s).mram = s.mram := rfl
@[simp] theorem modCtx_hq (c : Nat) (f : Ctx → Ctx) (s : State) : (modCtx c f s).hq = s.hq := rfl
@[simp] theorem modCtx_scene (c : Nat) (f : Ctx → Ctx) (s : State) : (modCtx c f s).scene = s.scene := rfl
@[simp] theorem modCtx_hom (c : Nat) (f : Ctx → Ctx) (s : State) : (modCtx c f s).hom = s.hom := rfl
@[simp] theorem modCtx_clr (c : Nat) (f : Ctx → Ctx) (s : State) : (modCtx c f s).clr = s.clr := rfl
@[simp] theorem modCtx_crsl (c : Nat) (f : Ctx → Ctx) (s : State) : (modCtx c f s).crsl = s.crsl := rfl
@[simp] theorem modCtx_scn (c : Nat) (f : Ctx → Ctx) (s : State) : (modCtx c f s).scn = s.scn := rfl
@[simp] theorem modCtx_px (c : Nat) (f : Ctx → Ctx) (s : State) : (modCtx c f s).px = s.px := rfl
@[simp] theorem modCtx_pwr (c : Nat) (f : Ctx → Ctx) (s : State) : (modCtx c f s).pwr = s.pwr := rfl
@[simp] theorem modCtx_jgl (c : Nat) (f : Ctx → Ctx) (s : State) : (modCtx c f s).jgl = s.jgl := rfl
@[simp] theorem modCtx_spm (c : Nat) (f : Ctx → Ctx) (s : State) : (modCtx c f s).spm = s.spm := rfl
@[simp] theorem modCtx_shw (c : Nat) (f : Ctx → Ctx) (s : State) : (modCtx c f s).shw = s.shw := rfl
@[simp] theorem modCtx_trz (c : Nat) (f : Ctx → Ctx) (s : State) : (modCtx c f s).trz = s.trz := rfl
@[simp] theorem modCtx_clp (c : Nat) (f : Ctx → Ctx) (s : State) : (modCtx c f s).clp = s.clp := rfl
@[simp] theorem modCtx_brk (c : Nat) (f : Ctx → Ctx) (s : State) : (modCtx c f s).brk = s.brk := rfl
@[simp] theorem modCtx_log (c : Nat) (f : Ctx → Ctx) (s : State) : (modCtx c f s).log = s.log := rfl
@[simp] theorem modCtx_th (c : Nat) (f : Ctx → Ctx) (s : State) : (modCtx c f s).th = s.th := rfl
@[simp] theorem modCtx_trn (c : Nat) (f : Ctx → Ctx) (s : State) : (modCtx c f s).trn = s.trn := rfl
@[simp] theorem modCtx_fw (c : Nat) (f : Ctx → Ctx) (s : State) : (modCtx c f s).fw = s.fw := rfl
@[simp] theorem modCtx_cal (c : Nat) (f : Ctx → Ctx) (s : State) : (modCtx c f s).cal = s.cal := rfl
@[simp] theorem modCtx_units (c : Nat) (f : Ctx → Ctx) (s : State) : (modCtx c f s).units = s.units := rfl
@[simp] theorem modCtx_genBase (c : Nat) (f : Ctx → Ctx) (s : State) : (modCtx c f s).genBase = s.genBase := rfl
@[simp] theorem modCtx_unitReqs (c : Nat) (f : Ctx → Ctx) (s : State) : (modCtx c f s).unitReqs = s.unitReqs := rfl
@[simp] theorem modCtx_unitSets (c : Nat) (f : Ctx → Ctx) (s : State) : (modCtx c f s).unitSets = s.unitSets := rfl
@[simp] theorem modCtx_out (c : Nat) (f : Ctx → Ctx) (s : State) : (modCtx c f s).out = s.out := rfl
@[simp] theorem modCtx_free (c : Nat) (f : Ctx → Ctx) (s : State) : (modCtx c f s).free = s.free := rfl
@[simp] theorem modCtx_pending (c : Nat) (f : Ctx → Ctx) (s : State) : (modCtx c f s).pending = s.pending := rfl

/-! ### modCh -/

@[simp] theorem modCh_rm (c : Nat) (f : Channel → Channel) (s : State) : (modCh c f s).rm = s.rm := rfl
@[simp] theorem modCh_mram (c : Nat) (f : Channel → Channel) (s : State) : (modCh c f s).mram = s.mram := rfl
@[simp] theorem modCh_hq (c : Nat) (f : Channel → Channel) (s : State) : (modCh c f s).hq = s.hq := rfl
@[simp] theorem modCh_scene (c : Nat) (f : Channel → Channel) (s : State) : (modCh c f s).scene = s.scene := rfl
@[simp] theorem modCh_hom (c : Nat) (f : Channel → Channel) (s : State) : (modCh c f s).hom = s.hom := rfl
@[simp] theorem modCh_clr (c : Nat) (f : Channel → Channel) (s : State) : (modCh c f s).clr = s.clr := rfl
@[simp] theorem modCh_crsl (c : Nat) (f : Channel → Channel) (s : State) : (modCh c f s).crsl = s.crsl := rfl
@[simp] theorem modCh_scn (c : Nat) (f : Channel → Channel) (s : State) : (modCh c f s).scn = s.scn := rfl
@[simp] theorem modCh_px (c : Nat) (f : Channel → Channel) (s : State) : (modCh c f s).px = s.px := rfl
@[simp] theorem modCh_pwr (c : Nat) (f : Channel → Channel) (s : State) : (modCh c f s).pwr = s.pwr := rfl
@[simp] theorem modCh_jgl (c : Nat) (f : Channel → Channel) (s : State) : (modCh c f s).jgl = s.jgl := rfl
@[simp] theorem modCh_spm (c : Nat) (f : Channel → Channel) (s : State) : (modCh c f s).spm = s.spm := rfl
@[simp] theorem modCh_ctn (c : Nat) (f : Channel → Channel) (s : State) : (modCh c f s).ctn = s.ctn := rfl
@[simp] theorem modCh_trz (c : Nat) (f : Channel → Channel) (s : State) : (modCh c f s).trz = s.trz := rfl
@[simp] theorem modCh_clp (c : Nat) (f : Channel → Channel) (s : State) : (modCh c f s).clp = s.clp := rfl
@[simp] theorem modCh_brk (c : Nat) (f : Channel → Channel) (s : State) : (modCh c f s).brk = s.brk := rfl
@[simp] theorem modCh_log (c : Nat) (f : Channel → Channel) (s : State) : (modCh c f s).log = s.log := rfl
@[simp] theorem modCh_th (c : Nat) (f : Channel → Channel) (s : State) : (modCh c f s).th = s.th := rfl
@[simp] theorem modCh_trn (c : Nat) (f : Channel → Channel) (s : State) : (modCh c f s).trn = s.trn := rfl
@[simp] theorem modCh_fw (c : Nat) (f : Channel → Channel) (s : State) : (modCh c f s).fw = s.fw := rfl
@[simp] theorem modCh_cal (c : Nat) (f : Channel → Channel) (s : State) : (modCh c f s).cal = s.cal := rfl
@[simp] theorem modCh_units (c : Nat) (f : Channel → Channel) (s : State) : (modCh c f s).units = s.units := rfl
@[simp] theorem modCh_genBase (c : Nat) (f : Channel → Channel) (s : State) : (modCh c f s).genBase = s.genBase := rfl
@[simp] theorem modCh_unitReqs (c : Nat) (f : Channel → Channel) (s : State) : (modCh c f s).unitReqs = s.unitReqs := rfl
@[simp] theorem modCh_unitSets (c : Nat) (f : Channel → Channel) (s : State) : (modCh c f s).unitSets = s.unitSets := rfl
@[simp] theorem modCh_out (c : Nat) (f : Channel → Channel) (s : State) : (modCh c f s).out = s.out := rfl
@[simp] theorem modCh_free (c : Nat) (f : Channel → Channel) (s : State) : (modCh c f s).free = s.free := rfl
@[simp] theorem modCh_pending (c : Nat) (f : Channel → Channel) (s : State) : (modCh c f s).pending = s.pending := rfl

/-! ### modSlot -/

@[simp] theorem modSlot_rm (n : Nat) (f : SceneSlot → SceneSlot) (s : State) : (modSlot n f s).rm = s.rm := rfl
@[simp] theorem modSlot_mram (n : Nat) (f : SceneSlot → SceneSlot) (s : State) : (modSlot n f s).mram = s.mram := rfl
@[simp] theorem modSlot_hq (n : Nat) (f : SceneSlot → SceneSlot) (s : State) : (modSlot n f s).hq = s.hq := rfl
@[simp] theorem modSlot_hom (n : Nat) (f : SceneSlot → SceneSlot) (s : State) : (modSlot n f s).hom = s.hom := rfl
@[simp] theorem modSlot_clr (n : Nat) (f : SceneSlot → SceneSlot) (s : State) : (modSlot n f s).clr = s.clr := rfl
@[simp] theorem modSlot_crsl (n : Nat) (f : SceneSlot → SceneSlot) (s : State) : (modSlot n f s).crsl = s.crsl := rfl
@[simp] theorem modSlot_scn (n : Nat) (f : SceneSlot → SceneSlot) (s : State) : (modSlot n f s).scn = s.scn := rfl
@[simp] theorem modSlot_px (n : Nat) (f : SceneSlot → SceneSlot) (s : State) : (modSlot n f s).px = s.px := rfl
@[simp] theorem modSlot_pwr (n : Nat) (f : SceneSlot → SceneSlot) (s : State) : (modSlot n f s).pwr = s.pwr := rfl
@[simp] theorem modSlot_jgl (n : Nat) (f : SceneSlot → SceneSlot) (s : State) : (modSlot n f s).jgl = s.jgl := rfl
@[simp] theorem modSlot_spm (n : Nat) (f : SceneSlot → SceneSlot) (s : State) : (modSlot n f s).spm = s.spm := rfl
@[simp] theorem modSlot_ctn (n : Nat) (f : SceneSlot → SceneSlot) (s : State) : (modSlot n f s).ctn = s.ctn := rfl
@[simp] theorem modSlot_shw (n : Nat) (f : SceneSlot → SceneSlot) (s : State) : (modSlot n f s).shw = s.shw := rfl
@[simp] theorem modSlot_trz (n : Nat) (f : SceneSlot → SceneSlot) (s : State) : (modSlot n f s).trz = s.trz := rfl
@[simp] theorem modSlot_clp (n : Nat) (f : SceneSlot → SceneSlot) (s : State) : (modSlot n f s).clp = s.clp := rfl
@[simp] theorem modSlot_brk (n : Nat) (f : SceneSlot → SceneSlot) (s : State) : (modSlot n f s).brk = s.brk := rfl
@[simp] theorem modSlot_log (n : Nat) (f : SceneSlot → SceneSlot) (s : State) : (modSlot n f s).log = s.log := rfl
@[simp] theorem modSlot_th (n : Nat) (f : SceneSlot → SceneSlot) (s : State) : (modSlot n f s).th = s.th := rfl
@[simp] theorem modSlot_trn (n : Nat) (f : SceneSlot → SceneSlot) (s : State) : (modSlot n f s).trn = s.trn := rfl
@[simp] theorem modSlot_fw (n : Nat) (f : SceneSlot → SceneSlot) (s : State) : (modSlot n f s).fw = s.fw := rfl
@[simp] theorem modSlot_cal (n : Nat) (f : SceneSlot → SceneSlot) (s : State) : (modSlot n f s).cal = s.cal := rfl
@[simp] theorem modSlot_units (n : Nat) (f : SceneSlot → SceneSlot) (s : State) : (modSlot n f s).units = s.units := rfl
@[simp] theorem modSlot_genBase (n : Nat) (f : SceneSlot → SceneSlot) (s : State) : (modSlot n f s).genBase = s.genBase := rfl
@[simp] theorem modSlot_unitReqs (n : Nat) (f : SceneSlot → SceneSlot) (s : State) : (modSlot n f s).unitReqs = s.unitReqs := rfl
@[simp] theorem modSlot_unitSets (n : Nat) (f : SceneSlot → SceneSlot) (s : State) : (modSlot n f s).unitSets = s.unitSets := rfl
@[simp] theorem modSlot_out (n : Nat) (f : SceneSlot → SceneSlot) (s : State) : (modSlot n f s).out = s.out := rfl
@[simp] theorem modSlot_free (n : Nat) (f : SceneSlot → SceneSlot) (s : State) : (modSlot n f s).free = s.free := rfl
@[simp] theorem modSlot_pending (n : Nat) (f : SceneSlot → SceneSlot) (s : State) : (modSlot n f s).pending = s.pending := rfl

/-! ### modPlayer -/

@[simp] theorem modPlayer_rm (f : Player → Player) (s : State) : (modPlayer f s).rm = s.rm := rfl
@[simp] theorem modPlayer_mram (f : Player → Player) (s : State) : (modPlayer f s).mram = s.mram := rfl
@[simp] theorem modPlayer_hq (f : Player → Player) (s : State) : (modPlayer f s).hq = s.hq := rfl
@[simp] theorem modPlayer_hom (f : Player → Player) (s : State) : (modPlayer f s).hom = s.hom := rfl
@[simp] theorem modPlayer_clr (f : Player → Player) (s : State) : (modPlayer f s).clr = s.clr := rfl
@[simp] theorem modPlayer_crsl (f : Player → Player) (s : State) : (modPlayer f s).crsl = s.crsl := rfl
@[simp] theorem modPlayer_scn (f : Player → Player) (s : State) : (modPlayer f s).scn = s.scn := rfl
@[simp] theorem modPlayer_px (f : Player → Player) (s : State) : (modPlayer f s).px = s.px := rfl
@[simp] theorem modPlayer_pwr (f : Player → Player) (s : State) : (modPlayer f s).pwr = s.pwr := rfl
@[simp] theorem modPlayer_jgl (f : Player → Player) (s : State) : (modPlayer f s).jgl = s.jgl := rfl
@[simp] theorem modPlayer_spm (f : Player → Player) (s : State) : (modPlayer f s).spm = s.spm := rfl
@[simp] theorem modPlayer_ctn (f : Player → Player) (s : State) : (modPlayer f s).ctn = s.ctn := rfl
@[simp] theorem modPlayer_shw (f : Player → Player) (s : State) : (modPlayer f s).shw = s.shw := rfl
@[simp] theorem modPlayer_trz (f : Player → Player) (s : State) : (modPlayer f s).trz = s.trz := rfl
@[simp] theorem modPlayer_clp (f : Player → Player) (s : State) : (modPlayer f s).clp = s.clp := rfl
@[simp] theorem modPlayer_brk (f : Player → Player) (s : State) : (modPlayer f s).brk = s.brk := rfl
@[simp] theorem modPlayer_log (f : Player → Player) (s : State) : (modPlayer f s).log = s.log := rfl
@[simp] theorem modPlayer_th (f : Player → Player) (s : State) : (modPlayer f s).th = s.th := rfl
@[simp] theorem modPlayer_trn (f : Player → Player) (s : State) : (modPlayer f s).trn = s.trn := rfl
@[simp] theorem modPlayer_fw (f : Player → Player) (s : State) : (modPlayer f s).fw = s.fw := rfl
@[simp] theorem modPlayer_cal (f : Player → Player) (s : State) : (modPlayer f s).cal = s.cal := rfl
@[simp] theorem modPlayer_units (f : Player → Player) (s : State) : (modPlayer f s).units = s.units := rfl
@[simp] theorem modPlayer_genBase (f : Player → Player) (s : State) : (modPlayer f s).genBase = s.genBase := rfl
@[simp] theorem modPlayer_unitReqs (f : Player → Player) (s : State) : (modPlayer f s).unitReqs = s.unitReqs := rfl
@[simp] theorem modPlayer_unitSets (f : Player → Player) (s : State) : (modPlayer f s).unitSets = s.unitSets := rfl
@[simp] theorem modPlayer_out (f : Player → Player) (s : State) : (modPlayer f s).out = s.out := rfl
@[simp] theorem modPlayer_free (f : Player → Player) (s : State) : (modPlayer f s).free = s.free := rfl
@[simp] theorem modPlayer_pending (f : Player → Player) (s : State) : (modPlayer f s).pending = s.pending := rfl

/-! ### modFrame -/

@[simp] theorem modFrame_rm (id : Nat) (f : Frame → Frame) (s : State) : (modFrame id f s).rm = s.rm := rfl
@[simp] theorem modFrame_mram (id : Nat) (f : Frame → Frame) (s : State) : (modFrame id f s).mram = s.mram := rfl
@[simp] theorem modFrame_hq (id : Nat) (f : Frame → Frame) (s : State) : (modFrame id f s).hq = s.hq := rfl
@[simp] theorem modFrame_hom (id : Nat) (f : Frame → Frame) (s : State) : (modFrame id f s).hom = s.hom := rfl
@[simp] theorem modFrame_clr (id : Nat) (f : Frame → Frame) (s : State) : (modFrame id f s).clr = s.clr := rfl
@[simp] theorem modFrame_crsl (id : Nat) (f : Frame → Frame) (s : State) : (modFrame id f s).crsl = s.crsl := rfl
@[simp] theorem modFrame_scn (id : Nat) (f : Frame → Frame) (s : State) : (modFrame id f s).scn = s.scn := rfl
@[simp] theorem modFrame_px (id : Nat) (f : Frame → Frame) (s : State) : (modFrame id f s).px = s.px := rfl
@[simp] theorem modFrame_pwr (id : Nat) (f : Frame → Frame) (s : State) : (modFrame id f s).pwr = s.pwr := rfl
@[simp] theorem modFrame_jgl (id : Nat) (f : Frame → Frame) (s : State) : (modFrame id f s).jgl = s.jgl := rfl
@[simp] theorem modFrame_spm (id : Nat) (f : Frame → Frame) (s : State) : (modFrame id f s).spm = s.spm := rfl
@[simp] theorem modFrame_ctn (id : Nat) (f : Frame → Frame) (s : State) : (modFrame id f s).ctn = s.ctn := rfl
@[simp] theorem modFrame_shw (id : Nat) (f : Frame → Frame) (s : State) : (modFrame id f s).shw = s.shw := rfl
@[simp] theorem modFrame_trz (id : Nat) (f : Frame → Frame) (s : State) : (modFrame id f s).trz = s.trz := rfl
@[simp] theorem modFrame_clp (id : Nat) (f : Frame → Frame) (s : State) : (modFrame id f s).clp = s.clp := rfl
@[simp] theorem modFrame_brk (id : Nat) (f : Frame → Frame) (s : State) : (modFrame id f s).brk = s.brk := rfl
@[simp] theorem modFrame_log (id : Nat) (f : Frame → Frame) (s : State) : (modFrame id f s).log = s.log := rfl
@[simp] theorem modFrame_th (id : Nat) (f : Frame → Frame) (s : State) : (modFrame id f s).th = s.th := rfl
@[simp] theorem modFrame_trn (id : Nat) (f : Frame → Frame) (s : State) : (modFrame id f s).trn = s.trn := rfl
@[simp] theorem modFrame_fw (id : Nat) (f : Frame → Frame) (s : State) : (modFrame id f s).fw = s.fw := rfl
@[simp] theorem modFrame_cal (id : Nat) (f : Frame → Frame) (s : State) : (modFrame id f s).cal = s.cal := rfl
@[simp] theorem modFrame_units (id : Nat) (f : Frame → Frame) (s : State) : (modFrame id f s).units = s.units := rfl
@[simp] theorem modFrame_genBase (id : Nat) (f : Frame → Frame) (s : State) : (modFrame id f s).genBase = s.genBase := rfl
@[simp] theorem modFrame_unitReqs (id : Nat) (f : Frame → Frame) (s : State) : (modFrame id f s).unitReqs = s.unitReqs := rfl
@[simp] theorem modFrame_unitSets (id : Nat) (f : Frame → Frame) (s : State) : (modFrame id f s).unitSets = s.unitSets := rfl
@[simp] theorem modFrame_out (id : Nat) (f : Frame → Frame) (s : State) : (modFrame id f s).out = s.out := rfl
@[simp] theorem modFrame_free (id : Nat) (f : Frame → Frame) (s : State) : (modFrame id f s).free = s.free := rfl
@[simp] theorem modFrame_pending (id : Nat) (f : Frame → Frame) (s : State) : (modFrame id f s).pending = s.pending := rfl

/-! ### modScan -/

@[simp] theorem modScan_rm (f : Scan → Scan) (s : State) : (modScan f s).rm = s.rm := rfl
@[simp] theorem modScan_mram (f : Scan → Scan) (s : State) : (modScan f s).mram = s.mram := rfl
@[simp] theorem modScan_hq (f : Scan → Scan) (s : State) : (modScan f s).hq = s.hq := rfl
@[simp] theorem modScan_scene (f : Scan → Scan) (s : State) : (modScan f s).scene = s.scene := rfl
@[simp] theorem modScan_hom (f : Scan → Scan) (s : State) : (modScan f s).hom = s.hom := rfl
@[simp] theorem modScan_clr (f : Scan → Scan) (s : State) : (modScan f s).clr = s.clr := rfl
@[simp] theorem modScan_crsl (f : Scan → Scan) (s : State) : (modScan f s).crsl = s.crsl := rfl
@[simp] theorem modScan_px (f : Scan → Scan) (s : State) : (modScan f s).px = s.px := rfl
@[simp] theorem modScan_pwr (f : Scan → Scan) (s : State) : (modScan f s).pwr = s.pwr := rfl
@[simp] theorem modScan_jgl (f : Scan → Scan) (s : State) : (modScan f s).jgl = s.jgl := rfl
@[simp] theorem modScan_spm (f : Scan → Scan) (s : State) : (modScan f s).spm = s.spm := rfl
@[simp] theorem modScan_ctn (f : Scan → Scan) (s : State) : (modScan f s).ctn = s.ctn := rfl
@[simp] theorem modScan_shw (f : Scan → Scan) (s : State) : (modScan f s).shw = s.shw := rfl
@[simp] theorem modScan_trz (f : Scan → Scan) (s : State) : (modScan f s).trz = s.trz := rfl
@[simp] theorem modScan_clp (f : Scan → Scan) (s : State) : (modScan f s).clp = s.clp := rfl
@[simp] theorem modScan_brk (f : Scan → Scan) (s : State) : (modScan f s).brk = s.brk := rfl
@[simp] theorem modScan_log (f : Scan → Scan) (s : State) : (modScan f s).log = s.log := rfl
@[simp] theorem modScan_th (f : Scan → Scan) (s : State) : (modScan f s).th = s.th := rfl
@[simp] theorem modScan_trn (f : Scan → Scan) (s : State) : (modScan f s).trn = s.trn := rfl
@[simp] theorem modScan_fw (f : Scan → Scan) (s : State) : (modScan f s).fw = s.fw := rfl
@[simp] theorem modScan_cal (f : Scan → Scan) (s : State) : (modScan f s).cal = s.cal := rfl
@[simp] theorem modScan_units (f : Scan → Scan) (s : State) : (modScan f s).units = s.units := rfl
@[simp] theorem modScan_genBase (f : Scan → Scan) (s : State) : (modScan f s).genBase = s.genBase := rfl
@[simp] theorem modScan_unitReqs (f : Scan → Scan) (s : State) : (modScan f s).unitReqs = s.unitReqs := rfl
@[simp] theorem modScan_unitSets (f : Scan → Scan) (s : State) : (modScan f s).unitSets = s.unitSets := rfl
@[simp] theorem modScan_out (f : Scan → Scan) (s : State) : (modScan f s).out = s.out := rfl
@[simp] theorem modScan_free (f : Scan → Scan) (s : State) : (modScan f s).free = s.free := rfl
@[simp] theorem modScan_pending (f : Scan → Scan) (s : State) : (modScan f s).pending = s.pending := rfl

/-! ### modGrp -/

@[simp] theorem modGrp_rm (g : Nat) (f : Group → Group) (s : State) : (modGrp g f s).rm = s.rm := rfl
@[simp] theorem modGrp_mram (g : Nat) (f : Group → Group) (s : State) : (modGrp g f s).mram = s.mram := rfl
@[simp] theorem modGrp_hq (g : Nat) (f : Group → Group) (s : State) : (modGrp g f s).hq = s.hq := rfl
@[simp] theorem modGrp_scene (g : Nat) (f : Group → Group) (s : State) : (modGrp g f s).scene = s.scene := rfl
@[simp] theorem modGrp_hom (g : Nat) (f : Group → Group) (s : State) : (modGrp g f s).hom = s.hom := rfl
@[simp] theorem modGrp_clr (g : Nat) (f : Group → Group) (s : State) : (modGrp g f s).clr = s.clr := rfl
@[simp] theorem modGrp_crsl (g : Nat) (f : Group → Group) (s : State) : (modGrp g f s).crsl = s.crsl := rfl
@[simp] theorem modGrp_scn (g : Nat) (f : Group → Group) (s : State) : (modGrp g f s).scn = s.scn := rfl
@[simp] theorem modGrp_pwr (g : Nat) (f : Group → Group) (s : State) : (modGrp g f s).pwr = s.pwr := rfl
@[simp] theorem modGrp_jgl (g : Nat) (f : Group → Group) (s : State) : (modGrp g f s).jgl = s.jgl := rfl
@[simp] theorem modGrp_spm (g : Nat) (f : Group → Group) (s : State) : (modGrp g f s).spm = s.spm := rfl
@[simp] theorem modGrp_ctn (g : Nat) (f : Group → Group) (s : State) : (modGrp g f s).ctn = s.ctn := rfl
@[simp] theorem modGrp_shw (g : Nat) (f : Group → Group) (s : State) : (modGrp g f s).shw = s.shw := rfl
@[simp] theorem modGrp_trz (g : Nat) (f : Group → Group) (s : State) : (modGrp g f s).trz = s.trz := rfl
@[simp] theorem modGrp_clp (g : Nat) (f : Group → Group) (s : State) : (modGrp g f s).clp = s.clp := rfl
@[simp] theorem modGrp_brk (g : Nat) (f : Group → Group) (s : State) : (modGrp g f s).brk = s.brk := rfl
@[simp] theorem modGrp_log (g : Nat) (f : Group → Group) (s : State) : (modGrp g f s).log = s.log := rfl
@[simp] theorem modGrp_th (g : Nat) (f : Group → Group) (s : State) : (modGrp g f s).th = s.th := rfl
@[simp] theorem modGrp_trn (g : Nat) (f : Group → Group) (s : State) : (modGrp g f s).trn = s.trn := rfl
@[simp] theorem modGrp_fw (g : Nat) (f : Group → Group) (s : State) : (modGrp g f s).fw = s.fw := rfl
@[simp] theorem modGrp_cal (g : Nat) (f : Group → Group) (s : State) : (modGrp g f s).cal = s.cal := rfl
@[simp] theorem modGrp_units (g : Nat) (f : Group → Group) (s : State) : (modGrp g f s).units = s.units := rfl
@[simp] theorem modGrp_genBase (g : Nat) (f : Group → Group) (s : State) : (modGrp g f s).genBase = s.genBase := rfl
@[simp] theorem modGrp_unitReqs (g : Nat) (f : Group → Group) (s : State) : (modGrp g f s).unitReqs = s.unitReqs := rfl
@[simp] theorem modGrp_unitSets (g : Nat) (f : Group → Group) (s : State) : (modGrp g f s).unitSets = s.unitSets := rfl
@[simp] theorem modGrp_out (g : Nat) (f : Group → Group) (s : State) : (modGrp g f s).out = s.out := rfl
@[simp] theorem modGrp_free (g : Nat) (f : Group → Group) (s : State) : (modGrp g f s).free = s.free := rfl
@[simp] theorem modGrp_pending (g : Nat) (f : Group → Group) (s : State) : (modGrp g f s).pending = s.pending := rfl

/-! ### modRail -/

@[simp] theorem modRail_rm (c : Nat) (f : VRail → VRail) (s : State) : (modRail c f s).rm = s.rm := by unfold modRail; split <;> rfl
@[simp] theorem modRail_mram (c : Nat) (f : VRail → VRail) (s : State) : (modRail c f s).mram = s.mram := by unfold modRail; split <;> rfl
@[simp] theorem modRail_hq (c : Nat) (f : VRail → VRail) (s : State) : (modRail c f s).hq = s.hq := by unfold modRail; split <;> rfl
@[simp] theorem modRail_scene (c : Nat) (f : VRail → VRail) (s : State) : (modRail c f s).scene = s.scene := by unfold modRail; split <;> rfl
@[simp] theorem modRail_hom (c : Nat) (f : VRail → VRail) (s : State) : (modRail c f s).hom = s.hom := by unfold modRail; split <;> rfl
@[simp] theorem modRail_clr (c : Nat) (f : VRail → VRail) (s : State) : (modRail c f s).clr = s.clr := by unfold modRail; split <;> rfl
@[simp] theorem modRail_crsl (c : Nat) (f : VRail → VRail) (s : State) : (modRail c f s).crsl = s.crsl := by unfold modRail; split <;> rfl
@[simp] theorem modRail_scn (c : Nat) (f : VRail → VRail) (s : State) : (modRail c f s).scn = s.scn := by unfold modRail; split <;> rfl
@[simp] theorem modRail_px (c : Nat) (f : VRail → VRail) (s : State) : (modRail c f s).px = s.px := by unfold modRail; split <;> rfl
@[simp] theorem modRail_jgl (c : Nat) (f : VRail → VRail) (s : State) : (modRail c f s).jgl = s.jgl := by unfold modRail; split <;> rfl
@[simp] theorem modRail_spm (c : Nat) (f : VRail → VRail) (s : State) : (modRail c f s).spm = s.spm := by unfold modRail; split <;> rfl
@[simp] theorem modRail_ctn (c : Nat) (f : VRail → VRail) (s : State) : (modRail c f s).ctn = s.ctn := by unfold modRail; split <;> rfl
@[simp] theorem modRail_shw (c : Nat) (f : VRail → VRail) (s : State) : (modRail c f s).shw = s.shw := by unfold modRail; split <;> rfl
@[simp] theorem modRail_trz (c : Nat) (f : VRail → VRail) (s : State) : (modRail c f s).trz = s.trz := by unfold modRail; split <;> rfl
@[simp] theorem modRail_clp (c : Nat) (f : VRail → VRail) (s : State) : (modRail c f s).clp = s.clp := by unfold modRail; split <;> rfl
@[simp] theorem modRail_brk (c : Nat) (f : VRail → VRail) (s : State) : (modRail c f s).brk = s.brk := by unfold modRail; split <;> rfl
@[simp] theorem modRail_log (c : Nat) (f : VRail → VRail) (s : State) : (modRail c f s).log = s.log := by unfold modRail; split <;> rfl
@[simp] theorem modRail_th (c : Nat) (f : VRail → VRail) (s : State) : (modRail c f s).th = s.th := by unfold modRail; split <;> rfl
@[simp] theorem modRail_trn (c : Nat) (f : VRail → VRail) (s : State) : (modRail c f s).trn = s.trn := by unfold modRail; split <;> rfl
@[simp] theorem modRail_fw (c : Nat) (f : VRail → VRail) (s : State) : (modRail c f s).fw = s.fw := by unfold modRail; split <;> rfl
@[simp] theorem modRail_cal (c : Nat) (f : VRail → VRail) (s : State) : (modRail c f s).cal = s.cal := by unfold modRail; split <;> rfl
@[simp] theorem modRail_units (c : Nat) (f : VRail → VRail) (s : State) : (modRail c f s).units = s.units := by unfold modRail; split <;> rfl
@[simp] theorem modRail_genBase (c : Nat) (f : VRail → VRail) (s : State) : (modRail c f s).genBase = s.genBase := by unfold modRail; split <;> rfl
@[simp] theorem modRail_unitReqs (c : Nat) (f : VRail → VRail) (s : State) : (modRail c f s).unitReqs = s.unitReqs := by unfold modRail; split <;> rfl
@[simp] theorem modRail_unitSets (c : Nat) (f : VRail → VRail) (s : State) : (modRail c f s).unitSets = s.unitSets := by unfold modRail; split <;> rfl
@[simp] theorem modRail_out (c : Nat) (f : VRail → VRail) (s : State) : (modRail c f s).out = s.out := by unfold modRail; split <;> rfl
@[simp] theorem modRail_free (c : Nat) (f : VRail → VRail) (s : State) : (modRail c f s).free = s.free := by unfold modRail; split <;> rfl
@[simp] theorem modRail_pending (c : Nat) (f : VRail → VRail) (s : State) : (modRail c f s).pending = s.pending := by unfold modRail; split <;> rfl

/-! ### modSensor -/

@[simp] theorem modSensor_rm (i : Nat) (f : Sensor → Sensor) (s : State) : (modSensor i f s).rm = s.rm := rfl
@[simp] theorem modSensor_mram (i : Nat) (f : Sensor → Sensor) (s : State) : (modSensor i f s).mram = s.mram := rfl
@[simp] theorem modSensor_hq (i : Nat) (f : Sensor → Sensor) (s : State) : (modSensor i f s).hq = s.hq := rfl
@[simp] theorem modSensor_scene (i : Nat) (f : Sensor → Sensor) (s : State) : (modSensor i f s).scene = s.scene := rfl
@[simp] theorem modSensor_hom (i : Nat) (f : Sensor → Sensor) (s : State) : (modSensor i f s).hom = s.hom := rfl
@[simp] theorem modSensor_clr (i : Nat) (f : Sensor → Sensor) (s : State) : (modSensor i f s).clr = s.clr := rfl
@[simp] theorem modSensor_crsl (i : Nat) (f : Sensor → Sensor) (s : State) : (modSensor i f s).crsl = s.crsl := rfl
@[simp] theorem modSensor_scn (i : Nat) (f : Sensor → Sensor) (s : State) : (modSensor i f s).scn = s.scn := rfl
@[simp] theorem modSensor_px (i : Nat) (f : Sensor → Sensor) (s : State) : (modSensor i f s).px = s.px := rfl
@[simp] theorem modSensor_pwr (i : Nat) (f : Sensor → Sensor) (s : State) : (modSensor i f s).pwr = s.pwr := rfl
@[simp] theorem modSensor_jgl (i : Nat) (f : Sensor → Sensor) (s : State) : (modSensor i f s).jgl = s.jgl := rfl
@[simp] theorem modSensor_spm (i : Nat) (f : Sensor → Sensor) (s : State) : (modSensor i f s).spm = s.spm := rfl
@[simp] theorem modSensor_ctn (i : Nat) (f : Sensor → Sensor) (s : State) : (modSensor i f s).ctn = s.ctn := rfl
@[simp] theorem modSensor_shw (i : Nat) (f : Sensor → Sensor) (s : State) : (modSensor i f s).shw = s.shw := rfl
@[simp] theorem modSensor_trz (i : Nat) (f : Sensor → Sensor) (s : State) : (modSensor i f s).trz = s.trz := rfl
@[simp] theorem modSensor_clp (i : Nat) (f : Sensor → Sensor) (s : State) : (modSensor i f s).clp = s.clp := rfl
@[simp] theorem modSensor_brk (i : Nat) (f : Sensor → Sensor) (s : State) : (modSensor i f s).brk = s.brk := rfl
@[simp] theorem modSensor_log (i : Nat) (f : Sensor → Sensor) (s : State) : (modSensor i f s).log = s.log := rfl
@[simp] theorem modSensor_trn (i : Nat) (f : Sensor → Sensor) (s : State) : (modSensor i f s).trn = s.trn := rfl
@[simp] theorem modSensor_fw (i : Nat) (f : Sensor → Sensor) (s : State) : (modSensor i f s).fw = s.fw := rfl
@[simp] theorem modSensor_cal (i : Nat) (f : Sensor → Sensor) (s : State) : (modSensor i f s).cal = s.cal := rfl
@[simp] theorem modSensor_units (i : Nat) (f : Sensor → Sensor) (s : State) : (modSensor i f s).units = s.units := rfl
@[simp] theorem modSensor_genBase (i : Nat) (f : Sensor → Sensor) (s : State) : (modSensor i f s).genBase = s.genBase := rfl
@[simp] theorem modSensor_unitReqs (i : Nat) (f : Sensor → Sensor) (s : State) : (modSensor i f s).unitReqs = s.unitReqs := rfl
@[simp] theorem modSensor_unitSets (i : Nat) (f : Sensor → Sensor) (s : State) : (modSensor i f s).unitSets = s.unitSets := rfl
@[simp] theorem modSensor_out (i : Nat) (f : Sensor → Sensor) (s : State) : (modSensor i f s).out = s.out := rfl
@[simp] theorem modSensor_free (i : Nat) (f : Sensor → Sensor) (s : State) : (modSensor i f s).free = s.free := rfl
@[simp] theorem modSensor_pending (i : Nat) (f : Sensor → Sensor) (s : State) : (modSensor i f s).pending = s.pending := rfl

/-! ### modReq -/

@[simp] theorem modReq_rm (k : Nat) (f : RegionReq → RegionReq) (s : State) : (modReq k f s).rm = s.rm := rfl
@[simp] theorem modReq_mram (k : Nat) (f : RegionReq → RegionReq) (s : State) : (modReq k f s).mram = s.mram := rfl
@[simp] theorem modReq_hq (k : Nat) (f : RegionReq → RegionReq) (s : State) : (modReq k f s).hq = s.hq := rfl
@[simp] theorem modReq_scene (k : Nat) (f : RegionReq → RegionReq) (s : State) : (modReq k f s).scene = s.scene := rfl
@[simp] theorem modReq_hom (k : Nat) (f : RegionReq → RegionReq) (s : State) : (modReq k f s).hom = s.hom := rfl
@[simp] theorem modReq_clr (k : Nat) (f : RegionReq → RegionReq) (s : State) : (modReq k f s).clr = s.clr := rfl
@[simp] theorem modReq_scn (k : Nat) (f : RegionReq → RegionReq) (s : State) : (modReq k f s).scn = s.scn := rfl
@[simp] theorem modReq_px (k : Nat) (f : RegionReq → RegionReq) (s : State) : (modReq k f s).px = s.px := rfl
@[simp] theorem modReq_pwr (k : Nat) (f : RegionReq → RegionReq) (s : State) : (modReq k f s).pwr = s.pwr := rfl
@[simp] theorem modReq_jgl (k : Nat) (f : RegionReq → RegionReq) (s : State) : (modReq k f s).jgl = s.jgl := rfl
@[simp] theorem modReq_spm (k : Nat) (f : RegionReq → RegionReq) (s : State) : (modReq k f s).spm = s.spm := rfl
@[simp] theorem modReq_ctn (k : Nat) (f : RegionReq → RegionReq) (s : State) : (modReq k f s).ctn = s.ctn := rfl
@[simp] theorem modReq_shw (k : Nat) (f : RegionReq → RegionReq) (s : State) : (modReq k f s).shw = s.shw := rfl
@[simp] theorem modReq_trz (k : Nat) (f : RegionReq → RegionReq) (s : State) : (modReq k f s).trz = s.trz := rfl
@[simp] theorem modReq_clp (k : Nat) (f : RegionReq → RegionReq) (s : State) : (modReq k f s).clp = s.clp := rfl
@[simp] theorem modReq_brk (k : Nat) (f : RegionReq → RegionReq) (s : State) : (modReq k f s).brk = s.brk := rfl
@[simp] theorem modReq_log (k : Nat) (f : RegionReq → RegionReq) (s : State) : (modReq k f s).log = s.log := rfl
@[simp] theorem modReq_th (k : Nat) (f : RegionReq → RegionReq) (s : State) : (modReq k f s).th = s.th := rfl
@[simp] theorem modReq_trn (k : Nat) (f : RegionReq → RegionReq) (s : State) : (modReq k f s).trn = s.trn := rfl
@[simp] theorem modReq_fw (k : Nat) (f : RegionReq → RegionReq) (s : State) : (modReq k f s).fw = s.fw := rfl
@[simp] theorem modReq_cal (k : Nat) (f : RegionReq → RegionReq) (s : State) : (modReq k f s).cal = s.cal := rfl
@[simp] theorem modReq_units (k : Nat) (f : RegionReq → RegionReq) (s : State) : (modReq k f s).units = s.units := rfl
@[simp] theorem modReq_genBase (k : Nat) (f : RegionReq → RegionReq) (s : State) : (modReq k f s).genBase = s.genBase := rfl
@[simp] theorem modReq_unitReqs (k : Nat) (f : RegionReq → RegionReq) (s : State) : (modReq k f s).unitReqs = s.unitReqs := rfl
@[simp] theorem modReq_unitSets (k : Nat) (f : RegionReq → RegionReq) (s : State) : (modReq k f s).unitSets = s.unitSets := rfl
@[simp] theorem modReq_out (k : Nat) (f : RegionReq → RegionReq) (s : State) : (modReq k f s).out = s.out := rfl
@[simp] theorem modReq_free (k : Nat) (f : RegionReq → RegionReq) (s : State) : (modReq k f s).free = s.free := rfl
@[simp] theorem modReq_pending (k : Nat) (f : RegionReq → RegionReq) (s : State) : (modReq k f s).pending = s.pending := rfl

/-! ### setRegion -/

@[simp] theorem setRegion_rm (r : Nat) (x : Region) (s : State) : (setRegion r x s).rm = s.rm := rfl
@[simp] theorem setRegion_mram (r : Nat) (x : Region) (s : State) : (setRegion r x s).mram = s.mram := rfl
@[simp] theorem setRegion_hq (r : Nat) (x : Region) (s : State) : (setRegion r x s).hq = s.hq := rfl
@[simp] theorem setRegion_scene (r : Nat) (x : Region) (s : State) : (setRegion r x s).scene = s.scene := rfl
@[simp] theorem setRegion_hom (r : Nat) (x : Region) (s : State) : (setRegion r x s).hom = s.hom := rfl
@[simp] theorem setRegion_clr (r : Nat) (x : Region) (s : State) : (setRegion r x s).clr = s.clr := rfl
@[simp] theorem setRegion_scn (r : Nat) (x : Region) (s : State) : (setRegion r x s).scn = s.scn := rfl
@[simp] theorem setRegion_px (r : Nat) (x : Region) (s : State) : (setRegion r x s).px = s.px := rfl
@[simp] theorem setRegion_pwr (r : Nat) (x : Region) (s : State) : (setRegion r x s).pwr = s.pwr := rfl
@[simp] theorem setRegion_jgl (r : Nat) (x : Region) (s : State) : (setRegion r x s).jgl = s.jgl := rfl
@[simp] theorem setRegion_spm (r : Nat) (x : Region) (s : State) : (setRegion r x s).spm = s.spm := rfl
@[simp] theorem setRegion_ctn (r : Nat) (x : Region) (s : State) : (setRegion r x s).ctn = s.ctn := rfl
@[simp] theorem setRegion_shw (r : Nat) (x : Region) (s : State) : (setRegion r x s).shw = s.shw := rfl
@[simp] theorem setRegion_trz (r : Nat) (x : Region) (s : State) : (setRegion r x s).trz = s.trz := rfl
@[simp] theorem setRegion_clp (r : Nat) (x : Region) (s : State) : (setRegion r x s).clp = s.clp := rfl
@[simp] theorem setRegion_brk (r : Nat) (x : Region) (s : State) : (setRegion r x s).brk = s.brk := rfl
@[simp] theorem setRegion_log (r : Nat) (x : Region) (s : State) : (setRegion r x s).log = s.log := rfl
@[simp] theorem setRegion_th (r : Nat) (x : Region) (s : State) : (setRegion r x s).th = s.th := rfl
@[simp] theorem setRegion_trn (r : Nat) (x : Region) (s : State) : (setRegion r x s).trn = s.trn := rfl
@[simp] theorem setRegion_fw (r : Nat) (x : Region) (s : State) : (setRegion r x s).fw = s.fw := rfl
@[simp] theorem setRegion_cal (r : Nat) (x : Region) (s : State) : (setRegion r x s).cal = s.cal := rfl
@[simp] theorem setRegion_units (r : Nat) (x : Region) (s : State) : (setRegion r x s).units = s.units := rfl
@[simp] theorem setRegion_genBase (r : Nat) (x : Region) (s : State) : (setRegion r x s).genBase = s.genBase := rfl
@[simp] theorem setRegion_unitReqs (r : Nat) (x : Region) (s : State) : (setRegion r x s).unitReqs = s.unitReqs := rfl
@[simp] theorem setRegion_unitSets (r : Nat) (x : Region) (s : State) : (setRegion r x s).unitSets = s.unitSets := rfl
@[simp] theorem setRegion_out (r : Nat) (x : Region) (s : State) : (setRegion r x s).out = s.out := rfl
@[simp] theorem setRegion_free (r : Nat) (x : Region) (s : State) : (setRegion r x s).free = s.free := rfl
@[simp] theorem setRegion_pending (r : Nat) (x : Region) (s : State) : (setRegion r x s).pending = s.pending := rfl

/-! ### modFwSlot -/

@[simp] theorem modFwSlot_rm (i : Nat) (f : FwSlot → FwSlot) (s : State) : (modFwSlot i f s).rm = s.rm := rfl
@[simp] theorem modFwSlot_mram (i : Nat) (f : FwSlot → FwSlot) (s : State) : (modFwSlot i f s).mram = s.mram := rfl
@[simp] theorem modFwSlot_hq (i : Nat) (f : FwSlot → FwSlot) (s : State) : (modFwSlot i f s).hq = s.hq := rfl
@[simp] theorem modFwSlot_scene (i : Nat) (f : FwSlot → FwSlot) (s : State) : (modFwSlot i f s).scene = s.scene := rfl
@[simp] theorem modFwSlot_hom (i : Nat) (f : FwSlot → FwSlot) (s : State) : (modFwSlot i f s).hom = s.hom := rfl
@[simp] theorem modFwSlot_clr (i : Nat) (f : FwSlot → FwSlot) (s : State) : (modFwSlot i f s).clr = s.clr := rfl
@[simp] theorem modFwSlot_crsl (i : Nat) (f : FwSlot → FwSlot) (s : State) : (modFwSlot i f s).crsl = s.crsl := rfl
@[simp] theorem modFwSlot_scn (i : Nat) (f : FwSlot → FwSlot) (s : State) : (modFwSlot i f s).scn = s.scn := rfl
@[simp] theorem modFwSlot_px (i : Nat) (f : FwSlot → FwSlot) (s : State) : (modFwSlot i f s).px = s.px := rfl
@[simp] theorem modFwSlot_pwr (i : Nat) (f : FwSlot → FwSlot) (s : State) : (modFwSlot i f s).pwr = s.pwr := rfl
@[simp] theorem modFwSlot_jgl (i : Nat) (f : FwSlot → FwSlot) (s : State) : (modFwSlot i f s).jgl = s.jgl := rfl
@[simp] theorem modFwSlot_spm (i : Nat) (f : FwSlot → FwSlot) (s : State) : (modFwSlot i f s).spm = s.spm := rfl
@[simp] theorem modFwSlot_ctn (i : Nat) (f : FwSlot → FwSlot) (s : State) : (modFwSlot i f s).ctn = s.ctn := rfl
@[simp] theorem modFwSlot_shw (i : Nat) (f : FwSlot → FwSlot) (s : State) : (modFwSlot i f s).shw = s.shw := rfl
@[simp] theorem modFwSlot_trz (i : Nat) (f : FwSlot → FwSlot) (s : State) : (modFwSlot i f s).trz = s.trz := rfl
@[simp] theorem modFwSlot_clp (i : Nat) (f : FwSlot → FwSlot) (s : State) : (modFwSlot i f s).clp = s.clp := rfl
@[simp] theorem modFwSlot_brk (i : Nat) (f : FwSlot → FwSlot) (s : State) : (modFwSlot i f s).brk = s.brk := rfl
@[simp] theorem modFwSlot_log (i : Nat) (f : FwSlot → FwSlot) (s : State) : (modFwSlot i f s).log = s.log := rfl
@[simp] theorem modFwSlot_th (i : Nat) (f : FwSlot → FwSlot) (s : State) : (modFwSlot i f s).th = s.th := rfl
@[simp] theorem modFwSlot_trn (i : Nat) (f : FwSlot → FwSlot) (s : State) : (modFwSlot i f s).trn = s.trn := rfl
@[simp] theorem modFwSlot_cal (i : Nat) (f : FwSlot → FwSlot) (s : State) : (modFwSlot i f s).cal = s.cal := rfl
@[simp] theorem modFwSlot_units (i : Nat) (f : FwSlot → FwSlot) (s : State) : (modFwSlot i f s).units = s.units := rfl
@[simp] theorem modFwSlot_genBase (i : Nat) (f : FwSlot → FwSlot) (s : State) : (modFwSlot i f s).genBase = s.genBase := rfl
@[simp] theorem modFwSlot_unitReqs (i : Nat) (f : FwSlot → FwSlot) (s : State) : (modFwSlot i f s).unitReqs = s.unitReqs := rfl
@[simp] theorem modFwSlot_unitSets (i : Nat) (f : FwSlot → FwSlot) (s : State) : (modFwSlot i f s).unitSets = s.unitSets := rfl
@[simp] theorem modFwSlot_out (i : Nat) (f : FwSlot → FwSlot) (s : State) : (modFwSlot i f s).out = s.out := rfl
@[simp] theorem modFwSlot_free (i : Nat) (f : FwSlot → FwSlot) (s : State) : (modFwSlot i f s).free = s.free := rfl
@[simp] theorem modFwSlot_pending (i : Nat) (f : FwSlot → FwSlot) (s : State) : (modFwSlot i f s).pending = s.pending := rfl

/-! ### unflight -/

@[simp] theorem unflight_rm (h : Hdr) (s : State) : (unflight h s).rm = s.rm := rfl
@[simp] theorem unflight_mram (h : Hdr) (s : State) : (unflight h s).mram = s.mram := rfl
@[simp] theorem unflight_scene (h : Hdr) (s : State) : (unflight h s).scene = s.scene := rfl
@[simp] theorem unflight_hom (h : Hdr) (s : State) : (unflight h s).hom = s.hom := rfl
@[simp] theorem unflight_clr (h : Hdr) (s : State) : (unflight h s).clr = s.clr := rfl
@[simp] theorem unflight_crsl (h : Hdr) (s : State) : (unflight h s).crsl = s.crsl := rfl
@[simp] theorem unflight_scn (h : Hdr) (s : State) : (unflight h s).scn = s.scn := rfl
@[simp] theorem unflight_px (h : Hdr) (s : State) : (unflight h s).px = s.px := rfl
@[simp] theorem unflight_pwr (h : Hdr) (s : State) : (unflight h s).pwr = s.pwr := rfl
@[simp] theorem unflight_jgl (h : Hdr) (s : State) : (unflight h s).jgl = s.jgl := rfl
@[simp] theorem unflight_spm (h : Hdr) (s : State) : (unflight h s).spm = s.spm := rfl
@[simp] theorem unflight_ctn (h : Hdr) (s : State) : (unflight h s).ctn = s.ctn := rfl
@[simp] theorem unflight_shw (h : Hdr) (s : State) : (unflight h s).shw = s.shw := rfl
@[simp] theorem unflight_trz (h : Hdr) (s : State) : (unflight h s).trz = s.trz := rfl
@[simp] theorem unflight_clp (h : Hdr) (s : State) : (unflight h s).clp = s.clp := rfl
@[simp] theorem unflight_brk (h : Hdr) (s : State) : (unflight h s).brk = s.brk := rfl
@[simp] theorem unflight_log (h : Hdr) (s : State) : (unflight h s).log = s.log := rfl
@[simp] theorem unflight_th (h : Hdr) (s : State) : (unflight h s).th = s.th := rfl
@[simp] theorem unflight_trn (h : Hdr) (s : State) : (unflight h s).trn = s.trn := rfl
@[simp] theorem unflight_fw (h : Hdr) (s : State) : (unflight h s).fw = s.fw := rfl
@[simp] theorem unflight_cal (h : Hdr) (s : State) : (unflight h s).cal = s.cal := rfl
@[simp] theorem unflight_units (h : Hdr) (s : State) : (unflight h s).units = s.units := rfl
@[simp] theorem unflight_genBase (h : Hdr) (s : State) : (unflight h s).genBase = s.genBase := rfl
@[simp] theorem unflight_unitReqs (h : Hdr) (s : State) : (unflight h s).unitReqs = s.unitReqs := rfl
@[simp] theorem unflight_unitSets (h : Hdr) (s : State) : (unflight h s).unitSets = s.unitSets := rfl
@[simp] theorem unflight_out (h : Hdr) (s : State) : (unflight h s).out = s.out := rfl
@[simp] theorem unflight_free (h : Hdr) (s : State) : (unflight h s).free = s.free := rfl
@[simp] theorem unflight_pending (h : Hdr) (s : State) : (unflight h s).pending = s.pending := rfl

end Sys2Proof.Machine
end

