-- ==== Sys2Proof/Laws/Mesh.lean ====
section
/-! SUPPORT. Laws of the mesh ports: what a frame handed to a port without others waiting does. -/

namespace Sys2Proof.Machine

/-- A port whose link is up is listed. -/
theorem meshPort_ne_of_passes {m : MeshPort} {cls : Nat} (h : meshPasses m.link cls = true) : m ≠ {} := by
  rintro rfl; simp [meshPasses] at h

/-- What a departure leaves of a port that is listed: all but the block row in progress and t1. -/
theorem meshPort_meshDepart (p : Nat) (f : MeshFrame) (s : State) (h : (meshPort s p).link ≠ .disabled) :
    ∃ part lfsr t1, meshPort (meshDepart p f s) p = { meshPort s p with part := part, lfsr := lfsr, t1 := t1 } := by
  have ne : ∀ m : MeshPort, m.link = (meshPort s p).link → m ≠ {} := by
    rintro m hm rfl; exact h hm.symm
  unfold meshDepart meshStream
  dsimp only
  generalize dataRows _ _ _ _ = r
  split
  · refine ⟨r.2.1, r.2.2, some (tb1Q s), ?_⟩
    show meshPort (modMesh _ _ (modMesh _ _ { s with free := s.free + 1 })) p = _
    rw [meshPort_modMesh _ _ _ (ne _ (by rw [meshPort_modMesh _ _ _ (ne _ rfl)]; rfl)), meshPort_modMesh _ _ _ (ne _ rfl)]
    rfl
  · refine ⟨r.2.1, r.2.2, (meshPort s p).t1, ?_⟩
    show meshPort (modMesh _ _ { s with free := s.free + 1 }) p = _
    rw [meshPort_modMesh _ _ _ (ne _ rfl)]
    rfl

theorem meshPort_eta {m : MeshPort} (h : m.waiting = []) : { m with waiting := [] } = m := by
  cases m; cases h; rfl

/-- A frame that may leave is the one that leaves when no other waits. -/
theorem meshNext_one {m : MeshPort} {f : MeshFrame} (hw : m.waiting = [f]) (hc : f.cls < 7) (hr : meshReady m f = true) :
    meshNext m = some f := by
  unfold meshNext
  obtain ⟨cls, kind, words, bytes, payload, dst, src, hops, time, lseq, ctr, arrival⟩ := f
  rw [hw]
  have : cls = 0 ∨ cls = 1 ∨ cls = 2 ∨ cls = 3 ∨ cls = 4 ∨ cls = 5 ∨ cls = 6 := by simp at hc; omega
  rcases this with rfl | rfl | rfl | rfl | rfl | rfl | rfl <;> simp [List.range_succ, List.findSome?, List.find?, hr]

/-- R304, R305: a frame that may leave a port where no other waits leaves it: it takes one credit, one link sequence number
and a place in the replay buffer, and the port is as it was but for the block row in progress and t1. -/
theorem meshQueue_leaves (p : Nat) (f : MeshFrame) (s : State) (hw : (meshPort s p).waiting = []) (hc : f.cls < 7)
    (hr : meshReady (meshPort s p) f = true) :
    let m := meshPort s p
    ∃ (g : MeshFrame) (part : List Byte) (lfsr : List (BitVec 23)) (t1 : Option Int) (ctr : Nat), g.payload = f.payload ∧ meshPort (meshQueue p f s) p =
      { m with credits := spSet (creditDflt f.cls) m.credits f.cls (creditOf m f.cls - 1), replay := m.replay ++ [g]
               txSeq := (m.txSeq + 1) % 256, txCtr := ctr, part := part, lfsr := lfsr, t1 := t1 } := by
  have hl : (meshPort s p).link ≠ .disabled := by
    intro h; simp [meshReady, h, meshPasses] at hr
  have ne : ∀ m : MeshPort, m.link = (meshPort s p).link → m ≠ {} := by
    rintro m hm rfl; exact hl hm.symm
  have h1 : meshPort (modMesh p (fun m => { m with waiting := m.waiting ++ [f] }) s) p =
      { meshPort s p with waiting := [f] } := by
    rw [meshPort_modMesh _ _ _ (ne _ rfl), hw]; rfl
  have hn : meshNext { meshPort s p with waiting := [f] } = some f := meshNext_one rfl hc hr
  unfold meshQueue meshPump
  generalize modMesh p (fun m => { m with waiting := m.waiting ++ [f] }) s = s1 at h1 ⊢
  rw [h1]
  show ∃ (g : MeshFrame) (part : List Byte) (lfsr : List (BitVec 23)) (t1 : Option Int) (ctr : Nat), g.payload = f.payload ∧ meshPort (meshPumpN p 1 s1) p = _
  rw [meshPumpN, h1, hn]
  simp only [meshPumpN]
  have h2 : meshPort (modMesh p (fun m => { m with waiting := m.waiting.erase f }) s1) p = meshPort s p := by
    rw [meshPort_modMesh _ _ _ (by rw [h1]; exact ne _ rfl), h1]
    simp only [List.erase_cons_head]
    exact meshPort_eta hw
  generalize modMesh p (fun m => { m with waiting := m.waiting.erase f }) s1 = s2 at h2 ⊢
  unfold meshTx
  dsimp only
  rw [h2]
  generalize hg : ({ f with lseq := (meshPort s p).txSeq
                            ctr := if meshAuthed (meshPort s p) f.cls then (meshPort s p).txCtr else 0 } : MeshFrame) = g
  obtain ⟨part, lfsr, t1, h3⟩ := meshPort_meshDepart p g s2 (by rw [h2]; exact hl)
  rw [h2] at h3
  have h4 := meshPort_modMesh p (fun m' => { m' with
    credits := spSet (creditDflt f.cls) m'.credits f.cls (creditOf m' f.cls - 1)
    replay := m'.replay ++ [g]
    txSeq := (m'.txSeq + 1) % 256
    txCtr := if meshAuthed m' f.cls then m'.txCtr + 1 else m'.txCtr }) (meshDepart p g s2)
    (by rw [h3]; exact ne _ rfl)
  rw [h3] at h4
  exact ⟨g, part, lfsr, t1, _, by rw [← hg], h4⟩

/-- A payload has at most 4,096 bytes (R303). -/
theorem meshPayload_length_le (cls kind : Nat) (words : List Nat) (bytes : List Byte) :
    (meshPayload cls kind words bytes).length ≤ 4096 := by
  simp only [meshPayload, fit, List.length_append, List.length_take]
  omega

/-- R304, R305: a LINK frame leaves a port that is up, where no other frame waits, with a credit and room in the replay
buffer: it takes one credit and at most 4,144 bytes of the buffer. -/
theorem meshSendFrame_leaves (p kind : Nat) (words : List Nat) (bytes : List Byte) (s : State)
    (hl : meshPasses (meshPort s p).link 0 = true) (hw : (meshPort s p).waiting = [])
    (hc : 0 < creditOf (meshPort s p) 0) (hr : ((meshPort s p).replay.map meshFrameSize).sum ≤ 258000) :
    let m := meshPort s p
    let t := meshPort (meshSendFrame p 0 kind words bytes s) p
    t.link = m.link ∧ t.waiting = [] ∧ t.credits = spSet 4 m.credits 0 (creditOf m 0 - 1) ∧
      (t.replay.map meshFrameSize).sum ≤ (m.replay.map meshFrameSize).sum + 4144 := by
  have hp := meshPayload_length_le 0 kind words bytes
  have room : meshReady (meshPort s p) (ownFrame s (meshPort s p).peer 0 0 kind (meshTsOf 0 kind words) words bytes) = true := by
    simp only [meshReady, ownFrame, hl, replayRoom, meshFrameSize, Bool.and_eq_true]
    exact ⟨⟨trivial, decide_eq_true hc⟩, decide_eq_true (by omega)⟩
  obtain ⟨g, part, lfsr, t1, ctr, hg, h⟩ := meshQueue_leaves p _ s hw (by show 0 < 7; decide) room
  have e : meshSendFrame p 0 kind words bytes s =
    meshQueue p (ownFrame s (meshPort s p).peer 0 0 kind (meshTsOf 0 kind words) words bytes) s := rfl
  simp only [e, h]
  refine ⟨trivial, hw, rfl, ?_⟩
  simp only [List.map_append, List.sum_append, List.map_cons, List.map_nil, List.sum_cons, List.sum_nil, meshFrameSize, hg,
    ownFrame]
  omega

end Sys2Proof.Machine
end

