-- ==== Sys2Proof/Laws/Packets.lean ====
section
/-! SUPPORT. Little-endian fields read back from the bytes they were written as, one after another. -/

namespace Sys2Proof.Machine

@[simp] theorem leBytes_length (k v : Nat) : (leBytes k v).length = k := by
  induction k generalizing v with
  | zero => rfl
  | succ k ih => simp [leBytes, ih]

@[simp] theorem fill_length (n : Nat) (b : Byte) : (fill n b).length = n := by simp [fill]

theorem leNat_leBytes (k v : Nat) : leNat (leBytes k v) = v % 256 ^ k := by
  induction k generalizing v with
  | zero => simp [leBytes, leNat, Nat.mod_one]
  | succ k ih =>
    simp only [leBytes, leNat, ih, BitVec.toNat_ofNat]
    have e : v % 256 ^ (k + 1) = v % 256 + 256 * (v / 256 % 256 ^ k) := by rw [Nat.pow_succ', Nat.mod_mul]
    rw [e]

/-- A field behind some bytes. -/
theorem leAt_skip (x r : List Byte) (i k : Nat) (h : x.length ≤ i) : leAt (x ++ r) i k = leAt r (i - x.length) k := by
  simp [leAt, List.drop_append, List.drop_eq_nil_of_le h]

/-- A field at the front. -/
theorem leAt_here (k v : Nat) (r : List Byte) : leAt (leBytes k v ++ r) 0 k = v % 256 ^ k := by
  simp [leAt, leNat_leBytes]

theorem leAt_end (k v : Nat) : leAt (leBytes k v) 0 k = v % 256 ^ k := by
  simpa using leAt_here k v []

theorem zeroBytes_skip (x r : List Byte) (i j : Nat) (h : x.length ≤ i) :
    zeroBytes (x ++ r) i j = zeroBytes r (i - x.length) (j - x.length) := by
  simp only [zeroBytes, List.drop_append, List.drop_eq_nil_of_le h, List.nil_append]
  congr 2; omega

theorem zeroBytes_fill (n j : Nat) (r : List Byte) (h : j ≤ n) : zeroBytes (fill n 0#8 ++ r) 0 j = true := by
  simp [zeroBytes, fill, List.take_append, h]

theorem zeroBytes_fill_end (n j : Nat) : zeroBytes (fill n 0#8) 0 j = true := by
  simp [zeroBytes, fill]

theorem slice_skip (x r : List Byte) (i k : Nat) (h : x.length ≤ i) : slice (x ++ r) i k = slice r (i - x.length) k := by
  simp [slice, List.drop_append, List.drop_eq_nil_of_le h]

/-- A word reads back from enough bytes. -/
theorem word_of_bytes (n k : Nat) (v : BitVec n) (h : n ≤ 8 * k) : BitVec.ofNat n (v.toNat % 256 ^ k) = v := by
  apply BitVec.eq_of_toNat_eq
  have h1 : v.toNat < 2 ^ n := v.isLt
  have h2 : 2 ^ n ≤ 256 ^ k := by
    rw [show (256 : Nat) = 2 ^ 8 from rfl, ← Nat.pow_mul]; exact Nat.pow_le_pow_right (by decide) h
  simp only [BitVec.toNat_ofNat]
  rw [Nat.mod_eq_of_lt (Nat.lt_of_lt_of_le h1 h2), Nat.mod_eq_of_lt h1]

end Sys2Proof.Machine
end

