-- ==== Sys2Proof/Tests/Slice0.lean ====
section
/-! SUPPORT. Tests: what well-formedness refuses, single steps on small states, and for each statement with hypotheses a
state and operands that meet them. -/

namespace Sys2Proof.Tests

open Machine

set_option linter.unusedVariables false
set_option Elab.async false

/-- A header of a packet from `src` with nothing set. -/
def hdrOf (src : Src) : Hdr := ⟨src, 0, 0, false, false, false, 0⟩

/-- The device in READY after reset, its Turnstiles off, with 2^36 bytes of DRAM in service. -/
def ready : State := { State.reset with
  rm := { State.reset.rm with stage := .ready }
  trn := { State.reset.trn with en := false }
  jgl := { State.reset.jgl with state := .high, n := 20, stripes := 2 ^ 23, limit := 2 ^ 36 } }

/-- A header of a packet from firmware. -/
def fwHdr : Hdr := hdrOf .fw

/-- A header of a packet from submission queue 0. -/
def sqHdr : Hdr := hdrOf (.sq 0)

/-- A command gives a next state. -/
def goes (c : Instr) (s : State) : Bool := match exec c s with | .next _ => true | _ => false

/-- The next state that a command gives, or the state as it was. -/
def after (c : Instr) (s : State) : State := match exec c s with | .next t => t | _ => s

/-- A command with a header out of its range is not well formed. -/
theorem test_wf_refuses_headers :
    (Instr.nop (hdrOf (.sq 1024))).wf = false ∧
    (Instr.fence (hdrOf (.sq 1024)) ⟨0, false⟩).wf = false ∧
    (Instr.sceneLoadOpen (hdrOf (.sq 1024)) ⟨0, 0, 0, 0, 0⟩).wf = false ∧
    (Instr.sceneLoadData (hdrOf (.sq 1024)) ⟨0, 0, 0, 0, 0⟩ .refused).wf = false ∧
    (Instr.sceneLoadClose (hdrOf (.sq 1024)) ⟨0, 0, 0, 0, 0⟩).wf = false ∧
    (Instr.sceneLoadFree (hdrOf (.sq 1024)) ⟨0, 0, 0, 0, 0⟩).wf = false ∧
    (Instr.scenePlay (hdrOf (.sq 1024)) ⟨0, 0, 0, 0, false⟩).wf = false ∧
    (Instr.sceneStop (hdrOf (.sq 1024)) ⟨0, 0, false⟩).wf = false ∧
    (Instr.sceneSeek (hdrOf (.sq 1024)) ⟨0, 0, 0, 0, false⟩).wf = false ∧
    (Instr.frameSubmit (hdrOf (.sq 1024)) ⟨0, 0, 0, 0, false⟩).wf = false ∧
    (Instr.layerSet (hdrOf (.sq 1024)) ⟨0, 0, 0, 0, 0, 0, false⟩).wf = false ∧
    (Instr.commit (hdrOf (.sq 1024)) ⟨0, 0, false⟩).wf = false ∧
    (Instr.timingSet (hdrOf (.sq 1024)) ⟨0, 0, 0, 0, 0, 0, 0, false⟩).wf = false ∧
    (Instr.updateRegion (hdrOf (.sq 1024)) ⟨0, 0, 0, 0, 0, 0, 0, false⟩).wf = false ∧
    (Instr.waveformLoad (hdrOf (.sq 1024)) ⟨0, 0, false⟩).wf = false ∧
    (Instr.blitFill (hdrOf (.sq 1024)) ⟨0, 0, 0, 0, 0, 0, 0, 0, 0, 0, 0, 0, 0, 0, 0, 0, false⟩).wf = false ∧
    (Instr.blitCopy (hdrOf (.sq 1024)) ⟨0, 0, 0, 0, 0, 0, 0, 0, 0, 0, 0, 0, 0, 0, 0, 0, false⟩).wf = false ∧
    (Instr.blitConvert (hdrOf (.sq 1024)) ⟨0, 0, 0, 0, 0, 0, 0, 0, 0, 0, 0, 0, 0, 0, 0, 0, false⟩).wf = false ∧
    (Instr.ctnEncode (hdrOf (.sq 1024)) ⟨0, 0, 0, 0, 0, 0, 0, 0, false⟩).wf = false ∧
    (Instr.ctnDecode (hdrOf (.sq 1024)) ⟨0, 0, 0, 0, 0, 0, 0, 0, false⟩).wf = false ∧
    (Instr.ctnSaveState (hdrOf (.sq 1024)) ⟨0, 0, 0, false⟩).wf = false ∧
    (Instr.ctnRestoreState (hdrOf (.sq 1024)) ⟨0, 0, 0, false⟩).wf = false ∧
    (Instr.surfaceRegister (hdrOf (.sq 1024)) ⟨0, 0, false⟩).wf = false ∧
    (Instr.surfaceRelease (hdrOf (.sq 1024)) ⟨0, false⟩).wf = false ∧
    (Instr.fwOpen (hdrOf (.sq 1024)) ⟨0, 0, false⟩).wf = false ∧
    (Instr.fwBlock (hdrOf (.sq 1024)) ⟨0, 0, 0, [], false⟩).wf = false ∧
    (Instr.fwCommit (hdrOf (.sq 1024)) ⟨0, 0, false⟩).wf = false ∧
    (Instr.fwAbort (hdrOf (.sq 1024)) ⟨0, false⟩).wf = false ∧
    (Instr.fwConfirm (hdrOf (.sq 1024)) ⟨0, false⟩).wf = false ∧
    (Instr.calRun (hdrOf (.sq 1024)) ⟨0, 0, false⟩).wf = false ∧
    (Instr.calRead (hdrOf (.sq 1024)) ⟨0, 0, false⟩).wf = false ∧
    (Instr.calWrite (hdrOf (.sq 1024)) ⟨0, [], false⟩).wf = false ∧
    (Instr.meshSend (hdrOf (.sq 1024)) ⟨0, 0, 0, false⟩ .refused).wf = false ∧
    (Instr.unitStateGet (hdrOf (.sq 1024)) ⟨0, 0, 0, 0, false⟩).wf = false ∧
    (Instr.unitStateSet (hdrOf (.sq 1024)) ⟨0, 0, 0, 0, false⟩).wf = false ∧
    (Instr.resetUnit (hdrOf (.sq 1024)) ⟨0, 0, 0, 0, false⟩).wf = false ∧
    (Instr.logReadEntries (hdrOf (.sq 1024)) ⟨0, 0, 0, false⟩).wf = false ∧
    (Instr.logReadCodeDictionary (hdrOf (.sq 1024)) ⟨0, 0, 0, false⟩).wf = false ∧
    (Instr.logReadSourceDictionary (hdrOf (.sq 1024)) ⟨0, 0, 0, false⟩).wf = false := by
  decide

/-- A command with a unit or slot out of its range is not well formed. -/
theorem test_wf_refuses_numbers_1 :
    (Instr.sceneVerifyDone 256 []).wf = false ∧
    (Instr.streamedFrameLanded 4 .refused).wf = false ∧
    (Instr.ctnJobEnd 64 {}).wf = false ∧
    (Instr.calItemDone 14 ⟨0, 0, 0⟩).wf = false ∧
    (Instr.vecIdleWrite .ha 64 0).wf = false ∧
    (Instr.bar2Access .ha (2 ^ 28) (.read 1) [] 0).wf = false ∧
    (Instr.bar4Access .ha (2 ^ 36) (.read 1) {}).wf = false ∧
    (Instr.bar0BadAccess 0 (2 ^ 25) false 0).wf = false ∧
    (Instr.bar0BadAccess 0 0 false (2 ^ 32)).wf = false ∧
    (Instr.registerWrite 0 (2 ^ 25) 0).wf = false ∧
    (Instr.brkClaim 4).wf = false ∧
    (Instr.brkComplete 4 0).wf = false ∧
    (Instr.brkHostPendClear 0 32 0).wf = false ∧
    (Instr.brkModTimer 4).wf = false ∧
    (Instr.coreReset 4).wf = false ∧
    (Instr.mctpRequest 8 []).wf = false ∧
    (Instr.mctpAssemblyTimeout 8).wf = false ∧
    (Instr.homPipeErr 72 0).wf = false ∧
    (Instr.watermarkFire 8).wf = false ∧
    (Instr.railOvervoltage 3).wf = false ∧
    (Instr.railUndervoltage 3 0).wf = false ∧
    (Instr.pxTsRx 0 2 []).wf = false ∧
    (Instr.regionRequestTimeout 16).wf = false ∧
    (Instr.crslTblRewriteDone 3).wf = false ∧
    (Instr.homPipeSpare 72).wf = false ∧
    (Instr.homPipeCleanWindow 72).wf = false ∧
    (Instr.jglMr4Read 0 4 0 0).wf = false ∧
    (Instr.jglMr4Read 0 0 8 0).wf = false ∧
    (Instr.jglZqCal 0 4).wf = false ∧
    (Instr.jglDqsTrack 0 4).wf = false ∧
    (Instr.trzLaneWindow 0 16 0).wf = false ∧
    (Instr.trzLaneSpare 0 16 true).wf = false ∧
    (Instr.trzAckRx 0 256 []).wf = false ∧
    (Instr.trzNakRx 0 256 []).wf = false ∧
    (Instr.trzCreditRx 0 7 0 []).wf = false ∧
    (Instr.trzHelloRx 0 [] 16384 [] []).wf = false ∧
    (Instr.trzDataRequestRx 0 [] 0 (2 ^ 64) 0 .refused).wf = false ∧
    (Instr.trzDataRequestRx 0 [] 0 0 (2 ^ 32) .refused).wf = false ∧
    (Instr.logEntrySubmit .thPause 4 []).wf = false ∧
    (Instr.thSensorSpare 284 false).wf = false := by
  decide

/-- A command with a unit or slot out of its range is not well formed. -/
theorem test_wf_refuses_numbers_2 :
    (Instr.sensorCleanWindow 284).wf = false ∧
    (Instr.thermalTrip 40 0 0).wf = false ∧
    (Instr.powerOnReset 8).wf = false ∧
    (Instr.resetNAssert 8).wf = false ∧
    (Instr.coreWait 4 false).wf = false := by
  decide

/-- A command with a DRAM channel out of its range is not well formed. -/
theorem test_wf_refuses_channels :
    (Instr.shwStagingDone 8 {}).wf = false ∧
    (Instr.shwBurstDone 8 {}).wf = false ∧
    (Instr.jglCeLimit 24).wf = false ∧
    (Instr.jglRetrain 24).wf = false ∧
    (Instr.jglFold 24).wf = false ∧
    (Instr.jglRebase 24).wf = false ∧
    (Instr.jglRefreshLimit 24 0).wf = false ∧
    (Instr.jglRowDisturb 24 0).wf = false ∧
    (Instr.jglMr4Read 24 0 0 0).wf = false ∧
    (Instr.jglZqCal 24 0).wf = false ∧
    (Instr.jglDqsTrack 24 0).wf = false ∧
    (Instr.jglChannelCleanWindow 24).wf = false ∧
    (Instr.sameBankRefresh 24 0 false).wf = false := by
  decide

/-- A command with a queue out of its range is not well formed. -/
theorem test_wf_refuses_queues :
    (Instr.sqDoorbell .ha 1024 0).wf = false ∧
    (Instr.packetFetch 1024 .refused).wf = false ∧
    (Instr.cqDoorbell .ha 1024 0).wf = false ∧
    (Instr.cqInterruptTimer 1024).wf = false ∧
    (Instr.sqDrainDone 1024).wf = false := by
  decide

/-- A command with a master out of its range is not well formed. -/
theorem test_wf_refuses_masters :
    (Instr.bar0BadAccess 64 0 false 0).wf = false ∧
    (Instr.registerWrite 64 0 0).wf = false ∧
    (Instr.rmResetWrite 64 0).wf = false ∧
    (Instr.wdogKick 64).wf = false ∧
    (Instr.panelOnSet 64).wf = false ∧
    (Instr.panelOnClear 64).wf = false ∧
    (Instr.pwrseqLegacyWrite 64 false).wf = false ∧
    (Instr.brkSrcForce 64).wf = false ∧
    (Instr.brkCountClear 64).wf = false ∧
    (Instr.brkHostPendClear 64 0 0).wf = false ∧
    (Instr.brkRouteWrite 64 0).wf = false ∧
    (Instr.thAckL3 64).wf = false ∧
    (Instr.thTripClear 64 0).wf = false ∧
    (Instr.thTripDataRead 64).wf = false ∧
    (Instr.thLimitsWrite 64 0).wf = false ∧
    (Instr.calJrnlDataRead 64).wf = false ∧
    (Instr.clrTblDataAccess 64 none).wf = false ∧
    (Instr.trzRouteDataAccess 64 none).wf = false ∧
    (Instr.trnEntryApply 64).wf = false ∧
    (Instr.shwChAbort 64).wf = false ∧
    (Instr.shwDisable 64).wf = false ∧
    (Instr.clpSnap 64 0).wf = false ∧
    (Instr.clpTb1Step 64 0).wf = false ∧
    (Instr.clpTb0OffsetWrite 64 0).wf = false ∧
    (Instr.clpTb2OffsetWrite 64 0).wf = false ∧
    (Instr.clpTb3Set 64 0).wf = false ∧
    (Instr.jglFoldAck 64).wf = false ∧
    (Instr.trzPortExpectWrite 64 0).wf = false ∧
    (Instr.pxGrpFirWrite 64 0).wf = false ∧
    (Instr.logDropClear 64 0).wf = false ∧
    (Instr.spmBankPwrWrite 64 0).wf = false := by
  decide

/-- A command with a bank out of its range is not well formed. -/
theorem test_wf_refuses_banks :
    (Instr.spmBankZeroDone 544).wf = false ∧
    (Instr.jglRefreshLimit 0 32).wf = false ∧
    (Instr.spmCeLimit 544).wf = false ∧
    (Instr.spmBankSpare 544).wf = false ∧
    (Instr.spmBankCleanWindow 544).wf = false ∧
    (Instr.sameBankRefresh 0 32 false).wf = false := by
  decide

/-- A command with a panel-link group out of its range is not well formed. -/
theorem test_wf_refuses_groups :
    (Instr.pxTrainRequest 32).wf = false ∧
    (Instr.pxTsRx 32 0 []).wf = false ∧
    (Instr.pxTrainTimeout 32).wf = false ∧
    (Instr.pxTrainDone 32).wf = false ∧
    (Instr.headroomRx 32 []).wf = false ∧
    (Instr.tempRx 32 []).wf = false ∧
    (Instr.crcreportRx 32 []).wf = false ∧
    (Instr.crcreportMissing 32).wf = false ∧
    (Instr.faultRx 32 []).wf = false ∧
    (Instr.tempStale 32).wf = false ∧
    (Instr.headroomStale 32).wf = false ∧
    (Instr.bcLockLost 32).wf = false ∧
    (Instr.bcRetrainTimeout 32).wf = false ∧
    (Instr.pxGroupSpare 32).wf = false ∧
    (Instr.pxGroupCleanWindow 32).wf = false ∧
    (Instr.backChannelLock 32).wf = false := by
  decide

/-- A command with a byte string out of its range is not well formed. -/
theorem test_wf_refuses_lengths :
    (Instr.pxTsRx 0 0 []).wf = false ∧
    (Instr.trzTsRx 0 []).wf = false ∧
    (Instr.trzHelloRx 0 [] 0 [] []).wf = false ∧
    (Instr.trzHelloRx 0 [] 0 [] []).wf = false ∧
    (Instr.trzProofRx 0 [] []).wf = false ∧
    (Instr.trzAuthRetry 0 []).wf = false := by
  decide

/-- A command with a mesh port out of its range is not well formed. -/
theorem test_wf_refuses_ports :
    (Instr.jglRowDisturb 0 16).wf = false ∧
    (Instr.jglRegCutEnd 12).wf = false ∧
    (Instr.trzTsRx 6 []).wf = false ∧
    (Instr.trzTrainTimeout 6).wf = false ∧
    (Instr.trzTrainDone 6 ⟨0, 0, 0, []⟩).wf = false ∧
    (Instr.trzFailedRetry 6).wf = false ∧
    (Instr.trzLaneWindow 6 0 0).wf = false ∧
    (Instr.trzLaneSpare 6 0 true).wf = false ∧
    (Instr.trzPortCleanWindow 6).wf = false ∧
    (Instr.trzAckRx 6 0 []).wf = false ∧
    (Instr.trzNakRx 6 0 []).wf = false ∧
    (Instr.trzCreditRx 6 0 0 []).wf = false ∧
    (Instr.trzCreditStall 6).wf = false ∧
    (Instr.trzSyncRx 6 [] 0 0).wf = false ∧
    (Instr.trzPdelaySend 6).wf = false ∧
    (Instr.trzPdelayReqRx 6 [] 0).wf = false ∧
    (Instr.trzPdelayRespRx 6 [] 0).wf = false ∧
    (Instr.trzHelloRx 6 [] 0 [] []).wf = false ∧
    (Instr.trzProofRx 6 [] []).wf = false ∧
    (Instr.trzAuthTimeout 6).wf = false ∧
    (Instr.trzAuthRetry 6 []).wf = false ∧
    (Instr.trzHaloFragmentRx 6 []).wf = false ∧
    (Instr.trzHaloCancelRx 6 [] 0).wf = false ∧
    (Instr.trzMgmtRx 6 [] (.completion 0 0 0)).wf = false ∧
    (Instr.trzDataRequestRx 6 [] 0 0 0 .refused).wf = false ∧
    (Instr.trzDataResponseRx 6 [] 0 .refused).wf = false ∧
    (Instr.trzUserMsgRx 6 [] 0 []).wf = false ∧
    (Instr.trzMsgAckRx 6 [] 0).wf = false ∧
    (Instr.trzForwardTimeout 6).wf = false ∧
    (Instr.meshLossOfLock 6).wf = false := by
  decide

/-- A command with a record out of its range is not well formed. -/
theorem test_wf_refuses_records :
    (Instr.nop (hdrOf (.mbox 8))).wf = false ∧
    (Instr.nop (hdrOf (.mesh 6 0 0))).wf = false ∧
    (Instr.nop (hdrOf (.mesh 0 16384 0))).wf = false ∧
    (Instr.bar4Access .ha 0 (.read 0) {}).wf = false ∧
    (Instr.bar4Access .ha 0 (.read 4097) {}).wf = false ∧
    (Instr.bar4Access .ha 0 (.write []) {}).wf = false ∧
    (Instr.bar2Access .ha 0 (.read 0) [] 0).wf = false ∧
    (Instr.frameTick ⟨false, false, false, [(32, 0)]⟩).wf = false ∧
    (Instr.lineDeparture ⟨false, 16, 0, [], [], [], [], []⟩).wf = false ∧
    (Instr.lineDeparture ⟨false, 0, 0, [], [(64, 0, 0)], [], [], []⟩).wf = false ∧
    (Instr.lineDeparture ⟨false, 0, 0, [], [], [], [(8, 0, 0, 0)], []⟩).wf = false ∧
    (Instr.lineDeparture ⟨false, 0, 0, [], [], [], [], [(0, 4)]⟩).wf = false ∧
    (Instr.thSample ⟨[(284, 0)], false⟩).wf = false ∧
    (Instr.trzTrainDone 0 ⟨16384, 0, 0, []⟩).wf = false ∧
    (Instr.trzTrainDone 0 ⟨0, 8, 0, []⟩).wf = false ∧
    (Instr.bootTrainDone ⟨0, [⟨24, false, false, 0, []⟩]⟩).wf = false ∧
    (Instr.bootTrainDone ⟨0, [⟨0, false, false, 5, []⟩]⟩).wf = false ∧
    (Instr.bootTrainDone ⟨0, [⟨0, false, false, 0, [4]⟩]⟩).wf = false ∧
    (Instr.bootCheckDone ⟨[544], []⟩).wf = false ∧
    (Instr.bootCheckDone ⟨[], [284]⟩).wf = false ∧
    (Instr.bootLoadDone ⟨0, false, 0, (some 16384), [], [], [], 0, [], 0, false, 0, false, false, [], [], [], []⟩).wf = false ∧
    (Instr.bootLoadDone ⟨0, false, 0, none, [(16384, 0)], [], [], 0, [], 0, false, 0, false, false, [], [], [], []⟩).wf = false ∧
    (Instr.bootLoadDone ⟨0, false, 0, none, [], [], [], 0, [(6, 0)], 0, false, 0, false, false, [], [], [], []⟩).wf = false ∧
    (Instr.bootLoadDone ⟨0, false, 0, none, [], [], [], 0, [], 0, false, 32, false, false, [], [], [], []⟩).wf = false ∧
    (Instr.bootLoadDone ⟨0, false, 0, none, [(0, 8)], [], [], 0, [], 0, false, 0, false, false, [], [], [], []⟩).wf = false ∧
    (Instr.mctpPacket ⟨0, false, false, false, 0, 8, []⟩).wf = false ∧
    (Instr.mctpPacket ⟨128, false, false, false, 0, 0, []⟩).wf = false ∧
    (Instr.mctpPacket ⟨0, false, false, false, 4, 0, []⟩).wf = false ∧
    (Instr.lifecycleChange ⟨[], [16]⟩).wf = false ∧
    (Instr.trzTrainDone 0 ⟨0, 0, 0, [16]⟩).wf = false ∧
    (Instr.spmBankCopyDone [16384]).wf = false ∧
    (Instr.jglRetrainDone false [4]).wf = false ∧
    (Instr.secureWipeDone [544]).wf = false ∧
    (Instr.fwBlock (hdrOf .fw) ⟨0, 0, 0, [], false⟩).wf = false ∧
    (Instr.calWrite (hdrOf .fw) ⟨0, [], false⟩).wf = false ∧
    (Instr.brkSourceEvent 288 false).wf = false ∧
    (Instr.brkSourceEvent 896 false).wf = false := by
  decide

/-- Byte strings that are too long are not well formed: an answer of 2^32 bytes, a management message of more than
4,128, a factory record of more than 128. -/
theorem test_wf_refuses_long_bytes (b : List Byte) (m : 2 ^ 32 ≤ b.length) :
    (Instr.waveformCheckDone (.data b)).wf = false ∧ (Instr.trzMgmtRx 0 [] (.command 0 b)).wf = false ∧
    (Instr.bar4Access .ha 0 (.write b) {}).wf = false ∧
    (Instr.bootLoadDone ⟨0, false, 0, none, [], [], [], 0, [], 0, false, 0, false, false, b, [], [], []⟩).wf = false := by
  refine ⟨?_, ?_, ?_, ?_⟩ <;> simp only [Instr.wf, HostAns.wf, MgmtMsg.wf, Access.wf, ConfigItems.wf] <;> simp <;> omega

/-! ### The machine as a whole -/

/-- The machine may be idle, a well-formed command may wait, and the memories may be in canonical form: the hypotheses of
IdleStepAndQueue, WellFormedCommandsRun and MemoriesStayCanonical. -/
theorem test_machine_met :
    ready.pending = [] ∧ goes (.nop sqHdr) ready = true ∧ (Instr.nop sqHdr).wf = true ∧
    MemoriesWf ready ∧ step ready = .next (clockRun 1 ready) := by
  refine ⟨rfl, ?_, ?_, ?_, rfl⟩ <;> (try unfold MemoriesWf) <;> decide +kernel

/-- Packets that are written and read back (PacketsReadBack), with a generation where the command takes one, and packets
that each check of R333 refuses (PacketChecksInOrder). -/
theorem test_packets_met :
    packetWf (.fence ⟨255, false⟩) = true ∧ sqHdr.gen = 0 ∧ packetWf (.unitSet ⟨0, 4, 23, 1, false⟩) = true ∧
    takesGen (opcodeOf (.unitSet ⟨0, 4, 23, 1, false⟩)) = true ∧
    opLength (parseHead [0x7F]).opcode.toNat = none ∧
    opLength (parseHead [1, 0, 5]).opcode.toNat = some 4 ∧ (parseHead [1, 0, 5]).length ≠ 4 ∧
    opLength (parseHead [1, 0x80, 4]).opcode.toNat = some (parseHead [1, 0x80, 4]).length ∧
    8 ≤ (parseHead [1, 0x80, 4]).flags.toNat := by
  decide +kernel

/-! ### Host windows, completions, queues and ports -/

/-- Accesses that the host windows take (HostWindows): the BAR4 base of either port, the last byte of DRAM, a BAR0
access that is too short and one that is not aligned. -/
theorem test_hostWindows_met :
    (Quiet ready ∧ PortOpen .ha 0x24 ready ∧ PortOpen .hb 0x28 ready ∧
      dramInside ready ((portOf ready .ha).bar4.toNat + (2 ^ 36 - 1)) 1 = true) ∧ (3 ≠ 4) ∧ (2 % 4 ≠ 0) ∧
    dramInside ready (2 ^ 36 - 2) 2 = true ∧ (flits 0 64 ≠ 0 ∧ regIssues (portMaster .ha) (flits 0 64) ready = true) ∧
    regIssues (portMaster .ha) (flits 0 64)
      { ready with jgl := { ready.jgl with regs := [(0, ⟨0, 4096, 0, false, 0⟩)] } } = false := by
  unfold Quiet PortOpen RegOpen; decide +kernel

/-- Completion queue 0 ACTIVE for port HA, with `k` entries written and none taken. -/
def withCq (k : Nat) (st : CqState) : State :=
  modCq 0 (fun c => { c with state := st, tail := k, phase := true })
    { ready with hq := { ready.hq with ha := { ready.hq.ha with linkUp := true, busMaster := true } } }

/-- A final entry that is written, at the last entry of the ring, and entries dropped because the ring is full and because
the queue is, or was, DISABLED (CompletionEntries). -/
theorem test_completionEntries_met :
    sqHdr.src = .sq 0 ∧ quieted sqHdr .ok false = false ∧ discardedTo sqHdr (withCq 15 .active) = none ∧
    discardedTo sqHdr (withCq 0 .disabled) = none ∧
    discardedTo sqHdr { ready with hq := { ready.hq with inflight := [⟨0, sqHdr, 1, some 3⟩] } } = some 3 ∧
    ((cqOf (withCq 15 .active) (sqCq (withCq 15 .active) 0)).state = .active ∧
      portHolds (portOf (withCq 15 .active) (cqOf (withCq 15 .active) 0).owner) = false ∧
      cqFull (cqOf (modCq 0 (fun c => { c with head := 8 }) (withCq 15 .active)) 0) = false ∧
      cqFull (cqOf (withCq 15 .active) 0) = true) ∧
    (cqOf (withCq 0 .disabled) (sqCq (withCq 0 .disabled) 0)).state = .disabled := by
  decide +kernel

/-- A FENCE by the header that stands for tag 1, outstanding on command 0, which is in flight. -/
def fenced : State := { ready with hq := { ready.hq with
  inflight := [⟨0, sqHdr, 1, none⟩], nextId := 1, fences := [⟨{ sqHdr with tag := 1 }, [0], 1⟩] } }

/-- A NOP and FENCEs that start, of a scope out of range, with nothing to wait for and with a command in flight; a FENCE
that waits and one whose commands have completed (FencesWait). -/
theorem test_fencesWait_met :
    Starts sqHdr .nop ready ∧ Starts sqHdr (.fence ⟨3, false⟩) ready ∧ Starts sqHdr (.fence ⟨2, false⟩) ready ∧
    (Starts { sqHdr with tag := 1 } (.fence ⟨0, false⟩) { fenced with hq := { fenced.hq with fences := [] } } ∧
      (fenced.hq.inflight.filter fun f => decide (f.id < fenced.hq.nextId) &&
        inScope fenced (.sq 0) f.hdr.src 0).map (·.id) ≠ []) ∧
    (fenced.hq.held = [] ∧ fenced.rm.resetAfterDown = none ∧ (∃ x ∈ fenced.hq.inflight, x.id ∈ [0])) ∧
    (∀ x ∈ ([] : List InFlight), x.id ∉ [0]) := by
  (repeat' apply And.intro) <;> decide +kernel

/-- Submission queue 0 in a state, with `t` dwords in its ring, on an ACTIVE completion queue 0. -/
def withSq (t : Nat) (st : SqState) : State :=
  modSq 0 (fun x => { x with state := st, tail := t }) (withCq 0 .active)

/-- Doorbells that set a tail and a head, at the last value within the ring, and ones that are refused: at the ring's size,
of a queue that is not ACTIVE, and of a head past the tail (QueueDoorbells). -/
theorem test_doorbells_met :
    let s := withSq 4 .active;
    (Quiet s ∧ PortOpen .ha 0x10000 s ∧ PortOpen .ha 0x10004 s ∧ isReady s = true) ∧
    ((sqOf s 0).state = .active ∧ (sqOf s 0).owner = .ha ∧ fld (1023#32) 17 0 < sqSize (sqOf s 0)) ∧
    sqSize (sqOf s 0) ≤ fld (1024#32) 17 0 ∧ (sqOf s 1).state ≠ .active ∧
    (let c := cqOf (withCq 15 .active) 0;
      (fld (15#32) 15 0 < cqSize c ∧ (15 + cqSize c - c.head) % cqSize c ≤ (c.tail + cqSize c - c.head) % cqSize c) ∧
      ¬ fld (16#32) 15 0 < cqSize c) := by
  unfold Quiet PortOpen RegOpen; decide +kernel

/-- A NOP fetched from submission queue 0, and packets too short, past the tail, and of another QSEQ (PacketsAreFetched). -/
theorem test_fetch_met :
    let s := withSq 4 .active;
    let bytes := packetBytes sqHdr .nop;
    (Quiet s ∧ fetchTurn s = some 0 ∧ (4 ≤ (parseHead bytes).length ∧ (parseHead bytes).length ≤ 4096 ∧
        (parseHead bytes).length ≤ sqDist (sqOf s 0) (sqOf s 0).tail) ∧
      (parseHead (fit (4 * (parseHead bytes).length) bytes)).qseq.toNat = (sqOf s 0).expect ∧
      packetCheck (fit (4 * (parseHead bytes).length) bytes) = .ok .nop ∧ remoteId (sqOf s 0) = none ∧
      lacksRoom (headHdr (.sq 0) (parseHead bytes)) .nop s = false ∧ (sqOf s 0).state = .active) ∧
    (parseHead [1, 0, 3]).length < 4 ∧
    (let b := packetBytes sqHdr (.fence ⟨0, false⟩);
      sqDist (sqOf s 0) (sqOf s 0).tail < (parseHead b).length) ∧
    (let b := packetBytes { sqHdr with qseq := 1 } .nop;
      (parseHead b).length = 4 ∧ (parseHead (fit 16 b)).qseq.toNat ≠ (sqOf s 0).expect) := by
  unfold Quiet; decide +kernel

/-- Queues in each state that the host's enables, resets and adoptions meet (QueueStates, QueuesBelongToPorts). -/
theorem test_queueStates_met :
    (Quiet (withSq 0 .disabled) ∧ PortOpen .ha 0x54 (withSq 0 .disabled) ∧ PortOpen .hb 0x6C (withSq 0 .disabled) ∧
      isReady (withSq 0 .disabled) = true ∧ (withSq 0 .disabled).hq.qSel = 0) ∧
    ((sqOf (withSq 0 .disabled) 0).state = .disabled ∧ sqValid (withSq 0 .disabled) .ha 0 = true ∧
      sqValid (withSq 0 .disabled) .hb 0 = false) ∧
    ((sqOf (withSq 4 .active) 0).state = .active ∧ (sqOf (withSq 4 .active) 0).owner = .ha) ∧
    ((sqOf (withSq 4 .draining) 0).state = .draining ∧ sqInflight (withSq 4 .draining) 0 = 0) ∧
    ((cqOf ready 0).state = .disabled ∧ fld (cqOf ready 0).cfg 4 0 = 4 ∧
      fld (cqOf (modCq 0 (fun c => { c with cfg := 16 }) ready) 0).cfg 4 0 = 16) ∧
    ((cqOf (withCq 0 .active) 0).state = .active ∧ (cqOf (withCq 0 .active) 0).owner = .ha) ∧
    ((cqOf (withCq 0 .active) 0).owner ≠ .hb ∧ (sqOf (withSq 4 .draining) 0).owner ≠ .hb ∧
      PortOpen .hb 0x6C (withCq 0 .active) ∧ PortOpen .hb 0x54 (withSq 4 .draining)) ∧
    ((cqOf (withCq 0 .orphaned) 0).state = .orphaned ∧ (cqOf (withCq 0 .orphaned) 0).owner ≠ .hb) ∧
    (let s := modCq 0 (fun c => { c with owner := .hb }) (withSq 0 .orphaned);
      (sqOf s 0).state = .orphaned ∧ (sqOf s 0).owner ≠ .hb ∧ (cqOf s (sqCq s 0)).state = .active ∧
        (cqOf s (sqCq s 0)).owner = .hb) := by
  unfold Quiet PortOpen RegOpen; decide +kernel

/-- An entry whose interrupt is due on vector 0, unmasked, and the last VEC_IDLE register of either port
(QueuesBelongToPorts). -/
theorem test_interrupts_met :
    (let s := modPort .ha (fun h => { h with msix := [(0, 1)] }) (modCq 0 (fun c => { c with unsignalled := 1 }) (withCq 1 .active));
      Quiet s ∧ (cqOf s 0).state = .active ∧ portHolds (portOf s (cqOf s 0).owner) = false ∧ (cqOf s 0).unsignalled ≠ 0 ∧
        msixMasked (portOf s (cqOf s 0).owner) (fld (cqOf s 0).cfg 26 16) = false) ∧
    PortOpen .ha (0x20000 + 4 * 63) ready ∧ PortOpen .hb (0x20100 + 4 * 63) ready := by
  unfold Quiet PortOpen RegOpen; decide +kernel

/-- Ports that lose and regain their links, and their power states (PortsChange). -/
theorem test_ports_met :
    (Quiet ready ∧ ready.hq.hbMode = false) ∧
    (let s : State := { ready with hq := { ready.hq with hbMode := true, ha := { ready.hq.ha with failover := true, linkUp := true, d3hot := true } } };
      Quiet s ∧ s.hq.hbMode = true ∧ (portOf s .ha).failover = true ∧ (portOf s .ha).linkUp = true ∧
        (portOf s .ha).d3hot = true) := by
  unfold Quiet; decide +kernel

/-! ### Scenes, frames, layers, timing -/

/-- A frame with nothing in it, `id` 0, in a state and from an origin. -/
def frameOf (st : FState) (o : FOrigin) : Frame :=
  ⟨0, o, st, 0, 0, 0, 0, (0, 0), 0, none, [], [], [], none, 0, 0, 0, false, false, 0, [], true, false⟩

/-- A timing: mode 0, a grid of 1024 by 512 hogels, 60 Hz. -/
def timing60 : Timing := ⟨0, 1024, 512, 60, 1⟩

/-- The first 252 bytes of a scene package without frames at 60 Hz, and its header with the CRC behind them. -/
def pkgBytes : List Byte :=
  let b := fit 252 ([0x4D, 0x4C, 0x50, 0x4B, 0, 1, 0, 1, 0, 4, 0, 2, 0, 0, 1, 0, 0, 0, 1, 0] ++ leBytes 4 0 ++ leBytes 4 60 ++
    leBytes 4 1 ++ leBytes 8 256 ++ leBytes 8 256)
  b ++ leBytes 4 390930978

/-- Scene slot 0 in a state, with the package at the start of the show store, and 2 GiB of show store. -/
def withSlot (x : SceneSlot) : State := { ready with
  scene := { ready.scene with slots := [(0, { x with gib := 1, length := 256 })], storeSize := 2 }
  jgl := { ready.jgl with mem := memWrite 0 [] (2 ^ 33) pkgBytes } }

/-- Parameters of SCENE_LOAD for slot 0. -/
def slP (flags : W16) (a : W64) : SceneLoadP := ⟨0, flags, a, 0, 64⟩

set_option maxRecDepth 20000 in
/-- OPEN of an EMPTY slot, one with REPLACE of a READY one, and one with no run large enough; DATA within and past the
package; CLOSE, its end with a package that checks and one that does not; FREE on a slot that plays, that does not play,
and that is verified (ScenesLoad). -/
theorem test_scenesLoad_met :
    let e : State := { withSlot {} with scene := { (withSlot {}).scene with slots := [] } };
    let l := withSlot { state := .loading };
    let v := withSlot { state := .verifying, closing := some sqHdr };
    let r := withSlot { state := .ready };
    let p : State := { r with scene := { r.scene with player := { state := .playing } } };
    (Starts sqHdr (.sceneLoadOpen (slP 0 256)) e ∧ (slotOf e 0).state = .empty ∧ loadingCount (slotRelease 0 e) < 64 ∧
      (storeRuns (slotRelease 0 e)).find? (fun r => decide ((256 + gib - 1) / gib ≤ r.2)) = some (0, 2)) ∧
    (Starts sqHdr (.sceneLoadOpen (slP 1 256)) r ∧ (slotOf r 0).state = .ready ∧ slotPlaying r 0 = false) ∧
    (Starts sqHdr (.sceneLoadOpen (slP 0 (2 ^ 33))) e ∧
      (storeRuns (slotRelease 0 e)).find? (fun r => decide ((2 ^ 33 + gib - 1) / gib ≤ r.2)) = none) ∧
    (Starts sqHdr (.sceneLoadData (slP 0 192) (.data [1])) l ∧ (slotOf l 0).state = .loading ∧
      (slotOf l 0).lostMark = none ∧ 192 + 64 ≤ (slotOf l 0).length ∧
      trnCheck l 0 (srcMaster l (.sq 0)) .w (slotAddr (slotOf l 0) + 192) 64 = .pass ∧
      regIssues (jglPortOf l (.sq 0)) (flits (slotAddr (slotOf l 0) + 192) 64) l = true) ∧
    (Starts sqHdr (.sceneLoadData (slP 0 256) (.data [1])) l ∧ (slotOf l 0).length < 256 + 64) ∧
    Starts sqHdr (.sceneLoadClose (slP 0 0)) l ∧
    (Quiet v ∧ (slotOf v 0).state = .verifying ∧ (slotOf v 0).closing = some sqHdr ∧
      (∃ l ∈ [2 ^ 27], slotAddr (slotOf v 0) < 64 * l + 64 ∧ 64 * l < slotAddr (slotOf v 0) + (slotOf v 0).length) ∧
      dramPoisoned v (slotAddr (slotOf v 0)) (slotOf v 0).length = false ∧
      pkgCheck (pkgReader v (slotOf v 0)) (dramReader v) (handleAt v) (slotOf v 0).length = none) ∧
    (let w : State := { v with jgl := { v.jgl with mem := [] } };
      pkgCheck (pkgReader w (slotOf w 0)) (dramReader w) (handleAt w) (slotOf w 0).length =
        some (.integrity, failDetail noFrame 0xFF 0 0)) ∧
    (Starts sqHdr (.sceneLoadFree (slP 0 0)) r ∧ (slotOf r 0).state ≠ .verifying) ∧
    (Starts sqHdr (.sceneLoadFree (slP 0 0)) p ∧ slotPlaying p 0 = true) ∧
    Starts sqHdr (.sceneLoadFree (slP 0 0)) v := by
  (repeat' apply And.intro) <;> decide +kernel

/-- The panel ON under the 60 Hz timing, with slot 0 READY. -/
def onState : State :=
  let s := withSlot { state := .ready, frames := 8, hdr := some (parseHdr pkgBytes) };
  { s with pwr := { s.pwr with state := .on }, scn := { s.scn with state := .run, inForce := some timing60 } }

/-- The same with the player playing slot 0. -/
def playing : State := { onState with scene := { onState.scene with player := { state := .playing } } }

set_option maxRecDepth 20000 in
/-- SCENE_PLAY of a READY slot, with the panel off, and of a slot that is not READY; SCENE_STOP of the slot that plays and
of another; SCENE_SEEK with the panel ON and not; a frame that is due (ScenesPlay). -/
theorem test_scenesPlay_met :
    let p : ScenePlayP := ⟨0, 3, 7, 0, false⟩;
    (Starts sqHdr (.scenePlay p) onState ∧ onState.pwr.state = .on ∧ streamPending onState = false ∧
      onState.scene.player.state = .idle ∧ onState.scene.player.seeking = none ∧ (slotOf onState 0).state = .ready ∧
      timeOk p.time = true ∧ p.frame.toNat < (slotOf onState 0).frames ∧ pkgPlayable onState (slotHdr onState 0) = true) ∧
    (Starts sqHdr (.scenePlay p) (withSlot {}) ∧ (withSlot {}).pwr.state ≠ .on) ∧
    (Starts sqHdr (.scenePlay { p with slot := 63 }) onState ∧ (slotOf onState 63).state ≠ .ready ∧
      (slotOf onState 63).state ≠ .degraded) ∧
    (let d : State := { onState with scene := { onState.scene with slots :=
        [(0, { state := .degraded, gib := 1, length := 256, lost := some (64, 256) })] } };
      Starts sqHdr (.scenePlay p) d ∧ d.pwr.state = .on ∧ streamPending d = false ∧ d.scene.player.state = .idle ∧
        (slotOf d 0).state = .degraded ∧ (slotOf d 0).lost = some (64, 256)) ∧
    (Starts sqHdr (.sceneStop ⟨0, 1, false⟩) playing ∧ slotPlaying playing 0 = true) ∧
    (Starts sqHdr (.sceneStop ⟨1, 0, false⟩) playing ∧ slotPlaying playing 1 = false) ∧
    (Starts sqHdr (.sceneSeek { p with flags := 2 }) playing ∧ bitOf (2#8) 0 = false ∧
      playing.scene.player.seeking = none ∧ 7 < (slotOf playing 0).frames) ∧
    Starts sqHdr (.sceneSeek { p with flags := 2 }) ready ∧
    (Quiet playing ∧ playing.scene.player.state = .playing ∧ playing.scn.exitCause = none ∧ playing.scn.state = .run ∧
      playing.scn.inExtension = false) := by
  (repeat' apply And.intro) <;> decide +kernel

/-- A FRAME_SUBMIT that takes the last byte of a staging slot and one with the panel off; a frame that lands without a
target and within its bounds (FramesStream). -/
theorem test_framesStream_met :
    let p : FrameSubmitP := ⟨0, BitVec.ofNat 32 stagingSize, 1, 0, false⟩;
    let f : Frame := { frameOf .landing (.stream sqHdr 0) with
      entryAddr := stagingAddr 0, block := stagingAddr 0 + 32, room := 96 };
    let s : State := { onState with scene := { onState.scene with frames := [f] } };
    let bs : List Byte := leBytes 8 32 ++ leBytes 4 64;
    (Starts sqHdr (.frameSubmit p) onState ∧ p.recLength.toNat ≤ stagingSize ∧ timeOk p.target = true ∧
      onState.pwr.state = .on ∧ onState.scene.player.state ≠ .armed ∧ onState.scene.player.state ≠ .playing ∧
      freeStaging onState = some 0) ∧
    (Starts sqHdr (.frameSubmit p) ready ∧ ready.pwr.state ≠ .on) ∧
    (Quiet s ∧ s.scene.frames.find? (fun f => f.state == .landing &&
        (match f.origin with | .stream _ j => j == 0 | _ => false)) = some f ∧
      trnCheck s 0 (srcMaster s sqHdr.src) .w (stagingAddr 0) f.room = .pass ∧ f.target = none ∧
      (let n := flits (stagingAddr 0) f.room;
        regIssues (jglPortOf s sqHdr.src) n s = true ∧
        frameBounds (frameCtx false (dramStore (jglPortOf s sqHdr.src) (stagingAddr 0) (fit f.room bs)
          (regDrain (jglPortOf s sqHdr.src) n s)) f) = none)) := by
  (repeat' apply And.intro) <;> decide +kernel

/-- A registered surface, its handle and its header in DRAM. -/
def withSurface : State := { ready with
  hq := { ready.hq with surfaces := [(0, ⟨4096, 4096, 64, none⟩)] }
  jgl := { ready.jgl with mem := memWrite 0 [] 4096 (
    let b := fit 60 ([0, 0] ++ leBytes 2 1 ++ leBytes 2 1 ++ leBytes 2 1 ++ leBytes 2 1 ++ leBytes 2 0 ++ leBytes 4 64 ++ leBytes 4 1);
    b ++ leBytes 4 (crc32c b).toNat) } }

/-- COMMITs at once, at a time and at no time; LAYER_SETs of a slot above 7, that release, disable and show, one of a
surface whose header fails a check and one of a handle that is not known (CommitsAndLayersWait). -/
theorem test_commits_met :
    let h : LayerSetP := ⟨7, 1, 1024, 0, 0, 64, false⟩;
    (Starts sqHdr (.commit ⟨0, 0, false⟩) ready ∧ bitOf (0#8) 0 = false) ∧
    (Starts sqHdr (.commit ⟨1, 0, false⟩) ready ∧ timeOk 0 = true ∧ ready.scn.state = .stopped) ∧
    timeOk (put 1000000000 16) = false ∧
    Starts sqHdr (.layerSet { h with slot := 8 }) withSurface ∧
    (Starts sqHdr (.layerSet { h with flags := 2 }) withSurface ∧ (∀ l ∈ withSurface.clr.layers, l.slot ≠ 7)) ∧
    Starts sqHdr (.layerSet { h with flags := 0 }) withSurface ∧
    (Starts sqHdr (.layerSet h) withSurface ∧ sext 16 h.disparity.toNat = 1024 ∧ handleIndex withSurface 64 = some 0 ∧
      (match layerSurf withSurface 0 with | some (_, none) => true | _ => false) = true) ∧
    (let z : State := { withSurface with jgl := { withSurface.jgl with mem := memWrite 0 withSurface.jgl.mem 4159 [0] } };
      Starts sqHdr (.layerSet h) z ∧ handleIndex z 64 = some 0 ∧
        (match layerSurf z 0 with | some (_, some _) => true | _ => false) = true) ∧
    handleIndex withSurface 65 = none := by
  (repeat' apply And.intro) <;> decide +kernel

/-- TIMING_SETs out of the range of each clause, at its boundary (TimingOutOfRangeIsRefused), and within range: with the
player busy, equal to the timing in force, on a STOPPED raster, and of the rate alone (TimingIsSet). -/
theorem test_timing_met :
    let p : TimingSetP := ⟨0, 0, 1024, 512, 60, 1, 0, false⟩;
    let st : State := { ready with scn := { ready.scn with timing := some timing60 } };
    (Starts sqHdr (.timingSet { p with hx := 4097 }) ready ∧ 4096 < (4097#16).toNat) ∧
    (Starts sqHdr (.timingSet { p with hy := 2161 }) ready ∧ 2160 < (2161#16).toNat) ∧
    (Starts sqHdr (.timingSet { p with rateNum := 23 }) ready ∧ ¬ 24 ≤ (23#32).toNat) ∧
    (rayBudget * 1 < 4096 * 2160 * (modeUV 0).1 * (modeUV 0).2 * 240) ∧
    timingOk false (timingOf p) = true ∧
    (Starts sqHdr (.timingSet p) playing ∧ playing.scene.player.state ≠ .idle) ∧
    (Starts sqHdr (.timingSet p) onState ∧ curTiming onState = some (timingOf p)) ∧
    (Starts sqHdr (.timingSet p) ready ∧ ready.scene.player.state = .idle ∧ curTiming ready ≠ some (timingOf p) ∧
      ready.scn.state = .stopped) ∧
    (Starts sqHdr (.timingSet { p with rateNum := 50 }) onState ∧
      curTiming onState ≠ some (timingOf { p with rateNum := 50 }) ∧ onState.scn.state ≠ .stopped ∧
      timingSeamless onState (timingOf { p with rateNum := 50 }) = true ∧
      timingOk false (timingOf { p with rateNum := 50 }) = true) := by
  (repeat' apply And.intro) <;> decide +kernel

/-! ### Regions, waveforms, the Sideshow, watermarks -/

/-- An update request of one region, entered and expired after one tick. -/
def oneRegion : RegionReq :=
  ⟨.host sqHdr, 0, 0, 1, 1, .clear, false, 1, true, 1, 0, 0, false, false⟩

/-- UPDATE_REGIONs of a region, with the Carousel enabled, not enabled and without a free slot, and a request that has
timed out in its queue (RegionRequests). -/
theorem test_regions_met :
    let p : UpdateRegionP := ⟨0, 0, 1, 1, 1, 1, 1, false⟩;
    let off : State := { onState with crsl := { onState.crsl with ctrl := Rws.of 0x20 } };
    let full : State := { onState with crsl := { onState.crsl with reqs := (List.range 15).map fun k => (k, oneRegion) } };
    let q : State := { onState with crsl := { onState.crsl with
      reqs := [(0, oneRegion)], regions := [(0, { state := .idle, queued := some (.clear, 0) })] } };
    (Starts sqHdr (.updateRegion p) onState ∧ curTiming onState = some timing60 ∧
      p.rx.toNat + p.w.toNat ≤ regionsX timing60.hx ∧ p.ry.toNat + p.h.toNat ≤ regionsY timing60.hy ∧
      crslEn onState = true ∧ freeReqSlot onState = some 0) ∧
    (Starts sqHdr (.updateRegion p) off ∧ crslEn off = false) ∧
    (Starts sqHdr (.updateRegion p) full ∧ crslEn full = true ∧ freeReqSlot full = none) ∧
    (Quiet q ∧ lkp q.crsl.reqs 0 = some oneRegion ∧ reqExpired oneRegion = true ∧ oneRegion.entered = true ∧
      (regionOf q 0).queued = some (.clear, 0)) := by
  (repeat' apply And.intro) <;> decide +kernel

/-- WAVEFORM_LOADs of another length, of the image's length with and without one pending, an image that fails, and a copy
to rewrite (WaveformIsLoaded). -/
theorem test_waveform_met :
    let p : WaveformLoadP := ⟨64, BitVec.ofNat 32 imageLen, false⟩;
    let s : State := { ready with crsl := { ready.crsl with loading := some sqHdr, rewrite := [2] } };
    (Starts sqHdr (.waveformLoad { p with length := 1 }) ready ∧ (1#32).toNat ≠ imageLen) ∧
    (Starts sqHdr (.waveformLoad p) ready ∧ p.length.toNat = imageLen ∧ p.hostAddr.toNat % 64 = 0 ∧
      ready.crsl.loading = none ∧ ready.crsl.loaded = none) ∧
    (Starts sqHdr (.waveformLoad p) s ∧ s.crsl.loading.isSome = true) ∧
    (Quiet s ∧ s.crsl.loading = some sqHdr ∧ imageBad (0 :: List.replicate (imageLen - 1) 0) = some 0) ∧
    (s.crsl.rewrite.contains 2 = true ∧ s.crsl.activeCopy < 3) := by
  (repeat' apply And.intro) <;> decide +kernel

/-- Parameters of a fill of 8-byte elements, 33 wide and 1 high, on channel `c`. -/
def blitP (c : Byte) (flags : Byte) : BlitP := ⟨c, flags, 0, 3, 0x55, 0, 0x1000, 512, 0, 0, 0, 0, 33, 1, 0, 0, false⟩

/-- Channel 2 in a state with the fill, and nothing else waiting. -/
def withBlit (st : ChState) (b : Blit) : State := modCh 2 (fun x => { x with state := st, fifo := [b] }) ready

/-- Sideshow commands that start at once and that wait ARMED, one for a channel of firmware's, one with the Sideshow off,
a staged copy whose reads pass, and one to abort (BlitsWaitAndStage). -/
theorem test_blits_met :
    let f := blitP 2 0;
    let c : BlitP := { blitP 2 0 with srcFmt := 3, src := 0x1008, srcPitch := 1024 };
    let off : State := { ready with shw := { ready.shw with ctrl := 0 } };
    let st := modCh 2 (fun x => { x with area := some 0 }) (withBlit .staging (blitOf .copy sqHdr c ready));
    let ab : State := { withBlit .running (blitOf .fill sqHdr f ready) with
      shw := { (withBlit .running (blitOf .fill sqHdr f ready)).shw with chSel := 2 } };
    (Starts sqHdr (.blitFill f) ready ∧ blitRefusal .fill sqHdr f ready = none ∧
      (∀ k, k < 8 → (chanShw ready k).state ≠ .waiting ∧ ((chanShw ready k).state = .idle → (chanShw ready k).fifo = [])) ∧ (chanShw ready 2).state = .idle ∧
      (blitOf .fill sqHdr f ready).empty = false ∧ bitOf f.flags 2 = false ∧ staged (blitOf .fill sqHdr f ready) = false) ∧
    (Starts sqHdr (.blitFill (blitP 7 4)) ready ∧ blitRefusal .fill sqHdr (blitP 7 4) ready = none ∧
      bitOf (blitP 7 4).flags 2 = true) ∧
    (Starts sqHdr (.blitCopy (blitP 1 0)) ready ∧ sqHdr.src ≠ .fw ∧ (blitP 1 0).chan.toNat < 2) ∧
    (Starts sqHdr (.blitConvert f) off ∧ bitOf off.shw.ctrl 0 = false) ∧
    (Quiet st ∧ (chanShw st 2).state = .staging ∧ (chanShw st 2).fifo = [blitOf .copy sqHdr c ready] ∧
      (chanShw st 2).area = some 0 ∧ regIssues 8 (33 * 1 * 8 / 64 * 2 + 1) st = true ∧
      (stageReads 2 0 (blitOf .copy sqHdr c ready) ((List.range 1).flatMap fun y =>
        (List.range (rowBursts (blitOf .copy sqHdr c ready))).map fun j => (y, j)) [] .clean
        (regDrain 8 (33 * 1 * 8 / 64 * 2 + 1) st)).1 = none) ∧
    (RegOpen 0 0x1600024 true ab ∧ 2 ≤ ab.shw.chSel ∧ (chanShw ab 2).state ≠ .idle ∧
      (chanShw ab 2).fifo = [blitOf .fill sqHdr f ready] ∧
      (∀ k, k < 8 → k ≠ 2 → (chanShw ab k).state ≠ .waiting ∧ ((chanShw ab k).state = .idle → (chanShw ab k).fifo = []))) ∧
    RegOpen 0 0x1600004 true ready := by
  (repeat' apply And.intro) <;> (try unfold RegOpen) <;> decide +kernel

/-- The first of the two bursts of a fill's row (FillBurstIsWritten). -/
theorem test_fillBurst_met :
    let b := blitOf .fill sqHdr (blitP 2 0) ready;
    let s := withBlit .running b;
    Quiet s ∧ (chanShw s 2).state = .running ∧ (chanShw s 2).fifo = [b] ∧ b.kind = .fill ∧ dstSpm b = false ∧
    (∀ k, k < 8 → (chanShw s k).state ≠ .waiting ∧ ((chanShw s k).state = .idle → (chanShw s k).fifo = [])) ∧ (chanShw s 2).burst + 1 < rowBursts b ∧
    (chanShw s 2).rows < b.p.height.toNat ∧ burstSpan b (chanShw s 2).burst = (0, 32) ∧
    burstTurn 2 (deadPass 2 s) = true ∧ regIssues 8 (flits (dstAt b.p 0 0) 256) (deadPass 2 s) = true ∧
    trnCheck s 0 b.master .w (dstAt b.p 0 0) 256 = .pass ∧ dramInside s (dstAt b.p 0 0) 256 = true := by
  (repeat' apply And.intro) <;> decide +kernel

/-- An enabled watermark at the last line of the raster, in a tick that runs and in one that an underrun has ended
(WatermarkFires). -/
theorem test_watermark_met :
    let s : State := { onState with scn := { onState.scn with wm := [(7, put (linesVt timing60 - 1) 0 ||| put 1 31)] } };
    let a : State := { s with scn := { s.scn with state := .aborted } };
    Quiet s ∧ s.scn.inForce = some timing60 ∧ bitOf (wmOf s 7) 31 = true ∧ fld (wmOf s 7) 16 0 < linesVt timing60 ∧
    s.scn.wmDone.contains 7 = false ∧ s.scn.state = .run ∧ wmReached timing60 (wmOf s 7) s = false ∧
    (let r : State := { s with scn := { s.scn with wm := [(7, put 300 0 ||| put 1 31)], line := 300 } };
      r.scn.state = .run ∧ wmReached timing60 (wmOf r 7) r = true ∧ bitOf (wmOf r 7) 18 = false) ∧
    a.scn.state = .aborted ∧ a.scn.line ≤ fld (wmOf a 7) 16 0 := by
  (repeat' apply And.intro) <;> decide +kernel

/-! ### The Contortionist -/

/-- A job of 64 bytes at 0x1000 on context 63. -/
def jobP (coder flags : Byte) : CtnJobP := ⟨63, coder, 0, flags, 0x1000, 64, 0x2000, 1, false⟩

/-- Context 63 in a state, decoding a lossless stream of `n` bytes from 0x1000. -/
def withCtx (st : CtxState) (n : Nat) (flags : Byte) : State := { ready with ctn := { ready.ctn with
  ctxs := [(63, { state := st, coder := 1, dir := true, srcNext := 0x1000, srcLeft := n, job := some (sqHdr, jobP 1 flags, 0) })] } }

/-- Jobs that start a stream, go on with a SUSPENDED one, find the context RUNNING, and have no stream; running jobs whose
source is refused, poisoned, without a right header, and shorter than the header (CoderJobs). -/
theorem test_coderJobs_met :
    let susp := withCtx .suspended 8 1;
    let run := withCtx .running 8 1;
    let no : State := { run with trn := State.reset.trn };
    let poison : State := { run with jgl := { run.jgl with poisoned := [0x40] } };
    (Starts sqHdr (.ctnDecode (jobP 1 1)) ready ∧ bitOf ready.ctn.ctrl 0 = true ∧ jobRangeBad ready (jobP 1 1) = false ∧
      jobParamBad true (jobP 1 1) = false ∧ jobParamBad false (jobP 1 1) = false ∧ (ctxOf ready 63).state ≠ .running ∧
      jobFirst (jobP 1 1) = true ∧ jobResume (jobP 1 1) = false) ∧
    (Starts sqHdr (.ctnEncode (jobP 1 1)) run ∧ (ctxOf run 63).state = .running) ∧
    (Starts sqHdr (.ctnEncode (jobP 1 0)) ready ∧ jobFirst (jobP 1 0) = false ∧ (ctxOf ready 63).state = .idle) ∧
    (Starts sqHdr (.ctnDecode (jobP 1 8)) ready ∧ jobResume (jobP 1 8) = true ∧ (ctxOf ready 63).state ≠ .suspended) ∧
    (Starts sqHdr (.ctnDecode (jobP 1 8)) susp ∧ jobFirst (jobP 1 8) = false ∧ (ctxOf susp 63).state = .suspended ∧
      (ctxOf susp 63).dir = true) ∧
    (Quiet no ∧ (ctxOf no 63).job = some (sqHdr, jobP 1 1, 0) ∧ regIssues 9 (flits 0x1000 8 + 1) no = true ∧ jobSrcSpm (jobP 1 1) = false ∧
      trnCheck no 0 0 .r 0x1000 8 = .refused 0x1000 (some 255) false) ∧
    (trnCheck run 0 0 .r 0x1000 8 = .pass ∧ dramInside run 0x1000 8 = true ∧
      dramPoisoned run 0x1000 8 = false ∧ dramPoisoned poison 0x1000 8 = true) ∧
    ((ctxOf run 63).coder = 1 ∧ (ctxOf run 63).headerDone = false ∧ 8 ≤ (ctxOf run 63).srcLeft ∧
      lzHeaderOk ((dramBytes run 0x1000 8).take 8) = false) ∧
    ((ctxOf (withCtx .running 7 1) 63).srcLeft < 8 ∧ jobDstSpm (jobP 1 1) = false ∧
      regIssues 9 (flits 0x1000 7 + 1) (withCtx .running 7 1) = true ∧ jobLast (jobP 1 1) = false ∧ jobLast (jobP 1 3) = true) := by
  (repeat' apply And.intro) <;> decide +kernel

/-- SAVE and RESTORE with the job engine off, of a context that runs and of one that does not, and an image that does not check
(ContextIsSavedAndRestored). -/
theorem test_context_met :
    let p : CtnStateP := ⟨63, 0x10000, 33024, false⟩;
    let run := withCtx .running 8 1;
    let off : State := { ready with ctn := { ready.ctn with ctrl := 0 } };
    (p.length = 33024 ∧ p.addr.toNat + 33024 ≤ ready.jgl.limit ∧ p.ctx.toNat < 64 ∧ p.addr.toNat % 64 = 0 ∧
      bitOf ready.ctn.ctrl 0 = true ∧ regIssues 9 (flits 0x10000 33024) ready = true) ∧
    (bitOf off.ctn.ctrl 0 = false ∧ Starts sqHdr (.ctnSave p) off ∧ Starts sqHdr (.ctnRestore p) off) ∧
    (Starts sqHdr (.ctnSave p) run ∧ Starts sqHdr (.ctnRestore p) run ∧ (ctxOf run 63).state = .running) ∧
    (Starts sqHdr (.ctnSave p) ready ∧ (ctxOf ready 63).state ≠ .running ∧
      trnCheck ready 0 (srcMaster ready sqHdr.src) .w 0x10000 33024 = .pass) ∧
    (Starts sqHdr (.ctnRestore p) ready ∧ trnCheck ready 0 (srcMaster ready sqHdr.src) .r 0x10000 33024 = .pass ∧
      dramPoisoned ready 0x10000 33024 = false ∧ imageOk (dramBytes ready 0x10000 33024) = false) := by
  (repeat' apply And.intro) <;> decide +kernel

/-! ### Images whose CRC is carried, not evaluated -/

theorem memWalk_cells (d : Byte) (a : Nat) (bs : List Byte) : memWalk d bs.length a (memCells d a bs) = bs := by
  induction bs generalizing a with
  | nil => rfl
  | cons b r ih =>
    unfold memCells
    split
    · rename_i h
      have hm : ∀ c ∈ memCells d (a + 1) r, a + 1 ≤ c.1 := fun c hc => (memCells_range d (a + 1) r c hc).1
      rw [List.length_cons]
      cases e : memCells d (a + 1) r with
      | nil => rw [memWalk, ← e, ih, h]
      | cons c m =>
        obtain ⟨k, v⟩ := c
        have : a + 1 ≤ k := hm (k, v) (by rw [e]; simp)
        rw [memWalk, if_neg (by omega), ← e, ih, h]
    · rw [List.length_cons, memWalk, if_pos rfl, ih]

/-- Bytes written to an empty memory read back whole. -/
theorem memRead_memWrite (d : Byte) (a n : Nat) (bs : List Byte) (h : bs.length = n) :
    memRead d (memWrite d [] a bs) a n = bs := by
  subst h
  have e : memCut (memCells d a bs) a (a + bs.length) = memCells d a bs := by
    rw [memCut, List.filter_eq_self]
    intro c hc
    have := memCells_range d a bs c hc
    simp; omega
  simp [memRead, memWrite, e, memWalk_cells]

/-- A field of the first bytes. -/
theorem leAt_front (x r : List Byte) (i k : Nat) (h : i + k ≤ x.length) : leAt (x ++ r) i k = leAt x i k := by
  simp [leAt, List.drop_append_of_le_length (show i ≤ x.length by omega), List.take_append_of_le_length,
    show k ≤ x.length - i by omega]

theorem slice_front (x r : List Byte) (i k : Nat) (h : i + k ≤ x.length) : slice (x ++ r) i k = slice x i k := by
  simp [slice, List.drop_append_of_le_length (show i ≤ x.length by omega), List.take_append_of_le_length,
    show k ≤ x.length - i by omega]

theorem zeroBytes_front (x r : List Byte) (i j : Nat) (hi : i ≤ j) (h : j ≤ x.length) :
    zeroBytes (x ++ r) i j = zeroBytes x i j := by
  simp [zeroBytes, List.drop_append_of_le_length (show i ≤ x.length by omega), List.take_append_of_le_length,
    show j - i ≤ x.length - i by omega]

theorem byteAt_front (x r : List Byte) (i : Nat) (h : i < x.length) : byteAt (x ++ r) i = byteAt x i := by
  simp [byteAt, List.getD_eq_getElem?_getD, List.getElem?_append_left h]

/-- The image of a context after reset checks. -/
theorem contextImage_ok : imageOk (ctxImage {}) = true := by
  have hl : (ctxHead {}).length = 252 := by decide +kernel
  unfold imageOk ctxImage
  generalize hr : fit 32768 ({} : Ctx).history.reverse = ring
  have hc : leAt (ctxHead {} ++ leBytes 4 (crc32c (ctxHead {} ++ ring)).toNat ++ ring) 252 4 =
      (crc32c (ctxHead {} ++ ring)).toNat := by
    rw [List.append_assoc, leAt_skip _ _ _ _ (by omega), hl, Nat.sub_self, leAt_here]
    exact Nat.mod_eq_of_lt (crc32c _).isLt
  have ht : (ctxHead {} ++ leBytes 4 (crc32c (ctxHead {} ++ ring)).toNat ++ ring).take 252 = ctxHead {} := by
    rw [List.append_assoc]; exact List.take_left' hl
  have hd : (ctxHead {} ++ leBytes 4 (crc32c (ctxHead {} ++ ring)).toNat ++ ring).drop 256 = ring :=
    List.drop_left' (by simp [hl])
  simp only [hc, ht, hd, beq_self_eq_true, Bool.and_true]
  rw [List.append_assoc]
  simp only [leAt_front, slice_front, zeroBytes_front, byteAt_front, hl, Nat.reduceAdd, Nat.reduceLeDiff, Nat.reduceLT]
  decide +kernel

/-- RESTORE of an image that checks (ContextIsSavedAndRestored). -/
theorem test_restore_met :
    let p : CtnStateP := ⟨63, 0x10000, 33024, false⟩;
    let s : State := { ready with jgl := { ready.jgl with mem := memWrite 0 [] 0x10000 (ctxImage {}) } };
    imageOk (dramBytes s 0x10000 33024) = true ∧ Starts sqHdr (.ctnRestore p) s ∧ (ctxOf s 63).state ≠ .running ∧
      trnCheck s 0 (srcMaster s sqHdr.src) .r 0x10000 33024 = .pass ∧ dramPoisoned s 0x10000 33024 = false := by
  refine ⟨?_, ?_⟩
  · have hl : (ctxImage {}).length = 33024 := by
      have : (ctxHead {}).length = 252 := by decide +kernel
      simp [ctxImage, this, fit]
    exact (congrArg imageOk (memRead_memWrite 0 0x10000 33024 (ctxImage {}) hl)).trans contextImage_ok
  · (repeat' apply And.intro) <;> decide +kernel

/-- The first 12 bytes of a waveform image, and what follows its CRC up to the last descriptor: 24 descriptors of one phase
each. -/
def waveFront : List Byte := ascii "CRWV" ++ [1, 0, 0, 0] ++ leBytes 4 imageLen
def waveDescs : List Byte := fill 48 0 ++ (List.replicate 24 ([1, 0, 0, 0] : List Byte)).flatten

/-- A waveform image with these bytes in its tables. -/
def waveImage (z : List Byte) : List Byte :=
  let r := waveDescs ++ (fill 3936 0 ++ z);
  waveFront ++ (leBytes 4 (crc32c (waveFront ++ ([0, 0, 0, 0] ++ r))).toNat ++ r)

theorem byteAt_fill (n j : Nat) : byteAt (fill n 0) j = 0 := by
  simp only [byteAt, fill, List.getD_eq_getElem?_getD, List.getElem?_replicate]
  split <;> rfl

/-- The image checks, whatever its tables hold. -/
theorem waveImage_ok (z : List Byte) (hz : z.length = imageLen - 4096) : imageBad (waveImage z) = none := by
  obtain ⟨w, hw, wl, wz⟩ : ∃ w : List Byte, fill 3936 0 = w ∧ w.length = 3936 ∧ ∀ j, byteAt w j = 0 :=
    ⟨_, rfl, fill_length _ _, byteAt_fill 3936⟩
  have hf : waveFront.length = 12 := by decide +kernel
  have hd : waveDescs.length = 144 := by decide +kernel
  have hlen : (waveFront ++ ([0, 0, 0, 0] ++ (waveDescs ++ (w ++ z)))).length = imageLen := by
    simp only [List.length_append, hf, hd, wl, hz]; rfl
  unfold waveImage
  rw [hw]
  dsimp only
  generalize hc : crc32c (waveFront ++ ([0, 0, 0, 0] ++ (waveDescs ++ (w ++ z)))) = c
  have cl : (leBytes 4 c.toNat).length = 4 := by simp
  have ho : fit imageLen (overlay (waveFront ++ (leBytes 4 c.toNat ++ (waveDescs ++ (w ++ z)))) 0xC [0, 0, 0, 0]) =
      waveFront ++ ([0, 0, 0, 0] ++ (waveDescs ++ (w ++ z))) := by
    have : overlay (waveFront ++ (leBytes 4 c.toNat ++ (waveDescs ++ (w ++ z)))) 0xC [0, 0, 0, 0] =
        waveFront ++ ([0, 0, 0, 0] ++ (waveDescs ++ (w ++ z))) := by
      unfold overlay
      rw [List.take_left' hf, List.drop_append, List.drop_eq_nil_of_le (by simp [hf]), List.nil_append, hf,
        List.drop_left' (by simp [cl]), List.append_assoc]
    rw [this, fit, List.take_append, hlen, Nat.sub_self, List.take_zero, List.append_nil, ← hlen, List.take_length]
  have hb : ∀ i, 160 ≤ i → i < 4096 → byteAt (waveFront ++ (leBytes 4 c.toNat ++ (waveDescs ++ (w ++ z)))) i = 0 := by
    intro i h1 h2
    rw [← wz (i - 160)]
    simp only [byteAt, List.getD_eq_getElem?_getD]
    rw [List.getElem?_append_right (by omega), List.getElem?_append_right (by omega), List.getElem?_append_right (by omega),
      List.getElem?_append_left (by omega), hf, cl, hd, show i - 12 - 4 - 144 = i - 160 by omega]
  have hm : ∀ i, 16 ≤ i → i < 160 → byteAt (waveFront ++ (leBytes 4 c.toNat ++ (waveDescs ++ (w ++ z)))) i =
      byteAt waveDescs (i - 16) := by
    intro i h1 h2
    simp only [byteAt, List.getD_eq_getElem?_getD]
    rw [List.getElem?_append_right (by omega), List.getElem?_append_right (by omega), List.getElem?_append_left (by omega)]
    rw [hf, cl, show i - 12 - 4 = i - 16 by omega]
  have hl : ∀ n, n < 24 → leAt (waveFront ++ (leBytes 4 c.toNat ++ (waveDescs ++ (w ++ z)))) (0x40 + 4 * n) 4 =
      leAt waveDescs (48 + 4 * n) 4 := by
    intro n hn
    rw [leAt_skip _ _ _ _ (by omega), leAt_skip _ _ _ _ (by omega), leAt_front _ _ _ _ (by omega), hf, cl,
      show 64 + 4 * n - 12 - 4 = 48 + 4 * n by omega]
  have h0 : (waveFront ++ (leBytes 4 c.toNat ++ (waveDescs ++ (w ++ z)))).take 4 = ascii "CRWV" := by
    rw [List.take_append_of_le_length (by omega)]; decide +kernel
  have hcrc : leAt (waveFront ++ (leBytes 4 c.toNat ++ (waveDescs ++ (w ++ z)))) 0xC 4 = c.toNat := by
    rw [leAt_skip _ _ _ _ (by omega), hf, Nat.sub_self, leAt_here]; exact Nat.mod_eq_of_lt c.isLt
  have hdesc : (firstBelow 24 fun n => !descOk (leAt (waveFront ++ (leBytes 4 c.toNat ++ (waveDescs ++ (w ++ z))))
      (0x40 + 4 * n) 4)) = none := by
    rw [firstBelow, List.find?_eq_none]
    intro n hn
    rw [hl n (by simpa using hn)]
    have : ∀ n, n < 24 → descOk (leAt waveDescs (48 + 4 * n) 4) = true := by decide +kernel
    simp [this n (by simpa using hn)]
  have hres : ([5, 6, 7] ++ (List.range 48).map (0x10 + ·) ++ (List.range 3936).map (0xA0 + ·)).find?
      (fun a => byteAt (waveFront ++ (leBytes 4 c.toNat ++ (waveDescs ++ (w ++ z)))) a != 0) = none := by
    rw [List.find?_eq_none]
    intro a ha
    simp only [List.mem_append, List.mem_map, List.mem_range] at ha
    rcases ha with (ha | ⟨k, hk, rfl⟩) | ⟨k, hk, rfl⟩
    · rw [byteAt_front _ _ _ (by rw [hf]; simp at ha; omega)]
      have : ∀ a ∈ ([5, 6, 7] : List Nat), byteAt waveFront a = 0 := by decide +kernel
      simp [this a ha]
    · rw [hm _ (by omega) (by omega)]
      have : ∀ k, k < 48 → byteAt waveDescs k = 0 := by decide +kernel
      simp [this k hk]
    · rw [hb _ (by omega) (by omega)]; decide
  unfold imageBad
  dsimp only
  rw [h0, hcrc, ho, hc, hdesc, hres, leAt_front _ _ 4 1 (by omega), leAt_front _ _ 8 4 (by omega),
    show leAt waveFront 4 1 = 1 by decide +kernel, show leAt waveFront 8 4 = imageLen by decide +kernel]
  simp

/-- A WAVEFORM_LOAD whose image checks, with the banks of the copies ON, and a copy to rewrite that is active and one that
is not (WaveformIsLoaded). -/
theorem test_waveImage_met :
    let s : State := { ready with crsl := { ready.crsl with loading := some sqHdr, rewrite := [0, 1] } };
    (Quiet s ∧ s.crsl.loading = some sqHdr ∧ dramInside s waveBacking imageLen = true ∧ s.spm.map = [] ∧
      s.spm.bringIn = none ∧ s.crsl.activeCopy = 0 ∧ s.crsl.rewrite.contains 0 = true ∧ s.crsl.rewrite.contains 1 = true) ∧
    (∀ b, b < 512 → (bankOf s b).power ≠ .off) ∧ ∀ z, z.length = imageLen - 4096 → imageBad (waveImage z) = none := by
  refine ⟨?_, by decide +kernel, waveImage_ok⟩
  (repeat' apply And.intro) <;> decide +kernel

/-! ### A signed firmware image -/

/-- The public key, the signature and the digests of the image below. -/
def keyX : Nat := 0x7AE9E1DB1160794C70C1EF071BE5191F6C66240F4608FBE8A44ECD36C3ED5DB97500F2E4D84E3FB45850FD6F4303302B
def keyY : Nat := 0xD8AC21444CD80D241538D8034B399A0DEE3636EB5CB00B9499D061A571DB0F14BB47ED79453948ED63F3A6CCBBF6E74F
def sigR : Nat := 0x683B7C03BF97E28B272A9425297B92B4779124C5790CFF946D8A5B7294717D474490DF200282CCE50D98E8FA146C87E3
def sigS : Nat := 0xB3E7CA948DFA579B7DDF6FAEF97EA3C8EA6B5DB4D757ADA884FDC5390D9FE1BF3C499E3A8AC56B1ED8669E16B75E89F1
def imageZ : Nat := 0x64E18F7B9215CFA2C7E5547436FF3AD65F5A49229228F54F9EA8E8B6572EFC391558D6AB1D7C04A0B99A74E5D61C7D3C
def keyDigest : Nat := 0x4938B309EFCA0E50CAB9F949AB849D045C5A676AC0163690AB822A7A4E19D90650792C29353C5BF4461F331495630270

/-- The header of a firmware image of 4,096 bytes without sections, up to the signature. -/
def imageHead : List Byte :=
  ascii "KFIM" ++ [0, 1] ++ leBytes 2 0x9216 ++ leBytes 4 4096 ++ leBytes 4 1 ++ fill 176 0 ++ beBytes 48 keyX ++
    beBytes 48 keyY ++ fill 96 0

/-- The image, signed by the key. -/
def image : List Byte := imageHead ++ beBytes 48 sigR ++ beBytes 48 sigS ++ fill 3616 0

/-- The device that holds the key's digest. -/
def withKey : State := { ready with mram := { ready.mram with fwDigest := BitVec.ofNat 384 keyDigest } }

set_option maxRecDepth 1000000 in
theorem image_digest : beNat (sha384 (imageHead ++ fill 3584 0)) = imageZ := by decide +kernel

theorem image_signature : ecdsaOk (keyX, keyY) sigR sigS imageZ = true := by decide +kernel

theorem image_length : image.length = 4096 := by decide +kernel

theorem image_sig (s : State) (h : kindDigest s 0 = keyDigest) : imgSigOk s 0 image = true := by
  have hp : beNat (sha384 (slice image 192 96)) = keyDigest := by decide +kernel
  have h1 : beNat (slice image 192 48) = keyX := by decide +kernel
  have h2 : beNat (slice image 240 48) = keyY := by decide +kernel
  have h3 : beNat (slice image 384 48) = sigR := by decide +kernel
  have h4 : beNat (slice image 432 48) = sigS := by decide +kernel
  have h5 : image.take 384 ++ image.drop 512 = imageHead ++ fill 3584 0 := by decide +kernel
  rw [imgSigOk, hp, h, h1, h2, h3, h4, h5, image_digest, image_signature, beq_self_eq_true]; rfl

/-- The device accepts the image, which it holds in both slots. -/
theorem image_ok : imgFormOk 0 image = true ∧ imgBindOk withKey 0 image = true ∧ imgSigOk withKey 0 image = true := by
  refine ⟨?_, ?_, image_sig withKey ?_⟩ <;> decide +kernel

/-- The device that holds the key's digest, and the image in slot 1 with its entry in a state. -/
def withImage (st : FwSlotState) : State := { withKey with
  rm := { withKey.rm with stage := .rom }
  fw := { withKey.fw with flash := memWrite 0xFF [] 0x1810000 image, slot1 := { state := st, length := 4096 } } }

theorem withImage_read (st : FwSlotState) : flashRead (withImage st) 0x1810000 4096 = image :=
  memRead_memWrite 0xFF 0x1810000 4096 image image_length

set_option maxRecDepth 100000 in
theorem withImage_slot (st : FwSlotState) : slotImage (withImage st) 1 = image := by
  have hn : imgLen (flashRead (withImage .empty) 0x1810000 512) = 4096 := by decide +kernel
  have hn' : imgLen (flashRead (withImage st) 0x1810000 512) = 4096 := hn
  rw [slotImage, imgAt, show slotBase 1 = 0x1810000 from rfl, hn', if_neg (by decide)]
  exact withImage_read st

/-! ### Firmware and start -/

/-- A session of a target, with session number 1, in a state, with an image of 4,096 bytes to come. -/
def inSession (st : FwSession) (target : Nat) (running : Option Hdr) : State := { withKey with fw := { withKey.fw with
  session := st, sessionId := 1, target := target, imageLen := 4096, running := running } }

/-- A block of 4,096 zeros, with a CRC. -/
def blockP (session crc : W32) : FwBlockP := ⟨session, 0, crc, List.replicate 4096 0, false⟩

/-- FW_OPENs with and without a session, the erasure's end, and blocks of another session, with another CRC and that check
(FirmwareSession). -/
theorem test_fwReceives_met :
    let p : FwOpenP := ⟨0, 4096, false⟩;
    let r := inSession .receiving 0 none;
    (Starts sqHdr (.fwOpen p) withKey ∧ fwLenOk p.target.toNat p.imageLen.toNat = true ∧ withKey.mram.lifecycle ≠ .retired ∧
      withKey.fw.session = .idle ∧ inTrial withKey = false) ∧
    (Starts sqHdr (.fwOpen p) r ∧ r.fw.session ≠ .idle) ∧
    (Quiet (inSession .opening 0 (some sqHdr)) ∧ (inSession .opening 0 (some sqHdr)).fw.session = .opening ∧
      (inSession .opening 0 (some sqHdr)).fw.running = some sqHdr ∧ destBase r 0 = some 0x1810000) ∧
    (Starts sqHdr (.fwBlock (blockP 2 0)) r ∧ (2#32) ≠ r.fw.sessionId) ∧
    (Starts sqHdr (.fwBlock (blockP 1 0)) r ∧ r.fw.session = .receiving ∧ (1#32) = r.fw.sessionId ∧ 0 < r.fw.imageLen) := by
  (repeat' apply And.intro) <;> decide +kernel

/-- Blocks whose CRC is and is not that of their data (FirmwareSession). -/
theorem test_fwBlock_met :
    let p := blockP 1 (crc32c (List.replicate 4096 0));
    crc32c p.data = p.crc ∧ crc32c p.data ≠ p.crc + 1 ∧ p.data.length = 4096 ∧
      lkp (inSession .receiving 0 none).fw.blocks 0 = none := by
  refine ⟨rfl, ?_, by decide +kernel, by decide +kernel⟩
  show crc32c (List.replicate 4096 0) ≠ crc32c (List.replicate 4096 0) + 1
  generalize crc32c (List.replicate 4096 0) = c
  intro h; bv_omega

/-- FW_COMMIT of the session and of another, a commit that lacks a block, FW_ABORT while it receives and while it commits,
and the lock's expiry (FirmwareSession). -/
theorem test_fwEnds_met :
    let r := inSession .receiving 0 none;
    let c := inSession .committing 0 (some sqHdr);
    (Starts sqHdr (.fwCommit ⟨1, 1, false⟩) r ∧ r.fw.session = .receiving ∧ (1#32) = r.fw.sessionId) ∧
    (Starts sqHdr (.fwCommit ⟨2, 0, false⟩) r ∧ (2#32) ≠ r.fw.sessionId) ∧
    (Quiet c ∧ c.fw.session = .committing ∧ c.fw.running = some sqHdr ∧ commitRefusal c = some (.integrity, 0)) ∧
    (Starts sqHdr (.fwAbort ⟨1, false⟩) c ∧ c.fw.sessionId = 1) ∧
    (Starts sqHdr (.fwAbort ⟨1, false⟩) r ∧ r.fw.session ≠ .committing ∧ r.fw.running = none) := by
  (repeat' apply And.intro) <;> decide +kernel

theorem commit_ok (t : State) (h0 : t.rm.runSlot = 0) (h1 : t.fw.target = 0) (h2 : t.fw.imageLen = 4096)
    (h3 : t.fw.flash = memWrite 0xFF [] 0x1810000 image) (h4 : t.fw.blocks = [(0, crc32c image)])
    (h5 : t.mram = withKey.mram) : commitRefusal t = none := by
  have hr : sessionRead t 0 4096 = image := by
    rw [sessionRead, h1, show destBase t 0 = some 0x1810000 by simp [destBase, destIndex, h0, slotBase]]
    simp only [Nat.add_zero, flashRead, h3]
    exact memRead_memWrite 0xFF 0x1810000 4096 image image_length
  have hb : blockOffsets t = [0] := by rw [blockOffsets, h2]; rfl
  have hd : kindDigest t 0 = keyDigest := by rw [kindDigest, h5]; decide +kernel
  have hi : imageRefusal t 0 image = none := by
    have hbind : imgBindOk t 0 image = true := by
      rw [show imgBindOk t 0 image = imgBindOk withKey 0 image by rw [imgBindOk, imgBindOk, h5]]; exact image_ok.2.1
    rw [imageRefusal, image_ok.1, hbind, image_sig t hd]; rfl
  rw [commitRefusal, hb, h4, h2, h1, hr]
  dsimp only
  rw [hi]
  simp [lkp, hr]

/-- A session that commits the image, whose one block has arrived. -/
def committing : State := { inSession .committing 0 (some sqHdr) with
  fw := { (inSession .committing 0 (some sqHdr)).fw with
    flash := memWrite 0xFF [] 0x1810000 image, blocks := [(0, crc32c image)] } }

/-- A commit whose image passes every check (FirmwareSession). -/
theorem test_fwCommit_met :
    Quiet committing ∧ committing.fw.session = .committing ∧ committing.fw.running = some sqHdr ∧
      committing.fw.target = 0 ∧ commitRefusal committing = none := by
  refine ⟨?_, ?_, ?_, ?_, commit_ok _ ?_ ?_ ?_ ?_ ?_ ?_⟩
  all_goals first | exact rfl | ((repeat' apply And.intro) <;> exact rfl)

/-- FW_CONFIRMs of another version and of the running one, for the first time and the third; the resets that wait for
nothing, an activation with the panel ON, a confirm window and an accepted token (TrialsAndActivation). -/
theorem test_trials_met :
    let s : State := { ready with fw := { ready.fw with slot0 := { state := .trial, version := 7 }, winEnd := some 9 } };
    let third : State := { s with fw := { s.fw with confirms := 2 } };
    let act : State := { ready with rm := { ready.rm with activatePending := true } };
    let on : State := { act with pwr := { act.pwr with state := .on } };
    let tok : State := { ready with fw := { ready.fw with token := some ⟨.deployed, 0, 0⟩ } };
    (Starts sqHdr (.fwConfirm ⟨8, false⟩) s ∧ (8#32) ≠ (fwSlot s s.rm.runSlot).version) ∧
    (Starts sqHdr (.fwConfirm ⟨7, false⟩) s ∧ (7#32) = (fwSlot s s.rm.runSlot).version ∧ inTrial s = true ∧
      s.fw.bootConfirmed = false ∧ s.rm.runSlot < 2 ∧ s.fw.confirms < 2) ∧
    (Starts sqHdr (.fwConfirm ⟨7, false⟩) third ∧ 2 ≤ third.fw.confirms) ∧
    (act.rm.activatePending = true ∧ act.pwr.state = .off) ∧
    (Quiet on ∧ on.rm.activatePending = true ∧ on.pwr.state = .on ∧ on.pwr.undoing = false) ∧
    (s.fw.winEnd ≠ none ∧ s.pwr.state = .off) ∧
    (tok.fw.token = some ⟨.deployed, 0, 0⟩ ∧ tok.fw.session = .idle ∧ tok.pwr.state = .off) := by
  (repeat' apply And.intro) <;> decide +kernel

/-- The device at a stage of its start. -/
def atStage (st : Stage) : State := { ready with rm := { ready.rm with stage := st } }

/-- Each stage of start, with nothing that holds it up; no slot to run, a RETIRED device, and a commitment to try again
(StartStages). -/
theorem test_startStages_met :
    let retired : State := { atStage .rom with mram := { ready.mram with lifecycle := .retired } };
    (Quiet (atStage .por) ∧ (atStage .por).rm.brown = none ∧ (atStage .por).rm.tripped = false ∧
      (atStage .por).rm.vaon = true ∧ (atStage .por).rm.tamperLatch = false ∧ (atStage .por).mram.pending = none ∧
      (atStage .por).rm.lref = true) ∧
    (Quiet (atStage .rom) ∧ (atStage .rom).mram.lifecycle ≠ .retired ∧ slotIn (atStage .rom) .pending = none ∧
      slotIn (atStage .rom) .trial = none ∧ slotIn (atStage .rom) .confirmed = none ∧ slotIn (atStage .rom) .valid = none) ∧
    retired.mram.lifecycle = .retired ∧
    (Quiet (atStage .load) ∧ (atStage .load).fw.activeCfg < 2) ∧
    ((atStage .train).rm.stage = .train ∧ (atStage .train).rm.lref = true) ∧
    ((atStage .check).rm.stage = .check ∧ (atStage .check).hq.early = []) ∧
    (let s : State := { ready with cal := { ready.cal with retryMap := true } };
      Quiet s ∧ s.cal.retryMap = true ∧ ready.cal.retryMap = false) := by
  (repeat' apply And.intro) <;> decide +kernel

/-- A CONFIRMED slot and a PENDING one whose image checks (StartStages). -/
theorem test_startImage_met :
    (Quiet (withImage .confirmed) ∧ (withImage .confirmed).rm.stage = .rom ∧
      (withImage .confirmed).mram.lifecycle ≠ .retired ∧ slotIn (withImage .confirmed) .pending = none ∧
      slotIn (withImage .confirmed) .trial = none ∧ slotIn (withImage .confirmed) .confirmed = some 1) ∧
    slotIn (withImage .pending) .pending = some 1 ∧
    ∀ st, imgOk (withImage st) 0 (slotImage (withImage st) 1) = true := by
  refine ⟨?_, by decide +kernel, fun st => ?_⟩
  · (repeat' apply And.intro) <;> decide +kernel
  · have hb : imgBindOk (withImage st) 0 image = imgBindOk withKey 0 image := rfl
    have hk : kindDigest (withImage st) 0 = keyDigest := (by decide +kernel : kindDigest withKey 0 = keyDigest)
    rw [withImage_slot, imgOk, image_ok.1, hb, image_ok.2.1, image_sig _ hk]; rfl

/-- The signature and the digest of the configuration below. -/
def cfgR : Nat := 0x683B7C03BF97E28B272A9425297B92B4779124C5790CFF946D8A5B7294717D474490DF200282CCE50D98E8FA146C87E3
def cfgS : Nat := 0xF836DD8021064EDACD0C92550237AF0BD1B7522A078C2DAD866D4EE2659C1A8158E90B150A22E5A6FD25483B1AF4FC49
def cfgZ : Nat := 0xB5566C63966A86F409CFDD10A24B15E0465A39A2C68FB7E8036C69F0A1F8176747F166308E6E8D75915411594DF073BC

/-- The same image as a configuration, up to the signature. -/
def cfgHead : List Byte := imageHead.take 4 ++ [1] ++ imageHead.drop 5

/-- The configuration, signed by the key. -/
def cfgImage : List Byte := cfgHead ++ beBytes 48 cfgR ++ beBytes 48 cfgS ++ fill 3616 0

set_option maxRecDepth 1000000 in
theorem cfg_digest : beNat (sha384 (cfgHead ++ fill 3584 0)) = cfgZ := by decide +kernel

theorem cfg_length : cfgImage.length = 4096 := by decide +kernel

theorem cfg_sig (s : State) (h : kindDigest s 1 = keyDigest) : imgSigOk s 1 cfgImage = true := by
  have hp : beNat (sha384 (slice cfgImage 192 96)) = keyDigest := by decide +kernel
  have h1 : beNat (slice cfgImage 192 48) = keyX := by decide +kernel
  have h2 : beNat (slice cfgImage 240 48) = keyY := by decide +kernel
  have h3 : beNat (slice cfgImage 384 48) = cfgR := by decide +kernel
  have h4 : beNat (slice cfgImage 432 48) = cfgS := by decide +kernel
  have h5 : cfgImage.take 384 ++ cfgImage.drop 512 = cfgHead ++ fill 3584 0 := by decide +kernel
  have h6 : ecdsaOk (keyX, keyY) cfgR cfgS cfgZ = true := by decide +kernel
  rw [imgSigOk, hp, h, h1, h2, h3, h4, h5, cfg_digest, h6, beq_self_eq_true]; rfl

/-- The device at LOAD with the key's digest for configurations and the configuration in copy 0. -/
def atLoad : State := { atStage .load with
  mram := { ready.mram with cfgDigest := BitVec.ofNat 384 keyDigest }
  fw := { ready.fw with flash := memWrite 0xFF [] 0x3010000 cfgImage } }

set_option maxRecDepth 100000 in
theorem atLoad_copy : copyImage atLoad 0 = cfgImage := by
  have hn : imgLen (flashRead atLoad 0x3010000 512) = 4096 := by decide +kernel
  rw [copyImage, imgAt, show copyBase 0 = 0x3010000 from rfl, hn, if_neg (by decide)]
  exact memRead_memWrite 0xFF 0x3010000 4096 cfgImage cfg_length

/-- LOAD with an active configuration that checks and with untouched banks; a tamper latched at POR, and banks that fail its
wipe twice; TRAIN with a waveform section in the running slot (StartStages). -/
theorem test_startLoads_met :
    let tamper : State := { atStage .por with rm := { (atStage .por).rm with tamperLatch := true } };
    let head : List Byte := ascii "KFIM" ++ [0, 1] ++ leBytes 2 0x9216 ++ leBytes 4 4096 ++ fill 52 0 ++
      (leBytes 4 3 ++ leBytes 4 512 ++ leBytes 4 4 ++ leBytes 4 0) ++ fill 432 0 ++ [1, 2, 3, 4];
    let train : State := { atStage .train with fw := { ready.fw with flash := memWrite 0xFF [] 0x10000 head } };
    (Quiet atLoad ∧ atLoad.rm.stage = .load ∧ atLoad.fw.activeCfg = 0 ∧ atLoad.spm.map = [] ∧ atLoad.spm.banks = [] ∧
      atLoad.spm.bringIn = none ∧ (2 : Nat) < 3 ∧ imageLen - 1 < imageLen) ∧
    imgOk atLoad 1 (copyImage atLoad 0) = true ∧
    (Quiet tamper ∧ tamper.rm.stage = .por ∧ tamper.rm.brown = none ∧ tamper.rm.tripped = false ∧ tamper.rm.vaon = true ∧
      tamper.rm.tamperLatch = true ∧ tamper.mram.pending = none ∧ (15 : Nat) ∈ [15] ∧ (15 : Nat) < 16) ∧
    (Quiet train ∧ train.rm.stage = .train ∧ train.rm.lref = true ∧ train.rm.runSlot = 0 ∧
      sectionOf (slotImage train 0) 3 = [1, 2, 3, 4] ∧ waveBacking + 4 ≤ train.jgl.limit) := by
  refine ⟨?_, ?_, ?_, ?_⟩
  · (repeat' apply And.intro) <;> decide +kernel
  · have hf : imgFormOk 1 cfgImage = true := by decide +kernel
    have hb : imgBindOk atLoad 1 cfgImage = true := by decide +kernel
    have hk : kindDigest atLoad 1 = keyDigest := by decide +kernel
    rw [atLoad_copy, imgOk, hf, hb, cfg_sig _ hk]; rfl
  · (repeat' apply And.intro) <;> decide +kernel
  · (repeat' apply And.intro) <;> decide +kernel

/-! ### Surfaces, calibration, units, the event log -/

/-- A surface registered in entry 0, read by a frame that shows where `read`. -/
def surfaceIn (read : Bool) : State := { ready with
  hq := { ready.hq with surfaces := [(0, ⟨2 ^ 33, 4096, 64, none⟩)] }
  scene := { ready.scene with frames :=
    if read then [{ frameOf .showing (.scene 0 0) with reads := [0] }] else [] } }

/-- SURFACE_REGISTER with entries free and with all 64 taken; SURFACE_RELEASE of an unknown handle, of one that nothing
reads and of one that a frame reads (SurfaceHandles). -/
theorem test_surfaces_met :
    let p : SurfaceRegisterP := ⟨2 ^ 33 + 4096, 4096, false⟩;
    let full : State := { ready with hq := { ready.hq with
      surfaces := (List.range 64).map fun i => (i, ⟨2 ^ 34 + 4096 * i, 4096, 64, none⟩) } };
    (Starts sqHdr (.surfaceRegister p) (surfaceIn false) ∧ ones 4 p.size.toNat = false ∧ ones 8 p.addr.toNat = false ∧
      surfaceRangeOk (surfaceIn false) p.addr.toNat p.size.toNat = true ∧
      ((surfaceIn false).hq.surfaces.any fun c => overlaps p.addr.toNat p.size.toNat c.2.addr c.2.size) = false ∧
      firstBelow 64 (fun i => (surfaceOf (surfaceIn false) i).isNone) = some 1) ∧
    (Starts sqHdr (.surfaceRegister p) full ∧ firstBelow 64 (fun i => (surfaceOf full i).isNone) = none) ∧
    (Starts sqHdr (.surfaceRelease ⟨65, false⟩) (surfaceIn false) ∧ handleIndex (surfaceIn false) 65 = none) ∧
    (Starts sqHdr (.surfaceRelease ⟨64, false⟩) (surfaceIn false) ∧ handleIndex (surfaceIn false) 64 = some 0 ∧
      surfaceOf (surfaceIn false) 0 = some ⟨2 ^ 33, 4096, 64, none⟩ ∧ surfaceRead (surfaceIn false) 0 = false) ∧
    (Starts sqHdr (.surfaceRelease ⟨64, false⟩) (surfaceIn true) ∧ surfaceRead (surfaceIn true) 0 = true) := by
  (repeat' apply And.intro) <;> decide +kernel

/-- A calibration run of the items `todo`. -/
def inCal (todo : List Nat) : State := { ready with cal := { ready.cal with running := some (sqHdr, false), todo := todo } }

set_option maxRecDepth 20000 in
/-- CAL_RUN, its items plausible and not, its last item, CAL_READ of each set, and CAL_WRITE of a record that checks and one
that does not (CalibrationRuns). -/
theorem test_calibration_met :
    let m : CalMeas := ⟨410, 3686, 12500⟩;
    let fac : State := { ready with cal := { ready.cal with factory := some (calRecord ready) } };
    let w : CalWriteP := ⟨2 ^ 13, calRecord ready, false⟩;
    (Starts sqHdr (.calRun ⟨0x3FFF, 1, false⟩) ready ∧ ready.cal.running = none ∧ ready.pwr.state = .off) ∧
    (Starts sqHdr (.calRun ⟨1, 0, false⟩) (inCal [0]) ∧ (inCal [0]).cal.running.isSome = true) ∧
    (Starts sqHdr (.calRun ⟨2, 0, false⟩) onState ∧ (2#16).toNat &&& 0x3FE ≠ 0 ∧ onState.pwr.state ≠ .off) ∧
    (Quiet (inCal [0, 13]) ∧ (inCal [0, 13]).cal.todo = 0 :: 13 :: [] ∧ refinOk m.refin = true ∧ measReason m = 0 ∧
      measReason ⟨410, 410, 12500⟩ ≠ 0) ∧
    ((inCal [13]).cal.todo = [13] ∧ (inCal [13]).cal.failed = 0 ∧ (inCal [13]).pwr.onDue = false) ∧
    (Starts sqHdr (.calRead ⟨64, 0, false⟩) ready ∧ Starts sqHdr (.calRead ⟨64, 1, false⟩) fac ∧
      fac.cal.factory = some (calRecord ready) ∧ ready.cal.factory = none) ∧
    (Starts sqHdr (.calWrite w) ready ∧ recordOk w.record = true ∧ recordMine ready w.record = true ∧
      calReason (recordItem w.record 13).gain (recordItem w.record 13).off = 0 ∧ recordOk [] = false) := by
  (repeat' apply And.intro) <;> decide +kernel

/-- A unit in a state. -/
def withUnit (c i : Nat) (st : UState) : State := { ready with units :=
  [(1024 * c + i, ⟨st, 0, 7, none, true, false⟩)] }

/-- Unit commands that answer, name no unit, are stale, change a state, are BUSY and reset; requests of the data path that
match and do not (UnitStatesChange). -/
theorem test_units_met :
    let p : UnitP := ⟨0, 0, 23, 0, false⟩;
    let r : UnitReq := ⟨0, 23, .online, false⟩;
    let q : State := { withUnit 0 23 .online with unitReqs := [r] };
    let d : State := { withUnit 0 23 .degraded with unitReqs := [r] };
    (Starts sqHdr (.unitGet p) ready ∧ unitExists 0 23 = true ∧ unitExists 0 24 = false) ∧
    (Starts { sqHdr with gen := 1 } (.unitSet p) ready ∧ (1#16) ≠ (unitOf ready 0 23).gen) ∧
    (Starts sqHdr (.unitSet p) (withUnit 0 23 .degraded) ∧ (unitOf (withUnit 0 23 .degraded) 0 23).gen = 0 ∧
      (unitOf (withUnit 0 23 .degraded) 0 23).state = .degraded) ∧
    (Starts sqHdr (.unitSet { p with dest := 4 }) (withUnit 0 23 .offline) ∧
      (unitOf (withUnit 0 23 .offline) 0 23).state = .offline) ∧
    (Starts sqHdr (.resetUnit p) (withUnit 0 23 .online) ∧ (unitOf (withUnit 0 23 .online) 0 23).state ≠ .offline ∧
      (unitOf (withUnit 0 23 .online) 0 23).state ≠ .test) ∧
    (Starts sqHdr (.resetUnit p) (withUnit 0 23 .offline) ∧ ((withUnit 0 23 .offline).units.Pairwise fun a b => a.1 < b.1)) ∧
    (Quiet q ∧ q.unitReqs = [r] ∧ frontReq q = some r ∧ (unitOf q 0 23).state = .online) ∧
    (frontReq d = some r ∧ (unitOf d 0 23).state ≠ r.reported) := by
  (repeat' apply And.intro) <;> decide +kernel

/-- An event-log entry of core 3. -/
def entry3 : LogEntry := ⟨0, 3, true, 3, .spmWipe, [1, 1]⟩

/-- LOG_READs of entries, with CONSUME, and of both dictionaries; an entry submitted, one to copy to the journal, and a
clear of LOG_DROP (LogIsReadAndCopied). -/
theorem test_log_met :
    let s : State := { ready with log := { ready.log with
      entries := [entry3], toJournal := [entry3], codes := [⟨1, 0, 0, []⟩] } };
    (Starts sqHdr (.logEntries ⟨1, 16384, 64, false⟩) s ∧ s.log.input = [] ∧
      logReadBad sqHdr true ⟨1, 16384, 64, false⟩ = none ∧ s.log.entries.length ≠ 0) ∧
    (Starts sqHdr (.logCodes ⟨0, 1, 64, false⟩) s ∧ Starts sqHdr (.logSources ⟨0, 1, 64, false⟩) s ∧
      logReadBad sqHdr false ⟨0, 1, 64, false⟩ = none) ∧
    (Quiet s ∧ s.log.input.length < 64 ∧ s.log.toJournal = [entry3] ∧ journalSlot false s = some 0 ∧
      s.mram.journal = []) ∧
    (RegOpen 3 0x800018 true s ∧ bitOf (put 1 31 : W32) 31 = true) := by
  (repeat' apply And.intro) <;> (try unfold RegOpen) <;> decide +kernel

/-! ### The Barker and the registers -/

/-- Source 512 PENDING, routed to core 3, which has `n` sources of the lowest rank on its stack. -/
def claimable (n : Nat) : State := { ready with brk := { ready.brk with
  sources := [(512, { prio := 1, core := 3, state := .pending, en := true }), (700, { prio := 255, core := 3, state := .active, en := true })]
  cores := [(3, { stack := List.replicate n 700 })] } }

/-- Claims with and without an eligible source, and with the stack full; completions of its top and of another source
(ClaimAndComplete). -/
theorem test_claims_met :
    let s := claimable 7;
    let x : Source := { prio := 1, core := 3, state := .pending, en := true };
    (Quiet s ∧ RegOpen 6 (brkCoreOff 3 0) false s ∧ RegOpen 6 (brkCoreOff 3 4) true s) ∧
    ((512, x) ∈ s.brk.sources ∧ x.state = .pending ∧ x.coreEn = true ∧ x.core = 3) ∧
    (∀ j y, ((j, y) ∈ s.brk.sources ∧ y.state = .pending ∧ y.coreEn = true ∧ y.core = 3) → (j, y) = (512, x)) ∧
    (∀ t, (coreOf s 3).stack.head? = some t → x.prio >>> fld s.brk.ctrl 2 0 < (srcOf s t).prio >>> fld s.brk.ctrl 2 0) ∧
    ((coreOf s 3).stack.length < 8 ∧ 8 ≤ (coreOf (claimable 8) 3).stack.length) ∧
    (∀ y ∈ ready.brk.sources, y.2.state ≠ .pending) ∧
    ((coreOf s 3).stack.head? = some (fld (700#32) 9 0) ∧ (srcOf s 700).state = .active ∧
      (coreOf s 3).stack.head? ≠ some (fld (512#32) 9 0)) := by
  refine ⟨⟨⟨rfl, rfl, rfl, rfl⟩, ?_, ?_⟩, ?_, ?_, ?_, ?_, ?_, ?_⟩
  · unfold RegOpen; decide +kernel
  · unfold RegOpen; decide +kernel
  · decide +kernel
  · rintro j y ⟨hm, hp, -, -⟩
    rcases List.mem_cons.1 hm with h | h
    · exact h
    · rcases List.mem_cons.1 h with h | h
      · cases h; cases hp
      · cases h
  · intro t ht; cases ht; decide +kernel
  · decide +kernel
  · decide +kernel
  · decide +kernel

/-- The other operations of the Barker (BarkerSources): a claim with the stack full and nothing pending, completion in
ACTIVE_PENDING, FORCE, the count, a host pending bit, routes, an edge source's input, moderation, WAIT and a core's reset. -/
theorem test_barker_met :
    let none8 : State := { ready with brk := { ready.brk with cores := [(3, { stack := List.replicate 8 700 })] } };
    let ap : State := { ready with brk := { ready.brk with
      sources := [(512, { en := true, state := .activePending })], cores := [(0, { stack := [512] })], srcSel := 512 } };
    (Quiet none8 ∧ RegOpen 6 (brkCoreOff 3 0) false none8 ∧ 8 ≤ (coreOf none8 3).stack.length ∧
      (∀ x ∈ none8.brk.sources, x.2.state ≠ .pending)) ∧
    (RegOpen 3 (brkCoreOff 0 4) true ap ∧ (coreOf ap 0).stack = fld (512#32) 9 0 :: [] ∧ (srcOf ap 512).en = true ∧
      (srcOf ap 512).state = .activePending) ∧
    (RegOpen 3 0x100014 true ap ∧ RegOpen 3 0x100024 true ap ∧ RegOpen 3 (0x100400 + 4 * 31) true ap ∧
      RegOpen 3 0x100018 true ap ∧ srcIsLevel 512 = false ∧ srcExists 512 = true ∧ (srcOf ap 512).filtered = false) ∧
    (fld (put 3 16 : W32) 17 16 = 3 ∧ ap.brk.srcSel % 32 ≠ 31) ∧
    (spWf {} ap.brk.cores = true ∧ spWf srcDflt ap.brk.sources = true ∧ (coreOf ap 0).released = false) ∧
    modPending { ready with brk := { ready.brk with
      sources := [(512, { en := true, state := .pending })], cores := [(0, { modr := put 1 16 ||| put 1 8 })] } } 0 ≠ [] := by
  (repeat' apply And.intro) <;> (try unfold RegOpen) <;> decide +kernel

/-- Register accesses of each type, the keys of RM_RESET and of the watchdog, and the data ports at the ends of their
tables (RegistersAndDataPorts). -/
theorem test_registers_met :
    let s : State := { ready with
      rm := { ready.rm with wdogRunning := true }, cal := { ready.cal with jrnlIndex := 256 * 64 - 1 }
      clr := { ready.clr with tblIndex := 2047 }, trz := { ready.trz with routeIndex := 16383 } };
    Quiet s ∧ RegOpen 3 0x100008 true s ∧ RegOpen 3 0x1100004 true s ∧ RegOpen 3 0 true s ∧ RegOpen 3 0x28 true s ∧
    (RegOpen 3 0x24 true s ∧ fwMaster 3 = true ∧ RegOpen 0 0x24 true s ∧ fwMaster 0 = false) ∧
    (s.rm.wdogRunning = true ∧ ready.rm.wdogRunning = false) ∧
    (RegOpen 3 0x600078 false s ∧ s.cal.jrnlIndex < 256 * 64) ∧
    (RegOpen 3 0x1300028 true s ∧ tblSize (s.clr.tblSel.toNat % 16) ≤ s.clr.tblIndex ∧
      ready.clr.tblIndex < tblSize (ready.clr.tblSel.toNat % 16)) ∧
    RegOpen 3 0x1500034 true s ∧ RegOpen 3 0x1500034 false s ∧ RegOpen 3 0x400074 false s := by
  (repeat' apply And.intro) <;> (try unfold RegOpen) <;> decide +kernel

/-- Rail maps and a timing that let the panel power up. -/
def panelReady : State := { ready with
  scn := { ready.scn with timing := some timing60 }
  pwr := { ready.pwr with r := { map := 0x03E803E8, lim := 0x0FA007D0 }, g := { map := 0x03E803E8, lim := 0x0FA007D0 }, b := { map := 0x03E803E8, lim := 0x0FA007D0 } } }

/-- What lets each register with a row of its own act, at the boundary of each clause (RegisterWritesAct). -/
theorem test_registerWrites_met :
    let flt : State := { ready with pwr := { ready.pwr with state := .faulted } };
    let trip : State := { ready with mram := { ready.mram with journal :=
      [(255, ⟨0, 0, true, false, true, true, .thTrip, 0, 0, 0, 0, List.replicate 128 1⟩)] } };
    let e : JEntry := ⟨0, 0, true, false, true, true, .thTrip, 0, 0, 0, 0, List.replicate 128 1⟩;
    (Quiet panelReady ∧ RegOpen 3 0x500004 true panelReady ∧ panelReady.pwr.state = .off ∧ noService panelReady = false ∧
      panelReady.cal.running = none ∧ mapOk panelReady.pwr.r = true ∧ mapOk panelReady.pwr.b = true ∧
      ready.scn.timing = none) ∧
    (onState.pwr.state = .on ∧ onState.pwr.undoing = false ∧ flt.pwr.state = .faulted ∧ flt.scn.jobs = []) ∧
    (let s : State := { ready with th := { ready.th with l3Forced := true } };
      RegOpen 3 0x400020 true s ∧ s.th.l3Forced = true) ∧
    (RegOpen 3 0x400078 true trip ∧ trip.mram.journal = [(255, e)] ∧ leAt e.content 124 4 = 0x01010101) ∧
    (RegOpen 3 0x400010 true ready ∧ min (sext 16 (fld (0x01400101#32) 31 16)) 0x6E0 - min (sext 16 (fld (0x01400101#32) 15 0)) 0x640 < 64 ∧
      64 ≤ min (sext 16 (fld (0x01400100#32) 31 16)) 0x6E0 - min (sext 16 (fld (0x01400100#32) 15 0)) 0x640) ∧
    (RegOpen 3 0x20004C true ready ∧ fwMaster 3 = true ∧ ready.trn.lock = false) ∧
    (RegOpen 3 0x300008 true ready ∧ RegOpen 3 0x300030 true ready ∧ bitOf ready.trz.time 8 = false) ∧
    (RegOpen 3 0x30003C true ready ∧ RegOpen 3 0x300048 true ready ∧ RegOpen 3 0x300058 true ready) ∧
    (RegOpen 3 0x1900020 true { ready with jgl := { ready.jgl with job := some (.foldCopy 23), fold := some 8 } } ∧
      ready.jgl.fold = none) ∧
    (RegOpen 3 0x1500050 true ready ∧ ready.trz.portSel < 6 ∧ bitOf ready.trz.ctrl 0 = false) ∧
    (RegOpen 3 0x1400028 true ready ∧ bitOf (0x80001900#32) 31 = true ∧ 24 < fld (0x80001900#32) 12 8 ∧
      fld (0x80000F18#32) 12 8 ≤ 24 ∧ 24 + fld (0x80001808#32) 3 0 + fld (0x80001808#32) 12 8 ≤ 63) ∧
    (RegOpen 3 0x1800028 true ready ∧ ready.spm.bankSel < 544 ∧ bankSecure { ready with spm := { ready.spm with bankSel := 16 } } 16 = false ∧
      (bankOf ready 16).power = .on) := by
  (repeat' apply And.intro) <;> (try unfold RegOpen) <;> decide +kernel

/-! ### Resets, supplies, tamper, the mailbox -/

/-- Supplies and resets: held and not, with the panel down, and a trip at the boundary (ResetsAndSupplies). -/
theorem test_resets_met :
    let held : State := { ready with rm := { ready.rm with brown := some .vcore } };
    let open_ : State := { ready with fw := { ready.fw with session := .receiving } };
    (ready.pwr.state = .off ∧ ready.pwr.fastRun = false ∧ ready.pwr.disch = false ∧ ready.fw.session = .idle) ∧
    (open_.fw.session ≠ .idle ∧ open_.fw.target = 0) ∧
    ¬ (ready.rm.tripped = true ∨ ready.rm.brown.isSome = true ∨ ready.rm.vaon = false) ∧
    (Quiet held ∧ held.rm.brown.isSome = true) ∧
    (ready.rm.tripped = false ∧ ready.rm.vaon = true ∧ sensServes ready 35 = true ∧ (2000 : Int) ≤ 2000 ∧ (2400 : Int) ≤ 2400 ∧
      ready.mram.journal = []) ∧ (1999 : Int) < 2000 := by
  (repeat' apply And.intro) <;> decide +kernel

/-- TAMPER_N in reset and out of it, the ends of a wipe, and LREFCLK lost and returned at each stage (TamperAndClock). -/
theorem test_tamper_met :
    let wipe (r : List Nat) : State := { ready with spm := { ready.spm with wipeActive := true, wipeRetry := r } };
    let dark (sr : Bool) : State := { ready with rm := { ready.rm with lref := false }, jgl := { ready.jgl with selfRefresh := sr } };
    (Quiet (atStage .por) ∧ (atStage .por).rm.stage = .por ∧ ready.rm.stage ≠ .por) ∧
    (ready.spm.wipeActive = false ∧ (wipe []).spm.wipeActive = true ∧ (wipe []).spm.wipeRetry = [] ∧
      15 ∈ (wipe [15]).spm.wipeRetry ∧ bankPhys (wipe [15]) 15 < 512) ∧
    (ready.rm.lref = true ∧ (atStage .train).rm.stage = .train ∧ ready.rm.stage = .ready) ∧
    (Quiet (dark true) ∧ (dark true).rm.lref = false ∧ (dark true).jgl.selfRefresh = true ∧
      (dark true).jgl.state ≠ .switching ∧ (dark false).jgl.selfRefresh = false) := by
  (repeat' apply And.intro) <;> decide +kernel

/-- Mailbox packets and requests: good and bad, whole and not, of this vendor and of another; requests too many, too short,
refused, a NOP and a CAL_READ; responses and control messages (MailboxMessages). -/
theorem test_mailbox_met :
    let p : McPacket := ⟨0x40, true, true, true, 0, 7, [0x7E] ++ leBytes 2 0x1F2B ++ [1, 0, 0, 0]⟩;
    let busy : State := { ready with hq := { ready.hq with
      mboxOut := [0, 1, 2, 3], mboxResp := [(0, true)], assembling := [⟨7, [], 2⟩] } };
    let nopB := packetBytes (hdrOf (.mbox 7)) .nop;
    (Quiet ready ∧ p.msgTag < 8 ∧ p.addr = 0x40 + ready.rm.smbAddr % 8 ∧ p.pecOk = true ∧ p.bytes.length ≤ 64 ∧
      p.som = true) ∧
    (byteAt p.bytes 0 = 0x7E ∧ leAt p.bytes 1 2 = 0x1F2B ∧ byteAt p.bytes 3 = 1 ∧ 7 ≤ p.bytes.length ∧
      leAt ([0] : List Byte) 1 2 ≠ 0x1F2B) ∧
    (assemblyOf 7 busy = some ⟨7, [], 2⟩ ∧ 2 % 4 = 2 ∧ 3 % 4 ≠ 2 ∧ { p with som := false }.som = false) ∧
    ({ p with pecOk := false }.pecOk = false ∧ { p with addr := 0x47 }.addr ≠ 0x40 + ready.rm.smbAddr % 8 ∧ { p with eom := false }.eom = false) ∧
    ((assemblyOf 7 busy).isSome = true ∧ assemblyOf 7 ready = none) ∧
    (served (atStage .load) = false ∧ served ready = true ∧ 4 ≤ busy.hq.mboxOut.length ∧ ready.hq.mboxOut.length < 4) ∧
    (parseHead ([] : List Byte)).length < 4 ∧
    (4 ≤ (parseHead nopB).length ∧ 4 * (parseHead nopB).length ≤ nopB.length ∧ packetCheck nopB = .ok .nop) ∧
    packetCheck (packetBytes (hdrOf (.mbox 7)) (.calRead ⟨0, 1, false⟩)) = .ok (.calRead ⟨0, 1, false⟩) ∧
    packetCheck ([0x7F, 0, 4] ++ fill 13 0) = .error .unsupported ∧
    (ready.hq.mboxResp = [] ∧ busy.hq.mboxResp = (0, true) :: []) ∧ (atStage .por).rm.stage = .por ∧
    ready.rm.stage ≠ .por ∧ (8 : Nat) ≠ 0 ∧ (8 : Nat) ≠ 0xFF := by
  (repeat' apply And.intro) <;> decide +kernel

/-! ### The mesh and the clock -/

/-- The first 30 bytes of a frame from device 2 with TYPE `t`, to `dst` with HOPS `hops`, link sequence number 0 and time
stamp 0, that carries `units` units of 16 bytes. -/
def headWith (t : Byte) (cls dst hops units : Nat) : List Byte :=
  leBytes 1 cls ++ [t] ++ leBytes 2 (3 + units) ++ leBytes 2 dst ++ leBytes 2 2 ++ leBytes 1 hops ++ fill 21 0

/-- The frame with this payload. -/
def frameWith (t : Byte) (cls dst hops : Nat) (payload : List Byte) : List Byte :=
  let h := headWith t cls dst hops (payload.length / 16);
  h ++ (leBytes 2 ((crc32c h).toNat % 65536) ++ (payload ++ (fill 12 0 ++ leBytes 4 (crc32c payload).toNat)))

/-- The head of a frame of TYPE `t` passes the checks that need no link. -/
def headPasses (t : Byte) (cls units : Nat) (h : List Byte) : Bool :=
  decide (h.length = 30) && leAt h 9 1 == 0 && leAt h 2 2 == 3 + units && decide (units ≤ 256) && leAt h 0 1 == cls &&
    byteAt h 1 == t && decide (leAt h 4 2 < 16384) && decide (leAt h 10 1 < 2) && byteAt h 11 == 0 && zeroBytes h 28 30

/-- A frame of a class and type from device 2. -/
def frameOn (cls kind dst hops : Nat) (payload : List Byte) : List Byte :=
  frameWith (Config.meshType cls kind) cls dst hops payload

theorem frameWith_passes (t : Byte) (cls dst hops n : Nat) (payload : List Byte) (hn : payload.length = 16 * n)
    (hh : headPasses t cls n (headWith t cls dst hops n) = true) :
    frameCrcOk (frameWith t cls dst hops payload) = true ∧ frameLseq (frameWith t cls dst hops payload) = 0 ∧
      (∀ kind, Config.meshType cls kind = t → frameFormOk cls kind (frameWith t cls dst hops payload) = true) ∧
      framePayload (frameWith t cls dst hops payload) = payload := by
  have hu : payload.length / 16 = n := by omega
  unfold frameWith
  rw [hu]
  dsimp only
  generalize headWith t cls dst hops n = h at hh ⊢
  simp only [headPasses, Bool.and_eq_true, decide_eq_true_eq, beq_iff_eq] at hh
  obtain ⟨⟨⟨⟨⟨⟨⟨⟨⟨hl, h9⟩, h2⟩, hu'⟩, h0⟩, h1⟩, h4⟩, h10⟩, h11⟩, hz⟩ := hh
  have hlen : (h ++ (leBytes 2 ((crc32c h).toNat % 65536) ++ (payload ++ (fill 12 0 ++
      leBytes 4 (crc32c payload).toNat)))).length = 16 * (3 + n) := by
    simp [hl, hn, fill]; omega
  have hpay : framePayload (h ++ (leBytes 2 ((crc32c h).toNat % 65536) ++ (payload ++ (fill 12 0 ++
      leBytes 4 (crc32c payload).toNat)))) = payload := by
    unfold framePayload slice
    rw [hlen, show 16 * (3 + n) - 48 = payload.length by omega]
    generalize (crc32c h).toNat % 65536 = c
    rw [List.drop_append, List.drop_eq_nil_of_le (by omega), List.nil_append, hl, List.drop_left' (by simp)]
    exact List.take_left' rfl
  refine ⟨?_, ?_, ?_, hpay⟩
  · simp only [frameCrcOk, hpay, Bool.and_eq_true, decide_eq_true_eq]
    refine ⟨⟨by omega, ?_⟩, ?_⟩
    · rw [leAt_skip _ _ _ _ (by omega), hl, Nat.sub_self, leAt_here, List.take_left' hl]
      exact Nat.mod_eq_of_lt (Nat.mod_lt _ (by omega))
    · have hf : (fill 12 0 : List Byte).length = 12 := rfl
      have h2' : (leBytes 2 ((crc32c h).toNat % 65536)).length = 2 := by simp
      rw [hlen, leAt_skip _ _ _ _ (by omega), leAt_skip _ _ _ _ (by omega), leAt_skip _ _ _ _ (by omega),
        leAt_skip _ _ _ _ (by omega), hf, h2',
        show 16 * (3 + n) - 4 - h.length - 2 - payload.length - 12 = 0 by omega, leAt_end]
      exact Nat.mod_eq_of_lt (crc32c payload).isLt
  · rw [frameLseq, leAt_front _ _ _ _ (by omega), h9]
  · intro kind hk
    simp only [frameFormOk, Bool.and_eq_true, decide_eq_true_eq, beq_iff_eq, hk, hlen]
    rw [leAt_front _ _ 2 _ (by omega), leAt_front _ _ 0 _ (by omega), byteAt_front _ _ 1 (by omega),
      leAt_front _ _ 4 _ (by omega), leAt_front _ _ 10 _ (by omega), byteAt_front _ _ 11 (by omega),
      zeroBytes_front _ _ _ _ (by omega) (by omega)]
    exact ⟨⟨⟨⟨⟨⟨⟨by omega, by omega, by omega⟩, h0⟩, h1⟩, h4⟩, h10⟩, h11⟩, hz⟩

/-- A frame without a session passes the checks of its link. -/
theorem frameArrives_of (p cls kind dst hops n : Nat) (payload : List Byte) (s : State) (hq : Quiet s) (hp : p < 6)
    (hn : payload.length = 16 * n) (hh : ∀ t, headPasses t cls n (headWith t cls dst hops n) = true)
    (h : (meshPasses (meshPort s p).link cls && (meshPort s p).rxSeq == 0 && (meshPort s p).session.isNone) = true) :
    FrameArrives p cls kind (frameOn cls kind dst hops payload) s := by
  simp only [Bool.and_eq_true, beq_iff_eq, Option.isNone_iff_eq_none] at h
  obtain ⟨⟨h1, h2⟩, h3⟩ := h
  obtain ⟨c, l, f, -⟩ := frameWith_passes _ cls dst hops n payload hn (hh (Config.meshType cls kind))
  refine ⟨hq, hp, h1, c, l.trans h2.symm, ?_, f kind rfl⟩
  rw [frameMacOk, h3]

/-- This device is number 1; port 0 is in a state of its link. -/
def meshed (l : MeshLink) : State := { ready with trz := { ready.trz with
  ctrl := 1, id := 0x40000001, ports := [(0, { link := l })] } }

/-- The same with other fields of port 0. -/
def meshPort0 (m : MeshPort) : State := { meshed .active with trz := { (meshed .active).trz with ports := [(0, m)] } }

/-- Frames of another class than the link passes, with a broken CRC, out of sequence before and after a NAK, with a wrong MAC
for the first and the third time, and malformed; a frame formed with a session and one without (FramesAreChecked). -/
theorem test_frames_met :
    let s := meshed .active;
    let b := frameOn 6 kMessage 1 64 [];
    let nak := meshPort0 { link := .active, rxNak := true, rxSeq := 5 };
    let auth := meshPort0 { link := .active, session := some 0, macFails := [mtOf ready, mtOf ready] };
    let f : MeshFrame := ⟨6, kMessage, [], [], [], 1, 2, 64, .fixed 0, 0, 1, none⟩;
    (frameCrcOk b = true ∧ frameLseq b = 0) ∧
    (frameRow (.trzUserMsgRx 0 b 0 []) = some (0, 6, kMessage, b) ∧ Quiet s ∧
      meshPasses (meshPort (meshed .training) 0).link 6 = false) ∧
    (meshPasses (meshPort s 0).link 6 = true ∧ frameCrcOk [] = false ∧ (meshPort s 0).rxNak = false ∧
      (meshPort s 0).waiting = [] ∧ 0 < creditOf (meshPort s 0) 0) ∧
    ((meshPort nak 0).rxNak = true ∧ frameLseq [] ≠ (meshPort nak 0).rxSeq) ∧
    ((meshPort s 0).rxSeq = 0 ∧ frameMacOk (meshPort s 0) 6 b = true ∧ frameFormOk 5 kRequest b = false) ∧
    (frameMacOk (meshPort auth 0) 6 b = false ∧ (meshPort auth 0).rxSeq = 0 ∧
      3 ≤ (mtOf auth :: (meshPort auth 0).macFails.filter fun t => decide (mtOf auth < t + 1000)).length ∧
      (mtOf s :: (meshPort s 0).macFails.filter fun t => decide (mtOf s < t + 1000)).length < 3) ∧
    (f.cls < 7 ∧ f.payload.length % 16 = 0 ∧ f.payload.length ≤ 4096 ∧ f.ctr = 1 ∧ (meshPort auth 0).rxCtr + 1 = 1 ∧
      (meshPort auth 0).session = some 0) := by
  refine ⟨?_, ?_⟩
  · obtain ⟨c, l, -, -⟩ := frameWith_passes (Config.meshType 6 kMessage) 6 1 64 0 [] rfl
      ((by decide +kernel : ∀ t, headPasses t 6 0 (headWith t 6 1 64 0) = true) _)
    exact ⟨c, l⟩
  · (repeat' apply And.intro) <;> first | rfl | decide +kernel

/-- The halo fragment of one byte for the left edge of plane 0, padded to 16 bytes behind its subheader. -/
def haloPayload : List Byte := [0, 1, 1, 0] ++ leBytes 4 0 ++ leBytes 2 0 ++ [0, 0] ++ fill 4 0 ++ fill 16 7

/-- What waits for answers over the mesh: a message, a command, a frame's data, with the receive ring full. -/
def asked : State := { meshed .active with
  hq := { ready.hq with ha := { ready.hq.ha with linkUp := true } }
  trz := { (meshed .active).trz with
    sends := [(9, sqHdr)], gwOut := [(9, sqHdr, 1)]
    dataReqs := [⟨sqHdr, .frameSubmit ⟨0, 64, 0, 0, false⟩, [(9, none)]⟩,
      ⟨sqHdr, .frameSubmit ⟨0, 64, 0, 0, false⟩, [(10, none), (11, none)]⟩]
    accept0 := 0x80000002, gws := [(0, { id := 0x80000002, base := 0, limit := 63 })]
    ring := List.replicate 64 (0, 0, 0), ports := [(0, { link := .active }), (1, { link := .active })], routes := [(3, 1)] }
  scene := { ready.scene with frames := [frameOf .landing (.stream sqHdr 3)] } }

/-- Frames that pass: forwarded and dropped, delivered and not for want of room, acknowledgements, data requests and
responses, commands and completions, halo and authentication (FramesAct). -/
theorem test_framesAct_met :
    let s := meshed .active;
    (FrameArrives 0 6 kMessage (frameOn 6 kMessage 3 1 []) s ∧ FrameArrives 0 6 kMessage (frameOn 6 kMessage 3 64 []) asked) ∧
    (FrameArrives 0 6 kMessage (frameOn 6 kMessage 1 64 []) s ∧ FrameArrives 0 6 kMsgAck (frameOn 6 kMsgAck 1 64 []) asked) ∧
    (FrameArrives 0 5 kRequest (frameOn 5 kRequest 1 64 []) asked ∧
      FrameArrives 0 5 kResponse (frameOn 5 kResponse 1 64 []) asked) ∧
    (FrameArrives 0 4 kCommand (frameOn 4 kCommand 1 64 []) asked ∧
      FrameArrives 0 4 kCompletion (frameOn 4 kCompletion 1 64 []) asked) ∧
    (FrameArrives 0 3 kFragment (frameOn 3 kFragment 1 64 haloPayload) s ∧
      FrameArrives 0 3 kCancel (frameOn 3 kCancel 1 64 []) s) ∧
    (FrameArrives 0 2 kHello (frameOn 2 kHello 1 64 []) (meshed .auth) ∧
      FrameArrives 0 2 kProof (frameOn 2 kProof 1 64 []) (meshed .auth)) := by
  refine ⟨⟨?_, ?_⟩, ⟨?_, ?_⟩, ⟨?_, ?_⟩, ⟨?_, ?_⟩, ⟨?_, ?_⟩, ?_, ?_⟩
  all_goals first
    | exact frameArrives_of _ _ _ _ _ 0 _ _ ⟨rfl, rfl, rfl, rfl⟩ (by decide) rfl (by decide +kernel) (by decide +kernel)
    | exact frameArrives_of _ _ _ _ _ 2 _ _ ⟨rfl, rfl, rfl, rfl⟩ (by decide) rfl (by decide +kernel) (by decide +kernel)

/-- What else these frames meet: routes and room, answers awaited, gateways that are listed and are not, commands whole and
in pieces (FramesAct). -/
theorem test_framesMeet_met :
    let s := meshed .active;
    (trzId s = 1 ∧ routeOf s 3 = 7 ∧ frameDst (frameOn 6 kMessage 3 1 []) = 3 ∧ frameHops (frameOn 6 kMessage 3 1 []) = 1 ∧
      frameHops (frameOn 6 kMessage 3 64 []) = 64 ∧ routeOf asked 3 = 1 ∧ meshActive asked 1 = true ∧
      (meshPort asked 1).waiting = [] ∧ 0 < creditOf (meshPort asked 1) 6) ∧
    (frameDst (frameOn 6 kMessage 1 64 []) = trzId asked ∧ s.trz.ring.length < 64 ∧ 64 ≤ asked.trz.ring.length ∧
      (asked.trz.sends.find? fun x => x.1 == 9) = some (9, sqHdr)) ∧
    (hostLink asked = some .ha ∧ gwWindow asked (frameSrc (frameOn 5 kRequest 1 64 [])) 0 64 = true ∧
      stagingOf sqHdr asked = some 3 ∧
      asked.trz.dataReqs.find? (fun r => r.parts.any fun q => q.1 == 9 && q.2.isNone) =
        some ⟨sqHdr, .frameSubmit ⟨0, 64, 0, 0, false⟩, [(9, none)]⟩ ∧
      asked.trz.dataReqs.find? (fun r => r.parts.any fun q => q.1 == 10 && q.2.isNone) =
        some ⟨sqHdr, .frameSubmit ⟨0, 64, 0, 0, false⟩, [(10, none), (11, none)]⟩) ∧
    (asked.trz.mgmtIn = [] ∧ gwAccepted s 2 = false ∧ gwAccepted asked 2 = true ∧ served asked = true ∧
      packetCheck (packetBytes (hdrOf (.mesh 0 2 9)) .nop) = .ok .nop ∧
      ¬ ((List.replicate 4096 (0xFF : Byte)).length < 4096 ∨
        4 * (parseHead (List.replicate 4096 0xFF)).length ≤ (List.replicate 4096 (0xFF : Byte)).length) ∧
      (asked.trz.gwOut.find? fun g => g.1 == 9) = some (9, sqHdr, 1)) ∧
    edgeOfPort s 0 = none := by
  (repeat' apply And.intro) <;> decide +kernel

/-- A halo fragment that joins its strip, and PROOFs that are right and wrong (FramesAct). -/
theorem test_halo_met :
    let s : State := { meshed .active with
      hom := { ready.hom with edge := Rws.of 0x03020108 }
      scn := { ready.scn with tickTb2 := 0, periodQ := 0 } };
    let a := meshPort0 { link := .auth, ownNonce := [1], peerNonce := [2] };
    let pl := haloPayload;
    FrameArrives 0 3 kFragment (frameOn 3 kFragment 1 64 haloPayload) s ∧
    framePayload (frameOn 3 kFragment 1 64 haloPayload) = pl ∧
    (edgeOfPort s 0 = some 0 ∧ leAt pl 1 1 = facingEdge 0 ∧
      targetOk s (timeQ (frameTs (frameOn 3 kFragment 1 64 haloPayload))) = true ∧
      geometryOk s 0 0 (leAt pl 0 1) (leAt pl 8 2) = true ∧ haloRoom s 0 = some 0 ∧
      stripHeld s 0 0 (leAt pl 0 1) = none ∧ pl.drop 16 ≠ [] ∧ leAt pl 4 4 + (pl.drop 16).length ≤ edgeAllowance 0 ∧
      fragAddr s 0 0 0 0 0 16 + 16 ≤ edgeAddr 0 0 + edgeAllowance 0 ∧ regIssues 2 (flits 0x1E8000000 16) s = true ∧
      fragAddr s 0 0 0 0 0 16 = 0x1E8000000 ∧ trnCheck s 0 18 .w 0x1E8000000 16 = .pass ∧
      dramInside s 0x1E8000000 16 = true) ∧
    ((meshPort a 0).ownNonce ≠ [] ∧ (meshPort a 0).peerNonce ≠ [] ∧ (meshPort a 0).link = .auth ∧
      proofOf a (meshPort a 0).peer (trzId a) (meshPort a 0).peerNonce (meshPort a 0).ownNonce ≠ []) := by
  refine ⟨frameArrives_of _ _ _ _ _ 2 _ _ ⟨rfl, rfl, rfl, rfl⟩ (by decide) rfl (by decide +kernel) (by decide +kernel),
    ?_, ?_⟩
  · exact (frameWith_passes _ 3 1 64 2 haloPayload rfl
      ((by decide +kernel : ∀ t, headPasses t 3 2 (headWith t 3 1 64 2) = true) _)).2.2.2
  · (repeat' apply And.intro) <;> decide +kernel

/-- A training set with the right sum: from device 2, of a kind. -/
def meshTs (kind sum : Byte) : TsBytes := fit 15 ([kind] ++ fill 6 0 ++ leBytes 2 2) ++ [sum]

/-- A training whose sixteen TS2 have come and gone. -/
def trained (m : MeshPort) : MeshPort := { m with link := .training, cfg := true, ts2Rx := 16, ts2Tx := 16 }

/-- A mesh port in each state of its link, with what each event needs (MeshPortsRun). -/
theorem test_meshPorts_met :
    let f : MeshFrame := ⟨6, kMessage, [], [], [], 3, 1, 64, .fixed 0, 3, 0, some 0⟩;
    let wide : State := { meshPort0 { link := .active, w := 15, laneOver := [15], replay := [f], credits := [(6, 1)] } with
      units := [(1024 * 4, ⟨.degraded, 0, 1, none, true, false⟩)]
      unitReqs := [⟨4, 0, .degraded, true⟩] };
    let waits := meshPort0 { link := .active, waiting := [f], naked := some 3, replay := [f] };
    (Quiet (meshed .active) ∧ meshTraining (meshPort (meshed .active) 0) = false ∧
      meshTraining (meshPort (meshed .training) 0) = true) ∧
    (tsCheck (meshTs 0x2D 0x2F) = true ∧ byteAt (meshTs 0x2D 0x2F) 0 = 0x2D ∧
      meshExpects (meshPort (meshed .training) 0) (leAt (meshTs 0x2D 0x2F) 7 2) = true ∧
      meshExpects ({ expect := 0x80000003 } : MeshPort) 2 = false ∧ (meshPort (meshPort0 (trained {})) 0).cfg = true ∧
      (meshPort (meshed .training) 0).cfg = false) ∧
    (tsCheck (meshTs 0x1E 0x20) = true ∧ byteAt (meshTs 0x1E 0x20) 0 = 0x1E ∧ bitOf (byteAt (meshTs 0x1E 0x20) 3) 0 = false ∧
      bitOf (byteAt (meshTs 0x1E 0x20) 3) 2 = false ∧ (6 : Nat) + 1 < 8 ∧ 8 ≤ (7 : Nat) + 1) ∧
    ((meshPort (meshed .training) 0).ts2Rx < 16 ∧ 16 ≤ (trained {}).ts2Rx ∧ 16 ≤ (trained {}).ts2Tx ∧
      meshExpects (trained { expect := 0x80000003 }) 2 = false ∧ meshExpects (trained {}) 2 = true ∧
      (trained {}).sparing = [] ∧ (trained { sparing := [15] }).sparing ≠ [] ∧ bitOf (trained {}).bad 15 = false ∧
      meshWidth (setBit ((trained {}).bad ||| ((trained {}).peerBad ||| 0)) 15) ≠ 0) ∧
    ((meshPort (meshed .retrain) 0).link = .retrain ∧ (meshPort (meshed .retrain) 0).fails = 0 ∧
      ({ fails := 1 } : MeshPort).fails ≠ 0) ∧
    ((meshPort (meshed .failed) 0).link = .failed ∧ meshEnabled (meshed .failed) 0 = true) ∧
    (Quiet wide ∧ (meshPort wide 0).link = .active ∧ 15 ∈ (meshPort wide 0).laneOver ∧ 0 ∉ (meshPort wide 0).laneOver ∧
      lastingTurn wide 4 0 = true ∧ (meshPort wide 0).w = 15 ∧ (unitOf wide 4 0).state = .degraded) ∧
    ((meshPort waits 0).waiting ≠ [] ∧ (meshPort wide 0).waiting = []) ∧
    ((meshPort (meshed .auth) 0).link = .auth ∧ (meshPort (meshed .authFail) 0).link = .authFail) ∧
    (((meshPort wide 0).replay.any fun f => f.lseq == 3) = true ∧ (meshPort wide 0).naked = none ∧
      (meshPort (meshTake 0 0 wide) 0).waiting = [] ∧
      ((meshPort (meshTake 0 0 wide) 0).credits.Pairwise fun a b => a.1 < b.1)) ∧
    ((meshPort waits 0).naked = some 3 ∧ ((meshPort waits 0).replay.any fun f => f.lseq == 3) = true) ∧
    (((meshPort waits 0).waiting.find? fun f => decide (4 ≤ f.cls)) = some f ∧ f.arrival = some 0 ∧
      (meshPort waits 0).link ≠ .disabled ∧ ((meshPort wide 0).waiting.find? fun f => decide (4 ≤ f.cls)) = none) ∧
    (asked.trz.gwOut.find? fun g => g.1 == 9) = some (9, sqHdr, 1) := by
  (repeat' apply And.intro) <;> decide +kernel

/-- The LINK frames that these ports receive (MeshPortsRun). -/
theorem test_linkFrames_met :
    let f : MeshFrame := ⟨6, kMessage, [], [], [], 3, 1, 64, .fixed 0, 3, 0, some 0⟩;
    let s := meshPort0 { link := .active, naked := some 3, replay := [f] };
    FrameArrives 0 0 kAck (frameOn 0 kAck 1 64 []) s ∧ FrameArrives 0 0 kNak (frameOn 0 kNak 1 64 []) s ∧
      FrameArrives 0 0 kCredit (frameOn 0 kCredit 1 64 []) s := by
  refine ⟨?_, ?_, ?_⟩ <;>
    exact frameArrives_of _ _ _ _ _ 0 _ _ ⟨rfl, rfl, rfl, rfl⟩ (by decide) rfl (by decide +kernel) (by decide +kernel)

/-- MESH_SENDs without an ID, too long, of nothing, without a route, refused, to this device and to another, and one that
waits for its acknowledgement (MeshSendWaits). -/
theorem test_meshSend_met :
    let s : State := { meshed .active with trz := { (meshed .active).trz with routes := [(1, 6)] } };
    let p : MeshSendP := ⟨1, 1, 0, false⟩;
    let full : State := { s with trz := { s.trz with
      ring := List.replicate 64 (0, 0, 0), sends := [(9, sqHdr)], routes := [(1, 6), (2, 0)] } };
    (Starts sqHdr (.meshSend p .refused) ready ∧ trzValid ready = false) ∧
    (Starts sqHdr (.meshSend { p with msgLen := 4097 } .refused) s ∧ trzValid s = true ∧ 4096 < (4097#32).toNat) ∧
    (Starts sqHdr (.meshSend p (.data [1])) s ∧ p.dst.toNat = trzId s ∧ routeOf s 1 ≠ 7 ∧ s.trz.ring.length < 64) ∧
    (Starts sqHdr (.meshSend p (.data [1])) full ∧ 64 ≤ full.trz.ring.length) ∧
    (Starts sqHdr (.meshSend { p with dst := 2, msgLen := 4096 } (.data [1])) full ∧ ¬ (2 = trzId full ∨ routeOf full 2 = 6) ∧
      routeOf full 2 ≠ 7 ∧ routeOf s 2 = 7) ∧
    (Quiet full ∧ (full.trz.sends.find? fun x => x.1 == 9) = some (9, sqHdr) ∧
      (s.trz.sends.find? fun x => x.1 == 9) = none) := by
  (repeat' apply And.intro) <;> decide +kernel

/-- Port 0, with nothing sent and nothing waiting, after it accepts a TIME frame. -/
theorem meshTake_met (s : State) (h : meshPort s 0 = { link := .active }) :
    (meshPort (meshTake 0 1 s) 0).waiting = [] ∧ 0 < creditOf (meshPort (meshTake 0 1 s) 0) 1 ∧
      ((meshPort (meshTake 0 1 s) 0).replay.map meshFrameSize).sum ≤ 258000 := by
  have hne : ∀ m : MeshPort, m.link = .active → m ≠ {} := by rintro m h rfl; cases h
  obtain ⟨s1, ht, h1⟩ : ∃ s1, meshTake 0 1 s = meshSendFrame 0 0 kCredit [1, 1] [] (meshSendFrame 0 0 kAck [0] [] s1) ∧
      meshPort s1 0 = { link := .active, rxSeq := 1 } := by
    refine ⟨modMesh 0 (fun m => { m with unacked := 0 }) (modMesh 0 (fun m => { m with
      rxSeq := (m.rxSeq + 1) % 256, rxNak := false, unacked := m.unacked + 1, linkOwed := if 1 = 0 then m.linkOwed + 1 else m.linkOwed
      rxCtr := if meshAuthed m 1 then m.rxCtr + 1 else m.rxCtr }) s), ?_, ?_⟩
    · unfold meshTake
      rw [h]
      simp only [ne_eq, one_ne_zero, not_false_eq_true, true_or, if_true]
      rfl
    · have e := meshPort_modMesh 0 (fun m => { m with
        rxSeq := (m.rxSeq + 1) % 256, rxNak := false, unacked := m.unacked + 1, linkOwed := if 1 = 0 then m.linkOwed + 1 else m.linkOwed
        rxCtr := if meshAuthed m 1 then m.rxCtr + 1 else m.rxCtr }) s (hne _ (by rw [h]))
      rw [meshPort_modMesh _ _ _ (hne _ (by rw [e, h])), e, h]
      rfl
  obtain ⟨l, w, c, r⟩ := meshSendFrame_leaves 0 kAck [0] [] s1 (by rw [h1]; rfl) (by rw [h1]) (by rw [h1]; decide)
    (by rw [h1]; decide)
  rw [h1] at l c r
  rw [ht]
  generalize meshSendFrame 0 0 kAck [0] [] s1 = s2 at l w c r ⊢
  have hc : creditOf (meshPort s2 0) 0 = 3 := by rw [creditOf, c]; rfl
  obtain ⟨-, w', c', r'⟩ := meshSendFrame_leaves 0 kCredit [1, 1] [] s2 (by rw [l]; rfl) w (by omega)
    (by simp at r; omega)
  refine ⟨w', ?_, by simp at r; omega⟩
  rw [creditOf, c', hc, c]
  decide

/-- A SYNC the device follows, UNLOCKED and LOCKED, below the outlier threshold and above, the delay messages, and what the
timers of the clock and of halo phase 2 meet (TimeIsFollowed). -/
theorem test_time_met :
    let s : State := { meshed .active with trz := { (meshed .active).trz with time := 0x70 } };
    let l : State := { s with clp := { s.clp with state := .locked, bad := 7 } };
    let gm : State := { s with trz := { s.trz with time := 0x170 } };
    let f : State := { s with scene := { s.scene with frames := [frameOf .admitted (.scene 0 0)] } };
    let b := frameOn 1 kSync 1 64 [];
    (FrameArrives 0 1 kSync b s ∧ FrameArrives 0 1 kPdelayReq (frameOn 1 kPdelayReq 1 64 []) s ∧
      FrameArrives 0 1 kPdelayResp (frameOn 1 kPdelayResp 1 64 []) s) ∧
    (syncFollows s 0 1 = true ∧ syncFollows gm 0 1 = false ∧ s.clp.state = .unlocked ∧ l.clp.state = .locked ∧
      syncFollows l 0 1 = true) ∧
    ((s.clp.outlier.toNat : Int) < (timeQ (frameTs b) + (0 : Int) - timeQ (put 1000000 16)).natAbs ∧
      ((timeQ (frameTs b) - timeQ (put 1000 16)).natAbs : Int) ≤ s.clp.outlier.toNat) ∧
    ((meshPort s 0).waiting = [] ∧ 0 < creditOf (meshPort s 0) 1 ∧ (meshPort s 0).replay = [] ∧
      (meshPort (meshTake 0 1 s) 0).waiting = [] ∧ 0 < creditOf (meshPort (meshTake 0 1 s) 0) 1 ∧
      ((meshPort (meshTake 0 1 s) 0).replay.map meshFrameSize).sum ≤ 258000) ∧
    (Quiet s ∧ meshActive s 0 = true ∧ isGm gm = true ∧ isGm s = false ∧ fld s.trz.time 2 0 = 0) ∧
    (s.clp.holdover = false ∧ s.trz.phase2 = false) ∧
    ((f.scene.frames.find? fun f => f.state == .preflight || f.state == .admitted) = some (frameOf .admitted (.scene 0 0)) ∧
      topBottomHeld f (frameOf .admitted (.scene 0 0)) = true) := by
  refine ⟨⟨?_, ?_, ?_⟩, ?_⟩
  · exact frameArrives_of _ _ _ _ _ 0 _ _ ⟨rfl, rfl, rfl, rfl⟩ (by decide) rfl (by decide +kernel) (by decide +kernel)
  · exact frameArrives_of _ _ _ _ _ 0 _ _ ⟨rfl, rfl, rfl, rfl⟩ (by decide) rfl (by decide +kernel) (by decide +kernel)
  · exact frameArrives_of _ _ _ _ _ 0 _ _ ⟨rfl, rfl, rfl, rfl⟩ (by decide) rfl (by decide +kernel) (by decide +kernel)
  · have h := meshTake_met { meshed .active with trz := { (meshed .active).trz with time := 0x70 } } rfl
    (repeat' apply And.intro) <;> first | exact h.1 | exact h.2.1 | exact h.2.2 | decide +kernel

/-! ### Juggler, scratchpad -/

/-- 20 channels of two ranks each, the first of them with an entry; a job, unit requests and unit entries. -/
def dramIn (job : Option JglJob) (reqs : List UnitReq) (units : Sparse UnitEntry) : State := { ready with
  unitReqs := reqs
  units := units
  jgl := { ready.jgl with
    cfg := 0x8, job := job, n := 1, stripes := 2 ^ 23, idleSpares := [5], chans := [(0, { ranks := 2 })] } }

/-- A unit's entry in a state, its last test passed. -/
def unitIn (st : UState) : UnitEntry := ⟨st, 0, 7, none, true, false⟩

/-- A retraining accepted and not; its failure with a spare rank, with a spare channel and with neither; the ends of each
copy; a fold and a re-base, and what a new limit leaves of a READY scene (ChannelsAreReplaced). -/
theorem test_channels_met :
    let up := [(0, unitIn .online)];
    let q := dramIn none [⟨0, 0, .online, true⟩] up;
    let tr := dramIn (some (.retrain 0)) [] up;
    let bare : State := { tr with jgl := { tr.jgl with idleSpares := [] } };
    let spare := dramIn (some (.retrain 0)) [] [(0, unitIn .online), (5, unitIn .offline)];
    let copy := dramIn (some (.chanCopy 0 5)) [] up;
    let fold : State := { dramIn (some (.foldCopy 0)) [] up with jgl := { (dramIn (some (.foldCopy 0)) [] up).jgl with
      fold := some 0, foldTop := 2 ^ 22, foldAck := true, poisoned := [8] } };
    let re := dramIn (some (.rebase 0)) [] ((List.range 9).map fun i => (i, unitIn .online));
    let reb : State := { re with jgl := { re.jgl with state := .rebase } };
    let x : SceneSlot := { state := .ready, base := 1, gib := 2, length := 256 };
    let rep : State := { withSlot {} with
      scene := { ready.scene with slots := [(0, x)] }, jgl := { ready.jgl with report := some 2 } };
    (Quiet ready ∧ spWf {} ready.jgl.chans = true ∧ lastingTurn ready 0 0 = false) ∧
    (Quiet q ∧ spWf {} q.jgl.chans = true ∧ lastingTurn q 0 0 = true ∧ unitUp (unitOf q 0 0) = true) ∧
    (Quiet tr ∧ tr.jgl.job = some (.retrain 0) ∧ unitUp (unitOf tr 0 0) = true ∧ spareRankOn tr = true ∧
      (chanOf tr 0).rankSpared = false ∧ spareChannel tr = none ∧ tr.jgl.fold.isNone = true ∧
      spareChannel spare = some 5 ∧ spare.jgl.job = some (.retrain 0) ∧ unitUp (unitOf spare 0 0) = true ∧
      spareChannel bare = none) ∧
    (dramIn (some (.rankCopy 0 1)) [] up).jgl.job = some (.rankCopy 0 1) ∧
    (Quiet copy ∧ copy.jgl.job = some (.chanCopy 0 5) ∧ (0 : Nat) ≠ 5 ∧ setWaits copy 0 0 = false ∧
      (copy.jgl.slotMap.Pairwise fun a b => a.1 < b.1)) ∧
    ((dramIn (some (.foldCopy 0)) [] up).jgl.fold = none ∧ (dramIn (some (.foldCopy 0)) [] up).jgl.foldAck = false) ∧
    (Quiet fold ∧ fold.jgl.job = some (.foldCopy 0) ∧ fold.jgl.foldAck = true ∧ fold.jgl.fold.isSome = true ∧
      setWaits fold 0 0 = false ∧ foldMoves fold.jgl 4 = true ∧ 8 ∈ fold.jgl.poisoned ∧ foldMoves fold.jgl 8 = true) ∧
    (Quiet re ∧ re.jgl.job = some (.rebase 0) ∧ re.scn.state = .stopped ∧ onState.scn.state ≠ .stopped) ∧
    (reb.jgl.state = .rebase ∧ setWaits reb 0 0 = false ∧ (rebaseChannels reb 0).length = 8 ∧
      0x1B8000000 ≤ 64 * (0x1B8000000 / 64) ∧ 64 * (0x1B8000000 / 64) < 0x200000000) ∧
    (ready.jgl.report = none ∧ Quiet rep ∧ rep.jgl.report = some 2 ∧ rep.scene.slots = [(0, x)] ∧ x.state = .ready ∧
      2 < x.base + x.gib ∧ x.base + x.gib ≤ 3) := by
  (repeat' apply And.intro) <;> decide +kernel

/-- Channels in and out of service, refreshes due and at their limit, a row crossing of a regulated port and of one that is
not, a scrub that runs, and the switches between operating points (DramIsKept). -/
theorem test_dram_met :
    let up := dramIn none [] [(0, unitIn .online)];
    let dg := dramIn none [] [(0, unitIn .degraded)];
    let at4 : State := { ready with jgl := { ready.jgl with chans := [(0, { postponed := [(1, 2)] })] } };
    let hot : State := { ready with th := { ready.th with restricted := true } };
    let low : State := { ready with jgl := { ready.jgl with state := .low } };
    let sw : State := { ready with jgl := { ready.jgl with state := .switching, switchTo := some .low } };
    (Quiet ready ∧ unitUp (unitOf ready 0 0) = false) ∧
    (Quiet up ∧ (unitOf up 0 0).state = .online ∧ (up.unitReqs.any fun r => r.cls == 0 && r.idx == 0) = false) ∧
    (spGet 0 (chanOf at4 0).postponed 0 < min (fld at4.jgl.ref 2 0) 4 ∧
      min (fld at4.jgl.ref 2 0) 4 ≤ spGet 0 (chanOf at4 0).postponed 1) ∧
    ((11 : Nat) < 16 ∧ (11 : Nat) < 12 ∧ (15 : Nat) < 16 ∧ 12 ≤ (15 : Nat) ∧ (3 : Nat) < 4) ∧
    (Quiet dg ∧ (chanOf dg 0).role = 0 ∧ (unitOf dg 0 0).state = .degraded ∧ (unitOf up 0 0).state ≠ .degraded) ∧
    (fld ready.jgl.scrub 7 0 ≠ 0 ∧ copyActive ready.jgl = false ∧ ready.jgl.state ≠ .switching ∧
      64 * (2 ^ 30 - 1) + 64 ≤ ready.jgl.limit ∧ copyActive (dramIn (some (.rankCopy 0 1)) [] []).jgl = true) ∧
    (Quiet hot ∧ noSwitch hot.jgl = false ∧ hot.jgl.state = .high ∧ wantsLow hot = true) ∧
    (noSwitch low.jgl = false ∧ low.jgl.state = .low ∧ wantsLow low = false ∧
      noSwitch (dramIn (some (.retrain 0)) [] []).jgl = true) ∧
    (Quiet sw ∧ sw.jgl.state = .switching ∧ sw.jgl.switchTo = some .low) := by
  (repeat' apply And.intro) <;> decide +kernel

/-- The host's accesses of each kind of bank at the ends of its words, corrected errors of banks in service and out, a
sparing request with a spare and without, and a copy with words that cannot be read (BanksAreServed). -/
theorem test_banks_met :
    let off : State := { ready with spm := { ready.spm with banks := [(16, { bankDflt 16 with power := .off })] } };
    let q : State := { ready with unitReqs := [⟨1, 16, .online, true⟩] };
    let none_ : State := { q with units := (List.range 32).map fun i => (1024 + 512 + i, unitIn .spared) };
    let dg : State := { ready with units := [(1024 + 16, unitIn .degraded)] };
    let cp : State := { ready with spm := { ready.spm with bringIn := some (16, 512, false, false) } };
    (Quiet ready ∧ ([0] : List Byte) ≠ [] ∧ 31 % 32 + ([0] : List Byte).length ≤ 32 ∧ (16 * bankSize - 1) / bankSize < 16) ∧
    (16 ≤ 16 * bankSize / bankSize ∧ (bankOf ready (bankPhys ready (16 * bankSize / bankSize))).power = .on ∧
      ready.spm.bringIn = none ∧ (List.replicate 32 (0 : Byte)).length = 32) ∧
    (Quiet off ∧ (bankOf off (bankPhys off (16 * bankSize / bankSize))).power = .off) ∧
    (unitUp (unitOf ready 1 543) = false ∧ unitUp (unitOf ready 1 16) = true ∧
      (ready.unitReqs.any fun r => r.cls == 1 && r.idx == 16) = false ∧ lastingTurn ready 1 16 = false) ∧
    (Quiet q ∧ lastingTurn q 1 16 = true ∧ spareBank (frontPop q) = some 512) ∧
    (Quiet none_ ∧ lastingTurn none_ 1 16 = true ∧ spareBank (frontPop none_) = none ∧
      unitUp (unitOf (frontPop none_) 1 16) = true) ∧
    (Quiet dg ∧ (unitOf dg 1 16).state = .degraded ∧ (unitOf ready 1 16).state ≠ .degraded) ∧
    (Quiet cp ∧ cp.spm.bringIn = some (16, 512, false, false) ∧ (16383 : Nat) < 16384 ∧ bankSecure cp 16 = false ∧
      bankSecure cp 0 = true) := by
  (repeat' apply And.intro) <;> decide +kernel

/-! ### The raster -/

/-- A pending change of the timing. -/
def retime (step : Nat) (r : RasterState) : State := { onState with
  scn := { onState.scn with
    state := r, timing := some timing60, retimeStep := step, jobs := [⟨sqHdr, timing60, none, false, true⟩] } }

/-- Ticks that may fall and may not, first and later, at step 3 of a retime; starts of the raster from a power-up and from
a retime; the ramp that ends at step 3 (TicksAndStarts). -/
theorem test_ticks_met :
    let ends : State := { onState with scn := { onState.scn with scan := { complete := true } } };
    let off3 : State := { retime 3 .aborted with pwr := { onState.pwr with state := .on } };
    let up5 : State := { ready with
      scn := { ready.scn with timing := some timing60 }, pwr := { ready.pwr with state := .poweringUp, step := 5 } };
    (Quiet ready ∧ tickAllowed ready = false) ∧
    (Quiet ends ∧ tickAllowed ends = true ∧ ends.scn.inForce.isSome = true ∧ ends.scn.retimeStep ≠ 3 ∧
      ends.pwr.state ≠ .poweringDown) ∧
    (Quiet off3 ∧ tickAllowed off3 = true ∧ off3.scn.inForce.isSome = true ∧ off3.scn.retimeStep = 3) ∧
    (startAllowed ready = false ∧ ready.scn.timing = none) ∧
    (Quiet up5 ∧ up5.scn.timing = some timing60 ∧ up5.scn.state = .stopped ∧ up5.pwr.state = .poweringUp ∧
      up5.pwr.step = 5 ∧ failedHandled up5 = true ∧ up5.scn.retimeStep ≠ 4) ∧
    (Quiet (retime 4 .stopped) ∧ (retime 4 .stopped).scn.timing = some timing60 ∧ startAllowed (retime 4 .stopped) = true ∧
      (retime 4 .stopped).pwr.state ≠ .poweringDown) ∧
    ((retime 2 .stopped).scn.retimeStep ≠ 3) ∧
    (Quiet (retime 3 .stopped) ∧ (retime 3 .stopped).scn.retimeStep = 3 ∧ (retime 3 .stopped).scn.state = .stopped ∧
      (retime 3 .stopped).scn.jobs = ⟨sqHdr, timing60, none, false, true⟩ :: []) := by
  (repeat' apply And.intro) <;> decide +kernel

/-- A timing of one region. -/
def timing1 : Timing := ⟨0, 8, 4, 60, 1⟩

/-- A streamed record with one plane of one tile, in staging slot 0: its entry, its plane and its tile table, each with the
CRC behind it. -/
def recordBytes : List Byte :=
  leBytes 8 32 ++ leBytes 4 192 ++ [1, 0] ++ fill 14 0 ++ leBytes 4 1034580021 ++
    ([0, 0, 0, 0, 2, 0, 1, 0, 0, 0, 1, 0, 1, 0, 0, 0] ++ fill 44 0 ++ leBytes 4 2487915988) ++
    ([1] ++ fill 15 0 ++ [2, 0, 0, 0, 1, 2, 0, 0] ++ leBytes 4 1055272091)

/-- The frame of that record in pre-flight, its edges captured, with each pipeline in service or none. -/
def inPreflight (lost : Bool) (map : Sparse Nat) : State := { onState with
  scn := { onState.scn with inForce := some timing1, timing := some timing1 }
  hom := { onState.hom with pipeMap := map }
  jgl := { onState.jgl with mem := memWrite 0 [] (2 ^ 32) recordBytes }
  scene := { onState.scene with frames := [{ frameOf .preflight (.stream sqHdr 0) with
    entryAddr := 2 ^ 32, block := 2 ^ 32 + 32, length := 192, room := 224, maxPlanes := 1, edge := some 0
    stagingLost := lost }] } }

/-- A frame in pre-flight before its edges are captured, one whose staging was given up, one with a tile table that cannot
be read, one within its budget and one above it (ScansRun). -/
theorem test_preflight_met :
    let s := inPreflight false [];
    let no := inPreflight false ((List.range 64).map fun p => (p, 0x7F));
    let fits (s : State) : Bool := match frameIn s .preflight with
      | some f =>
        let u := pfNotes f s
        let c := costOf u (captureFrame u f) timing1 (pfPipes u)
        c.failRow == none && decide (c.total ≤ (pfBudget timing1 (pfPipes u)).1)
      | none => true;
    let checks (s : State) : Bool := match frameIn s .preflight with
      | some f => f.edge.isSome && !frameLost f && (tableRead (some 0) f (pfNotes f s)).1.isSome &&
          (tablePoisoned (pfNotes f s) f).isNone && (pfChecks (pfNotes f s) f).isNone
      | none => false;
    let before : State := { onState with scene := { onState.scene with frames := [frameOf .preflight (.stream sqHdr 0)] } };
    (Quiet onState ∧ frameIn onState .preflight = none) ∧
    (Quiet before ∧ frameIn before .preflight = some (frameOf .preflight (.stream sqHdr 0)) ∧
      (frameOf .preflight (.stream sqHdr 0)).edge = none ∧ pfTiming before = some timing60) ∧
    (Quiet s ∧ pfTiming s = some timing1 ∧ checks s = true ∧ fits s = true) ∧
    (Quiet no ∧ pfTiming no = some timing1 ∧ checks no = true ∧ fits no = false) ∧
    (Quiet (inPreflight true []) ∧ ((frameIn (inPreflight true []) .preflight).map fun f => (f.edge.isSome, frameLost f)) =
      some (true, true)) := by
  (repeat' apply And.intro) <;> decide +kernel

/-- Lines blank and active, complete, missed and taken by a failed pipeline, of a scan and of a hold tick; scans that end
with the raster quiet and not; extensions and the wake of the links; a pipeline that is mapped and one that is not
(ScansRun). -/
theorem test_scans_met :
    let env : LineEnv := ⟨true, 0, 0, [], [], [], [], []⟩;
    let syn : State := { onState with scn := { onState.scn with scan := { synth := true } } };
    let hold_ : State := { onState with scn := { onState.scn with scan := { synth := true, holdTick := true } } };
    let bad : State := { syn with hom := { syn.hom with suppressed := some 0 } };
    let last : State := { onState with scn := { onState.scn with scan := { synth := true, line := linesA timing60 } } };
    let quiet_ : State := { last with crsl := { last.crsl with quiet := 24 } };
    let h : State := { onState with
      scn := { onState.scn with state := .hold, inExtension := true, exitCause := none }
      px := { onState.px with groups := [(0, { link := .sleep }), (1, { link := .sleep, bcDown := true })] } };
    (Quiet onState ∧ onState.scn.state = .run ∧ onState.scn.scan.synth = false ∧ onState.scn.scan.complete = false ∧
      ready.scn.state ≠ .run) ∧
    (onState.scn.inForce = some timing60 ∧ 0 < linesB timing60 ∧ linesB timing60 - 1 < linesB timing60 ∧
      onState.scn.line < linesB timing60 - 1) ∧
    (Quiet syn ∧ syn.scn.inForce = some timing60 ∧ syn.scn.state = .run ∧ syn.scn.scan.synth = true ∧
      syn.scn.scan.line < linesA timing60 ∧ syn.scn.scan.holdTick = false ∧ pipeTakes syn syn.scn.scan.line = false ∧
      env.complete = true ∧ pipeTakes bad bad.scn.scan.line = true ∧ Quiet bad ∧ hold_.scn.scan.holdTick = true) ∧
    (pipeLogical onState 71 = none ∧ (pipeLogical syn 0).isSome = true ∧ syn.scn.scan.complete = false) ∧
    (Quiet last ∧ last.scn.inForce = some timing60 ∧ last.scn.state = .run ∧ last.scn.scan.holdTick = false ∧
      last.scn.scan.complete = false ∧ linesA timing60 ≤ last.scn.scan.line ∧ holdMult last = 0 ∧ Quiet quiet_ ∧
      holdMult quiet_ = 3) ∧
    (Quiet h ∧ h.scn.inForce.isSome = true ∧ h.scn.state = .hold ∧ h.scn.inExtension = true ∧
      (grp h 0).link = .sleep ∧ (grp h 1).bcDown = true ∧ (grp h 31).link ≠ .sleep) := by
  (repeat' apply And.intro) <;> decide +kernel

/-- The sparing request of a pipeline with spares and without; pipelines DEGRADED and not (PipelinesAreSpared). -/
theorem test_pipelines_met :
    let q : State := { ready with unitReqs := [⟨2, 63, .online, true⟩] };
    let none_ : State := { q with units := (List.range 8).map fun i => (2048 + 64 + i, unitIn .spared) };
    let dg : State := { ready with units := [(2048, unitIn .degraded)] };
    (Quiet ready ∧ lastingTurn ready 2 63 = false) ∧
    (Quiet q ∧ lastingTurn q 2 63 = true ∧ pipeLogical q 63 = some 63 ∧
      pipeSpares (frontPop q) = 64 :: [65, 66, 67, 68, 69, 70, 71]) ∧
    (Quiet none_ ∧ lastingTurn none_ 2 63 = true ∧ pipeLogical none_ 63 = some 63 ∧ pipeSpares (frontPop none_) = []) ∧
    (Quiet dg ∧ (unitOf dg 2 0).state = .degraded ∧ (unitOf ready 2 0).state ≠ .degraded) := by
  (repeat' apply And.intro) <;> decide +kernel

/-! ### Panel power, the panel link, temperature -/

/-- The panel in a state of its power at a step. -/
def inPower (st : PwrState) (step : Nat) : State := { panelReady with pwr := { panelReady.pwr with state := st, step := step } }

/-- The same with the links of groups 0 and 1 in a state. -/
def withLinks (l0 l1 : LinkState) (s : State) : State := { s with px := { s.px with groups := [(0, { link := l0 }), (1, { link := l1 })] } }

/-- A power-up in each of its steps: a power-good that rises, the end of its 2 MT, a bound that expires, and the ramp
(PanelPowersUp). -/
theorem test_powersUp_met :
    let pg (n : Nat) : State := { inPower .poweringUp 6 with pwr := { (inPower .poweringUp 6).pwr with pg := n } };
    let settle (k : Nat) : State := { inPower .poweringUp k with pwr := { (inPower .poweringUp k).pwr with settling := true } };
    let ramp (up : Bool) : State := { inPower .poweringUp 7 with pwr := { (inPower .poweringUp 7).pwr with ramp := some ⟨up, 0, 10⟩ } };
    (Quiet (inPower .poweringUp 1) ∧ (inPower .poweringUp 1).pwr.state = .poweringUp ∧
      (inPower .poweringUp 1).pwr.undoing = false ∧ (inPower .poweringUp 1).pwr.step = 1 ∧
      (inPower .poweringUp 3).pwr.step = 3 ∧ (inPower .poweringUp 4).pwr.step = 4) ∧
    (Quiet (pg 24) ∧ (pg 24).pwr.step = 6 ∧ pgHigh (pg 24) 3 = true ∧ pgHigh (pg 24) 4 = true ∧ ready.pwr.state ≠ .poweringUp) ∧
    (ready.pwr.settling = false ∧ Quiet (settle 1) ∧ (settle 1).pwr.settling = true ∧
      (servingGroups (settle 1)).all (groupTrained (settle 1)) = false ∧ (settle 3).pwr.step = 3 ∧ (settle 4).pwr.step = 4 ∧
      (settle 6).pwr.step = 6) ∧
    (((servingGroups (inPower .poweringUp 2)).any fun g => (grp (inPower .poweringUp 2) g).link == .active) = false) ∧
    (let s := withLinks .active .failed (inPower .poweringUp 2);
      Quiet s ∧ s.pwr.step = 2 ∧ s.pwr.settling = false ∧ ((servingGroups s).any fun g => (grp s g).link == .active) = true) ∧
    (ready.pwr.ramp = none ∧ Quiet (ramp true) ∧ (ramp true).pwr.ramp = some ⟨true, 0, 10⟩ ∧ (ramp true).pwr.step = 7 ∧
      (ramp false).pwr.ramp = some ⟨false, 0, 10⟩ ∧ (ramp false).pwr.state ≠ .poweringDown) := by
  (repeat' apply And.intro) <;> decide +kernel

/-- A power-down in each of its steps, with discharge and without, to OFF, to FAULTED and on to a power-up; a power-good
lost; an overvoltage; an undervoltage at VMAX and below (PanelPowersDown). -/
theorem test_powersDown_met :
    let at_ (f : Pwr → Pwr) : State := { inPower .poweringDown 0 with pwr := f (inPower .poweringDown 0).pwr };
    let run : State := { inPower .on 0 with
      scn := { panelReady.scn with state := .run, inForce := some timing60 }
      pwr := { (inPower .on 0).pwr with pg := 1, enLogic := true, r := { map := 0x03E803E8, lim := 0x0FA007D0, vset := 4000, uv := true } } };
    let s2 := at_ fun p => { p with step := 2, ramp := some ⟨false, 0, 10⟩, pg := 8 };
    let s3 := at_ fun p => { p with step := 3, pg := 8, ctrl := 0xE };
    let s6 := at_ fun p => { p with step := 6 };
    let dis : State := { run with pwr := { run.pwr with state := .poweringDown, disch := true } };
    (Quiet s2 ∧ s2.pwr.state = .poweringDown ∧ s2.pwr.ramp = some ⟨false, 0, 10⟩ ∧ s2.pwr.step = 2 ∧ vledUp s2 = true ∧
      vledPgLow s2 = false) ∧
    (Quiet s3 ∧ s3.pwr.step = 3 ∧ s3.pwr.settling = false ∧ s3.pwr.fastRun = false ∧ vledPgLow s3 = false ∧
      bitOf s3.pwr.ctrl 1 = true ∧ vledPgLow (at_ fun p => { p with step := 3, settling := true }) = true) ∧
    (ready.pwr.state ≠ .poweringDown ∧ ready.pwr.disch = false ∧ Quiet dis ∧ dis.pwr.disch = true ∧
      dis.pwr.fastRun = false ∧ dis.scn.state ≠ .stopped) ∧
    (Quiet s6 ∧ s6.pwr.undoing = false ∧ s6.pwr.step = 6 ∧ s6.pwr.fastRun = false ∧
      (at_ fun p => { p with step := 6, enBias := true }).pwr.enBias = true ∧ s6.pwr.enBias = false ∧
      (at_ fun p => { p with step := 6, enGate := true }).pwr.enGate = true ∧ s6.pwr.enGate = false ∧
      (at_ fun p => { p with step := 6, enLogic := true }).pwr.enLogic = true ∧ railsOn s6 = false ∧
      s6.pwr.toFaulted = false ∧ s6.scn.jobs = [] ∧ s6.pwr.onDue = false) ∧
    ((at_ fun p => { p with step := 6, onDue := true }).pwr.onDue = true ∧ s6.cal.running = none ∧ noService s6 = false ∧
      s6.scn.timing.isSome = true ∧ mapOk s6.pwr.r = true ∧ mapOk s6.pwr.g = true ∧ mapOk s6.pwr.b = true ∧
      (at_ fun p => { p with step := 6, toFaulted := true }).pwr.toFaulted = true) ∧
    (Quiet run ∧ pgHigh run (pgBit .gate) = false ∧ pgHigh run (pgBit .logic) = true ∧ railEn run .logic = true ∧
      run.pwr.state = .on ∧ run.pwr.undoing = false ∧ run.pwr.fastRun = false ∧ (2 : Nat) < 3 ∧ (0 : Nat) ≠ 2) ∧
    (([0, 1, 2].any fun c => (vrail ready c).uv && decide ((vrail ready c).vset = vMax (vrail ready c))) = false ∧
      ([0, 1, 2].any fun c => (vrail run c).uv && decide ((vrail run c).vset = vMax (vrail run c))) = true ∧
      vledUp { run with pwr := { run.pwr with pg := 9 } } = true ∧ run.scn.state ≠ .stopped) := by
  (repeat' apply And.intro) <;> decide +kernel

/-- The loop armed and not, with HEADROOM_EN and without, a measurement missing, below the margin, in the dead band and
above it; partners stale for 8 ticks (HeadroomIsHeld). -/
theorem test_headroom_met :
    let s (m : Nat) (complete : Bool) : State := { inPower .on 0 with
      pwr := { (inPower .on 0).pwr with scanEnded := true, lastComplete := complete, staleTicks := 8 }
      px := { panelReady.px with groups := [(0, { headroom := some ([m, m, m], [0, 0, 0]) })] } };
    (Quiet ready ∧ loopArmed ready = false ∧ ready.pwr.staleTicks < 8) ∧
    (Quiet (s 299 true) ∧ loopArmed (s 299 true) = true ∧ (s 299 true).pwr.scanEnded = true ∧
      bitOf (s 299 true).pwr.ctrl 3 = true ∧ hminOf (s 299 true) 0 = some (299, 0) ∧
      ((299 : Nat) : Int) - fld (s 299 true).pwr.margin 15 0 < 0 ∧ 8 ≤ (s 299 true).pwr.staleTicks) ∧
    (hminOf (s 401 true) 2 = some (401, 0) ∧ (0 : Int) ≤ (401 : Nat) - fld (s 401 true).pwr.margin 15 0 ∧
      (fld (s 401 true).pwr.margin 31 16 : Int) < (401 : Nat) - fld (s 401 true).pwr.margin 15 0 ∧
      (s 401 true).pwr.lastComplete = true ∧ anyStale (s 401 true) = false ∧ (vrail (s 401 true) 2).uv = false) ∧
    (((400 : Nat) : Int) - fld (s 400 true).pwr.margin 15 0 ≤ fld (s 400 true).pwr.margin 31 16 ∧
      (s 401 false).pwr.lastComplete = false) ∧
    (hminOf (s 0xFFFF true) 1 = none ∧ fld (vrail (s 400 true) 0).map 31 16 ≠ 0) ∧
    (bitOf { s 299 true with pwr := { (s 299 true).pwr with ctrl := 0x4 } }.pwr.ctrl 3 = false) := by
  (repeat' apply And.intro) <;> decide +kernel

/-- Link training enabled, with group 0's link in a state. -/
def linkIn (x : Group) : State := { ready with px := { ready.px with ctrl := 1, groups := [(0, x)] } }

/-- A training set of a kind with a slice. -/
def pxTs (kind slice : Byte) : TsBytes := [kind, 0, slice] ++ fill 12 0 ++ [kind + slice]

/-- A group in each state of its link with what each event needs, its sparing request with a spare and without, the
training event that ends step 2 and the ones that do not (GroupsTrain). -/
theorem test_groups_met :
    let on : State := { ready with px := { ready.px with ctrl := 1 } };
    let dual : State := { ready with
      px := { ready.px with ctrl := 3 }, unitReqs := [⟨3, 0, .online, true⟩], units := [(3072 + 30, unitIn .offline)] };
    let alone : State := { ready with unitReqs := [⟨3, 0, .online, true⟩] };
    let test_ : State := { linkIn { link := .trainEq } with units := [(3072, unitIn .test)] };
    let dg : State := { ready with units := [(3072, unitIn .degraded)] };
    let start (n step : Nat) : State := { inPower .poweringUp step with px := { panelReady.px with
      groups := (0, { link := .active }) :: (List.range n).map fun i => (i + 1, { link := .failed }) } };
    (Quiet ready ∧ spWf {} ready.px.groups = true ∧ ready.pwr.state ≠ .poweringUp ∧ bitOf ready.px.ctrl 0 = false) ∧
    (Quiet on ∧ bitOf on.px.ctrl 0 = true ∧ (grp on 0).link = .disabled ∧ serves on 0 = true ∧ mayTrain on 0 = true ∧
      mayTrain on 31 = false) ∧
    (Quiet (linkIn { link := .detect }) ∧ spWf {} (linkIn { link := .detect }).px.groups = true ∧
      (grp (linkIn { link := .detect }) 0).link = .detect ∧ (grp (linkIn { link := .bcRetrain }) 0).link = .bcRetrain ∧
      (grp (linkIn { link := .sleep }) 0).link = .sleep ∧ (grp (linkIn { link := .active }) 0).link = .active ∧
      (grp (linkIn { link := .bcRetrain, bcSecond := true }) 0).bcSecond = true) ∧
    (tsCheck [] = false ∧ tsCheck (pxTs 0x1E 0) = true ∧ byteAt (pxTs 0x1E 0) 0 = 0x1E ∧
      (grp (linkIn { link := .trainEq }) 0).link = .trainEq ∧ bitOf (byteAt (pxTs 0x1E 0) 3) 0 = false ∧
      bitOf (byteAt (pxTs 0x1E 0) 3) 2 = false ∧ linkTest (linkIn { link := .trainEq }) 0 = false ∧
      linkTest test_ 0 = true ∧ (7 : Nat) + 1 = 8) ∧
    (let c := linkIn { link := .trainCfg };
      Quiet c ∧ tsCheck (pxTs 0x2D 0) = true ∧ byteAt (pxTs 0x2D 0) 0 = 0x2D ∧ (grp c 0).link = .trainCfg ∧
      trainSlice c 0 = some (fld (byteAt (pxTs 0x2D 0) 2) 4 0) ∧ bitOf (byteAt (pxTs 0x2D 0) 2) 7 = false ∧
      tsCheck (pxTs 0x2D 1) = true ∧ trainSlice c 0 ≠ some (fld (byteAt (pxTs 0x2D 1) 2) 4 0) ∧ bringInSpare c 0 = false ∧
      (grp c 0).ts2Rx < 16) ∧
    (inTraining (grp ready 0).link = false ∧ inTraining (grp (linkIn { link := .detect }) 0).link = true ∧
      (grp (linkIn { link := .detect }) 0).second = false ∧ (grp (linkIn { link := .detect, second := true }) 0).second = true ∧
      (grpSlice ready 0).isSome = true ∧ 16 ≤ (grp (linkIn { link := .trainCfg, ts2Rx := 16, ts2Tx := 16 }) 0).ts2Tx) ∧
    (lastingTurn ready 3 0 = false ∧ Quiet dual ∧ spWf {} dual.px.groups = true ∧ lastingTurn dual 3 0 = true ∧
      spareReady (frontPop dual) 0 = true ∧ grpSlice dual 0 = some 0 ∧ Quiet alone ∧ lastingTurn alone 3 0 = true ∧
      spareReady (frontPop alone) 0 = false) ∧
    (Quiet dg ∧ (unitOf dg 3 0).state = .degraded ∧ (unitOf ready 3 0).state ≠ .degraded) ∧
    (Quiet (start 29 2) ∧ (start 29 2).pwr.state = .poweringUp ∧ (start 29 2).pwr.undoing = false ∧
      (grp (start 29 2) 0).link = .active ∧ serves (start 29 2) 0 = true ∧ (start 29 2).pwr.step = 2 ∧
      (servingGroups (start 29 2)).all (groupTrained (start 29 2)) = true ∧ spareDue (start 29 2) 30 = false ∧
      spareDue (start 29 2) 31 = false ∧ serves (start 29 2) 29 = true ∧ (grp (start 29 2) 29).link = .failed ∧
      dualInput (start 29 2) = false) ∧
    ((servingGroups (start 28 2)).all (groupTrained (start 28 2)) = false ∧ 2 < (start 29 3).pwr.step ∧
      (start 29 3).scn.state = .stopped ∧ (start 29 3).px.bringIn = none) := by
  (repeat' apply And.intro) <;> decide +kernel

/-- A back-channel packet of a type and length with its CRCs. -/
def bcPkt (ty len : Nat) (body : List Byte) : List Byte :=
  let h := leBytes 1 ty ++ [0] ++ leBytes 2 len ++ fill 10 0;
  let b := fit (16 * len - 20) body;
  h ++ leBytes 2 ((crc32c h).toNat % 65536) ++ b ++ leBytes 4 (crc32c b).toNat

/-- Partners' packets of each type, good and bad, with the back channel awake and not; reports awaited and not, equal and
different; faults of each code that acts (PartnersReport). -/
theorem test_partners_met :
    let s := linkIn { link := .active };
    let sensed : State := { s with th := { s.th with psens := [(0, 1)] }, units := [(5 * 1024 + 40, unitIn .online)] };
    let aw (due : Bool) (pre : W32) : State :=
      linkIn { link := .active, awaiting := true, closedTick := 0, padDue := due, crcPre := pre };
    let temp := bcPkt 0x22 3 ([1, 0, 0, 0] ++ leBytes 2 400 ++ fill 14 0 ++ [1]);
    let crc := bcPkt 0x23 2 (leBytes 4 5);
    let e : Emitter := ⟨0, 0, 0, false, 0⟩;
    (Quiet ready ∧ spWf {} ready.px.groups = true ∧ bcAwake (grp ready 0) = false) ∧
    (Quiet s ∧ spWf {} s.px.groups = true ∧ bcAwake (grp s 0) = true ∧ bcOk (grp s 0) 0x21 2 [] = false ∧
      bcOk (grp s 0) 0x21 2 (bcPkt 0x21 2 []) = true) ∧
    (bcOk (grp sensed 0) 0x22 3 temp = true ∧ grpSlice sensed 0 = some 0 ∧ 0 < leAt temp 16 1 ∧
      bitOf (byteAt temp 36) 0 = true ∧ sensDeclared sensed 40 = true ∧ sensServes sensed 40 = true ∧
      (sensor sensed 40).lost = false ∧ sext 16 (leAt temp 20 2) = 400 ∧ (sensor sensed 40).lastRaw ≠ some 400) ∧
    (bcOk (grp s 0) 0x23 2 crc = true ∧ (grp s 0).awaiting = false) ∧
    ((grp (aw true 5) 0).awaiting = true ∧ leAt crc 20 2 = (grp (aw true 5) 0).closedTick ∧ (grp (aw true 5) 0).padDue = true ∧
      bcOk (grp (aw false 5) 0) 0x23 2 crc = true ∧ (grp (aw false 5) 0).padDue = false ∧
      BitVec.ofNat 32 (leAt crc 16 4) = (grp (aw false 5) 0).crcPre ∧
      BitVec.ofNat 32 (leAt crc 16 4) ≠ (grp (aw false 6) 0).crcPre ∧ (grp (aw false 6) 0).curBad = false) ∧
    (bcOk (grp s 0) 0x24 2 (bcPkt 0x24 2 [7]) = true ∧ leAt (bcPkt 0x24 2 [7]) 16 1 = 7 ∧
      leAt (bcPkt 0x24 2 [8]) 16 1 = 8 ∧ bcOk (grp s 0) 0x24 2 (bcPkt 0x24 2 [1]) = true ∧
      leAt (bcPkt 0x24 2 [1]) 16 1 = 1 ∧ s.pwr.retested.contains e = false ∧ s.pwr.reported.contains e = false ∧
      s.pwr.retests.contains e = false) ∧
    (grpSlice ready 31 = none ∧ (grpSlice ready 29).isSome = true) := by
  (repeat' apply And.intro) <;> decide +kernel

/-- Samples that keep level 3 from being forced and that force it, pauses of each kind, REFIN returned and not, and the
sparing request of a site's sensor, of a spare and of a partner's (TemperatureIsHeld). -/
theorem test_temperature_met :
    let lost : State := { ready with th := { ready.th with sensors := [(0, { lost := true }), (1, { lost := true }), (2, { value := 640, seen := true })] } };
    let hot (ctrl : W32) (p : Bool) : State := { ready with th := { ready.th with level := 1, ctrl := ctrl, pauseActive := p } };
    let gap : State := { ready with th := { ready.th with onBandgap := true } };
    let q (i : Nat) : State := { ready with unitReqs := [⟨5, i, .online, true⟩], units := [(5 * 1024 + i, unitIn .online)] };
    let dg : State := { ready with units := [(5 * 1024, unitIn .degraded)] };
    (Quiet ready ∧ ready.th.l3Forced = false ∧ (after (.thSample ⟨[], true⟩) ready).th.l3Forced = false ∧
      (after (.thSample ⟨[], true⟩) lost).th.l3Forced = true) ∧
    (ready.th.level = 0 ∧ Quiet (hot 1 false) ∧ (hot 1 false).th.level ≠ 0 ∧ bitOf (hot 1 false).th.ctrl 0 = true ∧
      bitOf (hot 1 false).th.ctrl 1 = false ∧ bitOf (hot 3 true).th.ctrl 1 = true ∧ (hot 3 true).th.pauseActive = true ∧
      (hot 3 false).th.pauseActive = false) ∧
    (ready.th.onBandgap = false ∧ Quiet gap ∧ gap.th.onBandgap = true ∧ gap.th.refinBad = false) ∧
    (lastingTurn ready 5 283 = false ∧ Quiet (q 35) ∧ lastingTurn (q 35) 5 35 = true ∧
      (unitOf (frontPop (q 35)) 5 (siteSpare 17)).state = .offline ∧
      (unitOf (frontPop (q 35)) 5 (siteSpare 17)).lastTest = true ∧ setWaits (q 35) 5 35 = false) ∧
    (Quiet (q 36) ∧ lastingTurn (q 36) 5 36 = true ∧ lastingTurn (q 40) 5 40 = true ∧ setWaits (q 40) 5 40 = false) ∧
    (Quiet dg ∧ (unitOf dg 5 0).state = .degraded ∧ (unitOf ready 5 0).state ≠ .degraded) := by
  (repeat' apply And.intro) <;> decide +kernel

end Sys2Proof.Tests
end

section
/-! SUPPORT. What the fast power-down of the panel leaves alone: the block of the Ringmaster, which counts the resets (R390,
R391). One lemma per operation that it runs. -/

namespace Sys2Proof.Machine

/-! ### Operations done one after another -/

theorem eachNat_rm (f : Nat → State → State) (l : List Nat) (s : State) (h : ∀ n s, (f n s).rm = s.rm) :
    (eachNat f l s).rm = s.rm := by
  induction l generalizing s with
  | nil => rfl
  | cons n l ih => rw [eachNat, ih, h]

theorem foldl_rm {α : Type} (g : State → α → State) (l : List α) (s : State) (h : ∀ s a, (g s a).rm = s.rm) :
    (l.foldl g s).rm = s.rm := by
  induction l generalizing s with
  | nil => rfl
  | cons a l ih => rw [List.foldl_cons, ih, h]

/-! ### Events and completions -/

/-- States that differ in what a delivery may change have the same Ringmaster. -/
theorem rm_of_apart {s t : State} (h : apart s = apart t) : s.rm = t.rm := (apart_blocks h).1

@[simp] theorem brkEvent_rm (n : Nat) (s : State) : (brkEvent n s).rm = s.rm := rm_of_apart (brkEvent_apart n s)
@[simp] theorem log_rm (name : LogName) (args : List Nat) (s : State) : (log name args s).rm = s.rm :=
  rm_of_apart (log_apart name args s)
@[simp] theorem complete_rm (op : Byte) (h : Hdr) (st : Status) (d : W64) (s : State) : (complete op h st d s).rm = s.rm :=
  (rm_of_apart (complete_apart op h st d s)).trans (unflight_rm h s)
@[simp] theorem fin_rm (h : Hdr) (st : Status) (d : W64) (s : State) : (fin h st d s).rm = s.rm := complete_rm _ _ _ _ _
@[simp] theorem finAll_rm (st : Status) (l : List Hdr) (s : State) : (finAll st l s).rm = s.rm := by
  induction l generalizing s with
  | nil => rfl
  | cons h l ih => rw [finAll, ih, fin_rm]

/-! ### Frames, surfaces and the player -/

@[simp] theorem sceneReport_rm (slot n : Nat) (st : Status) (s : State) : (sceneReport slot n st s).rm = s.rm := by
  unfold sceneReport; split <;> simp
@[simp] theorem frameReport_rm (f : Frame) (st : Status) (d : W64) (s : State) : (frameReport f st d s).rm = s.rm := by
  unfold frameReport; split <;> simp
@[simp] theorem trnSet_rm (target entry : Nat) (e : TrnEntry) (s : State) : (trnSet target entry e s).rm = s.rm := rfl
@[simp] theorem surfaceSettle_rm (i : Nat) (s : State) : (surfaceSettle i s).rm = s.rm := by
  unfold surfaceSettle; dsimp only
  split
  · rfl
  · split
    · rfl
    · split <;> simp
@[simp] theorem surfacesSettle_rm (s : State) : (surfacesSettle s).rm = s.rm := eachNat_rm _ _ _ surfaceSettle_rm
@[simp] theorem haloFree_rm (target : Int) (s : State) : (haloFree target s).rm = s.rm := rfl
@[simp] theorem retireFrame_rm (f : Frame) (s : State) : (retireFrame f s).rm = s.rm := by simp [retireFrame]
@[simp] theorem frameAborted_rm (a : Nat) (s : State) : (frameAborted a s).rm = s.rm := by
  unfold frameAborted; split <;> simp
@[simp] theorem abortFrames_rm (p : Frame → Bool) (s : State) : (abortFrames p s).rm = s.rm := by
  unfold abortFrames
  refine foldl_rm _ _ s fun s f => ?_
  split <;> simp
@[simp] theorem stopDone_rm (h : Hdr) (s : State) : (stopDone h s).rm = s.rm := complete_rm _ _ _ _ _
@[simp] theorem playerStop_rm (s : State) : (playerStop s).rm = s.rm := by
  unfold playerStop; dsimp only
  refine (foldl_rm _ _ _ fun s w => stopDone_rm _ s).trans ?_
  split <;> simp

/-! ### Regions -/

@[simp] theorem reqReplaced_rm (k : Nat) (s : State) : (reqReplaced k s).rm = s.rm := rfl
@[simp] theorem cutRegion_rm (r : Nat) (s : State) : (cutRegion r s).rm = s.rm := by
  unfold cutRegion; dsimp only; split <;> rfl
@[simp] theorem enqueueRegion_rm (k : Nat) (q : RegionReq) (r : Nat) (s : State) : (enqueueRegion k q r s).rm = s.rm := by
  have replaced : (match (regionOf s r).queued with
      | some (_, old) => if old = k then s else reqReplaced old s
      | none => s).rm = s.rm := by
    split
    · split <;> rfl
    · rfl
  unfold enqueueRegion; dsimp only
  split
  · rw [cutRegion_rm, setRegion_rm]; exact replaced
  · rw [setRegion_rm]; exact replaced
@[simp] theorem enterReq_rm (k : Nat) (s : State) : (enterReq k s).rm = s.rm := by
  unfold enterReq; split
  · rfl
  · exact eachNat_rm _ _ _ (enqueueRegion_rm k _)
@[simp] theorem reqClose_rm (k : Nat) (s : State) : (reqClose k s).rm = s.rm := by
  unfold reqClose; dsimp only
  split
  · rfl
  · split
    · rfl
    · split <;> simp
@[simp] theorem reqCloseAll_rm (s : State) : (reqCloseAll s).rm = s.rm := eachNat_rm _ _ _ reqClose_rm
@[simp] theorem regionsIdle_rm (t : Timing) (s : State) : (regionsIdle t s).rm = s.rm :=
  eachNat_rm _ _ _ fun r s => setRegion_rm r _ s
@[simp] theorem crslDisable_rm (s : State) : (crslDisable s).rm = s.rm := by
  unfold crslDisable; dsimp only
  have entered : (eachNat enterReq s.crsl.newReqs s).rm = s.rm := eachNat_rm _ _ _ enterReq_rm
  generalize eachNat enterReq s.crsl.newReqs s = s1 at entered ⊢
  rw [reqCloseAll_rm, ← entered]
  split
  case' h_1 => rw [regionsIdle_rm]
  all_goals
    refine foldl_rm _ _ _ fun s c => ?_
    rw [setRegion_rm]
    (repeat' split) <;> rfl
@[simp] theorem regionsBlack_rm (s : State) : (regionsBlack s).rm = s.rm := by simp [regionsBlack]

/-! ### The raster and the panel link -/

@[simp] theorem timingRecord_rm (t : Timing) (s : State) : (timingRecord t s).rm = s.rm := by
  unfold timingRecord; dsimp only; split <;> simp
@[simp] theorem retimeEnd_rm (s : State) : (retimeEnd s).rm = s.rm := foldl_rm _ _ _ fun s j => timingRecord_rm j.timing s
@[simp] theorem extensionClose_rm (cause slots : Nat) (s : State) : (extensionClose cause slots s).rm = s.rm := by
  unfold extensionClose; split <;> rfl
@[simp] theorem rasterStop_rm (s : State) : (rasterStop s).rm = s.rm := extensionClose_rm _ _ s
@[simp] theorem sendSet_rm (g : Nat) (code : Byte) (s : State) : (sendSet g code s).rm = s.rm := by
  unfold sendSet; dsimp only; split <;> rfl
@[simp] theorem stopGroup_rm (g : Nat) (s : State) : (stopGroup g s).rm = s.rm := by
  unfold stopGroup; dsimp only
  show State.rm (if _ then _ else _) = _
  split <;> simp
@[simp] theorem linksStop_rm (s : State) : (linksStop s).rm = s.rm := eachNat_rm _ _ _ stopGroup_rm
@[simp] theorem pxSend_rm (g ty flags line tick pos : Nat) (payload : List Byte) (s : State) :
    (pxSend g ty flags line tick pos payload s).rm = s.rm := by
  unfold pxSend; dsimp only; split <;> rfl
@[simp] theorem pxSendSlice_rm (ty flags line : Nat) (payload : Nat → List Byte) (sl : Nat) (s : State) :
    (pxSendSlice ty flags line payload sl s).rm = s.rm := by
  unfold pxSendSlice; dsimp only; split <;> simp
@[simp] theorem sendAbort_rm (line : Nat) (s : State) : (sendAbort line s).rm = s.rm := by
  unfold sendAbort pxSendAll
  rw [eachNat_rm _ _ _ fun g s => modGrp_rm g _ s, eachNat_rm _ _ _ (pxSendSlice_rm _ _ _ _)]

/-! ### Panel power -/

@[simp] theorem pwrErr_rm (i : Nat) (s : State) : (pwrErr i s).rm = s.rm := rfl
@[simp] theorem irefZero_rm (s : State) : (irefZero s).rm = s.rm := rfl
@[simp] theorem vledOff_rm (s : State) : (vledOff s).rm = s.rm := rfl
@[simp] theorem pwrTo_rm (st : PwrState) (step : Nat) (s : State) : (pwrTo st step s).rm = s.rm := by
  unfold pwrTo; dsimp only
  split
  · rfl
  · split <;> simp
@[simp] theorem setPg_rm (b : Nat) (v : Bool) (s : State) : (setPg b v s).rm = s.rm := by
  unfold setPg; split <;> rfl
@[simp] theorem vledPgFall_rm (s : State) : (vledPgFall s).rm = s.rm := by simp [vledPgFall]
@[simp] theorem railOff_rm (s : State) : (railOff s).rm = s.rm := by
  unfold railOff
  split
  · rfl
  · split <;> rfl
@[simp] theorem powerUp_rm (s : State) : (powerUp s).rm = s.rm := by
  unfold powerUp; dsimp only; (repeat' split) <;> simp
@[simp] theorem panelOnDue_rm (s : State) : (panelOnDue s).rm = s.rm := by
  unfold panelOnDue; split <;> simp
@[simp] theorem offReached_rm (s : State) : (offReached s).rm = s.rm := by simp [offReached]
@[simp] theorem downDone_rm (s : State) : (downDone s).rm = s.rm := by
  unfold downDone; dsimp only; split <;> simp
@[simp] theorem downRails_rm (s : State) : (downRails s).rm = s.rm := by
  unfold downRails; dsimp only; split <;> simp
@[simp] theorem downStop_rm (s : State) : (downStop s).rm = s.rm := by
  unfold downStop; dsimp only; split <;> simp
@[simp] theorem downDisch_rm (s : State) : (downDisch s).rm = s.rm := by
  unfold downDisch
  split
  · rfl
  · split <;> simp
@[simp] theorem downVledLow_rm (s : State) : (downVledLow s).rm = s.rm := by
  unfold downVledLow; split <;> simp
@[simp] theorem downVled_rm (s : State) : (downVled s).rm = s.rm := by
  unfold downVled; dsimp only
  split
  · simp
  · split <;> simp
@[simp] theorem downStart_rm (s : State) : (downStart s).rm = s.rm := by simp [downStart]
@[simp] theorem dischargeEnd_rm (s : State) : (dischargeEnd s).rm = s.rm := by
  unfold dischargeEnd; dsimp only
  split
  · rfl
  · split <;> simp
@[simp] theorem fastFrom_rm (step : Nat) (s : State) : (fastFrom step s).rm = s.rm := by
  unfold fastFrom
  split
  · rfl
  · simp
  · split <;> simp
  · simp
@[simp] theorem fastPowerDown_rm (s : State) : (fastPowerDown s).rm = s.rm := by
  unfold fastPowerDown; dsimp only
  split
  · rfl
  · split <;> simp

/-- One rail of a fast power-down switched off, or its end. -/
theorem fastRail_rm (s : State) : (if s.pwr.fastRun then (if railsOn s then railOff s else downDone s) else s).rm = s.rm := by
  split
  · split <;> simp
  · rfl

@[simp] theorem fastPowerDownWhole_rm (s : State) : (fastPowerDownWhole s).rm = s.rm := by
  unfold fastPowerDownWhole; dsimp only
  iterate 4 rw [fastRail_rm]
  rw [dischargeEnd_rm]
  split <;> simp

end Sys2Proof.Machine
end

section
/-! SUPPORT. What a hardware reset leaves, and what a register access that reaches its register does. -/

namespace Sys2Proof.Machine

/-! ### Resets (R390, R391) -/

@[simp] theorem resetSlot_rm (s : State) : (resetSlot s).rm = s.rm := by
  unfold resetSlot; split <;> rfl

/-- The count of resets outlasts a reset (R390). -/
theorem resetState_resets (s : State) : (resetState s).rm.resets = s.rm.resets := rfl

/-- What a reset with a cause leaves of a state: the cause, the count of resets, and blocks as after power-on. -/
structure ResetLeaves (cause : Nat) (s t : State) : Prop where
  resetCause : t.rm.resetCause = cause
  stage : t.rm.stage = .por
  resets : t.rm.resets = satAdd 8 s.rm.resets 1
  hq : t.hq = State.reset.hq
  scene : t.scene = State.reset.scene
  pwr : t.pwr = State.reset.pwr
  scn : t.scn = State.reset.scn

/-- A device reset has nothing wait (R391). -/
theorem deviceReset_holds (cause : Nat) (s : State) : holds (deviceReset cause s) = ([], [], none) := by
  unfold deviceReset; dsimp only
  split
  · rw [fwErr_holds]; rfl
  · rfl

/-- The Safety Net's cause is the only one that shows in FW_ERR (R413). -/
theorem deviceReset_leaves (cause : Nat) (s : State) (h : cause ≠ 5) : ResetLeaves cause s (deviceReset cause s) := by
  unfold deviceReset; dsimp only
  rw [if_neg h]
  refine ⟨rfl, rfl, ?_, rfl, rfl, rfl, rfl⟩
  show satAdd 8 (resetState (resetSlot s)).rm.resets 1 = _
  rw [resetState_resets, resetSlot_rm]

/-- The panel is powered down first, which does not count as a reset (R391). -/
theorem hardReset_leaves (cause : Nat) (s : State) (h : cause ≠ 5) : ResetLeaves cause s (hardReset cause s) := by
  have r := deviceReset_leaves cause (fastPowerDownWhole s) h
  exact { r with resets := by rw [hardReset, r.resets, fastPowerDownWhole_rm] }

/-- Nothing follows a row that resets the device: whatever waited is gone. -/
theorem row_hardReset (f : State → State) (cause : Nat) (s u : State) (h : cause ≠ 5) (e : f s = hardReset cause u) :
    ∃ t, row f s = .next t ∧ ResetLeaves cause u t := by
  have r := hardReset_leaves cause u h
  refine ⟨{ hardReset cause u with pending := s.pending }, ?_, { r with }⟩
  rw [row, finish, e, settle_still (hardReset cause u) (deviceReset_holds _ _)]

/-! ### Register accesses (R14) -/

/-- The read of a register in a quiet state: the value leaves, then the register's own effect. -/
theorem row_read_quiet (m off : Nat) (v : State → W32) (f : State → State) (s : State) (hq : Quiet s)
    (ho : RegOpen m off false s) (e : holds (f (emit (.readReg (v s)) s)) = holds s) :
    row (barRead m off v f) s = .next { f (emit (.readReg (v s)) s) with pending := s.pending } := by
  have e1 := barRead_open m off v f s ho
  rw [row_quiet _ s hq (by rw [e1, e]), e1]

/-- An aligned REGISTER_WRITE in a quiet state does what the write does to its register. -/
theorem registerWrite_quiet (m off : Nat) (v : W32) (s : State) (ha : off % 4 = 0) (hq : Quiet s) (ho : RegOpen m off true s)
    (e : holds (regWrite m off v s) = holds s) :
    exec (.registerWrite m off v) s = .next { regWrite m off v s with pending := s.pending } := by
  have e1 : registerWrite m off v = barWrite m off (regWrite m off v) := by
    funext u; rw [registerWrite, if_pos ha]
  show row (registerWrite m off v) s = _
  rw [e1, row_write_quiet m off _ s hq ho e]

/-! ### The index of CAL_JRNL_DATA (R435) -/

/-- Word 63 of an entry is followed by word 0 of the next entry, every other word by the entry's next word. -/
theorem jrnlNext_eq (s : State) (h : s.cal.jrnlIndex < 256 * 64) : jrnlNext s = { s with cal := { s.cal with
    jrnlIndex := if s.cal.jrnlIndex / 256 = 63 then (s.cal.jrnlIndex + 1) % 256 else s.cal.jrnlIndex + 256 } } := by
  unfold jrnlNext; dsimp only
  congr 2
  by_cases last : s.cal.jrnlIndex / 256 = 63
  · simp [last]
  · have next : (s.cal.jrnlIndex / 256 + 1) % 64 = s.cal.jrnlIndex / 256 + 1 := by omega
    rw [if_neg last, next, if_neg (by omega)]
    omega

/-! ### CLR_TBL_DATA (R130) -/

theorem clrTblWrite_inside (v : W32) (s : State) (h : s.clr.tblIndex < tblSize (s.clr.tblSel.toNat % 16)) :
    clrTblWrite v s = { s with clr := { s.clr with
      tblIndex := (s.clr.tblIndex + 1) % 2048
      tblSh := tblSet s.clr.tblSh (s.clr.tblSel.toNat % 16) s.clr.tblIndex
        (v.toNat % 2 ^ tblBits (s.clr.tblSel.toNat % 16)) } } := by
  simp [clrTblWrite, clrTblRange, clrTblNext, h]

/-- A write past the table stores nothing and sets TBL_RANGE. -/
theorem clrTblWrite_past (v : W32) (s : State) (h : tblSize (s.clr.tblSel.toNat % 16) ≤ s.clr.tblIndex) :
    clrTblWrite v s = { s with clr := { s.clr with
      tblIndex := (s.clr.tblIndex + 1) % 2048, err := setBit s.clr.err 0 } } := by
  simp [clrTblWrite, clrTblRange, clrTblNext, Nat.not_lt.2 h]

theorem clrTblRead_inside (s : State) (h : s.clr.tblIndex < tblSize (s.clr.tblSel.toNat % 16)) :
    clrTableRead s = BitVec.ofNat 32 (tblGet s.clr.tblSh (s.clr.tblSel.toNat % 16) s.clr.tblIndex) ∧
    clrTblNext (clrTblRange (emit (.readReg (clrTableRead s)) s)) =
      { s with clr := { s.clr with tblIndex := (s.clr.tblIndex + 1) % 2048 }, out := .readReg (clrTableRead s) :: s.out } := by
  constructor
  · simp [clrTableRead, h]
  · simp [clrTblRange, clrTblNext, emit, h]

end Sys2Proof.Machine
end

section
/-! What a write of a register does by its type, RM_RESET and the watchdog, and the data ports of the tables. -/

namespace Sys2Proof

open Machine

/-! ### Types of registers, RM_RESET and the watchdog (R14, R390, R392) -/

/-- BRK_ERR is write-1-to-clear. -/
theorem brkErr_write (m : Nat) (v : W32) (s : State) (hq : Quiet s) (ho : RegOpen m 0x100008 true s) :
    exec (.registerWrite m 0x100008 v) s = .next { s with brk := { s.brk with err := s.brk.err &&& ~~~v } } :=
  registerWrite_quiet m 0x100008 v s rfl hq ho rfl

/-- CRSL_CTRL is read-write-shadow. -/
theorem crslCtrl_write (m : Nat) (v : W32) (s : State) (hq : Quiet s) (ho : RegOpen m 0x1100004 true s) :
    exec (.registerWrite m 0x1100004 v) s =
      .next { s with crsl := { s.crsl with ctrl := { s.crsl.ctrl with sh := v &&& 0x73 } } } :=
  registerWrite_quiet m 0x1100004 v s rfl hq ho rfl

/-- RM_DEVICE_ID is read-only. -/
theorem rmDeviceId_write (m : Nat) (v : W32) (s : State) (hq : Quiet s) (ho : RegOpen m 0 true s) :
    exec (.registerWrite m 0 v) s = .next s :=
  registerWrite_quiet m 0 v s rfl hq ho rfl

theorem rmReset_write_other (m : Nat) (v : W32) (s : State) (hq : Quiet s) (ho : RegOpen m 0x28 true s) (hv : v ≠ 0x9216) :
    exec (.rmResetWrite m v) s = .next s := by
  have e : rmReset v s = s := if_neg hv
  exact (row_write_quiet m 0x28 (rmReset v) s hq ho (by rw [e])).trans (by rw [e])

theorem rmReset_write_key (m : Nat) (s : State) (ho : RegOpen m 0x28 true s) :
    ∃ t, exec (.rmResetWrite m 0x9216) s = .next t ∧ ResetLeaves 4 s t :=
  row_hardReset (barWrite m 0x28 (rmReset 0x9216)) 4 s s (by decide) (barWrite_open m 0x28 _ s ho)

theorem wdogKick_by_firmware (m : Nat) (s : State) (hq : Quiet s) (ho : RegOpen m 0x24 true s) (hm : fwMaster m = true) :
    exec (.wdogKick m) s = .next { s with rm := { s.rm with wdogStart := s.clp.cycle / 1600000 } } := by
  have e : (if fwMaster m then wdogKick s else s) = wdogKick s := if_pos hm
  exact (row_write_quiet m 0x24 _ s hq ho (by rw [e]; rfl)).trans (by rw [e]; rfl)

theorem wdogKick_by_other (m : Nat) (s : State) (hq : Quiet s) (ho : RegOpen m 0x24 true s) (hm : fwMaster m = false) :
    exec (.wdogKick m) s = .next s := by
  have e : (if fwMaster m then wdogKick s else s) = s := if_neg (by simp [hm])
  exact (row_write_quiet m 0x24 _ s hq ho (by rw [e])).trans (by rw [e])

theorem watchdogExpiry_stopped (s : State) (hq : Quiet s) (hw : s.rm.wdogRunning = false) :
    exec .watchdogExpiry s = .next s := by
  have e : watchdogExpire s = s := if_neg (by simp [hw])
  exact (row_quiet watchdogExpire s hq (by rw [e])).trans (by rw [e])

theorem watchdogExpiry_running (s : State) (hw : s.rm.wdogRunning = true) :
    ∃ u t, exec .watchdogExpiry s = .next t ∧ ResetLeaves 3 u t :=
  ⟨_, row_hardReset watchdogExpire 3 s _ (by decide) (if_pos hw)⟩

/-! ### Data ports (R130, R323, R389, R435) -/

theorem calJrnlData_read (m : Nat) (s : State) (hq : Quiet s) (ho : RegOpen m 0x600078 false s)
    (hi : s.cal.jrnlIndex < 256 * 64) :
    exec (.calJrnlDataRead m) s = .next { s with
      cal := { s.cal with jrnlIndex := if s.cal.jrnlIndex / 256 = 63 then (s.cal.jrnlIndex + 1) % 256
        else s.cal.jrnlIndex + 256 }
      out := .readReg (jWord s (s.cal.jrnlIndex % 256) (s.cal.jrnlIndex / 256)) :: s.out } := by
  refine (row_read_quiet m 0x600078 _ jrnlNext s hq ho rfl).trans ?_
  rw [jrnlNext_eq (emit _ s) hi]
  rfl

theorem clrTblData_write_inside (m : Nat) (v : W32) (s : State) (hq : Quiet s) (ho : RegOpen m 0x1300028 true s)
    (hi : s.clr.tblIndex < tblSize (s.clr.tblSel.toNat % 16)) :
    exec (.clrTblDataAccess m (some v)) s = .next { s with clr := { s.clr with
      tblIndex := (s.clr.tblIndex + 1) % 2048
      tblSh := tblSet s.clr.tblSh (s.clr.tblSel.toNat % 16) s.clr.tblIndex
        (v.toNat % 2 ^ tblBits (s.clr.tblSel.toNat % 16)) } } := by
  refine (row_write_quiet m 0x1300028 (clrTblWrite v) s hq ho (clrTblWrite_holds v s)).trans ?_
  rw [clrTblWrite_inside v s hi]

theorem clrTblData_write_past (m : Nat) (v : W32) (s : State) (hq : Quiet s) (ho : RegOpen m 0x1300028 true s)
    (hi : tblSize (s.clr.tblSel.toNat % 16) ≤ s.clr.tblIndex) :
    exec (.clrTblDataAccess m (some v)) s = .next { s with clr := { s.clr with
      tblIndex := (s.clr.tblIndex + 1) % 2048, err := setBit s.clr.err 0 } } := by
  refine (row_write_quiet m 0x1300028 (clrTblWrite v) s hq ho (clrTblWrite_holds v s)).trans ?_
  rw [clrTblWrite_past v s hi]

theorem clrTblData_read_inside (m : Nat) (s : State) (hq : Quiet s) (ho : RegOpen m 0x1300028 false s)
    (hi : s.clr.tblIndex < tblSize (s.clr.tblSel.toNat % 16)) :
    exec (.clrTblDataAccess m none) s = .next { s with
      clr := { s.clr with tblIndex := (s.clr.tblIndex + 1) % 2048 }
      out := .readReg (BitVec.ofNat 32 (tblGet s.clr.tblSh (s.clr.tblSel.toNat % 16) s.clr.tblIndex)) :: s.out } := by
  obtain ⟨word, next⟩ := clrTblRead_inside s hi
  refine (row_read_quiet m 0x1300028 clrTableRead _ s hq ho (by rw [next]; rfl)).trans ?_
  rw [next, word]

theorem trzRouteData_write (m : Nat) (v : W32) (s : State) (hq : Quiet s) (ho : RegOpen m 0x1500034 true s) :
    exec (.trzRouteDataAccess m (some v)) s = .next { s with trz := { s.trz with
      routeIndex := (s.trz.routeIndex + 1) % 16384, routes := spSet 7 s.trz.routes s.trz.routeIndex (fld v 2 0) } } :=
  row_write_quiet m 0x1500034 (trzRouteWrite v) s hq ho rfl

theorem trzRouteData_read (m : Nat) (s : State) (hq : Quiet s) (ho : RegOpen m 0x1500034 false s) :
    exec (.trzRouteDataAccess m none) s = .next { s with
      trz := { s.trz with routeIndex := (s.trz.routeIndex + 1) % 16384 }
      out := .readReg (BitVec.ofNat 32 (routeOf s s.trz.routeIndex)) :: s.out } :=
  row_read_quiet m 0x1500034 _ trzRouteNext s hq ho rfl

theorem thTripData_read (m : Nat) (s : State) (hq : Quiet s) (ho : RegOpen m 0x400074 false s) :
    exec (.thTripDataRead m) s = .next { s with
      th := { s.th with tripIndex := (s.th.tripIndex + 1) % 32 }, out := .readReg (tripWord s) :: s.out } :=
  row_read_quiet m 0x400074 tripWord tripRead s hq ho rfl

/-- Settles O38: in a quiet state each row is its register's own operation; a reset leaves nothing that waits, in any
state. -/
theorem registersAndDataPorts : Obligations.RegistersAndDataPorts := by
  refine ⟨fun m s => ⟨fun hq => ⟨?w1c, ?rws, ?ro, ?noKey, ?kick, ?noKick, ?stopped⟩, ?key, ?expiry⟩, fun m s hq =>
    ⟨?jrnl, ?tblWrite, ?tblPast, ?tblRead, ?routeWrite, ?routeRead, ?trip⟩⟩
  case w1c => exact fun v ho => brkErr_write m v s hq ho
  case rws => exact fun v ho => crslCtrl_write m v s hq ho
  case ro => exact fun v ho => rmDeviceId_write m v s hq ho
  case noKey => exact fun v ho hv => rmReset_write_other m v s hq ho hv
  case kick => exact wdogKick_by_firmware m s hq
  case noKick => exact wdogKick_by_other m s hq
  case stopped => exact watchdogExpiry_stopped s hq
  case key =>
    intro ho
    obtain ⟨t, ht, r⟩ := rmReset_write_key m s ho
    exact ⟨t, ht, r.resetCause, r.stage, r.hq, r.scene, r.pwr, r.scn, r.resets⟩
  case expiry =>
    intro hw
    obtain ⟨u, t, ht, r⟩ := watchdogExpiry_running s hw
    exact ⟨t, ht, r.resetCause, r.stage, r.hq, r.scene, r.pwr⟩
  case jrnl => exact calJrnlData_read m s hq
  case tblWrite => exact fun v ho hi => clrTblData_write_inside m v s hq ho hi
  case tblPast => exact fun v ho hi => clrTblData_write_past m v s hq ho hi
  case tblRead => exact clrTblData_read_inside m s hq
  case routeWrite => exact fun v ho => trzRouteData_write m v s hq ho
  case routeRead => exact trzRouteData_read m s hq
  case trip => exact thTripData_read m s hq

end Sys2Proof
end

section
/-! A TIMING_SET out of range is refused. -/

namespace Sys2Proof

open Machine

/-! ### The range of TIMING_SET (R31, R163) -/

/-- The rates R163 permits. -/
theorem rateOk_iff (m num den : Nat) : rateOk m num den = true ↔ (den = 1 ∧ 24 ≤ num ∧ num ≤ maxRate m) ∨
    (den = 1001 ∧ num % 1000 = 0 ∧ 24 ≤ num / 1000 ∧ num / 1000 ≤ maxRate m) := by
  simp [rateOk, and_assoc]

/-- A timing that passes its checks has a permitted rate, a grid within 4096 × 2160, and keeps to RAY_BUDGET. -/
theorem timingOk_range {restricted : Bool} {t : Timing} (h : timingOk restricted t = true) :
    rateOk t.mode t.num t.den = true ∧ t.hx ≤ 4096 ∧ t.hy ≤ 2160 ∧
      t.hx * t.hy * (modeUV t.mode).1 * (modeUV t.mode).2 * t.num ≤ rayBudget * t.den := by
  simp only [timingOk, Bool.and_eq_true, decide_eq_true_eq] at h
  obtain ⟨⟨⟨⟨_, _, hx, _, hy⟩, rate⟩, rays⟩, _⟩ := h
  exact ⟨rate, hx, hy, rays⟩

theorem doTimingSet_refused (h : Hdr) (p : TimingSetP) (s : State) (out : timingOk s.th.restricted (timingOf p) = false) :
    doTimingSet h p s = complete opTimingSet h .badParam 0 s := by
  simp [doTimingSet, out]

theorem toFlight_th (op : Byte) (h : Hdr) (s : State) : (toFlight op h s).th = s.th := by
  unfold toFlight; split <;> rfl

/-- A TIMING_SET whose timing fails its checks completes with BAD_PARAM and does nothing else. -/
theorem timingSet_refused (h : Hdr) (p : TimingSetP) (s : State) (hs : Starts h (.timingSet p) s)
    (out : timingOk s.th.restricted (timingOf p) = false) :
    Ends (.timingSet h p) 0x38 h .badParam 0 s fun u => u = toFlight 0x38 h s := by
  have run : runCmd h (.timingSet p) (toFlight 0x38 h s) = complete 0x38 h .badParam 0 (toFlight 0x38 h s) :=
    doTimingSet_refused h p _ (by rw [toFlight_th]; exact out)
  exact starts_ends h (.timingSet p) (.timingSet h p) s _ 0x38 .badParam 0 _ rfl hs (by simp [awaitsData]) run rfl
    (toFlight_holds _ _ _) rfl

/-- Settles O21: each of the four refusals contradicts what a timing that passes its checks keeps to. -/
theorem timingOutOfRangeIsRefused : Obligations.TimingOutOfRangeIsRefused := by
  intro h p s hs m num den permitted out
  refine timingSet_refused h p s hs ?_
  by_contra ok
  obtain ⟨rate, hx, hy, rays⟩ := timingOk_range (by simpa using ok)
  rcases out with noRate | wide | high | beyond
  · exact noRate ((rateOk_iff m num den).1 rate)
  · exact absurd hx (Nat.not_le.2 wide)
  · exact absurd hy (Nat.not_le.2 high)
  · exact absurd rays (Nat.not_le.2 beyond)

end Sys2Proof
end

section
/-! SUPPORT. What the operations of a scan leave alone: the frames, the Hall of Mirrors, the Carousel and the raster. -/

namespace Sys2Proof.Machine

/-- The blocks that a scan's rows speak of: frames and player, Hall of Mirrors, Carousel, raster. -/
def scanBlocks (s : State) : Scene × Hom × Crsl × Scn := (s.scene, s.hom, s.crsl, s.scn)

theorem scanBlocks_eq_iff {s t : State} : scanBlocks s = scanBlocks t ↔
    s.scene = t.scene ∧ s.hom = t.hom ∧ s.crsl = t.crsl ∧ s.scn = t.scn := by
  simp [scanBlocks]

theorem scene_of_blocks {s t : State} (h : scanBlocks s = scanBlocks t) : s.scene = t.scene := (scanBlocks_eq_iff.1 h).1
theorem hom_of_blocks {s t : State} (h : scanBlocks s = scanBlocks t) : s.hom = t.hom := (scanBlocks_eq_iff.1 h).2.1
theorem crsl_of_blocks {s t : State} (h : scanBlocks s = scanBlocks t) : s.crsl = t.crsl := (scanBlocks_eq_iff.1 h).2.2.1
theorem scn_of_blocks {s t : State} (h : scanBlocks s = scanBlocks t) : s.scn = t.scn := (scanBlocks_eq_iff.1 h).2.2.2

/-- What neither the delivery of an entry, a log entry nor a Barker event changes. -/
theorem blocks_of_apart {s t : State} (h : apart s = apart t) : scanBlocks s = scanBlocks t := by
  obtain ⟨_, _, scene, hom, _, crsl, scn, _⟩ := apart_blocks h
  exact scanBlocks_eq_iff.2 ⟨scene, hom, crsl, scn⟩

/-! ### Operations done one after another -/

/-- What each operation of a sequence leaves alone, the sequence leaves alone. -/
theorem eachNat_keeps {α : Type} (v : State → α) (f : Nat → State → State) (l : List Nat) (s : State)
    (h : ∀ n s, v (f n s) = v s) : v (eachNat f l s) = v s := by
  induction l generalizing s with
  | nil => rfl
  | cons n l ih => rw [eachNat, ih, h]

theorem foldl_keeps {α β : Type} (v : State → β) (g : State → α → State) (l : List α) (s : State)
    (h : ∀ s a, v (g s a) = v s) : v (l.foldl g s) = v s := by
  induction l generalizing s with
  | nil => rfl
  | cons a l ih => rw [List.foldl_cons, ih, h]

theorem ite_keeps {α : Type} (v : State → α) {c : Prop} [Decidable c] {a b s : State} (ha : v a = v s) (hb : v b = v s) :
    v (if c then a else b) = v s := by
  split
  · exact ha
  · exact hb

/-! ### Events, unit requests and the Turnstiles -/

@[simp] theorem log_blocks (name : LogName) (args : List Nat) (s : State) : scanBlocks (log name args s) = scanBlocks s :=
  blocks_of_apart (log_apart name args s)
@[simp] theorem brkLevel_blocks (n : Nat) (v : Bool) (s : State) : scanBlocks (brkLevel n v s) = scanBlocks s :=
  blocks_of_apart (brkLevel_apart n v s)
@[simp] theorem complete_blocks (op : Byte) (h : Hdr) (st : Status) (d : W64) (s : State) :
    scanBlocks (complete op h st d s) = scanBlocks s := (blocks_of_apart (complete_apart op h st d s)).trans rfl
@[simp] theorem unitReq_blocks (cls idx : Nat) (lasting : Bool) (s : State) :
    scanBlocks (unitReq cls idx lasting s) = scanBlocks s := by
  unfold unitReq; split
  · rfl
  · rw [brkLevel_blocks]; rfl
@[simp] theorem unitTransient_blocks (cls idx : Nat) (s : State) : scanBlocks (unitTransient cls idx s) = scanBlocks s := by
  unfold unitTransient; split <;> simp
@[simp] theorem unitLasting_blocks (cls idx : Nat) (s : State) : scanBlocks (unitLasting cls idx s) = scanBlocks s := by
  unfold unitLasting; split <;> simp
@[simp] theorem trnNote_blocks (target m : Nat) (p : Perm) (addr : Nat) (entry : Option Nat) (fence : Bool) (s : State) :
    scanBlocks (trnNote target m p addr entry fence s) = scanBlocks s := by
  unfold trnNote; dsimp only
  split
  · rw [log_blocks]; rfl
  · split
    · rfl
    · rw [log_blocks]; rfl
@[simp] theorem trnAccess_blocks (target m : Nat) (p : Perm) (addr len : Nat) (s : State) :
    scanBlocks (trnAccess target m p addr len s).2 = scanBlocks s := by
  unfold trnAccess; split <;> simp

/-! ### DRAM and the scratchpad -/

@[simp] theorem dramRange_blocks (port addr : Nat) (s : State) : scanBlocks (dramRange port addr s) = scanBlocks s := by
  unfold dramRange; dsimp only; split
  · rw [log_blocks]; rfl
  · rfl
@[simp] theorem dramNote_blocks (port addr len : Nat) (s : State) : scanBlocks (dramNote port addr len s) = scanBlocks s := by
  unfold dramNote; split <;> simp
@[simp] theorem dramTransient_blocks (addr : Nat) (s : State) : scanBlocks (dramTransient addr s) = scanBlocks s := rfl
@[simp] theorem dramLasting_blocks (port addr : Nat) (s : State) : scanBlocks (dramLasting port addr s) = scanBlocks s := by
  unfold dramLasting; dsimp only
  split
  · rw [unitLasting_blocks, log_blocks]; rfl
  · rw [log_blocks]; rfl
@[simp] theorem dramStore_blocks (port addr : Nat) (bs : List Byte) (s : State) :
    scanBlocks (dramStore port addr bs s) = scanBlocks s := by
  unfold dramStore; split
  · rfl
  · split
    · simp
    · rfl
/-- A word of the scratchpad that fails its error check. -/
theorem bankLasting_blocks (b word : Nat) (s : State) : scanBlocks (bankEcc b word .lasting s) = scanBlocks s := by
  show scanBlocks (unitLasting _ _ (log _ _ _)) = _
  rw [unitLasting_blocks, log_blocks]; rfl

/-! ### The clock -/

@[simp] theorem copyRefill_blocks (k : Nat) (s : State) : scanBlocks (copyRefill k s) = scanBlocks s := rfl
@[simp] theorem refillAll_blocks (k : Nat) (s : State) : scanBlocks (refillAll k s) = scanBlocks s := by
  unfold refillAll
  split
  · rfl
  · split
    · rw [copyRefill_blocks]; exact foldl_keeps _ _ _ _ fun _ _ => rfl
    · exact foldl_keeps _ _ _ _ fun _ _ => rfl
@[simp] theorem clockRun_blocks (n : Nat) (s : State) : scanBlocks (clockRun n s) = scanBlocks s := by
  have drained (k : Nat) (u : State) : scanBlocks (logDrainN k u) = scanBlocks u := blocks_of_apart (logDrainN_apart k u)
  unfold clockRun; dsimp only
  split
  · rw [refillAll_blocks, drained]; rfl
  · show scanBlocks (refillAll _ _) = _
    rw [refillAll_blocks, drained]; rfl
@[simp] theorem clockTo_blocks (tb2 : Int) (s : State) : scanBlocks (clockTo tb2 s) = scanBlocks s := by
  unfold clockTo; dsimp only; split <;> simp

@[simp] theorem clockTo_scene (tb2 : Int) (s : State) : (clockTo tb2 s).scene = s.scene := scene_of_blocks (clockTo_blocks tb2 s)
@[simp] theorem clockTo_hom (tb2 : Int) (s : State) : (clockTo tb2 s).hom = s.hom := hom_of_blocks (clockTo_blocks tb2 s)
@[simp] theorem clockTo_scn (tb2 : Int) (s : State) : (clockTo tb2 s).scn = s.scn := scn_of_blocks (clockTo_blocks tb2 s)

/-! ### The panel link -/

@[simp] theorem modGrp_blocks (g : Nat) (f : Group → Group) (s : State) : scanBlocks (modGrp g f s) = scanBlocks s := rfl
@[simp] theorem pxSend_blocks (g ty flags line tick pos : Nat) (payload : List Byte) (s : State) :
    scanBlocks (pxSend g ty flags line tick pos payload s) = scanBlocks s := by
  unfold pxSend; dsimp only; split <;> rfl
@[simp] theorem pxSendSlice_blocks (ty flags line : Nat) (payload : Nat → List Byte) (sl : Nat) (s : State) :
    scanBlocks (pxSendSlice ty flags line payload sl s) = scanBlocks s := by
  unfold pxSendSlice; dsimp only; split <;> simp
@[simp] theorem pxSendAll_blocks (ty flags line : Nat) (payload : Nat → List Byte) (s : State) :
    scanBlocks (pxSendAll ty flags line payload s) = scanBlocks s := eachNat_keeps _ _ _ _ (pxSendSlice_blocks _ _ _ _)
@[simp] theorem sendAbort_blocks (line : Nat) (s : State) : scanBlocks (sendAbort line s) = scanBlocks s := by
  unfold sendAbort
  rw [eachNat_keeps scanBlocks _ _ _ fun g s => modGrp_blocks g _ s, pxSendAll_blocks]
@[simp] theorem sendSet_blocks (g : Nat) (code : Byte) (s : State) : scanBlocks (sendSet g code s) = scanBlocks s := by
  unfold sendSet; dsimp only; split <;> rfl
@[simp] theorem sleepGroup_blocks (g : Nat) (s : State) : scanBlocks (sleepGroup g s) = scanBlocks s := by
  unfold sleepGroup; split
  · rw [sendSet_blocks]; rfl
  · rfl
@[simp] theorem sendCmds_blocks (line : Nat) (s : State) : scanBlocks (sendCmds line s) = scanBlocks s := by
  unfold sendCmds
  extract_lets one px s1
  have each (s : State) (c : Option Nat × List (Nat × W32)) : scanBlocks (one s c) = scanBlocks s := by
    simp only [one]; split
    · rw [pxSend_blocks]; rfl
    · rw [pxSendAll_blocks]; rfl
  have sent : scanBlocks s1 = scanBlocks s := foldl_keeps scanBlocks one _ _ each
  split
  · split <;> exact sent
  · exact sent

end Sys2Proof.Machine
end

section
/-! SUPPORT. Frames that leave, and the frames of a state after a change of one. -/

namespace Sys2Proof.Machine

/-! ### The list of frames -/

/-- A change of the frames that keeps each one's state: the first frame in a state is the one it was, changed. -/
theorem frameIn_map {s t : State} (φ : Frame → Frame) (h : t.scene.frames = s.scene.frames.map φ)
    (hφ : ∀ x, (φ x).state = x.state) (st : FState) : frameIn t st = (frameIn s st).map φ := by
  simp only [frameIn, h, List.find?_map]
  congr 2
  funext x
  simp [hφ]

theorem frameIn_modFrame (id : Nat) (f : Frame → Frame) (s : State) (hf : ∀ x, (f x).state = x.state) (st : FState) :
    frameIn (modFrame id f s) st = (frameIn s st).map fun x => if x.id = id then f x else x :=
  frameIn_map (fun x => if x.id = id then f x else x) rfl (fun x => by split <;> simp [hf]) st

/-- A frame changed is still found by its number. -/
theorem frameById_modFrame (id : Nat) (f : Frame → Frame) (s : State) (hf : ∀ x, x.id = id → (f x).id = id) :
    frameById (modFrame id f s) id = (frameById s id).map f := by
  simp only [frameById, modFrame]
  induction s.scene.frames with
  | nil => rfl
  | cons x r ih =>
    rw [List.map_cons]
    by_cases hx : x.id = id
    · rw [if_pos hx, List.find?_cons_of_pos (by simp [hf x hx]), List.find?_cons_of_pos (by simp [hx])]
      rfl
    · rw [if_neg hx, List.find?_cons_of_neg (by simp [hx]), List.find?_cons_of_neg (by simp [hx]), ih]

/-- The frame that stands in a state has a number that finds a frame. -/
theorem frameById_of_frameIn {s : State} {st : FState} {f : Frame} (h : frameIn s st = some f) :
    ∃ g, frameById s f.id = some g := by
  refine Option.isSome_iff_exists.1 (List.find?_isSome.2 ⟨f, List.mem_of_find?_eq_some h, ?_⟩)
  simp

/-! ### Surfaces, halos and reports -/

@[simp] theorem surfaceSettle_blocks (i : Nat) (s : State) : scanBlocks (surfaceSettle i s) = scanBlocks s := by
  unfold surfaceSettle; dsimp only
  split
  · rfl
  · split
    · rfl
    · split
      · rw [complete_blocks]; rfl
      · rfl
@[simp] theorem surfacesSettle_blocks (s : State) : scanBlocks (surfacesSettle s) = scanBlocks s :=
  eachNat_keeps _ _ _ _ surfaceSettle_blocks
@[simp] theorem haloCancel_blocks (f : Frame) (s : State) : scanBlocks (haloCancel f s) = scanBlocks s := by
  refine eachNat_keeps scanBlocks _ _ s fun p u => ?_
  split
  · exact blocks_of_apart (meshSendFrame_apart _ _ _ _ _ _)
  · rfl

/-- What the report of a frame's outcome leaves alone: the frames, the Hall of Mirrors and the raster. -/
def reportView (s : State) : List Frame × Hom × Scn := (s.scene.frames, s.hom, s.scn)

theorem reportView_of_blocks {s t : State} (h : scanBlocks s = scanBlocks t) : reportView s = reportView t := by
  simp [reportView, scene_of_blocks h, hom_of_blocks h, scn_of_blocks h]

theorem reportView_eq_iff {s t : State} : reportView s = reportView t ↔
    s.scene.frames = t.scene.frames ∧ s.hom = t.hom ∧ s.scn = t.scn := by
  simp [reportView]

@[simp] theorem sceneReport_view (slot n : Nat) (st : Status) (s : State) :
    reportView (sceneReport slot n st s) = reportView s := by
  have logged (name : LogName) (args : List Nat) (f : Player → Player) :
      reportView (log name args (modPlayer f s)) = reportView s :=
    (reportView_of_blocks (log_blocks name args (modPlayer f s))).trans rfl
  unfold sceneReport
  split
  · exact logged _ _ _
  · exact logged _ _ _
  · rfl
  · exact logged _ _ _
  · rfl

@[simp] theorem frameReport_view (f : Frame) (st : Status) (d : W64) (s : State) :
    reportView (frameReport f st d s) = reportView s := by
  unfold frameReport; split
  · exact reportView_of_blocks (complete_blocks _ _ _ _ _)
  · simp

/-- A frame that is RETIRED is gone, and nothing else of the frames, the Hall of Mirrors or the raster is. -/
theorem retireFrame_view {s u : State} (f : Frame) (h : reportView s = reportView u) :
    reportView (retireFrame f s) = (u.scene.frames.filter fun x => x.id != f.id, u.hom, u.scn) := by
  obtain ⟨frames, hom, scn⟩ := reportView_eq_iff.1 h
  rw [← frames, ← hom, ← scn]
  exact reportView_of_blocks (surfacesSettle_blocks _)

/-- A frame refused is RETIRED. -/
theorem refuseFrame_view (f : Frame) (st : Status) (d : W64) (s : State) :
    reportView (refuseFrame f st d s) = (s.scene.frames.filter fun x => x.id != f.id, s.hom, s.scn) := by
  have cancelled : reportView (if f.state == .pending then s else haloCancel f s) = reportView s := by
    split
    · rfl
    · exact reportView_of_blocks (haloCancel_blocks f s)
  unfold refuseFrame
  dsimp only
  rw [frameReport_view]
  refine retireFrame_view f ?_
  split <;> exact cancelled

@[simp] theorem refuseFrame_hom (f : Frame) (st : Status) (d : W64) (s : State) : (refuseFrame f st d s).hom = s.hom :=
  congrArg (·.2.1) (refuseFrame_view f st d s)

/-- No frame with a refused frame's number is left. -/
theorem refuseFrame_gone (f : Frame) (st : Status) (d : W64) (s : State) :
    ∀ g ∈ (refuseFrame f st d s).scene.frames, g.id ≠ f.id := by
  have left : (refuseFrame f st d s).scene.frames = s.scene.frames.filter fun x => x.id != f.id :=
    congrArg Prod.fst (refuseFrame_view f st d s)
  intro g hg
  rw [left] at hg
  simpa using (List.mem_filter.1 hg).2

end Sys2Proof.Machine
end

section
/-! SUPPORT. The pre-flight's decision, and line 256 (R37, R91, R104). -/

namespace Sys2Proof.Machine

/-! ### The pre-flight's decision (R104) -/

@[simp] theorem pfNotes_blocks (f : Frame) (s : State) : scanBlocks (pfNotes f s) = scanBlocks s :=
  foldl_keeps _ _ _ _ fun _ _ => dramNote_blocks _ _ _ _

/-- A frame's structures read again keep its number. -/
theorem captureFrame_id (s : State) (f : Frame) : (captureFrame s f).id = f.id := by
  unfold captureFrame; dsimp only; split <;> rfl

theorem preflightDecided_idle (e : Option Nat) (s : State) (h : frameIn s .preflight = none) : preflightDecided e s = s := by
  simp [preflightDecided, h]

section
variable {s : State} {f : Frame} {t : Timing} (hf : frameIn s .preflight = some f) (ht : pfTiming s = some t)
include hf ht

/-- Before line 256 has captured the frame's edges nothing is decided. -/
theorem preflightDecided_early (e : Option Nat) (he : f.edge = none) : preflightDecided e s = s := by
  simp [preflightDecided, hf, ht, he]

theorem preflightDecided_lost (e : Option Nat) (he : f.edge.isSome) (hl : frameLost f = true) :
    preflightDecided e s = pfRefuse f .degraded (lostDetail f) s := by
  simp [preflightDecided, hf, ht, Option.isNone_eq_false_iff.2 he, hl]

/-- A frame whose tile table cannot be read is refused. -/
theorem preflightDecided_unread (e : Option Nat) (he : f.edge.isSome) (hl : frameLost f = false)
    (hr : (tableRead e f (pfNotes f s)).1.isSome) :
    ∃ d, preflightDecided e s = pfRefuse f .integrity d (tableRead e f (pfNotes f s)).2 := by
  obtain ⟨i, hi⟩ := Option.isSome_iff_exists.1 hr
  obtain ⟨s1, hs⟩ : ∃ s1, tableRead e f (pfNotes f s) = (some i, s1) := ⟨_, Prod.ext hi rfl⟩
  simp only [preflightDecided, hf, ht, Option.isNone_eq_false_iff.2 he, hl, hs]
  exact ⟨_, rfl⟩

end

/-- R104: a pre-flight that ends in a refusal leaves its result for the next tick, is no longer busy, and its frame is
gone. -/
theorem pfRefuse_leaves (f : Frame) (st : Status) (d : W64) (s : State) :
    (pfRefuse f st d s).hom.pfBusy = false ∧
    (∃ a b, (pfRefuse f st d s).hom.pfNext = some (pfCode st, 0xFFFF, 0, a, b, 0)) ∧
    ∀ g ∈ (pfRefuse f st d s).scene.frames, g.id ≠ f.id := by
  refine ⟨?_, ?_, refuseFrame_gone _ _ _ _⟩
  · rw [pfRefuse, refuseFrame_hom]; rfl
  · rw [pfRefuse, refuseFrame_hom]; exact ⟨_, _, rfl⟩

section
variable {f : Frame} {t : Timing} {s : State}

/-- The frame's cost keeps to the limits of the timing with the pipelines counted with (R32, R102, R104). -/
def pfFits (f : Frame) (t : Timing) (s : State) : Prop :=
  (costOf s f t (pfPipes s)).failRow = none ∧ (costOf s f t (pfPipes s)).total ≤ (pfBudget t (pfPipes s)).1

theorem pfCost_test_iff : ((costOf s f t (pfPipes s)).failRow.isSome ||
    decide ((pfBudget t (pfPipes s)).1 < (costOf s f t (pfPipes s)).total)) = true ↔ ¬ pfFits f t s := by
  simp [pfFits, Option.isSome_iff_ne_none, imp_iff_not_or]

/-- A frame that does not fit is refused. -/
theorem pfCost_above (h : ¬ pfFits f t s) :
    (pfCost f t s).hom.pfBusy = false ∧ ∀ g ∈ (pfCost f t s).scene.frames, g.id ≠ f.id := by
  unfold pfCost
  dsimp only
  rw [if_pos (pfCost_test_iff.2 h)]
  exact ⟨by rw [refuseFrame_hom]; rfl, refuseFrame_gone _ _ _ _⟩

/-- A frame that fits is admitted with its cost. -/
theorem pfCost_within {g : Frame} (h : pfFits f t s) (hg : frameById s f.id = some g) :
    (pfCost f t s).hom.pfBusy = false ∧ frameById (pfCost f t s) f.id = some { g with
      state := .admitted, cost := (costOf s f t (pfPipes s)).total, rowMax := (costOf s f t (pfPipes s)).rowMax } := by
  have admitted := frameById_modFrame f.id (fun x => { x with
    state := .admitted, cost := (costOf s f t (pfPipes s)).total, rowMax := (costOf s f t (pfPipes s)).rowMax }) s fun _ => id
  rw [hg] at admitted
  unfold pfCost
  dsimp only
  rw [if_neg (mt pfCost_test_iff.1 (not_not_intro h))]
  split <;> exact ⟨rfl, admitted⟩

end

/-! ### A frame that passes its checks -/

/-- A frame's structures read again stand in its place. -/
def reread (f : Frame) (s : State) : State := modFrame f.id (fun _ => captureFrame s f) s

theorem frameById_reread {f x : Frame} {s : State} (h : frameById s f.id = some x) :
    frameById (reread f s) (captureFrame s f).id = some (captureFrame s f) := by
  rw [captureFrame_id, reread, frameById_modFrame f.id _ s fun _ _ => captureFrame_id s f, h]
  rfl

/-- Reading a frame again changes no structure in DRAM and no pipeline: a cost stays what it was. -/
theorem costOf_reread (f g : Frame) (t : Timing) (n : Nat) (s : State) : costOf (reread f s) g t n = costOf s g t n := rfl

theorem pfPipes_reread (f : Frame) (s : State) : pfPipes (reread f s) = pfPipes s := rfl

theorem pfFits_reread (f g : Frame) (t : Timing) (s : State) : pfFits g t (reread f s) ↔ pfFits g t s := by
  simp only [pfFits, pfPipes_reread, costOf_reread]

section
variable {s : State} {f : Frame} {t : Timing} (hf : frameIn s .preflight = some f) (ht : pfTiming s = some t)
  (he : f.edge.isSome) (hl : frameLost f = false) (hp : tablePoisoned (pfNotes f s) f = none)
  (hc : pfChecks (pfNotes f s) f = none)
include hf ht he hl hp hc

/-- A frame that passes its checks is decided by its cost, its structures read again. -/
theorem preflightDecided_checked : scanBlocks (preflightDecided none s) =
    scanBlocks (pfCost (captureFrame (pfNotes f s) f) t (reread f (pfNotes f s))) := by
  simp [preflightDecided, hf, ht, Option.isNone_eq_false_iff.2 he, hl, tableRead, hp, hc, reread]

/-- R104: a frame that passes its checks and fits is admitted with its cost. -/
theorem preflightDecided_admits (fits : pfFits (captureFrame (pfNotes f s) f) t (pfNotes f s)) :
    (preflightDecided none s).hom.pfBusy = false ∧ ∃ g, frameById (preflightDecided none s) f.id = some g ∧
      g.state = .admitted ∧
      g.cost = (costOf (pfNotes f s) (captureFrame (pfNotes f s) f) t (pfPipes (pfNotes f s))).total := by
  have e := preflightDecided_checked hf ht he hl hp hc
  obtain ⟨x, hx⟩ := frameById_of_frameIn hf
  have noted : frameById (pfNotes f s) f.id = some x := by
    rw [frameById, scene_of_blocks (pfNotes_blocks f s)]; exact hx
  obtain ⟨busy, found⟩ := pfCost_within ((pfFits_reread f _ t _).2 fits) (frameById_reread noted)
  rw [captureFrame_id, frameById, ← scene_of_blocks e] at found
  rw [← hom_of_blocks e] at busy
  refine ⟨busy, _, found, rfl, ?_⟩
  rw [pfPipes_reread, costOf_reread]

/-- R104: a frame that passes its checks and does not fit is refused. -/
theorem preflightDecided_refuses (above : ¬ pfFits (captureFrame (pfNotes f s) f) t (pfNotes f s)) :
    (preflightDecided none s).hom.pfBusy = false ∧ ∀ g ∈ (preflightDecided none s).scene.frames, g.id ≠ f.id := by
  have e := preflightDecided_checked hf ht he hl hp hc
  rw [hom_of_blocks e, scene_of_blocks e, ← captureFrame_id (pfNotes f s) f]
  exact pfCost_above (mt (pfFits_reread f _ t _).1 above)

end

end Sys2Proof.Machine
end

section
/-! SUPPORT. Line 256 (R91, R104, R166). -/

namespace Sys2Proof.Machine

/-- What the count and the log entry of a late strip leave alone: the frames, the edges' register and the raster. -/
def stripsView (s : State) : Scene × Rws × Scn := (s.scene, s.hom.edge, s.scn)

theorem stripsView_of_blocks {s t : State} (h : scanBlocks s = scanBlocks t) : stripsView s = stripsView t := by
  simp [stripsView, scene_of_blocks h, hom_of_blocks h, scn_of_blocks h]

/-- A frame with strips noted late in its first scan. -/
def noteLate (id : Nat) (new : List (Nat × Nat)) (x : Frame) : Frame :=
  if x.id = id then (if x.fresh then { x with haloLate := x.haloLate ++ new } else x) else x

theorem noteLate_keeps (id : Nat) (new : List (Nat × Nat)) (x : Frame) :
    (noteLate id new x).id = x.id ∧ (noteLate id new x).state = x.state := by
  unfold noteLate
  split
  · split <;> exact ⟨rfl, rfl⟩
  · exact ⟨rfl, rfl⟩

/-- The check of the strips at line 256 keeps every frame's number and state, the edges' registers and the line. -/
theorem stripsCheck_keeps (s : State) : ∃ φ : Frame → Frame, (∀ x, (φ x).id = x.id ∧ (φ x).state = x.state) ∧
    (stripsCheck s).scene.frames = s.scene.frames.map φ ∧ (stripsCheck s).hom.edge = s.hom.edge ∧
    (stripsCheck s).scn.line = s.scn.line := by
  unfold stripsCheck
  split
  · exact ⟨id, fun _ => ⟨rfl, rfl⟩, (List.map_id _).symm, rfl, rfl⟩
  next f hf =>
    extract_lets edge want ready late s1 new one
    have each (u : State) (x : Nat × Nat) : stripsView (one u x) = stripsView u :=
      (stripsView_of_blocks (log_blocks _ _ _)).trans rfl
    have counted : stripsView (if f.fresh then new.foldl one s1 else s1) = stripsView s1 := by
      split
      · exact foldl_keeps _ _ _ _ each
      · rfl
    simp only [stripsView, Prod.mk.injEq] at counted
    obtain ⟨scene, edges, raster⟩ := counted
    refine ⟨noteLate f.id new, noteLate_keeps f.id new, ?_, edges, (congrArg Scn.line raster).trans rfl⟩
    exact congrArg (fun c : Scene => c.frames.map (noteLate f.id new)) scene

theorem synthesisStart_off (s : State) (h : s.scn.state ≠ .run ∨ s.scn.scan.synth = true ∨ s.scn.scan.complete = true) :
    synthesisStart s = s := by
  refine if_pos ?_
  rcases h with h | h | h <;> simp [h]

/-- R91, R104, R166: line 256 of a scan starts synthesis and captures the edges of the frame in pre-flight. -/
theorem synthesisStart_begins (s : State) (hr : s.scn.state = .run) (hs : s.scn.scan.synth = false)
    (hc : s.scn.scan.complete = false) :
    (synthesisStart s).scn.scan.synth = true ∧ (synthesisStart s).scn.line = max s.scn.line 256 ∧
    ∀ f, frameIn s .preflight = some f →
      ∃ g, frameIn (synthesisStart s) .preflight = some g ∧ g.id = f.id ∧ g.edge = some s.hom.edge.act := by
  obtain ⟨φ, keeps, frames, edge, line⟩ := stripsCheck_keeps (clockTo (lineTime s 256) s)
  rw [clockTo_scene] at frames
  rw [clockTo_hom] at edge
  rw [clockTo_scn] at line
  unfold synthesisStart
  rw [if_neg (by simp [hr, hs, hc])]
  extract_lets s1 scn s2
  have found : frameIn s2 .preflight = (frameIn s .preflight).map φ := frameIn_map φ frames (fun x => (keeps x).2) _
  have begun : s2.scn.scan.synth = true ∧ s2.scn.line = max s.scn.line 256 := ⟨rfl, congrArg (max · 256) line⟩
  split
  next f hf =>
    refine ⟨begun.1, begun.2, fun f' hf' => ⟨{ f with edge := some s2.hom.edge.act }, ?_, ?_, ?_⟩⟩
    · exact (frameIn_modFrame f.id (fun x => { x with edge := some s2.hom.edge.act }) s2 (fun _ => rfl) _).trans
        (by rw [hf]; simp)
    · rw [hf', hf] at found
      obtain rfl := Option.some.inj found
      exact (keeps f').1
    · exact congrArg (fun r : Rws => some r.act) edge
  next noFrame =>
    refine ⟨begun.1, begun.2, fun f' hf' => ?_⟩
    rw [hf', noFrame] at found
    exact absurd found (by simp)

end Sys2Proof.Machine
end

section
/-! SUPPORT. What an active line leaves alone: the raster but for what its scan has found (R98, R112, R125, R138, R148). -/

namespace Sys2Proof.Machine

/-- The raster without what its scan has found. -/
def lineView (s : State) : Scn := { s.scn with scan := { line := s.scn.scan.line } }

theorem lineView_of_blocks {s t : State} (h : scanBlocks s = scanBlocks t) : lineView s = lineView t := by
  simp [lineView, scn_of_blocks h]

theorem line_of_view {s t : State} (h : lineView s = lineView t) :
    s.scn.line = t.scn.line ∧ s.scn.state = t.scn.state ∧ s.scn.scan.line = t.scn.scan.line :=
  ⟨(congrArg Scn.line h :), (congrArg Scn.state h :), (congrArg (fun c : Scn => c.scan.line) h :)⟩

/-! ### Planes -/

@[simp] theorem tileNotes_blocks (f : Frame) (d : PlaneDesc) (tt : List Byte) (failed : Bool) (t r : Nat) (s : State) :
    scanBlocks (tileNotes f d tt failed t r s) = scanBlocks s := by
  unfold tileNotes
  extract_lets e ctn
  have counted (u : State) : scanBlocks (ctn u) = scanBlocks u := (log_blocks _ _ _).trans rfl
  split
  · exact counted s
  · extract_lets s1
    have noted : scanBlocks s1 = scanBlocks s := by
      simp only [s1]; split
      · exact dramLasting_blocks _ _ _
      · rfl
    rw [dramNote_blocks, trnAccess_blocks]
    split
    · rw [counted, noted]
    · exact noted

@[simp] theorem tilePoison_line (f : Frame) (i : Nat) (d : PlaneDesc) (tt : List Byte) (failed : Bool) (t r : Nat) (s : State) :
    lineView (tilePoison f i d tt failed t r s) = lineView s := by
  unfold tilePoison
  extract_lets s1 s2
  have logged : lineView s1 = lineView s := (lineView_of_blocks (log_blocks _ _ _)).trans rfl
  exact (lineView_of_blocks (tileNotes_blocks _ _ _ _ _ _ _)).trans logged

@[simp] theorem fillPlane_line (t : Timing) (hy : Nat) (poisoned : List (Nat × Nat × Nat)) (f : Frame) (i : Nat)
    (d : PlaneDesc) (s : State) : lineView (fillPlane t hy poisoned f i d s) = lineView s := by
  unfold fillPlane
  split
  · rfl
  · refine foldl_keeps _ _ _ _ fun u x => ?_
    split
    · rfl
    · dsimp only; split <;> simp

@[simp] theorem fillPlanes_line (t : Timing) (hy : Nat) (poisoned : List (Nat × Nat × Nat)) (f : Frame) (s : State) :
    lineView (fillPlanes t hy poisoned f s) = lineView s := by
  refine foldl_keeps _ _ _ _ fun u i => ?_
  split <;> simp

@[simp] theorem tilesRetried_line (tiles : List (Nat × Nat × Nat)) (f : Frame) (s : State) :
    lineView (tilesRetried tiles f s) = lineView s := by
  unfold tilesRetried
  extract_lets one
  split
  · rfl
  · refine Eq.trans (b := lineView (tiles.foldl one s)) rfl (foldl_keeps _ _ _ _ fun u x => ?_)
    simp only [one]; split
    · exact lineView_of_blocks (dramTransient_blocks _ _)
    · rfl

/-- The row of the lens-alignment table that stands read is something the scan has found. -/
theorem lensRead_line (row : Option (Nat × List Nat)) (n : Nat) (s : State) :
    lineView (modScan (fun x => { x with lens := row }) { s with free := n }) = lineView s := rfl

@[simp] theorem lensFill_line (t : Timing) (hy : Nat) (s : State) : lineView (lensFill t hy s) = lineView s := by
  unfold lensFill
  refine ite_keeps lineView rfl ?_
  extract_lets row a s1
  have read : lineView s1 = lineView s := lineView_of_blocks ((dramNote_blocks _ _ _ _).trans (trnAccess_blocks _ _ _ _ _ _))
  exact (lensRead_line _ _ s1).trans read

/-! ### Overlays -/

@[simp] theorem ovlPoison_line (slot x y n : Nat) (s : State) : lineView (ovlPoison slot x y n s) = lineView s :=
  (lineView_of_blocks (log_blocks _ _ _)).trans rfl

@[simp] theorem ovlFailed_blocks (b : Nat × Nat × Nat × Nat) (s : State) : scanBlocks (ovlFailed b s) = scanBlocks s := by
  unfold ovlFailed; split
  · dsimp only; split <;> simp
  · rfl

@[simp] theorem fillOvlRow_line (o : OvlShow) (y : Nat) (s : State) : lineView (fillOvlRow o y s) = lineView s := by
  refine foldl_keeps _ _ _ _ fun u j => ?_
  dsimp only; split
  · rfl
  · rw [ovlPoison_line]
    exact lineView_of_blocks (by simp)

@[simp] theorem fillOvl_line (t : Timing) (hy v : Nat) (env : List (Nat × Nat × Nat × Nat)) (s : State) :
    lineView (fillOvl t hy v env s) = lineView s := by
  unfold fillOvl
  extract_lets s1
  have failed : lineView s1 = lineView s := foldl_keeps _ _ _ _ fun u b => by
    split
    · rfl
    · rw [ovlPoison_line]; exact lineView_of_blocks (ovlFailed_blocks b u)
  split
  · exact failed
  · exact (foldl_keeps _ _ _ _ fun u o => foldl_keeps _ _ _ _ fun u y => fillOvlRow_line o y u).trans failed

/-! ### Prior state and the waveform table -/

@[simp] theorem priorRead_line (t : Timing) (a : Nat) (env : List Nat) (s : State) :
    lineView (priorRead t a env s).2 = lineView s := by
  have access := trnAccess_blocks 0 10 .r (priorLine t a * priorPitch t) (priorPitch t) s
  unfold priorRead
  extract_lets pitch base
  split
  next e => rw [e] at access; exact lineView_of_blocks access
  next s1 e =>
    rw [e] at access
    extract_lets s2
    have poisoned : lineView s2 = lineView s1 := foldl_keeps _ _ _ _ fun u b => by
      refine (lineView_of_blocks (log_blocks _ _ _)).trans ?_
      show lineView ((if _ then _ else id) _) = _
      split
      · exact (lineView_of_blocks (dramLasting_blocks _ _ _)).trans rfl
      · rfl
    exact (lineView_of_blocks (dramNote_blocks _ _ _ _)).trans (poisoned.trans (lineView_of_blocks access))

theorem crslErr_line (i : Nat) (s : State) : lineView (crslErr i s) = lineView s := rfl

@[simp] theorem tableFail_line (f : Nat × Nat) (s : State) : lineView (tableFail f s) = lineView s := by
  unfold tableFail
  split
  · rfl
  · extract_lets c copies s0 s1
    have failed : lineView s0 = lineView s := lineView_of_blocks <| foldl_keeps _ _ _ _ fun u n => by
      split
      · rfl
      · exact bankLasting_blocks _ _ _
    have counted : lineView s1 = lineView s :=
      ((lineView_of_blocks (log_blocks _ _ _)).trans (crslErr_line 1 _)).trans failed
    split
    · exact ((lineView_of_blocks (log_blocks _ _ _)).trans (crslErr_line 2 s1)).trans counted
    · exact counted

@[simp] theorem setDiff_line (regions : List Nat) (s : State) : lineView (setDiff regions s) = lineView s :=
  eachNat_keeps _ _ _ _ fun _ _ => rfl

@[simp] theorem priorWrite_line (t : Timing) (a v : Nat) (codes : List (RayRes × List Nat)) (s : State) :
    lineView (priorWrite t a v codes s) = lineView s := by
  have access := trnAccess_blocks 0 10 .w (priorLine t a * priorPitch t) (priorPitch t) s
  unfold priorWrite
  split
  · rfl
  · extract_lets es pitch
    split
    next e => rw [e] at access; exact lineView_of_blocks access
    next e => rw [e] at access; exact lineView_of_blocks ((dramStore_blocks _ _ _ _).trans access)

/-- A complete line leaves the raster as it was but for what the scan has found. -/
theorem lineSend_line (t : Timing) (a : Nat) (env : LineEnv) (s : State) : lineView (lineSend t a env s) = lineView s := by
  unfold lineSend
  extract_lets vv hy v s1 s2 rays s3
  have planes : lineView s1 = lineView s := by
    rw [lensFill_line]
    split
    · rw [tilesRetried_line, fillPlanes_line]
    · rfl
  have found : lineView s3 = lineView s := Eq.trans (b := lineView s2) rfl ((fillOvl_line _ _ _ _ _).trans planes)
  have prior : lineView (priorRead t a env.prior s3).2 = lineView s := (priorRead_line _ _ _ _).trans found
  split
  next bytes s4 e =>
    rw [e] at prior
    extract_lets s5 driven s6 codes s7 slice
    have table : lineView s5 = lineView s4 := foldl_keeps _ _ _ _ fun u f => tableFail_line f u
    rw [lineView_of_blocks (pxSendAll_blocks _ _ _ _ _), priorWrite_line, setDiff_line, table, prior]

end Sys2Proof.Machine
end

section
/-! SUPPORT. Lines, underruns, the end of a scan, hold extensions and pipelines in service (R41, R106, R170 to R174, R201,
R208). -/

namespace Sys2Proof.Machine

/-! ### Blank lines (R201, R228) -/

@[simp] theorem sendDiag_blocks (line row : Nat) (s : State) : scanBlocks (sendDiag line row s) = scanBlocks s :=
  pxSendAll_blocks _ _ _ _ _

/-- What a blank line leaves alone: frames, Carousel, and the raster but for what the scan has sent. -/
def blankView (s : State) : Scene × Crsl × Scn := (s.scene, s.crsl, lineView s)

theorem blankView_of_blocks {s t : State} (h : scanBlocks s = scanBlocks t) : blankView s = blankView t := by
  simp [blankView, scene_of_blocks h, crsl_of_blocks h, lineView_of_blocks h]

theorem diagAdvance_blocks (t : Timing) (s : State) : scanBlocks (diagAdvance t s) = scanBlocks s := rfl

@[simp] theorem diagLine_view (l : Nat) (s : State) : blankView (diagLine l s) = blankView s := by
  unfold diagLine
  split
  · rfl
  next t _ =>
    refine ite_keeps blankView rfl ?_
    extract_lets i n s1
    have sent : blankView s1 = blankView s := blankView_of_blocks (sendDiag_blocks _ _ s)
    refine ite_keeps blankView (ite_keeps blankView ?_ sent) (ite_keeps blankView rfl ?_)
    · exact (blankView_of_blocks (diagAdvance_blocks t s1)).trans sent
    · split
      · rfl
      · exact (blankView_of_blocks (sendDiag_blocks _ _ _)).trans rfl

theorem blankLine_off (l : Nat) (s : State) (h : s.scn.state ≠ .run) : blankLine l s = s := by
  unfold blankLine
  split
  · rfl
  · exact if_pos (by simp [h])

/-- R201: a blank line leaves, and changes no frame and no region. -/
theorem blankLine_leaves (l : Nat) (t : Timing) (s : State) (ht : s.scn.inForce = some t) (hr : s.scn.state = .run)
    (hl : l < linesB t) (hn : l = 0 ∨ s.scn.line < l) :
    (blankLine l s).scn.line = l ∧ (blankLine l s).scn.state = .run ∧ (blankLine l s).scene = s.scene ∧
    (blankLine l s).crsl = s.crsl := by
  have e : blankView (blankLine l s) = blankView { s with scn := { s.scn with line := l } } := by
    have due : ¬ (s.scn.state != .run || decide (linesB t ≤ l) || (l != 0 && decide (l ≤ s.scn.line))) = true := by
      simp [hr, hl]; omega
    unfold blankLine
    split
    next unset => rw [ht] at unset; exact absurd unset (by simp)
    next t' ht' =>
      obtain rfl := Option.some.inj (ht.symm.trans ht')
      rw [if_neg due]
      extract_lets st s1
      have clock : blankView s1 = blankView { s with scn := { s.scn with line := l } } :=
        blankView_of_blocks (clockTo_blocks _ _)
      split
      · exact (blankView_of_blocks (pxSendAll_blocks _ _ _ _ _)).trans clock
      · rw [diagLine_view]
        exact (blankView_of_blocks ((sendCmds_blocks _ _).trans (pxSendAll_blocks _ _ _ _ _))).trans clock
  simp only [blankView, Prod.mk.injEq] at e
  obtain ⟨scene, crsl, view⟩ := e
  obtain ⟨line, state, _⟩ := line_of_view view
  exact ⟨line, state.trans hr, scene, crsl⟩

/-! ### Active lines (R41, R170, R171) -/

theorem lineDeparture_off (env : LineEnv) (s : State) (h : s.scn.scan.synth = false) : lineDeparture env s = s := by
  unfold lineDeparture
  split
  · rfl
  · exact if_pos (by simp [h])

/-- The abort of a frame's first scan leaves the raster alone. -/
@[simp] theorem frameAborted_scn (a : Nat) (s : State) : (frameAborted a s).scn = s.scn := by
  unfold frameAborted
  split
  · rfl
  next f _ =>
    have left := (frameReport_view f .aborted (put a 0) (retireFrame f s)).trans (retireFrame_view f rfl)
    exact congrArg (·.2.2) left

/-- R41, R171: an underrun aborts the scan, and is counted with its line and stage. -/
theorem underrun_leaves (a stage : Nat) (s : State) :
    (underrun a stage s).scn.state = .aborted ∧ (underrun a stage s).scn.underrun = true ∧
    (underrun a stage s).scn.underrunCount = satAdd 32 s.scn.underrunCount 1 ∧ (underrun a stage s).scn.underrunLine = a ∧
    (underrun a stage s).scn.underrunStage = stage := by
  unfold underrun
  extract_lets c s1
  have e := (scn_of_blocks (sendAbort_blocks s.scn.line (log .scnUnderrun [a, stage]
    (modScan (fun x => { x with aborted := true }) s1)))).trans (scn_of_blocks (log_blocks _ _ _))
  rw [frameAborted_scn, e]
  exact ⟨rfl, rfl, rfl, rfl, rfl⟩

/-- The state in which the next active line departs: the clock at the line's start, the raster at the line. -/
def atLine (t : Timing) (s : State) : State :=
  clockTo (lineTime s (linesB t + s.scn.scan.line)) { s with scn := { s.scn with line := linesB t + s.scn.scan.line } }

@[simp] theorem atLine_scn (t : Timing) (s : State) :
    (atLine t s).scn = { s.scn with line := linesB t + s.scn.scan.line } := clockTo_scn _ _

/-- What a departure does, by what the line meets. -/
theorem lineDeparture_eq (env : LineEnv) {t : Timing} {s : State} (ht : s.scn.inForce = some t) (hr : s.scn.state = .run)
    (hs : s.scn.scan.synth = true) (hl : s.scn.scan.line < linesA t) :
    let a := s.scn.scan.line
    let next := modScan fun x => { x with line := a + 1 }
    lineDeparture env s =
      if s.scn.scan.holdTick then
        next (if a = 0 then pxSendAll 0x14 0 (linesB t + a) (fun _ => holdPayload 0) (atLine t s) else atLine t s)
      else if pipeTakes s a then underrun a 4 (atLine t s)
      else if !env.complete then underrun a env.stage (atLine t s)
      else next (lineSend t a env (modScan (fun x => { x with
        minLead := min x.minLead (min env.lead (fifoLines t - 1)) }) (atLine t s))) := by
  have due : ¬ (s.scn.state != .run || !s.scn.scan.synth || decide (linesA t ≤ s.scn.scan.line)) = true := by
    simp [hr, hs, hl]
  unfold lineDeparture
  split
  next unset => rw [ht] at unset; exact absurd unset (by simp)
  next t' ht' =>
    obtain rfl := Option.some.inj (ht.symm.trans ht')
    rw [if_neg due]
    rfl

/-- A departure ends with the next line due, and the raster at the line that has left. -/
theorem departed {t : Timing} {s u : State} (hu : lineView u = lineView (atLine t s)) :
    let v := modScan (fun x => { x with line := s.scn.scan.line + 1 }) u
    v.scn.scan.line = s.scn.scan.line + 1 ∧ v.scn.line = linesB t + s.scn.scan.line ∧ v.scn.state = s.scn.state := by
  obtain ⟨line, state, _⟩ := line_of_view hu
  rw [atLine_scn] at line state
  exact ⟨rfl, line, state⟩

/-- R170: a line that is complete and taken by no failed pipeline, and a line of a hold tick, leave in order. -/
theorem lineDeparture_leaves (env : LineEnv) {t : Timing} {s : State} (ht : s.scn.inForce = some t) (hr : s.scn.state = .run)
    (hs : s.scn.scan.synth = true) (hl : s.scn.scan.line < linesA t)
    (h : s.scn.scan.holdTick = true ∨ (pipeTakes s s.scn.scan.line = false ∧ env.complete = true)) :
    (lineDeparture env s).scn.scan.line = s.scn.scan.line + 1 ∧
    (lineDeparture env s).scn.line = linesB t + s.scn.scan.line ∧ (lineDeparture env s).scn.state = .run := by
  rw [lineDeparture_eq env ht hr hs hl, ← hr]
  split
  · refine departed (ite_keeps lineView ?_ rfl)
    exact lineView_of_blocks (pxSendAll_blocks _ _ _ _ _)
  next hold =>
    obtain ⟨free, complete⟩ := h.resolve_left hold
    rw [if_neg (by simp [free]), if_neg (by simp [complete])]
    exact departed ((lineSend_line _ _ _ _).trans rfl)

/-- R41, R106, R171: a line that is not complete, or that a failed pipeline takes, aborts the scan as an underrun. -/
theorem lineDeparture_underruns (env : LineEnv) {t : Timing} {s : State} (ht : s.scn.inForce = some t)
    (hr : s.scn.state = .run) (hs : s.scn.scan.synth = true) (hl : s.scn.scan.line < linesA t)
    (hh : s.scn.scan.holdTick = false) (h : pipeTakes s s.scn.scan.line = true ∨ env.complete = false) :
    lineDeparture env s =
      underrun s.scn.scan.line (if pipeTakes s s.scn.scan.line then 4 else env.stage) (atLine t s) := by
  rw [lineDeparture_eq env ht hr hs hl, if_neg (by simp [hh])]
  split
  · rfl
  next free => rw [if_pos (by simp [h.resolve_left free])]

/-! ### Pipelines in service (R106, R107) -/

theorem bitOf_setBit {n : Nat} (w : BitVec n) {i : Nat} (h : i < n) : bitOf (setBit w i) i = true := by
  simp [bitOf, setBit, put, h]

theorem homPipeErr_unmapped (q l : Nat) (s : State) (h : pipeLogical s q = none) : homPipeErr q l s = s :=
  if_pos (by simp [h])

theorem lkp_putAt {α : Type} (m : Sparse α) (i : Nat) (v : α) : (lkp (putAt m i v) i).isSome := by
  simp [lkp, putAt]

/-- A pipeline that has failed is suspected, and nothing else of the Hall of Mirrors or the raster changes. -/
theorem pipeFail_leaves (n q : Nat) (s : State) :
    (pipeFail n q s).hom = { s.hom with suspects := (pipeFail n q s).hom.suspects } ∧
    (lkp (pipeFail n q s).hom.suspects q).isSome ∧ (pipeFail n q s).scn = s.scn := by
  unfold pipeFail
  split
  · rw [hom_of_blocks (unitTransient_blocks _ _ _), scn_of_blocks (unitTransient_blocks _ _ _)]
    exact ⟨rfl, lkp_putAt _ _ _, rfl⟩
  next h => exact ⟨rfl, by simp [h], rfl⟩
  next h =>
    rw [hom_of_blocks (unitLasting_blocks _ _ _), scn_of_blocks (unitLasting_blocks _ _ _)]
    exact ⟨rfl, by simp [h], rfl⟩

/-- R106, R107: an error of a pipeline in service is counted, takes lines of the scan, and the pipeline is suspected. -/
theorem homPipeErr_counted (q l : Nat) (s : State) (hq : (pipeLogical s q).isSome) (hr : s.scn.state = .run)
    (hc : s.scn.scan.complete = false) (hh : s.scn.scan.holdTick = false) :
    (homPipeErr q l s).hom.pipeErrCount = satAdd 32 s.hom.pipeErrCount 1 ∧ bitOf (homPipeErr q l s).hom.err 3 = true ∧
    (homPipeErr q l s).hom.suppressed.isSome ∧ (lkp (homPipeErr q l s).hom.suspects q).isSome ∧
    (homPipeErr q l s).scn = s.scn := by
  unfold homPipeErr
  extract_lets sc a h s1
  rw [if_neg (by simp [sc, hr, hc, hh, Option.isSome_iff_ne_none.1 hq])]
  obtain ⟨hom, suspected, scn⟩ := pipeFail_leaves 0 q s1
  have logged : scanBlocks s1 = scanBlocks (homErr 3 _) := log_blocks _ _ _
  have hom1 : s1.hom = _ := hom_of_blocks logged
  have scn1 : s1.scn = s.scn := (scn_of_blocks logged).trans rfl
  rw [scn, scn1]
  refine ⟨?_, ?_, ?_, suspected, rfl⟩
  · rw [hom, hom1]; rfl
  · rw [hom, hom1]; exact bitOf_setBit _ (by decide)
  · rw [hom, hom1]; rfl

/-! ### The end of a scan (R171 to R173) -/

theorem scanEnd_off (s : State) (h : s.scn.state ≠ .run) : scanEnd s = s := by
  unfold scanEnd
  split
  · rfl
  · exact if_pos (by simp [h])

/-- The raster after the last line of a scan. -/
def scanEnded (s : State) : Scn := { s.scn with
  fifoMin := s.scn.scan.minLead, multLog := holdMult s, afterAbort := false, scan := { s.scn.scan with complete := true } }

/-- The raster as it enters a hold of `2 ^ k` slots. -/
def heldFor (k : Nat) (c : Scn) : Scn := { c with
  state := .hold, inExtension := true, extension := 2 ^ k - 1, holdBegun := satAdd 16 c.holdBegun 1 }

/-- R172, R173: the last line ends the scan; a quiet raster then holds for 2, 4 or 8 slots. -/
theorem scanEnd_scn {s : State} {t : Timing} (ht : s.scn.inForce = some t) (hr : s.scn.state = .run)
    (hh : s.scn.scan.holdTick = false) (hc : s.scn.scan.complete = false) (hl : linesA t ≤ s.scn.scan.line) :
    (scanEnd s).scn = if holdMult s = 0 then scanEnded s else heldFor (holdMult s) (scanEnded s) := by
  have due : ¬ (s.scn.state != .run || s.scn.scan.holdTick || s.scn.scan.complete ||
      decide (s.scn.scan.line < linesA t)) = true := by simp [hr, hh, hc, hl]
  unfold scanEnd
  split
  next unset => rw [ht] at unset; exact absurd unset (by simp)
  next t' ht' =>
    obtain rfl := Option.some.inj (ht.symm.trans ht')
    rw [if_neg due]
    extract_lets s0 k c0 s1 c1 s2
    have ended : s1.scn = scanEnded s := by
      have clock : s0.scn = s.scn := clockTo_scn _ _
      simp [s1, c0, modScan, scanEnded, clock, k]
    split
    · exact ended
    · have asleep := eachNat_keeps scanBlocks sleepGroup (List.range 32)
        (pxSendAll 0x14 1 (linesVt t - 1) (fun _ => holdPayload (2 ^ k - 1)) s2) sleepGroup_blocks
      rw [scn_of_blocks (asleep.trans (pxSendAll_blocks _ _ _ _ _))]
      simp [s2, c1, ended, heldFor, scanEnded, k]

/-! ### Hold extensions (R174) -/

theorem holdExtensionEnd_off (s : State) (h : s.scn.state ≠ .hold ∨ s.scn.inExtension = false) : holdExtensionEnd s = s := by
  unfold holdExtensionEnd
  split
  · rfl
  · exact if_pos (by rcases h with h | h <;> simp [h])

/-- R174: the slot boundary that ends the extension leaves its cause and counts its slots. -/
theorem holdExtensionEnd_ends (s : State) (ht : s.scn.inForce.isSome) (hr : s.scn.state = .hold)
    (hx : s.scn.inExtension = true) :
    (holdExtensionEnd s).scn = { s.scn with
      inExtension := false, holdEnd := s.scn.exitCause.getD 0, holdSlots := satAdd 32 s.scn.holdSlots s.scn.extension } := by
  unfold holdExtensionEnd
  split
  next unset => rw [unset] at ht; exact absurd ht (by simp)
  next t _ =>
    rw [if_neg (by simp [hr, hx])]
    extract_lets c s1 c1
    have closed : s1.scn = (extensionClose (c.exitCause.getD 0) c.extension s).scn := clockTo_scn _ _
    simp [c1, closed, extensionClose, hx, c]

end Sys2Proof.Machine
end

section
/-! SUPPORT. The wake of the panel link's groups (R173, R208). -/

namespace Sys2Proof.Machine

/-! ### What the wake changes besides the panel link -/

/-- A state but for the panel link and what `apart` blanks. -/
def besideLink (s : State) : State := apart { s with px := {} }

theorem apart_of_besideLink {s t : State} (h : besideLink t = besideLink s) : apart t = apart { s with px := t.px } :=
  congrArg (fun u : State => { u with px := t.px }) h

theorem emit_besideLink (o : Out) (s : State) : besideLink (emit o s) = besideLink s := rfl
theorem modGrp_besideLink (g : Nat) (f : Group → Group) (s : State) : besideLink (modGrp g f s) = besideLink s := rfl
theorem queueCmd_besideLink (o : Option Nat) (es : List (Nat × W32)) (s : State) :
    besideLink (queueCmd o es s) = besideLink s := rfl

theorem sendSet_besideLink (g : Nat) (code : Byte) (s : State) : besideLink (sendSet g code s) = besideLink s := by
  unfold sendSet streamOn
  dsimp only
  rw [emit_besideLink]
  split <;> simp only [modGrp_besideLink]
theorem linkTo_besideLink (g : Nat) (l : LinkState) (s : State) : besideLink (linkTo g l s) = besideLink s :=
  modGrp_besideLink _ _ _
theorem bcRetrainStart_besideLink (g : Nat) (s : State) : besideLink (bcRetrainStart g s) = besideLink s := by
  rw [bcRetrainStart, queueCmd_besideLink, modGrp_besideLink, linkTo_besideLink]

theorem wakeGroup_besideLink (g : Nat) (s : State) : besideLink (wakeGroup g s) = besideLink s := by
  unfold wakeGroup
  refine ite_keeps besideLink ?_ rfl
  extract_lets s1
  have sent : besideLink s1 = besideLink s :=
    (sendSet_besideLink _ _ _).trans (eachNat_keeps _ _ _ _ fun _ _ => sendSet_besideLink _ _ _)
  exact ite_keeps besideLink ((bcRetrainStart_besideLink _ _).trans sent) ((linkTo_besideLink _ _ _).trans sent)

/-! ### Groups -/

theorem grp_modGrp_ne (g k : Nat) (f : Group → Group) (s : State) (h : k ≠ g) : grp (modGrp g f s) k = grp s k :=
  spGet_spMod_ne _ _ _ _ _ h

/-- A group that is not DISABLED after a change reads as it was changed to. -/
theorem grp_modGrp (g : Nat) (f : Group → Group) (s : State) (h : (f (grp s g)).link ≠ .disabled) :
    grp (modGrp g f s) g = f (grp s g) :=
  spGet_spMod_eq _ _ _ _ fun e => h (congrArg Group.link e)

/-- The link of a group after a change that does not disable it. -/
theorem link_modGrp (g : Nat) (f : Group → Group) (s : State) {l : LinkState} (hl : l ≠ .disabled)
    (h : (f (grp s g)).link = l) : (grp (modGrp g f s) g).link = l := by
  rw [grp_modGrp g f s (h ▸ hl), h]

theorem grp_queueCmd (o : Option Nat) (es : List (Nat × W32)) (s : State) (k : Nat) : grp (queueCmd o es s) k = grp s k := rfl

theorem grp_linkTo_ne (g k : Nat) (l : LinkState) (s : State) (h : k ≠ g) : grp (linkTo g l s) k = grp s k :=
  grp_modGrp_ne g k _ s h
theorem link_linkTo (g : Nat) (l : LinkState) (s : State) (hl : l ≠ .disabled) : (grp (linkTo g l s) g).link = l :=
  link_modGrp g _ s hl rfl

theorem grp_bcRetrainStart_ne (g k : Nat) (s : State) (h : k ≠ g) : grp (bcRetrainStart g s) k = grp s k := by
  rw [bcRetrainStart, grp_queueCmd, grp_modGrp_ne _ _ _ _ h, grp_linkTo_ne _ _ _ _ h]
theorem link_bcRetrainStart (g : Nat) (s : State) : (grp (bcRetrainStart g s) g).link = .bcRetrain := by
  rw [bcRetrainStart, grp_queueCmd]
  exact link_modGrp g _ _ (by decide) (link_linkTo g .bcRetrain s (by decide))

theorem grp_sendSet_ne (g k : Nat) (code : Byte) (s : State) (h : k ≠ g) : grp (sendSet g code s) k = grp s k := by
  unfold sendSet; dsimp only
  split
  · exact (grp_modGrp_ne g k _ _ h).trans (grp_modGrp_ne g k _ _ h)
  · exact grp_modGrp_ne g k _ _ h

theorem wakeGroup_awake (g : Nat) (s : State) (h : (grp s g).link ≠ .sleep) : wakeGroup g s = s := if_neg (by simp [h])

theorem grp_wakeGroup_ne (g k : Nat) (s : State) (h : k ≠ g) : grp (wakeGroup g s) k = grp s k := by
  unfold wakeGroup
  refine ite_keeps (grp · k) ?_ rfl
  extract_lets s1
  have four : grp (eachNat (fun _ => sendSet g 0x33) (List.range 4) s) k = grp s k :=
    eachNat_keeps (grp · k) _ _ _ fun _ u => grp_sendSet_ne g k _ u h
  have sent : grp s1 k = grp s k := (grp_sendSet_ne g k _ _ h).trans four
  split
  · rw [grp_bcRetrainStart_ne g k s1 h, sent]
  · rw [grp_linkTo_ne g k _ s1 h, sent]

/-- R208: a group that wakes is ACTIVE, or in BC_RETRAIN where its back-channel has no lock. -/
theorem wakeGroup_link (g : Nat) (s : State) (h : (grp s g).link = .sleep) :
    (grp (wakeGroup g s) g).link = if (grp s g).bcDown then LinkState.bcRetrain else LinkState.active := by
  unfold wakeGroup
  rw [if_pos (by simp [h])]
  extract_lets s1
  split
  · exact link_bcRetrainStart g s1
  · exact link_linkTo g .active s1 (by decide)

/-! ### All the groups, one after another -/

theorem wakeGroups_awake (g : Nat) (l : List Nat) (s : State) (h : (grp s g).link ≠ .sleep) :
    grp (eachNat wakeGroup l s) g = grp s g := by
  induction l generalizing s with
  | nil => rfl
  | cons n r ih =>
    have keeps : grp (wakeGroup n s) g = grp s g := by
      by_cases hn : g = n
      · rw [← hn, wakeGroup_awake g s h]
      · exact grp_wakeGroup_ne n g s hn
    rw [eachNat, ih _ (by rw [keeps]; exact h), keeps]

theorem wakeGroups_link (g : Nat) (l : List Nat) (s : State) (hg : g ∈ l) (h : (grp s g).link = .sleep) :
    (grp (eachNat wakeGroup l s) g).link = if (grp s g).bcDown then LinkState.bcRetrain else LinkState.active := by
  induction l generalizing s with
  | nil => simp at hg
  | cons n r ih =>
    rw [eachNat]
    by_cases hn : g = n
    · have woken := wakeGroup_link g s h
      rw [← hn, wakeGroups_awake g r _ (by rw [woken]; split <;> simp), woken]
    · have keeps := grp_wakeGroup_ne n g s hn
      rw [ih _ ((List.mem_cons.1 hg).resolve_left hn) (by rw [keeps]; exact h), keeps]

theorem linkWake_off (s : State) (h : s.scn.state ≠ .hold) : linkWake s = s := if_neg (by simp [h])

/-- R173, R208: in a hold every sleeping group wakes, and no other changes. -/
theorem linkWake_wakes (s : State) (h : s.scn.state = .hold) :
    besideLink (linkWake s) = besideLink s ∧
    (∀ g, g < 32 → (grp s g).link = .sleep →
      (grp (linkWake s) g).link = (if (grp s g).bcDown then LinkState.bcRetrain else LinkState.active)) ∧
    (∀ g, (grp s g).link ≠ .sleep → grp (linkWake s) g = grp s g) := by
  have e : linkWake s = eachNat wakeGroup (List.range 32) s := if_pos (by simp [h])
  rw [e]
  exact ⟨eachNat_keeps _ _ _ _ wakeGroup_besideLink, fun g hg => wakeGroups_link g _ s (List.mem_range.2 hg),
    fun g => wakeGroups_awake g _ s⟩

end Sys2Proof.Machine
end

section
/-! A scan, from line 256 to the wake of the links. -/

namespace Sys2Proof

open Machine

theorem row_noop (f : State → State) (s : State) (hq : Quiet s) (h : f s = s) : row f s = .next s := by
  rw [row_quiet f s hq (by rw [h]), h]

/-! ### The pre-flight (R37, R104) -/

/-- A pre-flight that ends in a refusal without a complete cost. -/
theorem preflight_refuses {f : Frame} {st : Status} {d : W64} {e : Option Nat} {s u : State} (hq : Quiet s)
    (h : preflightDecided e s = pfRefuse f st d u) :
    ∃ t, exec (.preflightDecided e) s = .next t ∧ t.hom.pfBusy = false ∧
      (∃ a b, t.hom.pfNext = some (pfCode st, 0xFFFF, 0, a, b, 0)) ∧ ∀ g ∈ t.scene.frames, g.id ≠ f.id := by
  have left := pfRefuse_leaves f st d u
  rw [← h] at left
  exact ⟨_, row_quiet (preflightDecided e) s hq (preflightDecided_holds e s), left⟩

/-! ### Lines and pipelines (R41, R106, R170, R171) -/

theorem line_underruns (env : LineEnv) {t : Timing} {s : State} (hq : Quiet s) (ht : s.scn.inForce = some t)
    (hr : s.scn.state = .run) (hs : s.scn.scan.synth = true) (hl : s.scn.scan.line < linesA t)
    (hh : s.scn.scan.holdTick = false) (h : pipeTakes s s.scn.scan.line = true ∨ env.complete = false) :
    ∃ u, exec (.lineDeparture env) s = .next u ∧ u.scn.state = .aborted ∧ u.scn.underrun = true ∧
      u.scn.underrunCount = satAdd 32 s.scn.underrunCount 1 ∧ u.scn.underrunLine = s.scn.scan.line ∧
      u.scn.underrunStage = if pipeTakes s s.scn.scan.line then 4 else env.stage := by
  have left := underrun_leaves s.scn.scan.line (if pipeTakes s s.scn.scan.line then 4 else env.stage) (atLine t s)
  rw [← lineDeparture_underruns env ht hr hs hl hh h, atLine_scn] at left
  exact ⟨_, row_quiet (lineDeparture env) s hq (lineDeparture_holds env s), left⟩

theorem homPipeErr_row (q l : Nat) (s : State) (h : q < 72) :
    exec (.homPipeErr q l) s = row (homPipeErr q l) s := by
  show unitRow (decide (q < 72)) (homPipeErr q l) s = _
  rw [decide_eq_true h]
  rfl

/-! ### The end of a scan and hold extensions (R172 to R174) -/

section
variable {s : State} {t : Timing} (hq : Quiet s) (ht : s.scn.inForce = some t) (hr : s.scn.state = .run)
  (hh : s.scn.scan.holdTick = false) (hc : s.scn.scan.complete = false) (hl : linesA t ≤ s.scn.scan.line)
include hq ht hr hh hc hl

theorem scan_ends (hm : holdMult s = 0) : ∃ u, exec .scanEnd s = .next u ∧ u.scn.scan.complete = true ∧
    u.scn.state = .run ∧ u.scn.multLog = 0 ∧ u.scn.fifoMin = s.scn.scan.minLead := by
  have e := scanEnd_scn ht hr hh hc hl
  rw [if_pos hm] at e
  refine ⟨_, row_quiet scanEnd s hq (scanEnd_holds s), ?_⟩
  dsimp only
  rw [e]
  exact ⟨rfl, hr, hm, rfl⟩

theorem scan_holds (hm : holdMult s ≠ 0) : ∃ u, exec .scanEnd s = .next u ∧ u.scn.scan.complete = true ∧
    u.scn.state = .hold ∧ u.scn.inExtension = true ∧ u.scn.extension = 2 ^ holdMult s - 1 ∧
    u.scn.multLog = holdMult s ∧ u.scn.holdBegun = satAdd 16 s.scn.holdBegun 1 := by
  have e := scanEnd_scn ht hr hh hc hl
  rw [if_neg hm] at e
  refine ⟨_, row_quiet scanEnd s hq (scanEnd_holds s), ?_⟩
  dsimp only
  rw [e]
  exact ⟨rfl, rfl, rfl, rfl, rfl, rfl⟩

end

theorem extension_ends (s : State) (hq : Quiet s) (ht : s.scn.inForce.isSome) (hr : s.scn.state = .hold)
    (hx : s.scn.inExtension = true) : ∃ t, exec .holdExtensionEnd s = .next t ∧ t.scn.inExtension = false ∧
      t.scn.holdEnd = s.scn.exitCause.getD 0 ∧ t.scn.holdSlots = satAdd 32 s.scn.holdSlots s.scn.extension ∧
      t.scn.state = .hold := by
  refine ⟨_, row_quiet holdExtensionEnd s hq (holdExtensionEnd_holds s), ?_⟩
  dsimp only
  rw [holdExtensionEnd_ends s ht hr hx]
  exact ⟨rfl, rfl, rfl, hr⟩

/-- Settles O53: each row of the scan does its own operation in a quiet state. -/
theorem scansRun : Obligations.ScansRun := by
  intro s hq
  refine ⟨?synthOff, ?synth, ?idle, ?preflight, ?blankOff, ?blank, ?lineOff, ?line, ?pipe, ?scanOff, ?scan, ?extOff, ?ext,
    ?wakeOff, ?wake⟩
  case synthOff => exact fun h => row_noop _ s hq (synthesisStart_off s h)
  case synth =>
    exact fun hr hs hc => ⟨_, row_quiet synthesisStart s hq (synthesisStart_holds s), synthesisStart_begins s hr hs hc⟩
  case idle => exact fun e h => row_noop _ s hq (preflightDecided_idle e s h)
  case preflight =>
    refine fun f tm hf ht => ⟨fun he e => ?early, fun he hl e => ?lost, ?decided⟩
    case early => exact row_noop _ s hq (preflightDecided_early hf ht e he)
    case lost => exact preflight_refuses hq (preflightDecided_lost hf ht e he hl)
    case decided =>
      rintro he hl u rfl
      refine ⟨fun e hr => ?unread, fun hp hc => ⟨fun fits => ?admitted, fun above => ?refused⟩⟩
      case unread =>
        obtain ⟨d, h⟩ := preflightDecided_unread hf ht e he hl hr
        exact preflight_refuses hq h
      case admitted =>
        obtain ⟨busy, g, found, state, cost⟩ := preflightDecided_admits hf ht he hl hp hc fits
        exact ⟨_, g, row_quiet _ s hq (preflightDecided_holds none s), busy, found, state, cost⟩
      case refused =>
        exact ⟨_, row_quiet _ s hq (preflightDecided_holds none s), preflightDecided_refuses hf ht he hl hp hc above⟩
  case blankOff => exact fun l h => row_noop _ s hq (blankLine_off l s h)
  case blank =>
    exact fun l tm ht hr hl hn =>
      ⟨_, row_quiet (blankLine l) s hq (blankLine_holds l s), blankLine_leaves l tm s ht hr hl hn⟩
  case lineOff => exact fun env h => row_noop _ s hq (lineDeparture_off env s h)
  case line =>
    exact fun env tm ht hr hs hl =>
      ⟨fun h => ⟨_, row_quiet (lineDeparture env) s hq (lineDeparture_holds env s), lineDeparture_leaves env ht hr hs hl h⟩,
        fun hh h => line_underruns env hq ht hr hs hl hh h⟩
  case pipe =>
    intro q l h
    rw [homPipeErr_row q l s h]
    exact ⟨fun hu => row_noop _ s hq (homPipeErr_unmapped q l s hu), fun hm hr hc hh =>
      ⟨_, row_quiet (homPipeErr q l) s hq (homPipeErr_holds q l s), homPipeErr_counted q l s hm hr hc hh⟩⟩
  case scanOff => exact fun h => row_noop _ s hq (scanEnd_off s h)
  case scan => exact fun tm ht hr hh hc hl => ⟨scan_ends hq ht hr hh hc hl, scan_holds hq ht hr hh hc hl⟩
  case extOff => exact fun h => row_noop _ s hq (holdExtensionEnd_off s h)
  case ext => exact extension_ends s hq
  case wakeOff => exact fun h => row_noop _ s hq (linkWake_off s h)
  case wake =>
    intro h
    obtain ⟨beside, asleep, awake⟩ := linkWake_wakes s h
    exact ⟨_, row_quiet linkWake s hq (linkWake_holds s), (congrArg (fun u : State => { u with pending := s.pending })
      (apart_of_besideLink beside) :), asleep, awake⟩

end Sys2Proof
end

section
/-! SUPPORT. Commands that start: what their flight leaves alone, and how one that the Juggler serves ends or goes on (R237,
R332, R335, R340). -/

namespace Sys2Proof.Machine

/-! ### The flight of a command (R332) -/

/-- What does not read the host interface is the same with a command in flight. -/
theorem toFlight_keeps {α : Type} (v : State → α) (op : Byte) (h : Hdr) (s : State) (hv : ∀ q, v { s with hq := q } = v s) :
    v (toFlight op h s) = v s := by
  unfold toFlight
  split
  · rfl
  · exact hv _

section
variable (op : Byte) (h : Hdr) (s : State)

@[simp] theorem toFlight_scene : (toFlight op h s).scene = s.scene := toFlight_keeps _ op h s fun _ => rfl
@[simp] theorem toFlight_scn : (toFlight op h s).scn = s.scn := toFlight_keeps _ op h s fun _ => rfl
@[simp] theorem toFlight_pwr : (toFlight op h s).pwr = s.pwr := toFlight_keeps _ op h s fun _ => rfl
@[simp] theorem toFlight_trn : (toFlight op h s).trn = s.trn := toFlight_keeps _ op h s fun _ => rfl
@[simp] theorem slotOf_toFlight (n : Nat) : slotOf (toFlight op h s) n = slotOf s n :=
  toFlight_keeps (slotOf · n) op h s fun _ => rfl
@[simp] theorem slotPlaying_toFlight (n : Nat) : slotPlaying (toFlight op h s) n = slotPlaying s n :=
  toFlight_keeps (slotPlaying · n) op h s fun _ => rfl
@[simp] theorem noService_toFlight : noService (toFlight op h s) = noService s := toFlight_keeps _ op h s fun _ => rfl
@[simp] theorem streamPending_toFlight : streamPending (toFlight op h s) = streamPending s :=
  toFlight_keeps _ op h s fun _ => rfl
@[simp] theorem pkgPlayable_toFlight (n : Nat) :
    pkgPlayable (toFlight op h s) (slotHdr (toFlight op h s) n) = pkgPlayable s (slotHdr s n) :=
  toFlight_keeps (fun s => pkgPlayable s (slotHdr s n)) op h s fun _ => rfl
@[simp] theorem freeStaging_toFlight : freeStaging (toFlight op h s) = freeStaging s := toFlight_keeps _ op h s fun _ => rfl
@[simp] theorem regIssues_toFlight (p k : Nat) : regIssues p k (toFlight op h s) = regIssues p k s :=
  toFlight_keeps (regIssues p k) op h s fun _ => rfl
@[simp] theorem sqOf_toFlight (q : Nat) : sqOf (toFlight op h s) q = sqOf s q := by
  unfold toFlight
  split <;> rfl
@[simp] theorem jglPortOf_toFlight (src : Src) : jglPortOf (toFlight op h s) src = jglPortOf s src := by
  cases src <;> simp [jglPortOf]
@[simp] theorem srcMaster_toFlight (src : Src) : srcMaster (toFlight op h s) src = srcMaster s src := by
  cases src <;> simp [srcMaster]

/-- A command is in flight once it is fetched, unless firmware runs it itself. -/
theorem isFlight_toFlight : isFlight h (toFlight op h s) = true ∨ h.src = .fw := by
  by_cases fw : h.src = .fw
  · exact .inr fw
  · refine .inl ?_
    unfold toFlight isFlight
    split
    next flying => simpa [fw] using flying
    next => simp

end

/-- A state with the same commands in flight. -/
theorem isFlight_congr {s t : State} (h : Hdr) (e : s.hq.inflight = t.hq.inflight) : isFlight h s = isFlight h t := by
  rw [isFlight, e, isFlight]

/-- The row of a command that starts, in terms of what its start leaves. -/
theorem row_started {h : Hdr} {c : Cmd} {s t : State} (hs : Starts h c s)
    (e : startCmd h c (toFlight (opcodeOf c) h s) = t) (hh : holds t = holds s) :
    row (submit h c) s = .next { t with pending := s.pending } := by
  subst e
  exact row_starts h c s hs hh

/-! ### Commands that need the Juggler's service (R237) -/

section
variable {h : Hdr} {c : Cmd} {i : Instr} {s u : State} {f : State → State}
  (hi : exec i s = row (submit h c) s) (hs : Starts h c s) (hn : needsService c = true) (ha : awaitsData c = false)
  (hc : ∀ v, runCmd h c v = if noService v then complete (opcodeOf c) h .noResource 0 v else f v)
  (hf : ∀ v, holds (f v) = holds v)
include hs hn hc

/-- A command that starts finds the Juggler in service. -/
theorem served_run : runCmd h c (toFlight (opcodeOf c) h s) = f (toFlight (opcodeOf c) h s) := by
  obtain ⟨_, _, _, _, _, _, _, service⟩ := hs
  rw [hc, noService_toFlight, service hn]
  rfl

include hi ha hf

/-- A command whose operation completes it. -/
theorem served_ends {st : Status} {d : W64} {P : State → Prop}
    (hr : f (toFlight (opcodeOf c) h s) = complete (opcodeOf c) h st d u)
    (hu : u.hq.inflight = (toFlight (opcodeOf c) h s).hq.inflight) (hP : P u) : Ends i (opcodeOf c) h st d s P := by
  have kept : holds u = holds s := by
    rw [← complete_holds (opcodeOf c) h st d u, ← hr, hf, toFlight_holds]
  exact starts_ends h c i s u _ st d P hi hs (by simp [ha]) ((served_run hs hn hc).trans hr) hu kept hP

/-- A command whose operation only completes it. -/
theorem served_refused {st : Status} {d : W64}
    (hr : f (toFlight (opcodeOf c) h s) = complete (opcodeOf c) h st d (toFlight (opcodeOf c) h s)) :
    Ends i (opcodeOf c) h st d s fun u => u = toFlight (opcodeOf c) h s :=
  served_ends hi hs hn ha hc hf hr rfl rfl

/-- A command whose operation leaves it in flight. -/
theorem served_goes_on {P : State → Prop} (hk : ∀ p, c ≠ .frameSubmit p) (hw : ∀ p, c ≠ .waveformLoad p)
    (hr : f (toFlight (opcodeOf c) h s) = u) (hu : u.hq.inflight = (toFlight (opcodeOf c) h s).hq.inflight) (hP : P u) :
    GoesOn i (opcodeOf c) h s P := by
  have flies : isFlight h u = true ∨ h.src = .fw := by
    rw [isFlight_congr h hu]
    exact isFlight_toFlight _ h s
  have kept : holds u = holds s := by rw [← hr, hf, toFlight_holds]
  refine starts_goes_on h c i s u P hi hs ha ?_ ((served_run hs hn hc).trans hr) flies kept hP
  split
  next => exact hk _ rfl
  next => exact hw _ rfl
  next => trivial

end

/-! ### Rows that leave the waiting commands alone -/

theorem row_exact {f : State → State} {s t : State} (hq : Quiet s) (e : f s = t) (hh : holds t = holds s)
    (hp : t.pending = s.pending) : row f s = .next t := by
  subst e
  rw [row_quiet f s hq hh, ← hp]

theorem unitRow_exact {f : State → State} {s t : State} (hq : Quiet s) (e : f s = t) (hh : holds t = holds s)
    (hp : t.pending = s.pending) : unitRow true f s = .next t := by
  subst e
  rw [unitRow_quiet f s hq hh, ← hp]

theorem pending_of_apart {s t : State} (h : apart s = apart t) : s.pending = t.pending :=
  (congrArg State.pending h :)

@[simp] theorem complete_pending (op : Byte) (h : Hdr) (st : Status) (d : W64) (s : State) :
    (complete op h st d s).pending = s.pending := (pending_of_apart (complete_apart op h st d s)).trans rfl
@[simp] theorem log_pending (name : LogName) (args : List Nat) (s : State) : (log name args s).pending = s.pending :=
  pending_of_apart (log_apart name args s)
@[simp] theorem unitLasting_pending (cls idx : Nat) (s : State) : (unitLasting cls idx s).pending = s.pending := by
  unfold unitLasting unitReq
  split
  · split
    · rfl
    · exact (pending_of_apart (brkLevel_apart _ _ _)).trans rfl
  · rfl
@[simp] theorem dramRange_pending (port addr : Nat) (s : State) : (dramRange port addr s).pending = s.pending := by
  unfold dramRange
  dsimp only
  split
  · rw [log_pending]; rfl
  · rfl
@[simp] theorem dramLasting_pending (port addr : Nat) (s : State) : (dramLasting port addr s).pending = s.pending := by
  unfold dramLasting
  dsimp only
  split
  · rw [unitLasting_pending, log_pending]; rfl
  · rw [log_pending]; rfl
@[simp] theorem dramStore_pending (port addr : Nat) (bs : List Byte) (s : State) :
    (dramStore port addr bs s).pending = s.pending := by
  unfold dramStore
  split
  · rfl
  · split
    · simp
    · rfl
@[simp] theorem loadRevoke_pending (x : SceneSlot) (s : State) : (loadRevoke x s).pending = s.pending := by
  unfold loadRevoke; split <;> rfl
@[simp] theorem slotRelease_pending (n : Nat) (s : State) : (slotRelease n s).pending = s.pending := by
  show State.pending (if _ then _ else _) = _
  split <;> simp
@[simp] theorem verifyReads_pending (x : SceneSlot) (failed : List Nat) (s : State) :
    (verifyReads x failed s).pending = s.pending := by
  unfold verifyReads
  extract_lets s1
  have lines : s1.pending = s.pending := foldl_keeps _ _ _ _ fun _ _ => dramLasting_pending _ _ _
  split
  · exact lines
  · rw [dramRange_pending, lines]
@[simp] theorem surfaceSettle_pending (i : Nat) (s : State) : (surfaceSettle i s).pending = s.pending := by
  unfold surfaceSettle
  dsimp only
  split
  · rfl
  · split
    · rfl
    · split
      · rw [complete_pending]; rfl
      · rfl
@[simp] theorem retireFrame_pending (f : Frame) (s : State) : (retireFrame f s).pending = s.pending :=
  (eachNat_keeps State.pending _ _ _ surfaceSettle_pending).trans rfl

/-! ### Exit causes of a hold extension (R174) -/

/-- An exit cause changes the raster alone. -/
theorem holdExit_eq (cause : Nat) (s : State) : holdExit cause s = { s with scn := (holdExit cause s).scn } := by
  unfold holdExit
  dsimp only
  split
  · rfl
  · split
    · split <;> rfl
    · rfl

@[simp] theorem holdExit_hq (cause : Nat) (s : State) : (holdExit cause s).hq = s.hq :=
  (congrArg State.hq (holdExit_eq cause s) :)
@[simp] theorem holdExit_scene (cause : Nat) (s : State) : (holdExit cause s).scene = s.scene :=
  (congrArg State.scene (holdExit_eq cause s) :)
@[simp] theorem holdExit_pending (cause : Nat) (s : State) : (holdExit cause s).pending = s.pending :=
  (congrArg State.pending (holdExit_eq cause s) :)

end Sys2Proof.Machine
end

section
/-! SUPPORT. Data that a command moves behind itself: the regulator of its port, and the Turnstile's check as it lands (R250,
R405). -/

namespace Sys2Proof.Machine

/-! ### The Turnstile (R405) -/

/-- A check reads nothing but the Turnstiles. -/
theorem trnScan_congr {s t : State} (e : s.trn = t.trn) (target m : Nat) (p : Perm) (n g : Nat) :
    trnScan s target m p n g = trnScan t target m p n g := by
  have live (i : Nat) : trnLive s target i = trnLive t target i := by rw [trnLive, e, trnLive]
  have found (g : Nat) : trnFind s target g = trnFind t target g := by simp only [trnFind, live]
  induction n generalizing g with
  | zero => rfl
  | succ n ih => simp only [trnScan, found, live, ih]

theorem trnCheck_congr {s t : State} (e : s.trn = t.trn) (target m : Nat) (p : Perm) (a n : Nat) :
    trnCheck s target m p a n = trnCheck t target m p a n := by
  simp only [trnCheck, e, trnScan_congr e]

theorem trnAccess_pass {s : State} {target m : Nat} {p : Perm} {a n : Nat} (h : trnCheck s target m p a n = .pass) :
    trnAccess target m p a n s = (none, s) := by
  simp only [trnAccess, h]

/-! ### The regulators (R250) -/

/-- A state with the tokens spent of data that moves through a port; the ports without a regulator and a move of no data
spend none (R250). -/
def drained (p k : Nat) (s : State) : State := if 12 ≤ p ∨ k = 0 then s else regDrain p k s

/-- Data that its port issues moves at once. -/
theorem regBulk_issued {p k : Nat} (f : State → State) {s : State} (h : 12 ≤ p ∨ k = 0 ∨ regIssues p k s = true) :
    regBulk p k f s = f (drained p k s) := by
  unfold regBulk drained
  split
  · rfl
  next regulated =>
    rw [not_or] at regulated
    rw [if_pos ((h.resolve_left regulated.1).resolve_left regulated.2)]

section
variable (p k : Nat) (s : State)

/-- Tokens are the Juggler's. -/
theorem drained_eq : drained p k s = { s with jgl := (drained p k s).jgl } := by
  unfold drained
  split <;> rfl

@[simp] theorem drained_hq : (drained p k s).hq = s.hq := (congrArg State.hq (drained_eq p k s) :)
@[simp] theorem drained_trn : (drained p k s).trn = s.trn := (congrArg State.trn (drained_eq p k s) :)
@[simp] theorem drained_pending : (drained p k s).pending = s.pending := (congrArg State.pending (drained_eq p k s) :)
@[simp] theorem drained_holds : holds (drained p k s) = holds s := by
  unfold drained
  split <;> simp
@[simp] theorem jglPortOf_drained (src : Src) : jglPortOf (drained p k s) src = jglPortOf s src := by
  cases src <;> simp [jglPortOf, sqOf]
@[simp] theorem srcMaster_drained (src : Src) : srcMaster (drained p k s) src = srcMaster s src := by
  cases src <;> simp [srcMaster, sqOf]
@[simp] theorem trnCheck_drained (target m : Nat) (perm : Perm) (a n : Nat) :
    trnCheck (drained p k s) target m perm a n = trnCheck s target m perm a n := trnCheck_congr (drained_trn p k s) _ _ _ _ _

end

/-- An access of at least a byte takes a flit. -/
theorem flits_ne_zero (a : Nat) {n : Nat} (h : 0 < n) : flits a n ≠ 0 := by
  simp [flits, linesOf, Nat.ne_of_gt h]

@[simp] theorem dramRange_inflight (p a : Nat) (s : State) : (dramRange p a s).hq.inflight = s.hq.inflight := by
  unfold dramRange
  dsimp only
  split
  · exact (apart_inflight (log_apart _ _ _)).trans rfl
  · rfl
@[simp] theorem dramStore_inflight (p a : Nat) (bs : List Byte) (s : State) :
    (dramStore p a bs s).hq.inflight = s.hq.inflight := by
  unfold dramStore
  split
  · rfl
  · split
    · simp
    · rfl

end Sys2Proof.Machine
end

section
/-! SUPPORT. The show store: what reserving, writing, checking and freeing a slot do (R68 to R71, R407). -/

namespace Sys2Proof.Machine

/-! ### Space returned and reserved (R70, R71, R406, R407) -/

/-- Only a LOADING slot has a Turnstile entry to take back. -/
theorem slotRelease_of_not_loading {n : Nat} {s : State} (h : (slotOf s n).state ≠ .loading) :
    slotRelease n s = modSlot n (fun _ => {}) s := by
  simp [slotRelease, h]

/-- A grant and its revocation change entries of the Turnstiles alone. -/
theorem loadGrant_eq (x : SceneSlot) (s : State) :
    loadGrant x s = { s with trn := { s.trn with live := (loadGrant x s).trn.live } } := by
  unfold loadGrant; split <;> rfl
theorem loadRevoke_eq (x : SceneSlot) (s : State) :
    loadRevoke x s = { s with trn := { s.trn with live := (loadRevoke x s).trn.live } } := by
  unfold loadRevoke; split <;> rfl

@[simp] theorem loadGrant_hq (x : SceneSlot) (s : State) : (loadGrant x s).hq = s.hq :=
  (congrArg State.hq (loadGrant_eq x s) :)
@[simp] theorem loadGrant_scene (x : SceneSlot) (s : State) : (loadGrant x s).scene = s.scene :=
  (congrArg State.scene (loadGrant_eq x s) :)
@[simp] theorem loadRevoke_hq (x : SceneSlot) (s : State) : (loadRevoke x s).hq = s.hq :=
  (congrArg State.hq (loadRevoke_eq x s) :)
@[simp] theorem loadRevoke_scene (x : SceneSlot) (s : State) : (loadRevoke x s).scene = s.scene :=
  (congrArg State.scene (loadRevoke_eq x s) :)
@[simp] theorem slotRelease_hq (n : Nat) (s : State) : (slotRelease n s).hq = s.hq := by
  show State.hq (if _ then _ else _) = _
  split <;> simp

theorem slotOf_congr {s t : State} (h : s.scene = t.scene) (n : Nat) : slotOf s n = slotOf t n := by
  rw [slotOf, h, slotOf]
theorem loadingCount_congr {s t : State} (h : s.scene = t.scene) : loadingCount s = loadingCount t := by
  rw [loadingCount, h, loadingCount]
theorem freeRuns_congr {s t : State} (h : s.scene = t.scene) (n g : Nat) : freeRuns s n g = freeRuns t n g := by
  have held (g : Nat) : gibHeld s g = gibHeld t g := by rw [gibHeld, h, gibHeld]
  induction n generalizing g with
  | zero => rfl
  | succ n ih => simp only [freeRuns, held, ih]
theorem storeRuns_congr {s t : State} (h : s.scene = t.scene) : storeRuns s = storeRuns t := by
  rw [storeRuns, freeRuns_congr h, h, storeRuns]
theorem slotRelease_scene_congr {s t : State} (h : s.scene = t.scene) (n : Nat) :
    (slotRelease n s).scene = (slotRelease n t).scene := by
  have released (s : State) :
      (slotRelease n s).scene = { s.scene with slots := spMod {} s.scene.slots n fun _ => {} } := by
    unfold slotRelease modSlot
    dsimp only
    split <;> simp
  rw [released, released, h]

/-- A slot that a length was reserved for. -/
def reservedSlot (len base : Nat) : SceneSlot :=
  { state := .loading, base := base, gib := (len + gib - 1) / gib, length := len }

theorem reservedSlot_ne (len base : Nat) : reservedSlot len base ≠ {} := by simp [reservedSlot]

/-- What OPEN leaves when it has reserved. -/
def reserved (n len base : Nat) (s : State) : State :=
  loadGrant (reservedSlot len base) (modSlot n (fun _ => reservedSlot len base) s)

theorem slotOf_reserved (n len base : Nat) (s : State) : slotOf (reserved n len base s) n = reservedSlot len base :=
  (slotOf_congr (loadGrant_scene _ _) n).trans (slotOf_modSlot n _ s (reservedSlot_ne len base))
theorem slotOf_reserved_ne {n m : Nat} (len base : Nat) (s : State) (h : m ≠ n) :
    slotOf (reserved n len base s) m = slotOf s m :=
  (slotOf_congr (loadGrant_scene _ _) m).trans (slotOf_modSlot_ne n m _ s h)

/-- R70, R407: the lowest run that holds the length is reserved, while fewer than 64 slots are LOADING. -/
theorem sceneReserve_found {h : Hdr} {n len : Nat} {s : State} {r : Nat × Nat} (room : loadingCount s < 64)
    (run : (storeRuns s).find? (fun r => decide ((len + gib - 1) / gib ≤ r.2)) = some r) :
    sceneReserve h n len s = complete opSceneLoad h .ok 0 (reserved n len r.1 s) := by
  unfold sceneReserve
  extract_lets need
  rw [if_neg (Nat.not_le.2 room)]
  split
  next none => exact absurd (none.symm.trans run) (by simp)
  next r' found =>
    obtain rfl := Option.some.inj (found.symm.trans run)
    rfl

theorem sceneReserve_full {h : Hdr} {n len : Nat} {s : State} (full : 64 ≤ loadingCount s ∨
      (storeRuns s).find? (fun r => decide ((len + gib - 1) / gib ≤ r.2)) = none) :
    sceneReserve h n len s = complete opSceneLoad h .noResource 0 s := by
  unfold sceneReserve
  extract_lets need
  split
  · rfl
  next room =>
    split
    · rfl
    next r found => exact absurd ((full.resolve_left room).symm.trans found) (by simp)

/-! ### The subfunctions of SCENE_LOAD (R68 to R71) -/

section
variable {h : Hdr} {p : SceneLoadP} {s : State}

/-- OPEN finds its slot EMPTY, or may replace what it holds (R70). -/
def Openable (p : SceneLoadP) (s : State) : Prop :=
  (slotOf s p.slot.toNat).state = .empty ∨ (bitOf p.flags 0 = true ∧
    ((slotOf s p.slot.toNat).state = .ready ∨ (slotOf s p.slot.toNat).state = .degraded) ∧
    slotPlaying s p.slot.toNat = false)

theorem Openable.not_loading (ho : Openable p s) : (slotOf s p.slot.toNat).state ≠ .loading := by
  rcases ho with empty | ⟨_, ready | degraded, _⟩ <;> simp [*]
theorem Openable.not_verifying (ho : Openable p s) : (slotOf s p.slot.toNat).state ≠ .verifying := by
  rcases ho with empty | ⟨_, ready | degraded, _⟩ <;> simp [*]

theorem sceneVerifying_of_not {f : State} (hv : (slotOf s p.slot.toNat).state ≠ .verifying) : sceneVerifying h p s f = f := by
  simp [sceneVerifying, hv]
theorem sceneVerifying_busy (f : State) (hv : (slotOf s p.slot.toNat).state = .verifying) :
    sceneVerifying h p s f = complete opSceneLoad h .busy 0 s := by
  simp [sceneVerifying, hv]

theorem ones_eq_false {k v : Nat} (h : v ≠ 256 ^ k - 1) : ones k v = false := by simpa [ones] using h

theorem doSceneOpen_reserves (ho : Openable p s) (hf : p.flags.toNat < 2) (h0 : p.argA.toNat ≠ 0)
    (h1 : p.argA.toNat ≠ 2 ^ 64 - 1) :
    doSceneOpen h p s = sceneReserve h p.slot.toNat p.argA.toNat (slotRelease p.slot.toNat s) := by
  have length : ones 8 p.argA.toNat = false := ones_eq_false h1
  have flags : sceneFlagsBad p true = false := by simpa [sceneFlagsBad] using hf
  unfold doSceneOpen
  extract_lets n x
  rw [sceneVerifying_of_not ho.not_verifying, length, flags, if_neg (by simp), if_neg h0, if_neg (by simp)]
  rcases ho with empty | ⟨replace, ready | degraded, idle⟩
  · rw [if_pos (by simp [x, n, empty])]
  · rw [if_neg (by simp [x, n, ready]), if_pos (by simp [x, n, ready, replace, idle])]
  · rw [if_neg (by simp [x, n, degraded]), if_pos (by simp [x, n, degraded, replace, idle])]

/-- A LOADING slot takes chunks of up to 64 MiB (R68). -/
theorem doSceneData_loading (ans : HostAns) (hx : (slotOf s p.slot.toNat).state = .loading)
    (hm : (slotOf s p.slot.toNat).lostMark = none) (hc : 0 < p.argC.toNat) (hc' : p.argC.toNat ≤ 2 ^ 26)
    (ha : p.argA.toNat ≠ 2 ^ 64 - 1) :
    doSceneData h p ans s =
      if (slotOf s p.slot.toNat).length < p.argA.toNat + p.argC.toNat then complete opSceneLoad h .lengthRange 0 s
      else if p.argA.toNat % 64 ≠ 0 || p.argB.toNat % 64 ≠ 0 || p.argC.toNat % 64 ≠ 0 || sceneFlagsBad p false then
        complete opSceneLoad h .badParam 0 s
      else sceneDataLand h p ans s := by
  have offset : ones 8 p.argA.toNat = false := ones_eq_false ha
  have size : ones 4 p.argC.toNat = false := ones_eq_false (by omega)
  have bound : ¬ 67108864 < p.argC.toNat := by omega
  unfold doSceneData
  extract_lets x a c
  rw [sceneVerifying_of_not (by simp [hx])]
  simp [x, a, c, hm, hx, offset, size, bound, Nat.ne_of_gt hc]

/-- R70, R71, R250: a chunk that the Turnstile passes lands in the package. -/
theorem sceneDataLand_passes {bs : List Byte}
    (pass : trnCheck s 0 (srcMaster s h.src) .w (slotAddr (slotOf s p.slot.toNat) + p.argA.toNat) p.argC.toNat = .pass)
    (issued : 12 ≤ jglPortOf s h.src ∨
      regIssues (jglPortOf s h.src) (flits (slotAddr (slotOf s p.slot.toNat) + p.argA.toNat) p.argC.toNat) s = true) :
    sceneDataLand h p (.data bs) s = complete opSceneLoad h .ok 0
      (dramStore (jglPortOf s h.src) (slotAddr (slotOf s p.slot.toNat) + p.argA.toNat) (fit p.argC.toNat bs)
        (drained (jglPortOf s h.src) (flits (slotAddr (slotOf s p.slot.toNat) + p.argA.toNat) p.argC.toNat) s)) := by
  simp only [sceneDataLand, regBulk_issued _ (issued.imp_right .inr)]
  rw [trnAccess_pass (by rw [trnCheck_drained, srcMaster_drained]; exact pass)]
  simp only [jglPortOf_drained]

/-- What CLOSE leaves of a slot whose checks start. -/
def verifying (h : Hdr) (n : Nat) (s : State) : State :=
  modSlot n (fun x => { x with state := .verifying, closing := some h }) (loadRevoke (slotOf s n) s)

theorem slotOf_verifying (n : Nat) :
    slotOf (verifying h n s) n = { slotOf s n with state := .verifying, closing := some h } := by
  have kept : slotOf (loadRevoke (slotOf s n) s) n = slotOf s n := slotOf_congr (loadRevoke_scene _ _) n
  rw [verifying, slotOf_modSlot _ _ _ (by simp), kept]

theorem slotOf_verifying_ne {n m : Nat} (ne : m ≠ n) : slotOf (verifying h n s) m = slotOf s m :=
  (slotOf_modSlot_ne n m _ _ ne).trans (slotOf_congr (loadRevoke_scene _ _) m)

theorem verifying_hq (n : Nat) : (verifying h n s).hq = s.hq := loadRevoke_hq _ _

/-- R69, R70: CLOSE of a LOADING slot starts its checks. -/
theorem doSceneClose_loading (hf : p.flags = 0) (hx : (slotOf s p.slot.toNat).state = .loading)
    (hm : (slotOf s p.slot.toNat).lostMark = none) : doSceneClose h p s = verifying h p.slot.toNat s := by
  have flags : sceneFlagsBad p false = false := by simp [sceneFlagsBad, hf]
  unfold doSceneClose
  extract_lets n x
  rw [sceneVerifying_of_not (by simp [hx])]
  simp [x, n, hm, hx, flags, verifying]

/-- R70: FREE of a slot whose checks do not run. -/
theorem doSceneFree_eq (hf : p.flags = 0) (hx : (slotOf s p.slot.toNat).state ≠ .verifying) :
    doSceneFree h p s = if slotPlaying s p.slot.toNat then complete opSceneLoad h .busy 0 s
      else complete opSceneLoad h .ok 0 (slotRelease p.slot.toNat s) := by
  have flags : sceneFlagsBad p false = false := by simp [sceneFlagsBad, hf]
  unfold doSceneFree
  extract_lets n
  rw [sceneVerifying_of_not hx, flags, if_neg (by simp)]

end

/-! ### The end of a CLOSE's checks (R66, R67, R69, R253) -/

section
variable {n : Nat} {h : Hdr} {s : State} (hx : (slotOf s n).state = .verifying) (hc : (slotOf s n).closing = some h)
include hx hc

/-- A line that fails its retry. -/
theorem verifyDone_failed {failed : List Nat} (hl : ∃ l ∈ failed,
      slotAddr (slotOf s n) < 64 * l + 64 ∧ 64 * l < slotAddr (slotOf s n) + (slotOf s n).length) :
    verifyDone n failed s =
      complete opSceneLoad h .uncorrectable 0 (slotRelease n (verifyReads (slotOf s n) failed s)) := by
  have bad : (failed.any fun l => decide (slotAddr (slotOf s n) < 64 * l + 64 ∧
      64 * l < slotAddr (slotOf s n) + (slotOf s n).length)) = true := by
    simpa only [List.any_eq_true, decide_eq_true_eq] using hl
  simp only [verifyDone, hx, hc, bad, Bool.or_true, if_true]

/-- Without a line that fails or is poisoned the checks of R66 decide. -/
theorem verifyDone_clean (hp : dramPoisoned s (slotAddr (slotOf s n)) (slotOf s n).length = false) :
    verifyDone n [] s = verifyVerdict n (slotOf s n) h (parseHdr (pkgReader s (slotOf s n) 0 256))
      (pkgCheck (pkgReader s (slotOf s n)) (dramReader s) (handleAt s) (slotOf s n).length) s := by
  have inside : dramInside s (slotAddr (slotOf s n)) (slotOf s n).length = true := by
    simp only [dramPoisoned, Bool.or_eq_false_iff, Bool.not_eq_false'] at hp
    exact hp.1
  have unread : verifyReads (slotOf s n) [] s = s := by
    simp only [verifyReads, List.filter_nil, List.foldl_nil, inside, if_true]
  simp only [verifyDone, hx, hc, unread, hp, List.any_nil, Bool.or_false, Bool.false_eq_true, if_false]

end

end Sys2Proof.Machine
end

section
/-! Scene packages are loaded: OPEN, DATA, CLOSE with its checks, FREE (R67 to R71, R250, R407). -/

namespace Sys2Proof

open Machine

section
variable {h : Hdr} {p : SceneLoadP} {s : State}

/-! ### OPEN (R70, R407) -/

section
variable (hs : Starts h (.sceneLoadOpen p) s) (ho : Openable p s) (hf : p.flags.toNat < 2) (h0 : p.argA.toNat ≠ 0)
  (h1 : p.argA.toNat ≠ 2 ^ 64 - 1)
include ho hf h0 h1

/-- OPEN of a command in flight reserves in the state that the slot's release leaves. -/
theorem sceneOpen_run (op : Byte) : doSceneOpen h p (toFlight op h s) =
    sceneReserve h p.slot.toNat p.argA.toNat (slotRelease p.slot.toNat (toFlight op h s)) :=
  doSceneOpen_reserves (by simpa [Openable] using ho) hf h0 h1

include hs

theorem sceneOpen_reserves {r : Nat × Nat} (room : loadingCount (slotRelease p.slot.toNat s) < 64)
    (run : (storeRuns (slotRelease p.slot.toNat s)).find? (fun r => decide ((p.argA.toNat + gib - 1) / gib ≤ r.2)) = some r) :
    Ends (.sceneLoadOpen h p) 0x10 h .ok 0 s fun u =>
      slotOf u p.slot.toNat = reservedSlot p.argA.toNat r.1 ∧
      (∀ m, m ≠ p.slot.toNat → slotOf u m = slotOf s m) ∧
      u = { toFlight 0x10 h s with
        scene := { s.scene with slots := u.scene.slots }, trn := { s.trn with live := u.trn.live } } := by
  have released := slotRelease_scene_congr (toFlight_scene 0x10 h s) p.slot.toNat
  rw [← loadingCount_congr released] at room
  rw [← storeRuns_congr released] at run
  have idle : slotRelease p.slot.toNat (toFlight 0x10 h s) = modSlot p.slot.toNat (fun _ => {}) (toFlight 0x10 h s) :=
    slotRelease_of_not_loading (by simpa using ho.not_loading)
  refine served_ends (u := reserved p.slot.toNat p.argA.toNat r.1 (slotRelease p.slot.toNat (toFlight 0x10 h s)))
    rfl hs rfl rfl (fun _ => rfl) (doSceneOpen_holds h p) ((sceneOpen_run ho hf h0 h1 _).trans (sceneReserve_found room run))
    ?flight ⟨slotOf_reserved _ _ _ _, fun m hm => ?others, ?frame⟩
  case flight => rw [reserved, loadGrant_hq]; exact congrArg Hq.inflight (slotRelease_hq _ _)
  case others => rw [slotOf_reserved_ne _ _ _ hm, idle, slotOf_modSlot_ne _ _ _ _ hm, slotOf_toFlight]
  case frame =>
    rw [idle]
    refine (loadGrant_eq _ _).trans ?_
    simp only [reserved, loadGrant_scene, modSlot, toFlight_scene, toFlight_trn]

theorem sceneOpen_refused (full : 64 ≤ loadingCount (slotRelease p.slot.toNat s) ∨
      (storeRuns (slotRelease p.slot.toNat s)).find? (fun r => decide ((p.argA.toNat + gib - 1) / gib ≤ r.2)) = none) :
    Ends (.sceneLoadOpen h p) 0x10 h .noResource 0 s fun u => u = slotRelease p.slot.toNat (toFlight 0x10 h s) := by
  have released := slotRelease_scene_congr (toFlight_scene 0x10 h s) p.slot.toNat
  rw [← loadingCount_congr released, ← storeRuns_congr released] at full
  exact served_ends rfl hs rfl rfl (fun _ => rfl) (doSceneOpen_holds h p)
    ((sceneOpen_run ho hf h0 h1 _).trans (sceneReserve_full full)) (congrArg Hq.inflight (slotRelease_hq _ _)) rfl

end

/-! ### DATA (R70, R71, R250) -/

section
variable {bs : List Byte} (hs : Starts h (.sceneLoadData p (.data bs)) s) (hb : bs ≠ [])
  (hx : (slotOf s p.slot.toNat).state = .loading) (hm : (slotOf s p.slot.toNat).lostMark = none) (hc : 0 < p.argC.toNat)
  (hc' : p.argC.toNat ≤ 2 ^ 26) (ha : p.argA.toNat ≠ 2 ^ 64 - 1)
include hs hb hx hm hc hc' ha

theorem sceneData_past_length (past : (slotOf s p.slot.toNat).length < p.argA.toNat + p.argC.toNat) :
    Ends (.sceneLoadData h p (.data bs)) 0x10 h .lengthRange 0 s fun u => u = toFlight 0x10 h s := by
  have run : doSceneData h p (.data bs) (toFlight 0x10 h s) = complete 0x10 h .lengthRange 0 (toFlight 0x10 h s) := by
    rw [doSceneData_loading _ (by simpa using hx) (by simpa using hm) hc hc' ha, if_pos (by simpa using past)]
    rfl
  exact served_refused rfl hs rfl (by simpa [awaitsData] using hb) (fun _ => rfl) (doSceneData_holds h p _) run

theorem sceneData_lands (inside : p.argA.toNat + p.argC.toNat ≤ (slotOf s p.slot.toNat).length) (haa : p.argA.toNat % 64 = 0)
    (hba : p.argB.toNat % 64 = 0) (hca : p.argC.toNat % 64 = 0) (hf : p.flags = 0)
    (pass : trnCheck s 0 (srcMaster s h.src) .w (slotAddr (slotOf s p.slot.toNat) + p.argA.toNat) p.argC.toNat = .pass)
    (issued : 12 ≤ jglPortOf s h.src ∨
      regIssues (jglPortOf s h.src) (flits (slotAddr (slotOf s p.slot.toNat) + p.argA.toNat) p.argC.toNat) s = true) :
    Ends (.sceneLoadData h p (.data bs)) 0x10 h .ok 0 s fun u =>
      u = dramStore (jglPortOf s h.src) (slotAddr (slotOf s p.slot.toNat) + p.argA.toNat) (fit p.argC.toNat bs)
        (if 12 ≤ jglPortOf s h.src then toFlight 0x10 h s
          else regDrain (jglPortOf s h.src) (flits (slotAddr (slotOf s p.slot.toNat) + p.argA.toNat) p.argC.toNat)
            (toFlight 0x10 h s)) := by
  have landed : doSceneData h p (.data bs) (toFlight 0x10 h s) = sceneDataLand h p (.data bs) (toFlight 0x10 h s) := by
    rw [doSceneData_loading _ (by simpa using hx) (by simpa using hm) hc hc' ha, if_neg (by simpa using inside),
      if_neg (by simp [haa, hba, hca, hf, sceneFlagsBad])]
  have run := landed.trans (sceneDataLand_passes (bs := bs)
    (by rw [trnCheck_congr (toFlight_trn 0x10 h s), srcMaster_toFlight, slotOf_toFlight]; exact pass)
    (by simpa using issued))
  simp only [jglPortOf_toFlight, slotOf_toFlight] at run
  refine served_ends rfl hs rfl (by simpa [awaitsData] using hb) (fun _ => rfl) (doSceneData_holds h p _) run ?flight ?moved
  case flight => rw [dramStore_inflight, drained_hq]; rfl
  case moved => simp only [drained, flits_ne_zero _ hc, or_false]

end

/-! ### CLOSE and its checks (R66, R67, R69, R70) -/

theorem sceneClose_verifies (hs : Starts h (.sceneLoadClose p) s) (hf : p.flags = 0)
    (hx : (slotOf s p.slot.toNat).state = .loading) (hm : (slotOf s p.slot.toNat).lostMark = none) :
    GoesOn (.sceneLoadClose h p) 0x10 h s fun u =>
      slotOf u p.slot.toNat = { slotOf s p.slot.toNat with state := .verifying, closing := some h } ∧
      (∀ m, m ≠ p.slot.toNat → slotOf u m = slotOf s m) := by
  refine served_goes_on rfl hs rfl rfl (fun _ => rfl) (doSceneClose_holds h p) (by simp) (by simp)
    (doSceneClose_loading hf (by simpa using hx) (by simpa using hm)) (congrArg Hq.inflight (verifying_hq _))
    ⟨?closed, fun m hm => ?others⟩
  case closed => rw [slotOf_verifying, slotOf_toFlight]
  case others => rw [slotOf_verifying_ne hm, slotOf_toFlight]

section
variable {n : Nat} (hn : n < 256) (hq : Quiet s) (hx : (slotOf s n).state = .verifying) (hc : (slotOf s n).closing = some h)
include hn hq

/-- The end of a package's checks does what it says, and nothing of it waits. -/
theorem sceneVerifyDone_exec {failed : List Nat} {t : State} (e : verifyDone n failed s = t) (hp : t.pending = s.pending) :
    exec (.sceneVerifyDone n failed) s = .next t := by
  show unitRow (decide (n < 256)) (verifyDone n failed) s = _
  rw [decide_eq_true hn]
  exact unitRow_exact hq e (e ▸ verifyDone_holds n failed s) hp

include hx hc

section
variable (hp : dramPoisoned s (slotAddr (slotOf s n)) (slotOf s n).length = false)
include hp

theorem sceneVerify_passes (good : pkgCheck (pkgReader s (slotOf s n)) (dramReader s) (handleAt s) (slotOf s n).length = none) :
    exec (.sceneVerifyDone n []) s =
      .next (complete 0x10 h .ok (put (parseHdr (pkgReader s (slotOf s n) 0 256)).frames 0)
        (modSlot n (fun x => { x with
          closing := none, frames := (parseHdr (pkgReader s (slotOf s n) 0 256)).frames,
          hdr := some (parseHdr (pkgReader s (slotOf s n) 0 256)), state := .ready }) s)) := by
  refine sceneVerifyDone_exec hn hq ?_ (by simp)
  rw [verifyDone_clean hx hc hp, good]
  rfl

theorem sceneVerify_fails {st : Status} {d : W64}
    (bad : pkgCheck (pkgReader s (slotOf s n)) (dramReader s) (handleAt s) (slotOf s n).length = some (st, d)) :
    exec (.sceneVerifyDone n []) s = .next (complete 0x10 h st d (slotRelease n s)) := by
  refine sceneVerifyDone_exec hn hq ?_ (by simp)
  rw [verifyDone_clean hx hc hp, bad]
  rfl

end

theorem sceneVerify_unreadable {failed : List Nat} (hl : ∃ l ∈ failed,
      slotAddr (slotOf s n) < 64 * l + 64 ∧ 64 * l < slotAddr (slotOf s n) + (slotOf s n).length) :
    exec (.sceneVerifyDone n failed) s =
      .next (complete 0x10 h .uncorrectable 0 (slotRelease n (verifyReads (slotOf s n) failed s))) :=
  sceneVerifyDone_exec hn hq (verifyDone_failed hx hc hl) (by simp)

end

/-! ### FREE (R70) -/

section
variable (hs : Starts h (.sceneLoadFree p) s)
include hs

theorem sceneFree_verifying (hx : (slotOf s p.slot.toNat).state = .verifying) :
    Ends (.sceneLoadFree h p) 0x10 h .busy 0 s fun u => u = toFlight 0x10 h s :=
  served_refused rfl hs rfl rfl (fun _ => rfl) (doSceneFree_holds h p) (sceneVerifying_busy _ (by simpa using hx))

variable (hf : p.flags = 0) (hx : (slotOf s p.slot.toNat).state ≠ .verifying)
include hf hx

theorem sceneFree_returns (idle : slotPlaying s p.slot.toNat = false) :
    Ends (.sceneLoadFree h p) 0x10 h .ok 0 s fun u => u = slotRelease p.slot.toNat (toFlight 0x10 h s) := by
  have run : doSceneFree h p (toFlight 0x10 h s) = complete 0x10 h .ok 0 (slotRelease p.slot.toNat (toFlight 0x10 h s)) := by
    rw [doSceneFree_eq hf (by simpa using hx), slotPlaying_toFlight, idle, if_neg (by simp)]
    rfl
  exact served_ends rfl hs rfl rfl (fun _ => rfl) (doSceneFree_holds h p) run (congrArg Hq.inflight (slotRelease_hq _ _)) rfl

theorem sceneFree_playing (plays : slotPlaying s p.slot.toNat = true) :
    Ends (.sceneLoadFree h p) 0x10 h .busy 0 s fun u => u = toFlight 0x10 h s := by
  have run : doSceneFree h p (toFlight 0x10 h s) = complete 0x10 h .busy 0 (toFlight 0x10 h s) := by
    rw [doSceneFree_eq hf (by simpa using hx), slotPlaying_toFlight, plays, if_pos rfl]
    rfl
  exact served_refused rfl hs rfl rfl (fun _ => rfl) (doSceneFree_holds h p) run

end

end

/-- Settles O17: each subfunction, and the end of a CLOSE's checks, does its own operation on the slot. -/
theorem scenesLoad : Obligations.ScenesLoad := by
  refine ⟨fun h p s hs => ?opens, fun h p bs s hs hb => ?data, fun h p s => ?rest⟩
  case opens =>
    intro n x need s' ho hf h0 h1
    exact ⟨fun r room run => sceneOpen_reserves hs ho hf h0 h1 room run, sceneOpen_refused hs ho hf h0 h1⟩
  case data =>
    intro x a c jp k hx hm hc hc' ha
    exact ⟨sceneData_past_length hs hb hx hm hc hc' ha, sceneData_lands hs hb hx hm hc hc' ha⟩
  case rest =>
    have hn : p.slot.toNat < 256 := p.slot.isLt
    exact ⟨sceneClose_verifies,
      fun hq hx hc hp => ⟨sceneVerify_passes hn hq hx hc hp, fun st d => sceneVerify_fails hn hq hx hc hp⟩,
      fun failed hq hx hc => sceneVerify_unreadable hn hq hx hc,
      sceneFree_returns, sceneFree_playing, sceneFree_verifying⟩

end Sys2Proof
end

section
/-! SUPPORT. The player's commands: SCENE_PLAY, SCENE_STOP and SCENE_SEEK (R74 to R79, R174, R216). -/

namespace Sys2Proof.Machine

/-- Without an extension in progress an exit cause is only noted. -/
theorem holdExit_noted {cause : Nat} {s : State} (hn : s.scn.exitCause = none) (hr : s.scn.state ≠ .stopped)
    (hx : s.scn.inExtension = false) : holdExit cause s = { s with scn := { s.scn with exitCause := some cause } } := by
  simp [holdExit, hn, hr, hx]

/-- The player started, with its counters at 0 (R75, R76). -/
def played (p : ScenePlayP) (s : State) : State :=
  playerStart p.slot.toNat p.frame.toNat (if bitOf p.flags 1 then some (timeQ p.time) else none)
    (modPlayer (fun _ => { ({} : Player) with loop := bitOf p.flags 0 }) s)

/-- R75 to R77: PLAYING, or ARMED while nothing is due. -/
theorem played_state (p : ScenePlayP) (s : State) :
    (played p s).scene.player.state = .playing ∨ (played p s).scene.player.state = .armed := by
  show (if _ then PlayerState.armed else .playing) = _ ∨ (if _ then PlayerState.armed else .playing) = _
  exact (Classical.em _).elim (fun armed => .inr (if_pos armed)) fun due => .inl (if_neg due)

section
variable {h : Hdr} {p : ScenePlayP} {s : State} (hr : p.rsvd = false) (hf : p.flags.toNat < 4)
include hr hf

theorem doScenePlay_busy (hb : s.pwr.state ≠ .on ∨ streamPending s = true) :
    doScenePlay h p s = complete 0x11 h .busy 0 s := by
  unfold doScenePlay
  extract_lets fin n x pl free
  rw [if_neg (by simp [hr, hf]), if_pos (by rcases hb with off | waits <;> simp [*])]

variable (on : s.pwr.state = .on) (hw : streamPending s = false) (hi : s.scene.player.state = .idle)
include on hw hi

/-- With the panel ON, no streamed frame waiting and the player IDLE, the slot decides. -/
theorem doScenePlay_idle : doScenePlay h p s =
    if (slotOf s p.slot.toNat).state == .degraded then
      complete 0x11 h .degraded (put (((slotOf s p.slot.toNat).lost.map (·.1)).getD 0) 0) s
    else if (slotOf s p.slot.toNat).state != .ready || badTime (bitOf p.flags 1) p.time ||
      decide ((slotOf s p.slot.toNat).frames ≤ p.frame.toNat) || !pkgPlayable s (slotHdr s p.slot.toNat) then
      complete 0x11 h .badParam 0 s
    else complete 0x11 h .ok 0 (holdExit 2 (played p (match s.scene.player.seeking with
      | some (k, _, _) => complete 0x13 k .aborted 0 s
      | none => s))) := by
  unfold doScenePlay
  extract_lets fin n x pl free
  rw [if_neg (by simp [hr, hf]), if_neg (by simp [on, hw, free, pl, hi])]
  rfl

theorem doScenePlay_starts (hk : s.scene.player.seeking = none) (ready : (slotOf s p.slot.toNat).state = .ready)
    (ht : bitOf p.flags 1 = true → timeOk p.time = true) (frame : p.frame.toNat < (slotOf s p.slot.toNat).frames)
    (fits : pkgPlayable s (slotHdr s p.slot.toNat) = true) :
    doScenePlay h p s = complete 0x11 h .ok 0 (holdExit 2 (played p s)) := by
  rw [doScenePlay_idle hr hf on hw hi, if_neg (by simp [ready]),
    if_neg (by simpa [ready, badTime, frame, fits] using ht), hk]

theorem doScenePlay_not_playable (unready : (slotOf s p.slot.toNat).state ≠ .ready)
    (whole : (slotOf s p.slot.toNat).state ≠ .degraded) : doScenePlay h p s = complete 0x11 h .badParam 0 s := by
  rw [doScenePlay_idle hr hf on hw hi, if_neg (by simp [whole]), if_pos (by simp [unready])]

theorem doScenePlay_degraded {a b : Nat} (lost : (slotOf s p.slot.toNat).lost = some (a, b))
    (degraded : (slotOf s p.slot.toNat).state = .degraded) : doScenePlay h p s = complete 0x11 h .degraded (put a 0) s := by
  rw [doScenePlay_idle hr hf on hw hi, if_pos (by simp [degraded]), lost]
  rfl

end

section
variable {h : Hdr} {p : SceneStopP} {s : State} (hr : p.rsvd = false) (hf : p.flags.toNat < 2)
include hr hf

theorem doSceneStop_eq : doSceneStop h p s =
    if slotPlaying s p.slot.toNat then
      holdExit 2 (modPlayer (fun pl => { pl with stopping := pl.stopping ++ [(h, bitOf p.flags 0)] }) s)
    else complete 0x12 h .ok 0 s := by
  unfold doSceneStop
  rw [if_neg (by simp [hr, hf])]
  cases slotPlaying s p.slot.toNat <;> rfl

end

section
variable {h : Hdr} {p : ScenePlayP} {s : State} (hr : p.rsvd = false) (hf : p.flags.toNat < 4)
  (hl : bitOf p.flags 0 = false)
include hr hf hl

theorem doSceneSeek_busy (off : s.pwr.state ≠ .on) : doSceneSeek h p s = complete 0x13 h .busy 0 s := by
  unfold doSceneSeek
  extract_lets fin pl
  rw [if_neg (by simp [hr, hf, hl]), if_pos (by simp [off])]

theorem doSceneSeek_waits (on : s.pwr.state = .on) (plays : slotPlaying s p.slot.toNat = true)
    (ht : bitOf p.flags 1 = true → timeOk p.time = true) (frame : p.frame.toNat < (slotOf s p.slot.toNat).frames)
    (hk : s.scene.player.seeking = none) : doSceneSeek h p s = holdExit 2 (modPlayer (fun pl => { pl with
      seeking := some (h, p.frame.toNat, if bitOf p.flags 1 then some (timeQ p.time) else none) }) s) := by
  unfold doSceneSeek
  extract_lets fin pl s1
  rw [if_neg (by simp [hr, hf, hl]), if_neg (by simp [on]), if_neg (by simpa [plays, badTime, frame] using ht)]
  have first : s1 = s := by simp only [s1, pl, hk]
  rw [first]

end

end Sys2Proof.Machine
end

section
/-! Scenes play: SCENE_PLAY, SCENE_STOP, SCENE_SEEK and a frame that is due (R74 to R79, R174, R216). -/

namespace Sys2Proof

open Machine

/-- A row of the player that is left with an exit cause keeps all but the player and the raster. -/
theorem playerExit_frame (op : Byte) (h : Hdr) (cause : Nat) (f : Player → Player) (s : State) :
    holdExit cause (modPlayer f (toFlight op h s)) = { toFlight op h s with
      scene := { s.scene with player := f s.scene.player }
      scn := (holdExit cause (modPlayer f (toFlight op h s))).scn } := by
  refine (holdExit_eq _ _).trans ?_
  simp only [modPlayer, toFlight_scene]

/-! ### SCENE_PLAY (R74 to R79, R216) -/

section
variable {h : Hdr} {p : ScenePlayP} {s : State} (hs : Starts h (.scenePlay p) s) (hr : p.rsvd = false)
  (hf : p.flags.toNat < 4)
include hs hr hf

theorem scenePlay_busy (hb : s.pwr.state ≠ .on ∨ streamPending s = true) :
    Ends (.scenePlay h p) 0x11 h .busy 0 s fun u => u = toFlight 0x11 h s :=
  served_refused rfl hs rfl rfl (fun _ => rfl) (doScenePlay_holds h p) (doScenePlay_busy hr hf (by simpa using hb))

variable (on : s.pwr.state = .on) (hw : streamPending s = false) (hi : s.scene.player.state = .idle)
include on hw hi

theorem scenePlay_starts (hk : s.scene.player.seeking = none) (ready : (slotOf s p.slot.toNat).state = .ready)
    (ht : bitOf p.flags 1 = true → timeOk p.time = true) (frame : p.frame.toNat < (slotOf s p.slot.toNat).frames)
    (fits : pkgPlayable s (slotHdr s p.slot.toNat) = true) :
    Ends (.scenePlay h p) 0x11 h .ok 0 s fun u =>
      (u.scene.player.state = .playing ∨ u.scene.player.state = .armed) ∧
      u.scene.player.slot = p.slot.toNat ∧ u.scene.player.startFrame = p.frame.toNat ∧
      u.scene.player.loop = bitOf p.flags 0 ∧ u.scene.player.shown = 0 ∧ u.scene.player.late = 0 ∧
      u.scene.player.origin = (if bitOf p.flags 1 then some (timeQ p.time) else none) ∧
      u = { toFlight 0x11 h s with scene := { s.scene with player := u.scene.player }, scn := u.scn } := by
  have run := doScenePlay_starts (h := h) (s := toFlight 0x11 h s) hr hf (by simpa using on) (by simpa using hw)
    (by simpa using hi) (by simpa using hk) (by simpa using ready) ht (by simpa using frame) (by simpa using fits)
  have started := played_state p (toFlight 0x11 h s)
  refine served_ends rfl hs rfl rfl (fun _ => rfl) (doScenePlay_holds h p) run (by rw [holdExit_hq]; rfl) ?_
  rw [holdExit_scene]
  refine ⟨started, rfl, rfl, rfl, rfl, rfl, rfl, (holdExit_eq _ _).trans ?_⟩
  simp only [played, playerStart, modPlayer, toFlight_scene]

theorem scenePlay_not_playable (unready : (slotOf s p.slot.toNat).state ≠ .ready)
    (whole : (slotOf s p.slot.toNat).state ≠ .degraded) :
    Ends (.scenePlay h p) 0x11 h .badParam 0 s fun u => u = toFlight 0x11 h s :=
  served_refused rfl hs rfl rfl (fun _ => rfl) (doScenePlay_holds h p) (doScenePlay_not_playable hr hf
    (by simpa using on) (by simpa using hw) (by simpa using hi) (by simpa using unready) (by simpa using whole))

theorem scenePlay_degraded {a b : Nat} (degraded : (slotOf s p.slot.toNat).state = .degraded)
    (lost : (slotOf s p.slot.toNat).lost = some (a, b)) :
    Ends (.scenePlay h p) 0x11 h .degraded (put a 0) s fun u => u = toFlight 0x11 h s :=
  served_refused rfl hs rfl rfl (fun _ => rfl) (doScenePlay_holds h p) (doScenePlay_degraded hr hf
    (by simpa using on) (by simpa using hw) (by simpa using hi) (by simpa using lost) (by simpa using degraded))

end

/-! ### SCENE_STOP and SCENE_SEEK (R76, R216) -/

section
variable {h : Hdr} {p : SceneStopP} {s : State} (hs : Starts h (.sceneStop p) s) (hr : p.rsvd = false)
  (hf : p.flags.toNat < 2)
include hs hr hf

theorem sceneStop_other (other : slotPlaying s p.slot.toNat = false) :
    Ends (.sceneStop h p) 0x12 h .ok 0 s fun u => u = toFlight 0x12 h s :=
  served_refused rfl hs rfl rfl (fun _ => rfl) (doSceneStop_holds h p)
    ((doSceneStop_eq hr hf).trans (if_neg (by simp [other])))

theorem sceneStop_waits (plays : slotPlaying s p.slot.toNat = true) : GoesOn (.sceneStop h p) 0x12 h s fun u =>
    u.scene = { s.scene with player := { s.scene.player with
      stopping := s.scene.player.stopping ++ [(h, bitOf p.flags 0)] } } ∧
    u = { toFlight 0x12 h s with scene := u.scene, scn := u.scn } := by
  have run : doSceneStop h p (toFlight 0x12 h s) = _ := (doSceneStop_eq hr hf).trans (if_pos (by simpa using plays))
  have frame := playerExit_frame 0x12 h 2 (fun pl => { pl with stopping := pl.stopping ++ [(h, bitOf p.flags 0)] }) s
  have scene := congrArg State.scene frame
  refine served_goes_on rfl hs rfl rfl (fun _ => rfl) (doSceneStop_holds h p) (by simp) (by simp) run
    (by rw [holdExit_hq]; rfl) ⟨scene, ?_⟩
  rw [scene]
  exact frame

end

section
variable {h : Hdr} {p : ScenePlayP} {s : State} (hs : Starts h (.sceneSeek p) s) (hr : p.rsvd = false)
  (hf : p.flags.toNat < 4) (hl : bitOf p.flags 0 = false)
include hs hr hf hl

theorem sceneSeek_busy (off : s.pwr.state ≠ .on) : Ends (.sceneSeek h p) 0x13 h .busy 0 s fun u => u = toFlight 0x13 h s :=
  served_refused rfl hs rfl rfl (fun _ => rfl) (doSceneSeek_holds h p) (doSceneSeek_busy hr hf hl (by simpa using off))

theorem sceneSeek_waits (on : s.pwr.state = .on) (plays : slotPlaying s p.slot.toNat = true)
    (ht : bitOf p.flags 1 = true → timeOk p.time = true) (inside : p.frame.toNat < (slotOf s p.slot.toNat).frames)
    (hk : s.scene.player.seeking = none) : GoesOn (.sceneSeek h p) 0x13 h s fun u =>
      u.scene = { s.scene with player := { s.scene.player with
        seeking := some (h, p.frame.toNat, if bitOf p.flags 1 then some (timeQ p.time) else none) } } ∧
      u = { toFlight 0x13 h s with scene := u.scene, scn := u.scn } := by
  have run := doSceneSeek_waits (h := h) (s := toFlight 0x13 h s) hr hf hl (by simpa using on) (by simpa using plays) ht
    (by simpa using inside) (by simpa using hk)
  have frame := playerExit_frame 0x13 h 2 (fun pl => { pl with
    seeking := some (h, p.frame.toNat, if bitOf p.flags 1 then some (timeQ p.time) else none) }) s
  have scene := congrArg State.scene frame
  refine served_goes_on rfl hs rfl rfl (fun _ => rfl) (doSceneSeek_holds h p) (by simp) (by simp) run
    (by rw [holdExit_hq]; rfl) ⟨scene, ?_⟩
  rw [scene]
  exact frame

end

/-- R174: a frame that is due is noted as an exit cause during a scan. -/
theorem sceneFrame_due {s : State} (hq : Quiet s)
    (plays : s.scene.player.state = .armed ∨ s.scene.player.state = .playing) (hn : s.scn.exitCause = none)
    (run : s.scn.state = .run) (hx : s.scn.inExtension = false) :
    exec .sceneFrameDue s = .next { s with scn := { s.scn with exitCause := some 3 } } := by
  have due : sceneFrameDue s = { s with scn := { s.scn with exitCause := some 3 } } :=
    (if_pos (by simpa using plays)).trans (holdExit_noted hn (by simp [run]) hx)
  exact row_exact hq due rfl rfl

/-- Settles O18: the player's commands from their own operations; none of the refusals changes a thing. -/
theorem scenesPlay : Obligations.ScenesPlay :=
  ⟨fun _ _ _ hs hr hf => ⟨scenePlay_busy hs hr hf, scenePlay_starts hs hr hf, scenePlay_not_playable hs hr hf,
      fun _ _ on hw hi => scenePlay_degraded hs hr hf on hw hi⟩,
    fun _ _ => ⟨fun _ hs hr hf => ⟨sceneStop_other hs hr hf, sceneStop_waits hs hr hf⟩,
      fun _ hs hr hf hl => ⟨sceneSeek_busy hs hr hf hl, sceneSeek_waits hs hr hf hl⟩, sceneFrame_due⟩⟩

end Sys2Proof
end

section
/-! SUPPORT. Streamed frames: FRAME_SUBMIT, and the record that lands in staging (R40, R43, R49, R66, R67, R72 to R74, R216,
R250, R353, R405). -/

namespace Sys2Proof.Machine

/-! ### FRAME_SUBMIT (R72 to R74, R216) -/

/-- The parameters of a FRAME_SUBMIT are in range (R8, R49, R72). -/
structure SubmitInRange (p : FrameSubmitP) : Prop where
  some_bytes : p.recLength.toNat ≠ 0
  fits : p.recLength.toNat ≤ stagingSize
  aligned : p.hostAddr.toNat % 64 = 0
  rsvd : p.rsvd = false
  flags : p.flags.toNat < 2
  time : bitOf p.flags 0 = true → timeOk p.target = true

section
variable {h : Hdr} {p : FrameSubmitP} {s : State} (hp : SubmitInRange p)
include hp

/-- With its parameters in range, the panel's state and the player decide. -/
theorem submitRefusal_inRange : submitRefusal p s =
    if s.pwr.state != .on || s.scene.player.state == .armed || s.scene.player.state == .playing then some .busy else none := by
  obtain ⟨bytes, fits, aligned, rsvd, flags, time⟩ := hp
  have size : p.recLength.toNat ≤ 0x54000000 := fits
  have length : ones 4 p.recLength.toNat = false := ones_eq_false (by omega)
  unfold submitRefusal
  extract_lets n
  rw [if_neg bytes, if_neg (by simp [n, length, fits]),
    if_neg (by simpa [aligned, rsvd, flags, badTime] using time)]

theorem doFrameSubmit_busy
    (hb : s.pwr.state ≠ .on ∨ s.scene.player.state = .armed ∨ s.scene.player.state = .playing) :
    doFrameSubmit h p s = complete 0x14 h .busy 0 s := by
  have refused : submitRefusal p s = some .busy :=
    (submitRefusal_inRange hp).trans (if_pos (by rcases hb with off | armed | playing <;> simp [*]))
  simp only [doFrameSubmit, refused]
  rfl

theorem doFrameSubmit_takes {k : Nat} (on : s.pwr.state = .on) (ha : s.scene.player.state ≠ .armed)
    (hpl : s.scene.player.state ≠ .playing) (free : freeStaging s = some k) :
    doFrameSubmit h p s = addFrame (newStream s h p k) s := by
  have taken : submitRefusal p s = none := (submitRefusal_inRange hp).trans (if_neg (by simp [on, ha, hpl]))
  simp only [doFrameSubmit, taken, free]

end

/-- Firmware reads no host memory for its commands. -/
theorem askHost_fw {h : Hdr} (c : Cmd) (s : State) (fw : h.src = .fw) : askHost h c s = s := by
  unfold askHost
  rw [fw]
  split <;> rfl

/-- R302, R340: a FRAME_SUBMIT that goes on is accepted, and its record asked for. -/
theorem startCmd_frameSubmit {h : Hdr} {p : FrameSubmitP} {s u : State} (hr : runCmd h (.frameSubmit p) s = u)
    (hf : isFlight h u = true ∨ h.src = .fw) :
    startCmd h (.frameSubmit p) s = askHost h (.frameSubmit p) (accepted 0x14 h u) := by
  unfold startCmd
  rw [if_neg (by simp [awaitsData]), hr]
  by_cases flies : isFlight h u = true
  · exact if_pos flies
  · have fw := hf.resolve_left flies
    rw [accepted_fw 0x14 h u fw, askHost_fw _ u fw]
    exact if_neg flies

/-! ### The record lands (R66, R67, R73, R174, R353) -/

/-- A streamed frame whose record is to land in a staging slot. -/
def landsIn (k : Nat) (f : Frame) : Bool :=
  f.state == .landing && (match f.origin with | .stream _ j => j == k | _ => false)

section
variable {k : Nat} {h : Hdr} {f : Frame} {s : State}

/-- R39, R40: a streamed frame's outcome is the completion of its FRAME_SUBMIT. -/
theorem frameReport_stream (ho : f.origin = .stream h k) (st : Status) (d : W64) (s : State) :
    frameReport f st d s = complete 0x14 h st d s := by
  simp only [frameReport, ho]
  rfl

/-- A frame without a target that passes its bounds is PENDING. -/
theorem frameChecked_pending (ht : f.target = none) (hb : frameBounds (frameCtx false s f) = none) :
    frameChecked f s = holdExit 1 (modFrame f.id (fun _ => { f with
      state := .pending
      length := (parseEntry (frameCtx false s f).entry).length
      dataOk := !dataCrcBad (frameCtx false s f) }) s) := by
  simp only [frameChecked, hb, ht]

variable (hf : s.scene.frames.find? (landsIn k) = some f) (ho : f.origin = .stream h k)
include hf ho

theorem frameLanded_refused : frameLanded k .refused s = complete 0x14 h .access 0 (retireFrame f s) := by
  unfold frameLanded
  rw [List.find?_congr (p₂ := landsIn k), hf]
  · exact frameReport_stream ho _ _ _
  · exact fun g _ => by unfold landsIn; cases g.origin <;> rfl

theorem frameLanded_poisoned : frameLanded k .poisoned s = complete 0x14 h .uncorrectable 0 (retireFrame f s) := by
  unfold frameLanded
  rw [List.find?_congr (p₂ := landsIn k), hf]
  · exact frameReport_stream ho _ _ _
  · exact fun g _ => by unfold landsIn; cases g.origin <;> rfl

/-- R73, R250: a record that the Turnstile passes is written to its staging slot, and checked there. -/
theorem frameLanded_data {bs : List Byte}
    (pass : trnCheck s 0 (srcMaster s h.src) .w (stagingAddr k) f.room = .pass)
    (issued : 12 ≤ jglPortOf s h.src ∨ flits (stagingAddr k) f.room = 0 ∨
      regIssues (jglPortOf s h.src) (flits (stagingAddr k) f.room) s = true) :
    frameLanded k (.data bs) s = frameChecked f (dramStore (jglPortOf s h.src) (stagingAddr k) (fit f.room bs)
      (drained (jglPortOf s h.src) (flits (stagingAddr k) f.room) s)) := by
  unfold frameLanded
  rw [List.find?_congr (p₂ := landsIn k), hf]
  · simp only [ho, regBulk_issued _ issued]
    rw [trnAccess_pass (by rw [trnCheck_drained, srcMaster_drained]; exact pass)]
    simp only [jglPortOf_drained]
  · exact fun g _ => by unfold landsIn; cases g.origin <;> rfl

end

end Sys2Proof.Machine
end

section
/-! Frames stream: FRAME_SUBMIT, and its record's landing (R72 to R74, R216, R353). -/

namespace Sys2Proof

open Machine

section
variable {h : Hdr} {p : FrameSubmitP} {s : State} (hs : Starts h (.frameSubmit p) s) (hp : SubmitInRange p)
include hs hp

theorem frameSubmit_busy (hb : s.pwr.state ≠ .on ∨ s.scene.player.state = .armed ∨ s.scene.player.state = .playing) :
    Ends (.frameSubmit h p) 0x14 h .busy 0 s fun u => u = toFlight 0x14 h s :=
  served_refused rfl hs rfl rfl (fun _ => rfl) (doFrameSubmit_holds h p) (doFrameSubmit_busy hp (by simpa using hb))

/-- R43, R72, R73: the frame takes the staging slot, and its record is asked for. -/
theorem frameSubmit_takes {k : Nat} (on : s.pwr.state = .on) (ha : s.scene.player.state ≠ .armed)
    (hpl : s.scene.player.state ≠ .playing) (free : freeStaging s = some k) :
    exec (.frameSubmit h p) s = .next { askHost h (.frameSubmit p)
      (accepted 0x14 h (addFrame (newStream s h p k) (toFlight 0x14 h s))) with pending := s.pending } := by
  have named : newStream (toFlight 0x14 h s) h p k = newStream s h p k := by simp only [newStream, toFlight_scene]
  have run : runCmd h (.frameSubmit p) (toFlight 0x14 h s) = addFrame (newStream s h p k) (toFlight 0x14 h s) := by
    rw [← named]
    exact (served_run (f := doFrameSubmit h p) hs rfl fun _ => rfl).trans
      (doFrameSubmit_takes hp (by simpa using on) (by simpa using ha) (by simpa using hpl) (by simpa using free))
  exact row_started hs (startCmd_frameSubmit run (isFlight_toFlight 0x14 h s)) (by simp)

end

section
variable {k : Nat} {h : Hdr} {f : Frame} {s : State} (hk : k < 4) (hq : Quiet s)
include hk hq

/-- The landing of a record does what it says, and nothing of it waits. -/
theorem frameLanded_exec {ans : HostAns} {t : State} (e : frameLanded k ans s = t) (hp : t.pending = s.pending) :
    exec (.streamedFrameLanded k ans) s = .next t := by
  show unitRow (decide (k < 4)) (frameLanded k ans) s = _
  rw [decide_eq_true hk]
  exact unitRow_exact hq e (e ▸ frameLanded_holds k ans s) hp

variable (hf : s.scene.frames.find? (landsIn k) = some f) (ho : f.origin = .stream h k)
include hf ho

theorem streamedRecord_refused :
    exec (.streamedFrameLanded k .refused) s = .next (complete 0x14 h .access 0 (retireFrame f s)) :=
  frameLanded_exec hk hq (frameLanded_refused hf ho) (by simp)

theorem streamedRecord_poisoned :
    exec (.streamedFrameLanded k .poisoned) s = .next (complete 0x14 h .uncorrectable 0 (retireFrame f s)) :=
  frameLanded_exec hk hq (frameLanded_poisoned hf ho) (by simp)

/-- R73: a record without a target whose bounds pass stands in its staging slot, and its frame is PENDING. -/
theorem streamedRecord_lands {bs : List Byte} {s2 : State}
    (pass : trnCheck s 0 (srcMaster s h.src) .w (stagingAddr k) f.room = .pass) (ht : f.target = none)
    (issued : 12 ≤ jglPortOf s h.src ∨ flits (stagingAddr k) f.room = 0 ∨
      regIssues (jglPortOf s h.src) (flits (stagingAddr k) f.room) s = true)
    (written : s2 = dramStore (jglPortOf s h.src) (stagingAddr k) (fit f.room bs)
      (drained (jglPortOf s h.src) (flits (stagingAddr k) f.room) s))
    (hb : frameBounds (frameCtx false s2 f) = none) :
    exec (.streamedFrameLanded k (.data bs)) s = .next (holdExit 1 (modFrame f.id (fun _ => { f with
      state := .pending
      length := (parseEntry (frameCtx false s2 f).entry).length
      dataOk := !dataCrcBad (frameCtx false s2 f) }) s2)) := by
  subst written
  exact frameLanded_exec hk hq ((frameLanded_data hf ho pass issued).trans (frameChecked_pending ht hb)) (by simp)

end

/-- Settles O19: FRAME_SUBMIT from its one remaining check, and the landing from the answer of the host. -/
theorem framesStream : Obligations.FramesStream := by
  refine ⟨fun h p s hs bytes fits aligned rsvd flags time => ?submits, fun k h f s hk hq found ho => ?lands⟩
  case submits =>
    have hp : SubmitInRange p := ⟨bytes, fits, aligned, rsvd, flags, time⟩
    refine ⟨frameSubmit_busy hs hp, fun k on ha hpl free =>
      ⟨_, newStream s h p k, frameSubmit_takes hs hp on ha hpl free, ?_, rfl, rfl, rfl, rfl, rfl⟩⟩
    simp only [addFrame, toFlight_scene]
  case lands =>
    have hf : s.scene.frames.find? (landsIn k) = some f :=
      (List.find?_congr fun g _ => by unfold landsIn; cases g.origin <;> rfl).trans found
    refine ⟨streamedRecord_refused hk hq hf ho, streamedRecord_poisoned hk hq hf ho, fun bs => ?_⟩
    intro jp n pass ht issued s2 c hb
    exact streamedRecord_lands hk hq hf ho pass ht issued rfl hb

end Sys2Proof
end

section
/-! SUPPORT. What the taking of a request from the front of core 0's queue leaves alone, and the pipelines' sparing request
(R107, R108, R110, R348, R418). -/

namespace Sys2Proof.Machine

/-! ### The queue of unit requests (R348) -/

/-- The blocks of a scan, which a request's leaving keeps, and core 0's queue, which becomes what is left. -/
def requestView (s : State) : (Scene × Hom × Crsl × Scn) × List UnitReq := (scanBlocks s, s.unitReqs)

theorem requestView_of_apart {s t : State} (h : apart s = apart t) : requestView s = requestView t := by
  obtain ⟨_, _, _, _, _, _, _, _, _, _, _, _, _, _, _, _, _, _, _, _, queue, _, _⟩ := apart_blocks h
  exact Prod.ext (blocks_of_apart h) queue

theorem unitReqsLeft_requestView (cls idx : Nat) (rest : List UnitReq) (s : State) :
    requestView (unitReqsLeft cls idx rest s) = requestView { s with unitReqs := rest } := by
  unfold unitReqsLeft
  extract_lets queues s1 s2
  have cleared : requestView s2 = requestView s1 := ite_keeps requestView rfl rfl
  exact ite_keeps requestView cleared ((requestView_of_apart (brkLevel_apart _ _ s2)).trans cleared)

/-- R348: the request at the front leaves the queue, and no block of a scan changes. -/
theorem frontPop_requestView (s : State) : requestView (frontPop s) = requestView { s with unitReqs := s.unitReqs.drop 1 } := by
  unfold frontPop
  split
  next empty => simp [requestView, scanBlocks, empty]
  next r _ _ => exact unitReqsLeft_requestView r.cls r.idx (s.unitReqs.drop 1) s

@[simp] theorem frontPop_unitReqs (s : State) : (frontPop s).unitReqs = s.unitReqs.drop 1 :=
  congrArg Prod.snd (frontPop_requestView s)
@[simp] theorem frontPop_blocks (s : State) : scanBlocks (frontPop s) = scanBlocks s :=
  congrArg Prod.fst (frontPop_requestView s)
@[simp] theorem frontPop_hom (s : State) : (frontPop s).hom = s.hom := hom_of_blocks (frontPop_blocks s)
@[simp] theorem frontPop_scn (s : State) : (frontPop s).scn = s.scn := scn_of_blocks (frontPop_blocks s)

/-! ### Clean windows (R235, R418) -/

@[simp] theorem unitTo_pending (cls idx : Nat) (st : UState) (cause : Nat) (s : State) :
    (unitTo cls idx st cause s).pending = s.pending :=
  (pending_of_apart ((brkEvent_apart _ _).trans (logFrom_apart _ _ _ _))).trans rfl

theorem cleanWindow_degraded {cls idx : Nat} {s : State} (h : (unitOf s cls idx).state = .degraded) :
    cleanWindow cls idx s = unitTo cls idx .online 6 s := if_pos (by simp [h])

theorem cleanWindow_other {cls idx : Nat} {s : State} (h : (unitOf s cls idx).state ≠ .degraded) :
    cleanWindow cls idx s = s := if_neg (by simp [h])

/-! ### Sparing and removal (R108, R110) -/

/-- The logical pipeline depends on the map alone. -/
theorem pipeLogical_frontPop (s : State) (q : Nat) : pipeLogical (frontPop s) q = pipeLogical s q := by
  simp only [pipeLogical, frontPop_hom]

/-- A request that is not at the front, or whose unit has left the state that it reported, brings nothing in. -/
theorem pipeSpare_notTurn {q : Nat} {s : State} (h : lastingTurn s 2 q = false) : pipeSpare q s = s := if_neg (by simp [h])

section
variable {q p : Nat} {s : State} (turn : lastingTurn s 2 q = true) (serves : pipeLogical s q = some p)
include turn serves

/-- R108: the lowest spare is to serve the logical pipeline, in the shadow of the map. -/
theorem pipeSpare_bringsIn {sp : Nat} {r : List Nat} (spares : pipeSpares (frontPop s) = sp :: r) :
    pipeSpare q s = { frontPop s with hom := { s.hom with
      bringIn := some (q, some sp, false), pipeMapSh := some (spSet p s.hom.pipeMap p sp) } } := by
  rw [pipeSpare, if_pos turn]
  simp only [pipeBringIn, pipeLogical_frontPop, serves, spares, frontPop_hom]

/-- R110: without a spare the pipeline is to leave service; no shadow of the map is written yet. -/
theorem pipeSpare_removes (spares : pipeSpares (frontPop s) = []) :
    pipeSpare q s = { frontPop s with hom := { s.hom with bringIn := some (q, none, false) } } := by
  rw [pipeSpare, if_pos turn]
  simp only [pipeBringIn, pipeLogical_frontPop, serves, spares, frontPop_hom]

end

end Sys2Proof.Machine
end

section
/-! Pipelines are spared, taken out of service, and return to ONLINE (R105, R107, R108, R110, R418). -/

namespace Sys2Proof

open Machine

section
variable {q : Nat} {s : State} (hp : q < 72) (hq : Quiet s)
include hp

/-- The sparing request of a pipeline that the device has. -/
theorem homPipeSpare_row : exec (.homPipeSpare q) s = row (pipeSpare q) s := by
  show unitRow (decide (q < 72)) (pipeSpare q) s = _
  rw [decide_eq_true hp]
  rfl

/-- The clean window of a pipeline that the device has. -/
theorem homPipeCleanWindow_row : exec (.homPipeCleanWindow q) s = row (cleanWindow 2 q) s := by
  show unitRow (decide (q < 72)) (pipeClean q) s = _
  rw [decide_eq_true hp]
  rfl

include hq

theorem homPipeSpare_notTurn (h : lastingTurn s 2 q = false) : exec (.homPipeSpare q) s = .next s :=
  (homPipeSpare_row hp).trans (row_noop _ s hq (pipeSpare_notTurn h))

/-- What the pipeline's operation leaves, the row leaves. -/
theorem homPipeSpare_next {t : State} (e : pipeSpare q s = t) :
    exec (.homPipeSpare q) s = .next { t with pending := s.pending } := by
  rw [homPipeSpare_row hp, row_quiet (pipeSpare q) s hq (pipeSpare_holds q s), e]

theorem homPipeSpare_bringsIn {p sp : Nat} {r : List Nat} (turn : lastingTurn s 2 q = true)
    (serves : pipeLogical s q = some p) (spares : pipeSpares (frontPop s) = sp :: r) :
    ∃ t, exec (.homPipeSpare q) s = .next t ∧ t.hom = { s.hom with
        bringIn := some (q, some sp, false), pipeMapSh := some (spSet p s.hom.pipeMap p sp) } ∧
      t.unitReqs = s.unitReqs.drop 1 ∧ t.scn = s.scn :=
  ⟨_, homPipeSpare_next hp hq (pipeSpare_bringsIn turn serves spares), rfl, frontPop_unitReqs s, frontPop_scn s⟩

theorem homPipeSpare_removes {p : Nat} (turn : lastingTurn s 2 q = true) (serves : pipeLogical s q = some p)
    (spares : pipeSpares (frontPop s) = []) :
    ∃ t, exec (.homPipeSpare q) s = .next t ∧ t.hom = { s.hom with bringIn := some (q, none, false) } ∧
      t.unitReqs = s.unitReqs.drop 1 :=
  ⟨_, homPipeSpare_next hp hq (pipeSpare_removes turn serves spares), rfl, frontPop_unitReqs s⟩

/-- R418: a clean window makes a DEGRADED pipeline ONLINE. -/
theorem homPipeCleanWindow_degraded (h : (unitOf s 2 q).state = .degraded) :
    exec (.homPipeCleanWindow q) s = .next (unitTo 2 q .online 6 s) :=
  (homPipeCleanWindow_row hp).trans
    (row_exact hq (cleanWindow_degraded h) (unitTo_holds 2 q .online 6 s) (unitTo_pending 2 q .online 6 s))

theorem homPipeCleanWindow_other (h : (unitOf s 2 q).state ≠ .degraded) : exec (.homPipeCleanWindow q) s = .next s :=
  (homPipeCleanWindow_row hp).trans (row_noop _ s hq (cleanWindow_other h))

end

/-- Settles O54: a sparing request at its turn by whether a spare is left, and a clean window by the pipeline's state. -/
theorem pipelinesAreSpared : Obligations.PipelinesAreSpared :=
  fun _ _ hp hq => ⟨homPipeSpare_notTurn hp hq,
    fun _ turn serves => ⟨fun _ _ => homPipeSpare_bringsIn hp hq turn serves, homPipeSpare_removes hp hq turn serves⟩,
    homPipeCleanWindow_degraded hp hq, homPipeCleanWindow_other hp hq⟩

end Sys2Proof
end

section
/-! SUPPORT. Update requests: UPDATE_REGION, the exit cause that its acceptance is, and a request whose TIMEOUT has passed
(R155, R156, R174). -/

namespace Sys2Proof.Machine

/-! ### Collections -/

theorem lkp_modAt {α : Type} (m : Sparse α) (i : Nat) (f : α → α) : lkp (modAt m i f) i = (lkp m i).map f := by
  induction m with
  | nil => rfl
  | cons c r ih =>
    obtain ⟨k, v⟩ := c
    by_cases here : k = i
    · simp [lkp, modAt, here]
    · simpa [lkp, modAt, here] using ih

theorem delAt_modAt {α : Type} (m : Sparse α) (i : Nat) (f : α → α) : delAt (modAt m i f) i = delAt m i := by
  induction m with
  | nil => rfl
  | cons c r ih =>
    obtain ⟨k, v⟩ := c
    by_cases here : k = i
    · simpa [delAt, modAt, here] using ih
    · simpa [delAt, modAt, here] using ih

/-! ### Accepted commands that end a hold extension (R174) -/

theorem exitOnAccept_eq (h : Hdr) (s : State) : exitOnAccept h s = { s with scn := (exitOnAccept h s).scn } := by
  unfold exitOnAccept
  split
  · exact holdExit_eq 2 s
  · rfl

@[simp] theorem exitOnAccept_crsl (h : Hdr) (s : State) : (exitOnAccept h s).crsl = s.crsl :=
  (congrArg State.crsl (exitOnAccept_eq h s) :)

/-- A command that has completed is no exit cause. -/
theorem exitOnAccept_complete {h : Hdr} {s u : State} (op op' : Byte) (st : Status) (d : W64) (hn : isFlight h s = false)
    (hu : u.hq.inflight = (toFlight op h s).hq.inflight) :
    exitOnAccept h (complete op' h st d u) = complete op' h st d u :=
  if_neg (by simp [complete_isFlight op op' h st d s u hn hu])

/-! ### UPDATE_REGION (R155, R156) -/

/-- The parameters of an UPDATE_REGION are in range, and its rectangle lies within the grid (R133, R155). -/
structure RequestInRange (p : UpdateRegionP) (t : Timing) : Prop where
  wide : p.w.toNat ≠ 0
  high : p.h.toNat ≠ 0
  across : p.rx.toNat + p.w.toNat ≤ regionsX t.hx
  down : p.ry.toNat + p.h.toNat ≤ regionsY t.hy
  rx : p.rx.toNat < 0xFFFF
  ry : p.ry.toNat < 0xFFFF
  w : p.w.toNat < 0xFFFF
  h : p.h.toNat < 0xFFFF
  rsvd : p.rsvd = false
  flags : p.flags.toNat < 2
  kind : p.kind = 1 ∨ p.kind = 2

/-- The request that an UPDATE_REGION makes (R156). -/
def newRequest (h : Hdr) (p : UpdateRegionP) : RegionReq where
  by_ := .host h
  rx := p.rx.toNat
  ry := p.ry.toNat
  w := p.w.toNat
  h := p.h.toNat
  kind := if p.kind.toNat = 1 then .clear else .wear
  preempt := bitOf p.flags 0
  timeout := p.timeout.toNat
  entered := false
  waited := 0
  finished := 0
  notFinished := 0
  timedOut := false
  replaced := false

/-- A request in a slot, to enter the queues at the next tick (R141, R156). -/
def withRequest (k : Nat) (q : RegionReq) (s : State) : State :=
  { s with crsl := { s.crsl with reqs := putAt s.crsl.reqs k q, newReqs := s.crsl.newReqs ++ [k] } }

/-- With its parameters in range, the enable and the free slots decide. -/
theorem doUpdateRegion_inRange {h : Hdr} {p : UpdateRegionP} {t : Timing} {s : State} (hp : RequestInRange p t)
    (ht : curTiming s = some t) : doUpdateRegion h p s =
      if crslEn s = false then complete 0x40 h .unsupported 0 s
      else (freeReqSlot s).elim (complete 0x40 h .noResource 0 s) fun k => withRequest k (newRequest h p) s := by
  obtain ⟨wide, high, across, down, rx, ry, w, hh, rsvd, flags, kind⟩ := hp
  have fields : (ones 2 p.rx.toNat || ones 2 p.ry.toNat || ones 2 p.w.toNat || ones 2 p.h.toNat) = false := by
    rw [ones_eq_false (Nat.ne_of_lt rx), ones_eq_false (Nat.ne_of_lt ry), ones_eq_false (Nat.ne_of_lt w),
      ones_eq_false (Nat.ne_of_lt hh)]
    rfl
  have kindOk : ¬ (p.kind.toNat ≠ 1 ∧ p.kind.toNat ≠ 2) := by rcases kind with clear | wear <;> simp [*]
  unfold doUpdateRegion
  extract_lets fin rx ry w hh beyond
  have inside : beyond = false := by simp only [beyond, ht]; simp [rx, ry, w, hh]; omega
  rw [fields, if_neg (by simp), if_neg (by simp [w, hh, wide, high]), inside, if_neg (by simp), rsvd,
    if_neg (by simpa [flags] using kindOk)]
  cases crslEn s with
  | false => rfl
  | true => cases freeReqSlot s <;> rfl

/-! ### A TIMEOUT that passes (R156) -/

/-- A request for one region. -/
theorem reqRegions_one {q : RegionReq} (w : q.w = 1) (h : q.h = 1) : reqRegions q = [q.ry * 512 + q.rx] := by
  simp [reqRegions, w, h]

/-- R156: a host's request all of whose regions have ended completes, and frees its slot. -/
theorem reqClose_host {k : Nat} {q : RegionReq} {h : Hdr} {s : State} (found : lkp s.crsl.reqs k = some q)
    (done : reqDone q = true) (host : q.by_ = .host h) :
    reqClose k s = complete 0x40 h (if q.timedOut then .timeout else if q.replaced then .aborted else .ok)
      (put q.finished 0 ||| put q.notFinished 32) { s with crsl := { s.crsl with reqs := delAt s.crsl.reqs k } } := by
  simp only [reqClose, found, done, host]
  rfl

/-- R156: the one region of a request whose TIMEOUT has passed leaves its queue. -/
theorem requestTimeout_one {k : Nat} {q : RegionReq} {kind : WKind} {s : State} (found : lkp s.crsl.reqs k = some q)
    (expired : reqExpired q = true) (w : q.w = 1) (h : q.h = 1)
    (queued : (regionOf s (q.ry * 512 + q.rx)).queued = some (kind, k)) :
    requestTimeout k s = reqClose k (reqTimedOut k
      (setRegion (q.ry * 512 + q.rx) { regionOf s (q.ry * 512 + q.rx) with queued := none } s)) := by
  simp only [requestTimeout, found, expired, reqRegions_one w h, eachNat, queued]
  rfl

end Sys2Proof.Machine
end

section
/-! Update requests: UPDATE_REGION, and a request that times out in its queue (R155, R156). -/

namespace Sys2Proof

open Machine

section
variable {h : Hdr} {p : UpdateRegionP} {t : Timing} {s : State} (hs : Starts h (.updateRegion p) s)
  (hp : RequestInRange p t) (ht : curTiming s = some t)

include hs in
/-- An UPDATE_REGION that is refused only completes. -/
theorem updateRegion_refused {st : Status}
    (refused : runCmd h (.updateRegion p) (toFlight 0x40 h s) =
      exitOnAccept h (complete 0x40 h st 0 (toFlight 0x40 h s))) :
    Ends (.updateRegion h p) 0x40 h st 0 s fun u => u = toFlight 0x40 h s := by
  have ⟨_, _, _, _, new, _⟩ := hs
  rw [exitOnAccept_complete 0x40 0x40 st 0 new rfl] at refused
  exact starts_ends h (.updateRegion p) _ s _ 0x40 st 0 _ rfl hs (by simp [awaitsData]) refused rfl (by simp) rfl

include hp ht

/-- The command's own operation, as its start runs it. -/
theorem updateRegion_run : runCmd h (.updateRegion p) (toFlight 0x40 h s) = exitOnAccept h
    (if crslEn s = false then complete 0x40 h .unsupported 0 (toFlight 0x40 h s)
      else (freeReqSlot s).elim (complete 0x40 h .noResource 0 (toFlight 0x40 h s))
        fun k => withRequest k (newRequest h p) (toFlight 0x40 h s)) := by
  have timing : curTiming (toFlight 0x40 h s) = some t := (toFlight_keeps curTiming _ h s fun _ => rfl).trans ht
  have enable : crslEn (toFlight 0x40 h s) = crslEn s := toFlight_keeps crslEn _ h s fun _ => rfl
  have slot : freeReqSlot (toFlight 0x40 h s) = freeReqSlot s := toFlight_keeps freeReqSlot _ h s fun _ => rfl
  rw [← enable, ← slot, ← doUpdateRegion_inRange hp timing]
  rfl

include hs

theorem updateRegion_disabled (off : crslEn s = false) :
    Ends (.updateRegion h p) 0x40 h .unsupported 0 s fun u => u = toFlight 0x40 h s :=
  updateRegion_refused hs ((updateRegion_run hp ht).trans (by rw [if_pos off]))

theorem updateRegion_full (on : crslEn s = true) (full : freeReqSlot s = none) :
    Ends (.updateRegion h p) 0x40 h .noResource 0 s fun u => u = toFlight 0x40 h s :=
  updateRegion_refused hs ((updateRegion_run hp ht).trans (by rw [if_neg (by simp [on]), full]; rfl))

/-- R156: the request takes the lowest free slot; its acceptance is an exit cause of a hold extension (R174). -/
theorem updateRegion_takes {k : Nat} (on : crslEn s = true) (free : freeReqSlot s = some k) :
    GoesOn (.updateRegion h p) 0x40 h s fun u =>
      u = exitOnAccept h (withRequest k (newRequest h p) (toFlight 0x40 h s)) := by
  have run : runCmd h (.updateRegion p) (toFlight 0x40 h s) =
      exitOnAccept h (withRequest k (newRequest h p) (toFlight 0x40 h s)) :=
    (updateRegion_run hp ht).trans (by rw [if_neg (by simp [on]), free]; rfl)
  have flies : isFlight h (exitOnAccept h (withRequest k (newRequest h p) (toFlight 0x40 h s))) = true ∨
      h.src = .fw := by
    rw [isFlight_congr h (t := toFlight 0x40 h s) (by rw [exitOnAccept_eq]; rfl)]
    exact isFlight_toFlight _ h s
  exact starts_goes_on h (.updateRegion p) _ s _ _ rfl hs rfl trivial run flies
    ((exitOnAccept_holds _ _).trans (toFlight_holds _ _ _)) rfl

end

/-- R156: the request of one region whose TIMEOUT passes in its queue completes with TIMEOUT and frees its slot. -/
theorem regionRequest_timesOut {k : Nat} {q : RegionReq} {h : Hdr} {kind : WKind} {s : State} (hk : k < 16) (hq : Quiet s)
    (found : lkp s.crsl.reqs k = some q) (expired : reqExpired q = true) (w : q.w = 1) (hh : q.h = 1)
    (entered : q.entered = true) (finished : q.finished = 0) (notFinished : q.notFinished = 0) (host : q.by_ = .host h)
    (queued : (regionOf s (q.ry * 512 + q.rx)).queued = some (kind, k)) :
    exec (.regionRequestTimeout k) s = .next (complete 0x40 h .timeout (put 1 32) { s with crsl := { s.crsl with
      regions := spSet {} s.crsl.regions (q.ry * 512 + q.rx) { regionOf s (q.ry * 512 + q.rx) with queued := none }
      reqs := delAt s.crsl.reqs k } }) := by
  have counted : lkp (modAt s.crsl.reqs k fun q => { q with notFinished := q.notFinished + 1, timedOut := true }) k =
      some { q with notFinished := q.notFinished + 1, timedOut := true } := by rw [lkp_modAt, found]; rfl
  have closes := reqClose_host (s := reqTimedOut k
      (setRegion (q.ry * 512 + q.rx) { regionOf s (q.ry * 512 + q.rx) with queued := none } s)) counted
    (by simp [reqDone, entered, finished, notFinished, w, hh]) host
  show unitRow (decide (k < 16)) (requestTimeout k) s = _
  rw [decide_eq_true hk]
  refine unitRow_exact hq ((requestTimeout_one found expired w hh queued).trans (closes.trans ?_)) ?_ ?_
  · simp only [reqTimedOut, modReq, setRegion, delAt_modAt, finished, notFinished]
    rfl
  · exact complete_holds _ _ _ _ _
  · exact complete_pending _ _ _ _ _

/-- Settles O23: what an UPDATE_REGION in range does from the enable and the free slots, and the end of the one region of
a request that has timed out. -/
theorem regionRequests : Obligations.RegionRequests := by
  refine ⟨fun h p t s hs ht wide high across down rx ry w hh rsvd flags kind => ?updates,
    fun k q h kind s hk hq found expired w hh entered finished notFinished host queued =>
      regionRequest_timesOut hk hq found expired w hh entered finished notFinished host queued⟩
  have hp : RequestInRange p t := ⟨wide, high, across, down, rx, ry, w, hh, rsvd, flags, kind⟩
  refine ⟨updateRegion_disabled hs hp ht, updateRegion_full hs hp ht, fun k on free => ?_⟩
  obtain ⟨_, next, rfl⟩ := updateRegion_takes hs hp ht on free
  refine ⟨_, next, ⟨newRequest h p, ?crsl, rfl, rfl, rfl, rfl, rfl, ?kind, rfl, rfl⟩, ?frame⟩
  case crsl => rw [exitOnAccept_crsl, withRequest, toFlight_keeps State.crsl _ h s fun _ => rfl]
  case kind => rcases kind with clear | wear <;> simp [newRequest, *]
  case frame => rw [exitOnAccept_eq]; rfl

end Sys2Proof
end

section
/-! SUPPORT. A waveform image that passes its checks (R146, R147, R158). Its CRC is carried, not evaluated. -/

namespace Sys2Proof.Machine

/-! ### Fields of a list of bytes -/

theorem leAt_drop (bs : List Byte) (j i k : Nat) : leAt bs (j + i) k = leAt (bs.drop j) i k := by
  simp [leAt, List.drop_drop]

theorem byteAt_drop (bs : List Byte) (j i : Nat) : byteAt bs (j + i) = byteAt (bs.drop j) i := by
  simp [byteAt, List.getD_eq_getElem?_getD]

theorem byteAt_zeros (n i : Nat) : byteAt (fill n 0) i = 0 := by
  simp only [byteAt, fill, List.getD_eq_getElem?_getD, List.getElem?_replicate]
  split <;> rfl

theorem fit_all {n : Nat} {bs : List Byte} (h : bs.length = n) : fit n bs = bs := by
  simp [fit, fill, h]

/-- A field between two runs of bytes, laid over with as many others. -/
theorem overlay_field {x c new : List Byte} (r : List Byte) (h : new.length = c.length) :
    overlay (x ++ (c ++ r)) x.length new = x ++ (new ++ r) := by
  simp [overlay, h, List.drop_append]

/-! ### The image -/

/-- What stands before the CRC: MAGIC, VERSION 1 and LENGTH. -/
def imageFront : List Byte := ascii "CRWV" ++ ([1, 0, 0, 0] ++ leBytes 4 imageLen)

/-- The reserved bytes behind the CRC and the 24 descriptors, of one phase each. -/
def imageDescs : List Byte := fill 48 0 ++ (List.replicate 24 (leBytes 4 1)).flatten

/-- What stands behind the CRC: the descriptors, and zeros. -/
def imageBody : List Byte := imageDescs ++ fill (imageLen - 160) 0

/-- An image whose tables are all zero. -/
def zeroImage : List Byte :=
  imageFront ++ (leBytes 4 (crc32c (imageFront ++ (fill 4 0 ++ imageBody))).toNat ++ imageBody)

theorem imageFront_length : imageFront.length = 12 := by decide +kernel
theorem imageDescs_length : imageDescs.length = 144 := by decide +kernel

/-- With any four bytes for its CRC an image has its length. -/
theorem imageAround_length {c : List Byte} (h : c.length = 4) : (imageFront ++ (c ++ imageBody)).length = imageLen := by
  simp only [imageBody, List.length_append, imageFront_length, h, imageDescs_length, fill_length]
  rfl

theorem zeroImage_length : zeroImage.length = imageLen := imageAround_length (leBytes_length 4 _)

/-- The fields before the CRC. -/
theorem zeroImage_front {i k : Nat} (h : i + k ≤ 12) : (zeroImage.drop i).take k = (imageFront.drop i).take k := by
  rw [zeroImage, List.drop_append_of_le_length (by rw [imageFront_length]; omega),
    List.take_append_of_le_length (by rw [List.length_drop, imageFront_length]; omega)]

/-- The fields behind the CRC. -/
theorem zeroImage_behind : zeroImage.drop 16 = imageBody := by
  rw [zeroImage, ← List.append_assoc]
  exact List.drop_left' (by rw [List.length_append, imageFront_length, leBytes_length])

theorem zeroImage_crc : leAt zeroImage 0xC 4 = (crc32c (fit imageLen (overlay zeroImage 0xC [0, 0, 0, 0]))).toNat := by
  have blank : overlay zeroImage 0xC [0, 0, 0, 0] = imageFront ++ (fill 4 0 ++ imageBody) :=
    imageFront_length ▸ overlay_field imageBody (by simp)
  rw [blank, fit_all (imageAround_length (fill_length 4 0)), zeroImage,
    leAt_skip _ _ _ _ (by rw [imageFront_length]), imageFront_length, Nat.sub_self, leAt_here]
  exact Nat.mod_eq_of_lt (BitVec.isLt _)

theorem zeroImage_descs : (firstBelow 24 fun n => !descOk (leAt zeroImage (0x40 + 4 * n) 4)) = none := by
  rw [firstBelow, List.find?_eq_none]
  intro n hn
  have fits : ∀ n < 24, descOk (leAt imageBody (48 + 4 * n) 4) = true := by decide +kernel
  have place : 0x40 + 4 * n = 16 + (48 + 4 * n) := by omega
  simp [place, leAt_drop zeroImage 16, zeroImage_behind, fits n (List.mem_range.1 hn)]

theorem zeroImage_reserved : ([5, 6, 7] ++ (List.range 48).map (0x10 + ·) ++ (List.range 3936).map (0xA0 + ·)).find?
    (fun a => byteAt zeroImage a != 0) = none := by
  rw [List.find?_eq_none]
  intro a ha
  suffices zero : byteAt zeroImage a = 0 by rw [zero]; decide
  simp only [List.mem_append, List.mem_map, List.mem_range] at ha
  obtain (low | ⟨i, hi, rfl⟩) | ⟨i, -, rfl⟩ := ha
  · have zero : ∀ a ∈ ([5, 6, 7] : List Nat), a < imageFront.length ∧ byteAt imageFront a = 0 := by decide +kernel
    exact (List.getD_append _ _ _ _ (zero a low).1).trans (zero a low).2
  · have zero : ∀ i < 48, byteAt imageBody i = 0 := by decide +kernel
    rw [byteAt_drop, zeroImage_behind, zero i hi]
  · have place : 0xA0 + i = 16 + (144 + i) := by omega
    rw [place, byteAt_drop, zeroImage_behind, byteAt_drop, imageBody, List.drop_left' imageDescs_length, byteAt_zeros]

/-- The image passes every check. -/
theorem zeroImage_passes : imageBad zeroImage = none := by
  have magic : zeroImage.take 4 = ascii "CRWV" := (zeroImage_front (i := 0) (by decide)).trans (by decide +kernel)
  have version : leAt zeroImage 4 1 = 1 :=
    (congrArg leNat (zeroImage_front (by decide))).trans (by decide +kernel)
  have length : leAt zeroImage 8 4 = imageLen :=
    (congrArg leNat (zeroImage_front (by decide))).trans (by decide +kernel)
  unfold imageBad
  extract_lets crcBytes reserved
  rw [magic, version, length, zeroImage_crc, if_neg (by simp), if_neg (by simp), if_neg (by simp),
    if_neg (by simp [crcBytes]), zeroImage_descs, Option.map_none, Option.none_or]
  exact zeroImage_reserved

end Sys2Proof.Machine
end

section
/-! SUPPORT. A scratchpad bank that is listed twice: ON in the entry that is read, OFF in the one behind it. A write to the
bank takes the first entry out, as what it leaves is the default, and the next one finds the bank OFF and is dropped (R264). -/

namespace Sys2Proof.Machine

/-- Bank 434, which copies 1 and 2 of the image share, is listed twice, and its first word, which is copy 1's, is
poisoned. -/
def listedTwice : Spm where
  banks := [(434, bankDflt 434), (434, { bankDflt 434 with power := .off })]
  poisoned := [434 * 16384]

/-- Bank 434 is OFF, and its first word poisoned; no bank is mapped or being brought in. -/
structure BankHidden (p : Spm) : Prop where
  map : p.map = []
  bringIn : p.bringIn = none
  off : (spGet (bankDflt 434) p.banks 434).power = .off
  marked : 434 * 16384 ∈ p.poisoned

theorem bankPhys_unmapped {s : State} (map : s.spm.map = []) (l : Nat) : bankPhys s l = l := by
  simp [bankPhys, map, spGet]

theorem mirrorOf_none {s : State} (bringIn : s.spm.bringIn = none) (b : Nat) : mirrorOf s b = none := by
  rw [mirrorOf, bringIn]

/-- A log entry is no matter of the scratchpad. -/
theorem log_spm (name : LogName) (args : List Nat) (s : State) : (log name args s).spm = s.spm :=
  (congrArg State.spm (log_apart name args s) :)

theorem dramStore_spm (port addr : Nat) (bs : List Byte) (s : State) : (dramStore port addr bs s).spm = s.spm := by
  have range : (dramRange port addr s).spm = s.spm := by
    unfold dramRange
    extract_lets s1
    split
    · exact log_spm _ _ _
    · rfl
  unfold dramStore
  split
  · rfl
  · split
    · exact range
    · rfl

/-- An entry changed leaves every other entry, whatever an unlisted one reads as. -/
theorem spGet_spSet_other {α : Type} [DecidableEq α] (d e : α) (m : Sparse α) (i j : Nat) (v : α) (h : j ≠ i) :
    spGet d (spSet e m i v) j = spGet d m j := by
  induction m with
  | nil =>
    rw [spSet]
    split
    · rfl
    · simp [spGet, h.symm]
  | cons c r ih =>
    obtain ⟨k, w⟩ := c
    rw [spSet]
    split
    next => split <;> simp [spGet, h.symm]
    next =>
      split
      next here => subst here; split <;> simp [spGet, h.symm]
      next => simp [spGet, ih]

/-- A change of a bank that leaves its power leaves bank 434 OFF. -/
theorem spMod_off {m : Sparse Bank} (b : Nat) (f : Bank → Bank) (hf : ∀ x, (f x).power = x.power)
    (off : (spGet (bankDflt 434) m 434).power = .off) :
    (spGet (bankDflt 434) (spMod (bankDflt b) m b f) 434).power = .off := by
  by_cases hb : 434 = b
  · subst hb
    have power : (f (spGet (bankDflt 434) m 434)).power = .off := (hf _).trans off
    have listed : f (spGet (bankDflt 434) m 434) ≠ bankDflt 434 := by
      intro e
      rw [e] at power
      exact absurd power (by decide)
    rw [spGet_spMod_eq _ _ _ _ listed, power]
  · rw [spMod, spGet_spSet_other _ _ _ b 434 _ hb, off]

/-- R264: an access of a bank that is OFF changes the power of no bank, and no poisoned word. -/
theorem bankOffAccess_hidden (b : Nat) {s : State} (hs : BankHidden s.spm) : BankHidden (bankOffAccess b s).spm := by
  obtain ⟨map, bringIn, off, marked⟩ := hs
  unfold bankOffAccess
  extract_lets s1
  split
  · exact ⟨map, bringIn, off, marked⟩
  · rw [log_spm]
    exact ⟨map, bringIn, spMod_off b (fun x => { x with offLogged := some (mtOf s) }) (fun _ => rfl) off, marked⟩

section
variable {l off n : Nat} {src : Mem} {a : Nat} {s : State} (map : s.spm.map = []) (bringIn : s.spm.bringIn = none)
include map

theorem bankLay_off (hl : (bankOf s l).power = .off) : bankLay l off n src a s = bankOffAccess l s := by
  unfold bankLay
  extract_lets lay b
  rw [if_pos (by simp [b, bankPhys_unmapped map, hl])]
  simp [b, bankPhys_unmapped map]

include bringIn

/-- R260, R264: what is laid into a bank that is not OFF wakes it, and clears the words that it covers whole. -/
theorem bankLay_spm (hl : (bankOf s l).power ≠ .off) : (bankLay l off n src a s).spm = { s.spm with
    banks := spMod (bankDflt l) s.spm.banks l fun x => { x with power := if x.power == .ret then .on else x.power }
    mem := memMove src a (l * bankSize + off) n s.spm.mem
    poisoned := s.spm.poisoned.filter fun w =>
      !decide (l * bankSize + off ≤ 32 * w ∧ 32 * w + 32 ≤ l * bankSize + off + n) } := by
  unfold bankLay
  extract_lets lay b s1
  have here : b = l := bankPhys_unmapped map l
  have alone : mirrorOf s1 b = none := mirrorOf_none bringIn b
  rw [if_neg (by simp [here, hl]), alone]
  simp only [s1, lay, here]
  rfl

end

/-- What is laid into another bank, or behind the first word of bank 434, leaves that word poisoned. -/
theorem firstWord_marked {l off n : Nat} {words : List Nat} (marked : 434 * 16384 ∈ words)
    (beside : l ≠ 434 ∧ off + n ≤ bankSize ∨ l = 434 ∧ 0 < off) : 434 * 16384 ∈ words.filter fun w =>
      !decide (l * bankSize + off ≤ 32 * w ∧ 32 * w + 32 ≤ l * bankSize + off + n) := by
  have apart : ¬ (l * bankSize + off ≤ 32 * (434 * 16384) ∧ 32 * (434 * 16384) + 32 ≤ l * bankSize + off + n) := by
    simp only [bankSize] at beside ⊢
    omega
  exact List.mem_filter.2 ⟨marked, by rw [decide_eq_false apart]; rfl⟩

/-- Bank 434 stays hidden, whatever is laid into a bank. -/
theorem bankLay_hidden {l off n : Nat} (src : Mem) (a : Nat) {s : State} (hn : off + n ≤ bankSize)
    (hs : BankHidden s.spm) : BankHidden (bankLay l off n src a s).spm := by
  by_cases hl : (bankOf s l).power = .off
  · rw [bankLay_off hs.map hl]
    exact bankOffAccess_hidden l hs
  · rw [bankLay_spm hs.map hs.bringIn hl]
    obtain ⟨map, bringIn, off434, marked⟩ := hs
    have other : 434 ≠ l := fun e => hl (e ▸ off434)
    refine ⟨map, bringIn, ?_, firstWord_marked marked (.inl ⟨other.symm, hn⟩)⟩
    dsimp only
    rw [spMod, spGet_spSet_other _ _ _ l 434 _ other, off434]

/-- The first write to bank 434 takes out the entry that is read, and spares the first word. -/
theorem bankLay_hides {off n : Nat} (src : Mem) (a : Nat) {s : State} (hs : s.spm = listedTwice) (ho : 0 < off) :
    BankHidden (bankLay 434 off n src a s).spm := by
  have on : (bankOf s 434).power ≠ .off := by rw [bankOf, hs]; decide
  rw [bankLay_spm (hs ▸ rfl) (hs ▸ rfl) on, hs]
  refine ⟨rfl, rfl, ?_, firstWord_marked (List.mem_singleton_self _) (.inr ⟨rfl, ho⟩)⟩
  dsimp only
  decide

/-- The part of a copy that lies in a bank laid there. -/
def layPart (n : Nat) (src : Mem) (a l : Nat) (s : State) : State :=
  bankLay l (max (waveAddr n 0) (l * bankSize) % bankSize)
    (min (waveAddr n imageLen) ((l + 1) * bankSize) - max (waveAddr n 0) (l * bankSize)) src
    (a + (max (waveAddr n 0) (l * bankSize) - waveAddr n 0)) s

/-- A copy is laid bank by bank. -/
theorem setCopy_eq (n : Nat) (src : Mem) (a : Nat) (s : State) :
    setCopy n src a s = eachNat (layPart n src a) (((List.range 8).map (430 + ·)).filter (waveIn · n)) s := rfl

theorem layParts_hidden (n : Nat) (src : Mem) (a : Nat) (banks : List Nat) {s : State} (hs : BankHidden s.spm) :
    BankHidden (eachNat (layPart n src a) banks s).spm := by
  induction banks generalizing s with
  | nil => exact hs
  | cons l r ih =>
    refine ih (bankLay_hidden src _ ?_ hs)
    simp only [waveAddr, imageLen, bankSize]
    omega

/-- Bank 434 stays hidden, whatever copy is replaced. -/
theorem setCopy_hidden (n : Nat) (src : Mem) (a : Nat) {s : State} (hs : BankHidden s.spm) :
    BankHidden (setCopy n src a s).spm := layParts_hidden n src a _ hs

/-- Copy 2 begins in bank 434, behind the end of copy 1. -/
theorem setCopy_hides (src : Mem) (a : Nat) {s : State} (hs : s.spm = listedTwice) :
    BankHidden (setCopy 2 src a s).spm := by
  have banks : ((List.range 8).map (430 + ·)).filter (waveIn · 2) = [434, 435, 436] := by decide
  rw [setCopy_eq, banks, eachNat]
  refine layParts_hidden 2 src a [435, 436] ?_
  rw [layPart]
  exact bankLay_hides src _ hs (by decide)

/-- A byte of copy 1 that stands in bank 434's first word is lost. -/
theorem waveCell_hidden {s : State} (hs : BankHidden s.spm) : waveCell s 1 876544 = none := by
  have word : spmWord s (waveAddr 1 876544) = 434 * 16384 := by
    rw [spmWord, bankPhys_unmapped hs.map]
    rfl
  rw [waveCell, spmCell, word]
  exact if_pos (List.elem_eq_true_of_mem hs.marked)

end Sys2Proof.Machine
end

section
/-! A waveform image that is written past a bank listed twice (R148, R158, R264). -/

namespace Sys2Proof

open Machine

/-- An image in the backing copy and in two copies, the spare `i` before the spare `j` (R158, R159). -/
def sparesWritten (i j : Nat) (img : List Byte) (s : State) : State :=
  setCopy j (memWrite 0 [] 0 img) 0 (setCopy i (memWrite 0 [] 0 img) 0
    (dramStore portRm waveBacking img { s with crsl := { s.crsl with loading := none } }))

/-- R158, R159: an image that passes its checks is written to the spare copies. -/
theorem waveformChecked_passes {h : Hdr} {bs img : List Byte} {i j : Nat} {s : State} (loading : s.crsl.loading = some h)
    (cut : fit imageLen bs = img) (passes : imageBad img = none) (hi : (s.crsl.activeCopy + 2) % 3 = i)
    (hj : (s.crsl.activeCopy + 1) % 3 = j) : waveformChecked (.data bs) s = { sparesWritten i j img s with
      crsl := { (sparesWritten i j img s).crsl with loaded := some h } } := by
  subst hi hj
  unfold waveformChecked
  rw [loading]
  show (match imageBad (fit imageLen bs) with | some off => _ | none => _) = _
  rw [cut, passes]
  rfl

/-- A WAVEFORM_LOAD of Ringmaster's whose image has come, in a device with bank 434 listed twice. -/
def loadPending : State := { State.reset with
  jgl := { State.reset.jgl with limit := 2 ^ 36 }
  crsl := { State.reset.crsl with loading := some ⟨.fw, 0, 0, false, false, false, 0⟩ }
  spm := listedTwice }

theorem loadPending_quiet : Quiet loadPending := ⟨rfl, rfl, rfl, rfl⟩

/-- Every bank reads as ON. -/
theorem loadPending_on : ∀ b < 512, (bankOf loadPending b).power ≠ .off := by decide +kernel

/-- Whatever the image, bank 434 is OFF then, with copy 1's poisoned word in it. -/
theorem sparesWritten_hidden (img : List Byte) : BankHidden (sparesWritten 2 1 img loadPending).spm :=
  setCopy_hidden 1 _ 0 (setCopy_hides _ 0 (dramStore_spm _ _ _ _))

/-- What the check of an image that passes leaves of the scratchpad. -/
theorem loadPending_next {img : List Byte} {t : State} (length : img.length = imageLen) (passes : imageBad img = none)
    (next : exec (.waveformCheckDone (.data img)) loadPending = .next t) :
    t.spm = (sparesWritten 2 1 img loadPending).spm := by
  have run : exec (.waveformCheckDone (.data img)) loadPending = row (waveformChecked (.data img)) loadPending := rfl
  rw [run, row_quiet _ _ loadPending_quiet (waveformChecked_holds (.data img) loadPending)] at next
  have left := waveformChecked_passes (s := loadPending) (i := 2) (j := 1) rfl (fit_all length) passes rfl rfl
  rw [← Host.Outcome.next.inj next, left]

/-- Refutes O24: of two entries listed for one bank of the scratchpad the first is read, and says that the bank is ON. The
write to copy 2 takes it out, the entry behind it says that the bank is OFF, and the part of copy 1 that stands there is
dropped: its word stays poisoned, where the statement has the image's byte. The statement fails for want of a hypothesis
that no bank is listed twice. -/
theorem not_waveformIsLoaded : ¬ Obligations.WaveformIsLoaded := by
  intro claim
  obtain ⟨img, length, passes⟩ : ∃ img, img.length = imageLen ∧ imageBad img = none :=
    ⟨zeroImage, zeroImage_length, zeroImage_passes⟩
  obtain ⟨-, loads, -⟩ := claim ⟨.fw, 0, 0, false, false, false, 0⟩ loadPending
  obtain ⟨-, passed⟩ := loads img loadPending_quiet rfl
  rw [fit_all length] at passed
  obtain ⟨t, next, bytes, -⟩ := passed passes (by decide) rfl rfl loadPending_on
  have hidden : BankHidden t.spm := by
    rw [loadPending_next length passes next]
    exact sparesWritten_hidden img
  obtain ⟨written, -⟩ := bytes 876544 (by decide)
  have copy1 : (loadPending.crsl.activeCopy + 1) % 3 = 1 := rfl
  rw [copy1, waveCell_hidden hidden] at written
  exact Option.some_ne_none _ written.symm

end Sys2Proof
end

section
/-! SUPPORT. Watermarks, COMMIT, LAYER_SET and TIMING_SET as their operations carry them out (R119, R122, R123, R168, R177,
R181). -/

namespace Sys2Proof.Machine

/-! ### Watermarks (R181) -/

/-- A watermark fires: its bit, its Barker source, and no second time in the tick. -/
def wmFires (n : Nat) (s : State) : State :=
  brkEvent (512 + n) { s with scn := { s.scn with wmFired := s.scn.wmFired ||| 2 ^ n, wmDone := n :: s.scn.wmDone } }

/-- A watermark is marked missed, and does not fire in the tick. -/
def wmMisses (n : Nat) (s : State) : State :=
  { s with scn := { s.scn with wmMissed := s.scn.wmMissed ||| 2 ^ n, wmDone := n :: s.scn.wmDone } }

/-- What an enabled watermark within the raster does that has not yet fired in the tick, by the state of the raster. -/
theorem watermarkFire_due {n : Nat} {t : Timing} {s : State} (ht : s.scn.inForce = some t)
    (en : bitOf (wmOf s n) 31 = true) (inside : fld (wmOf s n) 16 0 < linesVt t) (once : s.scn.wmDone.contains n = false) :
    watermarkFire n s =
      if s.scn.state == .aborted then if fld (wmOf s n) 16 0 < s.scn.line then s else wmMisses n s
      else if s.scn.state != .run || !wmReached t (wmOf s n) s then s
      else if bitOf (wmOf s n) 18 then wmStart n (wmFires n s) else wmFires n s := by
  have due : ¬ (!bitOf (wmOf s n) 31 || decide (linesVt t ≤ fld (wmOf s n) 16 0) || s.scn.wmDone.contains n) = true := by
    rw [en, once]; simpa using inside
  unfold watermarkFire
  split
  next unset => rw [ht] at unset; exact absurd unset (by simp)
  next t' ht' =>
    obtain rfl := Option.some.inj (ht.symm.trans ht')
    rw [if_neg due]
    rfl

@[simp] theorem wmFires_pending (n : Nat) (s : State) : (wmFires n s).pending = s.pending :=
  (pending_of_apart (brkEvent_apart _ _)).trans rfl

/-! ### Commands that need nothing of the Juggler -/

section
variable {h : Hdr} {c : Cmd} {i : Instr} {s u : State} {f : State → State} {P : State → Prop}
  (hi : exec i s = row (submit h c) s) (hs : Starts h c s) (ha : awaitsData c = false)
  (hc : ∀ v, runCmd h c v = f v) (hf : ∀ v, holds (f v) = holds v)
include hi hs ha hc hf

/-- A command whose operation completes it. -/
theorem plain_ends {st : Status} {d : W64}
    (hr : f (toFlight (opcodeOf c) h s) = complete (opcodeOf c) h st d u)
    (hu : u.hq.inflight = (toFlight (opcodeOf c) h s).hq.inflight) (hP : P u) : Ends i (opcodeOf c) h st d s P := by
  have kept : holds u = holds s := by rw [← complete_holds (opcodeOf c) h st d u, ← hr, hf, toFlight_holds]
  exact starts_ends h c i s u _ st d P hi hs (by simp [ha]) ((hc _).trans hr) hu kept hP

/-- A command whose operation leaves it in flight. -/
theorem plain_goes_on (hk : ∀ p, c ≠ .frameSubmit p) (hw : ∀ p, c ≠ .waveformLoad p)
    (hr : f (toFlight (opcodeOf c) h s) = u) (hu : u.hq.inflight = (toFlight (opcodeOf c) h s).hq.inflight) (hP : P u) :
    GoesOn i (opcodeOf c) h s P := by
  have flies : isFlight h u = true ∨ h.src = .fw := by
    rw [isFlight_congr h hu]
    exact isFlight_toFlight _ h s
  have kept : holds u = holds s := by rw [← hr, hf, toFlight_holds]
  refine starts_goes_on h c i s u P hi hs ha ?_ ((hc _).trans hr) flies kept hP
  split
  next => exact hk _ rfl
  next => exact hw _ rfl
  next => trivial

end

/-- An exit cause changes nothing of the raster but itself and the extension in progress (R174). -/
theorem holdExit_scn (cause : Nat) (s : State) : (holdExit cause s).scn = { s.scn with
    exitCause := (holdExit cause s).scn.exitCause, extension := (holdExit cause s).scn.extension } := by
  unfold holdExit
  dsimp only
  split
  · rfl
  · split
    · split <;> rfl
    · rfl

/-- A time that its command uses is in the format of R8. -/
theorem badTime_eq_false {used : Bool} {t : Time96} (h : used = true → timeOk t = true) : badTime used t = false := by
  cases used with
  | false => rfl
  | true => simp [badTime, h rfl]

/-! ### COMMIT (R168) -/

/-- A COMMIT that waits for its window. -/
def commitWaits (c : CommitReq) (s : State) : State :=
  let u := holdExit 2 s
  { u with scn := { u.scn with commits := u.scn.commits ++ [c] } }

theorem commitWaits_scn (c : CommitReq) (s : State) : (commitWaits c s).scn.commits = s.scn.commits ++ [c] := by
  show (holdExit 2 s).scn.commits ++ [c] = _
  rw [holdExit_scn]

theorem commitWaits_hq (c : CommitReq) (s : State) : (commitWaits c s).hq = s.hq := holdExit_hq 2 s

theorem commitWaits_eq (c : CommitReq) (s : State) : commitWaits c s = { s with scn := (commitWaits c s).scn } :=
  congrArg (fun u : State => { u with scn := (commitWaits c s).scn }) (holdExit_eq 2 s)

section
variable {h : Hdr} {p : CommitP} {s : State}

theorem doCommit_badTime (at_ : bitOf p.flags 0 = true) (bad : timeOk p.target = false) :
    doCommit h p s = complete opCommit h .badParam 0 s := by
  unfold doCommit
  dsimp only
  rw [if_pos (by simp [badTime, at_, bad])]

/-- A COMMIT whose window has not begun waits for it. -/
theorem doCommit_waits (hr : p.rsvd = false) (hf : p.flags.toNat < 2)
    (ht : bitOf p.flags 0 = true → timeOk p.target = true)
    (early : bitOf p.flags 0 = true → s.scn.state = .stopped ∨ lastTb0 s < timeQ p.target) :
    doCommit h p s = commitWaits ⟨h, if bitOf p.flags 0 then some (timeQ p.target) else none, false⟩ s := by
  have inTime : (bitOf p.flags 0 && s.scn.state != .stopped && !s.scn.first &&
      decide (timeQ p.target ≤ lastTb0 s)) = false := by
    cases at_ : bitOf p.flags 0 with
    | false => rfl
    | true => rcases early at_ with stopped | ahead <;> simp [*]
  unfold doCommit
  dsimp only
  rw [if_neg (by simp [hr, hf, badTime_eq_false ht]), inTime]
  rfl

end

/-! ### LAYER_SET (R119, R122, R123) -/

@[simp] theorem toFlight_clr (op : Byte) (h : Hdr) (s : State) : (toFlight op h s).clr = s.clr :=
  toFlight_keeps State.clr op h s fun _ => rfl

theorem toFlight_surfaces (op : Byte) (h : Hdr) (s : State) : (toFlight op h s).hq.surfaces = s.hq.surfaces := by
  unfold toFlight
  split <;> rfl

@[simp] theorem handleIndex_toFlight (op : Byte) (h : Hdr) (s : State) (k : Nat) :
    handleIndex (toFlight op h s) k = handleIndex s k := by
  rw [handleIndex, toFlight_surfaces, handleIndex]

@[simp] theorem layerSurf_toFlight (op : Byte) (h : Hdr) (s : State) (i : Nat) :
    layerSurf (toFlight op h s) i = layerSurf s i := by
  have bytes (a n : Nat) : dramBytes (toFlight op h s) a n = dramBytes s a n :=
    toFlight_keeps (dramBytes · a n) op h s fun _ => rfl
  simp only [layerSurf, surfaceOf, toFlight_surfaces, bytes]

/-- A LAYER_SET that waits for the next commit window. -/
def layerWaits (l : LayerReq) (s : State) : State :=
  holdExit 2 { s with clr := { s.clr with layers := s.clr.layers ++ [l] } }

theorem layerWaits_clr (l : LayerReq) (s : State) :
    (layerWaits l s).clr = { s.clr with layers := s.clr.layers ++ [l] } :=
  (congrArg State.clr (holdExit_eq _ _) :)

theorem layerWaits_hq (l : LayerReq) (s : State) : (layerWaits l s).hq = s.hq := holdExit_hq 2 _

theorem layerWaits_eq (l : LayerReq) (s : State) :
    layerWaits l s = { s with clr := (layerWaits l s).clr, scn := (layerWaits l s).scn } := by
  rw [layerWaits_clr]
  exact holdExit_eq _ _

/-- The first LAYER_SET that waits for its slot replaces none. -/
theorem layerAccept_first (h : Hdr) (n : Nat) (release : Bool) (o : Option OvlShow) (s : State)
    (first : ∀ l ∈ s.clr.layers, l.slot ≠ n) : layerAccept h n release o s = layerWaits ⟨h, n, release, o⟩ s := by
  have none_ : (s.clr.layers.filter fun l => l.slot == n) = [] := List.filter_eq_nil_iff.2 (by simpa using first)
  have all : (s.clr.layers.filter fun l => l.slot != n) = s.clr.layers := List.filter_eq_self.2 (by simpa using first)
  unfold layerAccept
  rw [none_]
  dsimp only [List.foldl_nil]
  rw [all]
  rfl

section
variable {h : Hdr} {p : LayerSetP} {s : State}

theorem doLayerSet_noSlot (hn : 8 ≤ p.slot.toNat) : doLayerSet h p s = complete opLayerSet h .badParam 0 s := by
  unfold doLayerSet
  dsimp only
  rw [if_pos (by simp [hn])]

theorem doLayerSet_unknown (show_ : bitOf p.flags 0 = true) (keep : bitOf p.flags 1 = false)
    (unknown : handleIndex s p.surface.toNat = none) : doLayerSet h p s = complete opLayerSet h .badParam 0 s := by
  unfold doLayerSet
  dsimp only
  rw [unknown, keep, show_]
  simp

variable (hr : p.rsvd = false) (hf : p.flags.toNat < 4) (hn : p.slot.toNat < 8)
include hr hf hn

theorem doLayerSet_releases (release : bitOf p.flags 1 = true) :
    doLayerSet h p s = layerAccept h p.slot.toNat true none s := by
  unfold doLayerSet
  dsimp only
  rw [if_neg (by simp [hr, hf, hn]), if_pos release]

variable (keep : bitOf p.flags 1 = false)
include keep

theorem doLayerSet_disables (off : bitOf p.flags 0 = false) :
    doLayerSet h p s = layerAccept h p.slot.toNat false none s := by
  unfold doLayerSet
  dsimp only
  rw [if_neg (by simp [hr, hf, hn]), if_neg (by simp [keep]), if_pos (by simp [off])]

/-- With its parameters in range, the surface's header decides. -/
theorem doLayerSet_shows (show_ : bitOf p.flags 0 = true) (low : -1024 ≤ sext 16 p.disparity.toNat)
    (high : sext 16 p.disparity.toNat ≤ 1024) {i : Nat} (known : handleIndex s p.surface.toNat = some i) {hd : SurfHdr}
    {e : Option Failure} (surf : layerSurf s i = some (hd, e)) :
    doLayerSet h p s = e.elim
      (layerAccept h p.slot.toNat false (some ⟨p.slot.toNat, sext 16 p.disparity.toNat, sext 16 p.posX.toNat,
        sext 16 p.posY.toNat, hd, some i⟩) s)
      fun failed => complete opLayerSet h failed.1 failed.2 s := by
  unfold doLayerSet
  dsimp only
  rw [if_neg (by simp [hr, hf, hn]), if_neg (by simp [keep]), if_neg (by simp [show_]),
    if_neg (by simp [low, high]), known]
  dsimp only
  rw [surf]
  cases e <;> rfl

end

/-! ### TIMING_SET (R177) -/

/-- A state but for the Carousel. -/
def besideCrsl (s : State) : State := { s with crsl := {} }

/-- Every region of a grid taken out of use changes the Carousel alone. -/
theorem regionsIdle_eq (t : Timing) (s : State) : regionsIdle t s = { s with crsl := (regionsIdle t s).crsl } := by
  have kept : besideCrsl (regionsIdle t s) = besideCrsl s := eachNat_keeps _ _ _ _ fun _ _ => rfl
  exact (congrArg (fun u : State => { u with crsl := (regionsIdle t s).crsl }) kept :)

/-- A timing recorded: the raster's, and what the Carousel follows of it. -/
theorem timingRecord_eq (t : Timing) (s : State) :
    timingRecord t s = { s with scn := { s.scn with timing := some t }, crsl := (timingRecord t s).crsl } := by
  unfold timingRecord
  dsimp only
  split
  · rfl
  · exact regionsIdle_eq t _

/-- The timing recorded while the raster stands, with the exit cause that an accepted command is. -/
def timingStands (t : Timing) (s : State) : State := holdExit 2 (timingRecord t s)

theorem timingStands_timing (t : Timing) (s : State) : (timingStands t s).scn.timing = some t := by
  rw [timingStands, holdExit_scn, timingRecord_eq]

theorem timingStands_hq (t : Timing) (s : State) : (timingStands t s).hq = s.hq := by
  rw [timingStands, holdExit_hq, timingRecord_eq]

theorem timingStands_eq (t : Timing) (s : State) :
    timingStands t s = { s with scn := (timingStands t s).scn, crsl := (timingStands t s).crsl } := by
  have crsl : (timingStands t s).crsl = (timingRecord t s).crsl := (congrArg State.crsl (holdExit_eq _ _) :)
  rw [crsl]
  exact (holdExit_eq _ _).trans
    (congrArg (fun u : State => { u with scn := (timingStands t s).scn }) (timingRecord_eq t s))

/-- A change of timing that waits for its time. -/
def timingPends (j : TimingJob) (s : State) : State :=
  let u := holdExit 2 s
  { u with scn := { u.scn with jobs := u.scn.jobs ++ [j] } }

theorem timingPends_jobs (j : TimingJob) (s : State) : (timingPends j s).scn.jobs = s.scn.jobs ++ [j] := by
  show (holdExit 2 s).scn.jobs ++ [j] = _
  rw [holdExit_scn]

theorem timingPends_hq (j : TimingJob) (s : State) : (timingPends j s).hq = s.hq := holdExit_hq 2 s

theorem timingPends_eq (j : TimingJob) (s : State) : timingPends j s = { s with scn := (timingPends j s).scn } :=
  congrArg (fun u : State => { u with scn := (timingPends j s).scn }) (holdExit_eq 2 s)

/-- A seamless change begins no retime. -/
theorem timingAccept_seamless {j : TimingJob} (s : State) (h : j.seamless = true) :
    timingAccept j (holdExit 2 s) = timingPends j s := by
  unfold timingAccept
  rw [h]
  rfl

/-- The parameters of a TIMING_SET are in range (R31, R163, R176). -/
structure TimingInRange (p : TimingSetP) (s : State) : Prop where
  rsvd : p.rsvd = false
  flags : p.flags.toNat < 2
  timing : timingOk s.th.restricted (timingOf p) = true
  time : bitOf p.flags 0 = true → timeOk p.target = true

/-- With its parameters in range, the player, the timing in force and the raster decide. -/
theorem doTimingSet_inRange {h : Hdr} {p : TimingSetP} {s : State} (hp : TimingInRange p s) : doTimingSet h p s =
    if s.scene.player.state != .idle then complete opTimingSet h .busy 0 s
    else if curTiming s = some (timingOf p) then complete opTimingSet h .ok 0 s
    else if s.scn.state == .stopped then complete opTimingSet h .ok 0 (timingStands (timingOf p) s)
    else timingAccept ⟨h, timingOf p, if bitOf p.flags 0 then some (timeQ p.target) else none,
      timingSeamless s (timingOf p), false⟩ (holdExit 2 s) := by
  obtain ⟨rsvd, flags, timing, time⟩ := hp
  unfold doTimingSet
  dsimp only
  rw [if_neg (by simp [rsvd, flags, timing, badTime_eq_false time])]
  rfl

end Sys2Proof.Machine
end

section
/-! Watermarks fire (R181, R290). -/

namespace Sys2Proof

open Machine

/-- Settles O27: by the state of the raster and whether the watermark's point has come. -/
theorem watermarkFires : Obligations.WatermarkFires := by
  intro n t s hn hq ht en inside once
  have due := watermarkFire_due ht en inside once
  have present : exec (.watermarkFire n) s = unitRow true (watermarkFire n) s := by
    show unitRow (decide (n < 8)) (watermarkFire n) s = _
    rw [decide_eq_true hn]
  rw [present]
  refine ⟨fun run reached alone => ?fires, fun run early => ?early, fun aborted ahead => ?misses⟩
  case fires =>
    rw [if_neg (by simp [run]), if_neg (by simp [run, reached]), if_neg (by simp [alone])] at due
    exact unitRow_exact hq due (brkEvent_holds _ _) (wmFires_pending n s)
  case early =>
    rw [if_neg (by simp [run]), if_pos (by simp [early])] at due
    exact unitRow_exact hq due rfl rfl
  case misses =>
    rw [if_pos (by simp [aborted]), if_neg (by omega)] at due
    exact unitRow_exact hq due rfl rfl

end Sys2Proof
end

section
/-! COMMIT and LAYER_SET wait for their windows (R119, R122, R123, R168). -/

namespace Sys2Proof

open Machine

/-! ### COMMIT (R168) -/

section
variable {h : Hdr} {p : CommitP} {s : State} (hs : Starts h (.commit p) s)
include hs

/-- A COMMIT whose window has not begun applies nothing before it. -/
theorem commit_waits (hr : p.rsvd = false) (hf : p.flags.toNat < 2)
    (ht : bitOf p.flags 0 = true → timeOk p.target = true)
    (early : bitOf p.flags 0 = true → s.scn.state = .stopped ∨ lastTb0 s < timeQ p.target) :
    GoesOn (.commit h p) 0x31 h s fun u =>
      u.scn.commits = s.scn.commits ++ [⟨h, if bitOf p.flags 0 then some (timeQ p.target) else none, false⟩] ∧
      u = { toFlight 0x31 h s with scn := u.scn } := by
  have last : lastTb0 (toFlight 0x31 h s) = lastTb0 s := toFlight_keeps lastTb0 _ h s fun _ => rfl
  have waits := doCommit_waits (h := h) (s := toFlight 0x31 h s) hr hf ht (by rw [toFlight_scn, last]; exact early)
  have same := commitWaits_eq ⟨h, if bitOf p.flags 0 then some (timeQ p.target) else none, false⟩ (toFlight 0x31 h s)
  refine plain_goes_on (c := .commit p) (f := doCommit h p) rfl hs rfl (fun _ => rfl) (doCommit_holds h p) (by simp)
    (by simp) waits ?_ ⟨?_, same⟩
  · rw [commitWaits_hq]; rfl
  · rw [commitWaits_scn, toFlight_scn]

theorem commit_badTime (at_ : bitOf p.flags 0 = true) (bad : timeOk p.target = false) :
    Ends (.commit h p) 0x31 h .badParam 0 s fun u => u = toFlight 0x31 h s :=
  plain_ends (f := doCommit h p) rfl hs rfl (fun _ => rfl) (doCommit_holds h p) (doCommit_badTime at_ bad) rfl rfl

end

/-! ### LAYER_SET (R119, R122, R123) -/

section
variable {h : Hdr} {p : LayerSetP} {s : State} (hs : Starts h (.layerSet p) s)
include hs

/-- A LAYER_SET that its operation ends. -/
theorem layerSet_refused {st : Status} {d : W64}
    (refused : doLayerSet h p (toFlight 0x30 h s) = complete 0x30 h st d (toFlight 0x30 h s)) :
    Ends (.layerSet h p) 0x30 h st d s fun u => u = toFlight 0x30 h s :=
  served_refused rfl hs rfl rfl (fun _ => rfl) (doLayerSet_holds h p) refused

/-- A LAYER_SET that is accepted as the first for its slot waits, and changes nothing else. -/
theorem layerSet_waits {release : Bool} {o : Option OvlShow} (first : ∀ l ∈ s.clr.layers, l.slot ≠ p.slot.toNat)
    (accepts : doLayerSet h p (toFlight 0x30 h s) = layerAccept h p.slot.toNat release o (toFlight 0x30 h s)) :
    GoesOn (.layerSet h p) 0x30 h s fun u =>
      u.clr = { s.clr with layers := s.clr.layers ++ [⟨h, p.slot.toNat, release, o⟩] } ∧
      u = { toFlight 0x30 h s with clr := u.clr, scn := u.scn } := by
  have waits := accepts.trans (layerAccept_first h p.slot.toNat release o _ (by simpa using first))
  have same := layerWaits_eq ⟨h, p.slot.toNat, release, o⟩ (toFlight 0x30 h s)
  refine served_goes_on rfl hs rfl rfl (fun _ => rfl) (doLayerSet_holds h p) (by simp) (by simp) waits ?_ ⟨?_, same⟩
  · rw [layerWaits_hq]; rfl
  · rw [layerWaits_clr, toFlight_clr]

end

/-- Settles O20: a COMMIT by its time, a LAYER_SET by its slot, its flags and the surface it names. -/
theorem commitsAndLayersWait : Obligations.CommitsAndLayersWait := by
  refine ⟨fun h p s hs hr hf => ⟨fun once => ?commit, fun at_ ht early => ?commitAt, commit_badTime hs⟩,
    fun h p s hs hr hf => ⟨fun hn => layerSet_refused hs (doLayerSet_noSlot hn), fun hn first => ?layers,
      fun keep show_ unknown => layerSet_refused hs (doLayerSet_unknown show_ keep (by simpa using unknown))⟩⟩
  case commit =>
    have waits := commit_waits hs hr hf (by simp [once]) (by simp [once])
    rwa [if_neg (by simp [once])] at waits
  case commitAt =>
    have waits := commit_waits hs hr hf (fun _ => ht) fun _ => early
    rwa [if_pos at_] at waits
  case layers =>
    refine ⟨fun release => layerSet_waits hs first (doLayerSet_releases hr hf hn release),
      fun keep off => layerSet_waits hs first (doLayerSet_disables hr hf hn keep off),
      fun keep show_ low high i hd known sound => layerSet_waits hs first
        (doLayerSet_shows (e := none) hr hf hn keep show_ low high (by simpa using known) (by simpa using sound)),
      fun keep show_ low high i hd st d known fails => layerSet_refused hs
        (doLayerSet_shows (e := some (st, d)) hr hf hn keep show_ low high (by simpa using known) (by simpa using fails))⟩

end Sys2Proof
end

section
/-! TIMING_SET within range (R177). -/

namespace Sys2Proof

open Machine

section
variable {h : Hdr} {p : TimingSetP} {s : State} (hs : Starts h (.timingSet p) s) (hp : TimingInRange p s)

include hp in
/-- What the command's operation does as it starts. -/
theorem timingSet_run : doTimingSet h p (toFlight 0x38 h s) =
    if s.scene.player.state != .idle then complete opTimingSet h .busy 0 (toFlight 0x38 h s)
    else if curTiming s = some (timingOf p) then complete opTimingSet h .ok 0 (toFlight 0x38 h s)
    else if s.scn.state == .stopped then complete opTimingSet h .ok 0 (timingStands (timingOf p) (toFlight 0x38 h s))
    else timingAccept ⟨h, timingOf p, if bitOf p.flags 0 then some (timeQ p.target) else none,
      timingSeamless s (timingOf p), false⟩ (holdExit 2 (toFlight 0x38 h s)) := by
  have th : (toFlight 0x38 h s).th = s.th := toFlight_keeps State.th _ h s fun _ => rfl
  have timing : curTiming (toFlight 0x38 h s) = curTiming s := toFlight_keeps curTiming _ h s fun _ => rfl
  have seamless : timingSeamless (toFlight 0x38 h s) (timingOf p) = timingSeamless s (timingOf p) := by
    rw [timingSeamless, timing, timingSeamless]
  rw [doTimingSet_inRange { hp with timing := th ▸ hp.timing }, toFlight_scene, toFlight_scn, timing, seamless]

include hs hp

theorem timingSet_busy (plays : s.scene.player.state ≠ .idle) :
    Ends (.timingSet h p) 0x38 h .busy 0 s fun u => u = toFlight 0x38 h s :=
  plain_ends (f := doTimingSet h p) rfl hs rfl (fun _ => rfl) (doTimingSet_holds h p)
    ((timingSet_run hp).trans (if_pos (by simp [plays]))) rfl rfl

variable (idle : s.scene.player.state = .idle)
include idle

theorem timingSet_same (same : curTiming s = some (timingOf p)) :
    Ends (.timingSet h p) 0x38 h .ok 0 s fun u => u = toFlight 0x38 h s :=
  plain_ends (f := doTimingSet h p) rfl hs rfl (fun _ => rfl) (doTimingSet_holds h p)
    ((timingSet_run hp).trans (by rw [if_neg (by simp [idle]), if_pos same]; rfl)) rfl rfl

variable (change : curTiming s ≠ some (timingOf p))
include change

theorem timingSet_recorded (stopped : s.scn.state = .stopped) :
    Ends (.timingSet h p) 0x38 h .ok 0 s fun u =>
      u.scn.timing = some (timingOf p) ∧ u = { toFlight 0x38 h s with scn := u.scn, crsl := u.crsl } := by
  have same := timingStands_eq (timingOf p) (toFlight 0x38 h s)
  refine plain_ends (f := doTimingSet h p) rfl hs rfl (fun _ => rfl) (doTimingSet_holds h p)
    ((timingSet_run hp).trans ?_) ?_ ⟨timingStands_timing _ _, same⟩
  · rw [if_neg (by simp [idle]), if_neg change, if_pos (by simp [stopped])]
    rfl
  · rw [timingStands_hq]; rfl

theorem timingSet_pends (runs : s.scn.state ≠ .stopped) (seamless : timingSeamless s (timingOf p) = true) :
    GoesOn (.timingSet h p) 0x38 h s fun u =>
      u.scn.jobs = s.scn.jobs ++
        [⟨h, timingOf p, if bitOf p.flags 0 then some (timeQ p.target) else none, true, false⟩] ∧
      u = { toFlight 0x38 h s with scn := u.scn } := by
  have same := timingPends_eq ⟨h, timingOf p, if bitOf p.flags 0 then some (timeQ p.target) else none, true, false⟩
    (toFlight 0x38 h s)
  refine plain_goes_on (c := .timingSet p) (f := doTimingSet h p) rfl hs rfl (fun _ => rfl) (doTimingSet_holds h p)
    (by simp) (by simp) ((timingSet_run hp).trans ?_) ?_ ⟨?_, same⟩
  · rw [if_neg (by simp [idle]), if_neg change, if_neg (by simp [runs]), seamless]
    exact timingAccept_seamless _ rfl
  · rw [timingPends_hq]; rfl
  · rw [timingPends_jobs, toFlight_scn]

end

/-- Settles O22: by the player, the timing in force, and the raster. -/
theorem timingIsSet : Obligations.TimingIsSet :=
  fun _ _ _ hs rsvd flags timing time =>
    have hp : TimingInRange _ _ := ⟨rsvd, flags, timing, time⟩
    ⟨timingSet_busy hs hp, timingSet_same hs hp, timingSet_recorded hs hp, timingSet_pends hs hp⟩

end Sys2Proof
end

section
/-! SUPPORT. What the operations of a tick leave alone: the raster and panel power. One lemma per operation that changes
neither. -/

namespace Sys2Proof.Machine

/-- The raster and panel power. -/
def panel (s : State) : Scn × Pwr := (s.scn, s.pwr)

theorem panel_eq_iff {s t : State} : panel s = panel t ↔ s.scn = t.scn ∧ s.pwr = t.pwr := by simp [panel]

theorem scn_of_panel {s t : State} (h : panel s = panel t) : s.scn = t.scn := (panel_eq_iff.1 h).1
theorem pwr_of_panel {s t : State} (h : panel s = panel t) : s.pwr = t.pwr := (panel_eq_iff.1 h).2

/-- What neither the delivery of an entry, a log entry nor a Barker event changes. -/
theorem panel_of_apart {s t : State} (h : apart s = apart t) : panel s = panel t :=
  panel_eq_iff.2 ⟨(congrArg State.scn h :), (congrArg State.pwr h :)⟩

@[simp] theorem withCrsl_panel (s : State) (c : Crsl) : panel { s with crsl := c } = panel s := rfl

/-! ### Events, completions and units -/

@[simp] theorem log_panel (name : LogName) (args : List Nat) (s : State) : panel (log name args s) = panel s :=
  panel_of_apart (log_apart name args s)
@[simp] theorem brkEvent_panel (n : Nat) (s : State) : panel (brkEvent n s) = panel s :=
  panel_of_apart (brkEvent_apart n s)
@[simp] theorem complete_panel (op : Byte) (h : Hdr) (st : Status) (d : W64) (s : State) :
    panel (complete op h st d s) = panel s := (panel_of_apart (complete_apart op h st d s)).trans rfl
@[simp] theorem fin_panel (h : Hdr) (st : Status) (d : W64) (s : State) : panel (fin h st d s) = panel s :=
  complete_panel _ _ _ _ _
@[simp] theorem meshSendFrame_panel (p cls kind : Nat) (words : List Nat) (bytes : List Byte) (s : State) :
    panel (meshSendFrame p cls kind words bytes s) = panel s := panel_of_apart (meshSendFrame_apart p cls kind words bytes s)
@[simp] theorem unitTo_panel (cls idx : Nat) (st : UState) (cause : Nat) (s : State) :
    panel (unitTo cls idx st cause s) = panel s :=
  (brkEvent_panel _ _).trans ((panel_of_apart (logFrom_apart _ _ _ _)).trans rfl)
@[simp] theorem unitReq_panel (cls idx : Nat) (lasting : Bool) (s : State) : panel (unitReq cls idx lasting s) = panel s := by
  unfold unitReq
  split
  · rfl
  · exact (panel_of_apart (brkLevel_apart _ _ _)).trans rfl
@[simp] theorem unitTransient_panel (cls idx : Nat) (s : State) : panel (unitTransient cls idx s) = panel s := by
  unfold unitTransient; split <;> simp
@[simp] theorem unitLasting_panel (cls idx : Nat) (s : State) : panel (unitLasting cls idx s) = panel s := by
  unfold unitLasting; split <;> simp
@[simp] theorem unitSetsDone_panel (st : Status) (cls idx : Nat) (s : State) : panel (unitSetsDone st cls idx s) = panel s :=
  (foldl_keeps panel _ _ _ fun _ _ => fin_panel _ _ _ _).trans rfl
@[simp] theorem unitPair_panel (cls a b : Nat) (s : State) : panel (unitPair cls a b s) = panel s := rfl
@[simp] theorem commitMap_panel (ok : Bool) (s : State) : panel (commitMap ok s) = panel s := by
  unfold commitMap
  split
  · rfl
  · exact (log_panel _ _ _).trans rfl

/-! ### DRAM, the scratchpad and the clock -/

@[simp] theorem trnAccess_panel (target m : Nat) (p : Perm) (addr len : Nat) (s : State) :
    panel (trnAccess target m p addr len s).2 = panel s := by
  unfold trnAccess
  split
  · rfl
  · unfold trnNote
    dsimp only
    split
    · exact (log_panel _ _ _).trans rfl
    · split
      · rfl
      · exact (log_panel _ _ _).trans rfl
@[simp] theorem dramRange_panel (port addr : Nat) (s : State) : panel (dramRange port addr s) = panel s := by
  unfold dramRange
  dsimp only
  split
  · exact (log_panel _ _ _).trans rfl
  · rfl
@[simp] theorem dramNote_panel (port addr len : Nat) (s : State) : panel (dramNote port addr len s) = panel s := by
  unfold dramNote; split <;> simp
@[simp] theorem dramStore_panel (port addr : Nat) (bs : List Byte) (s : State) :
    panel (dramStore port addr bs s) = panel s := by
  unfold dramStore
  split
  · rfl
  · split
    · simp
    · rfl
/-- Data of a regulated port leaves alone what its move leaves alone. -/
theorem regBulk_panel (p k : Nat) (f : State → State) (s : State) (h : ∀ u, panel (f u) = panel u) :
    panel (regBulk p k f s) = panel s := by
  unfold regBulk
  split
  · exact h s
  · split
    · exact (h _).trans rfl
    · rfl
/-- A word of the scratchpad that fails its error check. -/
theorem bankLasting_panel (b word : Nat) (s : State) : panel (bankEcc b word .lasting s) = panel s :=
  (unitLasting_panel _ _ _).trans ((log_panel _ _ _).trans rfl)
@[simp] theorem bankOffAccess_panel (b : Nat) (s : State) : panel (bankOffAccess b s) = panel s := by
  unfold bankOffAccess
  dsimp only
  split
  · rfl
  · exact (log_panel _ _ _).trans rfl
@[simp] theorem bankLay_panel (l off n : Nat) (src : Mem) (a : Nat) (s : State) :
    panel (bankLay l off n src a s) = panel s := by
  unfold bankLay
  dsimp only
  split
  · simp
  · split <;> rfl
@[simp] theorem waveReload_panel (n : Nat) (s : State) : panel (waveReload n s) = panel s :=
  eachNat_keeps panel _ _ s fun _ _ => bankLay_panel _ _ _ _ _ _
@[simp] theorem refillAll_panel (k : Nat) (s : State) : panel (refillAll k s) = panel s := by
  have refilled (l : List Nat) : panel (l.foldl (fun s p => modReg p (regRefills k) s) s) = panel s :=
    foldl_keeps _ _ _ _ fun _ _ => rfl
  unfold refillAll
  exact ite_keeps panel rfl (ite_keeps panel (Eq.trans (by rfl) (refilled _)) (refilled _))
@[simp] theorem clockTo_panel (tb2 : Int) (s : State) : panel (clockTo tb2 s) = panel s := by
  have run (n : Nat) (u : State) : panel (clockRun n u) = panel u := by
    have drained (k : Nat) (u : State) : panel (logDrainN k u) = panel u := panel_of_apart (logDrainN_apart k u)
    unfold clockRun
    dsimp only
    split
    · rw [refillAll_panel, drained]; rfl
    · show panel (refillAll _ _) = _
      rw [refillAll_panel, drained]; rfl
  unfold clockTo
  dsimp only
  split
  · rfl
  · exact run _ _

/-! ### Surfaces, halos and frames -/

@[simp] theorem modFrame_panel (id : Nat) (f : Frame → Frame) (s : State) : panel (modFrame id f s) = panel s := rfl
@[simp] theorem modPlayer_panel (f : Player → Player) (s : State) : panel (modPlayer f s) = panel s := rfl
@[simp] theorem addFrame_panel (f : Frame) (s : State) : panel (addFrame f s) = panel s := rfl
@[simp] theorem pfRecord_panel (o row cost rowMax : Nat) (s : State) : panel (pfRecord o row cost rowMax s) = panel s := rfl
@[simp] theorem surfaceSettle_panel (i : Nat) (s : State) : panel (surfaceSettle i s) = panel s := by
  unfold surfaceSettle
  dsimp only
  split
  · rfl
  · split
    · rfl
    · split
      · exact (complete_panel _ _ _ _ _).trans rfl
      · rfl
@[simp] theorem surfacesSettle_panel (s : State) : panel (surfacesSettle s) = panel s :=
  eachNat_keeps _ _ _ _ surfaceSettle_panel
@[simp] theorem retireFrame_panel (f : Frame) (s : State) : panel (retireFrame f s) = panel s :=
  (surfacesSettle_panel _).trans rfl
@[simp] theorem haloCancel_panel (f : Frame) (s : State) : panel (haloCancel f s) = panel s :=
  eachNat_keeps panel _ _ s fun _ _ => ite_keeps panel (meshSendFrame_panel _ _ _ _ _ _) rfl
@[simp] theorem sceneReport_panel (slot n : Nat) (st : Status) (s : State) : panel (sceneReport slot n st s) = panel s := by
  unfold sceneReport; split <;> simp
@[simp] theorem frameReport_panel (f : Frame) (st : Status) (d : W64) (s : State) : panel (frameReport f st d s) = panel s := by
  unfold frameReport; split <;> simp
@[simp] theorem refuseFrame_panel (f : Frame) (st : Status) (d : W64) (s : State) : panel (refuseFrame f st d s) = panel s := by
  unfold refuseFrame
  extract_lets s1 s2
  have cancelled : panel s1 = panel s := ite_keeps panel rfl (haloCancel_panel f s)
  rw [frameReport_panel, retireFrame_panel, ← cancelled]
  simp only [s2]
  split <;> simp
@[simp] theorem frameShown_panel (f : Frame) (s : State) : panel (frameShown f s) = panel s := by
  unfold frameShown
  extract_lets s1 s2
  have left : panel s2 = panel s := by
    simp only [s2, s1, modFrame_panel]
    split <;> simp
  rw [← left]
  split
  · split <;> simp
  · exact ite_keeps panel (log_panel _ _ _) rfl
@[simp] theorem framesTick_panel (complete_ hold : Bool) (s : State) : panel (framesTick complete_ hold s) = panel s := by
  unfold framesTick
  extract_lets s1 s2
  have scanned : panel s1 = panel s := by
    simp only [s1]
    split
    · split <;> simp
    · rfl
  have decided : panel s2 = panel s := by
    rw [← scanned]
    simp only [s2]
    split
    · simp [pfRefuse]
    · rfl
  rw [← decided]
  split
  · rfl
  · split <;> simp
@[simp] theorem abortFrames_panel (p : Frame → Bool) (s : State) : panel (abortFrames p s) = panel s := by
  refine Eq.trans (b := panel (List.foldl _ s _)) rfl (foldl_keeps panel _ _ s fun u f => ?_)
  split <;> simp
@[simp] theorem framesDrain_panel (s : State) : panel (framesDrain s) = panel s := (abortFrames_panel _ _).trans rfl
@[simp] theorem framesResume_panel (s : State) : panel (framesResume s) = panel s := rfl
@[simp] theorem showingOut_panel (s : State) : panel (showingOut s) = panel s := by
  unfold showingOut; split <;> simp
@[simp] theorem haloExpire_panel (s : State) : panel (haloExpire s) = panel s := foldl_keeps _ _ _ _ fun _ _ => rfl
@[simp] theorem haloRecheck_panel (f : Frame) (s : State) : panel (haloRecheck f s) = panel s := by
  have noted (l : List Nat) (u : State) : panel (eachNat (fun _ => haloBad true) l u) = panel u :=
    eachNat_keeps _ _ _ _ fun _ _ => rfl
  exact (noted _ _).trans rfl
@[simp] theorem haloPoison_panel (port plane : Nat) (f : Frame) (d : PlaneDesc) (bad : List (Nat × Nat)) (s : State) :
    panel (haloPoison port plane f d bad s) = panel s := by
  refine foldl_keeps panel _ _ s fun u x => ?_
  extract_lets s1
  have logged : panel s1 = panel u := (log_panel _ _ _).trans rfl
  rw [← logged]
  split <;> simp
@[simp] theorem sendFragments_panel (port : Nat) (target : Int) (plane edge flags dim : Nat) (stream : List Byte) (n off : Nat)
    (s : State) : panel (sendFragments port target plane edge flags dim stream n off s) = panel s := by
  induction n generalizing off s with
  | zero => rfl
  | succ n ih =>
    unfold sendFragments
    extract_lets dat last fl s1
    have sent : panel s1 = panel s := by
      refine regBulk_panel _ _ _ _ fun u => ?_
      have access := trnAccess_panel 0 24 .w (haloSendBuf port) dat.length u
      split
      next e => rw [e] at access; exact access
      next e => rw [e] at access; simpa using access
    split
    · exact sent
    · rw [ih, sent]
@[simp] theorem sendPlanes_panel (port edge used : Nat) (f : Frame) (i : Nat) (l : List PlaneDesc) (s : State) :
    panel (sendPlanes port edge used f i l s) = panel s := by
  induction l generalizing i s used with
  | nil => rfl
  | cons d rest ih =>
    unfold sendPlanes
    generalize sentStream s f i edge d = x
    obtain ⟨stream, bad⟩ := x
    have count (u : State) : panel (log .trzHaloTrunc [port, edge, i]
        { u with trz := { u.trz with haloTrunc := satAdd 32 u.trz.haloTrunc 1 } }) = panel u := (log_panel _ _ _).trans rfl
    dsimp only
    split
    · exact ite_keeps panel (by rw [count, haloPoison_panel]) (haloPoison_panel _ _ _ _ _ _)
    · exact ite_keeps panel (by rw [count, sendFragments_panel, haloPoison_panel])
        (by rw [ih, sendFragments_panel, haloPoison_panel])
@[simp] theorem sendStrips_panel (edges : List Nat) (f : Frame) (s : State) : panel (sendStrips edges f s) = panel s :=
  eachNat_keeps panel _ _ s fun _ _ => ite_keeps panel (sendPlanes_panel _ _ _ _ _ _ _) rfl
@[simp] theorem startPreflight_panel (f : Frame) (tb2 : Int) (s : State) : panel (startPreflight f tb2 s) = panel s := by
  unfold startPreflight
  extract_lets g s1
  have ready : panel s1 = panel s := by simp [s1]
  exact (sendStrips_panel _ _ _).trans ready
@[simp] theorem publishPf_panel (s : State) : panel (publishPf s) = panel s := by
  unfold publishPf; split <;> rfl

/-! ### The player -/

@[simp] theorem selectFrame_panel (tk tb2 : Int) (s : State) : panel (selectFrame tk tb2 s) = panel s := by
  unfold selectFrame
  extract_lets p h count origin raw s0 past due s1 last s2 f
  split
  · rfl
  · split
    · rfl
    · have skipped : panel s2 = panel s := ite_keeps panel rfl rfl
      rw [← skipped]
      split <;> simp
@[simp] theorem applySeek_panel (s : State) : panel (applySeek s) = panel s := by
  unfold applySeek; split <;> simp
@[simp] theorem stopDone_panel (h : Hdr) (s : State) : panel (stopDone h s) = panel s := complete_panel _ _ _ _ _
@[simp] theorem deviceClear_panel (by_ : ReqBy) (preempt : Bool) (s : State) : panel (deviceClear by_ preempt s) = panel s := by
  unfold deviceClear; split <;> rfl
@[simp] theorem stopOne_panel (frame : Bool) (s : State) (w : Hdr × Bool) : panel (stopOne frame s w) = panel s := by
  unfold stopOne
  split
  · simp
  · split
    · simp
    · split
      · simp
      · rw [stopDone_panel, showingOut_panel]; rfl
@[simp] theorem applyStops_panel (frame : Bool) (s : State) : panel (applyStops frame s) = panel s := by
  unfold applyStops
  extract_lets ws s1
  have ended : panel s1 = panel s := by
    simp only [s1]
    split <;> simp
  exact ite_keeps panel rfl ((foldl_keeps panel _ _ _ (stopOne_panel frame)).trans ended)
@[simp] theorem startStream_panel (tk tb2 : Int) (s : State) : panel (startStream tk tb2 s) = panel s := by
  unfold startStream
  split
  · rfl
  · exact (startPreflight_panel _ _ _).trans (foldl_keeps panel _ _ s fun _ _ => refuseFrame_panel _ _ _ _)

/-! ### The Carousel -/

@[simp] theorem setRegion_panel (r : Nat) (x : Region) (s : State) : panel (setRegion r x s) = panel s := rfl
@[simp] theorem modReq_panel (k : Nat) (f : RegionReq → RegionReq) (s : State) : panel (modReq k f s) = panel s := rfl
@[simp] theorem crslErr_panel (i : Nat) (s : State) : panel (crslErr i s) = panel s := rfl
@[simp] theorem tableFail_panel (f : Nat × Nat) (s : State) : panel (tableFail f s) = panel s := by
  unfold tableFail
  split
  · rfl
  · extract_lets c copies s0 s1
    have failed : panel s0 = panel s :=
      foldl_keeps panel _ _ s fun u n => ite_keeps panel rfl (bankLasting_panel _ _ _)
    have counted : panel s1 = panel s := ((log_panel _ _ _).trans rfl).trans failed
    exact ite_keeps panel (((log_panel _ _ _).trans (crslErr_panel 2 s1)).trans counted) counted
@[simp] theorem waveSwitch_panel (s : State) : panel (waveSwitch s) = panel s := by
  unfold waveSwitch
  split
  · split
    · rw [waveReload_panel]; rfl
    · rfl
  · exact (complete_panel _ _ _ _ _).trans rfl
@[simp] theorem waitReqs_panel (s : State) : panel (waitReqs s) = panel s := eachNat_keeps _ _ _ _ fun _ _ => rfl
@[simp] theorem regionEnd_panel (r : Nat) (x : Region) (s : State) : panel (regionEnd r x s) = panel s := by
  unfold regionEnd
  extract_lets dest s1
  split <;> rfl
@[simp] theorem advanceRegion_panel (r : Nat) (s : State) : panel (advanceRegion r s) = panel s := by
  unfold advanceRegion
  dsimp only
  split
  · rfl
  · split
    · exact regionEnd_panel _ _ _
    · split
      · exact regionEnd_panel _ _ _
      · rfl
@[simp] theorem discardRegion_panel (r : Nat) (s : State) : panel (discardRegion r s) = panel s := by
  unfold discardRegion
  extract_lets x
  split
  · rfl
  · split <;> simp
@[simp] theorem cutRegion_panel (r : Nat) (s : State) : panel (cutRegion r s) = panel s := ite_keeps panel rfl rfl
@[simp] theorem enqueueRegion_panel (k : Nat) (q : RegionReq) (r : Nat) (s : State) :
    panel (enqueueRegion k q r s) = panel s := by
  unfold enqueueRegion
  extract_lets x s1 s2
  have queued : panel s2 = panel s := by
    simp only [s2, s1, setRegion_panel]
    split
    · exact ite_keeps panel rfl rfl
    · rfl
  exact ite_keeps panel ((cutRegion_panel r s2).trans queued) queued
@[simp] theorem enterReq_panel (k : Nat) (s : State) : panel (enterReq k s) = panel s := by
  unfold enterReq
  split
  · rfl
  · exact eachNat_keeps panel _ _ _ (enqueueRegion_panel k _)
@[simp] theorem evalBands_panel (s : State) : panel (evalBands s).1 = panel s := by
  unfold evalBands
  exact withCrsl_panel _ _
@[simp] theorem retargetRegion_panel (frame : Bool) (r : Nat) (s : State) : panel (retargetRegion frame r s) = panel s := by
  unfold retargetRegion
  extract_lets x applies s1
  refine ite_keeps panel rfl ?_
  rw [setRegion_panel]
  simp only [s1]
  split
  · exact ite_keeps panel rfl rfl
  · rfl
@[simp] theorem startRegion_panel (r : Nat) (s : State) : panel (startRegion r s) = panel s := by
  unfold startRegion
  extract_lets x
  split
  · rfl
  · exact ite_keeps panel rfl rfl
@[simp] theorem criticalCut_panel (zones : List Nat) (s : State) : panel (criticalCut zones s) = panel s := by
  unfold criticalCut
  refine ite_keeps panel rfl ?_
  have cut : panel (eachNat cutRegion (curRegions s) s) = panel s := eachNat_keeps panel _ _ s cutRegion_panel
  refine (eachNat_keeps panel _ _ _ fun _ _ => log_panel _ _ _).trans ?_
  rw [crslErr_panel, withCrsl_panel, cut]
@[simp] theorem reqClose_panel (k : Nat) (s : State) : panel (reqClose k s) = panel s := by
  unfold reqClose
  split
  · rfl
  · refine ite_keeps panel rfl ?_
    dsimp only
    split <;> simp
@[simp] theorem reqCloseAll_panel (s : State) : panel (reqCloseAll s) = panel s := eachNat_keeps _ _ _ _ reqClose_panel
@[simp] theorem regionsIdle_panel (t : Timing) (s : State) : panel (regionsIdle t s) = panel s :=
  eachNat_keeps panel _ _ s fun _ _ => rfl
@[simp] theorem crslDisable_panel (s : State) : panel (crslDisable s) = panel s := by
  unfold crslDisable
  extract_lets abort1 s1
  have aborted (u : State) (c : Nat × Region) : panel (setRegion c.1 (outsideEnds c.2) (abort1 u c)) = panel u := by
    simp only [abort1, setRegion_panel]
    (repeat' split) <;> rfl
  have entered : panel s1 = panel s := eachNat_keeps panel _ _ s enterReq_panel
  have outside : panel (s1.crsl.regions.foldl (fun s c => setRegion c.1 (outsideEnds c.2) (abort1 s c))
      { s1 with crsl := { s1.crsl with newReqs := [] } }) = panel s := by
    rw [foldl_keeps panel _ _ _ aborted, withCrsl_panel, entered]
  rw [reqCloseAll_panel, ← outside]
  split
  · exact regionsIdle_panel _ _
  · rfl
@[simp] theorem carouselTick_panel (complete_ frame commit : Bool) (s : State) :
    panel (carouselTick complete_ frame commit s) = panel s := by
  have tables : panel ((descFails s).foldl (fun s f => tableFail f s) (waveSwitch (waitReqs s))) = panel s := by
    rw [foldl_keeps panel _ _ _ fun u f => tableFail_panel f u, waveSwitch_panel, waitReqs_panel]
  have moved (u : State) : panel (eachNat (if complete_ then advanceRegion else discardRegion) (curRegions s) u) = panel u :=
    eachNat_keeps panel _ _ u fun r u => by split <;> simp
  have entered (l : List Nat) (u : State) : panel (if crslEn s then eachNat enterReq l u else u) = panel u :=
    ite_keeps panel (eachNat_keeps panel _ _ u enterReq_panel) rfl
  have retargeted (u : State) :
      panel (if crslEn s && (frame || commit) then eachNat (retargetRegion frame) (curRegions s) u else u) = panel u :=
    ite_keeps panel (eachNat_keeps panel _ _ u (retargetRegion_panel frame)) rfl
  have started (u : State) : panel (if crslEn s then eachNat startRegion (curRegions s) u else u) = panel u :=
    ite_keeps panel (eachNat_keeps panel _ _ u startRegion_panel) rfl
  unfold carouselTick
  dsimp only
  rw [reqCloseAll_panel, withCrsl_panel, criticalCut_panel, started, retargeted, evalBands_panel, withCrsl_panel, entered,
    moved, tables]

/-! ### Maps of spares at a commit window -/

@[simp] theorem tableReload_panel (l : Nat) (s : State) : panel (tableReload l s) = panel s := by
  unfold tableReload
  split
  · exact eachNat_keeps panel _ _ s fun _ _ => ite_keeps panel (waveReload_panel _ _) rfl
  · rfl
  · rfl
/-- A unit taken out of its map, by the host or as spared. -/
theorem unitOut_panel (byHost : Bool) (cls f : Nat) (s : State) :
    panel (if byHost then unitTo cls f .offline 7 s else unitTo cls f .spared 6 s) = panel s :=
  ite_keeps panel (unitTo_panel _ _ _ _ _) (unitTo_panel _ _ _ _ _)
@[simp] theorem bankMapApply_panel (mramOk : Bool) (s : State) : panel (bankMapApply mramOk s) = panel s := by
  unfold bankMapApply
  split
  · split
    · rfl
    · dsimp only
      rw [unitSetsDone_panel, tableReload_panel, log_panel, commitMap_panel, unitPair_panel, unitTo_panel, unitOut_panel]
      rfl
  · rfl
@[simp] theorem pipeMapTick_panel (mramOk : Bool) (s : State) : panel (pipeMapTick mramOk s) = panel s := by
  unfold pipeMapTick
  split
  · rfl
  · split
    · split
      · rfl
      · exact (unitSetsDone_panel _ _ _ _).trans rfl
    · dsimp only
      split
      · rw [unitSetsDone_panel, log_panel, commitMap_panel, unitPair_panel, unitTo_panel, unitOut_panel]
        rfl
      · exact ((unitSetsDone_panel _ _ _ _).trans (unitTo_panel _ _ _ _ _)).trans rfl
@[simp] theorem sliceMapApply_panel (mramOk : Bool) (s : State) : panel (sliceMapApply mramOk s) = panel s := by
  unfold sliceMapApply
  split
  · dsimp only
    rw [unitSetsDone_panel, log_panel, commitMap_panel, unitPair_panel, unitTo_panel, unitOut_panel]
    rfl
  · rfl

/-! ### Pipelines and the scan's results -/

@[simp] theorem pipeClear_panel (q : Nat) (s : State) : panel (pipeClear q s) = panel s := rfl
@[simp] theorem pipeFail_panel (n q : Nat) (s : State) : panel (pipeFail n q s) = panel s := by
  unfold pipeFail
  split
  · exact (unitTransient_panel _ _ _).trans rfl
  · rfl
  · simp
@[simp] theorem pipeTested_panel (q : Nat) (pass : Bool) (s : State) : panel (pipeTested q pass s) = panel s := by
  unfold pipeTested
  dsimp only
  split
  · split <;> rfl
  · have failed (u : State) : panel (if unitUp (unitOf u 2 q) then pipeFail 1 q u else u) = panel u :=
      ite_keeps panel (pipeFail_panel _ _ _) rfl
    rw [failed, log_panel]
    rfl
@[simp] theorem pipeDrawn_panel (q : Nat) (s : State) : panel (pipeDrawn q s) = panel s := (pipeTested_panel _ _ _).trans rfl
@[simp] theorem selfTestTick_panel (pass : Bool) (s : State) : panel (selfTestTick pass s) = panel s :=
  (eachNat_keeps panel _ _ _ pipeDrawn_panel).trans ((pipeTested_panel _ _ _).trans rfl)
@[simp] theorem pipesScanned_panel (complete_ : Bool) (s : State) : panel (pipesScanned complete_ s) = panel s :=
  foldl_keeps panel _ _ s fun _ _ => ite_keeps panel rfl (ite_keeps panel rfl rfl)
@[simp] theorem publishScan_panel (s : State) : panel (publishScan s) = panel s := rfl
@[simp] theorem headroomAge_panel (s : State) : panel (headroomAge s) = panel s := eachNat_keeps _ _ _ _ fun _ _ => rfl
@[simp] theorem scanClose_panel (s : State) : panel (scanClose s) = panel s := by simp [scanClose]

/-! ### The panel link -/

@[simp] theorem modGrp_panel (g : Nat) (f : Group → Group) (s : State) : panel (modGrp g f s) = panel s := rfl
@[simp] theorem queuePartner_panel (config : Bool) (sl : Nat) (s : State) : panel (queuePartner config sl s) = panel s := by
  unfold queuePartner; split <;> rfl
@[simp] theorem queueGeometry_panel (s : State) : panel (queueGeometry s) = panel s :=
  eachNat_keeps _ _ _ _ (queuePartner_panel false)
@[simp] theorem resendConfig_panel (g : Nat) (s : State) : panel (resendConfig g s) = panel s := by
  unfold resendConfig
  refine ite_keeps panel rfl ?_
  split
  · simp
  · rfl
@[simp] theorem retrainRetry_panel (g : Nat) (s : State) : panel (retrainRetry g s) = panel s :=
  (unitTransient_panel _ _ _).trans rfl
@[simp] theorem spanMismatch_panel (g : Nat) (far rxErr : Bool) (s : State) : panel (spanMismatch g far rxErr s) = panel s := by
  have logged (args : List Nat) (u : State) :
      panel (log .pxPathFault args (pxErr 0 { u with px := { u.px with pathFault := setBit u.px.pathFault g } })) = panel u :=
    (log_panel _ _ _).trans rfl
  unfold spanMismatch
  dsimp only
  split
  · rw [unitLasting_panel, logged, modGrp_panel]
  · split
    · split
      · rw [retrainRetry_panel, logged, modGrp_panel]
      · rw [unitLasting_panel, logged, modGrp_panel]
    · rw [unitTransient_panel, logged, modGrp_panel]
@[simp] theorem farCompare_panel (g : Nat) (far : W32) (rxErr : Bool) (s : State) :
    panel (farCompare g far rxErr s) = panel s :=
  ite_keeps panel (spanMismatch_panel _ _ _ _) rfl
@[simp] theorem padCompare_panel (pad : List (Nat × W32)) (g : Nat) (s : State) : panel (padCompare pad g s) = panel s := by
  unfold padCompare
  dsimp only
  split
  · rfl
  · split
    · split
      · rfl
      · exact (spanMismatch_panel _ _ _ _).trans rfl
    · split
      · exact (farCompare_panel _ _ _ _).trans rfl
      · rfl
@[simp] theorem tickClose_panel (pad : List (Nat × W32)) (g : Nat) (s : State) : panel (tickClose pad g s) = panel s :=
  (padCompare_panel _ _ _).trans rfl
@[simp] theorem spansTick_panel (pad : List (Nat × W32)) (s : State) : panel (spansTick pad s) = panel s :=
  (eachNat_keeps panel _ _ _ resendConfig_panel).trans (eachNat_keeps panel _ _ s fun g u => tickClose_panel pad g u)
@[simp] theorem spansEnd_panel (pad : List (Nat × W32)) (s : State) : panel (spansEnd pad s) = panel s :=
  eachNat_keeps panel _ _ s (tickClose_panel pad)
@[simp] theorem sendSet_panel (g : Nat) (code : Byte) (s : State) : panel (sendSet g code s) = panel s := by
  unfold sendSet
  dsimp only
  split <;> rfl
@[simp] theorem linksStop_panel (s : State) : panel (linksStop s) = panel s := by
  refine (eachNat_keeps panel _ _ _ fun g u => ?_).trans rfl
  exact Eq.trans (ite_keeps panel (sendSet_panel _ _ _) rfl) rfl

end Sys2Proof.Machine
end

section
/-! SUPPORT. What a tick keeps of the raster: its number, its time and its state, the timing in force, the TIMING_SETs that
wait, and the step of a retime (R162, R166, R179). -/

namespace Sys2Proof.Machine

/-- The raster as a tick has begun it. -/
structure RasterView where
  state : RasterState
  tick : Nat
  tickTb2 : Int
  line : Nat
  scan : Scan
  inForce : Option Timing
  gridOrigin : Int
  power : PwrState

/-- The raster, with the TIMING_SETs and the retime. -/
structure TickView extends RasterView where
  jobs : List TimingJob
  retimeStep : Nat
  restart : Nat

def rasterView (s : State) : RasterView :=
  ⟨s.scn.state, s.scn.tick, s.scn.tickTb2, s.scn.line, s.scn.scan, s.scn.inForce, s.scn.gridOrigin, s.pwr.state⟩

def tickView (s : State) : TickView := ⟨rasterView s, s.scn.jobs, s.scn.retimeStep, s.scn.restart⟩

/-- The number and the time of the tick. -/
def gridView (s : State) : Nat × Int := (s.scn.tick, s.scn.tickTb2)

theorem tickView_of_panel {s t : State} (h : panel s = panel t) : tickView s = tickView t := by
  obtain ⟨hscn, hpwr⟩ := panel_eq_iff.1 h
  simp only [tickView, rasterView, hscn, hpwr]

theorem rasterView_of_tickView {s t : State} (h : tickView s = tickView t) : rasterView s = rasterView t :=
  congrArg TickView.toRasterView h

theorem rasterView_of_panel {s t : State} (h : panel s = panel t) : rasterView s = rasterView t :=
  rasterView_of_tickView (tickView_of_panel h)

theorem powerState_of_rasterView {s t : State} (h : rasterView s = rasterView t) : s.pwr.state = t.pwr.state :=
  congrArg RasterView.power h

theorem gridView_of_rasterView {s t : State} (h : rasterView s = rasterView t) : gridView s = gridView t :=
  congrArg (fun v : RasterView => (v.tick, v.tickTb2)) h

theorem gridView_of_panel {s t : State} (h : panel s = panel t) : gridView s = gridView t :=
  gridView_of_rasterView (rasterView_of_panel h)

/-! ### Rails and the power of the panel -/

theorem withPwr_tickView (s : State) {p : Pwr} (h : p.state = s.pwr.state) : tickView { s with pwr := p } = tickView s := by
  simp only [tickView, rasterView, h]

@[simp] theorem modRail_tickView (c : Nat) (f : VRail → VRail) (s : State) : tickView (modRail c f s) = tickView s := by
  unfold modRail; split <;> rfl
@[simp] theorem allRails_tickView (f : VRail → VRail) (s : State) : tickView (allRails f s) = tickView s := by simp [allRails]
@[simp] theorem setV_tickView (c : Nat) (v : Int) (s : State) : tickView (setV c v s) = tickView s := by
  unfold setV
  split
  · exact (modRail_tickView _ _ _).trans rfl
  · exact modRail_tickView _ _ _
@[simp] theorem vledOff_tickView (s : State) : tickView (vledOff s) = tickView s := allRails_tickView _ _
@[simp] theorem irefZero_tickView (s : State) : tickView (irefZero s) = tickView s := (allRails_tickView _ _).trans rfl
@[simp] theorem rampDown_tickView (fromEff : Bool) (ms : Nat) (s : State) : tickView (rampDown fromEff ms s) = tickView s := by
  unfold rampDown
  exact Eq.trans (by rfl) (eachNat_keeps tickView _ _ s fun c u => modRail_tickView c _ u)
@[simp] theorem rampUp_tickView (s : State) : tickView (rampUp s) = tickView s := rfl
@[simp] theorem uvTick_tickView (c : Nat) (s : State) : tickView (uvTick c s) = tickView s :=
  ite_keeps tickView (setV_tickView _ _ _) rfl
@[simp] theorem derateTick_tickView (s : State) : tickView (derateTick s) = tickView s := by
  unfold derateTick
  extract_lets temps nosrc f s1 p s2
  have railed : tickView s2 = tickView s := (withPwr_tickView s1 rfl).trans (allRails_tickView _ s)
  exact ite_keeps tickView ((tickView_of_panel (log_panel _ _ _)).trans railed) railed
@[simp] theorem retestTick_tickView (s : State) : tickView (retestTick s) = tickView s :=
  (foldl_keeps tickView _ _ _ fun _ _ => tickView_of_panel (log_panel _ _ _)).trans rfl
@[simp] theorem pwrTick_tickView (scan complete_ : Bool) (s : State) : tickView (pwrTick scan complete_ s) = tickView s := by
  have kept : tickView (retestTick (derateTick (eachNat uvTick [0, 1, 2] s))) = tickView s := by
    rw [retestTick_tickView, derateTick_tickView, eachNat_keeps tickView _ _ s uvTick_tickView]
  exact (withPwr_tickView _ rfl).trans kept
@[simp] theorem vledBegin_tickView (s : State) : tickView (vledBegin s) = tickView s := by
  have set (u : State) : tickView (eachNat (fun c s => setV c (vMax (vrail s c)) s) [0, 1, 2] u) = tickView u :=
    eachNat_keeps tickView _ _ u fun c v => setV_tickView c _ v
  exact (withPwr_tickView _ rfl).trans ((allRails_tickView _ _).trans ((set _).trans rfl))
@[simp] theorem blackTick_tickView (s : State) : tickView (blackTick s) = tickView s :=
  ite_keeps tickView (vledBegin_tickView _) rfl
@[simp] theorem clearTick_tickView (s : State) : tickView (clearTick s) = tickView s := by
  unfold clearTick
  split
  · exact ite_keeps tickView ((tickView_of_panel (deviceClear_panel _ _ _)).trans rfl) rfl
  · rfl
@[simp] theorem stopCleared_tickView (was : Bool) (s : State) : tickView (stopCleared was s) = tickView s :=
  ite_keeps tickView (tickView_of_panel (showingOut_panel s)) rfl

/-! ### The commit window -/

@[simp] theorem laCommit_panel (s : State) : panel (laCommit s) = panel s := by
  unfold laCommit
  dsimp only
  split
  · rfl
  · exact ite_keeps panel rfl ((log_panel _ _ _).trans rfl)
@[simp] theorem tablesCommit_panel (s : State) : panel (tablesCommit s) = panel s := by
  unfold tablesCommit
  split
  exact ite_keeps panel rfl rfl
@[simp] theorem commitBands_panel (s : State) : panel (commitBands s) = panel s := ite_keeps panel rfl rfl
@[simp] theorem commitApply_tickView (s : State) : tickView (commitApply s) = tickView s := by
  have kept : tickView (tablesCommit (commitBands (laCommit s))) = tickView s := tickView_of_panel (by simp)
  unfold commitApply
  dsimp only
  exact ite_keeps tickView ((tickView_of_panel (crslDisable_panel _)).trans ((allRails_tickView _ _).trans kept))
    ((allRails_tickView _ _).trans kept)
@[simp] theorem commitMiss_tickView (s : State) : tickView (commitMiss s) = tickView s :=
  (tickView_of_panel (log_panel _ _ _)).trans rfl
@[simp] theorem commitsTick_tickView (inTime : Bool) (s : State) : tickView (commitsTick inTime s) = tickView s := by
  unfold commitsTick
  dsimp only
  split
  · rfl
  · split
    · refine (foldl_keeps tickView _ _ _ fun _ _ => tickView_of_panel (complete_panel _ _ _ _ _)).trans ?_
      exact (commitApply_tickView _).trans rfl
    · exact (foldl_keeps tickView _ _ _ fun u _ => commitMiss_tickView u).trans rfl
@[simp] theorem layersApply_panel (s : State) : panel (layersApply s) = panel s := by
  refine (surfacesSettle_panel _).trans ?_
  refine (foldl_keeps panel _ _ _ fun _ _ => ?_).trans rfl
  exact (complete_panel _ _ _ _ _).trans rfl

/-! ### The pre-flight and the retime -/

@[simp] theorem preflightStart_tickView (frame : Bool) (s : State) : tickView (preflightStart frame s) = tickView s := by
  have stopped (u : State) : tickView (applyStops frame u) = tickView u := tickView_of_panel (applyStops_panel frame u)
  unfold preflightStart
  dsimp only
  refine ite_keeps tickView ((stopped _).trans rfl) ?_
  split
  · exact (tickView_of_panel ((selectFrame_panel _ _ _).trans (applySeek_panel _))).trans ((stopped _).trans rfl)
  · exact (tickView_of_panel ((startStream_panel _ _ _).trans (applySeek_panel _))).trans ((stopped _).trans rfl)
@[simp] theorem rateStart_rasterView (s : State) : rasterView (rateStart s) = rasterView s := by
  unfold rateStart
  split
  · exact ite_keeps rasterView rfl rfl
  · rfl
@[simp] theorem retimeClear_rasterView (s : State) : rasterView (retimeClear s) = rasterView s :=
  ite_keeps rasterView (ite_keeps rasterView ((rasterView_of_panel (deviceClear_panel _ _ _)).trans rfl) rfl) rfl
@[simp] theorem retimeBegin_rasterView (s : State) : rasterView (retimeBegin s) = rasterView s :=
  (rasterView_of_panel (framesDrain_panel _)).trans rfl
@[simp] theorem retimeTick_rasterView (before : Nat) (s : State) : rasterView (retimeTick before s) = rasterView s := by
  unfold retimeTick
  split
  · exact ite_keeps rasterView rfl rfl
  · exact ite_keeps rasterView rfl rfl
  · refine ite_keeps rasterView (retimeBegin_rasterView s) (ite_keeps rasterView rfl ?_)
    exact ite_keeps rasterView rfl rfl
  · exact ite_keeps rasterView (retimeBegin_rasterView s) rfl

/-! ### Power-down and the raster that stops -/

@[simp] theorem pwrTo_gridView (st : PwrState) (step : Nat) (s : State) : gridView (pwrTo st step s) = gridView s := by
  have event (n : Nat) (u : State) : gridView (brkEvent n u) = gridView u := gridView_of_panel (brkEvent_panel n u)
  have logged (name : LogName) (args : List Nat) (u : State) : gridView (log name args u) = gridView u :=
    gridView_of_panel (log_panel name args u)
  unfold pwrTo
  dsimp only
  refine ite_keeps gridView rfl ?_
  split
  · exact ((event _ _).trans (logged _ _ _)).trans rfl
  · exact ((event _ _).trans (logged _ _ _)).trans rfl
  · exact ((event _ _).trans (logged _ _ _)).trans rfl
  · exact (logged _ _ _).trans rfl
@[simp] theorem powerUp_gridView (s : State) : gridView (powerUp s) = gridView s := by
  unfold powerUp
  refine ite_keeps gridView rfl (ite_keeps gridView rfl ?_)
  dsimp only
  exact ite_keeps gridView ((pwrTo_gridView _ _ _).trans rfl)
    (ite_keeps gridView ((pwrTo_gridView _ _ _).trans rfl) ((pwrTo_gridView _ _ _).trans rfl))
@[simp] theorem finAll_panel (st : Status) (l : List Hdr) (s : State) : panel (finAll st l s) = panel s := by
  induction l generalizing s with
  | nil => rfl
  | cons h r ih => exact (ih _).trans (fin_panel _ _ _ _)
@[simp] theorem offReached_gridView (s : State) : gridView (offReached s) = gridView s := by
  have on (u : State) : gridView (panelOnDue u) = gridView u := ite_keeps gridView (powerUp_gridView u) rfl
  refine (on _).trans ((gridView_of_panel (finAll_panel _ _ _)).trans ?_)
  exact Eq.trans (by rfl) (pwrTo_gridView .off 0 s)
@[simp] theorem downDone_gridView (s : State) : gridView (downDone s) = gridView s :=
  ite_keeps gridView ((pwrTo_gridView _ _ _).trans rfl) ((offReached_gridView _).trans rfl)
@[simp] theorem downRails_gridView (s : State) : gridView (downRails s) = gridView s := by
  have off (u : State) : gridView (railOff u) = gridView u := ite_keeps gridView rfl (ite_keeps gridView rfl rfl)
  exact ite_keeps gridView ((off _).trans rfl) ((downDone_gridView _).trans rfl)
@[simp] theorem linksStop_gridView (s : State) : gridView (linksStop s) = gridView s := gridView_of_panel (linksStop_panel s)
@[simp] theorem downStop_gridView (s : State) : gridView (downStop s) = gridView s :=
  ite_keeps gridView (((downRails_gridView _).trans (linksStop_gridView _)).trans rfl) rfl
@[simp] theorem downDisch_gridView (s : State) : gridView (downDisch s) = gridView s :=
  ite_keeps gridView rfl (ite_keeps gridView ((downRails_gridView _).trans (linksStop_gridView _)) (downStop_gridView s))
@[simp] theorem downVledLow_gridView (s : State) : gridView (downVledLow s) = gridView s :=
  ite_keeps gridView (downDisch_gridView s) rfl
@[simp] theorem downVled_gridView (s : State) : gridView (downVled s) = gridView s := by
  have off : gridView (vledOff { s with pwr := { s.pwr with step := 3, settling := false } }) = gridView s :=
    (gridView_of_rasterView (rasterView_of_tickView (vledOff_tickView _))).trans rfl
  exact ite_keeps gridView ((downDisch_gridView _).trans off) (ite_keeps gridView ((downVledLow_gridView _).trans off) off)
@[simp] theorem rampDown_gridView (fromEff : Bool) (ms : Nat) (s : State) : gridView (rampDown fromEff ms s) = gridView s :=
  gridView_of_rasterView (rasterView_of_tickView (rampDown_tickView _ _ _))
@[simp] theorem downDim_gridView (s : State) : gridView (downDim s) = gridView s := by
  have zero (u : State) : gridView (irefZero u) = gridView u :=
    gridView_of_rasterView (rasterView_of_tickView (irefZero_tickView u))
  exact ite_keeps gridView (((downVled_gridView _).trans (zero _)).trans rfl) ((rampDown_gridView _ _ _).trans rfl)
@[simp] theorem clearDone_gridView (was : Bool) (s : State) : gridView (clearDone was s) = gridView s :=
  ite_keeps gridView (downDim_gridView s) rfl
@[simp] theorem rasterStop_gridView (s : State) : gridView (rasterStop s) = gridView s := by
  have closed (c n : Nat) : gridView (extensionClose c n s) = gridView s := ite_keeps gridView rfl rfl
  exact Eq.trans (by rfl) (closed 5 (slotsPassed s))

/-- Step 5 of a power-down stops the raster and keeps the tick's number and time. -/
theorem powerStop_gridView {pad : List (Nat × W32)} {s t : State} (h : powerStop pad s = some t) :
    gridView t = gridView s := by
  unfold powerStop at h
  split at h
  · obtain rfl := Option.some.inj h
    rw [downRails_gridView, linksStop_gridView, rasterStop_gridView, gridView_of_panel (spansEnd_panel pad s)]
  · simp at h

theorem powerStop_eq_none (pad : List (Nat × W32)) {s : State} (h : s.pwr.state ≠ .poweringDown) :
    powerStop pad s = none := by
  simp [powerStop, h]

theorem clearDone_of_up (was : Bool) {s : State} (h : s.pwr.state ≠ .poweringDown) : clearDone was s = s := by
  simp [clearDone, h]

theorem withT3_rasterView (s : State) (time : Int) :
    rasterView { s with scn := { s.scn with t3 := time } } = rasterView s := rfl

/-- T3 leaves the raster as its stop leaves it (R179 step 3). -/
theorem retimeDark_rasterView (pad : List (Nat × W32)) (s : State) :
    rasterView (retimeDark pad s) = rasterView (rasterStop (showingOut (spansEnd pad s))) :=
  (rasterView_of_tickView (rampDown_tickView _ _ _)).trans (withT3_rasterView _ _)

theorem retimeDark_gridView (pad : List (Nat × W32)) (s : State) : gridView (retimeDark pad s) = gridView s := by
  rw [gridView_of_rasterView (retimeDark_rasterView pad s), rasterStop_gridView, gridView_of_panel (showingOut_panel _),
    gridView_of_panel (spansEnd_panel _ _)]

theorem retimeDark_state (pad : List (Nat × W32)) (s : State) : (retimeDark pad s).scn.state = .stopped :=
  (congrArg RasterView.state (retimeDark_rasterView pad s) :).trans rfl

end Sys2Proof.Machine
end

section
/-! SUPPORT. The tick in its parts (R166): the commit window, then the scan, unless the tick brings T3 of a retime (R179) or
step 5 of a power-down (R182). -/

namespace Sys2Proof.Machine

/-- A frame is newly admitted to the scan at this tick. -/
def tickFrame (complete_ : Bool) (s : State) : Bool :=
  (frameIn (haloExpire (framesTick complete_ (retrainHolds s) s)) .scanning).isSome

/-- The tick up to the end of its commit window, and what that brings the retime. -/
def tickWindow (env : TickEnv) (complete_ first : Bool) (s : State) : State :=
  let s1 := haloExpire (framesTick complete_ (retrainHolds s) s)
  let frame := tickFrame complete_ s
  let commit := !frame && ((env.commitInTime && s1.scn.commits.any (commitDue (tb0Q s1))) || !s1.clr.layers.isEmpty)
  let s2 := carouselTick complete_ frame commit (clearTick (if first then s1 else retimeClear s1))
  let s3 := layersApply (commitsTick env.commitInTime s2)
  let s4 := sliceMapApply env.mramOk (pipeMapTick env.mramOk (bankMapApply env.mramOk s3))
  stopCleared (s.crsl.reqs.any fun c => c.2.by_ == .stop) (if first then s4 else retimeTick s.scn.retimeStep s4)

/-- Panel power at the tick, which follows the commit window. -/
def tickPowered (env : TickEnv) (complete_ ended first : Bool) (s : State) : State :=
  pwrTick ended complete_ (tickWindow env complete_ first s)

/-- The tick's scan, set up and opened. -/
def tickScan (env : TickEnv) (frame black wasClear : Bool) (t : Timing) (s : State) : State :=
  let s1 := clearDone wasClear (blackTick s)
  let s2 := if frame then { s1 with crsl := { s1.crsl with blackUntilFrame := false } } else s1
  selfTestTick env.selfTestPass (spansTick env.pad (scanBegin t black s2))

/-- The scan that a tick opens: black at T2, in a clear, before a power-up's step 6, and first of all. -/
def tickShown (env : TickEnv) (complete_ ended first : Bool) (t : Timing) (s : State) : State :=
  let s6 := tickPowered env complete_ ended first s
  tickScan env (tickFrame complete_ s) (scanBlack s.scn.retimeStep (tickFrame complete_ s) s.pwr.clearing s6 || first)
    s.pwr.clearing t s6

/-- What follows the scan's set-up: a pre-flight, where one may begin. -/
def tickAdmits (frame : Bool) (s : State) : State :=
  if admits s then publishPf (preflightStart frame (rateStart s)) else publishPf s

section
variable {env : TickEnv} {complete_ ended first : Bool} {t : Timing} {s : State}

theorem tickBody_dark (h : s.scn.retimeStep = 3) (hf : first = false) :
    tickBody env complete_ ended first t s = retimeDark env.pad (tickWindow env complete_ first s) := by
  subst hf
  exact if_pos ⟨h, rfl⟩

/-- The tick that scans goes on past its commit window. -/
theorem tickBody_past (h : ¬ (s.scn.retimeStep = 3 ∧ !first)) :
    tickBody env complete_ ended first t s = (powerStop env.pad (tickPowered env complete_ ended first s)).getD
      (tickAdmits (tickFrame complete_ s) (tickShown env complete_ ended first t s)) := by
  unfold tickBody
  extract_lets before wasClear wasStop s1 frame commit s2 s3 s4 s5 s6
  have powered : tickPowered env complete_ ended first s = s6 := rfl
  have admitted : tickFrame complete_ s = frame := rfl
  unfold tickShown
  rw [if_neg h, powered, admitted]
  clear_value s6 frame
  split
  next e => rw [e, Option.getD_some]
  next e => rw [e, Option.getD_none]; rfl

/-- The first tick of a start leaves the retime and the TIMING_SETs as they are. -/
theorem tickWindow_first_tickView : tickView (tickWindow env complete_ true s) = tickView s := by
  unfold tickWindow
  simp only [if_true]
  rw [stopCleared_tickView, tickView_of_panel (sliceMapApply_panel _ _), tickView_of_panel (pipeMapTick_panel _ _),
    tickView_of_panel (bankMapApply_panel _ _), tickView_of_panel (layersApply_panel _), commitsTick_tickView,
    tickView_of_panel (carouselTick_panel _ _ _ _), clearTick_tickView, tickView_of_panel (haloExpire_panel _),
    tickView_of_panel (framesTick_panel _ _ _)]

theorem tickWindow_rasterView : rasterView (tickWindow env complete_ first s) = rasterView s := by
  have same {u v : State} (h : tickView u = tickView v) := rasterView_of_tickView h
  have cleared (u : State) : rasterView (if first then u else retimeClear u) = rasterView u :=
    ite_keeps rasterView rfl (retimeClear_rasterView u)
  have retimed (u : State) : rasterView (if first then u else retimeTick s.scn.retimeStep u) = rasterView u :=
    ite_keeps rasterView rfl (retimeTick_rasterView _ u)
  unfold tickWindow
  dsimp only
  rw [same (stopCleared_tickView _ _), retimed, rasterView_of_panel (sliceMapApply_panel _ _),
    rasterView_of_panel (pipeMapTick_panel _ _), rasterView_of_panel (bankMapApply_panel _ _),
    rasterView_of_panel (layersApply_panel _), same (commitsTick_tickView _ _),
    rasterView_of_panel (carouselTick_panel _ _ _ _), same (clearTick_tickView _), cleared,
    rasterView_of_panel (haloExpire_panel _), rasterView_of_panel (framesTick_panel _ _ _)]

/-- The scan that is set up: the raster's view is the tick's with that scan. -/
theorem scanBegin_tickView (t : Timing) (black : Bool) (s : State) :
    tickView (scanBegin t black s) = { tickView s with scan := (scanBegin t black s).scn.scan } := rfl

theorem tickPowered_rasterView : rasterView (tickPowered env complete_ ended first s) = rasterView s :=
  (rasterView_of_tickView (pwrTick_tickView _ _ _)).trans tickWindow_rasterView

theorem tickScan_gridView (frame black wasClear : Bool) : gridView (tickScan env frame black wasClear t s) = gridView s := by
  have shown (u : State) : gridView (if frame then { u with crsl := { u.crsl with blackUntilFrame := false } } else u) =
      gridView u := ite_keeps gridView rfl rfl
  have begun (u : State) : gridView (scanBegin t black u) = gridView u := rfl
  unfold tickScan
  dsimp only
  rw [gridView_of_panel (selfTestTick_panel _ _), gridView_of_panel (spansTick_panel _ _), begun, shown, clearDone_gridView,
    gridView_of_rasterView (rasterView_of_tickView (blackTick_tickView _))]

/-- A scan begins on a panel that is not being powered down. -/
theorem tickScan_up (frame black wasClear : Bool) (up : s.pwr.state ≠ .poweringDown) :
    ∃ sc : Scan, tickView (tickScan env frame black wasClear t s) = { tickView s with scan := sc } ∧
      sc.black = black ∧ sc.synth = s.scn.scan.synth ∧ sc.line = s.scn.scan.line := by
  let u := if frame then { blackTick s with crsl := { (blackTick s).crsl with blackUntilFrame := false } } else blackTick s
  have kept : tickView u = tickView s := ite_keeps tickView ((tickView_of_panel (withCrsl_panel _ _)).trans
    (blackTick_tickView s)) (blackTick_tickView s)
  have hscan : u.scn.scan = s.scn.scan := congrArg (fun v : TickView => v.scan) kept
  have upB : (blackTick s).pwr.state ≠ .poweringDown := by
    rw [powerState_of_rasterView (rasterView_of_tickView (blackTick_tickView s))]
    exact up
  refine ⟨(scanBegin t black u).scn.scan, ?_, rfl, ?_, ?_⟩
  · unfold tickScan
    dsimp only
    rw [clearDone_of_up wasClear upB, tickView_of_panel (selfTestTick_panel _ _), tickView_of_panel (spansTick_panel _ _),
      scanBegin_tickView, ← kept]
  · exact (congrArg Scan.synth hscan :)
  · exact (congrArg Scan.line hscan :)

/-- A start's first scan is black; every scan begins before its first line. -/
theorem tickShown_up (up : s.pwr.state ≠ .poweringDown) :
    ∃ sc : Scan, tickView (tickShown env complete_ ended first t s) =
        { tickView (tickPowered env complete_ ended first s) with scan := sc } ∧
      (first → sc.black = true) ∧ sc.synth = s.scn.scan.synth ∧ sc.line = s.scn.scan.line := by
  have power := tickPowered_rasterView (env := env) (complete_ := complete_) (ended := ended) (first := first) (s := s)
  obtain ⟨sc, view, black, synth, line⟩ := tickScan_up (env := env) (t := t) (tickFrame complete_ s)
    (scanBlack s.scn.retimeStep (tickFrame complete_ s) s.pwr.clearing (tickPowered env complete_ ended first s) || first)
    s.pwr.clearing (powerState_of_rasterView power ▸ up)
  exact ⟨sc, view, fun hf => by simp [black, hf], synth.trans (congrArg (fun v : RasterView => v.scan.synth) power),
    line.trans (congrArg (fun v : RasterView => v.scan.line) power)⟩

theorem tickAdmits_rasterView (frame : Bool) : rasterView (tickAdmits frame s) = rasterView s := by
  refine ite_keeps rasterView ?_ (rasterView_of_panel (publishPf_panel s))
  rw [rasterView_of_panel (publishPf_panel _), rasterView_of_tickView (preflightStart_tickView _ _), rateStart_rasterView]

theorem tickAdmits_shut (frame : Bool) (shut : admits s = false) : tickView (tickAdmits frame s) = tickView s := by
  unfold tickAdmits
  simp only [shut, Bool.false_eq_true, if_false]
  exact tickView_of_panel (publishPf_panel s)

theorem admits_of_view {u : State} {sc : Scan} (h : tickView u = { tickView s with scan := sc }) : admits u = admits s := by
  have step : u.scn.retimeStep = s.scn.retimeStep := congrArg TickView.retimeStep h
  have restart : u.scn.restart = s.scn.restart := congrArg TickView.restart h
  simp only [admits, step, restart]

/-- A tick keeps the number and time it has taken, whatever it brings. -/
theorem tickBody_gridView : gridView (tickBody env complete_ ended first t s) = gridView s := by
  by_cases h : s.scn.retimeStep = 3 ∧ !first
  · rw [tickBody_dark h.1 (by simpa using h.2), retimeDark_gridView, gridView_of_rasterView tickWindow_rasterView]
  · have power : gridView (tickPowered env complete_ ended first s) = gridView s :=
      gridView_of_rasterView tickPowered_rasterView
    rw [tickBody_past h]
    cases e : powerStop env.pad (tickPowered env complete_ ended first s) with
    | some u => rw [Option.getD_some, powerStop_gridView e, power]
    | none =>
      rw [Option.getD_none, gridView_of_rasterView (tickAdmits_rasterView _), tickShown, tickScan_gridView, power]

/-- A tick that scans, on a panel that is not being powered down, goes on to the pre-flight. -/
theorem tickBody_up (h : ¬ (s.scn.retimeStep = 3 ∧ !first)) (up : s.pwr.state ≠ .poweringDown) :
    tickBody env complete_ ended first t s = tickAdmits (tickFrame complete_ s) (tickShown env complete_ ended first t s) := by
  have upP : (tickPowered env complete_ ended first s).pwr.state ≠ .poweringDown := by
    rw [powerState_of_rasterView tickPowered_rasterView]
    exact up
  rw [tickBody_past h, powerStop_eq_none env.pad upP, Option.getD_none]

/-- A tick that brings no T3 begins a scan, on a panel that is not being powered down. -/
theorem tickBody_scans (h : ¬ (s.scn.retimeStep = 3 ∧ !first)) (up : s.pwr.state ≠ .poweringDown) :
    ∃ sc : Scan, rasterView (tickBody env complete_ ended first t s) = { rasterView s with scan := sc } ∧
      (first → sc.black = true) ∧ sc.synth = s.scn.scan.synth ∧ sc.line = s.scn.scan.line := by
  obtain ⟨sc, view, scan⟩ :=
    tickShown_up (env := env) (complete_ := complete_) (ended := ended) (first := first) (t := t) up
  have power : rasterView (tickPowered env complete_ ended first s) = rasterView s := tickPowered_rasterView
  refine ⟨sc, ?_, scan⟩
  rw [tickBody_up h up, tickAdmits_rasterView, ← power]
  exact (congrArg TickView.toRasterView view :)

/-- The first tick of a start that admits no frame keeps the TIMING_SETs that wait and the retime's step. -/
theorem tickBody_first (up : s.pwr.state ≠ .poweringDown) (shut : admits s = false) :
    ∃ sc : Scan, tickView (tickBody env complete_ ended true t s) = { tickView s with scan := sc } ∧ sc.black = true := by
  have power : tickView (tickPowered env complete_ ended true s) = tickView s :=
    (pwrTick_tickView _ _ _).trans tickWindow_first_tickView
  obtain ⟨sc, view, black, -⟩ :=
    tickShown_up (env := env) (complete_ := complete_) (ended := ended) (first := true) (t := t) up
  rw [power] at view
  refine ⟨sc, ?_, black rfl⟩
  rw [tickBody_up (by simp) up, tickAdmits_shut _ ((admits_of_view view).trans shut), view]

end

end Sys2Proof.Machine
end

section
/-! SUPPORT. The steps that take the raster on: a tick, a start, and the end of the ramp of a retime (R165, R166, R177, R179,
R222). -/

namespace Sys2Proof.Machine

/-! ### A change of timing that is done -/

theorem timingDone_panel (s : State) : panel (timingDone s) = ({ s.scn with jobs := s.scn.jobs.drop 1 }, s.pwr) := by
  unfold timingDone
  split
  next empty =>
    have kept : s.scn.jobs.drop 1 = s.scn.jobs := by rw [empty, List.drop_nil]
    rw [kept]
    rfl
  next j rest waits =>
    rw [waits]
    exact (ite_keeps panel rfl (complete_panel _ _ _ _ _)).trans rfl

theorem timingDone_tickView (s : State) : tickView (timingDone s) = { tickView s with jobs := s.scn.jobs.drop 1 } := by
  obtain ⟨hscn, hpwr⟩ := Prod.mk.injEq .. ▸ timingDone_panel s
  simp only [tickView, rasterView, hscn, hpwr]

/-- A change of rate that comes into force is a new grid and no other change of the raster (R178). -/
theorem rateApply_tickView (time : Int) (s : State) :
    ∃ tm g js, (s.scn.inForce.isSome → tm.isSome) ∧
      tickView (rateApply time s) = { tickView s with inForce := tm, gridOrigin := g, jobs := js } := by
  unfold rateApply
  split
  · exact ⟨_, _, _, fun _ => rfl, timingDone_tickView _⟩
  · exact ⟨_, _, _, id, rfl⟩

/-! ### A tick -/

theorem tickBegin_tickView (time : Int) (s : State) : tickView (tickBegin time s) = { tickView s with
    state := .run, tick := if s.scn.first then 0 else (s.scn.tick + 1) % 2 ^ 64, tickTb2 := time, line := 0, scan := {} } := rfl

theorem setPeriod_tickView (t : Timing) (s : State) : tickView (setPeriod t s) = { tickView s with inForce := some t } := rfl

@[simp] theorem retrainTick_panel (s : State) : panel (retrainTick s) = panel s := ite_keeps panel rfl rfl

/-- A tick that may not fall does nothing. -/
theorem frameTick_shut (env : TickEnv) {s : State} (h : tickAllowed s = false) : frameTick env s = s := by
  simp [frameTick, h]

/-- The raster once a tick has taken its number and its time (R162, R165), and a change of rate has come into force (R178). -/
def tickTaken (s : State) : State :=
  rateApply (nextTick s) (tickBegin (nextTick s) (scanClose (clockTo (nextTick s) s)))

theorem tickTaken_tickView (s : State) : ∃ tm g js, (s.scn.inForce.isSome → tm.isSome) ∧ tickView (tickTaken s) =
    { tickView s with
      state := .run, tick := if s.scn.first then 0 else (s.scn.tick + 1) % 2 ^ 64, tickTb2 := nextTick s, line := 0, scan := {},
      inForce := tm, gridOrigin := g, jobs := js } := by
  have closed : panel (scanClose (clockTo (nextTick s) s)) = panel s := by simp
  obtain ⟨tm, g, js, kept, applied⟩ :=
    rateApply_tickView (nextTick s) (tickBegin (nextTick s) (scanClose (clockTo (nextTick s) s)))
  rw [tickBegin_tickView, tickView_of_panel closed, scn_of_panel closed] at applied
  refine ⟨tm, g, js, fun timed => kept ?_, applied⟩
  show (scanClose (clockTo (nextTick s) s)).scn.inForce.isSome
  rw [scn_of_panel closed]
  exact timed

/-- A tick that may fall takes its number and its time, and begins (R162, R165, R166). -/
theorem frameTick_begins (env : TickEnv) {s : State} (h : tickAllowed s = true) (timed : s.scn.inForce.isSome) :
    ∃ tm u g js, frameTick env s = tickBody env s.scn.scan.complete true false tm u ∧ tickView u = { tickView s with
      state := .run, tick := if s.scn.first then 0 else (s.scn.tick + 1) % 2 ^ 64, tickTb2 := nextTick s, line := 0, scan := {},
      inForce := some tm, gridOrigin := g, jobs := js } := by
  obtain ⟨force, g, js, kept, taken⟩ := tickTaken_tickView s
  obtain ⟨tm, rfl⟩ := Option.isSome_iff_exists.1 (kept timed)
  have inForce : (tickTaken s).scn.inForce = some tm := congrArg (fun v : TickView => v.inForce) taken
  refine ⟨tm, retrainTick (setPeriod tm (tickTaken s)), g, js, ?_, ?_⟩
  · unfold frameTick
    rw [if_neg (by simp [h])]
    extract_lets time complete_ s1
    have begun : s1.scn.inForce = some tm := inForce
    split
    next absent => rw [begun] at absent; simp at absent
    next t given => obtain rfl := Option.some.inj (begun.symm.trans given); rfl
  · rw [tickView_of_panel (retrainTick_panel _), setPeriod_tickView, taken]

/-- With nothing held, N1 releases nothing. -/
theorem n1Release_quiet {s : State} (h : Quiet s) : n1Release s = s := by
  obtain ⟨fences, held, -, -⟩ := h
  unfold n1Release
  split
  next n1 =>
    obtain ⟨-, restart, -⟩ := n1
    simp only [held, fences, List.takeWhile_nil, List.dropWhile_nil, List.length_nil, settleN, List.isEmpty_nil, Bool.and_self,
      if_true, List.append_nil]
    calc _ = { s with
            scn := { s.scn with restart := s.scn.restart }, hq := { s.hq with held := s.hq.held, fences := s.hq.fences } } := by
          rw [restart, held, fences]
      _ = s := rfl
  next => rfl

/-! ### A start -/

/-- The environment of a start: nothing is due that could miss its window. -/
def startEnv : TickEnv := ⟨true, true, true, []⟩

/-- The raster does not start before its time. -/
theorem rasterStart_shut {s : State} (h : startAllowed s = false ∨ s.scn.timing = none) : rasterStart s = s := by
  unfold rasterStart
  split
  · rfl
  next t timed =>
    rw [if_pos]
    simpa [timed] using h

/-- The raster as a start begins it, on the first slot of the grid from a time on. -/
def startBegun (tm : Timing) (from_ : Int) (s : State) : State :=
  let time := slotAtOrAfter 0 from_ (basePeriod tm)
  let u := tickBegin time (clockTo time s)
  setPeriod tm { u with scn := { u.scn with gridOrigin := time, afterAbort := false } }

theorem startBegun_tickView (tm : Timing) (from_ : Int) (s : State) : tickView (startBegun tm from_ s) = { tickView s with
    state := .run, tick := if s.scn.first then 0 else (s.scn.tick + 1) % 2 ^ 64, line := 0, scan := {}, inForce := some tm,
    tickTb2 := slotAtOrAfter 0 from_ (basePeriod tm), gridOrigin := slotAtOrAfter 0 from_ (basePeriod tm) } := by
  have begun := tickBegin_tickView (slotAtOrAfter 0 from_ (basePeriod tm)) (clockTo (slotAtOrAfter 0 from_ (basePeriod tm)) s)
  rw [scn_of_panel (clockTo_panel _ s), tickView_of_panel (clockTo_panel _ s)] at begun
  exact congrArg (fun v : TickView =>
    { v with inForce := some tm, gridOrigin := slotAtOrAfter 0 from_ (basePeriod tm) }) begun

/-- The start at step 5 of a power-up (R177, R217). -/
theorem rasterStart_powerUp {tm : Timing} {s : State} (timed : s.scn.timing = some tm) (may : startAllowed s = true)
    (other : s.scn.retimeStep ≠ 4) : rasterStart s =
      tickBody startEnv false false true tm (retrainTick (startBegun tm (tb2Q s) s)) := by
  have notRetime : (s.scn.retimeStep == 4) = false := by simpa using other
  unfold rasterStart
  split
  next untimed => rw [timed] at untimed; simp at untimed
  next t timed' =>
    obtain rfl := Option.some.inj (timed.symm.trans timed')
    simp only [may, notRetime, Bool.not_true, Bool.false_eq_true, if_false]
    rfl

/-- What step 5 of a retime makes of the raster that has begun: its first tick, and the change done (R179). -/
def retimeBegun (s : State) : State :=
  let u := { s with scn := { s.scn with retimeStep := 5, restart := 1 }, pwr := { s.pwr with diagPtr := 0 } }
  timingDone (if u.pwr.state == .on then rampUp u else u)

theorem retimeBegun_tickView (s : State) :
    tickView (retimeBegun s) = { tickView s with retimeStep := 5, restart := 1, jobs := s.scn.jobs.drop 1 } := by
  have ramped (u : State) : tickView (if u.pwr.state == .on then rampUp u else u) = tickView u :=
    ite_keeps tickView (rampUp_tickView u) rfl
  unfold retimeBegun
  extract_lets c p u
  have view : tickView u = { tickView s with retimeStep := 5, restart := 1 } := rfl
  have jobs : (if u.pwr.state == .on then rampUp u else u).scn.jobs = s.scn.jobs :=
    (congrArg TickView.jobs (ramped u) :)
  rw [timingDone_tickView, ramped, view, jobs]

/-- The start at step 4 of a retime (R179). -/
theorem rasterStart_retime {tm : Timing} {s : State} (timed : s.scn.timing = some tm) (may : startAllowed s = true)
    (switch : s.scn.retimeStep = 4) : rasterStart s =
      tickBody startEnv false false true tm
        (retrainTick (retimeBegun (startBegun tm (max (tb2Q s) (s.scn.t3 + 2000000 * 65536)) s))) := by
  have retime : (s.scn.retimeStep == 4) = true := by simpa using switch
  unfold rasterStart
  split
  next untimed => rw [timed] at untimed; simp at untimed
  next t timed' =>
    obtain rfl := Option.some.inj (timed.symm.trans timed')
    simp only [may, retime, Bool.not_true, Bool.false_eq_true, if_false, if_true]
    rfl

/-! ### The end of the ramp of a retime -/

/-- The ramp's end does nothing but at step 3 of a retime, with the raster stopped. -/
theorem retimeRampEnd_shut {s : State} (h : s.scn.retimeStep ≠ 3 ∨ s.scn.jobs = [] ∨ s.scn.state ≠ .stopped) :
    retimeRampEnd s = s := by
  unfold retimeRampEnd
  split
  next j r step jobs =>
    rw [if_pos]
    simpa [step, jobs] using h
  · rfl

/-- The retime with its outputs at 0, at the time the ramp ends (R222). -/
def rampEnded (s : State) : State := clockTo (s.scn.t3 + 1000000 * 65536) (rampEnd s)

theorem rampEnded_scn (s : State) : (rampEnded s).scn = s.scn := by
  have ended : (rampEnd s).scn = s.scn := by
    unfold rampEnd
    split <;> rfl
  exact (scn_of_panel (clockTo_panel _ _)).trans ended

theorem rampEnded_ramp (s : State) : (rampEnded s).pwr.ramp = none := by
  have ended : (rampEnd s).pwr.ramp = none := by
    unfold rampEnd
    split
    next still => exact still
    next => rfl
  exact (congrArg Pwr.ramp (pwr_of_panel (clockTo_panel _ _)) :).trans ended

theorem retimeRampEnd_switches {s : State} {j : TimingJob} {r : List TimingJob} (step : s.scn.retimeStep = 3)
    (jobs : s.scn.jobs = j :: r) (stopped : s.scn.state = .stopped) : retimeRampEnd s =
      queueGeometry (timingRecord j.timing { rampEnded s with scn := { (rampEnded s).scn with retimeStep := 4 } }) := by
  unfold retimeRampEnd
  split
  next j' r' step' jobs' =>
    obtain ⟨rfl, rfl⟩ := List.cons.inj (jobs.symm.trans jobs')
    exact if_neg (by simp [stopped])
  next other => exact absurd jobs (other j r step)

/-- The timing recorded is what the Carousel's pitch follows. -/
theorem timingRecord_pitch (t : Timing) (s : State) : (timingRecord t s).crsl.priorPitch = priorPitch t := by
  have idle (u : State) : (regionsIdle t u).crsl.priorPitch = u.crsl.priorPitch :=
    eachNat_keeps (fun v => v.crsl.priorPitch) _ _ u fun _ _ => rfl
  unfold timingRecord
  dsimp only
  split
  · rfl
  · exact idle _

/-- The geometry queued for the panels leaves the Carousel alone. -/
theorem queueGeometry_crsl (s : State) : (queueGeometry s).crsl = s.crsl := by
  refine eachNat_keeps State.crsl _ _ s fun sl u => ?_
  unfold queuePartner
  split <;> rfl

end Sys2Proof.Machine
end

section
/-! Ticks and starts, and the ramp of a retime (R162, R165, R166, R177, R179, R217, R222). -/

namespace Sys2Proof

open Machine

section
variable {s : State} (hq : Quiet s)
include hq

/-- A tick that may fall, as a row. -/
theorem frameTick_row (env : TickEnv) : exec (.frameTick env) s = row (frameTick env) s := by
  show row (fun u => frameTick env (n1Release u)) s = _
  simp only [row, finish, n1Release_quiet hq]

/-- What a tick that may fall leaves (R162, R165, R166, R179). -/
theorem tick_falls (env : TickEnv) (may : tickAllowed s = true) (timed : s.scn.inForce.isSome) :
    ∃ t, exec (.frameTick env) s = .next t ∧
      t.scn.tick = (if s.scn.first then 0 else (s.scn.tick + 1) % 2 ^ 64) ∧ t.scn.tickTb2 = nextTick s ∧
      (s.scn.retimeStep = 3 → t.scn.state = .stopped) ∧
      (s.scn.retimeStep ≠ 3 → s.pwr.state ≠ .poweringDown →
        t.scn.state = .run ∧ t.scn.line = 0 ∧ t.scn.scan.synth = false ∧ t.scn.scan.line = 0) := by
  obtain ⟨tm, u, g, js, falls, view⟩ := frameTick_begins env may timed
  have step : u.scn.retimeStep = s.scn.retimeStep := congrArg TickView.retimeStep view
  have grid : gridView (frameTick env s) = gridView u := by rw [falls]; exact tickBody_gridView
  refine ⟨_, (frameTick_row hq env).trans (row_quiet _ s hq (frameTick_holds env s)), ?tick, ?time, fun dark => ?dark,
    fun scans up => ?scans⟩
  case tick => exact (congrArg Prod.fst grid :).trans (congrArg (fun v : TickView => v.tick) view :)
  case time => exact (congrArg Prod.snd grid :).trans (congrArg (fun v : TickView => v.tickTb2) view :)
  case dark =>
    show (frameTick env s).scn.state = _
    rw [falls, tickBody_dark (step.trans dark) rfl, retimeDark_state]
  case scans =>
    have powered : u.pwr.state = s.pwr.state := congrArg (fun v : TickView => v.power) view
    obtain ⟨sc, seen, -, synth, line⟩ := tickBody_scans (env := env) (complete_ := s.scn.scan.complete) (ended := true)
      (first := false) (t := tm) (by simp [step, scans]) (powered ▸ up)
    have scan : u.scn.scan = {} := congrArg (fun v : TickView => v.scan) view
    rw [← falls] at seen
    have shown : (frameTick env s).scn.scan = sc := congrArg RasterView.scan seen
    refine ⟨(congrArg RasterView.state seen :).trans (congrArg (fun v : TickView => v.state) view :),
      (congrArg RasterView.line seen :).trans (congrArg (fun v : TickView => v.line) view :), ?_, ?_⟩
    · exact (congrArg Scan.synth shown).trans (synth.trans (by rw [scan]))
    · exact (congrArg Scan.line shown).trans (line.trans (by rw [scan]))

theorem start_row : exec .rasterStart s = .next { rasterStart s with pending := s.pending } :=
  row_quiet _ s hq (rasterStart_holds s)

/-- The start at step 5 of a power-up (R177, R217). -/
theorem start_powerUp {tm : Timing} (timed : s.scn.timing = some tm) (may : startAllowed s = true)
    (up : s.pwr.state = .poweringUp) (other : s.scn.retimeStep ≠ 4) :
    ∃ t, exec .rasterStart s = .next t ∧ t.scn.state = .run ∧ t.scn.inForce = some tm ∧
      t.scn.gridOrigin = slotAtOrAfter 0 (tb2Q s) (basePeriod tm) ∧ t.scn.tickTb2 = t.scn.gridOrigin ∧
      t.scn.scan.black = true := by
  have begun := (tickView_of_panel (retrainTick_panel (startBegun tm (tb2Q s) s))).trans (startBegun_tickView tm (tb2Q s) s)
  have powered : (retrainTick (startBegun tm (tb2Q s) s)).pwr.state = s.pwr.state :=
    congrArg (fun v : TickView => v.power) begun
  obtain ⟨sc, seen, black, -, -⟩ := tickBody_scans (env := startEnv) (complete_ := false) (ended := false) (first := true)
    (t := tm) (s := retrainTick (startBegun tm (tb2Q s) s)) (by simp) (by rw [powered, up]; simp)
  have raster : rasterView (retrainTick (startBegun tm (tb2Q s) s)) = _ := congrArg TickView.toRasterView begun
  rw [← rasterStart_powerUp timed may other, raster] at seen
  refine ⟨_, start_row hq, (congrArg RasterView.state seen :), (congrArg RasterView.inForce seen :),
    (congrArg RasterView.gridOrigin seen :), ?_, ?_⟩
  · exact (congrArg RasterView.tickTb2 seen :).trans (congrArg RasterView.gridOrigin seen :).symm
  · exact (congrArg (fun v : RasterView => v.scan.black) seen :).trans (black rfl)

/-- The start at step 4 of a retime (R179). -/
theorem start_retime {tm : Timing} (timed : s.scn.timing = some tm) (may : startAllowed s = true)
    (switch : s.scn.retimeStep = 4) (up : s.pwr.state ≠ .poweringDown) :
    ∃ t, exec .rasterStart s = .next t ∧ t.scn.state = .run ∧ t.scn.retimeStep = 5 ∧ t.scn.restart = 1 ∧
      t.scn.inForce = some tm ∧ t.scn.jobs = s.scn.jobs.drop 1 ∧ t.scn.scan.black = true := by
  let u := startBegun tm (max (tb2Q s) (s.scn.t3 + 2000000 * 65536)) s
  have first : tickView u = _ := startBegun_tickView tm _ s
  have begun : tickView (retrainTick (retimeBegun u)) =
      { tickView u with retimeStep := 5, restart := 1, jobs := u.scn.jobs.drop 1 } :=
    (tickView_of_panel (retrainTick_panel _)).trans (retimeBegun_tickView u)
  have powered : (retrainTick (retimeBegun u)).pwr.state = s.pwr.state :=
    (congrArg (fun v : TickView => v.power) begun :).trans (congrArg (fun v : TickView => v.power) first :)
  have shut : admits (retrainTick (retimeBegun u)) = false := by
    have step : (retrainTick (retimeBegun u)).scn.retimeStep = 5 := congrArg TickView.retimeStep begun
    have restart : (retrainTick (retimeBegun u)).scn.restart = 1 := congrArg TickView.restart begun
    simp [admits, step, restart]
  obtain ⟨sc, seen, black⟩ := tickBody_first (env := startEnv) (complete_ := false) (ended := false) (t := tm)
    (s := retrainTick (retimeBegun u)) (powered ▸ up) shut
  have waits : u.scn.jobs = s.scn.jobs := congrArg TickView.jobs first
  rw [← rasterStart_retime timed may switch, begun, first, waits] at seen
  exact ⟨_, start_row hq, (congrArg (fun v : TickView => v.state) seen :), (congrArg TickView.retimeStep seen :),
    (congrArg TickView.restart seen :), (congrArg (fun v : TickView => v.inForce) seen :), (congrArg TickView.jobs seen :),
    (congrArg (fun v : TickView => v.scan.black) seen :).trans black⟩

/-- The end of the ramp of a retime (R179, R222). -/
theorem ramp_ends {j : TimingJob} {r : List TimingJob} (step : s.scn.retimeStep = 3) (jobs : s.scn.jobs = j :: r)
    (stopped : s.scn.state = .stopped) :
    ∃ t, exec .retimeRampEnd s = .next t ∧ t.scn.retimeStep = 4 ∧ t.scn.timing = some j.timing ∧
      t.crsl.priorPitch = priorPitch j.timing ∧ t.pwr.ramp = none ∧ t.scn.jobs = s.scn.jobs := by
  let u := { rampEnded s with scn := { (rampEnded s).scn with retimeStep := 4 } }
  have switched : retimeRampEnd s = queueGeometry (timingRecord j.timing u) := retimeRampEnd_switches step jobs stopped
  have recorded := timingRecord_eq j.timing u
  have scn : (retimeRampEnd s).scn = { s.scn with retimeStep := 4, timing := some j.timing } := by
    rw [switched, scn_of_panel (queueGeometry_panel _), recorded]
    show { (rampEnded s).scn with retimeStep := 4, timing := some j.timing } = _
    rw [rampEnded_scn]
  have pwr : (retimeRampEnd s).pwr = (rampEnded s).pwr := by
    rw [switched, pwr_of_panel (queueGeometry_panel _), recorded]
  refine ⟨_, row_quiet _ s hq (retimeRampEnd_holds s), (congrArg Scn.retimeStep scn :), (congrArg Scn.timing scn :), ?_, ?_,
    (congrArg Scn.jobs scn :)⟩
  · show (retimeRampEnd s).crsl.priorPitch = _
    rw [switched, queueGeometry_crsl, timingRecord_pitch]
  · exact (congrArg Pwr.ramp pwr :).trans (rampEnded_ramp s)

end

/-- Settles O52: a tick keeps the number, the time and the state that it begins the raster with, whatever else it carries out;
a start begins it likewise, with a scan that is black because it is the first. -/
theorem ticksAndStarts : Obligations.TicksAndStarts := by
  intro s hq
  refine ⟨fun env shut => ?_, fun env may timed => tick_falls hq env may timed, fun shut => ?_,
    fun tm timed stopped up step handled other => ?_,
    fun tm timed may switch up => start_retime hq timed may switch up, fun shut => ?_,
    fun j r step jobs stopped => ramp_ends hq step jobs stopped⟩
  · rw [frameTick_row hq]
    exact row_noop _ s hq (frameTick_shut env shut)
  · exact row_noop _ s hq (rasterStart_shut shut)
  · exact start_powerUp hq timed (by simp [startAllowed, stopped, up, step, handled]) up other
  · exact row_noop _ s hq (retimeRampEnd_shut shut)

end Sys2Proof
end

section
/-! A FAULT of a code that the table of R205 does not list is counted with the discarded packets (R205, R206). -/

namespace Sys2Proof

open Machine

/-- A FAULT of code 0x0A: header with its HCRC, payload, PCRC. -/
def unlistedFault : List Byte :=
  let head : List Byte := [0x24, 0] ++ leBytes 2 2 ++ fill 10 0
  let body : List Byte := 0x0A :: fill 11 0
  head ++ leBytes 2 (crc32c head).toNat ++ body ++ leBytes 4 (crc32c body).toNat

/-- After reset, but with group 0 ACTIVE. -/
def activeLink : State := { State.reset with px := { State.reset.px with groups := [(0, { link := .active })] } }

theorem activeLink_quiet : Quiet activeLink := ⟨rfl, rfl, rfl, rfl⟩

theorem unlistedFault_accepted : bcOk (grp activeLink 0) 0x24 2 unlistedFault = true := by decide +kernel

theorem unlistedFault_code : leAt unlistedFault 16 1 = 10 := by decide +kernel

/-- R205: a FAULT of a code beyond the table is discarded, and nothing else follows it. -/
theorem faultForward_unlisted {g : Nat} {pkt : List Byte} (s : State) (code : 10 ≤ leAt pkt 16 1) :
    faultForward g pkt s = bcDiscard g s := by
  obtain ⟨n, hn⟩ : ∃ n, leAt pkt 16 1 = n + 10 := ⟨leAt pkt 16 1 - 10, by omega⟩
  have taken : faultTake g pkt s = bcDiscard g s := by
    unfold faultTake
    dsimp only
    rw [hn]
    rfl
  unfold faultForward
  rw [taken, hn]
  split <;> rfl

/-- Refutes O59: the clause on FAULT takes every packet that passes R206, whatever its code. One of a code that R205 does not
list is counted in PX_GRP_BC_BAD and sets BC_BAD; PARTNER_FAULT stays clear. -/
theorem not_partnersReport : ¬ Obligations.PartnersReport := by
  intro claim
  obtain ⟨-, reports, -⟩ := claim 0 unlistedFault activeLink (by decide) activeLink_quiet (by decide)
  obtain ⟨-, -, -, -, fault⟩ := reports (by decide)
  obtain ⟨t, next, flagged, -⟩ := fault unlistedFault_accepted
  have run : exec (.faultRx 0 unlistedFault) activeLink = unitRow true (faultRx 0 unlistedFault) activeLink := rfl
  have discarded : faultRx 0 unlistedFault activeLink = bcDiscard 0 activeLink := by
    have awake : bcAwake (grp activeLink 0) = true := by decide
    rw [faultRx, bcTake, if_neg (by simp [awake]), if_pos unlistedFault_accepted]
    exact faultForward_unlisted _ (by rw [unlistedFault_code])
  rw [run, unitRow_quiet _ _ activeLink_quiet (faultRx_holds 0 unlistedFault activeLink), discarded] at next
  rw [← Host.Outcome.next.inj next] at flagged
  exact absurd flagged (by decide)

end Sys2Proof
end

section
/-! SUPPORT. What a write does to the register that it reaches: panel power, the trip record, the gains of the panel link, the
peers that mesh ports expect, and the power of scratchpad banks (R190, R215, R217, R219, R264, R296, R388). -/

namespace Sys2Proof.Machine

/-- A write that reaches its register, in a quiet state. -/
theorem barWrite_exact {m off : Nat} {f : State → State} {s t : State} (hq : Quiet s) (ho : RegOpen m off true s)
    (e : f s = t) (hh : holds t = holds s) (hp : t.pending = s.pending) : row (barWrite m off f) s = .next t :=
  row_exact hq ((barWrite_open m off f s ho).trans e) hh hp

/-! ### Bits -/

theorem bitOf_put_one {i : Nat} (h : i < 32) : bitOf (put 1 i : W32) i = true := by
  simp [bitOf, put, h]

/-- Setting a bit clears none. -/
theorem bitOf_setBit_of {i : Nat} {w : W32} (j : Nat) (h : bitOf w i = true) : bitOf (setBit w j) i = true := by
  simp only [bitOf, setBit, BitVec.getLsbD_or] at h ⊢
  rw [h, Bool.true_or]

/-- A bit that has been cleared reads as clear. -/
@[simp] theorem bitOf_clrBit (w : W32) (i : Nat) : bitOf (clrBit w i) i = false := by
  by_cases h : i < 32
  · have one := bitOf_put_one h
    simp only [bitOf, clrBit, BitVec.getLsbD_and, BitVec.getLsbD_not] at one ⊢
    simp [one]
  · exact BitVec.getLsbD_of_ge _ _ (by omega)

/-- A field of one to thirty-two bits is below its power of two. -/
theorem fld_lt (w : W32) (hi lo : Nat) : fld w hi lo < 2 ^ (hi + 1 - lo) := Nat.mod_lt _ (Nat.two_pow_pos _)

/-! ### The states of panel power (R215) -/

/-- R215: a change of panel power's state, its log entry and its source apart. -/
theorem pwrTo_apart (st : PwrState) (step : Nat) (s : State) :
    apart (pwrTo st step s) = apart { s with pwr := { s.pwr with state := st, step := step } } := by
  unfold pwrTo
  dsimp only
  split
  · rfl
  · split <;> simp only [brkEvent_apart, log_apart]

@[simp] theorem pwrTo_pwr (st : PwrState) (step : Nat) (s : State) :
    (pwrTo st step s).pwr = { s.pwr with state := st, step := step } :=
  (congrArg State.pwr (pwrTo_apart st step s) :)

/-- What stands beside panel power after a change of its state. -/
theorem pwrTo_keeps (st : PwrState) (step : Nat) (s : State) :
    apart (pwrTo st step s) = apart { s with pwr := (pwrTo st step s).pwr } := by
  rw [pwrTo_pwr, pwrTo_apart]

/-! ### PANEL_ON (R217, R219, R222) -/

/-- R217: the power-up of a panel that is OFF, where nothing stands against it. -/
theorem panelOnSet_off {s : State} (off : s.pwr.state = .off) (service : noService s = false)
    (calm : s.cal.running = none) : panelOnSet s =
      let s0 : State := { s with pwr := { s.pwr with
        ctrl := setBit s.pwr.ctrl 0, onDue := false, fast := false, blackScans := 0 } }
      if s.scn.timing.isNone then pwrTo .faulted 0 (pwrErr 8 s0)
      else if !(mapOk s.pwr.r && mapOk s.pwr.g && mapOk s.pwr.b) then pwrTo .faulted 0 (pwrErr 6 s0)
      else pwrTo .poweringUp 1 { s0 with pwr := { s0.pwr with enLogic := true } } := by
  have served : ∀ p : Pwr, noService { s with pwr := p } = false := fun _ => service
  simp only [panelOnSet, off, powerUp, served, calm]
  rfl

theorem downStart_pwr (s : State) : (downStart s).pwr = s.pwr := by
  have recorded (t : Timing) (u : State) : (timingRecord t u).pwr = u.pwr := by
    unfold timingRecord
    dsimp only
    split
    · rfl
    · exact (pwr_of_panel (regionsIdle_panel t _)).trans rfl
  have ended (u : State) : (retimeEnd u).pwr = u.pwr := foldl_keeps State.pwr _ _ u fun v j => recorded j.timing v
  have stopped (u : State) : panel (playerStop u) = panel u := by
    unfold playerStop
    extract_lets p u1 u2
    have sought : panel u1 = panel u := by
      simp only [u1]
      split
      · exact complete_panel _ _ _ _ _
      · rfl
    exact (foldl_keeps panel _ _ u1 fun v w => stopDone_panel _ v).trans sought
  rw [downStart, ended, pwr_of_panel (stopped _), pwr_of_panel (abortFrames_panel _ s)]

@[simp] theorem modRail_pwrState (c : Nat) (f : VRail → VRail) (s : State) :
    ((modRail c f s).pwr.state, (modRail c f s).pwr.ctrl) = (s.pwr.state, s.pwr.ctrl) := by
  unfold modRail; split <;> rfl

/-- A ramp leaves the state of panel power and its control. -/
theorem rampDown_pwrState (fromEff : Bool) (ms : Nat) (s : State) :
    ((rampDown fromEff ms s).pwr.state, (rampDown fromEff ms s).pwr.ctrl) = (s.pwr.state, s.pwr.ctrl) :=
  eachNat_keeps (fun u => (u.pwr.state, u.pwr.ctrl)) _ _ s fun c u => modRail_pwrState c _ u

/-- R219: a power-down from ON begins: POWERING_DOWN, and the control as it was. -/
theorem powerDown_on {toFaulted : Bool} {s : State} (on : s.pwr.state = .on) (calm : s.pwr.undoing = false) :
    (powerDown toFaulted s).pwr.state = .poweringDown ∧ (powerDown toFaulted s).pwr.ctrl = s.pwr.ctrl := by
  unfold powerDown
  extract_lets up s1 p s2
  have fromOn : up = false := by simp [up, on]
  have begun : s1.pwr = { s.pwr with state := .poweringDown, step := 1 } := by
    have same : (downStart (if up = true then rampStop s else s)).pwr = s.pwr := by
      rw [fromOn]; exact downStart_pwr s
    simp only [s1, pwrTo_pwr]
    rw [holdExit_eq, same]
  have state : s2.pwr.state = .poweringDown := by simp only [s2, p, begun]
  have ctrl : s2.pwr.ctrl = s.pwr.ctrl := by simp only [s2, p, begun]
  have dimmed : ((downDim s2).pwr.state, (downDim s2).pwr.ctrl) = (s2.pwr.state, s2.pwr.ctrl) := by
    unfold downDim
    extract_lets s3
    rw [if_neg (by simp [s2, fromOn])]
    exact rampDown_pwrState _ _ _
  rw [if_neg (by simp [on, calm])]
  split
  · obtain ⟨dimState, dimCtrl⟩ := Prod.mk.inj dimmed
    exact ⟨dimState.trans state, dimCtrl.trans ctrl⟩
  · exact ⟨state, ctrl⟩

/-- R215, R222: FAULTED is left for OFF, where no change of timing waits for it. -/
theorem panelOnClear_faulted {s : State} (faulted : s.pwr.state = .faulted) (jobs : s.scn.jobs = []) :
    apart (panelOnClear s) = apart { s with pwr := (panelOnClear s).pwr } ∧ (panelOnClear s).pwr.state = .off ∧
      (panelOnClear s).pwr.ctrl = clrBit s.pwr.ctrl 0 := by
  let s1 : State := { s with pwr := { s.pwr with ctrl := clrBit s.pwr.ctrl 0, onDue := false } }
  have kept := pwrTo_apart .off 0 s1
  have scn : (pwrTo .off 0 s1).scn = s.scn := (congrArg State.scn kept :)
  have none : { (pwrTo .off 0 s1).scn with jobs := [] } = (pwrTo .off 0 s1).scn := by rw [scn, ← jobs]
  have reached : panelOnClear s = pwrTo .off 0 s1 := by
    have off : panelOnClear s = offReached s1 := by
      unfold panelOnClear
      dsimp only
      split
      next on => exact absurd (faulted.symm.trans on) (by decide)
      next up => exact absurd (faulted.symm.trans up) (by decide)
      next => rfl
      next other => exact absurd faulted other
    have own : ((pwrTo .off 0 s1).scn.jobs.filter fun j => j.hdr.src != .fw) = [] := by rw [scn, jobs]; rfl
    rw [off, offReached]
    dsimp only
    rw [own, none]
    exact if_neg (by simp [finAll, s1])
  rw [reached]
  refine ⟨?_, ?_, ?_⟩
  · rw [kept, pwrTo_pwr]
  · rw [pwrTo_pwr]
  · rw [pwrTo_pwr]

/-! ### The trip record (R388) -/

/-- The slot holds an uncleared trip record with this REC_CRC. -/
def tripNamed (v : W32) (s : State) (k : Nat) : Bool :=
  tripHeld s k && (match lkp s.mram.journal k with | some e => leAt e.content 124 4 == v.toNat | none => false)

/-- The record in a slot is cleared, and restricted mode ends. -/
def tripCleared (i : Nat) (s : State) : State :=
  let m := { s.mram with journal := modAt s.mram.journal i fun e => { e with cleared := true } }
  { s with mram := m, th := { s.th with restricted := false, tripRecord := decide (0 < tripCount { s with mram := m }) } }

theorem tripClear_eq (v : W32) (s : State) : tripClear v s =
    match (List.range 256).find? (tripNamed v s) with
    | none => s
    | some i => tripCleared i s := rfl

section
variable {s : State} {v : W32} {i : Nat} {e : JEntry} (alone : s.mram.journal = [(i, e)])
include alone

/-- In a journal of one entry only its own slot holds a trip record. -/
theorem tripHeld_alone (k : Nat) : tripHeld s k = (i == k && (e.valid && e.trip && !e.cleared)) := by
  by_cases here : i = k
  · simp [tripHeld, lkp, alone, here]
  · simp [tripHeld, lkp, alone, here]

theorem tripNamed_alone (k : Nat) : tripNamed v s k =
    (i == k && (e.valid && e.trip && !e.cleared && leAt e.content 124 4 == v.toNat)) := by
  rw [tripNamed, tripHeld_alone alone]
  by_cases here : i = k
  · simp [lkp, alone, here]
  · simp [beq_eq_false_iff_ne.2 here]

/-- R388: the record is cleared by its own CRC, and restricted mode ends. -/
theorem tripClear_named (low : i < 256) (held : (e.valid && e.trip && !e.cleared) = true)
    (crc : leAt e.content 124 4 = v.toNat) : tripClear v s = { s with
      mram := { s.mram with journal := [(i, { e with cleared := true })] }
      th := { s.th with restricted := false, tripRecord := false } } := by
  have found : (List.range 256).find? (tripNamed v s) = some i := by
    have named : tripNamed v s = fun k => i == k := funext fun k => by simp [tripNamed_alone alone, held, crc]
    rw [named, List.find?_eq_some_iff_getElem]
    refine ⟨by simp, i, by simpa using low, by simp, fun j hj => ?_⟩
    have other : i ≠ j := by omega
    simp [other]
  have cleared : modAt s.mram.journal i (fun e => { e with cleared := true }) = [(i, { e with cleared := true })] := by
    simp [modAt, alone]
  have count : tripCount { s with mram := { s.mram with journal := [(i, { e with cleared := true })] } } = 0 := by
    unfold tripCount countBelow
    rw [List.countP_eq_zero]
    intro k _
    rw [tripHeld_alone rfl]
    simp
  rw [tripClear_eq, found]
  dsimp only
  rw [tripCleared, cleared, count]
  rfl

/-- A word that is not the record's CRC changes nothing. -/
theorem tripClear_other (crc : leAt e.content 124 4 ≠ v.toNat) : tripClear v s = s := by
  have missed : (List.range 256).find? (tripNamed v s) = none := by
    rw [List.find?_eq_none]
    simp [tripNamed_alone alone, crc]
  rw [tripClear_eq, missed]

end

/-! ### The peer a port expects (R296) -/

/-- R296: no port starts while the mesh is off. -/
theorem meshStartAll_off {s : State} (off : bitOf s.trz.ctrl 0 = false) : meshStartAll s = s := by
  have shut (p : Nat) : meshEnabled s p = false := by simp [meshEnabled, off]
  have idle (l : List Nat) :
      eachNat (fun p s => if meshEnabled s p && (meshPort s p).link == .disabled then meshStart p s else s) l s = s := by
    induction l with
    | nil => rfl
    | cons p r ih => rw [eachNat, if_neg (by simp [shut]), ih]
  exact idle _

/-! ### PX_GRP_FIR (R189, R190) -/

theorem firWrite_refused {g : Nat} {v : W32} {s : State} (user : bitOf v 31 = true)
    (bad : 15 < fld v 3 0 ∨ 24 < fld v 12 8 ∨ 63 < 24 + fld v 3 0 + fld v 12 8) : firWrite g v s = pxErr 9 s := by
  have refused : firOk (fld v 3 0) (fld v 12 8) = false := by
    simp only [firOk, decide_eq_false_iff_not]
    omega
  exact if_pos (by simp [user, refused])

theorem firWrite_taken {g : Nat} {v : W32} {s : State}
    (good : bitOf v 31 = false ∨ (fld v 3 0 ≤ 15 ∧ fld v 12 8 ≤ 24 ∧ 24 + fld v 3 0 + fld v 12 8 ≤ 63)) :
    firWrite g v s = modGrp g (fun x => { x with
      fir := put (fld v 3 0) 0 ||| put (fld v 12 8) 8 ||| put (wrapN 6 (63 - (fld v 3 0 : Int) - fld v 12 8)) 16 |||
        put (fld v 26 24) 24 ||| putB (bitOf v 31) 31 }) s := by
  refine if_neg ?_
  rcases good with preset | fits
  · simp [preset]
  · simp [firOk, fits]

/-! ### SPM_BANK_PWR (R264, R280) -/

section
variable {s : State} {b : Nat} (low : b < 544) (plain : bankSecure s b = false)

/-- A bank that does not read as after reset reads as it was changed to. -/
theorem bankOf_modBank (f : Bank → Bank) (h : f (bankOf s b) ≠ bankDflt b) :
    bankOf (modBank b f s) b = f (bankOf s b) := spGet_spMod_eq _ _ _ _ h

/-- A spare is OFF after reset, as asked, and every other bank ON: no other setting reads so. -/
theorem bankDflt_power {x : Bank} (h : x = bankDflt b) : x.power = (if x.req = 0 then .on else .off) ∧ x.req ≠ 1 := by
  subst h
  unfold bankDflt
  split <;> simp

/-- A setting that is stored as asked leaves the bank's power as it was. -/
theorem bankOf_asked {k : Nat} (asks : k = 1 ∨ k = 0 ∧ (bankOf s b).power ≠ .on) :
    (bankOf (modBank b (fun x => { x with req := k }) s) b).power = (bankOf s b).power := by
  rw [bankOf_modBank]
  intro e
  obtain ⟨power, req⟩ := bankDflt_power e
  rcases asks with one | ⟨zero, off⟩
  · exact req one
  · exact off (power.trans (if_pos zero))

include low plain

/-- R264: what firmware asks of a bank beside the secure part is stored, and acts by the bank's power. -/
theorem bankPower_plain {k : Nat} (hk : k % 4 < 3) : bankPower b k s =
    let asked := modBank b (fun x => { x with req := k % 4 }) s
    match k % 4, (bankOf asked b).power with
    | 0, .off => modBank b (fun x => { x with power := .on, zeroing := true }) (bankLose b asked)
    | 0, _ => modBank b (fun x => { x with power := .on }) asked
    | 1, .on => modBank b (fun x => { x with power := .ret }) asked
    | 2, _ => modBank b (fun x => { x with power := .off, zeroing := false }) (bankLose b asked)
    | _, _ => asked := by
  have beside : bankSecure (modBank b (fun x => { x with req := k % 4 }) s) b = false := plain
  have stored (u : State) : (if 544 ≤ b || 3 ≤ k % 4 then s else u) = u := if_neg (by simp; omega)
  unfold bankPower
  dsimp only
  rw [stored, if_neg (by simp [beside, low])] <;> rfl

/-- RET is asked of a bank that is ON. -/
theorem bankPower_retains (on : (bankOf s b).power = .on) : bankPower b 1 s =
    modBank b (fun x => { x with power := .ret }) (modBank b (fun x => { x with req := 1 }) s) := by
  rw [bankPower_plain low plain (by decide)]
  dsimp only
  rw [bankOf_asked (.inl rfl), on]
  rfl

/-- ON is asked of a bank in RET: its content is kept. -/
theorem bankPower_wakes (ret : (bankOf s b).power = .ret) : bankPower b 0 s =
    modBank b (fun x => { x with power := .on }) (modBank b (fun x => { x with req := 0 }) s) := by
  rw [bankPower_plain low plain (by decide)]
  dsimp only
  rw [bankOf_asked (.inr ⟨rfl, by simp [ret]⟩), ret]
  rfl

/-- ON is asked of a bank that is OFF: it is zeroed. -/
theorem bankPower_zeroes (off : (bankOf s b).power = .off) : bankPower b 0 s =
    modBank b (fun x => { x with power := .on, zeroing := true })
      (bankLose b (modBank b (fun x => { x with req := 0 }) s)) := by
  rw [bankPower_plain low plain (by decide)]
  dsimp only
  rw [bankOf_asked (.inr ⟨rfl, by simp [off]⟩), off]
  rfl

/-- OFF is asked of a bank: its content is lost. -/
theorem bankPower_loses : bankPower b 2 s = modBank b (fun x => { x with power := .off, zeroing := false })
    (bankLose b (modBank b (fun x => { x with req := 2 }) s)) := by
  rw [bankPower_plain low plain (by decide)]
  rfl

end

end Sys2Proof.Machine
end

section
/-! Registers act as they are written (R190, R217, R219, R220, R243, R264, R299, R316, R317, R324, R381, R382, R388, R405). -/

namespace Sys2Proof

open Machine

section
variable {m : Nat} {s : State} (hq : Quiet s)
include hq

/-! ### PANEL_ON and PWRSEQ_LEGACY (R215, R217, R219, R220) -/

section
variable (ho : RegOpen m 0x500004 true s)
include ho

theorem panelOnSet_row : exec (.panelOnSet m) s = .next { panelOnSet s with pending := s.pending } :=
  row_write_quiet m 0x500004 panelOnSet s hq ho (panelOnSet_holds s)

theorem panelOnClear_row : exec (.panelOnClear m) s = .next { panelOnClear s with pending := s.pending } :=
  row_write_quiet m 0x500004 panelOnClear s hq ho (panelOnClear_holds s)

/-- R217: a panel that may be powered up is. -/
theorem panelOn_powersUp (off : s.pwr.state = .off) (service : noService s = false) (calm : s.cal.running = none)
    (timed : s.scn.timing.isSome) (r : mapOk s.pwr.r = true) (g : mapOk s.pwr.g = true) (b : mapOk s.pwr.b = true) :
    ∃ t, exec (.panelOnSet m) s = .next t ∧ t.pwr.state = .poweringUp ∧ t.pwr.step = 1 ∧ t.pwr.enLogic = true ∧
      bitOf t.pwr.ctrl 0 = true ∧ apart t = apart { s with pwr := t.pwr } := by
  have up := panelOnSet_off off service calm
  dsimp only at up
  rw [if_neg (by simpa using Option.isSome_iff_ne_none.1 timed), if_neg (by simp [r, g, b])] at up
  refine ⟨_, panelOnSet_row hq ho, ?_⟩
  rw [up]
  refine ⟨?_, ?_, ?_, ?_, ?_⟩
  · simp
  · simp
  · simp
  · simp [bitOf_setBit]
  · exact (congrArg (fun u : State => { u with pending := s.pending }) (pwrTo_keeps .poweringUp 1 _) :)

/-- R217: without a timing the panel is FAULTED. -/
theorem panelOn_untimed (off : s.pwr.state = .off) (service : noService s = false) (calm : s.cal.running = none)
    (untimed : s.scn.timing = none) : ∃ t, exec (.panelOnSet m) s = .next t ∧ t.pwr.state = .faulted ∧
      bitOf t.pwr.err 8 = true ∧ apart t = apart { s with pwr := t.pwr } := by
  have up := panelOnSet_off off service calm
  dsimp only at up
  rw [if_pos (by simp [untimed])] at up
  refine ⟨_, panelOnSet_row hq ho, ?_⟩
  rw [up]
  refine ⟨?_, ?_, ?_⟩
  · simp
  · simp [pwrErr, bitOf_setBit]
  · exact (congrArg (fun u : State => { u with pending := s.pending }) (pwrTo_keeps .faulted 0 _) :)

/-- R219: a power-down from ON. -/
theorem panelOn_powersDown (on : s.pwr.state = .on) (calm : s.pwr.undoing = false) :
    ∃ t, exec (.panelOnClear m) s = .next t ∧ t.pwr.state = .poweringDown ∧ bitOf t.pwr.ctrl 0 = false := by
  let s1 : State := { s with pwr := { s.pwr with ctrl := clrBit s.pwr.ctrl 0, onDue := false } }
  have down : panelOnClear s = powerDown false s1 := by
    unfold panelOnClear
    dsimp only
    split
    next => rfl
    next => rfl
    next faulted => exact absurd (on.symm.trans faulted) (by decide)
    next other _ _ => exact absurd on other
  obtain ⟨state, ctrl⟩ := powerDown_on (toFaulted := false) (s := s1) on calm
  refine ⟨_, panelOnClear_row hq ho, ?_, ?_⟩
  · rw [down]; exact state
  · rw [down]
    exact (congrArg (bitOf · 0) ctrl).trans (bitOf_clrBit _ 0)

theorem panelOn_leavesFaulted (faulted : s.pwr.state = .faulted) (jobs : s.scn.jobs = []) :
    ∃ t, exec (.panelOnClear m) s = .next t ∧ t.pwr.state = .off ∧ bitOf t.pwr.ctrl 0 = false ∧
      apart t = apart { s with pwr := t.pwr } := by
  obtain ⟨kept, state, ctrl⟩ := panelOnClear_faulted faulted jobs
  exact ⟨_, panelOnClear_row hq ho, state, (congrArg (bitOf · 0) ctrl :).trans (bitOf_clrBit _ 0),
    (congrArg (fun u : State => { u with pending := s.pending }) kept :)⟩

theorem pwrseqLegacy_off (on : Bool) (off : s.pwr.state = .off) : exec (.pwrseqLegacyWrite m on) s =
    .next { s with pwr := { s.pwr with ctrl := if on then setBit s.pwr.ctrl 1 else clrBit s.pwr.ctrl 1 } } :=
  barWrite_exact hq ho (if_neg (by simp [off])) rfl rfl

theorem pwrseqLegacy_up (on : Bool) (up : s.pwr.state ≠ .off) : exec (.pwrseqLegacyWrite m on) s = .next s :=
  barWrite_exact hq ho (if_pos (by simp [up])) rfl rfl

end

/-! ### The Tightrope (R381, R382, R388) -/

theorem thLimits_close {v : W32} (ho : RegOpen m 0x400010 true s)
    (close : min (sext 16 (fld v 31 16)) 0x6E0 - min (sext 16 (fld v 15 0)) 0x640 < 64) :
    exec (.thLimitsWrite m v) s = .next { s with th := { s.th with err := setBit s.th.err 6 } } :=
  barWrite_exact hq ho (if_pos close) rfl rfl

theorem thLimits_apart {v : W32} (ho : RegOpen m 0x400010 true s)
    (wide : 64 ≤ min (sext 16 (fld v 31 16)) 0x6E0 - min (sext 16 (fld v 15 0)) 0x640) :
    exec (.thLimitsWrite m v) s = .next { s with th := { s.th with
      limits := put (wrapN 16 (min (sext 16 (fld v 15 0)) 0x640)) 0 |||
        put (wrapN 16 (min (sext 16 (fld v 31 16)) 0x6E0)) 16 } } :=
  barWrite_exact hq ho (if_neg (not_lt.2 wide)) rfl rfl

/-! ### Turnstile entries (R405, R406, R416) -/

section
variable (ho : RegOpen m 0x20004C true s) (fw : fwMaster m = true)
include ho fw

/-- Firmware's APPLY. -/
theorem trnEntry_exact {t : State} (e : trnApply s = t) (hh : holds t = holds s) (hp : t.pending = s.pending) :
    exec (.trnEntryApply m) s = .next t :=
  barWrite_exact hq ho ((if_pos fw).trans e) hh hp

theorem trnEntry_applies (may : s.trn.lock = false ∨ fld s.trn.sel 7 0 < 128) : exec (.trnEntryApply m) s =
    .next (trnSet (fld s.trn.sel 9 8) (fld s.trn.sel 7 0) (spGet {} s.trn.staged (trnKey s)) s) := by
  refine trnEntry_exact hq ho fw (if_neg ?_) rfl rfl
  rcases may with free | low
  · simp [free]
  · simp [Nat.not_le.2 low]

theorem trnEntry_locked (lock : s.trn.lock = true) (high : 128 ≤ fld s.trn.sel 7 0) :
    exec (.trnEntryApply m) s = .next s :=
  trnEntry_exact hq ho fw (if_pos (by simp [lock, high])) rfl rfl

end

/-! ### Time bases (R316, R317, R324) -/

theorem clpSnap_latches {v : W32} (ho : RegOpen m 0x300008 true s) : exec (.clpSnap m v) s =
    .next { s with clp := { s.clp with
      snap := qTime (match fld v 1 0 with | 0 => tb0Q s | 1 => tb1Q s | 2 => tb2Q s | _ => tb3Q s) } } := by
  have same : fld v 1 0 % 4 = fld v 1 0 := Nat.mod_eq_of_lt (fld_lt v 1 0)
  refine barWrite_exact hq ho ?_ rfl rfl
  unfold clpSnap
  rw [same] <;> rfl

theorem clpTb1_steps {v : W32} (ho : RegOpen m 0x300030 true s) (master : bitOf s.trz.time 8 = true) :
    let q := signedQ (put v.toNat 64 ||| put s.clp.step1.toNat 32 ||| put s.clp.step0.toNat 0)
    exec (.clpTb1Step m v) s = .next { s with clp := { s.clp with
      tb1 := s.clp.tb1 + q * 2 ^ 32, slew := if s.scn.state == .stopped then s.clp.slew else s.clp.slew - q } } :=
  barWrite_exact hq ho (if_pos master) rfl rfl

theorem clpTb1_follows {v : W32} (ho : RegOpen m 0x300030 true s) (follower : bitOf s.trz.time 8 = false) :
    exec (.clpTb1Step m v) s = .next s :=
  barWrite_exact hq ho (if_neg (by simp [follower])) rfl rfl

section
variable {v : W32} (ho : RegOpen m 0x300048 true s)
include ho

theorem clpTb2_applies (stopped : s.scn.state = .stopped) : exec (.clpTb2OffsetWrite m v) s =
    .next { s with clp := { s.clp with
      tb2Ofs := setWord s.clp.tb2Ofs 2 v, ofs2 := signedQ (setWord s.clp.tb2Ofs 2 v), ofs2New := none } } := by
  refine barWrite_exact hq ho ?_ rfl rfl
  unfold tb2OffsetWrite
  dsimp only
  rw [if_pos (by simp [stopped])]

theorem clpTb2_waits (runs : s.scn.state ≠ .stopped) : exec (.clpTb2OffsetWrite m v) s =
    .next { s with clp := { s.clp with
      tb2Ofs := setWord s.clp.tb2Ofs 2 v, ofs2New := some (signedQ (setWord s.clp.tb2Ofs 2 v)) } } := by
  refine barWrite_exact hq ho ?_ rfl rfl
  unfold tb2OffsetWrite
  dsimp only
  rw [if_neg (by simp [runs])]

end

/-! ### The Juggler, the mesh and the panel link (R190, R247, R296) -/

section
variable {ch : Nat} (ho : RegOpen m 0x1900020 true s) (job : s.jgl.job = some (.foldCopy ch))
include ho job

theorem jglFold_acked (reported : s.jgl.fold.isSome) :
    exec (.jglFoldAck m) s = .next { s with jgl := { s.jgl with foldAck := true } } := by
  refine barWrite_exact hq ho ?_ rfl rfl
  unfold foldAck
  rw [job]
  exact if_pos reported

theorem jglFold_early (unreported : s.jgl.fold = none) : exec (.jglFoldAck m) s = .next s := by
  refine barWrite_exact hq ho ?_ rfl rfl
  unfold foldAck
  rw [job]
  exact if_neg (by simp [unreported])

end

theorem trzPortExpect_off {v : W32} (ho : RegOpen m 0x1500050 true s) (port : s.trz.portSel < 6)
    (off : bitOf s.trz.ctrl 0 = false) : exec (.trzPortExpectWrite m v) s =
      .next (modMesh s.trz.portSel (fun x => { x with expect := v &&& 0x80003FFF, miswired := false }) s) :=
  barWrite_exact hq ho ((if_pos port).trans (meshStartAll_off off)) rfl rfl

section
variable {v : W32} (ho : RegOpen m 0x1400028 true s)
include ho

theorem pxGrpFir_refused (user : bitOf v 31 = true)
    (bad : 15 < fld v 3 0 ∨ 24 < fld v 12 8 ∨ 63 < 24 + fld v 3 0 + fld v 12 8) :
    exec (.pxGrpFirWrite m v) s = .next { s with px := { s.px with err := setBit s.px.err 9 } } :=
  barWrite_exact hq ho (firWrite_refused user bad) rfl rfl

theorem pxGrpFir_taken
    (good : bitOf v 31 = false ∨ (fld v 3 0 ≤ 15 ∧ fld v 12 8 ≤ 24 ∧ 24 + fld v 3 0 + fld v 12 8 ≤ 63)) :
    exec (.pxGrpFirWrite m v) s = .next (modGrp s.px.grpSel (fun x => { x with
      fir := put (fld v 3 0) 0 ||| put (fld v 12 8) 8 ||| put (wrapN 6 (63 - (fld v 3 0 : Int) - fld v 12 8)) 16 |||
        put (fld v 26 24) 24 ||| putB (bitOf v 31) 31 }) s) :=
  barWrite_exact hq ho (firWrite_taken good) rfl rfl

end

/-! ### SPM_BANK_PWR (R264) -/

/-- Firmware's write of SPM_BANK_PWR. -/
theorem spmBankPwr_exact {v : W32} {k : Nat} {t : State} (ho : RegOpen m 0x1800028 true s) (fw : fwMaster m = true)
    (asks : fld v 1 0 = k) (e : bankPower s.spm.bankSel k s = t) (hh : holds t = holds s) (hp : t.pending = s.pending) :
    exec (.spmBankPwrWrite m v) s = .next t :=
  barWrite_exact hq ho ((if_pos fw).trans (by rw [asks, e])) hh hp

end

/-- Settles O39: in a quiet state each write does its register's own operation. -/
theorem registerWritesAct : Obligations.RegisterWritesAct := by
  intro m s hq
  refine ⟨fun ho off service calm => ⟨?up, ?untimed⟩, fun ho => ⟨?down, ?clear⟩, fun on ho => ⟨?legacy, ?legacyUp⟩, ?ack,
    fun v i e ho alone low valid trip held => ⟨?tripCleared, ?tripOther⟩, fun v ho => ⟨?close, ?wide⟩,
    fun ho fw => ⟨?applies, ?locked⟩, ?snap, fun v ho => ⟨?steps, ?follows⟩, ?tb0, fun v ho => ⟨?tb2, ?tb2Waits⟩, ?tb3,
    fun ch ho job => ⟨?acked, ?early⟩, ?expect, fun v ho => ⟨?refused, ?taken⟩,
    fun v ho low fw plain => ⟨?retains, ?wakes, ?zeroes, ?loses⟩⟩
  case up => exact panelOn_powersUp hq ho off service calm
  case untimed => exact panelOn_untimed hq ho off service calm
  case down => exact panelOn_powersDown hq ho
  case clear => exact panelOn_leavesFaulted hq ho
  case legacy => exact pwrseqLegacy_off hq ho on
  case legacyUp => exact pwrseqLegacy_up hq ho on
  case ack => exact fun ho forced => barWrite_exact hq ho (if_pos forced) rfl rfl
  case tripCleared =>
    exact fun crc => barWrite_exact hq ho (tripClear_named alone low (by simp [valid, trip, held]) crc) rfl rfl
  case tripOther => exact fun crc => barWrite_exact hq ho (tripClear_other alone crc) rfl rfl
  case close => exact thLimits_close hq ho
  case wide => exact thLimits_apart hq ho
  case applies => exact trnEntry_applies hq ho fw
  case locked => exact trnEntry_locked hq ho fw
  case snap => exact fun v ho => clpSnap_latches hq ho
  case steps => exact clpTb1_steps hq ho
  case follows => exact clpTb1_follows hq ho
  case tb0 => exact fun v ho => barWrite_exact hq ho (f := tb0OffsetWrite v) rfl rfl rfl
  case tb2 => exact clpTb2_applies hq ho
  case tb2Waits => exact clpTb2_waits hq ho
  case tb3 => exact fun v ho => barWrite_exact hq ho (f := tb3SetWrite v) rfl rfl rfl
  case acked => exact jglFold_acked hq ho job
  case early => exact jglFold_early hq ho job
  case expect => exact fun v ho port off => trzPortExpect_off hq ho port off
  case refused => exact pxGrpFir_refused hq ho
  case taken => exact pxGrpFir_taken hq ho
  case retains => exact fun asks on => spmBankPwr_exact hq ho fw asks (bankPower_retains low plain on) rfl rfl
  case wakes => exact fun asks ret => spmBankPwr_exact hq ho fw asks (bankPower_wakes low plain ret) rfl rfl
  case zeroes => exact fun asks off => spmBankPwr_exact hq ho fw asks (bankPower_zeroes low plain off) rfl rfl
  case loses => exact fun asks => spmBankPwr_exact hq ho fw asks (bankPower_loses low plain) rfl rfl

end Sys2Proof
end

section
/-! SUPPORT. What events, log entries, transitions and requests of units leave alone, how a unit reads after a transition, and
the entries of collections whose numbers rise (R348, R349, R356, R367). -/

namespace Sys2Proof.Machine

/-! ### Collections whose numbers rise -/

section
variable {α : Type} {m : Sparse α}

/-- The numbers of a collection rise. -/
def Rises (m : Sparse α) : Prop := m.Pairwise fun x y => x.1 < y.1

theorem rises_of_wf [DecidableEq α] {d : α} (h : spWf d m = true) : Rises m := ((spWfFrom_iff d 0 m).1 h).2

/-- Below its first number a collection reads as the default. -/
theorem spGet_below {d : α} {i : Nat} (h : ∀ c ∈ m, i < c.1) : spGet d m i = d := by
  induction m with
  | nil => rfl
  | cons c r ih =>
    obtain ⟨k, w⟩ := c
    have above : i < k := h (k, w) (List.mem_cons_self ..)
    rw [spGet, if_neg (by omega), ih fun c hc => h c (List.mem_cons_of_mem _ hc)]

variable [DecidableEq α] {d : α}

/-- What is put into a collection whose numbers rise reads back, be it the default or not. -/
theorem spGet_spSet_rises {i : Nat} {v : α} (h : Rises m) : spGet d (spSet d m i v) i = v := by
  by_cases other : v = d
  · subst other
    induction m with
    | nil => simp [spSet, spGet]
    | cons c r ih =>
      obtain ⟨k, w⟩ := c
      obtain ⟨first, rest⟩ := List.pairwise_cons.1 h
      rw [spSet]
      split
      next low =>
        rw [if_pos rfl]
        refine spGet_below fun c hc => ?_
        rcases List.mem_cons.1 hc with rfl | hc
        · exact low
        · exact low.trans (first c hc)
      next =>
        split
        next here =>
          rw [if_pos rfl]
          exact spGet_below fun c hc => here ▸ first c hc
        next there => rw [spGet, if_neg (Ne.symm there), ih rest]
  · exact spGet_spSet_eq d m i v other

/-- The numbers of a collection with an entry set are its own and the entry's. -/
theorem spSet_numbers {i : Nat} {v : α} : ∀ c ∈ spSet d m i v, c.1 = i ∨ ∃ x ∈ m, x.1 = c.1 := by
  induction m with
  | nil =>
    intro c hc
    rw [spSet] at hc
    split at hc
    · simp at hc
    · exact .inl (by rw [List.mem_singleton.1 hc])
  | cons x r ih =>
    obtain ⟨k, w⟩ := x
    intro c hc
    have kept (hc : c ∈ (k, w) :: r) : c.1 = i ∨ ∃ x ∈ (k, w) :: r, x.1 = c.1 := .inr ⟨c, hc, rfl⟩
    have put (hc : c ∈ (i, v) :: (k, w) :: r) : c.1 = i ∨ ∃ x ∈ (k, w) :: r, x.1 = c.1 := by
      rcases List.mem_cons.1 hc with rfl | hc
      · exact .inl rfl
      · exact kept hc
    rw [spSet] at hc
    split at hc
    · split at hc
      · exact kept hc
      · exact put hc
    · split at hc
      · split at hc
        · exact kept (List.mem_cons_of_mem _ hc)
        · rcases List.mem_cons.1 hc with rfl | hc
          · exact .inl rfl
          · exact kept (List.mem_cons_of_mem _ hc)
      · rcases List.mem_cons.1 hc with rfl | hc
        · exact kept (List.mem_cons_self ..)
        · rcases ih c hc with here | ⟨x, hx, e⟩
          · exact .inl here
          · exact .inr ⟨x, List.mem_cons_of_mem _ hx, e⟩

theorem spSet_rises {i : Nat} {v : α} (h : Rises m) : Rises (spSet d m i v) := by
  induction m with
  | nil =>
    rw [spSet]
    split
    · exact List.Pairwise.nil
    · exact List.pairwise_singleton _ _
  | cons x r ih =>
    obtain ⟨k, w⟩ := x
    obtain ⟨first, rest⟩ := List.pairwise_cons.1 h
    rw [spSet]
    split
    next low =>
      split
      · exact h
      · refine List.pairwise_cons.2 ⟨fun c hc => ?_, h⟩
        rcases List.mem_cons.1 hc with rfl | hc
        · exact low
        · exact low.trans (first c hc)
    next high =>
      split
      next here =>
        split
        · exact rest
        · exact List.pairwise_cons.2 ⟨fun c hc => here ▸ first c hc, rest⟩
      next there =>
        refine List.pairwise_cons.2 ⟨fun c hc => ?_, ih rest⟩
        rcases spSet_numbers c hc with e | ⟨x, hx, e⟩
        · show k < c.1
          omega
        · exact e ▸ first x hx

end

/-! ### What events and units leave alone -/

/-- A state but for what an event, a log entry and the units' states and requests may change. -/
def besideUnits (s : State) : State := { s with
  hq := { s.hq with ha := {}, hb := {}, unitTurns := [] }, brk := {}, log := {}, units := [], unitReqs := [], out := [] }

@[simp] theorem modPort_besideUnits (p : Port) (f : HostPort → HostPort) (s : State) :
    besideUnits (modPort p f s) = besideUnits s := by cases p <;> rfl
@[simp] theorem brkSend_besideUnits (n : Nat) (s : State) : besideUnits (brkSend n s) = besideUnits s := by
  have sent (p : Port) (v : Nat) (u : State) : besideUnits (msixSend p v u) = besideUnits u :=
    ite_keeps besideUnits (modPort_besideUnits _ _ _) (modPort_besideUnits _ _ _)
  have owed (p : Port) (u : State) : besideUnits (pmeOwed p u) = besideUnits u :=
    ite_keeps besideUnits (modPort_besideUnits _ _ _) rfl
  unfold brkSend
  dsimp only
  split
  · rfl
  · exact ite_keeps besideUnits (sent _ _ _) (owed _ _)
@[simp] theorem brkToHost_besideUnits (n : Nat) (s : State) : besideUnits (brkToHost n s) = besideUnits s :=
  ite_keeps besideUnits (brkSend_besideUnits _ _) rfl
@[simp] theorem brkEvent_besideUnits (n : Nat) (s : State) : besideUnits (brkEvent n s) = besideUnits s :=
  brkToHost_besideUnits n _
@[simp] theorem brkLevel_besideUnits (n : Nat) (v : Bool) (s : State) : besideUnits (brkLevel n v s) = besideUnits s :=
  ite_keeps besideUnits (ite_keeps besideUnits rfl (brkToHost_besideUnits _ _)) rfl
@[simp] theorem logFrom_besideUnits (core : Nat) (name : LogName) (args : List Nat) (s : State) :
    besideUnits (logFrom core name args s) = besideUnits s :=
  ite_keeps besideUnits (ite_keeps besideUnits (brkEvent_besideUnits _ _) rfl) rfl
@[simp] theorem log_besideUnits (name : LogName) (args : List Nat) (s : State) :
    besideUnits (log name args s) = besideUnits s := logFrom_besideUnits 0 name args s
@[simp] theorem unitTo_besideUnits (cls idx : Nat) (st : UState) (cause : Nat) (s : State) :
    besideUnits (unitTo cls idx st cause s) = besideUnits s :=
  (brkEvent_besideUnits _ _).trans (logFrom_besideUnits _ _ _ _)
@[simp] theorem unitReq_besideUnits (cls idx : Nat) (lasting : Bool) (s : State) :
    besideUnits (unitReq cls idx lasting s) = besideUnits s :=
  ite_keeps besideUnits rfl (brkLevel_besideUnits _ _ _)
@[simp] theorem unitTransient_besideUnits (cls idx : Nat) (s : State) :
    besideUnits (unitTransient cls idx s) = besideUnits s := ite_keeps besideUnits (unitReq_besideUnits _ _ _ _) rfl
@[simp] theorem unitLasting_besideUnits (cls idx : Nat) (s : State) :
    besideUnits (unitLasting cls idx s) = besideUnits s := ite_keeps besideUnits (unitReq_besideUnits _ _ _ _) rfl
@[simp] theorem unitReqsLeft_besideUnits (cls idx : Nat) (rest : List UnitReq) (s : State) :
    besideUnits (unitReqsLeft cls idx rest s) = besideUnits s := by
  unfold unitReqsLeft
  extract_lets queues s1 s2
  have cleared : besideUnits s2 = besideUnits s := ite_keeps besideUnits (b := modUnit _ _ _ s1) rfl rfl
  exact ite_keeps besideUnits cleared ((brkLevel_besideUnits _ _ _).trans cleared)
@[simp] theorem frontPop_besideUnits (s : State) : besideUnits (frontPop s) = besideUnits s := by
  unfold frontPop
  split
  · rfl
  · exact unitReqsLeft_besideUnits _ _ _ s

section
variable {s t : State} (h : besideUnits t = besideUnits s)
include h

theorem px_of_units : t.px = s.px := (congrArg State.px h :)
theorem trz_of_units : t.trz = s.trz := (congrArg State.trz h :)
theorem mram_of_units : t.mram = s.mram := (congrArg State.mram h :)
theorem pwr_of_units : t.pwr = s.pwr := (congrArg State.pwr h :)
theorem panel_of_units : panel t = panel s := panel_eq_iff.2 ⟨(congrArg State.scn h :), pwr_of_units h⟩

end

/-! ### How a unit reads (R347 to R349) -/

theorem unitOf_congr {s t : State} (units : t.units = s.units) (gen : t.genBase = s.genBase) (cls idx : Nat) :
    unitOf t cls idx = unitOf s cls idx := by rw [unitOf, unitOf, units, gen]

theorem unitOf_of_apart {s t : State} (h : apart t = apart s) (cls idx : Nat) : unitOf t cls idx = unitOf s cls idx :=
  unitOf_congr (congrArg State.units h :) (congrArg State.genBase h :) cls idx

theorem unitOf_modUnit_ne {cls idx idx' : Nat} (f : UnitEntry → UnitEntry) (s : State) (h : idx' ≠ idx) :
    unitOf (modUnit cls idx f s) cls idx' = unitOf s cls idx' :=
  spGet_spSet_other _ _ _ _ _ _ (by unfold unitKey; omega)

theorem unitOf_modUnit {cls idx : Nat} (f : UnitEntry → UnitEntry) (s : State)
    (h : f (unitOf s cls idx) ≠ unitDflt s.genBase cls idx) : unitOf (modUnit cls idx f s) cls idx = f (unitOf s cls idx) :=
  spGet_spMod_eq _ _ _ _ h

/-- A transition leaves the other units of its class. -/
theorem unitOf_unitTo_ne {cls idx idx' : Nat} (st : UState) (cause : Nat) (s : State) (h : idx' ≠ idx) :
    unitOf (unitTo cls idx st cause s) cls idx' = unitOf s cls idx' :=
  (unitOf_of_apart ((brkEvent_apart _ _).trans (logFrom_apart _ _ _ _)) _ _).trans (unitOf_modUnit_ne _ s h)

/-- A unit after a transition that leaves it otherwise than a start without faults does. -/
theorem unitOf_unitTo {cls idx : Nat} {st : UState} {cause : Nat} {s : State}
    (h : (unitDflt s.genBase cls idx).state ≠ st ∨ (unitDflt s.genBase cls idx).cause ≠ cause) :
    (unitOf (unitTo cls idx st cause s) cls idx).state = st ∧ (unitOf (unitTo cls idx st cause s) cls idx).cause = cause := by
  have after : unitOf (unitTo cls idx st cause s) cls idx =
      { unitOf s cls idx with state := st, gen := (unitOf s cls idx).gen + 1, cause := cause } := by
    refine (unitOf_of_apart ((brkEvent_apart _ _).trans (logFrom_apart _ _ _ _)) _ _).trans (unitOf_modUnit _ s ?_)
    intro e
    rw [← e] at h
    simp at h
  rw [after]
  exact ⟨rfl, rfl⟩

end Sys2Proof.Machine
end

section
/-! SUPPORT. The groups of the panel link in training: how a group reads after a change, what each training event does to it,
and the end of step 2 of a power-up (R189, R190, R194 to R197, R210 to R212, R217, R218). -/

namespace Sys2Proof.Machine

/-! ### How a group reads -/

/-- Where the groups' numbers rise, a group reads as it was changed to. -/
theorem grp_modGrp_rises (g : Nat) (f : Group → Group) {s : State} (h : Rises s.px.groups) :
    grp (modGrp g f s) g = f (grp s g) := spGet_spSet_rises h

theorem modGrp_rises (g : Nat) (f : Group → Group) {s : State} (h : Rises s.px.groups) :
    Rises (modGrp g f s).px.groups := spSet_rises h

theorem grp_congr {s t : State} (h : t.px = s.px) (g : Nat) : grp t g = grp s g := by rw [grp, grp, h]

theorem pending_of_units {s t : State} (h : besideUnits t = besideUnits s) : t.pending = s.pending :=
  (congrArg State.pending h :)

theorem grp_of_units {s t : State} (h : besideUnits t = besideUnits s) (g : Nat) : grp t g = grp s g :=
  grp_congr (px_of_units h) g

/-! ### Training sets that leave (R194, R195) -/

/-- A state but for what leaves the device. -/
def besideOut (s : State) : State := { s with out := [] }

theorem eq_of_besideOut {s t : State} (h : besideOut t = besideOut s) : t = { s with out := t.out } :=
  congrArg (fun u : State => { u with out := t.out }) h

theorem px_of_besideOut {s t : State} (h : besideOut t = besideOut s) : t.px = s.px := (congrArg State.px h :)
theorem pending_of_besideOut {s t : State} (h : besideOut t = besideOut s) : t.pending = s.pending :=
  (congrArg State.pending h :)
theorem panel_of_besideOut {s t : State} (h : besideOut t = besideOut s) : panel t = panel s := (congrArg panel h :)

theorem eq_of_linked {s t u : State} (sent : besideOut t = besideOut u) (linked : u = { s with px := u.px }) :
    t = { s with px := t.px, out := t.out } := by
  rw [eq_of_besideOut sent, linked]

/-- Training sets leave the device, and nothing else changes. -/
theorem sendTs_besideOut (g kind flags : Nat) (s : State) : besideOut (sendTs g kind flags s) = besideOut s := by
  unfold sendTs
  exact eachNat_keeps besideOut _ _ s fun _ _ => rfl

theorem sendTs_px (g kind flags : Nat) (s : State) : (sendTs g kind flags s).px = s.px :=
  px_of_besideOut (sendTs_besideOut g kind flags s)
@[simp] theorem grp_sendTs (g kind flags k : Nat) (s : State) : grp (sendTs g kind flags s) k = grp s k :=
  grp_congr (sendTs_px g kind flags s) k
@[simp] theorem sendTs_pending (g kind flags : Nat) (s : State) : (sendTs g kind flags s).pending = s.pending :=
  pending_of_besideOut (sendTs_besideOut g kind flags s)
@[simp] theorem sendTs_panel (g kind flags : Nat) (s : State) : panel (sendTs g kind flags s) = panel s :=
  panel_of_besideOut (sendTs_besideOut g kind flags s)

/-- Sixteen TS2 are counted. -/
theorem grp_sendTs2 (g : Nat) (s : State) (h : (grp s g).link ≠ .disabled) :
    grp (sendTs2 g s) g = { grp s g with ts2Tx := (grp s g).ts2Tx + 16 } := by
  have counted (l : List Nat) (u : State) (hu : (grp u g).link ≠ .disabled) :
      grp (eachNat (fun _ s => modGrp g (fun x => { x with ts2Tx := x.ts2Tx + 1 }) (sendTs g 0x2D 0 s)) l u) g =
        { grp u g with ts2Tx := (grp u g).ts2Tx + l.length } := by
    induction l generalizing u with
    | nil => rfl
    | cons n r ih =>
      have once : grp (modGrp g (fun x => { x with ts2Tx := x.ts2Tx + 1 }) (sendTs g 0x2D 0 u)) g =
          { grp u g with ts2Tx := (grp u g).ts2Tx + 1 } := by
        rw [grp_modGrp g _ _ (by rw [grp_sendTs]; exact hu), grp_sendTs]
      rw [eachNat, ih _ (by rw [once]; exact hu), once]
      simp only [List.length_cons]
      congr 1
      omega
  unfold sendTs2
  rw [counted _ s h]
  rfl

@[simp] theorem sendTs2_panel (g : Nat) (s : State) : panel (sendTs2 g s) = panel s := by
  unfold sendTs2
  exact eachNat_keeps panel _ _ s fun _ u => (modGrp_panel _ _ _).trans (sendTs_panel g 0x2D 0 u)

@[simp] theorem sendTs2_pending (g : Nat) (s : State) : (sendTs2 g s).pending = s.pending := by
  unfold sendTs2
  exact eachNat_keeps State.pending _ _ s fun _ u => (modGrp_pending _ _ _).trans (sendTs_pending g 0x2D 0 u)

/-! ### A training begins (R190, R195, R211) -/

theorem setSel_eq (h v : Nat) (s : State) : setSel h v s = { s with px := (setSel h v s).px } := by
  unfold setSel; split <;> rfl
theorem setSel_groups (h v : Nat) (s : State) : (setSel h v s).px.groups = s.px.groups := by
  unfold setSel; split <;> rfl
theorem setSel_sliceMap (h v : Nat) (s : State) : (setSel h v s).px.sliceMap = s.px.sliceMap := by
  unfold setSel; split <;> rfl
theorem setSel_bringIn (h v : Nat) (s : State) : (setSel h v s).px.bringIn = s.px.bringIn := by
  unfold setSel; split <;> rfl

theorem selectServing_eq (g : Nat) (s : State) : selectServing g s = { s with px := (selectServing g s).px } := by
  unfold selectServing
  split
  · split
    · exact setSel_eq _ _ _
    · rfl
  · rfl
theorem grp_selectServing (g k : Nat) (s : State) : grp (selectServing g s) k = grp s k := by
  unfold selectServing
  split
  · split
    · rw [grp, setSel_groups, grp]
    · rfl
  · rfl

/-- R190, R195: a group whose training begins. -/
theorem grp_trainStart (g : Nat) (second : Bool) (s : State) : grp (trainStart g second s) g = { grp s g with
    link := .detect, second := second, miswired := false, spanWhole := false, firIn := (grp s g).fir
    pre := (firStart (grp s g).fir).1, post := (firStart (grp s g).fir).2
    trainings := satAdd 8 (grp s g).trainings 1, eqOk := 0, eqReqs := 0, ts2Rx := 0, ts2Tx := 0, bcDown := false } :=
  grp_modGrp g _ s (by simp)

@[simp] theorem trainStart_panel (g : Nat) (second : Bool) (s : State) : panel (trainStart g second s) = panel s := rfl

section
variable {g : Nat} {s : State}

theorem trainRequest_shut
    (shut : bitOf s.px.ctrl 0 = false ∨ ((grp s g).link ≠ .disabled ∧ (grp s g).link ≠ .failed)) : trainRequest g s = s := by
  refine if_pos ?_
  rcases shut with off | ⟨up, well⟩
  · simp [off]
  · simp [up, well]

theorem trainRequest_barred (barred : mayTrain s g = false) : trainRequest g s = s := by
  unfold trainRequest
  dsimp only
  split
  · rfl
  · exact if_pos (by simp [barred])

theorem trainRequest_starts (on : bitOf s.px.ctrl 0 = true) (idle : (grp s g).link = .disabled ∨ (grp s g).link = .failed)
    (serving : serves s g = true) (may : mayTrain s g = true) :
    trainRequest g s = trainStart g false (selectServing g s) := by
  unfold trainRequest
  dsimp only
  rw [if_neg (by rcases idle with h | h <;> simp [on, h]), if_neg (by simp [may]), if_pos serving]

end

/-! ### The back channel's lock (R195, R208) -/

section
variable {g : Nat} {s : State}

theorem backLock_detect (h : (grp s g).link = .detect) : backLock g s = sendTs g 0x1E 0 (linkTo g .trainEq s) := by
  unfold backLock; rw [h]
theorem backLock_retrained (h : (grp s g).link = .bcRetrain) :
    backLock g s = modGrp g (fun x => { x with bcSecond := false, bcDown := false }) (linkTo g .active s) := by
  unfold backLock; rw [h]
theorem backLock_sleep (h : (grp s g).link = .sleep) :
    backLock g s = modGrp g (fun x => { x with bcDown := false }) s := by
  unfold backLock; rw [h]
theorem backLock_other (detect : (grp s g).link ≠ .detect) (retrain : (grp s g).link ≠ .bcRetrain)
    (sleep : (grp s g).link ≠ .sleep) : backLock g s = s := by
  unfold backLock
  split <;> first | contradiction | rfl

end

/-! ### Training sets received (R194 to R196) -/

section
variable {g : Nat} {ts : TsBytes} {s : State}

theorem tsRx_ignored (h : tsCheck ts = false ∨ ((grp s g).link ≠ .trainEq ∧ (grp s g).link ≠ .trainCfg)) :
    tsRx g ts s = s := by
  unfold tsRx
  dsimp only
  rcases h with bad | ⟨eq, cfg⟩
  · rw [if_pos (by simp [bad])]
  · rw [if_neg (c := (_ && _) = true) (by simp [eq]), if_neg (c := (_ && _) = true) (by simp [cfg])]
    split <;> rfl

theorem tsRx_ts1 (check : tsCheck ts = true) (kind : byteAt ts 0 = 0x1E) (eq : (grp s g).link = .trainEq) :
    tsRx g ts s = ts1Rx g ts s := by
  unfold tsRx
  dsimp only
  rw [if_neg (by simp [check]), if_pos (by simp [kind, eq])]

theorem tsRx_ts2 (check : tsCheck ts = true) (kind : byteAt ts 0 = 0x2D) (cfg : (grp s g).link = .trainCfg) :
    tsRx g ts s = ts2Rx g ts s := by
  unfold tsRx
  dsimp only
  rw [if_neg (by simp [check]), if_neg (by simp [kind]), if_pos (by simp [kind, cfg])]

/-- R195: a TS1 that asks for nothing is counted; the eighth in a row leads to TRAIN_CFG, but not in TEST. -/
theorem ts1Rx_calm (req : bitOf (byteAt ts 3) 0 = false) (preset : bitOf (byteAt ts 3) 2 = false) : ts1Rx g ts s =
    let s1 := modGrp g (fun x => { x with eqOk := (grp s g).eqOk + 1 }) s
    if linkTest s g then sendTs g 0x1E 0 s1
    else if 8 ≤ (grp s g).eqOk + 1 then sendTs2 g (linkTo g .trainCfg s1) else s1 := by
  unfold ts1Rx
  simp only [req, preset, Bool.or_false, Bool.false_eq_true, if_false, Bool.not_false, if_true]

/-- R196: a TS2 of the partner that the group trains against. -/
theorem ts2Rx_right (right : trainSlice s g = some (fld (byteAt ts 2) 4 0)) (inA : bitOf (byteAt ts 2) 7 = false) :
    ts2Rx g ts s = modGrp g (fun x => { x with ts2Rx := x.ts2Rx + 1 }) (modGrp g (fun x => { x with
      partnerId := BitVec.ofNat 32 (leAt ts 7 4), strap := fld (byteAt ts 2) 4 0, inputB := bitOf (byteAt ts 2) 7 }) s) := by
  unfold ts2Rx
  dsimp only
  rw [if_neg (by simp [right, inA])]

/-- R196: a TS2 of another partner. -/
theorem ts2Rx_wrong (wrong : trainSlice s g ≠ some (fld (byteAt ts 2) 4 0)) :
    ts2Rx g ts s = miswire g (modGrp g (fun x => { x with
      partnerId := BitVec.ofNat 32 (leAt ts 7 4), strap := fld (byteAt ts 2) 4 0, inputB := bitOf (byteAt ts 2) 7 }) s) := by
  unfold ts2Rx
  dsimp only
  rw [if_pos (by simp [wrong])]

/-- R196: a group below the spares, which no bring-in trains, is MISWIRED. -/
theorem miswire_group (low : g < 30) (own : bringInSpare s g = false) : miswire g s =
    log .pxMiswired [g] (pxErr 2 (modGrp g (fun x => { x with miswired := true, second := false }) (linkTo g .disabled s))) := by
  unfold miswire
  dsimp only
  rw [if_neg (by simp [own]), if_neg (by simp; omega)]

end

/-- R196: what a MISWIRED group and PX_ERR hold. -/
theorem miswire_reads {g : Nat} {s : State} (rises : Rises s.px.groups) (low : g < 30) (own : bringInSpare s g = false) :
    (grp (miswire g s) g).link = .disabled ∧ (grp (miswire g s) g).miswired = true ∧ bitOf (miswire g s).px.err 2 = true ∧
      (miswire g s).pending = s.pending ∧ panel (miswire g s) = panel s := by
  have led : grp (linkTo g .disabled s) g = _ := grp_modGrp_rises g _ rises
  have after := grp_modGrp_rises g (fun x => { x with miswired := true, second := false }) (s := linkTo g .disabled s)
    (modGrp_rises g _ rises)
  rw [led] at after
  have hp : (modGrp g (fun x => { x with miswired := true, second := false }) (linkTo g .disabled s)).pending = s.pending := rfl
  have kept : panel (modGrp g (fun x => { x with miswired := true, second := false }) (linkTo g .disabled s)) = panel s := rfl
  rw [miswire_group low own]
  generalize modGrp g (fun x => { x with miswired := true, second := false }) (linkTo g .disabled s) = s2 at after hp kept
  have units := log_besideUnits .pxMiswired [g] (pxErr 2 s2)
  have same : grp (pxErr 2 s2) g = grp s2 g := rfl
  rw [grp_of_units units, same, after, px_of_units units]
  exact ⟨rfl, rfl, bitOf_setBit _ (by decide), (pending_of_units units).trans hp, (panel_of_units units).trans kept⟩

/-! ### Trainings that end (R195 to R197) -/

section
variable {g : Nat} {s : State}

theorem trainTimeout_idle (h : inTraining (grp s g).link = false ∨ linkTest s g = true) : trainTimeout g s = s := by
  refine if_pos ?_
  rcases h with h | h <;> simp [h]

theorem trainTimeout_first (trains : inTraining (grp s g).link = true) (plain : linkTest s g = false)
    (first : (grp s g).second = false) : trainTimeout g s = trainStart g true s := by
  unfold trainTimeout
  dsimp only
  rw [if_neg (by simp [trains, plain]), if_pos (by simp [first])]

/-- R197: the second training that times out fails a group that serves a slice. -/
theorem trainTimeout_second (trains : inTraining (grp s g).link = true) (plain : linkTest s g = false)
    (second : (grp s g).second = true) (serving : (grpSlice s g).isSome) (own : bringInSpare s g = false) :
    ∃ s1 s2, besideUnits s1 = besideUnits (if (grp s g).link == .detect then pxErr 1 s else s) ∧
      besideUnits s2 = besideUnits (linkTo g .failed (pxErr 5 (modGrp g (fun x => { x with
        second := false, absent := trainPhase (grp s g).link == 1 }) s1))) ∧ trainTimeout g s = s2 := by
  let s1 := if (grp s g).link == .detect then log .pxPartnerAbsent [g] (pxErr 1 s) else s
  have noted : besideUnits s1 = besideUnits (if (grp s g).link == .detect then pxErr 1 s else s) := by
    simp only [s1]
    split
    · exact log_besideUnits _ _ _
    · rfl
  have same : s1.px.sliceMap = s.px.sliceMap ∧ s1.px.bringIn = s.px.bringIn := by
    rw [px_of_units noted]
    split <;> exact ⟨rfl, rfl⟩
  have own1 : bringInSpare s1 g = false := by rw [bringInSpare, same.2]; exact own
  have serving1 : grpSlice s1 g = grpSlice s g := by simp only [grpSlice, sliceGrp, same.1]
  refine ⟨s1, _, noted, ?_, rfl⟩
  unfold trainTimeout
  dsimp only
  rw [if_neg (by simp [trains, plain]), if_neg (by simp [second])]
  show besideUnits (trainFailed g (trainPhase (grp s g).link) 0 s1) = _
  unfold trainFailed
  dsimp only
  rw [if_neg (by simp [own1]), if_neg (by simp [serving1, Option.isSome_iff_ne_none.1 serving])]
  refine (unitLasting_besideUnits _ _ _).trans ?_
  exact congrArg (fun u : State => linkTo g .failed u) (log_besideUnits .pxTrainFail [g, trainPhase (grp s g).link, 0]
    (pxErr 5 (modGrp g (fun x => { x with second := false, absent := trainPhase (grp s g).link == 1 }) s1)))

theorem trainDone_early (h : (grp s g).link ≠ .trainCfg ∨ (grp s g).ts2Rx < 16 ∨ (grp s g).ts2Tx < 16) :
    trainDone g s = s := by
  refine if_pos ?_
  rcases h with h | h <;> simp [h]

/-- R195: a group that serves a slice has trained. -/
theorem trainDone_served (cfg : (grp s g).link = .trainCfg) (rx : 16 ≤ (grp s g).ts2Rx) (tx : 16 ≤ (grp s g).ts2Tx)
    (serving : (grpSlice s g).isSome) (own : bringInSpare s g = false) : besideUnits (trainDone g s) =
      besideUnits (sendSet g 0xE1 (modGrp g (fun x => { x with second := false }) (linkTo g .active s))) := by
  unfold trainDone
  dsimp only
  rw [if_neg (by simp [cfg]; omega), if_neg (by simp [own]), if_neg (by
    simp only [Bool.and_eq_true, Option.isNone_iff_eq_none, not_and]
    exact fun h => absurd h.2 (Option.isSome_iff_ne_none.1 serving))]
  split
  · exact (unitTransient_besideUnits _ _ _).trans (log_besideUnits _ _ _)
  · rfl

end

/-- A block set that leaves changes the stream's state of its group only (R191). -/
theorem grp_sendSet (g : Nat) (code : Byte) (s : State) (h : (grp s g).link ≠ .disabled) :
    ∃ part lfsr, grp (sendSet g code s) g = { grp s g with part := part, lfsr := lfsr } := by
  obtain ⟨part, lfsr, streamed⟩ : ∃ part lfsr, grp (streamOn g (rowPad (grp s g)) s).2 g =
    { grp s g with part := part, lfsr := lfsr } := ⟨_, _, grp_modGrp g _ s h⟩
  unfold sendSet
  dsimp only
  split
  · have reset := grp_modGrp g (fun x => { x with part := [], lfsr := (List.range 12).map lfsrStart })
      (streamOn g (rowPad (grp s g)) s).2 (by rw [streamed]; exact h)
    exact ⟨_, _, reset.trans (by rw [streamed])⟩
  · exact ⟨part, lfsr, streamed⟩

theorem sendSet_pending (g : Nat) (code : Byte) (s : State) : (sendSet g code s).pending = s.pending := by
  unfold sendSet
  dsimp only
  split <;> rfl

theorem sendSet_sliceMap (g : Nat) (code : Byte) (s : State) : (sendSet g code s).px.sliceMap = s.px.sliceMap := by
  unfold sendSet
  dsimp only
  split <;> rfl

/-! ### The back channel retrains (R210) -/

section
variable {g : Nat} {s : State}

theorem bcLost_active (h : (grp s g).link = .active) : bcLost g s = bcRetrainStart g s := by
  unfold bcLost; rw [h]
theorem bcLost_sleep (h : (grp s g).link = .sleep) : bcLost g s = modGrp g (fun x => { x with bcDown := true }) s := by
  unfold bcLost; rw [h]
theorem bcLost_other (active : (grp s g).link ≠ .active) (sleep : (grp s g).link ≠ .sleep) : bcLost g s = s := by
  unfold bcLost
  split <;> first | contradiction | rfl

theorem bcTimeout_other (h : (grp s g).link ≠ .bcRetrain) : bcTimeout g s = s := if_pos (by simp [h])

theorem bcTimeout_first (h : (grp s g).link = .bcRetrain) (first : (grp s g).bcSecond = false) :
    bcTimeout g s = queueCmd (some g) [(0x001C, 1)] (modGrp g (fun x => { x with bcSecond := true }) s) := by
  unfold bcTimeout
  dsimp only
  rw [if_neg (by simp [h]), if_pos (by simp [first])]

theorem bcTimeout_second (h : (grp s g).link = .bcRetrain) (second : (grp s g).bcSecond = true) : bcTimeout g s =
    unitLasting 3 g (modGrp g (fun x => { x with bcSecond := false, bcDown := false }) (linkTo g .active s)) := by
  unfold bcTimeout
  dsimp only
  rw [if_neg (by simp [h]), if_neg (by simp [second])]

end

/-! ### Sparing requests (R211, R212) -/

section
variable {g : Nat} {s : State}

theorem groupSpare_notTurn (h : lastingTurn s 3 g = false) : groupSpare g s = s := if_pos (by simp [h])

/-- R212: with a spare that is ready its bring-in starts. -/
theorem groupSpare_bringsIn {sl : Nat} (turn : lastingTurn s 3 g = true) (ready : spareReady (frontPop s) g = true)
    (slice : grpSlice s g = some sl) : groupSpare g s = trainStart (30 + sl / 15) false (setSel (sl / 15) (sl - 15 * (sl / 15))
      { frontPop s with px := { s.px with bringIn := some (g, 30 + sl / 15, sl, false) } }) := by
  have px := px_of_units (frontPop_besideUnits s)
  have same : grpSlice (frontPop s) g = some sl := by rw [← slice]; simp only [grpSlice, sliceGrp, px]
  unfold groupSpare
  dsimp only
  rw [if_neg (by simp [turn]), if_pos ready, bringInStart, same, ← px]

/-- R212: without one the group goes OFFLINE. -/
theorem groupSpare_removes (turn : lastingTurn s 3 g = true) (unready : spareReady (frontPop s) g = false) :
    groupSpare g s = unitTo 3 g .offline 11 (linkTo g .disabled (frontPop s)) := by
  unfold groupSpare
  dsimp only
  rw [if_neg (by simp [turn]), if_neg (by simp [unready])]

end

/-- After a start a group is ONLINE, or a spare: never without a spare to take its place. -/
theorem unitDflt_group (gen : W16) (g : Nat) :
    (unitDflt gen 3 g).cause ≠ 11 ∧ (g < 30 → (unitDflt gen 3 g).state = .online) := by
  have entry : unitDflt gen 3 g = if g < 30 then ⟨.online, gen, 0, none, false, false⟩
      else ⟨.offline, gen, 5, none, false, false⟩ := rfl
  rw [entry]
  split
  · exact ⟨by simp, fun _ => rfl⟩
  · exact ⟨by simp, fun h => by omega⟩

/-! ### The end of step 2 of a power-up (R211, R217, R218) -/

/-- Beside a power-up at step 2, or before its raster starts, a training event ends nothing. -/
theorem linkCheck_idle {s : State}
    (idle : s.pwr.state ≠ .poweringUp ∨ (s.pwr.step ≠ 2 ∧ s.scn.state ≠ .stopped)) : linkCheck s = s := by
  have next : failedNext s = s := by
    refine if_neg ?_
    rcases idle with h | ⟨_, h⟩ <;> simp [h]
  unfold linkCheck
  rw [next]
  refine if_neg ?_
  rcases idle with h | ⟨h, _⟩ <;> simp [h]

/-- A group whose link has FAILED, as the handling of the failed groups finds it without DUAL_INPUT. -/
structure FailedGroup (k : Nat) (s : State) : Prop where
  serving : serves s k = true
  failed : (grp s k).link = .failed
  single : dualInput s = false

theorem failedGroup_keeps {k : Nat} {s t : State} (px : t.px = s.px) (unit : unitOf t 3 k = unitOf s 3 k)
    (h : FailedGroup k s) : FailedGroup k t := by
  obtain ⟨serving, failed, single⟩ := h
  exact ⟨by simpa only [serves, grpSlice, sliceGrp, px, unit] using serving, by rw [grp_congr px]; exact failed,
    by simpa only [dualInput, px] using single⟩

theorem grpReqsLeft_besideUnits (g : Nat) (s : State) : besideUnits (grpReqsLeft g s) = besideUnits s :=
  unitReqsLeft_besideUnits _ _ _ s

/-- The requests of another group leave a group's unit as it was. -/
theorem unitOf_grpReqsLeft_ne {g k : Nat} (s : State) (h : k ≠ g) : unitOf (grpReqsLeft g s) 3 k = unitOf s 3 k := by
  unfold grpReqsLeft unitReqsLeft
  extract_lets queues s1 s2
  have cleared : unitOf s2 3 k = unitOf s 3 k :=
    ite_keeps (b := modUnit 3 g _ s1) (unitOf · 3 k) rfl (unitOf_modUnit_ne _ s1 h)
  exact ite_keeps (unitOf · 3 k) cleared ((unitOf_of_apart (brkLevel_apart _ _ _) 3 k).trans cleared)

/-- R218: without DUAL_INPUT a group that has FAILED goes OFFLINE. -/
theorem failedOff_single {j : Nat} {s : State} (single : dualInput s = false) : failedOff j s =
    if serves s j && (grp s j).link == .failed then
      unitTo 3 j .offline (if (grp s j).absent then 1 else 3) (grpReqsLeft j s) else s := by
  by_cases due : (serves s j && (grp s j).link == .failed) = true
  · rw [if_pos due, failedOff, if_neg (by simp [due]), if_pos (by simp [single])]
  · rw [if_neg due, failedOff, if_pos (by simp [due])]

theorem failedOff_px {j : Nat} {s : State} (single : dualInput s = false) : (failedOff j s).px = s.px := by
  rw [failedOff_single single]
  split
  · exact px_of_units ((unitTo_besideUnits _ _ _ _ _).trans (grpReqsLeft_besideUnits j s))
  · rfl

/-- The handling of another group leaves a group's unit as it was. -/
theorem unitOf_failedOff_ne {j k : Nat} {s : State} (single : dualInput s = false) (h : k ≠ j) :
    unitOf (failedOff j s) 3 k = unitOf s 3 k := by
  rw [failedOff_single single]
  split
  · rw [unitOf_unitTo_ne _ _ _ h, unitOf_grpReqsLeft_ne s h]
  · rfl

/-- R218: a group below the spares that has FAILED is OFFLINE once it has been handled. -/
theorem failedOff_offline {k : Nat} {s : State} (low : k < 30) (h : FailedGroup k s) :
    (unitOf (failedOff k s) 3 k).state = .offline := by
  rw [failedOff_single h.single, if_pos (by simp [h.serving, h.failed])]
  exact (unitOf_unitTo (.inl (by rw [(unitDflt_group _ k).2 low]; decide))).1

/-- A group that is OFFLINE stays so while the others are handled. -/
theorem failedOffs_stay {k : Nat} {l : List Nat} {s : State} (single : dualInput s = false)
    (off : (unitOf s 3 k).state = .offline) : (unitOf (eachNat failedOff l s) 3 k).state = .offline := by
  induction l generalizing s with
  | nil => exact off
  | cons j r ih =>
    refine ih (by rw [dualInput, failedOff_px single]; exact single) ?_
    by_cases here : k = j
    · have idle : failedOff j s = s := by
        rw [failedOff_single single, if_neg (by simp [serves, unitUp, ← here, off])]
      rw [idle, off]
    · rw [unitOf_failedOff_ne single here, off]

/-- R218: each group that has FAILED is OFFLINE once all have been handled. -/
theorem failedOffs_offline {k : Nat} {l : List Nat} {s : State} (low : k < 30) (listed : k ∈ l) (h : FailedGroup k s) :
    (unitOf (eachNat failedOff l s) 3 k).state = .offline := by
  induction l generalizing s with
  | nil => simp at listed
  | cons j r ih =>
    have px := failedOff_px (j := j) h.single
    rw [eachNat]
    by_cases here : k = j
    · subst here
      exact failedOffs_stay (by rw [dualInput, px]; exact h.single) (failedOff_offline low h)
    · exact ih ((List.mem_cons.1 listed).resolve_left here)
        (failedGroup_keeps px (unitOf_failedOff_ne h.single here) h)

/-- The groups left DISABLED by a MISWIRED training are other groups. -/
theorem miswiredOff_failed {j k : Nat} {s : State} (h : FailedGroup k s) : FailedGroup k (miswiredOff j s) := by
  unfold miswiredOff
  split
  next due =>
    have other : k ≠ j := by
      rintro rfl
      simp [h.failed] at due
    exact failedGroup_keeps (px_of_units (unitTo_besideUnits _ _ _ _ _)) (unitOf_unitTo_ne _ _ s other) h
  next => exact h

theorem miswiredOffs_failed {k : Nat} (l : List Nat) {s : State} (h : FailedGroup k s) :
    FailedGroup k (eachNat miswiredOff l s) := by
  induction l generalizing s with
  | nil => exact h
  | cons j r ih => exact ih (miswiredOff_failed h)

@[simp] theorem miswiredOff_panel (g : Nat) (s : State) : panel (miswiredOff g s) = panel s :=
  ite_keeps panel (unitTo_panel _ _ _ _ _) rfl
@[simp] theorem bringInStart_panel (g : Nat) (byHost : Bool) (s : State) : panel (bringInStart g byHost s) = panel s := by
  unfold bringInStart
  split
  · rfl
  · dsimp only
    rw [trainStart_panel, setSel_eq]
    rfl
@[simp] theorem failedOff_panel (g : Nat) (s : State) : panel (failedOff g s) = panel s := by
  have left : panel (grpReqsLeft g s) = panel s := panel_of_units (grpReqsLeft_besideUnits g s)
  unfold failedOff
  refine ite_keeps panel rfl (ite_keeps panel ?_ (ite_keeps panel ?_ (ite_keeps panel ?_ rfl)))
  · rw [unitTo_panel, left]
  · rw [unitTo_panel]
    exact left
  · rw [bringInStart_panel, left]

/-- R217, R218: step 2 ends with an ACTIVE group: step 3 and the gate rails, and what has FAILED is handled. -/
theorem linkEnd_active {g : Nat} {s : State} (hg : g < 32) (active : (grp s g).link = .active) (serving : serves s g = true) :
    (linkEnd s).pwr = { s.pwr with step := 3, enGate := true } ∧
      ∀ k, k < 30 → FailedGroup k s → (unitOf (linkEnd s) 3 k).state = .offline := by
  obtain ⟨s1, handled⟩ : ∃ s1, s1 = eachNat failedOff (List.range 32) (eachNat miswiredOff (List.range 32) s) := ⟨_, rfl⟩
  have some : ((servingGroups s).any fun g => (grp s g).link == .active) = true :=
    List.any_eq_true.2 ⟨g, List.mem_filter.2 ⟨List.mem_range.2 hg, serving⟩, by simp [active]⟩
  have ended : linkEnd s = { s1 with pwr := { s1.pwr with step := 3, enGate := true } } := by
    unfold linkEnd
    rw [if_pos some, handled]
  have kept : s1.pwr = s.pwr := by
    rw [handled]
    exact pwr_of_panel ((eachNat_keeps panel _ _ _ failedOff_panel).trans (eachNat_keeps panel _ _ s miswiredOff_panel))
  rw [ended]
  refine ⟨?_, fun k low h => ?_⟩
  · show { s1.pwr with step := 3, enGate := true } = _
    rw [kept]
  · have off := failedOffs_offline low (List.mem_range.2 (by omega : k < 32)) (miswiredOffs_failed (List.range 32) h)
    rw [← handled] at off
    exact off

/-- R217: step 2 ends once all serving groups and the spares' checks are done. -/
theorem linkCheck_ends {s : State} (up : s.pwr.state = .poweringUp) (calm : s.pwr.undoing = false) (second : s.pwr.step = 2)
    (trained : (servingGroups s).all (groupTrained s) = true) (first : spareDue s 30 = false) (last : spareDue s 31 = false) :
    linkCheck s = linkEnd s := if_pos (by simp [up, calm, second, trained, first, last])

/-- R217: until then it does not end. -/
theorem linkCheck_waits {s : State} (second : s.pwr.step = 2)
    (waiting : (servingGroups s).all (groupTrained s) = false ∨ spareDue s 30 = true ∨ spareDue s 31 = true) :
    linkCheck s = s := by
  have next : failedNext s = s := if_neg (by simp [second])
  unfold linkCheck
  rw [next]
  exact if_neg (by rcases waiting with h | h | h <;> simp [h])

theorem linkCheck_later {s : State} (later : 2 < s.pwr.step) : linkCheck s = failedNext s :=
  if_neg (by simp; omega)

/-- R218: before the raster starts every later training event handles what has FAILED. -/
theorem failedNext_handles {s : State} (up : s.pwr.state = .poweringUp) (later : 2 < s.pwr.step)
    (calm : s.pwr.undoing = false) (stopped : s.scn.state = .stopped) (free : s.px.bringIn = none) :
    (failedNext s).pwr = s.pwr ∧ ∀ k, k < 30 → FailedGroup k s → (unitOf (failedNext s) 3 k).state = .offline := by
  have all : failedNext s = eachNat failedOff (List.range 32) s := if_pos (by simp [up, later, calm, stopped, free])
  rw [all]
  exact ⟨pwr_of_panel (eachNat_keeps panel _ _ s failedOff_panel),
    fun k low h => failedOffs_offline low (List.mem_range.2 (by omega)) h⟩

end Sys2Proof.Machine
end

section
/-! Groups train, retrain and are spared (R189, R190, R194 to R197, R210 to R212, R217, R218). -/

namespace Sys2Proof

open Machine

section
variable {g : Nat} {s : State} (hg : g < 32) (hq : Quiet s)
include hg hq

/-- An event of a group that the device has does its own operation in a quiet state. -/
theorem group_exact {f : State → State} {t : State} (e : f s = t) (hh : holds t = holds s) (hp : t.pending = s.pending) :
    unitRow (decide (g < 32)) f s = .next t := by
  rw [decide_eq_true hg, unitRow_exact hq e hh hp]

section
variable (idle : s.pwr.state ≠ .poweringUp ∨ (s.pwr.step ≠ 2 ∧ s.scn.state ≠ .stopped))
include idle

/-- Where no power-up waits for the links, a training event does its own operation alone. -/
theorem train_exact {f : State → State} {t : State} (e : f s = t) (hh : holds t = holds s) (hp : t.pending = s.pending)
    (kept : panel t = panel s) : unitRow (decide (g < 32)) (trainEvent f) s = .next t := by
  obtain ⟨scn, pwr⟩ := panel_eq_iff.1 kept
  refine group_exact hg hq ?_ hh hp
  rw [trainEvent, e]
  exact linkCheck_idle (by rw [pwr, scn]; exact idle)

theorem train_noop {f : State → State} (e : f s = s) : unitRow (decide (g < 32)) (trainEvent f) s = .next s :=
  train_exact hg hq idle e rfl rfl rfl

/-! ### A training begins (R190, R195, R211) -/

theorem training_starts (on : bitOf s.px.ctrl 0 = true) (down : (grp s g).link = .disabled ∨ (grp s g).link = .failed)
    (serving : serves s g = true) (may : mayTrain s g = true) :
    ∃ t, exec (.pxTrainRequest g) s = .next t ∧ (grp t g).link = .detect ∧ (grp t g).second = false ∧
      (grp t g).trainings = satAdd 8 (grp s g).trainings 1 ∧ ((grp t g).pre, (grp t g).post) = firStart (grp s g).fir ∧
      t = { s with px := t.px } := by
  have e := trainRequest_starts on down serving may
  have alone : trainStart g false (selectServing g s) =
      { s with px := (trainStart g false (selectServing g s)).px } := by
    rw [selectServing_eq]; rfl
  have after := grp_trainStart g false (selectServing g s)
  rw [grp_selectServing] at after
  have kept : panel (trainStart g false (selectServing g s)) = panel s := by rw [alone]; rfl
  refine ⟨_, train_exact hg hq idle e (by rw [← e]; exact trainRequest_holds g s) (by rw [alone]) kept, ?_⟩
  rw [after]
  exact ⟨rfl, rfl, rfl, rfl, alone⟩

/-! ### The back channel's lock (R195, R208) -/

theorem lock_leavesDetect (detect : (grp s g).link = .detect) : ∃ t, exec (.backChannelLock g) s = .next t ∧
    (grp t g).link = .trainEq ∧ t = { s with px := t.px, out := t.out } := by
  have e := backLock_detect detect
  refine ⟨_, train_exact hg hq idle e (by rw [← e]; exact backLock_holds g s) (sendTs_pending _ _ _ _)
    (sendTs_panel _ _ _ _), ?_, eq_of_linked (sendTs_besideOut g 0x1E 0 (linkTo g .trainEq s)) rfl⟩
  rw [grp_sendTs]
  exact link_linkTo g .trainEq s (by decide)

theorem lock_endsRetraining (retrain : (grp s g).link = .bcRetrain) : ∃ t, exec (.backChannelLock g) s = .next t ∧
    (grp t g).link = .active ∧ (grp t g).bcSecond = false ∧ t = { s with px := t.px } := by
  have e := backLock_retrained retrain
  have up : (grp (linkTo g .active s) g).link = .active := link_linkTo g .active s (by decide)
  have after := grp_modGrp g (fun x => { x with bcSecond := false, bcDown := false }) (linkTo g .active s) (by simp [up])
  refine ⟨_, train_exact hg hq idle e (by rw [← e]; exact backLock_holds g s) rfl rfl, ?_, ?_, rfl⟩
  · exact (congrArg Group.link after).trans up
  · exact congrArg Group.bcSecond after

/-! ### Training sets received (R194 to R196) -/

theorem ts1_counts {ts : TsBytes} (l : Nat) (check : tsCheck ts = true) (kind : byteAt ts 0 = 0x1E)
    (eq : (grp s g).link = .trainEq) (req : bitOf (byteAt ts 3) 0 = false) (preset : bitOf (byteAt ts 3) 2 = false) :
    ∃ t, exec (.pxTsRx g l ts) s = .next t ∧ (grp t g).eqOk = (grp s g).eqOk + 1 ∧
      (linkTest s g = true → (grp t g).link = .trainEq) ∧
      (linkTest s g = false → (grp t g).link = (if 8 ≤ (grp s g).eqOk + 1 then LinkState.trainCfg else LinkState.trainEq) ∧
        (grp t g).ts2Tx = if 8 ≤ (grp s g).eqOk + 1 then (grp s g).ts2Tx + 16 else (grp s g).ts2Tx) := by
  have e := (tsRx_ts1 check kind eq).trans (ts1Rx_calm req preset)
  have hh := tsRx_holds g ts s
  have counted := grp_modGrp g (fun x => { x with eqOk := (grp s g).eqOk + 1 }) s (by simp [eq])
  have kept : panel (modGrp g (fun x => { x with eqOk := (grp s g).eqOk + 1 }) s) = panel s := rfl
  have hp : (modGrp g (fun x => { x with eqOk := (grp s g).eqOk + 1 }) s).pending = s.pending := rfl
  generalize modGrp g (fun x => { x with eqOk := (grp s g).eqOk + 1 }) s = s1 at e counted kept hp
  have link : (grp s1 g).link = .trainEq := (congrArg Group.link counted).trans eq
  dsimp only at e
  split at e
  next inTest =>
    refine ⟨_, train_exact hg hq idle e (e ▸ hh) ((sendTs_pending _ _ _ _).trans hp) ((sendTs_panel _ _ _ _).trans kept), ?_⟩
    rw [grp_sendTs]
    exact ⟨congrArg Group.eqOk counted, fun _ => link, fun plain => absurd (inTest.symm.trans plain) (by decide)⟩
  next plain =>
    split at e
    next eighth =>
      have led := grp_modGrp g (fun x => { x with
        link := .trainCfg, spanWhole := x.spanWhole && LinkState.trainCfg == .active }) s1 (by simp)
      have sent := grp_sendTs2 g (linkTo g .trainCfg s1) (by rw [linkTo, led]; simp)
      rw [linkTo, led, counted] at sent
      refine ⟨_, train_exact hg hq idle e (e ▸ hh) ((sendTs2_pending _ _).trans hp) ((sendTs2_panel _ _).trans kept), ?_⟩
      rw [linkTo, sent, if_pos eighth, if_pos eighth]
      exact ⟨rfl, fun inTest => absurd inTest plain, fun _ => ⟨rfl, rfl⟩⟩
    next early =>
      refine ⟨_, train_exact hg hq idle e (e ▸ hh) hp kept, ?_⟩
      rw [counted, if_neg early, if_neg early]
      exact ⟨rfl, fun _ => eq, fun _ => ⟨eq, rfl⟩⟩

theorem ts2_counts {ts : TsBytes} (l : Nat) (check : tsCheck ts = true) (kind : byteAt ts 0 = 0x2D)
    (cfg : (grp s g).link = .trainCfg) (right : trainSlice s g = some (fld (byteAt ts 2) 4 0))
    (inA : bitOf (byteAt ts 2) 7 = false) : ∃ t, exec (.pxTsRx g l ts) s = .next t ∧
      (grp t g).ts2Rx = (grp s g).ts2Rx + 1 ∧ (grp t g).link = .trainCfg ∧
      (grp t g).partnerId = BitVec.ofNat 32 (leAt ts 7 4) := by
  have e := (tsRx_ts2 check kind cfg).trans (ts2Rx_right right inA)
  refine ⟨_, train_exact hg hq idle e (by rw [← e]; exact tsRx_holds g ts s) rfl rfl, ?_⟩
  let s1 := modGrp g (fun x => { x with
    partnerId := BitVec.ofNat 32 (leAt ts 7 4), strap := fld (byteAt ts 2) 4 0, inputB := bitOf (byteAt ts 2) 7 }) s
  have named : grp s1 g = _ := grp_modGrp g _ s (by simp [cfg])
  have after := grp_modGrp g (fun x => { x with ts2Rx := x.ts2Rx + 1 }) s1 (by simp [named, cfg])
  rw [named] at after
  exact ⟨congrArg Group.ts2Rx after, (congrArg Group.link after).trans cfg, congrArg Group.partnerId after⟩

/-- R196: a TS2 of another slice makes a group below the spares MISWIRED. -/
theorem ts2_miswires {ts : TsBytes} (wf : spWf {} s.px.groups = true) (l : Nat) (check : tsCheck ts = true)
    (kind : byteAt ts 0 = 0x2D) (cfg : (grp s g).link = .trainCfg) (low : g < 30)
    (wrong : trainSlice s g ≠ some (fld (byteAt ts 2) 4 0)) (own : bringInSpare s g = false) :
    ∃ t, exec (.pxTsRx g l ts) s = .next t ∧ (grp t g).link = .disabled ∧ (grp t g).miswired = true ∧
      bitOf t.px.err 2 = true := by
  have e := (tsRx_ts2 check kind cfg).trans (ts2Rx_wrong wrong)
  have rises := modGrp_rises g (fun x => { x with
    partnerId := BitVec.ofNat 32 (leAt ts 7 4), strap := fld (byteAt ts 2) 4 0, inputB := bitOf (byteAt ts 2) 7 })
    (rises_of_wf wf)
  obtain ⟨link, miswired, err, hp, kept⟩ := miswire_reads rises low own
  exact ⟨_, train_exact hg hq idle e (by rw [← e]; exact tsRx_holds g ts s) hp kept, link, miswired, err⟩

/-! ### Trainings that end (R195, R197) -/

theorem timeout_trainsAgain (trains : inTraining (grp s g).link = true) (plain : linkTest s g = false)
    (first : (grp s g).second = false) : ∃ t, exec (.pxTrainTimeout g) s = .next t ∧ (grp t g).link = .detect ∧
      (grp t g).second = true ∧ t = { s with px := t.px } := by
  refine ⟨_, train_exact hg hq idle (trainTimeout_first trains plain first) rfl rfl rfl, ?_⟩
  rw [grp_trainStart]
  exact ⟨rfl, rfl, rfl⟩

theorem timeout_fails (trains : inTraining (grp s g).link = true) (plain : linkTest s g = false)
    (second : (grp s g).second = true) (serving : (grpSlice s g).isSome) (own : bringInSpare s g = false) :
    ∃ t, exec (.pxTrainTimeout g) s = .next t ∧ (grp t g).link = .failed ∧ bitOf t.px.err 5 = true ∧
      ((grp s g).link = .detect → bitOf t.px.err 1 = true) := by
  obtain ⟨s1, t, noted, units, e⟩ := trainTimeout_second trains plain second serving own
  refine ⟨t, train_exact hg hq idle e (by rw [← e]; exact trainTimeout_holds g s) ?_ ?_, ?_⟩
  · refine (pending_of_units units).trans ((pending_of_units noted).trans ?_)
    split <;> rfl
  · refine (panel_of_units units).trans ((panel_of_units noted).trans ?_)
    split <;> rfl
  · rw [grp_of_units units, link_linkTo _ _ _ (by decide), px_of_units units]
    refine ⟨rfl, bitOf_setBit _ (by decide), fun detect => ?_⟩
    show bitOf (setBit s1.px.err 5) 1 = true
    refine bitOf_setBit_of 5 ?_
    rw [px_of_units noted, if_pos (by simp [detect])]
    exact bitOf_setBit _ (by decide)

theorem training_ends (cfg : (grp s g).link = .trainCfg) (rx : 16 ≤ (grp s g).ts2Rx) (tx : 16 ≤ (grp s g).ts2Tx)
    (serving : (grpSlice s g).isSome) (own : bringInSpare s g = false) :
    ∃ t, exec (.pxTrainDone g) s = .next t ∧ (grp t g).link = .active ∧ (grp t g).second = false ∧
      t.px.sliceMap = s.px.sliceMap := by
  have units := trainDone_served cfg rx tx serving own
  have up : (grp (linkTo g .active s) g).link = .active := link_linkTo g .active s (by decide)
  have after := grp_modGrp g (fun x => { x with second := false }) (linkTo g .active s) (by simp [up])
  obtain ⟨part, lfsr, sent⟩ := grp_sendSet g 0xE1 (modGrp g (fun x => { x with second := false }) (linkTo g .active s))
    (by simp [after, up])
  refine ⟨_, train_exact hg hq idle rfl (trainDone_holds g s) ?_ ?_, ?_⟩
  · exact (pending_of_units units).trans (sendSet_pending _ _ _)
  · exact (panel_of_units units).trans (sendSet_panel _ _ _)
  · rw [grp_of_units units, px_of_units units, sent, after]
    exact ⟨up, rfl, sendSet_sliceMap _ _ _⟩

end

/-! ### The back channel retrains (R210) -/

theorem loss_retrains (active : (grp s g).link = .active) : ∃ t, exec (.bcLockLost g) s = .next t ∧
    (grp t g).link = .bcRetrain ∧ t.px.cmds = s.px.cmds ++ [(some g, [(0x001C, 1)])] ∧ t = { s with px := t.px } :=
  ⟨_, group_exact hg hq (bcLost_active active) rfl rfl, link_bcRetrainStart g s, rfl, rfl⟩

theorem retraining_repeats (retrain : (grp s g).link = .bcRetrain) (first : (grp s g).bcSecond = false) :
    ∃ t, exec (.bcRetrainTimeout g) s = .next t ∧ (grp t g).bcSecond = true ∧ (grp t g).link = .bcRetrain ∧
      t.px.cmds = s.px.cmds ++ [(some g, [(0x001C, 1)])] := by
  refine ⟨_, group_exact hg hq (bcTimeout_first retrain first) rfl rfl, ?_⟩
  rw [grp_queueCmd, grp_modGrp _ _ _ (by simp [retrain])]
  exact ⟨rfl, retrain, rfl⟩

theorem retraining_endsWithout (retrain : (grp s g).link = .bcRetrain) (second : (grp s g).bcSecond = true) :
    ∃ t, exec (.bcRetrainTimeout g) s = .next t ∧ (grp t g).link = .active := by
  have e := bcTimeout_second retrain second
  refine ⟨_, group_exact hg hq e (by rw [← e]; exact bcTimeout_holds g s) (unitLasting_pending _ _ _), ?_⟩
  rw [grp_of_units (unitLasting_besideUnits _ _ _)]
  exact link_modGrp g _ _ (by decide) (link_linkTo g .active s (by decide))

/-! ### A group is spared (R211, R212) -/

theorem spare_bringsIn {sl : Nat} (turn : lastingTurn s 3 g = true) (ready : spareReady (frontPop s) g = true)
    (slice : grpSlice s g = some sl) : ∃ t, exec (.pxGroupSpare g) s = .next t ∧
      t.px.bringIn = some (g, 30 + sl / 15, sl, false) ∧ (grp t (30 + sl / 15)).link = .detect ∧
      t.px.sliceMap = s.px.sliceMap := by
  have e := groupSpare_bringsIn turn ready slice
  refine ⟨_, group_exact hg hq e (by rw [← e]; exact groupSpare_holds g s) ?_, ?_⟩
  · have popped := pending_of_units (frontPop_besideUnits s)
    show (setSel _ _ _).pending = s.pending
    rw [setSel_eq]
    exact popped
  · rw [grp_trainStart]
    exact ⟨setSel_bringIn _ _ _, rfl, setSel_sliceMap _ _ _⟩

theorem spare_removes (wf : spWf {} s.px.groups = true) (turn : lastingTurn s 3 g = true)
    (unready : spareReady (frontPop s) g = false) : ∃ t, exec (.pxGroupSpare g) s = .next t ∧
      (grp t g).link = .disabled ∧ (unitOf t 3 g).state = .offline ∧ (unitOf t 3 g).cause = 11 := by
  have e := groupSpare_removes turn unready
  have popped := frontPop_besideUnits s
  refine ⟨_, group_exact hg hq e (by rw [← e]; exact groupSpare_holds g s) ?_, ?_,
    unitOf_unitTo (.inr (unitDflt_group _ g).1)⟩
  · have hp := pending_of_units popped
    rw [unitTo_pending]
    exact hp
  · rw [grp_of_units (unitTo_besideUnits _ _ _ _ _), linkTo,
      grp_modGrp_rises _ _ (by rw [px_of_units popped]; exact rises_of_wf wf)]

theorem cleanWindow_restores (degraded : (unitOf s 3 g).state = .degraded) :
    exec (.pxGroupCleanWindow g) s = .next (unitTo 3 g .online 6 s) :=
  group_exact hg hq (cleanWindow_degraded degraded) (unitTo_holds _ _ _ _ _) (unitTo_pending _ _ _ _ _)

/-! ### The end of step 2 of a power-up (R211, R217, R218) -/

/-- The lock of a link that is ACTIVE is a training event alone. -/
theorem lock_checks (active : (grp s g).link = .active) : exec (.backChannelLock g) s =
    .next { linkCheck s with pending := s.pending } := by
  have e : trainEvent (backLock g) s = linkCheck s := by
    rw [trainEvent, backLock_other (by simp [active]) (by simp [active]) (by simp [active])]
  show unitRow (decide (g < 32)) (trainEvent (backLock g)) s = _
  rw [decide_eq_true hg, unitRow_quiet _ _ hq (by rw [e]; exact linkCheck_holds s), e]

end

/-- Settles O58: the groups' training, retraining and sparing event by event, and the training event that ends step 2 of a
power-up or handles the groups that have FAILED. -/
theorem groupsTrain : Obligations.GroupsTrain := by
  unfold Obligations.GroupsTrain
  constructor
  · intro g s hg hq wf idle x served
    refine ⟨?shut, ?starts, ?barred, ?detect, ?retrained, ?asleep, ?locked, ?ignored, ?ts1, ?ts2, ?noTimeout, ?timeout,
      ?early, ?trained, ?keptLoss, ?asleepLoss, ?loss, ?keptRetrain, ?retrain, ?notTurn, ?turn, ?window, ?noWindow⟩
    case shut => exact fun h => train_noop hg hq idle (trainRequest_shut h)
    case starts => exact training_starts hg hq idle
    case barred => exact fun h => train_noop hg hq idle (trainRequest_barred h)
    case detect => exact lock_leavesDetect hg hq idle
    case retrained => exact lock_endsRetraining hg hq idle
    case asleep => exact fun h => train_exact hg hq idle (backLock_sleep h) rfl rfl rfl
    case locked => exact fun h1 h2 h3 => train_noop hg hq idle (backLock_other h1 h2 h3)
    case ignored => exact fun _ ts h => train_noop hg hq idle (tsRx_ignored h)
    case ts1 => exact fun l ts => ts1_counts hg hq idle l
    case ts2 =>
      exact fun l ts check kind cfg low => ⟨ts2_counts hg hq idle l check kind cfg,
        ts2_miswires hg hq idle wf l check kind cfg low⟩
    case noTimeout => exact fun h => train_noop hg hq idle (trainTimeout_idle h)
    case timeout =>
      exact fun trains plain => ⟨timeout_trainsAgain hg hq idle trains plain,
        fun second ⟨serving, own⟩ => timeout_fails hg hq idle trains plain second serving own⟩
    case early => exact fun h => train_noop hg hq idle (trainDone_early h)
    case trained => exact fun cfg rx tx ⟨serving, own⟩ => training_ends hg hq idle cfg rx tx serving own
    case keptLoss => exact fun h1 h2 => group_exact hg hq (bcLost_other h1 h2) rfl rfl
    case asleepLoss => exact fun h => group_exact hg hq (bcLost_sleep h) rfl rfl
    case loss => exact loss_retrains hg hq
    case keptRetrain => exact fun h => group_exact hg hq (bcTimeout_other h) rfl rfl
    case retrain => exact fun h => ⟨retraining_repeats hg hq h, retraining_endsWithout hg hq h⟩
    case notTurn => exact fun h => group_exact hg hq (groupSpare_notTurn h) rfl rfl
    case turn => exact fun h => ⟨fun _ => spare_bringsIn hg hq h, spare_removes hg hq wf h⟩
    case window => exact cleanWindow_restores hg hq
    case noWindow => exact fun h => group_exact hg hq (cleanWindow_other h) rfl rfl
  · intro g s hg hq up calm active serving handled
    have e := lock_checks hg hq active
    refine ⟨?ends, ?waits, ?later⟩
    case ends =>
      intro ⟨second, trained, first, last⟩
      rw [linkCheck_ends up calm second trained first last] at e
      obtain ⟨pwr, offline⟩ := linkEnd_active hg active serving
      exact ⟨_, e, pwr, fun k low serves failed single => offline k low ⟨serves, failed, single⟩⟩
    case waits =>
      intro ⟨second, waiting⟩
      rw [e, linkCheck_waits second waiting]
    case later =>
      intro later stopped free
      rw [linkCheck_later later] at e
      obtain ⟨pwr, offline⟩ := failedNext_handles up later calm stopped free
      exact ⟨_, e, pwr, fun k low serves failed single => offline k low ⟨serves, failed, single⟩⟩

end Sys2Proof
end

section
/-! SUPPORT. The ports of the Trapeze: how a port reads after a change, and what sending, training and faults leave alone
(R195, R295 to R298, R300, R304, R305, R312, R314, R424). -/

namespace Sys2Proof.Machine

/-! ### How a port reads -/

section
variable {p : Nat} {s t : State}

theorem meshPort_congr (h : t.trz = s.trz) (p : Nat) : meshPort t p = meshPort s p := by rw [meshPort, meshPort, h]

theorem meshPort_of_units (h : besideUnits t = besideUnits s) (p : Nat) : meshPort t p = meshPort s p :=
  meshPort_congr (trz_of_units h) p

/-- A port that is not DISABLED after a change reads as it was changed to. -/
theorem meshPort_modMesh_up (f : MeshPort → MeshPort) (h : (f (meshPort s p)).link ≠ .disabled) :
    meshPort (modMesh p f s) p = f (meshPort s p) :=
  meshPort_modMesh p f s fun e => h (congrArg MeshPort.link e)

/-- What a change makes of the port as it stands is all that counts. -/
theorem modMesh_congr {f g : MeshPort → MeshPort} (h : f (meshPort s p) = g (meshPort s p)) : modMesh p f s = modMesh p g s := by
  have same : f (spGet {} s.trz.ports p) = g (spGet {} s.trz.ports p) := h
  rw [modMesh, modMesh, spMod, spMod, same]

end

/-! ### What the mesh leaves alone -/

/-- A state but for what frames that leave, events and the units' states and requests may change. -/
def besideMesh (s : State) : State := besideUnits (apart s)

section
variable {s t : State}

theorem besideMesh_of_apart (h : apart t = apart s) : besideMesh t = besideMesh s := congrArg besideUnits h
theorem besideMesh_of_units (h : besideUnits t = besideUnits s) : besideMesh t = besideMesh s := (congrArg apart h :)
theorem apart_of_besideOut (h : besideOut t = besideOut s) : apart t = apart s := (congrArg apart h :)

/-- A quiet state stays quiet while the mesh sends. -/
theorem quiet_of_apart (h : apart t = apart s) (quiet : Quiet s) : Quiet t := by
  obtain ⟨fences, held, reset, turns⟩ := quiet
  exact ⟨(congrArg (fun u : State => u.hq.fences) h :).trans fences, (congrArg (fun u : State => u.hq.held) h :).trans held,
    (congrArg (fun u : State => u.rm.resetAfterDown) h :).trans reset,
    (congrArg (fun u : State => u.hq.unitTurns) h :).trans turns⟩

theorem pending_of_besideMesh (h : besideMesh t = besideMesh s) : t.pending = s.pending := (congrArg State.pending h :)
theorem mram_of_besideMesh (h : besideMesh t = besideMesh s) : t.mram = s.mram := (congrArg State.mram h :)
theorem clp_of_besideMesh (h : besideMesh t = besideMesh s) : t.clp = s.clp := (congrArg State.clp h :)
theorem authReq_of_besideMesh (h : besideMesh t = besideMesh s) (p : Nat) : authReq t p = authReq s p := by
  have ctrl : t.trz.ctrl = s.trz.ctrl := (congrArg (fun u : State => u.trz.ctrl) h :)
  rw [authReq, authReq, ctrl]

end

@[simp] theorem modMesh_besideMesh (p : Nat) (f : MeshPort → MeshPort) (s : State) :
    besideMesh (modMesh p f s) = besideMesh s := besideMesh_of_apart (modMesh_apart p f s)

/-! ### Frames that leave (R303 to R305) -/

/-- A port but for what its sending changes. -/
def beyondSend (m : MeshPort) : MeshPort :=
  { m with part := [], lfsr := [], t1 := none, credits := [], replay := [], txSeq := 0, txCtr := 0, waiting := [] }

/-- From one state to another a port has sent: what goes out joins the end of the replay buffer, and beside the port, events
and the outputs nothing changes. -/
structure Sent (p : Nat) (s t : State) : Prop where
  port : beyondSend (meshPort t p) = beyondSend (meshPort s p)
  beside : apart t = apart s
  replay : (meshPort s p).replay <+: (meshPort t p).replay

theorem Sent.refl (p : Nat) (s : State) : Sent p s s := ⟨rfl, rfl, List.prefix_rfl⟩

section
variable {p : Nat} {s t u : State}

theorem Sent.trans (h : Sent p s t) (k : Sent p t u) : Sent p s u :=
  ⟨k.port.trans h.port, k.beside.trans h.beside, h.replay.trans k.replay⟩

theorem Sent.link (h : Sent p s t) : (meshPort t p).link = (meshPort s p).link := (congrArg MeshPort.link h.port :)

theorem Sent.up (h : Sent p s t) (up : (meshPort s p).link ≠ .disabled) : (meshPort t p).link ≠ .disabled := h.link ▸ up

variable (up : (meshPort s p).link ≠ .disabled)
include up

theorem modMesh_sent {f : MeshPort → MeshPort} (port : beyondSend (f (meshPort s p)) = beyondSend (meshPort s p))
    (replay : (meshPort s p).replay <+: (f (meshPort s p)).replay) : Sent p s (modMesh p f s) := by
  have link : (f (meshPort s p)).link = (meshPort s p).link := (congrArg MeshPort.link port :)
  have after := meshPort_modMesh_up f (link ▸ up)
  exact ⟨by rw [after, port], rfl, by rw [after]; exact replay⟩

theorem meshDepart_sent (f : MeshFrame) : Sent p s (meshDepart p f s) := by
  obtain ⟨part, lfsr, t1, after⟩ := meshPort_meshDepart p f s up
  exact ⟨by rw [after]; rfl, meshDepart_apart p f s, by rw [after]⟩

theorem meshTx_sent (f : MeshFrame) : Sent p s (meshTx p f s) := by
  unfold meshTx
  extract_lets m g
  have left := meshDepart_sent up g
  exact left.trans (modMesh_sent (left.up up) rfl (List.prefix_append _ _))

theorem meshPump_sent : Sent p s (meshPump p s) := by
  have sent (n : Nat) {u : State} (h : (meshPort u p).link ≠ .disabled) : Sent p u (meshPumpN p n u) := by
    induction n generalizing u with
    | zero => exact Sent.refl p u
    | succ n ih =>
      rw [meshPumpN]
      split
      · exact Sent.refl p u
      next f _ =>
        have taken : Sent p u (modMesh p (fun m => { m with waiting := m.waiting.erase f }) u) :=
          modMesh_sent h rfl List.prefix_rfl
        have left := taken.trans (meshTx_sent (taken.up h) f)
        exact left.trans (ih (left.up h))
  exact sent _ up

theorem meshQueue_sent (f : MeshFrame) : Sent p s (meshQueue p f s) := by
  have queued : Sent p s (modMesh p (fun m => { m with waiting := m.waiting ++ [f] }) s) :=
    modMesh_sent up rfl List.prefix_rfl
  exact queued.trans (meshPump_sent (queued.up up))

theorem meshSendFrame_sent (cls kind : Nat) (words : List Nat) (bytes : List Byte) :
    Sent p s (meshSendFrame p cls kind words bytes s) := meshQueue_sent up _

/-- Frames that leave again are as they were in the replay buffer (R305). -/
theorem departs_sent (fs : List MeshFrame) : Sent p s (fs.foldl (fun s f => meshDepart p f s) s) := by
  induction fs generalizing s with
  | nil => exact Sent.refl p s
  | cons f r ih =>
    have left := meshDepart_sent up f
    exact left.trans (ih (left.up up))

theorem meshReplay_sent (lseq : Nat) : Sent p s (meshReplay p lseq s) := departs_sent up _

end

/-- Without a frame that waits nothing leaves. -/
theorem meshPump_idle {p : Nat} {s : State} (h : (meshPort s p).waiting = []) : meshPump p s = s := by
  rw [meshPump, h]
  rfl

/-- What leaves in a replay, as any view of the outputs shows it. -/
theorem departs_out {β : Type} {p : Nat} (view : Out → β) (of : MeshFrame → β)
    (h : ∀ f frame rows, view (.mesh p f.cls f.kind f.words f.bytes frame rows) = of f) (fs : List MeshFrame) (s : State) :
    ∃ sent, (fs.foldl (fun s f => meshDepart p f s) s).out = sent ++ s.out ∧ sent.map view = (fs.map of).reverse := by
  induction fs generalizing s with
  | nil => exact ⟨[], rfl, rfl⟩
  | cons f r ih =>
    obtain ⟨sent, out, shown⟩ := ih (meshDepart p f s)
    obtain ⟨frame, rows, left⟩ : ∃ frame rows, (meshDepart p f s).out =
        .mesh p f.cls f.kind f.words f.bytes frame rows :: s.out := by
      unfold meshDepart
      dsimp only
      split <;> exact ⟨_, _, rfl⟩
    refine ⟨sent ++ [.mesh p f.cls f.kind f.words f.bytes frame rows], ?_, ?_⟩
    · rw [List.foldl_cons, out, left, List.append_assoc]
      rfl
    · rw [List.map_append, shown, List.map_cons, List.map_nil, h, List.map_cons, List.reverse_cons]

/-! ### A frame taken (R304, R305) -/

/-- A port but for what sending and the taking of a frame change. -/
def beyondTake (m : MeshPort) : MeshPort :=
  { beyondSend m with rxSeq := 0, rxNak := false, unacked := 0, linkOwed := 0, rxCtr := 0 }

/-- From one state to another a port has taken frames and sent. -/
structure Took (p : Nat) (s t : State) : Prop where
  port : beyondTake (meshPort t p) = beyondTake (meshPort s p)
  beside : apart t = apart s
  replay : (meshPort s p).replay <+: (meshPort t p).replay

section
variable {p : Nat} {s t u : State}

theorem Took.trans (h : Took p s t) (k : Took p t u) : Took p s u :=
  ⟨k.port.trans h.port, k.beside.trans h.beside, h.replay.trans k.replay⟩

theorem Sent.took (h : Sent p s t) : Took p s t := by
  refine ⟨?_, h.beside, h.replay⟩
  unfold beyondTake
  rw [h.port]

theorem Took.link (h : Took p s t) : (meshPort t p).link = (meshPort s p).link := (congrArg MeshPort.link h.port :)
theorem Took.naked (h : Took p s t) : (meshPort t p).naked = (meshPort s p).naked := (congrArg MeshPort.naked h.port :)
theorem Took.up (h : Took p s t) (up : (meshPort s p).link ≠ .disabled) : (meshPort t p).link ≠ .disabled := h.link ▸ up

/-- A frame that awaits its acknowledgement awaits it still. -/
theorem Took.awaits {l : Nat} (h : Took p s t) (here : ((meshPort s p).replay.any fun f => f.lseq == l) = true) :
    ((meshPort t p).replay.any fun f => f.lseq == l) = true := by
  obtain ⟨f, listed, is⟩ := List.any_eq_true.1 here
  exact List.any_eq_true.2 ⟨f, h.replay.subset listed, is⟩

variable (up : (meshPort s p).link ≠ .disabled)
include up

theorem modMesh_took {f : MeshPort → MeshPort} (port : beyondTake (f (meshPort s p)) = beyondTake (meshPort s p))
    (replay : (f (meshPort s p)).replay = (meshPort s p).replay) : Took p s (modMesh p f s) := by
  have link : (f (meshPort s p)).link = (meshPort s p).link := (congrArg MeshPort.link port :)
  have after := meshPort_modMesh_up f (link ▸ up)
  exact ⟨by rw [after, port], rfl, by rw [after, replay]⟩

theorem meshTake_took (cls : Nat) : Took p s (meshTake p cls s) := by
  unfold meshTake
  extract_lets m s1 s2
  have first : Took p s s1 := modMesh_took up rfl rfl
  have second : Took p s s2 := by
    simp only [s2]
    split
    · have cleared : Took p s1 (modMesh p (fun m => { m with unacked := 0 }) s1) := modMesh_took (first.up up) rfl rfl
      have ready := first.trans cleared
      exact ready.trans (meshSendFrame_sent (ready.up up) ..).took
    · exact first
  split
  · exact second.trans (meshSendFrame_sent (second.up up) ..).took
  · split
    · have cleared : Took p s2 (modMesh p (fun m => { m with linkOwed := 0 }) s2) := modMesh_took (second.up up) rfl rfl
      have ready := second.trans cleared
      exact ready.trans (meshSendFrame_sent (ready.up up) ..).took
    · exact second

end

/-- A frame that passes the checks of its link is acted on once it has been taken. -/
theorem meshRx_arrives {p cls kind : Nat} {b : List Byte} {s : State} (h : FrameArrives p cls kind b s) (f : State → State) :
    meshRx p cls kind b f s = f (meshTake p cls s) := by
  obtain ⟨_, _, passes, crc, lseq, mac, form⟩ := h
  unfold meshRx
  dsimp only
  rw [if_neg (by simp [passes]), if_neg (by simp [crc, lseq]), if_neg (by simp [mac]), if_neg (by simp [form])]

/-! ### Training (R195, R296) -/

section
variable {p : Nat} {s : State}

theorem meshSendTs_besideOut (p kind flags : Nat) (s : State) : besideOut (meshSendTs p kind flags s) = besideOut s := by
  unfold meshSendTs
  exact eachNat_keeps besideOut _ _ s fun _ u => ite_keeps besideOut (b := emit _ u) rfl rfl

theorem meshPort_of_besideOut {s t : State} (h : besideOut t = besideOut s) (p : Nat) : meshPort t p = meshPort s p :=
  meshPort_congr (congrArg State.trz h :) p

@[simp] theorem meshPort_meshSendTs (kind flags q : Nat) : meshPort (meshSendTs p kind flags s) q = meshPort s q :=
  meshPort_of_besideOut (meshSendTs_besideOut p kind flags s) q

/-- A port on which a training begins (R190, R296). -/
theorem meshPort_meshTrain {link : MeshLink} (h : link ≠ .disabled) : meshPort (meshTrain p link s) p = { meshPort s p with
    link := link, firIn := (meshPort s p).fir, pre := (firStart (meshPort s p).fir).1, post := (firStart (meshPort s p).fir).2
    eqReqs := 0, eqOk := 0, cfg := false, ts2Rx := 0, ts2Tx := 0, peerBad := 0, session := none, ownNonce := []
    peerNonce := [], laneOver := [], again := !(meshPort s p).replay.isEmpty } := by
  rw [meshTrain, meshPort_meshSendTs]
  exact meshPort_modMesh_up _ h

theorem meshTrain_apart (p : Nat) (link : MeshLink) (s : State) : apart (meshTrain p link s) = apart s :=
  (apart_of_besideOut (meshSendTs_besideOut ..)).trans (modMesh_apart ..)

/-- Sixteen TS2 leave and are counted. -/
theorem meshPort_meshConfig (up : (meshPort s p).link ≠ .disabled) : meshPort (meshConfig p s) p =
    { meshPort s p with cfg := true, ts2Tx := (meshPort s p).ts2Tx + 16 } := by
  have counted (l : List Nat) {u : State} (hu : (meshPort u p).link ≠ .disabled) :
      meshPort (eachNat (fun _ s => modMesh p (fun m => { m with ts2Tx := m.ts2Tx + 1 }) (meshSendTs p 0x2D 0 s)) l u) p =
        { meshPort u p with ts2Tx := (meshPort u p).ts2Tx + l.length } := by
    induction l generalizing u with
    | nil => rfl
    | cons n r ih =>
      have once : meshPort (modMesh p (fun m => { m with ts2Tx := m.ts2Tx + 1 }) (meshSendTs p 0x2D 0 u)) p =
          { meshPort u p with ts2Tx := (meshPort u p).ts2Tx + 1 } := by
        rw [meshPort_modMesh_up _ (by rw [meshPort_meshSendTs]; exact hu), meshPort_meshSendTs]
      rw [eachNat, ih (by rw [once]; exact hu), once]
      simp only [List.length_cons]
      congr 1
      omega
  have begun : meshPort (modMesh p (fun m => { m with cfg := true }) s) p = { meshPort s p with cfg := true } :=
    meshPort_modMesh_up _ up
  rw [meshConfig, counted _ (by rw [begun]; exact up), begun]
  rfl

theorem meshConfig_apart (p : Nat) (s : State) : apart (meshConfig p s) = apart s := by
  unfold meshConfig
  refine (eachNat_keeps apart _ _ _ fun _ u => ?_).trans (modMesh_apart ..)
  exact (modMesh_apart ..).trans (apart_of_besideOut (meshSendTs_besideOut p 0x2D 0 u))

theorem training_up (h : meshTraining (meshPort s p) = true) : (meshPort s p).link ≠ .disabled := by
  intro off
  simp [meshTraining, off] at h

theorem meshTsRx_idle {ts : List Byte} (h : meshTraining (meshPort s p) = false) : meshTsRx p ts s = s :=
  if_pos (by simp [h])

theorem meshTrainTimeout_idle (h : meshTraining (meshPort s p) = false) : meshTrainTimeout p s = s :=
  if_pos (by simp [h])

theorem meshTrained_idle {r : MeshTrain}
    (h : meshTraining (meshPort s p) = false ∨ (meshPort s p).ts2Rx < 16 ∨ (meshPort s p).ts2Tx < 16) :
    meshTrained p r s = s := by
  refine if_pos ?_
  rcases h with h | h <;> simp [h]

/-! ### Training sets received (R195, R296) -/

/-- The peer's identity and BAD map as a training set gives them (R194, R296). -/
def peerMet (p : Nat) (ts : List Byte) (s : State) : State := modMesh p (fun m => { m with
  peer := leAt ts 7 2 % 16384, peerPort := fld (byteAt ts 2) 2 0
  peerBad := m.peerBad ||| BitVec.ofNat 16 (leAt ts 9 2) }) s

theorem meshPort_peerMet (ts : List Byte) (up : (meshPort s p).link ≠ .disabled) : meshPort (peerMet p ts s) p =
    { meshPort s p with peer := leAt ts 7 2 % 16384, peerPort := fld (byteAt ts 2) 2 0
                        peerBad := (meshPort s p).peerBad ||| BitVec.ofNat 16 (leAt ts 9 2) } :=
  meshPort_modMesh_up _ up

section
variable {ts : List Byte} (training : meshTraining (meshPort s p) = true) (check : tsCheck ts = true)
  (known : meshExpects (meshPort s p) (leAt ts 7 2) = true)
include training check known

theorem meshTsRx_ts2 (kind : byteAt ts 0 = 0x2D) : meshTsRx p ts s =
    if (meshPort s p).cfg then modMesh p (fun m => { m with ts2Rx := m.ts2Rx + 1 }) (peerMet p ts s)
    else peerMet p ts s := by
  unfold meshTsRx
  dsimp only
  rw [if_neg (by simp [training, check, kind]), if_neg (by simp [known]), if_neg (by simp [kind]), peerMet]

/-- R195: a TS1 that asks for nothing is counted; the eighth in a row leads to sixteen TS2. -/
theorem meshTsRx_ts1 (kind : byteAt ts 0 = 0x1E) (first : (meshPort s p).cfg = false) (req : bitOf (byteAt ts 3) 0 = false)
    (preset : bitOf (byteAt ts 3) 2 = false) : meshTsRx p ts s =
      let counted := modMesh p (fun m => { m with eqOk := m.eqOk + 1 }) (peerMet p ts s)
      if 8 ≤ (meshPort s p).eqOk + 1 then meshConfig p counted else counted := by
  have met := meshPort_peerMet ts (training_up training)
  have same : modMesh p (fun m => { m with eqOk := (meshPort (peerMet p ts s) p).eqOk + 1 }) (peerMet p ts s) =
      modMesh p (fun m => { m with eqOk := m.eqOk + 1 }) (peerMet p ts s) := modMesh_congr rfl
  have eqOk : (meshPort (peerMet p ts s) p).eqOk = (meshPort s p).eqOk := by rw [met]
  unfold meshTsRx
  dsimp only
  rw [if_neg (by simp [training, check, kind]), if_neg (by simp [known]), if_pos (by simp [kind]), if_neg (by simp [first])]
  show meshTs1 p ts (peerMet p ts s) = _
  unfold meshTs1
  simp only [req, preset, Bool.or_false, Bool.false_eq_true, if_false, Bool.not_false, if_true]
  rw [same, eqOk]

end

/-! ### Trainings that end (R296 to R298, R314) -/

theorem meshOffline_besideUnits (p cause : Nat) (s : State) : besideUnits (meshOffline p cause s) = besideUnits s :=
  ite_keeps besideUnits (unitTo_besideUnits ..) rfl

theorem meshOnline_besideUnits (p : Nat) (s : State) : besideUnits (meshOnline p s) = besideUnits s := by
  unfold meshOnline
  dsimp only
  split
  · exact unitTo_besideUnits ..
  · exact ite_keeps besideUnits rfl (unitTo_besideUnits ..)
  · rfl

/-- R296: what a MISWIRED port and TRZ_ERR hold. -/
theorem meshMiswire_reads (p : Nat) (s : State) : (meshPort (meshMiswire p s) p).miswired = true ∧
    (meshPort (meshMiswire p s) p).link = .disabled ∧ bitOf (meshMiswire p s).trz.err 5 = true ∧
    (meshMiswire p s).pending = s.pending := by
  have marked : meshPort (modMesh p (fun m => { m with miswired := true }) s) p = { meshPort s p with miswired := true } :=
    meshPort_modMesh p _ s fun e => by simpa using congrArg MeshPort.miswired e
  generalize hs1 : modMesh p (fun m => { m with miswired := true }) s = s1 at marked
  have hp : s1.pending = s.pending := by rw [← hs1]; rfl
  have off := meshPort_modMesh p (fun m => { m with
    link := .disabled, session := none, retrying := false, waiting := [], replay := [] }) s1
    fun e => by simpa [marked] using congrArg MeshPort.miswired e
  have units : besideUnits (meshDisable p 8 s1) = _ := meshOffline_besideUnits p 8 _
  have read : meshPort (meshMiswire p s) p = meshPort (meshDisable p 8 s1) p := by
    rw [meshMiswire, hs1]
    rfl
  rw [read, meshPort_of_units units, off, marked]
  refine ⟨rfl, rfl, bitOf_setBit _ (by decide), ?_⟩
  rw [meshMiswire, hs1]
  exact (pending_of_units units).trans hp

/-! ### A port comes up (R296, R298, R312) -/

/-- What a training finds of a port's lanes. -/
def lanesOf (m : MeshPort) : BitVec 16 × Nat × BitVec 16 × Nat × List Nat := (m.bad, m.w, m.active, m.peer, m.sparing)

theorem lanesOf_eq_iff {m n : MeshPort} : lanesOf m = lanesOf n ↔
    m.bad = n.bad ∧ m.w = n.w ∧ m.active = n.active ∧ m.peer = n.peer ∧ m.sparing = n.sparing := by
  simp only [lanesOf, Prod.mk.injEq]

/-- From one state to another a port has come to a link state, with its lanes as they were. -/
structure Goes (p : Nat) (link : MeshLink) (s t : State) : Prop where
  lanes : lanesOf (meshPort t p) = lanesOf (meshPort s p)
  link : (meshPort t p).link = link
  beside : besideMesh t = besideMesh s

theorem lanesOf_of_sends {m n : MeshPort} (h : beyondSend m = beyondSend n) : lanesOf m = lanesOf n := (congrArg lanesOf h :)

theorem Sent.goes {s t : State} (h : Sent p s t) : Goes p (meshPort s p).link s t :=
  ⟨lanesOf_of_sends h.port, h.link, besideMesh_of_apart h.beside⟩

theorem Goes.trans {l k : MeshLink} {s t u : State} (h : Goes p l s t) (g : Goes p k t u) : Goes p k s u :=
  ⟨g.lanes.trans h.lanes, g.link, g.beside.trans h.beside⟩

/-- A change of a port that goes to a link state. -/
theorem modMesh_goes {f : MeshPort → MeshPort} {l : MeshLink} {s : State} (up : l ≠ .disabled)
    (link : (f (meshPort s p)).link = l) (lanes : lanesOf (f (meshPort s p)) = lanesOf (meshPort s p)) :
    Goes p l s (modMesh p f s) := by
  have after := meshPort_modMesh_up f (s := s) (p := p) (link ▸ up)
  exact ⟨by rw [after, lanes], by rw [after, link], modMesh_besideMesh ..⟩

/-- What changes units and events only leaves a port where it is. -/
theorem units_goes {s t : State} (h : besideUnits t = besideUnits s) : Goes p (meshPort s p).link s t := by
  have same := meshPort_of_units h p
  exact ⟨by rw [same], by rw [same], besideMesh_of_units h⟩

theorem sendHello_sent (nonce : List Byte) {s : State} (up : (meshPort s p).link ≠ .disabled) :
    Sent p (modMesh p (fun m => { m with ownNonce := nonce, peerNonce := [] }) s) (sendHello p nonce s) :=
  meshSendFrame_sent (by rw [meshPort_modMesh_up _ up]; exact up) ..

theorem meshAuth_goes (p : Nat) (s : State) : Goes p .auth s (meshAuth p s) := by
  have drawn : Goes p .auth s (modMesh p (fun m => { m with link := .auth, session := none }) (drawNonce s).2) := by
    have goes := modMesh_goes (p := p) (f := fun m => { m with link := .auth, session := none }) (s := (drawNonce s).2)
      (l := .auth) (by decide) rfl rfl
    exact ⟨goes.lanes, goes.link, goes.beside⟩
  have up : (meshPort (modMesh p (fun m => { m with link := .auth, session := none }) (drawNonce s).2) p).link ≠ .disabled := by
    rw [drawn.link]
    decide
  have said := modMesh_goes (f := fun m => { m with ownNonce := (drawNonce s).1, peerNonce := [] }) up rfl rfl
  have sent := (sendHello_sent (drawNonce s).1 up).goes
  rw [said.link, drawn.link] at sent
  exact drawn.trans (said.trans sent)

theorem meshUp_goes (p : Nat) (s : State) : Goes p .active s (meshUp p s) := by
  unfold meshUp
  extract_lets s1 m r s2
  have online : Goes p .active s s1 := by
    have active := modMesh_goes (p := p) (f := fun m => { m with link := .active }) (s := s) (l := .active) (by decide) rfl rfl
    have unit := units_goes (p := p) (meshOnline_besideUnits p (modMesh p (fun m => { m with link := .active }) s))
    rw [active.link] at unit
    exact active.trans unit
  have replayed : Goes p .active s1 s2 := by
    simp only [s2]
    split
    next first _ _ _ =>
      have renumbered := modMesh_goes (f := fun m => { m with replay := r.1, txCtr := r.2 }) (s := s1) (p := p)
        (l := .active) (by decide) online.link rfl
      have sent := (meshReplay_sent (by rw [renumbered.link]; decide) first.lseq).goes
      rw [renumbered.link] at sent
      exact renumbered.trans sent
    · exact ⟨rfl, online.link, rfl⟩
  have settled := modMesh_goes (f := fun m => { m with again := false }) (s := s2) (p := p) (l := .active) (by decide)
    replayed.link rfl
  have sent := (meshPump_sent (p := p) (s := modMesh p (fun m => { m with again := false }) s2)
    (by rw [settled.link]; decide)).goes
  rw [settled.link] at sent
  exact online.trans (replayed.trans (settled.trans sent))

/-- Where a training leads a port with `w` lanes in use: to FAILED, to AUTH or to ACTIVE (R296, R298). -/
def linkGoes (p w : Nat) (s : State) : State :=
  if w = 0 then meshOffline p 6 (modMesh p (fun m => { m with link := .failed }) s)
  else
    let s1 := meshSds p (modMesh p (fun m => { m with fails := 0 }) s)
    if authReq s1 p then meshAuth p s1 else meshUp p s1

theorem linkGoes_goes {w : Nat} {s : State} (up : (meshPort s p).link ≠ .disabled) :
    Goes p (if w = 0 then .failed else if authReq s p then .auth else .active) s (linkGoes p w s) := by
  unfold linkGoes
  split
  · have failed := modMesh_goes (p := p) (f := fun m => { m with link := .failed }) (s := s) (l := .failed) (by decide) rfl rfl
    have unit := units_goes (p := p) (meshOffline_besideUnits p 6 (modMesh p (fun m => { m with link := .failed }) s))
    rw [failed.link] at unit
    exact failed.trans unit
  · have passed := modMesh_goes (f := fun m => { m with fails := 0 }) up rfl rfl
    have sds : Goes p (meshPort s p).link (modMesh p (fun m => { m with fails := 0 }) s)
        (meshSds p (modMesh p (fun m => { m with fails := 0 }) s)) := by
      have streams := modMesh_goes (p := p) (f := fun x => { x with part := []
                                                                    lfsr := ((List.range 16).filter fun l => bitOf x.active l).map lfsrStart })
        (s := modMesh p (fun m => { m with fails := 0 }) s) up passed.link rfl
      exact ⟨streams.lanes, streams.link, streams.beside⟩
    have ready := passed.trans sds
    dsimp only
    rw [authReq_of_besideMesh ready.beside]
    split
    · exact ready.trans (meshAuth_goes ..)
    · exact ready.trans (meshUp_goes ..)

/-! ### The commitment of BAD (R298, R424) -/

/-- The copy written is the one in force afterwards: its SEQ is the higher (R424). -/
theorem mapInForce_committed {m : Mram} {new : SpareMap} (good : new.crcOk = true) (next : new.seq = (mapInForce m).seq + 1) :
    mapInForce (if mapInForce m == m.mapA then { m with mapB := new } else { m with mapA := new }) = new := by
  have other {x : SpareMap} (inForce : mapInForce m = x) (ne : x ≠ m.mapA) : (mapInForce m == m.mapA) = false := by
    rw [inForce]
    exact beq_eq_false_iff_ne.2 ne
  have isA (inForce : mapInForce m = m.mapA) : (mapInForce m == m.mapA) = true := by rw [inForce]; exact beq_self_eq_true _
  cases hA : m.mapA.crcOk <;> cases hB : m.mapB.crcOk
  case false.false =>
    have inForce : mapInForce m = {} := by simp [mapInForce, hA, hB]
    rw [other inForce fun e => by simpa [hA] using congrArg SpareMap.crcOk e]
    simp [mapInForce, good, hB]
  case false.true =>
    have inForce : mapInForce m = m.mapB := by simp [mapInForce, hA, hB]
    rw [inForce] at next
    rw [other inForce fun e => by simpa [hA, hB] using congrArg SpareMap.crcOk e]
    simp [mapInForce, good, hB, next]
  case true.false =>
    have inForce : mapInForce m = m.mapA := by simp [mapInForce, hA, hB]
    rw [inForce] at next
    rw [isA inForce]
    simp [mapInForce, good, hA, next]
  case true.true =>
    by_cases newer : m.mapA.seq < m.mapB.seq
    · have inForce : mapInForce m = m.mapB := by simp [mapInForce, hA, hB, newer]
      rw [inForce] at next
      rw [other inForce fun e => by simp [e] at newer]
      simp [mapInForce, good, hB, next]
    · have inForce : mapInForce m = m.mapA := by simp [mapInForce, hA, hB, newer]
      rw [inForce] at next
      rw [isA inForce]
      simp [mapInForce, good, hA, next]

/-- Entries put one after the other: each reads back. -/
theorem spGet_puts {v : Nat → Nat} {p : Nat} {l : List Nat} {m : Sparse Nat} (rises : Rises m)
    (h : spGet 0 m p = v p ∨ p ∈ l) : spGet 0 (l.foldl (fun m p => spSet 0 m p (v p)) m) p = v p := by
  induction l generalizing m with
  | nil => exact h.resolve_right (by simp)
  | cons k r ih =>
    refine ih (spSet_rises rises) ?_
    by_cases here : p = k
    · subst here
      exact .inl (spGet_spSet_rises rises)
    · rcases h with put | listed
      · exact .inl ((spGet_spSet_ne _ _ _ _ _ here).trans put)
      · exact .inr ((List.mem_cons.1 listed).resolve_left here)

theorem mapNow_trzBad {s : State} (hp : p < 6) : spGet 0 (mapNow s).trzBad p = (meshPort s p).bad.toNat :=
  spGet_puts (v := fun p => (meshPort s p).bad.toNat) List.Pairwise.nil (.inr (List.mem_range.2 hp))

/-- A commitment that passes puts the map as it stands in force (R424). -/
theorem commitMap_inForce (s : State) : mapInForce (commitMap true s).mram =
    { mapNow s with seq := (mapInForce s.mram).seq + 1 } := mapInForce_committed rfl rfl

/-- A commitment that passes and the log entries of its lanes: nothing is left in a bring-in, and BAD is in force (R298). -/
theorem laneCommit_reads {lanes : List Nat} {s : State} (hp : p < 6) (up : (meshPort s p).link ≠ .disabled)
    (ok : (meshPort s p).commitOk = true) :
    meshPort (laneCommit p lanes s) p = { meshPort s p with sparing := [] } ∧
      spGet 0 (mapInForce (laneCommit p lanes s).mram).trzBad p = (meshPort s p).bad.toNat ∧
      (laneCommit p lanes s).pending = s.pending := by
  have cleared : meshPort (modMesh p (fun m => { m with sparing := [] }) s) p = { meshPort s p with sparing := [] } :=
    meshPort_modMesh_up _ up
  generalize hs1 : modMesh p (fun m => { m with sparing := [] }) s = s1 at cleared
  have pending : s1.pending = s.pending := by rw [← hs1]; rfl
  have logged : besideUnits (laneCommit p lanes s) = besideUnits (commitMap true s1) := by
    rw [laneCommit, ok, hs1]
    exact foldl_keeps besideUnits _ lanes _ fun _ _ => log_besideUnits ..
  refine ⟨?_, ?_, (pending_of_units logged).trans pending⟩
  · rw [meshPort_of_units logged]
    exact cleared
  · rw [mram_of_units logged, commitMap_inForce]
    show spGet 0 (mapNow s1).trzBad p = _
    rw [mapNow_trzBad hp, cleared]

/-! ### The lanes that a training finds (R295 to R298) -/

/-- Lanes in use until now that failed their check in this training (R297). -/
def lostLanes (m : MeshPort) (r : MeshTrain) : List Nat :=
  (r.failed.filter fun l => decide (l < 16) && !bitOf m.bad l).eraseDups

/-- Lanes that the training leaves unused: those of both BAD maps and those lost (R298). -/
def lanesOut (m : MeshPort) (r : MeshTrain) : BitVec 16 := (lostLanes m r).foldl setBit (m.bad ||| (m.peerBad ||| r.bad))

/-- A port with what its training has found. -/
def lanesFound (p : Nat) (r : MeshTrain) (s : State) : State :=
  let m := meshPort s p
  modMesh p (fun x => { x with
    peer := r.peer % 16384, peerPort := r.peerPort % 8, peerBad := m.peerBad ||| r.bad, w := meshWidth (lanesOut m r)
    active := goodLanes (lanesOut m r) (meshWidth (lanesOut m r)), retrying := false, rxNak := false, naked := none }) s

theorem meshTrained_found {r : MeshTrain} {s : State} (training : meshTraining (meshPort s p) = true)
    (rx : 16 ≤ (meshPort s p).ts2Rx) (tx : 16 ≤ (meshPort s p).ts2Tx) (known : meshExpects (meshPort s p) r.peer = true) :
    let m := meshPort s p
    let s1 := lanesFound p r s
    (m.sparing = [] → meshTrained p r s = if meshWidth (lanesOut m r) = 0 then linkGoes p 0 s1
      else lanesFailed p (lostLanes m r) (linkGoes p (meshWidth (lanesOut m r)) s1)) ∧
    (m.sparing ≠ [] → meshTrained p r s = linkGoes p (meshWidth (lanesOut m r))
      (laneCommit p (m.sparing ++ lostLanes m r)
        (modMesh p (fun x => { x with bad := (lostLanes m r).foldl setBit x.bad }) s1))) := by
  intro m s1
  constructor
  · intro none
    have empty : m.sparing.isEmpty = true := by simp [none]
    unfold meshTrained
    dsimp only
    rw [if_neg (by simp [training]; omega), if_neg (by simp [known]), if_pos empty, if_pos empty]
    change (if meshWidth (lanesOut m r) = 0 then _ else _) = _
    split
    · rfl
    next lanes =>
      rw [linkGoes, if_neg lanes]
      rfl
  · intro some
    have filled : ¬ m.sparing.isEmpty = true := by simp [some]
    unfold meshTrained
    dsimp only
    rw [if_neg (by simp [training]; omega), if_neg (by simp [known]), if_neg filled, if_neg filled]
    rfl

theorem meshPort_lanesFound (r : MeshTrain) {s : State} (up : (meshPort s p).link ≠ .disabled) :
    meshPort (lanesFound p r s) p = { meshPort s p with
      peer := r.peer % 16384, peerPort := r.peerPort % 8, peerBad := (meshPort s p).peerBad ||| r.bad
      w := meshWidth (lanesOut (meshPort s p) r)
      active := goodLanes (lanesOut (meshPort s p) r) (meshWidth (lanesOut (meshPort s p) r))
      retrying := false, rxNak := false, naked := none } := meshPort_modMesh_up _ up

/-- R297: lanes that fail are lasting faults, which leave the port where it is. -/
theorem lanesFailed_one (l : Nat) (s : State) : bitOf (lanesFailed p [l] s).trz.err 6 = true ∧
    meshPort (lanesFailed p [l] s) p = meshPort s p ∧ (lanesFailed p [l] s).pending = s.pending := by
  have units : besideUnits (lanesFailed p [l] s) = besideUnits (trzErr 6 s) := unitLasting_besideUnits ..
  have same : meshPort (trzErr 6 s) p = meshPort s p := rfl
  rw [trz_of_units units, meshPort_of_units units]
  exact ⟨bitOf_setBit _ (by decide), same, (pending_of_units units).trans rfl⟩

/-! ### Retraining and faults of a link (R296 to R298, R300, R305, R312, R314) -/

theorem meshRetrain_active {s : State} (active : (meshPort s p).link = .active) :
    meshRetrain p s = meshTrain p .retrain (modMesh p (fun m => { m with fails := 0 }) s) := by
  unfold meshRetrain
  rw [active]

theorem meshRetrain_apart {s : State} (active : (meshPort s p).link = .active) : apart (meshRetrain p s) = apart s := by
  rw [meshRetrain_active active]
  exact (meshTrain_apart ..).trans (modMesh_apart ..)

theorem meshPort_meshRetrain {s : State} (active : (meshPort s p).link = .active) : meshPort (meshRetrain p s) p =
    { meshPort s p with
      link := .retrain, fails := 0, firIn := (meshPort s p).fir, pre := (firStart (meshPort s p).fir).1
      post := (firStart (meshPort s p).fir).2, eqReqs := 0, eqOk := 0, cfg := false, ts2Rx := 0, ts2Tx := 0, peerBad := 0
      session := none, ownNonce := [], peerNonce := [], laneOver := [], again := !(meshPort s p).replay.isEmpty } := by
  rw [meshRetrain_active active, meshPort_meshTrain (by decide), meshPort_modMesh_up _ (by simp [active])]

theorem creditStall_waits {s : State} (active : (meshPort s p).link = .active) (waits : (meshPort s p).waiting ≠ []) :
    creditStall p s = meshRetrain p s := if_pos (by simp [active, waits])

theorem creditStall_idle {s : State} (idle : (meshPort s p).waiting = []) : creditStall p s = s := if_neg (by simp [idle])

/-- R298: a lane that joins BAD, and the port that retrains without it. -/
theorem laneSpare_turn {lane : Nat} {ok : Bool} {s : State} (turn : lastingTurn s 4 p = true) (low : lane < 16)
    (active : (meshPort s p).link = .active) :
    (meshPort (laneSpare p lane ok s) p).bad = setBit (meshPort s p).bad lane ∧
      (meshPort (laneSpare p lane ok s) p).link = .retrain ∧
      (meshPort (laneSpare p lane ok s) p).sparing = addOnce (meshPort s p).sparing lane ∧
      (meshPort (laneSpare p lane ok s) p).commitOk = ok ∧ besideMesh (laneSpare p lane ok s) = besideMesh s := by
  have popped := frontPop_besideUnits s
  have added := meshPort_modMesh_up (p := p) (s := frontPop s)
    (fun m => { m with bad := setBit m.bad lane, sparing := addOnce m.sparing lane, commitOk := ok })
    (by simp [meshPort_of_units popped, active])
  rw [meshPort_of_units popped] at added
  let s1 := modUnit 4 p (fun u => { u with gen := u.gen + 1 }) (modMesh p (fun m => { m with
    bad := setBit m.bad lane, sparing := addOnce m.sparing lane, commitOk := ok }) (frontPop s))
  have e : laneSpare p lane ok s = meshRetrain p s1 := if_neg (by simp [turn]; omega)
  have ready : meshPort s1 p = { meshPort s p with
      bad := setBit (meshPort s p).bad lane, sparing := addOnce (meshPort s p).sparing lane, commitOk := ok } := added
  have up : (meshPort s1 p).link = .active := by rw [ready]; exact active
  rw [e, meshPort_meshRetrain up, ready]
  have changed : besideMesh s1 = besideMesh (frontPop s) := rfl
  exact ⟨rfl, rfl, rfl, rfl,
    (besideMesh_of_apart (meshRetrain_apart up)).trans (changed.trans (besideMesh_of_units popped))⟩

/-- R312: a handshake that has failed. -/
theorem authFail_reads (p : Nat) (s : State) : (meshPort (authFail p s) p).link = .authFail ∧
    bitOf (authFail p s).trz.err 2 = true ∧ (authFail p s).pending = s.pending := by
  have failed := meshPort_modMesh_up (p := p) (s := s) (fun m => { m with link := .authFail, session := none }) (by simp)
  let s0 := modMesh p (fun m => { m with link := .authFail, session := none }) s
  obtain ⟨s1, hs1⟩ : ∃ s1, s1 = trzErr 2 (meshOffline p 6 s0) := ⟨_, rfl⟩
  have units := meshOffline_besideUnits p 6 s0
  have link : (meshPort s1 p).link = .authFail := by
    have same : meshPort s1 p = meshPort s0 p := by rw [hs1]; exact meshPort_of_units units p
    rw [same, failed]
  have err : bitOf s1.trz.err 2 = true := by rw [hs1]; exact bitOf_setBit _ (by decide)
  have pending : s1.pending = s.pending := by rw [hs1]; exact (pending_of_units units).trans rfl
  have e : authFail p s = s1 ∨
      authFail p s = log .trzAuthFail [p] (modMesh p (fun m => { m with authLogged := some (mtOf s) }) s1) := by
    subst hs1
    unfold authFail
    extract_lets m quiet t
    split
    · exact .inl rfl
    · exact .inr rfl
  rcases e with e | e
  · rw [e]
    exact ⟨link, err, pending⟩
  · have logged := log_besideUnits .trzAuthFail [p] (modMesh p (fun m => { m with authLogged := some (mtOf s) }) s1)
    rw [e, meshPort_of_units logged, trz_of_units logged, pending_of_units logged, meshPort_modMesh_up _ (by simp [link])]
    exact ⟨link, err, pending⟩

/-- R300: a frame that is dropped is counted and noted. -/
theorem meshDrop_reads {s : State} (up : (meshPort s p).link ≠ .disabled) :
    meshPort (meshDrop p s) p = { meshPort s p with drop := satAdd 32 (meshPort s p).drop 1, dropLogged := some (mtOf s) } ∧
      bitOf (meshDrop p s).trz.err 4 = true ∧ (meshDrop p s).pending = s.pending := by
  have counted := meshPort_modMesh_up (p := p) (s := s)
    (fun m => { m with drop := satAdd 32 (meshPort s p).drop 1, dropLogged := some (mtOf s) }) up
  have units : besideUnits (meshDrop p s) = besideUnits (trzErr 4 (modMesh p (fun m => { m with
      drop := satAdd 32 (meshPort s p).drop 1, dropLogged := some (mtOf s) }) s)) := by
    have same : modMesh p (fun m => { m with drop := satAdd 32 m.drop 1, dropLogged := some (mtOf s) }) s =
        modMesh p (fun m => { m with drop := satAdd 32 (meshPort s p).drop 1, dropLogged := some (mtOf s) }) s :=
      modMesh_congr rfl
    unfold meshDrop
    dsimp only
    rw [same]
    exact ite_keeps besideUnits rfl (log_besideUnits ..)
  rw [meshPort_of_units units, trz_of_units units]
  exact ⟨counted, bitOf_setBit _ (by decide), (pending_of_units units).trans rfl⟩

/-! ### Acknowledgements (R305) -/

theorem ackTake_clear {l : Nat} {s : State} (awaits : ((meshPort s p).replay.any fun f => f.lseq == l) = true)
    (calm : (meshPort s p).naked = none) : ackTake p l s = meshPump p (modMesh p (fun m => { m with
      replay := ((meshPort s p).replay.dropWhile fun f => f.lseq != l).drop 1 }) s) := by
  have same : modMesh p (fun m => { m with
      replay := ((meshPort s p).replay.dropWhile fun f => f.lseq != l).drop 1
      naked := if false = true then none else m.naked, retry := if false = true then satAdd 32 m.retry 1 else m.retry }) s =
      modMesh p (fun m => { m with replay := ((meshPort s p).replay.dropWhile fun f => f.lseq != l).drop 1 }) s :=
    modMesh_congr rfl
  unfold ackTake
  dsimp only
  rw [if_neg (by simp [awaits]), calm]
  dsimp only
  rw [if_neg (by decide), same]

theorem nakTake_again {l : Nat} {s : State} (awaits : ((meshPort s p).replay.any fun f => f.lseq == l) = true)
    (again : (meshPort s p).naked = some l) : nakTake p l s = meshRetrain p s := by
  unfold nakTake
  dsimp only
  rw [if_neg (by simp [awaits]), if_pos again]

theorem nakTake_first {l : Nat} {s : State} (awaits : ((meshPort s p).replay.any fun f => f.lseq == l) = true)
    (first : (meshPort s p).naked ≠ some l) :
    nakTake p l s = meshReplay p l (modMesh p (fun m => { m with naked := some l }) s) := by
  unfold nakTake
  dsimp only
  rw [if_neg (by simp [awaits]), if_neg first]

end

end Sys2Proof.Machine
end

section
/-! Mesh ports run (R190, R195, R295 to R298, R300, R301, R305, R312, R314). -/

namespace Sys2Proof

open Machine

section
variable {p : Nat} {s : State} (hp : p < 6) (hq : Quiet s)
include hp hq

/-- An event of a port that the device has does its own operation in a quiet state. -/
theorem port_exact {f : State → State} {t : State} (e : f s = t) (hh : holds (f s) = holds s) (pending : t.pending = s.pending) :
    unitRow (decide (p < 6)) f s = .next t := by
  rw [decide_eq_true hp, unitRow_exact hq e (e ▸ hh) pending]

theorem port_noop {f : State → State} (e : f s = s) : unitRow (decide (p < 6)) f s = .next s :=
  port_exact hp hq e (congrArg holds e) rfl

theorem lane_exact {lane : Nat} {f : State → State} {t : State} (low : lane < 16) (e : f s = t) (hh : holds (f s) = holds s)
    (pending : t.pending = s.pending) : unitRow (decide (p < 6 ∧ lane < 16)) f s = .next t := by
  rw [decide_eq_true ⟨hp, low⟩, unitRow_exact hq e (e ▸ hh) pending]

/-! ### Training sets received (R194 to R196, R296) -/

section
variable {ts : TsBytes} (training : meshTraining (meshPort s p) = true) (check : tsCheck ts = true)
  (known : meshExpects (meshPort s p) (leAt ts 7 2) = true)
include training check known

theorem portTs2_counts (kind : byteAt ts 0 = 0x2D) (cfg : (meshPort s p).cfg = true) : exec (.trzTsRx p ts) s =
    .next (modMesh p (fun m => { m with ts2Rx := m.ts2Rx + 1 }) (peerMet p ts s)) := by
  refine port_exact hp hq ?_ (meshTsRx_holds ..) rfl
  rw [meshTsRx_ts2 training check known kind, if_pos cfg]

theorem portTs2_early (kind : byteAt ts 0 = 0x2D) (cfg : (meshPort s p).cfg = false) : exec (.trzTsRx p ts) s =
    .next (peerMet p ts s) := by
  refine port_exact hp hq ?_ (meshTsRx_holds ..) rfl
  rw [meshTsRx_ts2 training check known kind, if_neg (by simp [cfg])]

section
variable (kind : byteAt ts 0 = 0x1E) (first : (meshPort s p).cfg = false) (req : bitOf (byteAt ts 3) 0 = false)
  (preset : bitOf (byteAt ts 3) 2 = false)
include kind first req preset

theorem portTs1_counts (early : (meshPort s p).eqOk + 1 < 8) : exec (.trzTsRx p ts) s =
    .next (modMesh p (fun m => { m with eqOk := m.eqOk + 1 }) (peerMet p ts s)) := by
  refine port_exact hp hq ?_ (meshTsRx_holds ..) rfl
  rw [meshTsRx_ts1 training check known kind first req preset]
  exact if_neg (by omega)

theorem portTs1_eighth (eighth : 8 ≤ (meshPort s p).eqOk + 1) : ∃ t, exec (.trzTsRx p ts) s = .next t ∧
    (meshPort t p).cfg = true ∧ (meshPort t p).ts2Tx = (meshPort s p).ts2Tx + 16 ∧ apart t = apart s := by
  have up := training_up training
  have met := meshPort_peerMet ts up
  have counted := meshPort_modMesh_up (s := peerMet p ts s) (p := p) (fun m => { m with eqOk := m.eqOk + 1 })
    (by rw [met]; exact up)
  have beside := meshConfig_apart p (modMesh p (fun m => { m with eqOk := m.eqOk + 1 }) (peerMet p ts s))
  have e := meshTsRx_ts1 training check known kind first req preset
  dsimp only at e
  rw [if_pos eighth] at e
  have configured := meshPort_meshConfig (s := modMesh p (fun m => { m with eqOk := m.eqOk + 1 }) (peerMet p ts s)) (p := p)
    (by rw [counted, met]; exact up)
  refine ⟨_, port_exact hp hq e (meshTsRx_holds ..) (pending_of_apart beside), ?_⟩
  rw [configured, counted, met]
  exact ⟨rfl, rfl, beside⟩

end
end

/-! ### Trainings that end (R296 to R298, R314) -/

theorem portDone_miswired {r : MeshTrain} (training : meshTraining (meshPort s p) = true) (rx : 16 ≤ (meshPort s p).ts2Rx)
    (tx : 16 ≤ (meshPort s p).ts2Tx) (stranger : meshExpects (meshPort s p) r.peer = false) :
    ∃ t, exec (.trzTrainDone p r) s = .next t ∧ (meshPort t p).miswired = true ∧ (meshPort t p).link = .disabled ∧
      bitOf t.trz.err 5 = true := by
  have e : meshTrained p r s = meshMiswire p s := by
    unfold meshTrained
    dsimp only
    rw [if_neg (by simp [training]; omega), if_pos (by simp [stranger])]
  obtain ⟨miswired, link, err, pending⟩ := meshMiswire_reads p s
  exact ⟨_, port_exact hp hq e (meshTrained_holds ..) pending, miswired, link, err⟩

section
variable {r : MeshTrain} (training : meshTraining (meshPort s p) = true) (rx : 16 ≤ (meshPort s p).ts2Rx)
  (tx : 16 ≤ (meshPort s p).ts2Tx) (known : meshExpects (meshPort s p) r.peer = true)
include training rx tx known

theorem portDone_goes (sound : r.failed = []) (settled : (meshPort s p).sparing = []) :
    let out := (meshPort s p).bad ||| ((meshPort s p).peerBad ||| r.bad)
    ∃ t, exec (.trzTrainDone p r) s = .next t ∧ (meshPort t p).bad = (meshPort s p).bad ∧
      (meshPort t p).w = meshWidth out ∧ (meshPort t p).active = goodLanes out (meshWidth out) ∧
      (meshPort t p).peer = r.peer % 16384 ∧
      (meshPort t p).link = (if meshWidth out = 0 then .failed else if authReq s p then .auth else .active) ∧
      t.mram = s.mram ∧ t.clp = s.clp := by
  intro out
  have up := training_up training
  have none : lostLanes (meshPort s p) r = [] := by simp [lostLanes, sound]
  have map : lanesOut (meshPort s p) r = out := by rw [lanesOut, none]; rfl
  have found := meshPort_lanesFound r up
  have e : meshTrained p r s = linkGoes p (meshWidth out) (lanesFound p r s) := by
    rw [(meshTrained_found training rx tx known).1 settled, map, none]
    split
    next nowhere => rw [nowhere]
    next => rfl
  have goes := linkGoes_goes (p := p) (w := meshWidth out) (s := lanesFound p r s) (by rw [found]; exact up)
  obtain ⟨lanes, link, beside⟩ := goes
  have same : besideMesh (lanesFound p r s) = besideMesh s := modMesh_besideMesh ..
  rw [found, map] at lanes
  obtain ⟨bad, w, active, peer, -⟩ := lanesOf_eq_iff.1 lanes
  have left := beside.trans same
  exact ⟨_, port_exact hp hq e (meshTrained_holds ..) (pending_of_besideMesh left), bad, w, active, peer,
    link.trans (by rw [authReq_of_besideMesh same]), mram_of_besideMesh left, clp_of_besideMesh left⟩

theorem portDone_commits (sound : r.failed = []) (sparing : (meshPort s p).sparing ≠ [])
    (ok : (meshPort s p).commitOk = true) : ∃ t, exec (.trzTrainDone p r) s = .next t ∧ (meshPort t p).sparing = [] ∧
      (meshPort t p).bad = (meshPort s p).bad ∧ spGet 0 (mapInForce t.mram).trzBad p = (meshPort s p).bad.toNat := by
  have up := training_up training
  have none : lostLanes (meshPort s p) r = [] := by simp [lostLanes, sound]
  have e := (meshTrained_found training rx tx known).2 sparing
  rw [none, List.append_nil] at e
  have found := meshPort_lanesFound r up
  have kept := meshPort_modMesh_up (p := p) (s := lanesFound p r s) (fun x => { x with bad := x.bad })
    (by rw [found]; exact up)
  rw [found] at kept
  generalize hs1 : modMesh p (fun x => { x with bad := x.bad }) (lanesFound p r s) = s1 at kept
  have pending : s1.pending = s.pending := by rw [← hs1]; rfl
  obtain ⟨port, map, waits⟩ := laneCommit_reads (lanes := (meshPort s p).sparing) hp (s := s1) (by rw [kept]; exact up)
    (by rw [kept]; exact ok)
  obtain ⟨lanes, link, beside⟩ := linkGoes_goes (p := p) (w := meshWidth (lanesOut (meshPort s p) r))
    (s := laneCommit p (meshPort s p).sparing s1) (by rw [port, kept]; exact up)
  rw [port, kept] at lanes
  rw [kept] at map
  obtain ⟨bad, -, -, -, cleared⟩ := lanesOf_eq_iff.1 lanes
  have whole : meshTrained p r s = linkGoes p (meshWidth (lanesOut (meshPort s p) r)) (laneCommit p (meshPort s p).sparing s1) := by
    rw [e, ← hs1]
    rfl
  refine ⟨_, port_exact hp hq whole (meshTrained_holds ..) ((pending_of_besideMesh beside).trans (waits.trans pending)),
    cleared, bad, ?_⟩
  rw [mram_of_besideMesh beside]
  exact map

theorem portDone_loses {l : Nat} (low : l < 16) (used : bitOf (meshPort s p).bad l = false) (lost : r.failed = [l])
    (settled : (meshPort s p).sparing = [])
    (lanes : meshWidth (setBit ((meshPort s p).bad ||| ((meshPort s p).peerBad ||| r.bad)) l) ≠ 0) :
    ∃ t, exec (.trzTrainDone p r) s = .next t ∧ bitOf t.trz.err 6 = true ∧ (meshPort t p).bad = (meshPort s p).bad := by
  have up := training_up training
  have one : lostLanes (meshPort s p) r = [l] := by simp [lostLanes, lost, low, used, List.eraseDups_cons]
  have found := meshPort_lanesFound r up
  have e := (meshTrained_found training rx tx known).1 settled
  have some : meshWidth (lanesOut (meshPort s p) r) ≠ 0 := by rw [lanesOut, one]; exact lanes
  rw [if_neg some, one] at e
  have goes := linkGoes_goes (p := p) (w := meshWidth (lanesOut (meshPort s p) r)) (s := lanesFound p r s)
    (by rw [found]; exact up)
  have kept := goes.lanes
  rw [found] at kept
  have left := goes.beside.trans (modMesh_besideMesh ..)
  obtain ⟨err, same, pending⟩ := lanesFailed_one (p := p) l
    (linkGoes p (meshWidth (lanesOut (meshPort s p) r)) (lanesFound p r s))
  refine ⟨_, port_exact hp hq e (meshTrained_holds ..) (pending.trans (pending_of_besideMesh left)), err, ?_⟩
  rw [same]
  exact (lanesOf_eq_iff.1 kept).1

end

section
variable (link : (meshPort s p).link = .training ∨ (meshPort s p).link = .retrain)
include link

theorem portTimeout_trainsAgain (first : (meshPort s p).fails = 0) : ∃ t, exec (.trzTrainTimeout p) s = .next t ∧
    (meshPort t p).link = (meshPort s p).link ∧ (meshPort t p).fails = 1 ∧ apart t = apart s := by
  have up : (meshPort s p).link ≠ .disabled := by rcases link with h | h <;> simp [h]
  have e : meshTrainTimeout p s = meshTrain p (meshPort s p).link (modMesh p (fun m => { m with fails := 1 }) s) := by
    unfold meshTrainTimeout
    dsimp only
    rw [if_neg (by rcases link with h | h <;> simp [meshTraining, h]), if_neg (by rcases link with h | h <;> simp [h]),
      if_pos first]
  have beside := meshTrain_apart p (meshPort s p).link (modMesh p (fun m => { m with fails := 1 }) s)
  refine ⟨_, port_exact hp hq e (meshTrainTimeout_holds ..) (pending_of_apart beside), ?_⟩
  rw [meshPort_meshTrain up, meshPort_modMesh_up _ up]
  exact ⟨rfl, rfl, beside⟩

theorem portTimeout_fails (second : (meshPort s p).fails ≠ 0) : ∃ t, exec (.trzTrainTimeout p) s = .next t ∧
    (meshPort t p).link = .failed := by
  obtain ⟨cause, e⟩ : ∃ cause, meshTrainTimeout p s =
      meshOffline p cause (modMesh p (fun m => { m with link := .failed, fails := 2 }) s) := by
    refine ⟨if (meshPort s p).link == .retrain then 3 else 1, ?_⟩
    unfold meshTrainTimeout
    dsimp only
    rw [if_neg (by rcases link with h | h <;> simp [meshTraining, h]), if_neg (by rcases link with h | h <;> simp [h]),
      if_neg second]
  have units := meshOffline_besideUnits p cause (modMesh p (fun m => { m with link := .failed, fails := 2 }) s)
  refine ⟨_, port_exact hp hq e (meshTrainTimeout_holds ..) ((pending_of_units units).trans rfl), ?_⟩
  rw [meshPort_of_units units, meshPort_modMesh_up _ (by simp)]

end

theorem portRetry_trains (failed : (meshPort s p).link = .failed) (may : meshEnabled s p = true) :
    ∃ t, exec (.trzFailedRetry p) s = .next t ∧ (meshPort t p).retrying = true ∧ (meshPort t p).link = .failed ∧
      (meshPort t p).firIn = (meshPort s p).fir ∧ apart t = apart s := by
  have e : meshFailedRetry p s = modMesh p (fun m => { m with retrying := true }) (meshTrain p .failed s) :=
    if_pos (by simp [failed, may])
  have trained := meshPort_meshTrain (p := p) (s := s) (link := .failed) (by decide)
  have beside := meshTrain_apart p .failed s
  refine ⟨_, port_exact hp hq e (meshFailedRetry_holds ..) (pending_of_apart beside), ?_⟩
  rw [meshPort_modMesh_up _ (by rw [trained]; simp), trained]
  exact ⟨rfl, rfl, rfl, beside⟩

/-! ### Lanes (R297, R298) -/

section
variable {lane : Nat} (low : lane < 16) (active : (meshPort s p).link = .active)
include low active

theorem laneWindow_lasts {n : Nat} (high : 16 < n) (second : lane ∈ (meshPort s p).laneOver) :
    exec (.trzLaneWindow p lane n) s = .next (unitLasting 4 p (trzErr 6 s)) := by
  refine lane_exact hp hq low ?_ (laneWindow_holds ..) (unitLasting_pending ..)
  unfold laneWindow
  dsimp only
  rw [if_neg (by simp [active]; omega), if_pos high, if_pos (by simp [second])]

theorem laneWindow_first {n : Nat} (high : 16 < n) (first : lane ∉ (meshPort s p).laneOver) :
    ∃ t, exec (.trzLaneWindow p lane n) s = .next t ∧ lane ∈ (meshPort t p).laneOver ∧ apart t = apart s := by
  have e : laneWindow p lane n s = modMesh p (fun m => { m with laneOver := addOnce m.laneOver lane }) s := by
    unfold laneWindow
    dsimp only
    rw [if_neg (by simp [active]; omega), if_pos high, if_neg (by simp [first])]
  refine ⟨_, lane_exact hp hq low e (laneWindow_holds ..) rfl, ?_, rfl⟩
  rw [meshPort_modMesh_up _ (by simp [active])]
  simp [addOnce, first]

theorem laneWindow_calm {n : Nat} (under : n ≤ 16) (first : lane ∉ (meshPort s p).laneOver) :
    exec (.trzLaneWindow p lane n) s = .next s := by
  refine lane_exact hp hq low ?_ (laneWindow_holds ..) rfl
  unfold laneWindow
  dsimp only
  rw [if_neg (by simp [active]; omega), if_neg (by omega), if_neg (by simp [first])]

theorem laneSpare_retrains (ok : Bool) (turn : lastingTurn s 4 p = true) : ∃ t, exec (.trzLaneSpare p lane ok) s = .next t ∧
    (meshPort t p).bad = setBit (meshPort s p).bad lane ∧ (meshPort t p).link = .retrain ∧
    lane ∈ (meshPort t p).sparing ∧ (meshPort t p).commitOk = ok ∧ t.mram = s.mram := by
  obtain ⟨bad, link, sparing, commits, beside⟩ := laneSpare_turn (ok := ok) turn low active
  refine ⟨_, lane_exact hp hq low rfl (laneSpare_holds ..) (pending_of_besideMesh beside), bad, link, ?_, commits,
    mram_of_besideMesh beside⟩
  rw [sparing, addOnce]
  split
  next listed => exact List.contains_iff_mem.1 listed
  next => simp

end

theorem portWindow_restores (active : (meshPort s p).link = .active) (whole : (meshPort s p).w = 15)
    (degraded : (unitOf s 4 p).state = .degraded) : exec (.trzPortCleanWindow p) s = .next (unitTo 4 p .online 6 s) := by
  refine port_exact hp hq ?_ (meshClean_holds ..) (unitTo_pending ..)
  unfold meshClean
  dsimp only
  rw [if_pos (by simp [active, whole]), cleanWindow_degraded degraded]

theorem portWindow_idle
    (h : (meshPort s p).link ≠ .active ∨ (meshPort s p).w ≠ 15 ∨ (unitOf s 4 p).state ≠ .degraded) :
    exec (.trzPortCleanWindow p) s = .next s := by
  refine port_noop hp hq ?_
  unfold meshClean
  dsimp only
  split
  next up =>
    obtain ⟨active, whole⟩ : (meshPort s p).link = .active ∧ (meshPort s p).w = 15 := by simpa using up
    exact cleanWindow_other ((h.resolve_left (· active)).resolve_left (· whole))
  next => rfl

/-! ### Losses, stalls and handshakes (R296, R312 to R314) -/

theorem lockLoss_retrains (active : (meshPort s p).link = .active) :
    exec (.meshLossOfLock p) s = .next (meshRetrain p s) :=
  port_exact hp hq (if_pos (by simp [active])) (meshLockLost_holds ..) (pending_of_apart (meshRetrain_apart active))

theorem lockLoss_stalls (active : (meshPort s p).link = .active) : ∃ t, exec (.meshLossOfLock p) s = .next t ∧
    (meshPort t p).link = .retrain ∧ (meshPort t p).session = none ∧ (meshPort t p).replay = (meshPort s p).replay ∧
    apart t = apart s ∧ ((meshPort s p).waiting ≠ [] → exec (.trzCreditStall p) s = .next t) ∧
    ((meshPort s p).waiting = [] → exec (.trzCreditStall p) s = .next s) := by
  have beside := meshRetrain_apart active
  refine ⟨_, lockLoss_retrains hp hq active, ?_⟩
  rw [meshPort_meshRetrain active]
  exact ⟨rfl, rfl, rfl, beside,
    fun waits => port_exact hp hq (creditStall_waits active waits) (creditStall_holds ..) (pending_of_apart beside),
    fun idle => port_noop hp hq (creditStall_idle idle)⟩

theorem handshake_timesOut (auth : (meshPort s p).link = .auth) : ∃ t, exec (.trzAuthTimeout p) s = .next t ∧
    (meshPort t p).link = .authFail ∧ bitOf t.trz.err 2 = true := by
  obtain ⟨link, err, pending⟩ := authFail_reads p s
  exact ⟨_, port_exact hp hq (if_pos (by simp [auth])) (authTimeout_holds ..) pending, link, err⟩

theorem handshake_retries (failed : (meshPort s p).link = .authFail) (nonce : List Byte) :
    ∃ t, exec (.trzAuthRetry p nonce) s = .next t ∧ (meshPort t p).ownNonce = nonce ∧ (meshPort t p).peerNonce = [] ∧
      apart t = apart s := by
  have up : (meshPort s p).link ≠ .disabled := by simp [failed]
  have sent := sendHello_sent nonce up
  have named := meshPort_modMesh_up (fun m => { m with ownNonce := nonce, peerNonce := [] }) up
  have port := sent.port
  rw [named] at port
  have beside : apart (sendHello p nonce s) = apart s := sent.beside
  exact ⟨_, port_exact hp hq (if_pos (by simp [failed])) (authRetry_holds ..) (pending_of_apart beside),
    (congrArg MeshPort.ownNonce port :), (congrArg MeshPort.peerNonce port :), beside⟩

/-! ### Acknowledgements and credits (R304, R305) -/

section
variable {b : List Byte} {l : Nat} (active : (meshPort s p).link = .active)
include active

section
variable (awaits : ((meshPort s p).replay.any fun f => f.lseq == l) = true)
include awaits

theorem ack_empties (arrives : FrameArrives p 0 kAck b s) (calm : (meshPort s p).naked = none) :
    ∃ t, exec (.trzAckRx p l b) s = .next t ∧ apart t = apart s ∧ ((meshPort (meshTake p 0 s) p).waiting = [] →
      (meshPort t p).replay =
        ((meshPort (meshTake p 0 s) p).replay.dropWhile fun f => f.lseq != l).drop 1) := by
  have up : (meshPort s p).link ≠ .disabled := by simp [active]
  have took := meshTake_took up 0
  have e := (meshRx_arrives arrives (ackTake p l)).trans (ackTake_clear (took.awaits awaits) (took.naked.trans calm))
  generalize meshTake p 0 s = s1 at took e ⊢
  have after := meshPort_modMesh_up (p := p) (s := s1) (fun m => { m with
    replay := ((meshPort s1 p).replay.dropWhile fun f => f.lseq != l).drop 1 }) (took.up up)
  have beside := (meshPump_apart p (modMesh p (fun m => { m with
    replay := ((meshPort s1 p).replay.dropWhile fun f => f.lseq != l).drop 1 }) s1)).trans took.beside
  refine ⟨_, port_exact hp hq e (ackRx_holds ..) (pending_of_apart beside), beside, fun idle => ?_⟩
  rw [meshPump_idle (by rw [after]; exact idle), after]

theorem nak_retrains (arrives : FrameArrives p 0 kNak b s) (again : (meshPort s p).naked = some l) :
    exec (.trzNakRx p l b) s = exec (.meshLossOfLock p) (meshTake p 0 s) := by
  have up : (meshPort s p).link ≠ .disabled := by simp [active]
  have took := meshTake_took up 0
  have e := (meshRx_arrives arrives (nakTake p l)).trans (nakTake_again (took.awaits awaits) (took.naked.trans again))
  have still := took.link.trans active
  rw [lockLoss_retrains hp (quiet_of_apart took.beside hq) still]
  exact port_exact hp hq e (nakRx_holds ..) (pending_of_apart ((meshRetrain_apart still).trans took.beside))

theorem nak_replays {β : Type} (view : Out → β) (of : MeshFrame → β)
    (h : ∀ f frame rows, view (.mesh p f.cls f.kind f.words f.bytes frame rows) = of f)
    (arrives : FrameArrives p 0 kNak b s) (first : (meshPort s p).naked ≠ some l) :
    ∃ t sent, exec (.trzNakRx p l b) s = .next t ∧ (meshPort t p).naked = some l ∧ apart t = apart s ∧
      t.out = sent ++ (meshTake p 0 s).out ∧ sent.map view =
        (((meshPort (meshTake p 0 s) p).replay.dropWhile fun f => f.lseq != l).map of).reverse := by
  have up : (meshPort s p).link ≠ .disabled := by simp [active]
  have took := meshTake_took up 0
  have e := (meshRx_arrives arrives (nakTake p l)).trans
    (nakTake_first (took.awaits awaits) (by rw [took.naked]; exact first))
  generalize meshTake p 0 s = s1 at took e ⊢
  have noted := meshPort_modMesh_up (p := p) (s := s1) (fun m => { m with naked := some l }) (took.up up)
  have sends := meshReplay_sent (p := p) (s := modMesh p (fun m => { m with naked := some l }) s1)
    (by rw [noted]; exact took.up up) l
  have beside := sends.beside.trans took.beside
  obtain ⟨sent, out, shown⟩ := departs_out view of h
    ((meshPort (modMesh p (fun m => { m with naked := some l }) s1) p).replay.dropWhile fun f => f.lseq != l)
    (modMesh p (fun m => { m with naked := some l }) s1)
  rw [noted] at shown
  have port := sends.port
  rw [noted] at port
  exact ⟨_, sent, port_exact hp hq e (nakRx_holds ..) (pending_of_apart beside), (congrArg MeshPort.naked port :),
    beside, out, shown⟩

end

theorem credits_come {cls n : Nat} (low : cls < 7) (arrives : FrameArrives p 0 kCredit b s) :
    ∃ t, exec (.trzCreditRx p cls n b) s = .next t ∧ apart t = apart s ∧ ((meshPort (meshTake p 0 s) p).waiting = [] →
      Rises (meshPort (meshTake p 0 s) p).credits →
      creditOf (meshPort t p) cls = creditOf (meshPort (meshTake p 0 s) p) cls + n) := by
  have up : (meshPort s p).link ≠ .disabled := by simp [active]
  have took := meshTake_took up 0
  have e := (meshRx_arrives arrives (fun s =>
    if 7 ≤ cls then s
    else meshPump p (modMesh p (fun m => { m with
      credits := spSet (creditDflt cls) m.credits cls (creditOf m cls + n) }) s))).trans (if_neg (by omega))
  generalize meshTake p 0 s = s1 at took e ⊢
  have added := meshPort_modMesh_up (p := p) (s := s1) (fun m => { m with
    credits := spSet (creditDflt cls) m.credits cls (creditOf m cls + n) }) (took.up up)
  have beside := (meshPump_apart p (modMesh p (fun m => { m with
    credits := spSet (creditDflt cls) m.credits cls (creditOf m cls + n) }) s1)).trans took.beside
  refine ⟨_, port_exact hp hq e (creditRx_holds ..) (pending_of_apart beside), beside, fun idle rises => ?_⟩
  rw [meshPump_idle (by rw [added]; exact idle), added]
  exact spGet_spSet_rises rises

end

/-! ### Frames that waited too long, and remote commands without an answer (R300, R301) -/

theorem forward_idle (none : ((meshPort s p).waiting.find? fun f => decide (4 ≤ f.cls)) = none) :
    exec (.trzForwardTimeout p) s = .next s := by
  refine port_noop hp hq ?_
  unfold forwardTimeout
  rw [none]

theorem forward_drops {f : MeshFrame} (waits : ((meshPort s p).waiting.find? fun f => decide (4 ≤ f.cls)) = some f)
    (arrival : f.arrival = some p) (up : (meshPort s p).link ≠ .disabled) : ∃ t,
      exec (.trzForwardTimeout p) s = .next t ∧ (meshPort t p).waiting = (meshPort s p).waiting.erase f ∧
      (meshPort t p).drop = satAdd 32 (meshPort s p).drop 1 ∧ bitOf t.trz.err 4 = true := by
  have taken := meshPort_modMesh_up (fun m => { m with waiting := m.waiting.erase f }) up
  have e : forwardTimeout p s = meshDrop p (modMesh p (fun m => { m with waiting := m.waiting.erase f }) s) := by
    unfold forwardTimeout
    rw [waits]
    dsimp only
    rw [arrival]
  obtain ⟨port, err, pending⟩ := meshDrop_reads (p := p) (s := modMesh p (fun m => { m with waiting := m.waiting.erase f }) s)
    (by rw [taken]; exact up)
  refine ⟨_, port_exact hp hq e (forwardTimeout_holds ..) (pending.trans rfl), ?_⟩
  rw [port, taken]
  exact ⟨rfl, rfl, err⟩

end

theorem remote_timesOut {s : State} (hq : Quiet s) {id i : Nat} {h : Hdr} {op : Byte}
    (waits : (s.trz.gwOut.find? fun g => g.1 == id) = some (i, h, op)) : exec (.trzGwTimeout id) s =
      .next (complete op h .timeout 0 { s with trz := { s.trz with gwOut := s.trz.gwOut.filter fun g => g.1 != id } }) := by
  have e : gwTimeout id s =
      complete op h .timeout 0 { s with trz := { s.trz with gwOut := s.trz.gwOut.filter fun g => g.1 != id } } := by
    unfold gwTimeout
    rw [waits]
  exact row_exact hq e (by rw [← e]; exact gwTimeout_holds id s) (complete_pending ..)

/-- Settles O46: the ports of the Trapeze event by event. Sending keeps a port's lanes and link state, so what a training, an
acknowledgement or a fault sets is there after the frames that it sends. -/
theorem meshPortsRun : Obligations.MeshPortsRun := by
  unfold Obligations.MeshPortsRun
  intro p s hp hq m
  refine ⟨?noTraining, ?sets, ?done, ?timeout, ?retry, ?lanes, ?window, ?noWindow, ?loss, ?authTimeout, ?authRetry, ?replay,
    ?credits, ?noForward, ?forward, ?gateway⟩
  case noTraining =>
    exact fun h => ⟨fun _ => port_noop hp hq (meshTsRx_idle h), port_noop hp hq (meshTrainTimeout_idle h),
      fun _ => port_noop hp hq (meshTrained_idle (.inl h))⟩
  case sets =>
    intro ts training check met
    constructor
    · exact fun kind known => ⟨portTs2_counts hp hq training check known kind, portTs2_early hp hq training check known kind⟩
    · exact fun kind known first req preset =>
        ⟨portTs1_counts hp hq training check known kind first req preset,
          portTs1_eighth hp hq training check known kind first req preset⟩
  case done =>
    intro r training
    refine ⟨fun early => port_noop hp hq (meshTrained_idle (.inr early)), fun rx tx => ⟨?_, ?_, ?_⟩⟩
    · exact portDone_miswired hp hq training rx tx
    · exact fun known sound => ⟨portDone_goes hp hq training rx tx known sound,
        portDone_commits hp hq training rx tx known sound⟩
    · exact fun l known low used lost settled lanes =>
        portDone_loses hp hq training rx tx known low used lost settled lanes
  case timeout => exact fun link => ⟨portTimeout_trainsAgain hp hq link, portTimeout_fails hp hq link⟩
  case retry => exact portRetry_trains hp hq
  case lanes =>
    exact fun lane n low active => ⟨laneWindow_lasts hp hq low active, laneWindow_first hp hq low active,
      laneWindow_calm hp hq low active, laneSpare_retrains hp hq low active⟩
  case window => exact portWindow_restores hp hq
  case noWindow => exact portWindow_idle hp hq
  case loss => exact lockLoss_stalls hp hq
  case authTimeout => exact handshake_timesOut hp hq
  case authRetry => exact handshake_retries hp hq
  case replay =>
    intro b l active awaits s1 m1 left
    exact ⟨ack_empties hp hq active awaits, fun arrives => ⟨nak_retrains hp hq active awaits arrives,
      nak_replays hp hq active awaits _ _ (fun _ _ _ => rfl) arrives⟩⟩
  case credits => exact fun b cls n low active arrives => credits_come hp hq active low arrives
  case noForward => exact forward_idle hp hq
  case forward => exact fun f => forward_drops hp hq
  case gateway => exact fun id i h op => remote_timesOut hq

end Sys2Proof
end

section
/-! SUPPORT. The emitter rails: how a rail reads after a change of a setpoint, and the headroom loop's step of one colour
(R223 to R225). -/

namespace Sys2Proof.Machine

/-! ### How a rail reads -/

theorem vrail_modRail_same {c : Nat} (hc : c < 3) (f : VRail → VRail) (s : State) :
    vrail (modRail c f s) c = f (vrail s c) := by
  match c, hc with
  | 0, _ | 1, _ | 2, _ => rfl

theorem vrail_modRail_other {c k : Nat} (hc : c < 3) (hk : k < 3) (h : k ≠ c) (f : VRail → VRail) (s : State) :
    vrail (modRail c f s) k = vrail s k := by
  match c, hc, k, hk with
  | 0, _, 0, _ | 1, _, 1, _ | 2, _, 2, _ => exact absurd rfl h
  | 0, _, 1, _ | 0, _, 2, _ | 1, _, 0, _ | 1, _, 2, _ | 2, _, 0, _ | 2, _, 1, _ => rfl

/-- A state but for the emitter rails, the record of their limit, and what `apart` blanks. -/
def besideRails (s : State) : State :=
  apart { s with pwr := { s.pwr with r := {}, g := {}, b := {}, headroomLimit := false, limLogged := none } }

@[simp] theorem modRail_besideRails (c : Nat) (f : VRail → VRail) (s : State) :
    besideRails (modRail c f s) = besideRails s := by
  unfold modRail; split <;> rfl

theorem besideRails_of_apart {s t : State} (h : apart s = apart t) : besideRails s = besideRails t :=
  (congrArg (fun u : State => { u with
    pwr := { u.pwr with r := {}, g := {}, b := {}, headroomLimit := false, limLogged := none } }) h :)

/-! ### Operations on one rail after another -/

/-- An operation on each rail that changes no other rail. -/
structure RailWise (f : Nat → State → State) : Prop where
  beside : ∀ c s, besideRails (f c s) = besideRails s
  others : ∀ {c k} s, c < 3 → k < 3 → k ≠ c → vrail (f c s) k = vrail s k

/-- Done on all three rails, it does to each what it does to the rail alone. -/
theorem vrail_eachRail {f : Nat → State → State} (hf : RailWise f) {c : Nat} (hc : c < 3) (s : State) :
    ∃ u, besideRails u = besideRails s ∧ vrail u c = vrail s c ∧
      vrail (eachNat f [0, 1, 2] s) c = vrail (f c u) c := by
  obtain ⟨beside, others⟩ := hf
  show ∃ u, _ ∧ _ ∧ vrail (f 2 (f 1 (f 0 s))) c = _
  match c, hc with
  | 0, hc =>
    refine ⟨s, rfl, rfl, ?_⟩
    rw [others _ (by decide) hc (by decide), others _ (by decide) hc (by decide)]
  | 1, hc =>
    refine ⟨f 0 s, beside 0 s, others s (by decide) hc (by decide), ?_⟩
    rw [others _ (by decide) hc (by decide)]
  | 2, hc =>
    refine ⟨f 1 (f 0 s), (beside 1 _).trans (beside 0 s), ?_, rfl⟩
    rw [others _ (by decide) hc (by decide), others _ (by decide) hc (by decide)]

theorem eachRail_besideRails {f : Nat → State → State} (hf : RailWise f) (s : State) :
    besideRails (eachNat f [0, 1, 2] s) = besideRails s := eachNat_keeps besideRails f _ s hf.beside

/-! ### Setpoints (R224) -/

@[simp] theorem setV_besideRails (c : Nat) (v : Int) (s : State) : besideRails (setV c v s) = besideRails s := by
  unfold setV
  split
  · exact (modRail_besideRails _ _ _).trans rfl
  · exact modRail_besideRails _ _ _

theorem vrail_setV_other {c k : Nat} (v : Int) (s : State) (hc : c < 3) (hk : k < 3) (h : k ≠ c) :
    vrail (setV c v s) k = vrail s k := by
  unfold setV
  split
  · exact vrail_modRail_other hc hk h _ _
  · exact vrail_modRail_other hc hk h _ _

/-- R224: the rail takes the setpoint, and its code where SLOPE gives one. -/
theorem vrail_setV {c : Nat} (hc : c < 3) (v : Int) (s : State) :
    ∃ code, vrail (setV c v s) c = { vrail s c with vset := v, code := code } ∧
      (fld (vrail s c).map 31 16 ≠ 0 → code = vCode (vrail s c) v) := by
  unfold setV
  split
  next flat => exact ⟨_, vrail_modRail_same hc _ _, fun sloped => absurd flat sloped⟩
  next => exact ⟨_, vrail_modRail_same hc _ _, fun _ => rfl⟩

/-- The rail's setpoint becomes VMAX. -/
def railToMax (c : Nat) (s : State) : State := setV c (vMax (vrail s c)) s

theorem railToMax_railWise : RailWise railToMax where
  beside c s := setV_besideRails c _ s
  others s hc hk h := vrail_setV_other _ s hc hk h

/-- R224, R225: every rail at VMAX, with the code that belongs to it. -/
theorem railsToMax {c : Nat} (hc : c < 3) (s : State) :
    (vrail (eachNat railToMax [0, 1, 2] s) c).vset = vMax (vrail s c) ∧
      (fld (vrail s c).map 31 16 ≠ 0 → (vrail (eachNat railToMax [0, 1, 2] s) c).code = vCode (vrail s c) (vMax (vrail s c))) := by
  obtain ⟨u, _, same, done⟩ := vrail_eachRail railToMax_railWise hc s
  obtain ⟨code, set, coded⟩ := vrail_setV hc (vMax (vrail u c)) u
  rw [done, railToMax, set, ← same]
  exact ⟨rfl, coded⟩

/-! ### What the measurements depend on (R223) -/

theorem servingGroups_congr {s t : State} (map : t.px.sliceMap = s.px.sliceMap) (units : t.units = s.units)
    (gen : t.genBase = s.genBase) : servingGroups t = servingGroups s := by
  have same : serves t = serves s := by
    funext g
    simp only [serves, grpSlice, sliceGrp, map, unitOf_congr units gen]
  rw [servingGroups, same, servingGroups]

section
variable {s t : State} (h : besideRails t = besideRails s)
include h

theorem px_of_rails : t.px = s.px := (congrArg State.px h :)

theorem servingGroups_of_rails : servingGroups t = servingGroups s :=
  servingGroups_congr (by rw [px_of_rails h]) (congrArg State.units h :) (congrArg State.genBase h :)

theorem hminOf_of_rails (c : Nat) : hminOf t c = hminOf s c := by
  have faults : t.pwr.eft = s.pwr.eft := (congrArg (fun u : State => u.pwr.eft) h :)
  have opened : openAt t = openAt s := by
    funext sl c col
    rw [openAt, faults, openAt]
  have measures : headrooms t c = headrooms s c := by
    simp only [headrooms, servingGroups_of_rails h, grp, grpSlice, sliceGrp, px_of_rails h, opened]
  rw [hminOf, measures, hminOf]

theorem anyStale_of_rails : anyStale t = anyStale s := by
  simp only [anyStale, servingGroups_of_rails h, grp, px_of_rails h]

end

/-! ### The loop's step (R224, R225) -/

/-- The excess of a measurement over the margin; below 0 headroom is missing. -/
def headroomErr (s : State) : Option (Nat × Nat) → Int
  | some (m, _) => (m : Int) - fld s.pwr.margin 15 0
  | none => 0

/-- The setpoint that the loop steps to, before VMIN and VMAX. -/
def loopTarget (s : State) (x : VRail) (h : Option (Nat × Nat)) : Int :=
  let dead : Int := fld s.pwr.margin 31 16
  if h.isNone then x.vset
  else if headroomErr s h < 0 then x.vset + min (-headroomErr s h) (fld s.pwr.stepReg 15 0)
  else if dead < headroomErr s h ∧ (s.pwr.lastComplete && !anyStale s && !x.uv) then
    x.vset - min ((headroomErr s h - dead) / 2) (fld s.pwr.stepReg 31 16)
  else x.vset

/-- A rail with its measurement noted. -/
def measured (h : Option (Nat × Nat)) (x : VRail) : VRail :=
  { x with hmin := (h.map Prod.fst).getD 0xFFFF, hminSlice := (h.map Prod.snd).getD 0 }

/-- The measurement noted and the setpoint taken, without the record of a limit. -/
def loopSet (c : Nat) (s : State) : State :=
  setV c (sat (loopTarget s (vrail s c) (hminOf s c)) (vMin (vrail s c)) (vMax (vrail s c)))
    (modRail c (measured (hminOf s c)) s)

/-- The record of a limit: HEADROOM_LIMIT and the time of its last entry. -/
def noteLimit (limit : Bool) (logged : Option Nat) (s : State) : State :=
  { s with pwr := { s.pwr with headroomLimit := limit, limLogged := logged } }

/-- Besides, the loop's step records that VMAX limits it. -/
theorem loopStep_apart (c : Nat) (s : State) :
    ∃ limit logged, apart (loopStep c s) = apart (noteLimit limit logged (loopSet c s)) := by
  unfold loopStep
  extract_lets x h err dead down v1 v s1 p1 s2 recent
  have errs : err = headroomErr s h := by
    simp only [err]
    cases h <;> rfl
  have sets : s1 = loopSet c s := by
    simp only [s1, v, v1, errs, loopSet, loopTarget, h]
    cases hminOf s c <;> rfl
  rw [← sets]
  split
  · split
    · exact ⟨true, s1.pwr.limLogged, rfl⟩
    · exact ⟨true, some (mtOf s), log_apart _ _ _⟩
  · exact ⟨s1.pwr.headroomLimit, s1.pwr.limLogged, rfl⟩

theorem loopStep_besideRails (c : Nat) (s : State) : besideRails (loopStep c s) = besideRails s := by
  obtain ⟨limit, logged, e⟩ := loopStep_apart c s
  refine (besideRails_of_apart e).trans ((?_ : _ = besideRails (loopSet c s)).trans ?_)
  · rfl
  · rw [loopSet, setV_besideRails, modRail_besideRails]

theorem vrail_loopStep (c k : Nat) (s : State) : vrail (loopStep c s) k = vrail (loopSet c s) k := by
  obtain ⟨limit, logged, e⟩ := loopStep_apart c s
  have pwr : (loopStep c s).pwr = _ := (congrArg State.pwr e :)
  unfold vrail
  rw [pwr]
  rfl

theorem loopStep_railWise : RailWise loopStep where
  beside := loopStep_besideRails
  others {c k} s hc hk h := by
    rw [vrail_loopStep, loopSet, vrail_setV_other _ _ hc hk h, vrail_modRail_other hc hk h]

/-- What the loop leaves of a rail: the measurement noted, and the setpoint within VMIN and VMAX with its code. -/
structure LoopLeaves (s : State) (h : Option (Nat × Nat)) (x y : VRail) : Prop where
  hmin : y.hmin = (h.map Prod.fst).getD 0xFFFF
  hminSlice : y.hminSlice = (h.map Prod.snd).getD 0
  vset : y.vset = sat (loopTarget s x h) (vMin x) (vMax x)
  code : fld x.map 31 16 ≠ 0 → y.code = vCode x y.vset

theorem loopStep_leaves {c : Nat} (hc : c < 3) (s : State) :
    LoopLeaves s (hminOf s c) (vrail s c) (vrail (loopStep c s) c) := by
  obtain ⟨code, set, coded⟩ := vrail_setV hc (sat (loopTarget s (vrail s c) (hminOf s c)) (vMin (vrail s c)) (vMax (vrail s c)))
    (modRail c (measured (hminOf s c)) s)
  rw [vrail_modRail_same hc] at set coded
  rw [vrail_loopStep, loopSet, set]
  exact ⟨rfl, rfl, rfl, coded⟩

theorem loopTarget_of_rails {s t : State} (h : besideRails t = besideRails s) : loopTarget t = loopTarget s := by
  have margin : t.pwr.margin = s.pwr.margin := (congrArg (fun u : State => u.pwr.margin) h :)
  have steps : t.pwr.stepReg = s.pwr.stepReg := (congrArg (fun u : State => u.pwr.stepReg) h :)
  have complete : t.pwr.lastComplete = s.pwr.lastComplete := (congrArg (fun u : State => u.pwr.lastComplete) h :)
  have errs : headroomErr t = headroomErr s := by
    funext m
    cases m
    · rfl
    · simp only [headroomErr, margin]
  funext x m
  simp only [loopTarget, errs, margin, steps, complete, anyStale_of_rails h]

/-- R224: the loop steps each rail by its own measurements. -/
theorem loopSteps_leave {c : Nat} (hc : c < 3) (s : State) :
    LoopLeaves s (hminOf s c) (vrail s c) (vrail (eachNat loopStep [0, 1, 2] s) c) := by
  obtain ⟨u, beside, same, done⟩ := vrail_eachRail loopStep_railWise hc s
  obtain ⟨hmin, slice, vset, code⟩ := loopStep_leaves hc u
  rw [done]
  rw [hminOf_of_rails beside] at hmin slice vset
  rw [same] at vset code
  exact ⟨hmin, slice, by rw [vset, loopTarget_of_rails beside], code⟩

/-! ### The setpoint that the loop steps to (R224) -/

section
variable {s : State} {x : VRail} {m sl : Nat}

theorem loopTarget_missing (short : (m : Int) - fld s.pwr.margin 15 0 < 0) : loopTarget s x (some (m, sl)) =
    x.vset + min (-((m : Int) - fld s.pwr.margin 15 0)) (fld s.pwr.stepReg 15 0) := if_pos short

theorem loopTarget_excess (enough : 0 ≤ (m : Int) - fld s.pwr.margin 15 0)
    (above : fld s.pwr.margin 31 16 < (m : Int) - fld s.pwr.margin 15 0) (complete : s.pwr.lastComplete = true)
    (fresh : anyStale s = false) (fed : x.uv = false) : loopTarget s x (some (m, sl)) =
      x.vset - min (((m : Int) - fld s.pwr.margin 15 0 - fld s.pwr.margin 31 16) / 2) (fld s.pwr.stepReg 31 16) :=
  (if_neg (not_lt.2 enough)).trans (if_pos ⟨above, by simp [complete, fresh, fed]⟩)

theorem loopTarget_stays (enough : 0 ≤ (m : Int) - fld s.pwr.margin 15 0)
    (kept : (m : Int) - fld s.pwr.margin 15 0 ≤ fld s.pwr.margin 31 16 ∨ s.pwr.lastComplete = false ∨ anyStale s = true ∨
      x.uv = true) : loopTarget s x (some (m, sl)) = x.vset := by
  refine (if_neg (not_lt.2 enough)).trans (if_neg ?_)
  rintro ⟨above, calm⟩
  rcases kept with dead | cut | stale | low
  · exact absurd above (not_lt.2 dead)
  · simp [cut] at calm
  · simp [stale] at calm
  · simp [low] at calm

end

/-! ### The loop (R224, R225) -/

section
variable {s : State} (armed : loopArmed s = true) (ended : s.pwr.scanEnded = true)
include armed ended

theorem headroomLoop_on (on : bitOf s.pwr.ctrl 3 = true) : headroomLoop s =
    eachNat loopStep [0, 1, 2] { s with pwr := { s.pwr with scanEnded := false, headroomLimit := false } } :=
  (if_neg (by simp [armed, ended])).trans (if_pos on)

theorem headroomLoop_off (off : bitOf s.pwr.ctrl 3 = false) : headroomLoop s =
    eachNat railToMax [0, 1, 2] { s with pwr := { s.pwr with scanEnded := false, headroomLimit := false } } :=
  (if_neg (by simp [armed, ended])).trans (if_neg (by simp [off]))

/-- The loop has run for the scan that ended. -/
theorem headroomLoop_scanEnded : (headroomLoop s).pwr.scanEnded = false := by
  have kept {u v : State} (h : besideRails u = besideRails v) : u.pwr.scanEnded = v.pwr.scanEnded :=
    (congrArg (fun w : State => w.pwr.scanEnded) h :)
  by_cases on : bitOf s.pwr.ctrl 3 = true
  · rw [headroomLoop_on armed ended on]
    exact kept (eachRail_besideRails loopStep_railWise _)
  · rw [headroomLoop_off armed ended (Bool.eq_false_iff.2 on)]
    exact kept (eachRail_besideRails railToMax_railWise _)

theorem headroomLoop_leaves {c : Nat} (hc : c < 3) (on : bitOf s.pwr.ctrl 3 = true) :
    LoopLeaves s (hminOf s c) (vrail s c) (vrail (headroomLoop s) c) := by
  rw [headroomLoop_on armed ended on]
  obtain ⟨hmin, slice, vset, code⟩ :=
    loopSteps_leave hc { s with pwr := { s.pwr with scanEnded := false, headroomLimit := false } }
  exact ⟨hmin, slice, vset, code⟩

theorem headroomLoop_toMax {c : Nat} (hc : c < 3) (off : bitOf s.pwr.ctrl 3 = false) :
    (vrail (headroomLoop s) c).vset = vMax (vrail s c) ∧
      (fld (vrail s c).map 31 16 ≠ 0 → (vrail (headroomLoop s) c).code = vCode (vrail s c) (vMax (vrail s c))) := by
  have raised := railsToMax hc { s with pwr := { s.pwr with scanEnded := false, headroomLimit := false } }
  rw [← headroomLoop_off armed ended off] at raised
  exact raised

/-- The code follows the setpoint, with HEADROOM_EN and without. -/
theorem headroomLoop_code {c : Nat} (hc : c < 3) (sloped : fld (vrail s c).map 31 16 ≠ 0) :
    (vrail (headroomLoop s) c).code = vCode (vrail s c) (vrail (headroomLoop s) c).vset := by
  by_cases on : bitOf s.pwr.ctrl 3 = true
  · exact (headroomLoop_leaves armed ended hc on).code sloped
  · obtain ⟨vset, code⟩ := headroomLoop_toMax armed ended hc (Bool.eq_false_iff.2 on)
    rw [vset, code sloped]

end

end Sys2Proof.Machine
end

section
/-! The headroom loop runs, and partners that have been stale for 8 ticks end it at VMAX (R223 to R225). -/

namespace Sys2Proof

open Machine

section
variable {s : State} (hq : Quiet s)
include hq

theorem headroomLoop_idle (idle : loopArmed s = false ∨ s.pwr.scanEnded = false) : exec .headroomLoop s = .next s :=
  row_noop headroomLoop s hq (if_pos (by rcases idle with h | h <;> simp [h]))

theorem headroomLoop_row : exec .headroomLoop s = .next { headroomLoop s with pending := s.pending } :=
  row_quiet headroomLoop s hq (headroomLoop_holds s)

theorem staleLimit_idle (idle : loopArmed s = false ∨ s.pwr.staleTicks < 8) :
    exec .pwrHeadroomStaleLimit s = .next s :=
  row_noop staleLimit s hq (if_neg (by rcases idle with h | h <;> simp [h]))

/-- R225: partners stale for 8 ticks bring every rail to VMAX. -/
theorem staleLimit_toMax (armed : loopArmed s = true) (stale : 8 ≤ s.pwr.staleTicks) :
    ∃ t, exec .pwrHeadroomStaleLimit s = .next t ∧ t.pwr.headroomStale = true ∧
      ∀ c, c < 3 → (vrail t c).vset = vMax (vrail s c) := by
  have e : staleLimit s = { eachNat railToMax [0, 1, 2] s with
      pwr := { (eachNat railToMax [0, 1, 2] s).pwr with headroomStale := true } } := if_pos (by simp [armed, stale])
  refine ⟨_, row_quiet staleLimit s hq (staleLimit_holds s), ?_⟩
  rw [e]
  exact ⟨rfl, fun c hc => (railsToMax hc s).1⟩

end

/-- Settles O57: the loop's step of each rail, and VMAX where the loop is off or its partners have been stale for long. -/
theorem headroomIsHeld : Obligations.HeadroomIsHeld := by
  unfold Obligations.HeadroomIsHeld
  intro s hq
  refine ⟨headroomLoop_idle hq, fun armed ended => ⟨_, headroomLoop_row hq, ?ended, ?off, ?on, ?code⟩,
    staleLimit_idle hq, staleLimit_toMax hq⟩
  case ended => exact headroomLoop_scanEnded armed ended
  case off => exact fun off c hc => (headroomLoop_toMax armed ended hc off).1
  case on =>
    intro on c hc x dead
    obtain ⟨hmin, slice, vset, _⟩ := headroomLoop_leaves armed ended hc on
    refine ⟨fun none => ?_, fun m sl measures => ?_⟩
    · rw [none] at hmin vset
      exact ⟨vset, hmin⟩
    · rw [measures] at hmin slice vset
      refine ⟨hmin, slice, fun missing => ?_, fun enough above complete fresh fed => ?_, fun enough kept => ?_⟩
      · rw [loopTarget_missing missing] at vset
        exact vset
      · rw [loopTarget_excess enough above complete fresh fed] at vset
        exact vset
      · rw [loopTarget_stays enough kept] at vset
        exact vset
  case code => exact fun c hc sloped => headroomLoop_code armed ended hc sloped

end Sys2Proof
end

section
/-! SUPPORT. The steps of a power-up: power-goods, the settling after them, the link's begin and the undoing of a power-up that
fails (R214, R217, R218). -/

namespace Sys2Proof.Machine

/-- A state but for panel power. -/
def besidePwr (s : State) : State := { s with pwr := {} }

theorem eq_of_besidePwr {s t : State} (h : besidePwr t = besidePwr s) : t = { s with pwr := t.pwr } :=
  congrArg (fun u : State => { u with pwr := t.pwr }) h

/-! ### Power-goods (R214, R232) -/

theorem setPg_keeps (b : Nat) (v : Bool) (s : State) :
    setPg b v s = { s with pwr := { s.pwr with pg := (setPg b v s).pwr.pg } } := by
  unfold setPg; split <;> rfl

@[simp] theorem pgHigh_setPg (b : Nat) (v : Bool) (s : State) : pgHigh (setPg b v s) b = v := by
  unfold setPg
  split
  next same => exact beq_iff_eq.1 same
  next other =>
    have pos : 0 < 2 ^ b := Nat.two_pow_pos b
    cases v with
    | true =>
      have low : s.pwr.pg / 2 ^ b % 2 ≠ 1 := by simpa [pgHigh] using other
      have up : (s.pwr.pg + 2 ^ b) / 2 ^ b = s.pwr.pg / 2 ^ b + 1 := Nat.add_div_right _ pos
      simp only [pgHigh, ↓reduceIte, up, beq_iff_eq]
      omega
    | false =>
      have high : s.pwr.pg / 2 ^ b % 2 = 1 := by simpa [pgHigh] using other
      have down : (s.pwr.pg - 2 ^ b) / 2 ^ b = s.pwr.pg / 2 ^ b - 1 := by
        simpa using Nat.sub_mul_div s.pwr.pg (2 ^ b) 1
      simp only [pgHigh, Bool.false_eq_true, ↓reduceIte, beq_eq_false_iff_ne, down]
      omega

theorem pgHigh_congr {s t : State} (h : t.pwr.pg = s.pwr.pg) (b : Nat) : pgHigh t b = pgHigh s b := by
  rw [pgHigh, h, pgHigh]

/-- R217: the emitter rails' power-goods are all high once the last of them is. -/
theorem setPg_vledB {s : State} (red : pgHigh s 3 = true) (green : pgHigh s 4 = true) :
    (setPg 5 true s).pwr.pg / 8 % 8 = 7 := by
  have blue := pgHigh_setPg 5 true s
  have kept : (setPg 5 true s).pwr.pg = s.pwr.pg ∨ (setPg 5 true s).pwr.pg = s.pwr.pg + 2 ^ 5 := by
    unfold setPg
    split
    · exact .inl rfl
    · exact .inr rfl
  simp only [pgHigh, beq_iff_eq] at red green blue
  omega

/-- R217: the step of a power-up that a power-good ends, with the two other emitter rails up before the last. -/
def PowerGoodDue (s : State) (r : PnlRail) : Prop :=
  (s.pwr.step = 1 ∧ r = .logic) ∨ (s.pwr.step = 3 ∧ r = .gate) ∨ (s.pwr.step = 4 ∧ r = .bias) ∨
    (s.pwr.step = 6 ∧ r = .vledB ∧ pgHigh s 3 = true ∧ pgHigh s 4 = true)

theorem powerGoodRise_keeps (r : PnlRail) (s : State) : powerGoodRise r s = { s with pwr := (powerGoodRise r s).pwr } := by
  have set : besidePwr (setPg (pgBit r) true s) = besidePwr s := ite_keeps besidePwr rfl rfl
  exact eq_of_besidePwr (ite_keeps besidePwr set set)

theorem powerGoodRise_pg (r : PnlRail) (s : State) : pgHigh (powerGoodRise r s) (pgBit r) = true :=
  (pgHigh_congr (t := powerGoodRise r s) (ite_keeps (fun u => u.pwr.pg) rfl rfl) _).trans (pgHigh_setPg (pgBit r) true s)

theorem powerGoodRise_settles {r : PnlRail} {s : State} (up : s.pwr.state = .poweringUp) (calm : s.pwr.undoing = false)
    (due : PowerGoodDue s r) : (powerGoodRise r s).pwr.settling = true := by
  rcases due with ⟨step, rfl⟩ | ⟨step, rfl⟩ | ⟨step, rfl⟩ | ⟨step, rfl, red, green⟩
  · simp [powerGoodRise, up, calm, step]
  · simp [powerGoodRise, up, calm, step]
  · simp [powerGoodRise, up, calm, step]
  · simp [powerGoodRise, up, calm, step, pgBit, setPg_vledB red green]

theorem powerGoodRise_beside {r : PnlRail} {s : State} (beside : s.pwr.state ≠ .poweringUp ∨ s.pwr.undoing = true) :
    (powerGoodRise r s).pwr.settling = s.pwr.settling := by
  have same : powerGoodRise r s = setPg (pgBit r) true s := if_neg (by rcases beside with h | h <;> simp [h])
  rw [same, setPg_keeps]

/-! ### The link begins (R217) -/

/-- A state but for the CMD entries that wait. -/
def besideCmds (s : State) : State := { s with px := { s.px with cmds := [] } }

theorem queuePartner_besideCmds (config : Bool) (sl : Nat) (s : State) :
    besideCmds (queuePartner config sl s) = besideCmds s := by
  unfold queuePartner; split <;> rfl

theorem eq_of_besideCmds {s t : State} (h : besideCmds t = besideCmds s) :
    t = { s with px := { s.px with cmds := t.px.cmds } } :=
  congrArg (fun u : State => { u with px := { u.px with cmds := t.px.cmds } }) h

theorem queueConfig_besideCmds (s : State) : besideCmds (queueConfig s) = besideCmds s :=
  eachNat_keeps besideCmds _ _ s (queuePartner_besideCmds true)

/-- EN is set, and CMD entries wait for the partners. -/
theorem linkBegin_eq (s : State) : ∃ cmds, linkBegin s = { s with
    pwr := { s.pwr with step := 2 }
    px := { s.px with ctrl := setBit s.px.ctrl 0, checked := [], cmds := cmds } } := by
  unfold linkBegin
  extract_lets x p s1
  exact ⟨(queueConfig s1).px.cmds, eq_of_besideCmds (queueConfig_besideCmds s1)⟩

/-- R217: step 2 goes on while a serving group trains. -/
theorem linkBegin_waits {s : State} (training : (servingGroups s).all (groupTrained s) = false) :
    linkCheck (linkBegin s) = linkBegin s := by
  obtain ⟨cmds, e⟩ := linkBegin_eq s
  refine linkCheck_waits (by rw [e]) (.inl ?_)
  have serving : servingGroups (linkBegin s) = servingGroups s := servingGroups_congr (by rw [e]) (by rw [e]) (by rw [e])
  have trained : groupTrained (linkBegin s) = groupTrained s := by
    funext g
    simp only [groupTrained, grp, e]
  rw [serving, trained, training]

/-! ### The 2 MT of a step end (R217) -/

theorem settleDone_idle {s : State} (idle : s.pwr.settling = false) : settleDone s = s := by
  simp [settleDone, idle]

section
variable {s : State} (up : s.pwr.state = .poweringUp) (settling : s.pwr.settling = true)
include up settling

theorem settleDone_logic (step : s.pwr.step = 1) :
    settleDone s = linkCheck (linkBegin { s with pwr := { s.pwr with settling := false } }) := by
  simp [settleDone, up, settling, step]

theorem settleDone_gate (step : s.pwr.step = 3) :
    settleDone s = { s with pwr := { s.pwr with settling := false, step := 4, enBias := true } } := by
  simp [settleDone, up, settling, step]

theorem settleDone_bias (step : s.pwr.step = 4) :
    settleDone s = { s with pwr := { s.pwr with settling := false, step := 5, blackScans := 0 } } := by
  simp [settleDone, up, settling, step]

theorem settleDone_vled (step : s.pwr.step = 6) : settleDone s = { s with pwr := { s.pwr with
    settling := false, step := 7, ramp := some ⟨true, s.clp.cycle, mtCycles (fld s.pwr.seq 7 0)⟩ } } := by
  simp [settleDone, up, settling, step, rampUp]

end

/-! ### A power-up fails (R218) -/

@[simp] theorem pwrTo_scn (st : PwrState) (step : Nat) (s : State) : (pwrTo st step s).scn = s.scn :=
  (congrArg State.scn (pwrTo_apart st step s) :)

/-- A state but for the rails' enables, the emitter rails and the power-goods. -/
def besideSupply (s : State) : State := { s with pwr := { s.pwr with
  enLogic := false, enGate := false, enBias := false, r := {}, g := {}, b := {}, pg := 0 } }

@[simp] theorem railOff_besideSupply (s : State) : besideSupply (railOff s) = besideSupply s :=
  ite_keeps besideSupply rfl (ite_keeps besideSupply rfl rfl)
@[simp] theorem setPg_besideSupply (b : Nat) (v : Bool) (s : State) : besideSupply (setPg b v s) = besideSupply s :=
  ite_keeps besideSupply rfl rfl
@[simp] theorem modRail_besideSupply (c : Nat) (f : VRail → VRail) (s : State) :
    besideSupply (modRail c f s) = besideSupply s := by
  unfold modRail; split <;> rfl
@[simp] theorem vledOff_besideSupply (s : State) : besideSupply (vledOff s) = besideSupply s := by
  simp [vledOff, allRails]
@[simp] theorem vledPgFall_besideSupply (s : State) : besideSupply (vledPgFall s) = besideSupply s := by
  simp [vledPgFall]

/-- A power-up has failed at a step: enables are still to fall, or FAULTED has been reached. -/
structure FailedAt (step : Nat) (t : State) : Prop where
  failStep : t.pwr.failStep = step
  err : bitOf t.pwr.err 0 = true
  raster : t.scn.state = .stopped
  state : (t.pwr.state = .poweringUp ∧ t.pwr.undoing = true) ∨ t.pwr.state = .faulted

/-- The queue of waiting commands has no part in it. -/
theorem FailedAt.withPending {step : Nat} {t : State} (h : FailedAt step t) (l : List Instr) :
    FailedAt step { t with pending := l } := ⟨h.failStep, h.err, h.raster, h.state⟩

/-- R218: one enable falls, and after the last the panel is FAULTED. -/
theorem undoStep_failed {step : Nat} {s : State} (h : FailedAt step s) : FailedAt step (undoStep s) := by
  obtain ⟨failStep, err, raster, state⟩ := h
  unfold undoStep
  extract_lets s1
  have fell : besideSupply s1 = besideSupply s := ite_keeps besideSupply (by simp) (by simp)
  have kept : s1.pwr.failStep = s.pwr.failStep := (congrArg (fun u : State => u.pwr.failStep) fell :)
  have same : s1.pwr.err = s.pwr.err := (congrArg (fun u : State => u.pwr.err) fell :)
  have still : s1.pwr.state = s.pwr.state := (congrArg (fun u : State => u.pwr.state) fell :)
  have under : s1.pwr.undoing = s.pwr.undoing := (congrArg (fun u : State => u.pwr.undoing) fell :)
  have scn : s1.scn = s.scn := (congrArg State.scn fell :)
  split
  · exact ⟨kept.trans failStep, by rw [same, err], by rw [scn, raster], by rw [still, under]; exact state⟩
  · refine ⟨?_, ?_, ?_, .inr (by rw [pwrTo_pwr])⟩
    · rw [pwrTo_pwr]
      exact kept.trans failStep
    · rw [pwrTo_pwr]
      exact (congrArg (bitOf · 0) same).trans err
    · rw [pwrTo_scn]
      exact (congrArg Scn.state scn).trans raster

@[simp] theorem rasterStop_state (s : State) : (rasterStop s).scn.state = .stopped := rfl
@[simp] theorem rasterStop_pwr (s : State) : (rasterStop s).pwr = s.pwr :=
  (ite_keeps State.pwr rfl rfl : (extensionClose 5 (slotsPassed s) s).pwr = s.pwr)

/-- R218: the raster stops, and the first enable falls. -/
theorem powerFail_failed {s : State} (step : Nat) (up : s.pwr.state = .poweringUp) : FailedAt step (powerFail step s) := by
  have stopped := linksStop_panel (rasterStop s)
  unfold powerFail
  generalize linksStop (rasterStop s) = s1 at stopped
  have raster : s1.scn.state = .stopped := (congrArg Scn.state (scn_of_panel stopped)).trans (rasterStop_state s)
  have state : s1.pwr.state = .poweringUp :=
    (congrArg Pwr.state ((pwr_of_panel stopped).trans (rasterStop_pwr s))).trans up
  exact undoStep_failed ⟨rfl, bitOf_setBit _ (by decide), raster, .inl ⟨state, rfl⟩⟩

/-! ### A bound expires (R217, R218) -/

theorem boundExpiry_idle {s : State}
    (idle : s.pwr.state ≠ .poweringUp ∨ s.pwr.undoing = true ∨ s.pwr.settling = true) : boundExpiry s = s :=
  if_pos (by rcases idle with h | h | h <;> simp [h])

section
variable {s : State} (up : s.pwr.state = .poweringUp) (calm : s.pwr.undoing = false) (waiting : s.pwr.settling = false)
include up calm waiting

theorem boundExpiry_link (step : s.pwr.step = 2) : boundExpiry s = linkEnd s := by
  simp [boundExpiry, up, calm, waiting, step]

/-- R218: a step without its power-good fails, and so does the link without an ACTIVE group. -/
theorem boundExpiry_fails (late : s.pwr.step ∈ [1, 3, 4, 6] ∨
    (s.pwr.step = 2 ∧ ((servingGroups s).any fun g => (grp s g).link == .active) = false)) :
    boundExpiry s = powerFail s.pwr.step s := by
  rcases late with late | ⟨step, none⟩
  · simp only [List.mem_cons, List.not_mem_nil, or_false] at late
    rcases late with step | step | step | step <;> simp [boundExpiry, up, calm, waiting, step]
  · rw [boundExpiry_link up calm waiting step, step]
    exact if_neg (by simp [none])

/-- R217: with an ACTIVE group the link's bound ends step 2. -/
theorem boundExpiry_gate (step : s.pwr.step = 2)
    (active : ((servingGroups s).any fun g => (grp s g).link == .active) = true) :
    (boundExpiry s).pwr = { s.pwr with step := 3, enGate := true } := by
  obtain ⟨g, listed, link⟩ := List.any_eq_true.1 active
  obtain ⟨low, serving⟩ := List.mem_filter.1 listed
  rw [boundExpiry_link up calm waiting step]
  exact (linkEnd_active (List.mem_range.1 low) (by simpa using link) serving).1

end

/-! ### Ramps (R217, R219, R222) -/

/-- A ramp up leaves the outputs at their effective values, a ramp down at 0. -/
theorem rampEnd_eq {s : State} {r : Ramp} (ramp : s.pwr.ramp = some r) : rampEnd s = { s with pwr := { s.pwr with
    ramp := none
    r := { s.pwr.r with out := if r.up then s.pwr.r.eff else 0 }
    g := { s.pwr.g with out := if r.up then s.pwr.g.eff else 0 }
    b := { s.pwr.b with out := if r.up then s.pwr.b.eff else 0 } } } := by
  unfold rampEnd; rw [ramp]; rfl

theorem irefRampEnd_none {s : State} (h : s.pwr.ramp = none) : irefRampEnd s = s := by
  unfold irefRampEnd; rw [h]

/-- R217: the ramp of step 7 ends in ON. -/
theorem irefRampEnd_on {s : State} {r : Ramp} (ramp : s.pwr.ramp = some r) (rises : r.up = true)
    (up : s.pwr.state = .poweringUp) (step : s.pwr.step = 7) : irefRampEnd s = pwrTo .on 0 (rampEnd s) := by
  simp [irefRampEnd, ramp, rises, up, step]

/-- A ramp down that is not that of a power-down's step 2 ends by other events. -/
theorem irefRampEnd_other {s : State} {r : Ramp} (ramp : s.pwr.ramp = some r) (falls : r.up = false)
    (other : s.pwr.state ≠ .poweringDown ∨ s.pwr.step ≠ 2) : irefRampEnd s = s := by
  rcases other with h | h <;> simp [irefRampEnd, ramp, falls, h]

end Sys2Proof.Machine
end

section
/-! The panel powers up (R214, R217, R218). -/

namespace Sys2Proof

open Machine

section
variable {s : State} (hq : Quiet s)
include hq

theorem powerGood_rises (r : PnlRail) : exec (.pnlPowerGoodRise r) s = .next (powerGoodRise r s) :=
  row_exact hq rfl (powerGoodRise_holds r s) (by rw [powerGoodRise_keeps])

section
variable (up : s.pwr.state = .poweringUp)
include up

/-- R217: EN is set, and the link trains. -/
theorem settle_beginsLink (settling : s.pwr.settling = true) (step : s.pwr.step = 1)
    (training : (servingGroups s).all (groupTrained s) = false) : ∃ t, exec .pwrSettleDone s = .next t ∧
      t.pwr = { s.pwr with settling := false, step := 2 } ∧ bitOf t.px.ctrl 0 = true ∧
      t = { s with pwr := t.pwr, px := t.px } := by
  let s1 : State := { s with pwr := { s.pwr with settling := false } }
  have e : settleDone s = linkBegin s1 := (settleDone_logic up settling step).trans (linkBegin_waits training)
  have hh := settleDone_holds s
  rw [e] at hh
  obtain ⟨cmds, begun⟩ := linkBegin_eq s1
  refine ⟨_, row_exact hq e hh (by rw [begun]), ?_⟩
  rw [begun]
  exact ⟨rfl, bitOf_setBit _ (by decide), rfl⟩

theorem bound_fails (calm : s.pwr.undoing = false) (waiting : s.pwr.settling = false)
    (late : s.pwr.step ∈ [1, 3, 4, 6] ∨
      (s.pwr.step = 2 ∧ ((servingGroups s).any fun g => (grp s g).link == .active) = false)) :
    ∃ t, exec .powerGoodBoundExpiry s = .next t ∧ t.pwr.failStep = s.pwr.step ∧ bitOf t.pwr.err 0 = true ∧
      t.scn.state = .stopped ∧ ((t.pwr.state = .poweringUp ∧ t.pwr.undoing = true) ∨ t.pwr.state = .faulted) := by
  refine ⟨_, row_quiet boundExpiry s hq (boundExpiry_holds s), ?_⟩
  rw [boundExpiry_fails up calm waiting late]
  obtain ⟨failStep, err, raster, state⟩ := (powerFail_failed s.pwr.step up).withPending s.pending
  exact ⟨failStep, err, raster, state⟩

/-- R217: ON, with the outputs at their effective values. -/
theorem ramp_endsOn {r : Ramp} (ramp : s.pwr.ramp = some r) (rises : r.up = true) (step : s.pwr.step = 7) :
    ∃ t, exec .irefRampEnd s = .next t ∧ t.pwr.state = .on ∧ t.pwr.step = 0 ∧ t.pwr.ramp = none ∧
      t.pwr.r.out = s.pwr.r.eff ∧ t.pwr.g.out = s.pwr.g.eff ∧ t.pwr.b.out = s.pwr.b.eff ∧
      apart t = apart { s with pwr := t.pwr } := by
  have e := irefRampEnd_on ramp rises up step
  have beside : apart (irefRampEnd s) = apart { s with pwr := (irefRampEnd s).pwr } := by
    rw [e, pwrTo_keeps, rampEnd_eq ramp]
  refine ⟨_, row_exact hq rfl (irefRampEnd_holds s) ((pending_of_apart beside).trans rfl), ?_, ?_, ?_, ?_, ?_, ?_, beside⟩ <;>
    simp [e, rampEnd_eq ramp, rises]

end

end

/-- Settles O55: the power-up row by row, its failure by the undoing of the enables. -/
theorem panelPowersUp : Obligations.PanelPowersUp := by
  unfold Obligations.PanelPowersUp
  intro s hq up
  refine ⟨?rise, ?unsettled, ?settled, ?noBound, ?bound, ?noRamp, ?ramp, ?otherRamp⟩
  case rise =>
    exact fun r => ⟨_, powerGood_rises hq r, powerGoodRise_pg r s, powerGoodRise_keeps r s,
      fun up calm due => powerGoodRise_settles up calm due, powerGoodRise_beside⟩
  case unsettled => exact fun h => row_noop settleDone s hq (settleDone_idle h)
  case settled =>
    exact fun up settling => ⟨settle_beginsLink hq up settling,
      fun step => row_exact hq (settleDone_gate up settling step) rfl rfl,
      fun step => row_exact hq (settleDone_bias up settling step) rfl rfl,
      fun step => row_exact hq (settleDone_vled up settling step) rfl rfl⟩
  case noBound => exact fun h => row_noop boundExpiry s hq (boundExpiry_idle h)
  case bound =>
    exact fun up calm waiting => ⟨bound_fails hq up calm waiting, fun step active =>
      ⟨_, row_quiet boundExpiry s hq (boundExpiry_holds s), boundExpiry_gate up calm waiting step active⟩⟩
  case noRamp => exact fun h => row_noop irefRampEnd s hq (irefRampEnd_none h)
  case ramp => exact fun r ramp rises up step => ramp_endsOn hq up ramp rises step
  case otherRamp => exact fun r ramp falls other => row_noop irefRampEnd s hq (irefRampEnd_other ramp falls other)

end Sys2Proof
end

section
/-! SUPPORT. The steps of a power-down, native and fast, and the events that begin one (R218 to R222, R231). -/

namespace Sys2Proof.Machine

/-! ### The emitter rails fall (R219, R221) -/

/-- A power-good input that goes low gives up its own bit alone. -/
theorem setPg_low (b : Nat) (s : State) : (setPg b false s).pwr.pg = s.pwr.pg - s.pwr.pg / 2 ^ b % 2 * 2 ^ b := by
  unfold setPg
  split
  next same =>
    have low : s.pwr.pg / 2 ^ b % 2 ≠ 1 := by simpa [pgHigh] using same
    have zero : s.pwr.pg / 2 ^ b % 2 = 0 := by omega
    simp [zero]
  next other =>
    have high : s.pwr.pg / 2 ^ b % 2 = 1 := by simpa [pgHigh] using other
    simp [high]

theorem vledPgLow_fall (s : State) : vledPgLow (vledPgFall s) = true := by
  simp only [vledPgLow, vledPgFall, setPg_low, beq_iff_eq]
  omega

theorem vledPgFall_keeps (s : State) :
    vledPgFall s = { s with pwr := { s.pwr with pg := (vledPgFall s).pwr.pg } } := by
  unfold vledPgFall
  rw [setPg_keeps, setPg_keeps 4, setPg_keeps 5]

/-- The emitter rails with their enables low and their setpoints at code 0. -/
theorem vledOff_eq (s : State) : vledOff s = { s with pwr := { s.pwr with
    r := { s.pwr.r with en := false, code := 0 }
    g := { s.pwr.g with en := false, code := 0 }
    b := { s.pwr.b with en := false, code := 0 } } } := rfl

/-- R219: with power-goods still high, step 3 waits for them. -/
theorem downVled_waits {s : State} (up : vledUp s = true) (high : vledPgLow s = false) :
    downVled s = vledOff { s with pwr := { s.pwr with step := 3, settling := false } } := by
  have high' : vledPgLow (vledOff { s with pwr := { s.pwr with step := 3, settling := false } }) = false := high
  simp [downVled, up, high']

/-- R219: the ramp down of step 2 ends in step 3. -/
theorem irefRampEnd_off {s : State} {r : Ramp} (ramp : s.pwr.ramp = some r) (falls : r.up = false)
    (down : s.pwr.state = .poweringDown) (step : s.pwr.step = 2) (up : vledUp s = true) (high : vledPgLow s = false) :
    irefRampEnd s = vledOff { rampEnd s with pwr := { (rampEnd s).pwr with step := 3, settling := false } } := by
  have e : irefRampEnd s = downVled (rampEnd s) := by simp [irefRampEnd, ramp, falls, down, step]
  rw [e]
  refine downVled_waits ?_ ?_
  · rw [rampEnd_eq ramp]
    exact up
  · rw [rampEnd_eq ramp]
    exact high

section
variable {s : State} (down : s.pwr.state = .poweringDown) (step : s.pwr.step = 3)
include down step

theorem vledFell_settling (settling : s.pwr.settling = true) : vledFell s = s := by
  simp [vledFell, down, step, settling]

/-- R219: the power-goods are low, and 2 MT more begin. -/
theorem vledFell_settles (waiting : s.pwr.settling = false) (native : s.pwr.fastRun = false) :
    vledFell s = { s with pwr := { s.pwr with pg := (vledPgFall s).pwr.pg, settling := true } } := by
  have native' : (vledPgFall s).pwr.fastRun = false := by rw [vledPgFall_keeps]; exact native
  have e : vledFell s = { vledPgFall s with pwr := { (vledPgFall s).pwr with settling := true } } := by
    simp [vledFell, down, step, waiting, downVledLow, native']
  rw [e, vledPgFall_keeps]

/-- R219: where they stay high the sequence goes on. -/
theorem pgStuck_high (high : vledPgLow s = false) : pgStuck s = downDisch (pwrErr 7 s) := by
  simp [pgStuck, down, step, high]

end

theorem pgStuck_low {s : State} (low : vledPgLow s = true) : pgStuck s = s := by simp [pgStuck, low]

theorem pgStuck_idle {s : State} (idle : s.pwr.state ≠ .poweringDown ∨ s.pwr.step ≠ 3) : pgStuck s = s := by
  rcases idle with h | h <;> simp [pgStuck, h]

/-- R220: a legacy sequence discharges the emitter rails. -/
theorem downDisch_legacy {s : State} (legacy : bitOf s.pwr.ctrl 1 = true) :
    downDisch s = { s with pwr := { s.pwr with step := 4, disch := true } } := if_pos legacy

/-! ### A start of power-up from OFF (R217, R222) -/

/-- R217: a panel that is OFF powers up where nothing stands against it. -/
theorem powerUp_starts {s : State} (off : s.pwr.state = .off) (service : noService s = false)
    (calm : s.cal.running = none) (timed : s.scn.timing.isSome) (red : mapOk s.pwr.r = true) (green : mapOk s.pwr.g = true)
    (blue : mapOk s.pwr.b = true) : powerUp s = pwrTo .poweringUp 1 { s with pwr := { s.pwr with
      onDue := false, fast := false, blackScans := 0, enLogic := true } } := by
  have some : s.scn.timing.isNone = false := by simpa using timed
  simp [powerUp, off, service, calm, some, red, green, blue]

/-- Completions leave what a start of power-up asks of the Juggler and of a calibration run. -/
theorem finAll_service (st : Status) (l : List Hdr) (s : State) :
    ((finAll st l s).jgl, (finAll st l s).cal) = (s.jgl, s.cal) := by
  induction l generalizing s with
  | nil => rfl
  | cons h r ih =>
    have blocks := complete_apart (opFor h s) h st 0 s
    exact (ih _).trans (Prod.ext (congrArg State.jgl blocks :) (congrArg State.cal blocks :))

/-! ### A power-down ends (R215, R219, R221, R222, R231) -/

/-- R219: OFF is reached, and nothing waits for it. -/
theorem offReached_still {s : State} (jobs : s.scn.jobs = []) (due : s.pwr.onDue = false) :
    offReached s = pwrTo .off 0 s := by
  have scn : (pwrTo .off 0 s).scn = s.scn := pwrTo_scn _ _ s
  have none : { (pwrTo .off 0 s).scn with jobs := [] } = (pwrTo .off 0 s).scn := by rw [scn, ← jobs]
  have own : ((pwrTo .off 0 s).scn.jobs.filter fun j => j.hdr.src != .fw) = [] := by rw [scn, jobs]; rfl
  unfold offReached
  dsimp only
  rw [own, none]
  exact if_neg (by simp [finAll, due])

/-- R222: a PANEL_ON that waited starts the next power-up. -/
theorem offReached_due {s : State} (due : s.pwr.onDue = true) (calm : s.cal.running = none) (service : noService s = false)
    (timed : s.scn.timing.isSome) (red : mapOk s.pwr.r = true) (green : mapOk s.pwr.g = true) (blue : mapOk s.pwr.b = true) :
    (offReached s).pwr = { s.pwr with
      state := .poweringUp, step := 1, onDue := false, fast := false, blackScans := 0, enLogic := true } := by
  unfold offReached
  extract_lets s1 own
  have blocks := pwrTo_apart .off 0 s
  have panels := finAll_panel .ok (own.map (·.hdr)) { s1 with scn := { s1.scn with jobs := [] } }
  have services := finAll_service .ok (own.map (·.hdr)) { s1 with scn := { s1.scn with jobs := [] } }
  generalize finAll .ok (own.map (·.hdr)) { s1 with scn := { s1.scn with jobs := [] } } = t at panels services ⊢
  obtain ⟨scn, pwr⟩ := panel_eq_iff.1 panels
  obtain ⟨jgl, cal⟩ := Prod.mk.inj services
  have offPwr : t.pwr = { s.pwr with state := .off, step := 0 } := pwr.trans (pwrTo_pwr .off 0 s)
  have sameJgl : t.jgl = s.jgl := jgl.trans (congrArg State.jgl blocks :)
  have sameCal : t.cal = s.cal := cal.trans (congrArg State.cal blocks :)
  have sameTiming : t.scn.timing = s.scn.timing :=
    (congrArg Scn.timing scn).trans (congrArg (fun u : State => u.scn.timing) blocks :)
  have starts : panelOnDue t = powerUp t := if_pos (by simp [offPwr, due, sameCal, calm])
  rw [starts, powerUp_starts (by rw [offPwr]) (by rw [noService, sameJgl]; exact service) (by rw [sameCal, calm])
    (by rw [sameTiming]; exact timed) (by rw [offPwr]; exact red) (by rw [offPwr]; exact green) (by rw [offPwr]; exact blue),
    pwrTo_pwr, offPwr]

/-- Panel power as a power-down that ends leaves it to its end state. -/
def downEnded (s : State) : State := { s with pwr := { s.pwr with
  toFaulted := false, fastRun := false, fast := s.pwr.fastRun || s.pwr.fast, clearing := false, settling := false } }

theorem downDone_faulted {s : State} (fault : s.pwr.fastRun = true ∨ s.pwr.toFaulted = true) :
    downDone s = pwrTo .faulted 0 (downEnded s) := if_pos (by simpa using fault)

theorem downDone_off {s : State} (native : s.pwr.fastRun = false) (plain : s.pwr.toFaulted = false) :
    downDone s = offReached (downEnded s) := if_neg (by simp [native, plain])

/-! ### Rails fall (R218, R219, R221) -/

theorem railStep_idle {s : State} (calm : s.pwr.undoing = false) (idle : s.pwr.state ≠ .poweringDown ∨ s.pwr.step ≠ 6) :
    railStep s = s := by
  rcases idle with h | h <;> simp [railStep, calm, h]

section
variable {s : State} (calm : s.pwr.undoing = false) (down : s.pwr.state = .poweringDown) (step : s.pwr.step = 6)
include calm down step

theorem railStep_done (off : railsOn s = false) : railStep s = downDone s := by
  simp [railStep, calm, down, step, off]

section
variable (native : s.pwr.fastRun = false)
include native

theorem railStep_falls (on : railsOn s = true) : railStep s = railOff s := by
  simp [railStep, calm, down, step, on, native]

theorem railStep_bias (bias : s.pwr.enBias = true) : railStep s = { s with pwr := { s.pwr with enBias := false } } :=
  (railStep_falls calm down step native (by simp [railsOn, bias])).trans (if_pos bias)

theorem railStep_gate (bias : s.pwr.enBias = false) (gate : s.pwr.enGate = true) :
    railStep s = { s with pwr := { s.pwr with enGate := false } } :=
  (railStep_falls calm down step native (by simp [railsOn, gate])).trans ((if_neg (by simp [bias])).trans (if_pos gate))

theorem railStep_logic (bias : s.pwr.enBias = false) (gate : s.pwr.enGate = false) (logic : s.pwr.enLogic = true) :
    railStep s = { s with pwr := { s.pwr with enLogic := false } } :=
  (railStep_falls calm down step native (by simp [railsOn, logic])).trans
    ((if_neg (by simp [bias])).trans (if_neg (by simp [gate])))

end

end

/-! ### The discharge ends (R220) -/

theorem dischargeEnd_idle {s : State} (idle : s.pwr.disch = false) : dischargeEnd s = s := if_pos (by simp [idle])

/-- R219: step 5 waits for the tick that stops the raster. -/
theorem dischargeEnd_waits {s : State} (discharges : s.pwr.disch = true) (native : s.pwr.fastRun = false)
    (running : s.scn.state ≠ .stopped) : dischargeEnd s = { s with pwr := { s.pwr with disch := false, step := 5 } } := by
  simp [dischargeEnd, discharges, native, downStop, running]

/-! ### Errors stay flagged (R232) -/

section
variable {s : State} {i : Nat} (flagged : bitOf s.pwr.err i = true)
include flagged

theorem pwrTo_flagged (st : PwrState) (step : Nat) : bitOf (pwrTo st step s).pwr.err i = true := by
  rw [pwrTo_pwr]; exact flagged

theorem powerUp_flagged : bitOf (powerUp s).pwr.err i = true := by
  unfold powerUp
  extract_lets p s0
  split
  · exact flagged
  · split
    · exact flagged
    · split
      · exact pwrTo_flagged (s := pwrErr 8 s0) (bitOf_setBit_of 8 flagged) _ _
      · split
        · exact pwrTo_flagged (s := pwrErr 6 s0) (bitOf_setBit_of 6 flagged) _ _
        · exact pwrTo_flagged (s := { s0 with pwr := { s0.pwr with enLogic := true } }) flagged _ _

theorem panelOnDue_flagged : bitOf (panelOnDue s).pwr.err i = true := by
  unfold panelOnDue
  split
  · exact powerUp_flagged flagged
  · exact flagged

theorem offReached_flagged : bitOf (offReached s).pwr.err i = true := by
  unfold offReached
  extract_lets s1 own
  refine panelOnDue_flagged ?_
  rw [pwr_of_panel (finAll_panel _ _ _)]
  exact pwrTo_flagged flagged _ _

theorem downDone_flagged : bitOf (downDone s).pwr.err i = true := by
  unfold downDone
  extract_lets p s1
  split
  · exact pwrTo_flagged (s := s1) flagged _ _
  · exact offReached_flagged (s := s1) flagged

theorem railOff_flagged : bitOf (railOff s).pwr.err i = true := by
  have kept : (railOff s).pwr.err = s.pwr.err := (congrArg (fun u : State => u.pwr.err) (railOff_besideSupply s) :)
  rw [kept, flagged]

theorem downRails_flagged : bitOf (downRails s).pwr.err i = true := by
  unfold downRails
  extract_lets p s1
  split
  · exact railOff_flagged (s := s1) flagged
  · exact downDone_flagged (s := s1) flagged

theorem linksStop_flagged : bitOf (linksStop s).pwr.err i = true := by
  rw [pwr_of_panel (linksStop_panel s), flagged]

theorem downStop_flagged : bitOf (downStop s).pwr.err i = true := by
  unfold downStop
  extract_lets p s1
  split
  · exact downRails_flagged (linksStop_flagged (s := s1) flagged)
  · exact flagged

theorem downDisch_flagged : bitOf (downDisch s).pwr.err i = true := by
  unfold downDisch
  split
  · exact flagged
  · split
    · exact downRails_flagged (linksStop_flagged flagged)
    · exact downStop_flagged flagged

end

/-! ### The fast power-down (R221) -/

/-- The emitter rails, the errors, the power-goods and the raster's state. -/
structure EmitterView where
  r : VRail
  g : VRail
  b : VRail
  err : W32
  pg : Nat
  raster : RasterState

def emitterView (s : State) : EmitterView := ⟨s.pwr.r, s.pwr.g, s.pwr.b, s.pwr.err, s.pwr.pg, s.scn.state⟩

/-- The view with the emitter rails off. -/
def EmitterView.off (v : EmitterView) : EmitterView := { v with
  r := { v.r with en := false, code := 0 }, g := { v.g with en := false, code := 0 }, b := { v.b with en := false, code := 0 } }

/-- The view with the raster STOPPED. -/
def EmitterView.stopped (v : EmitterView) : EmitterView := { v with raster := .stopped }

theorem emitterView_vledOff (s : State) : emitterView (vledOff s) = (emitterView s).off := rfl

theorem emitterView_of_panel {s t : State} (h : panel s = panel t) : emitterView s = emitterView t := by
  obtain ⟨scn, pwr⟩ := panel_eq_iff.1 h
  simp only [emitterView, scn, pwr]

/-- A fast power-down goes on beside the emitter rails: at its step, or in FAULTED at its end. -/
structure FastGoesOn (s t : State) : Prop where
  state : t.pwr.state = s.pwr.state ∨ t.pwr.state = .faulted
  view : emitterView t = emitterView s

theorem FastGoesOn.trans {s t u : State} (first : FastGoesOn s t) (next : FastGoesOn t u) : FastGoesOn s u :=
  ⟨next.state.elim (fun same => first.state.imp same.trans same.trans) .inr, next.view.trans first.view⟩

theorem linksStop_goesOn (s : State) : FastGoesOn s (linksStop s) :=
  ⟨.inl (congrArg Pwr.state (pwr_of_panel (linksStop_panel s))), emitterView_of_panel (linksStop_panel s)⟩

section
variable {s : State} (fast : s.pwr.fastRun = true)
include fast

theorem downDone_goesOn : FastGoesOn s (downDone s) := by
  rw [downDone_faulted (.inl fast)]
  refine ⟨.inr (by rw [pwrTo_pwr]), ?_⟩
  simp only [emitterView, pwrTo_pwr, pwrTo_scn, downEnded]

theorem downRails_goesOn : FastGoesOn s (downRails s) := by
  unfold downRails
  extract_lets p s1
  split
  · exact ⟨.inl (ite_keeps (fun u => u.pwr.state) rfl (ite_keeps (fun u => u.pwr.state) rfl rfl)),
      ite_keeps emitterView rfl (ite_keeps emitterView rfl rfl)⟩
  · obtain ⟨state, view⟩ := downDone_goesOn (s := s1) fast
    exact ⟨state, view⟩

theorem downDisch_goesOn : FastGoesOn s (downDisch s) := by
  have stopped : (linksStop s).pwr.fastRun = true := by rw [pwr_of_panel (linksStop_panel s), fast]
  unfold downDisch
  rw [if_pos fast]
  split
  · exact ⟨.inl rfl, rfl⟩
  · exact (linksStop_goesOn s).trans (downRails_goesOn stopped)

/-- R221: step 3 of a fast power-down switches the emitter rails off and goes on as soon as they are. -/
theorem downVled_goesOn : FastGoesOn (vledOff { s with pwr := { s.pwr with step := 3, settling := false } }) (downVled s) := by
  unfold downVled
  extract_lets p s1
  have disch : FastGoesOn s1 (downDisch s1) := downDisch_goesOn (s := s1) fast
  have low : downVledLow s1 = downDisch s1 := if_pos fast
  rw [low]
  split
  · exact disch
  · split
    · exact disch
    · exact ⟨.inl rfl, rfl⟩

end

@[simp] theorem frameAborted_panel (a : Nat) (s : State) : panel (frameAborted a s) = panel s := by
  unfold frameAborted
  split
  · rfl
  · rw [frameReport_panel, retireFrame_panel]
@[simp] theorem pxSend_panel (g ty flags line tick pos : Nat) (payload : List Byte) (s : State) :
    panel (pxSend g ty flags line tick pos payload s) = panel s := by
  unfold pxSend; dsimp only; split <;> rfl
@[simp] theorem pxSendAll_panel (ty flags line : Nat) (payload : Nat → List Byte) (s : State) :
    panel (pxSendAll ty flags line payload s) = panel s :=
  eachNat_keeps panel _ _ s fun _ u => ite_keeps panel (pxSend_panel _ _ _ _ _ _ _ u) rfl
@[simp] theorem sendAbort_panel (line : Nat) (s : State) : panel (sendAbort line s) = panel s := by
  unfold sendAbort
  rw [eachNat_keeps panel _ _ _ fun g u => modGrp_panel g _ u, pxSendAll_panel]
@[simp] theorem regionsBlack_panel (s : State) : panel (regionsBlack s) = panel s :=
  (withCrsl_panel _ _).trans (crslDisable_panel s)

/-- The panel is dark: the raster stands, the emitter rails are off and their outputs at 0. -/
structure PanelDark (t : State) : Prop where
  raster : t.scn.state = .stopped
  state : t.pwr.state = .poweringDown ∨ t.pwr.state = .faulted
  red : t.pwr.r.en = false ∧ t.pwr.r.out = 0
  green : t.pwr.g.en = false ∧ t.pwr.g.out = 0
  blue : t.pwr.b.en = false ∧ t.pwr.b.out = 0

theorem fastFrom_vled (s : State) : fastFrom 3 s = downVled s := rfl

/-- R221: from ON the fast power-down begins at step 3, with the outputs at 0 and the raster STOPPED. -/
theorem fastPowerDown_begins {s : State} (on : s.pwr.state = .on) (first : s.pwr.fastRun = false) :
    ∃ u, fastPowerDown s = downVled u ∧ u.pwr.fastRun = true ∧ u.pwr.state = .poweringDown ∧
      emitterView u = (emitterView (irefZero s)).stopped := by
  unfold fastPowerDown
  extract_lets p at_ s1 s2 q
  have third : at_ = 3 := if_neg (by simp [on])
  have pwr : s2.pwr = (irefZero s).pwr := by
    rw [pwr_of_panel (regionsBlack_panel _), rasterStop_pwr, pwr_of_panel (sendAbort_panel _ _),
      pwr_of_panel (frameAborted_panel _ _), downStart_pwr]
  have raster : s2.scn.state = .stopped := by
    rw [scn_of_panel (regionsBlack_panel _), rasterStop_state]
  rw [if_neg (by simp [first]), if_neg (by simp [on]), third]
  refine ⟨_, fastFrom_vled _, ?_, ?_, ?_⟩
  · rw [pwrTo_pwr]
  · rw [pwrTo_pwr]
  · simp only [emitterView, EmitterView.stopped, pwrTo_pwr, pwrTo_scn, q, pwr, raster]

theorem fastPowerDown_dark {s : State} (on : s.pwr.state = .on) (first : s.pwr.fastRun = false) :
    PanelDark (fastPowerDown s) ∧ (fastPowerDown s).pwr.err = s.pwr.err ∧ (fastPowerDown s).pwr.pg = s.pwr.pg := by
  obtain ⟨u, e, fast, down, begun⟩ := fastPowerDown_begins on first
  obtain ⟨state, view⟩ := downVled_goesOn fast
  rw [← e] at state view
  have dark := view.trans ((emitterView_vledOff _).trans (congrArg EmitterView.off begun))
  refine ⟨⟨(congrArg EmitterView.raster dark :), state.imp (·.trans down) id, ⟨?_, ?_⟩, ⟨?_, ?_⟩, ⟨?_, ?_⟩⟩,
    (congrArg EmitterView.err dark :), (congrArg EmitterView.pg dark :)⟩
  · exact (congrArg (fun v : EmitterView => v.r.en) dark :)
  · exact (congrArg (fun v : EmitterView => v.r.out) dark :)
  · exact (congrArg (fun v : EmitterView => v.g.en) dark :)
  · exact (congrArg (fun v : EmitterView => v.g.out) dark :)
  · exact (congrArg (fun v : EmitterView => v.b.en) dark :)
  · exact (congrArg (fun v : EmitterView => v.b.out) dark :)

/-! ### Faults (R231) -/

theorem powerGoodLost_low {r : PnlRail} {s : State} (low : pgHigh s (pgBit r) = false) : powerGoodLost r s = s :=
  if_pos (by simp [low])

/-- R231: a power-good lost while its rail is enabled. -/
theorem powerGoodLost_dark {r : PnlRail} {s : State} (high : pgHigh s (pgBit r) = true) (enabled : railEn s r = true)
    (on : s.pwr.state = .on) (calm : s.pwr.undoing = false) (first : s.pwr.fastRun = false) :
    PanelDark (powerGoodLost r s) ∧ bitOf (powerGoodLost r s).pwr.err 3 = true ∧
      pgHigh (powerGoodLost r s) (pgBit r) = false := by
  have e : powerGoodLost r s = fastPowerDown (pwrErr 3 (setPg (pgBit r) false s)) := by
    simp [powerGoodLost, high, enabled, on, calm]
  have fell := setPg_keeps (pgBit r) false s
  have low := pgHigh_setPg (pgBit r) false s
  generalize setPg (pgBit r) false s = s1 at e fell low
  obtain ⟨dark, err, pg⟩ := fastPowerDown_dark (s := pwrErr 3 s1) (by rw [fell]; exact on) (by rw [fell]; exact first)
  rw [e]
  exact ⟨dark, by rw [err]; exact bitOf_setBit _ (by decide), (pgHigh_congr pg _).trans low⟩

theorem overvoltage_dark {s : State} (on : s.pwr.state = .on) (first : s.pwr.fastRun = false) :
    PanelDark (overvoltage s) ∧ bitOf (overvoltage s).pwr.err 1 = true := by
  obtain ⟨dark, err, _⟩ := fastPowerDown_dark (s := pwrErr 1 s) on first
  exact ⟨dark, by rw [overvoltage, err]; exact bitOf_setBit _ (by decide)⟩

/-- The rail's sense is below 90 % of its setpoint. -/
def senseLow (c mv : Nat) (s : State) : Bool := decide (((mv * 10 : Nat) : Int) < 9 * (vrail s c).vset)

/-- R231: the sense is kept, and an undervoltage flagged. -/
theorem undervoltage_eq (c mv : Nat) (s : State) : undervoltage c mv s =
    if senseLow c mv s then pwrErr 2 (modRail c (fun x => { x with sns := mv, uv := senseLow c mv s }) s)
    else modRail c (fun x => { x with sns := mv, uv := senseLow c mv s }) s := rfl

theorem modRail_besidePwr (c : Nat) (f : VRail → VRail) (s : State) : besidePwr (modRail c f s) = besidePwr s := by
  unfold modRail; split <;> rfl

@[simp] theorem modRail_err (c : Nat) (f : VRail → VRail) (s : State) : (modRail c f s).pwr.err = s.pwr.err := by
  unfold modRail; split <;> rfl

theorem undervoltage_keeps (c mv : Nat) (s : State) : undervoltage c mv s = { s with pwr := (undervoltage c mv s).pwr } := by
  have sensed := modRail_besidePwr c (fun x => { x with sns := mv, uv := senseLow c mv s }) s
  exact eq_of_besidePwr (ite_keeps besidePwr (Eq.trans rfl sensed) sensed)

theorem vrail_undervoltage (c mv k : Nat) (s : State) : vrail (undervoltage c mv s) k =
    vrail (modRail c (fun x => { x with sns := mv, uv := senseLow c mv s }) s) k := by
  rw [undervoltage_eq]
  split <;> rfl

theorem undervoltage_err (c mv : Nat) (s : State) :
    (undervoltage c mv s).pwr.err = if senseLow c mv s then setBit s.pwr.err 2 else s.pwr.err := by
  rw [undervoltage_eq]
  split
  · rw [pwrErr, modRail_err]
  · exact modRail_err _ _ _

/-- Some emitter rail is under voltage at VMAX. -/
def lowAtMax (s : State) : Bool := [0, 1, 2].any fun c => (vrail s c).uv && decide ((vrail s c).vset = vMax (vrail s c))

theorem uvTimeout_idle {s : State} (fed : lowAtMax s = false) : uvTimeout s = s :=
  if_neg (Bool.eq_false_iff.1 fed)

/-- R219, R231: a native power-down from ON, towards FAULTED where a fault asks for it. -/
theorem powerDown_begins {s : State} (toFaulted : Bool) (on : s.pwr.state = .on) (calm : s.pwr.undoing = false)
    (lit : vledUp s = true) (running : s.scn.state ≠ .stopped) : (powerDown toFaulted s).pwr.state = .poweringDown ∧
      (powerDown toFaulted s).pwr.step = 1 ∧ (powerDown toFaulted s).pwr.toFaulted = toFaulted := by
  unfold powerDown
  extract_lets up s1 p s2
  have begun : s1.pwr.state = .poweringDown ∧ s1.pwr.step = 1 := by simp [s1]
  rw [if_neg (by simp [on, calm]), if_neg (by simp [lit, running])]
  exact ⟨begun.1, begun.2, rfl⟩

theorem uvTimeout_powersDown {s : State} (low : lowAtMax s = true) : uvTimeout s = powerDown true s := if_pos low

end Sys2Proof.Machine
end

section
/-! The panel powers down, and its faults (R218 to R221, R231). -/

namespace Sys2Proof

open Machine

section
variable {s : State} (hq : Quiet s)
include hq

/-- A row beside which only what a delivery may change and panel power do. -/
theorem powerRow {f : State → State} {t : State} (e : f s = t) (hh : holds (f s) = holds s)
    (beside : apart t = apart { s with pwr := t.pwr }) : row f s = .next t :=
  row_exact hq e (e ▸ hh) ((pending_of_apart beside).trans rfl)

/-! ### The emitter rails (R219, R220) -/

section
variable (down : s.pwr.state = .poweringDown)
include down

theorem ramp_endsDark {r : Ramp} (ramp : s.pwr.ramp = some r) (falls : r.up = false) (step : s.pwr.step = 2)
    (up : vledUp s = true) (high : vledPgLow s = false) : ∃ t, exec .irefRampEnd s = .next t ∧ t.pwr.step = 3 ∧
      t.pwr.state = .poweringDown ∧ t.pwr.ramp = none ∧ t.pwr.r.en = false ∧ t.pwr.g.en = false ∧ t.pwr.b.en = false ∧
      t.pwr.r.code = 0 ∧ t.pwr.r.out = 0 ∧ t = { s with pwr := t.pwr } := by
  have e := irefRampEnd_off ramp falls down step up high
  rw [rampEnd_eq ramp, vledOff_eq] at e
  refine ⟨_, powerRow hq e (irefRampEnd_holds s) rfl, rfl, down, rfl, rfl, rfl, rfl, rfl, ?_, rfl⟩
  simp [falls]

section
variable (step : s.pwr.step = 3)
include step

theorem powerGoods_fall (waiting : s.pwr.settling = false) (native : s.pwr.fastRun = false) :
    ∃ t, exec .vledPgFall s = .next t ∧ vledPgLow t = true ∧
      t = { s with pwr := { s.pwr with pg := t.pwr.pg, settling := true } } :=
  ⟨_, powerRow hq (vledFell_settles down step waiting native) (vledFell_holds s) rfl, vledPgLow_fall s, rfl⟩

theorem powerGoods_stick (high : vledPgLow s = false) : ∃ t, exec .pwrPgStuck s = .next t ∧ bitOf t.pwr.err 7 = true ∧
    (bitOf s.pwr.ctrl 1 = true → t.pwr = { (pwrErr 7 s).pwr with step := 4, disch := true }) := by
  have e := pgStuck_high down step high
  refine ⟨_, row_quiet pgStuck s hq (pgStuck_holds s), ?_, fun legacy => ?_⟩
  · rw [e]
    exact downDisch_flagged (s := pwrErr 7 s) (bitOf_setBit _ (by decide))
  · rw [e, downDisch_legacy (s := pwrErr 7 s) legacy]

end

/-! ### The last enables (R219, R222, R231) -/

section
variable (calm : s.pwr.undoing = false) (step : s.pwr.step = 6) (native : s.pwr.fastRun = false) (off : railsOn s = false)
include calm step off

theorem rails_endFaulted (fault : s.pwr.toFaulted = true) : ∃ t, exec .railDisableStep s = .next t ∧
    t.pwr.state = .faulted ∧ apart t = apart { s with pwr := t.pwr } := by
  have e := (railStep_done calm down step off).trans (downDone_faulted (.inr fault))
  have beside := pwrTo_keeps .faulted 0 (downEnded s)
  exact ⟨_, powerRow hq e (railStep_holds s) beside, by rw [pwrTo_pwr], beside⟩

include native

theorem rails_endOff (plain : s.pwr.toFaulted = false) (jobs : s.scn.jobs = []) (due : s.pwr.onDue = false) :
    ∃ t, exec .railDisableStep s = .next t ∧ t.pwr.state = .off ∧ t.pwr.step = 0 ∧
      apart t = apart { s with pwr := t.pwr } := by
  have e := (railStep_done calm down step off).trans
    ((downDone_off native plain).trans (offReached_still (s := downEnded s) jobs due))
  have beside := pwrTo_keeps .off 0 (downEnded s)
  exact ⟨_, powerRow hq e (railStep_holds s) beside, by rw [pwrTo_pwr], by rw [pwrTo_pwr], beside⟩

theorem rails_endInPowerUp (plain : s.pwr.toFaulted = false) (due : s.pwr.onDue = true) (idle : s.cal.running = none)
    (service : noService s = false) (timed : s.scn.timing.isSome) (red : mapOk s.pwr.r = true) (green : mapOk s.pwr.g = true)
    (blue : mapOk s.pwr.b = true) : ∃ t, exec .railDisableStep s = .next t ∧ t.pwr.state = .poweringUp ∧
      t.pwr.step = 1 ∧ t.pwr.enLogic = true := by
  have e := (railStep_done calm down step off).trans (downDone_off native plain)
  have up := offReached_due (s := downEnded s) due idle service timed red green blue
  refine ⟨_, row_quiet railStep s hq (railStep_holds s), ?_⟩
  rw [e]
  refine ⟨?_, ?_, ?_⟩
  · exact congrArg Pwr.state up
  · exact congrArg Pwr.step up
  · exact congrArg Pwr.enLogic up

end

end

/-! ### Faults (R231) -/

theorem powerGood_lost {r : PnlRail} (high : pgHigh s (pgBit r) = true) (enabled : railEn s r = true)
    (on : s.pwr.state = .on) (calm : s.pwr.undoing = false) (first : s.pwr.fastRun = false) :
    ∃ t, exec (.powerGoodLost r) s = .next t ∧ bitOf t.pwr.err 3 = true ∧ pgHigh t (pgBit r) = false ∧
      t.scn.state = .stopped ∧ (t.pwr.state = .poweringDown ∨ t.pwr.state = .faulted) ∧ t.pwr.r.en = false ∧
      t.pwr.g.en = false ∧ t.pwr.b.en = false ∧ t.pwr.r.out = 0 ∧ t.pwr.g.out = 0 ∧ t.pwr.b.out = 0 := by
  obtain ⟨⟨raster, state, red, green, blue⟩, err, low⟩ := powerGoodLost_dark high enabled on calm first
  exact ⟨_, row_quiet (powerGoodLost r) s hq (powerGoodLost_holds r s), err, low, raster, state, red.1, green.1, blue.1,
    red.2, green.2, blue.2⟩

section
variable {c : Nat} (hc : c < 3)
include hc

theorem rail_overvoltage (on : s.pwr.state = .on) (first : s.pwr.fastRun = false) :
    ∃ t, exec (.railOvervoltage c) s = .next t ∧ bitOf t.pwr.err 1 = true ∧ t.scn.state = .stopped ∧
      (t.pwr.state = .poweringDown ∨ t.pwr.state = .faulted) ∧ t.pwr.r.en = false ∧ t.pwr.g.en = false ∧
      t.pwr.b.en = false ∧ t.pwr.r.out = 0 ∧ t.pwr.g.out = 0 ∧ t.pwr.b.out = 0 := by
  obtain ⟨⟨raster, state, red, green, blue⟩, err⟩ := overvoltage_dark on first
  have e : exec (.railOvervoltage c) s = .next { overvoltage s with pending := s.pending } := by
    show unitRow (decide (c < 3)) overvoltage s = _
    rw [decide_eq_true hc, unitRow_quiet overvoltage s hq (overvoltage_holds s)]
  exact ⟨_, e, err, raster, state, red.1, green.1, blue.1, red.2, green.2, blue.2⟩

theorem rail_undervoltage (mv : Nat) : ∃ t, exec (.railUndervoltage c mv) s = .next t ∧ (vrail t c).sns = mv ∧
    (vrail t c).uv = senseLow c mv s ∧ t.pwr.err = (if senseLow c mv s then setBit s.pwr.err 2 else s.pwr.err) ∧
    t = { s with pwr := t.pwr } ∧ ∀ k, k < 3 → k ≠ c → vrail t k = vrail s k := by
  have kept := undervoltage_keeps c mv s
  have e : exec (.railUndervoltage c mv) s = .next (undervoltage c mv s) := by
    show unitRow (decide (c < 3)) (undervoltage c mv) s = _
    rw [decide_eq_true hc]
    exact unitRow_exact hq rfl (undervoltage_holds c mv s) ((congrArg State.pending kept).trans rfl)
  have own : vrail (undervoltage c mv s) c = { vrail s c with sns := mv, uv := senseLow c mv s } :=
    (vrail_undervoltage c mv c s).trans (vrail_modRail_same hc _ s)
  refine ⟨_, e, by rw [own], by rw [own], undervoltage_err c mv s, kept, fun k hk other => ?_⟩
  exact (vrail_undervoltage c mv k s).trans (vrail_modRail_other hc hk other _ s)

end

theorem undervoltage_lasts (low : lowAtMax s = true) (on : s.pwr.state = .on) (calm : s.pwr.undoing = false)
    (lit : vledUp s = true) (running : s.scn.state ≠ .stopped) : ∃ t, exec .pwrUvTimeout s = .next t ∧
      t.pwr.state = .poweringDown ∧ t.pwr.step = 1 ∧ t.pwr.toFaulted = true := by
  obtain ⟨state, step, fault⟩ := powerDown_begins true on calm lit running
  rw [← uvTimeout_powersDown low] at state step fault
  exact ⟨_, row_quiet uvTimeout s hq (uvTimeout_holds s), state, step, fault⟩

end

/-- Settles O56: the native power-down row by row, and the fast one from the fault that begins it. -/
theorem panelPowersDown : Obligations.PanelPowersDown := by
  unfold Obligations.PanelPowersDown
  intro s hq dn
  refine ⟨?ramp, ?vled, ?notStuck, ?noDischarge, ?discharge, ?notRails, ?rails, ?lost, ?volts, ?fed, ?starved⟩
  case ramp => exact fun r ramp falls down step up high => ramp_endsDark hq down ramp falls step up high
  case vled =>
    exact fun down step => ⟨fun settling => row_noop vledFell s hq (vledFell_settling down step settling),
      powerGoods_fall hq down step, fun low => row_noop pgStuck s hq (pgStuck_low low), powerGoods_stick hq down step⟩
  case notStuck => exact fun idle => row_noop pgStuck s hq (pgStuck_idle idle)
  case noDischarge => exact fun idle => row_noop dischargeEnd s hq (dischargeEnd_idle idle)
  case discharge =>
    exact fun discharges native running => row_exact hq (dischargeEnd_waits discharges native running) rfl rfl
  case notRails => exact fun calm idle => row_noop railStep s hq (railStep_idle calm idle)
  case rails =>
    intro calm down step native
    refine ⟨fun bias => ?_, fun bias gate => ?_, fun bias gate logic => ?_, fun off plain jobs due => ?_,
      fun off plain due idle service timed red green blue => ?_, fun off fault => ?_⟩
    · exact row_exact hq (railStep_bias calm down step native bias) rfl rfl
    · exact row_exact hq (railStep_gate calm down step native bias gate) rfl rfl
    · exact row_exact hq (railStep_logic calm down step native bias gate logic) rfl rfl
    · exact rails_endOff hq down calm step native off plain jobs due
    · exact rails_endInPowerUp hq down calm step native off plain due idle service timed red green blue
    · exact rails_endFaulted hq down calm step off fault
  case lost => exact fun r => ⟨fun low => row_noop (powerGoodLost r) s hq (powerGoodLost_low low), powerGood_lost hq⟩
  case volts => exact fun c hc => ⟨rail_overvoltage hq hc, rail_undervoltage hq hc⟩
  case fed => exact fun fed => row_noop uvTimeout s hq (uvTimeout_idle fed)
  case starved => exact fun low on calm lit running => undervoltage_lasts hq low on calm lit running

end Sys2Proof
end

section
/-! SUPPORT. Every row keeps the byte memories in canonical form: its operation leaves them as they were, or writes them in
the ways that keep the form, and so does what follows from it (R240, R259). -/

namespace Sys2Proof.Machine

/-- The memories of the state that a row answers with, if it answers with one, are in canonical form. -/
def AnswersCanonical (r : Res) : Prop := ∀ t, r = .next t → memsOk (mems t)

section
variable {b : Bool} {f : State → State} {s : State} (hs : memsOk (mems s))
include hs

theorem row_canonical (hf : ∀ u, memsOk (mems u) → memsOk (mems (f u))) : AnswersCanonical (row f s) :=
  fun t h => row_memories f s t hf hs h

theorem unitRow_canonical (hf : ∀ u, memsOk (mems u) → memsOk (mems (f u))) : AnswersCanonical (unitRow b f s) :=
  fun t h => unitRow_memories b f s t hf hs h

/-- A row whose operation leaves every byte memory as it was. -/
theorem row_unchanged (hf : ∀ u, mems (f u) = mems u) : AnswersCanonical (row f s) :=
  row_canonical hs fun u hu => (hf u).symm ▸ hu

theorem unitRow_unchanged (hf : ∀ u, mems (f u) = mems u) : AnswersCanonical (unitRow b f s) :=
  unitRow_canonical hs fun u hu => (hf u).symm ▸ hu

/-- A row that writes a register, by what the register's own operation does. -/
theorem barWrite_canonical {m off : Nat} (hf : ∀ u, memsOk (mems u) → memsOk (mems (f u))) :
    AnswersCanonical (row (barWrite m off f) s) :=
  row_canonical hs fun u hu => barWrite_memsOk m off f u hu hf

end

/-- Every command and every event answers with canonical memories. -/
theorem exec_canonical (i : Instr) {s : State} (hs : memsOk (mems s)) : AnswersCanonical (exec i s) := by
  cases i
  -- The command packets, each submitted as its path delivers it.
  case nop | fence | sceneLoadOpen | sceneLoadData | sceneLoadClose | sceneLoadFree | scenePlay | sceneStop | sceneSeek |
    frameSubmit | layerSet | commit | timingSet | updateRegion | waveformLoad | blitFill | blitCopy | blitConvert |
    ctnEncode | ctnDecode | ctnSaveState | ctnRestoreState | surfaceRegister | surfaceRelease | fwOpen | fwBlock |
    fwCommit | fwAbort | fwConfirm | calRun | calRead | calWrite | meshSend | unitStateGet | unitStateSet | resetUnit |
    logReadEntries | logReadCodeDictionary | logReadSourceDictionary => exact row_canonical hs (submit_memsOk _ _)
  -- The events that may write a byte memory.
  case waveformCheckDone | fwEraseDone | fwCommitCheckDone | fwActivateReset | fwLockExpiry | confirmWindowExpiry |
    lifecycleChange | bar2Access | bar4Access | registerWrite | watchdogExpiry | mctpRequest | mctpPacket | lineDeparture |
    frameTick | rasterStart | jglRebaseDone | spmBankCopyDone | tamperAssert | secureWipeDone | haloSendPhase2 |
    powerOnReset | resetNAssert | vaonLoss | bootPorDone | bootLoadDone | bootTrainDone | brownout =>
    exact row_canonical hs fun u hu => by simp [hu]
  case streamedFrameLanded | shwStagingDone | shwBurstDone | ctnJobEnd | packetFetch | crslTblRewriteDone | spmBankSpare |
    trzHaloFragmentRx | trzMgmtRx | trzDataResponseRx | trzUserMsgRx | thermalTrip =>
    exact unitRow_canonical hs fun u hu => by simp [hu]
  -- The writes of registers: a reset and a bank's power may write the memories.
  case rmResetWrite v => exact barWrite_canonical hs (rmReset_memsOk v)
  case spmBankPwrWrite m v => exact barWrite_canonical hs (bankPwrWrite_memsOk m v)
  case wdogKick | panelOnSet | panelOnClear | pwrseqLegacyWrite | brkSrcForce | brkCountClear | brkRouteWrite | thAckL3 |
    thTripClear | thLimitsWrite | trnEntryApply | shwChAbort | shwDisable | clpSnap | clpTb1Step | clpTb0OffsetWrite |
    clpTb2OffsetWrite | clpTb3Set | jglFoldAck | trzPortExpectWrite | pxGrpFirWrite | logDropClear =>
    exact barWrite_canonical hs fun u hu => by simpa [mems_ite] using hu
  -- Every other event leaves the memories alone.
  case meshSendTimeout | sqEnable | sqDisable | sqReset | sqAdopt | cqEnable | cqDisable | cqReset | cqAdopt | perst | flr |
    portLinkDown | portLinkReturn | failoverTimeout | d3hotEntry | d0Return | hqBar4BaseWrite | bar0BadAccess |
    thTripDataRead | calJrnlDataRead | clrTblDataAccess | trzRouteDataAccess | mctpControlMessage | mctpAssemblyTimeout |
    mctpResponseCollected | synthesisStart | preflightDecided | blankLineStart | scanEnd | holdExtensionEnd | linkWake |
    retimeRampEnd | headroomLoop | pwrHeadroomStaleLimit | pnlPowerGoodRise | pwrSettleDone | powerGoodBoundExpiry |
    irefRampEnd | vledPgFall | pwrPgStuck | dischargeEnd | railDisableStep | powerGoodLost | pwrUvTimeout | unitRequest |
    storeShrink | jglRetrainDone | jglRankCopyDone | jglChannelCopyDone | jglFoldCopyDone | jglScrub | jglSwitchStart |
    jglSwitchDone | trzSyncSend | clpHoldover | trzGwTimeout | journalCopy | thSample | thPause | bootRomDone |
    bootCheckDone | sceneFrameDue | mramCommitRetry | pcieLinkUp | brownoutEnd | clkLrefLost | clkLrefReturn |
    refinReturn => exact row_unchanged hs fun u => by simp
  case sceneVerifyDone | calItemDone | sqDoorbell | cqDoorbell | cqInterruptTimer | vecIdleWrite | sqDrainDone | brkClaim |
    brkComplete | brkHostPendClear | brkSourceEvent | brkModTimer | coreReset | coreWait | spmBankZeroDone | homPipeErr |
    watermarkFire | railOvervoltage | railUndervoltage | pxTrainRequest | pxTsRx | pxTrainTimeout | pxTrainDone |
    headroomRx | tempRx | crcreportRx | crcreportMissing | faultRx | tempStale | headroomStale | bcLockLost |
    bcRetrainTimeout | pxGroupSpare | pxGroupCleanWindow | backChannelLock | regionRequestTimeout | homPipeSpare |
    homPipeCleanWindow | jglCeLimit | jglRetrain | jglFold | jglRebase | jglRefreshLimit | jglRowDisturb | jglRegCutEnd |
    jglMr4Read | jglZqCal | jglDqsTrack | jglChannelCleanWindow | sameBankRefresh | spmCeLimit | spmBankCleanWindow |
    trzTsRx | trzTrainTimeout | trzTrainDone | trzFailedRetry | trzLaneWindow | trzLaneSpare | trzPortCleanWindow |
    trzAckRx | trzNakRx | trzCreditRx | trzCreditStall | trzSyncRx | trzPdelaySend | trzPdelayReqRx | trzPdelayRespRx |
    trzHelloRx | trzProofRx | trzAuthTimeout | trzAuthRetry | trzHaloCancelRx | trzDataRequestRx | trzMsgAckRx |
    trzForwardTimeout | meshLossOfLock | logEntrySubmit | thSensorSpare | sensorCleanWindow =>
    exact unitRow_unchanged hs fun u => by simp

end Sys2Proof.Machine
end

section
/-! Memories stay canonical (R240, R259): the invariant over every step. -/

namespace Sys2Proof

open Machine

/-- Settles O6: a command by its own row, and an idle cycle moves time alone. -/
theorem memoriesStayCanonical : Obligations.MemoriesStayCanonical := by
  unfold Obligations.MemoriesStayCanonical
  intro s t wf stepped
  have hs : memsOk (mems s) := (memories_iff s).1 wf
  rw [memories_iff]
  unfold step at stepped
  split at stepped
  next idle =>
    obtain rfl : clockRun 1 s = t := by simpa using stepped
    simpa using hs
  next c rest _ => exact exec_canonical c (s := { s with pending := rest }) hs t stepped

end Sys2Proof
end

section
/-! SUPPORT. What the Juggler's events do to the channels, the regulators and core 0's queue of requests: corrected errors,
refreshes, row crossings, patrol scrub and the switches between operating points (R235, R241, R249 to R251, R254 to R257). -/

namespace Sys2Proof.Machine

/-! ### Rows that name a unit -/

/-- A row of a unit that the device has does just its operation in a quiet state. -/
theorem unitRow_at {p : Prop} [Decidable p] {f : State → State} {s t : State} (present : p) (hq : Quiet s) (e : f s = t)
    (hh : holds (f s) = holds s) (pending : t.pending = s.pending) : unitRow (decide p) f s = .next t := by
  rw [decide_eq_true present, unitRow_exact hq e (e ▸ hh) pending]

theorem unitRow_noop {p : Prop} [Decidable p] {f : State → State} {s : State} (present : p) (hq : Quiet s) (e : f s = s) :
    unitRow (decide p) f s = .next s := unitRow_at present hq e (congrArg holds e) rfl

/-! ### Requests to core 0 (R27, R348, R418) -/

theorem jgl_of_units {s t : State} (h : besideUnits t = besideUnits s) : t.jgl = s.jgl := (congrArg State.jgl h :)

@[simp] theorem log_jgl (name : LogName) (args : List Nat) (s : State) : (log name args s).jgl = s.jgl :=
  jgl_of_units (log_besideUnits name args s)

section
variable {cls idx : Nat} {s : State}

theorem unitTransient_other (h : (unitOf s cls idx).state ≠ .online) : unitTransient cls idx s = s := if_neg (by simp [h])

theorem unitLasting_out (h : unitUp (unitOf s cls idx) = false) : unitLasting cls idx s = s := if_neg (by simp [h])

/-- A request that does not wait yet goes to the end of the queue. -/
theorem unitReq_queue {lasting : Bool}
    (free : (s.unitReqs.any fun r => r.cls == cls && r.idx == idx && r.lasting == lasting) = false) :
    (unitReq cls idx lasting s).unitReqs = s.unitReqs ++ [⟨cls, idx, reported cls idx s, lasting⟩] := by
  rw [unitReq, if_neg (by rw [free]; simp)]
  exact (congrArg State.unitReqs (brkLevel_apart _ _ _) :)

/-- A request leaves the state of every unit of its class. -/
@[simp] theorem unitReq_state (lasting : Bool) (k : Nat) :
    (unitOf (unitReq cls idx lasting s) cls k).state = (unitOf s cls k).state := by
  refine ite_keeps (fun u => (unitOf u cls k).state) rfl ?_
  generalize hu : ({ s with unitReqs := s.unitReqs ++ [⟨cls, idx, reported cls idx s, lasting⟩] } : State) = u
  have asked : unitOf s cls k = unitOf u cls k := by rw [← hu]; rfl
  rw [unitOf_of_apart (brkLevel_apart _ _ _), asked]
  by_cases own : k = idx
  · subst own
    have pends : (unitDflt u.genBase cls k).reqPending = false := by unfold unitDflt; (repeat' split) <;> rfl
    rw [unitOf_modUnit _ u fun e => by rw [← e] at pends; simp at pends]
  · rw [unitOf_modUnit_ne _ u own]

@[simp] theorem unitLasting_state (k : Nat) : (unitOf (unitLasting cls idx s) cls k).state = (unitOf s cls k).state :=
  ite_keeps (fun u => (unitOf u cls k).state) (unitReq_state true k) rfl

/-- A transient fault and a lasting one of a unit in service with no request waiting: DEGRADED is asked for first, and the
second request reports the unit as it will be by then. -/
theorem unitLasting_unitTransient_queue (online : (unitOf s cls idx).state = .online)
    (free : (s.unitReqs.any fun r => r.cls == cls && r.idx == idx) = false) :
    (unitLasting cls idx (unitTransient cls idx s)).unitReqs =
      s.unitReqs ++ [⟨cls, idx, .online, false⟩, ⟨cls, idx, .degraded, true⟩] := by
  simp only [List.any_eq_false, Bool.and_eq_true, beq_iff_eq, not_and] at free
  have first : unitTransient cls idx s = unitReq cls idx false s := if_pos (by simp [online])
  have asks : (unitReq cls idx false s).unitReqs = s.unitReqs ++ [⟨cls, idx, .online, false⟩] := by
    rw [unitReq_queue (by simpa using fun r hr h h' => absurd h' (free r hr h)), reported, if_neg (by
      simpa using fun r hr h h' => absurd h' (free r hr h)), online]
  have second : unitLasting cls idx (unitReq cls idx false s) = unitReq cls idx true (unitReq cls idx false s) :=
    if_pos (by simp [unitUp, online])
  have reports : reported cls idx (unitReq cls idx false s) = .degraded := if_pos (by simp [asks])
  rw [first, second, unitReq_queue (by
    rw [asks]; simpa using fun r hr h h' => absurd h' (free r hr h)), asks, reports, List.append_assoc]
  rfl

end

/-! ### Corrected errors (R254) -/

section
variable (c : Nat) (s : State)

/-- A channel whose window has passed JGL_CE_LIMIT, with the flag set. -/
def ceFlagged : State := jglErr 0 (modChan c (fun x => { x with ceOver := true }) s)

theorem ceLimit_eq : ceLimit c s = unitLasting 0 c (unitTransient 0 c (ceFlagged c s)) := rfl

@[simp] theorem ceLimit_jgl : (ceLimit c s).jgl = (ceFlagged c s).jgl :=
  jgl_of_units ((unitLasting_besideUnits 0 c _).trans (unitTransient_besideUnits 0 c _))

@[simp] theorem ceLimit_pending : (ceLimit c s).pending = s.pending :=
  pending_of_units (s := ceFlagged c s) ((unitLasting_besideUnits 0 c _).trans (unitTransient_besideUnits 0 c _))

variable {c s}

theorem ceLimit_out (out : unitUp (unitOf s 0 c) = false) : ceLimit c s = ceFlagged c s := by
  have unit : unitOf (ceFlagged c s) 0 c = unitOf s 0 c := rfl
  have idle : (unitOf s 0 c).state ≠ .online := fun e => by simp [unitUp, e] at out
  rw [ceLimit_eq, unitTransient_other (unit ▸ idle), unitLasting_out (unit ▸ out)]

theorem ceLimit_queue (online : (unitOf s 0 c).state = .online)
    (free : (s.unitReqs.any fun r => r.cls == 0 && r.idx == c) = false) :
    (ceLimit c s).unitReqs = s.unitReqs ++ [⟨0, c, .online, false⟩, ⟨0, c, .degraded, true⟩] :=
  unitLasting_unitTransient_queue (s := ceFlagged c s) online free

end

/-! ### Refresh (R249) -/

section
variable {c bank : Nat} {s : State}

theorem sameBankRefresh_idle : sameBankRefresh c bank true s =
    modChan c (fun x => { x with postponed := spSet 0 x.postponed bank 0 }) s := rfl

theorem sameBankRefresh_postpones (below : spGet 0 (chanOf s c).postponed bank < min (fld s.jgl.ref 2 0) 4) :
    sameBankRefresh c bank false s =
      modChan c (fun x => { x with postponed := spSet 0 x.postponed bank (spGet 0 (chanOf s c).postponed bank + 1) }) s :=
  if_pos (Nat.succ_le_of_lt below)

theorem sameBankRefresh_forced (full : min (fld s.jgl.ref 2 0) 4 ≤ spGet 0 (chanOf s c).postponed bank) :
    sameBankRefresh c bank false s = jglErr 8 s :=
  if_neg (Nat.not_le_of_lt (Nat.lt_succ_of_le full))

end

/-! ### Row crossings (R251) -/

section
variable {c port : Nat} {s : State}

theorem satAdd_one_pos {n a : Nat} (h : 0 < n) : satAdd n a 1 ≠ 0 := by
  have two : 2 ≤ 2 ^ n := Nat.le_self_pow (by omega) 2
  unfold satAdd
  omega

/-- A crossing counted and flagged, before the port's regulator is cut. -/
def rowCounted (c : Nat) (s : State) : State := jglErr 3 (modChan c (fun x => { x with rh := satAdd 32 x.rh 1 }) s)

/-- The regulator of a port with its cut begun. -/
def regCut (port : Nat) (s : State) : State :=
  modReg port (fun r => { r with cut := true, cuts := if r.cut then r.cuts else satAdd 16 r.cuts 1 }) s

/-- A row crossing cuts the port's regulator where it has one, and may note the MT of an entry. -/
theorem rowDisturb_jgl : ∃ logged, (rowDisturb c port s).jgl =
    { (if port < 12 then regCut port (rowCounted c s) else rowCounted c s).jgl with rhLogged := logged } := by
  unfold rowDisturb
  extract_lets s1 s2
  split
  · exact ⟨_, log_jgl ..⟩
  · exact ⟨_, rfl⟩

theorem chanOf_rowDisturb : (chanOf (rowDisturb c port s) c).rh = satAdd 32 (chanOf s c).rh 1 := by
  obtain ⟨logged, e⟩ := rowDisturb_jgl (c := c) (port := port) (s := s)
  have chans : (rowDisturb c port s).jgl.chans = (rowCounted c s).jgl.chans := by
    rw [e]
    split <;> rfl
  have counted := chanOf_modChan c (fun x => { x with rh := satAdd 32 x.rh 1 }) s
    fun e => satAdd_one_pos (n := 32) (by decide) (congrArg Chan.rh e)
  rw [chanOf, chans]
  exact congrArg Chan.rh counted

/-- What a crossing leaves of the Juggler besides the channel and the regulators. -/
theorem rowDisturb_flags : bitOf (rowDisturb c port s).jgl.err 3 = true ∧ (rowDisturb c port s).jgl.mem = s.jgl.mem := by
  obtain ⟨logged, e⟩ := rowDisturb_jgl (c := c) (port := port) (s := s)
  have flagged : bitOf (setBit s.jgl.err 3) 3 = true := bitOf_setBit _ (by decide)
  rw [e]
  split <;> exact ⟨flagged, rfl⟩

theorem regOf_rowDisturb (low : port < 12) : (regOf (rowDisturb c port s) port).cut = true ∧
    (regOf (rowDisturb c port s) port).rate = (regOf s port).rate := by
  obtain ⟨logged, e⟩ := rowDisturb_jgl (c := c) (port := port) (s := s)
  have regs : (rowDisturb c port s).jgl.regs = (regCut port s).jgl.regs := by
    rw [e, if_pos low]
    rfl
  have uncut : (regDflt port).cut = false := by unfold regDflt; (repeat' split) <;> rfl
  have after := spGet_spMod_eq (regDflt port) s.jgl.regs port
    (fun r => { r with cut := true, cuts := if r.cut then r.cuts else satAdd 16 r.cuts 1 })
    fun e => by rw [← e] at uncut; simp at uncut
  have rate := congrArg Regulator.rate after
  rw [regOf, regs]
  exact ⟨congrArg Regulator.cut after, rate⟩

theorem rowDisturb_scanOut (high : 12 ≤ port) : (rowDisturb c port s).jgl.regs = s.jgl.regs := by
  obtain ⟨logged, e⟩ := rowDisturb_jgl (c := c) (port := port) (s := s)
  rw [e, if_neg (by omega)]
  rfl

end

/-! ### Patrol scrub (R255) -/

section
variable {line : Nat} {ecc : Ecc} {s : State}

theorem scrubLine_off (off : fld s.jgl.scrub 7 0 = 0 ∨ copyActive s.jgl = true ∨ s.jgl.state = .switching) :
    scrubLine line ecc s = s := if_pos (by rcases off with off | off | off <;> simp [off])

/-- A line is one line. -/
theorem linesOf_line : (linesOf (64 * line) 64).length = 1 := by
  have one : (64 * line + 64 - 1) / 64 - 64 * line / 64 + 1 = 1 := by omega
  rw [linesOf, if_neg (by decide), one]
  rfl

/-- Scrub that runs only leaves behind what the line's error check does. -/
theorem scrubLine_runs (on : fld s.jgl.scrub 7 0 ≠ 0) (idle : copyActive s.jgl = false) (steady : s.jgl.state ≠ .switching)
    (inside : dramInside s (64 * line) 64 = true) : scrubLine line ecc s = lineEcc portCopy (64 * line) ecc s := by
  rw [scrubLine, if_neg (by simp [on, idle, steady, inside]), dramRead, if_neg (by simp [inside]), linesOf_line]
  rfl

theorem scrubLine_clean : scrubLine line .clean s = s := by
  unfold scrubLine
  split
  · rfl
  next runs =>
    simp only [Bool.or_eq_true, not_or, Bool.not_eq_true', Bool.not_eq_false] at runs
    rw [dramRead, if_neg (by simp [runs.2]), linesOf_line]
    rfl

/-- A corrected read counts at the line's channel, and neither writes nor poisons. -/
theorem dramCorrected_reads (addr : Nat) (s : State) :
    (dramCorrected addr s).jgl.mem = s.jgl.mem ∧ (dramCorrected addr s).jgl.poisoned = s.jgl.poisoned ∧
      (chanOf (dramCorrected addr s) (mapAddr s addr).1).ce = satAdd 32 (chanOf s (mapAddr s addr).1).ce 1 := by
  unfold dramCorrected
  extract_lets c s1
  have counted : (chanOf s1 c).ce = satAdd 32 (chanOf s c).ce 1 := congrArg Chan.ce
    (chanOf_modChan c (fun x => { x with ce := satAdd 32 x.ce 1, ceWindow := x.ceWindow + 1 }) s
      fun e => satAdd_one_pos (n := 32) (by decide) (congrArg Chan.ce e))
  split
  · have flagged := chanOf_modChan c (fun x => { x with ceOver := true }) s1
      fun e => Bool.noConfusion (congrArg Chan.ceOver e : true = false)
    rw [chanOf, ceLimit_jgl]
    exact ⟨rfl, rfl, (congrArg Chan.ce flagged).trans counted⟩
  · exact ⟨rfl, rfl, counted⟩

end

/-! ### Operating points (R256, R257) -/

section
variable {s : State}

theorem switchStart_low (free : noSwitch s.jgl = false) (high : s.jgl.state = .high) (wants : wantsLow s = true) :
    switchStart s = { s with jgl := { s.jgl with state := .switching, switchTo := some .low, selfRefresh := true } } := by
  simp [switchStart, free, high, wants]

theorem switchStart_high (free : noSwitch s.jgl = false) (low : s.jgl.state = .low) (wants : wantsLow s = false) :
    switchStart s = { s with jgl := { s.jgl with state := .switching, switchTo := some .high, selfRefresh := true } } := by
  simp [switchStart, free, low, wants]

theorem switchStart_off (busy : noSwitch s.jgl = true) : switchStart s = s := if_pos busy

theorem switchDone_loads {d : JglState} (switching : s.jgl.state = .switching) (dest : s.jgl.switchTo = some d) :
    switchDone s = { s with jgl := { s.jgl with
      state := d, switchTo := none, selfRefresh := false, fc := satAdd 16 s.jgl.fc 1 } } := by
  simp [switchDone, switching, dest]

theorem switchDone_off (steady : s.jgl.state ≠ .switching) : switchDone s = s := by
  unfold switchDone
  split
  next h _ => exact absurd h steady
  next => rfl

end

end Sys2Proof.Machine
end

section
/-! Dram is kept (R235, R241, R249 to R251, R254 to R257). -/

namespace Sys2Proof

open Machine

section
variable {s : State} (hq : Quiet s) {c : Nat} (hc : c < 24)
include hq hc

theorem jglCeLimit_out (out : unitUp (unitOf s 0 c) = false) : exec (.jglCeLimit c) s = .next (ceFlagged c s) :=
  unitRow_at hc hq (ceLimit_out out) (ceLimit_holds c s) rfl

theorem jglCeLimit_asks (online : (unitOf s 0 c).state = .online)
    (free : (s.unitReqs.any fun r => r.cls == 0 && r.idx == c) = false) :
    ∃ t, exec (.jglCeLimit c) s = .next t ∧ t.jgl = (ceFlagged c s).jgl ∧
      t.unitReqs = s.unitReqs ++ [⟨0, c, .online, false⟩, ⟨0, c, .degraded, true⟩] := by
  exact ⟨_, unitRow_at hc hq rfl (ceLimit_holds c s) (ceLimit_pending c s), ceLimit_jgl c s, ceLimit_queue online free⟩

theorem jglRowDisturb_cuts {port : Nat} (hp : port < 16) : ∃ t, exec (.jglRowDisturb c port) s = .next t ∧
    (chanOf t c).rh = satAdd 32 (chanOf s c).rh 1 ∧ bitOf t.jgl.err 3 = true ∧ t.jgl.mem = s.jgl.mem ∧
    (port < 12 → (regOf t port).cut = true ∧ (regOf t port).rate = (regOf s port).rate) ∧
    (12 ≤ port → t.jgl.regs = s.jgl.regs) := by
  obtain ⟨flag, mem⟩ := rowDisturb_flags (c := c) (port := port) (s := s)
  have e : exec (.jglRowDisturb c port) s = .next { rowDisturb c port s with pending := s.pending } := by
    show unitRow (decide (c < 24 ∧ port < 16)) _ s = _
    rw [decide_eq_true ⟨hc, hp⟩, unitRow_quiet _ s hq (rowDisturb_holds c port s)]
  exact ⟨_, e, chanOf_rowDisturb, flag, mem, regOf_rowDisturb, rowDisturb_scanOut⟩

theorem jglMr4Read_exact {r : Nat} (m : Nat) (v : W16) (hr : r < 4) : exec (.jglMr4Read c r m v) s =
    .next (modChan c (fun x => { x with mult := m % 8, temp := v }) s) :=
  unitRow_at (p := c < 24 ∧ r < 4) ⟨hc, hr⟩ hq rfl (mr4Read_holds c m v s) rfl

end

/-- Settles O50: event by event; of a row crossing and a corrected scrub read, what their entries and requests leave. -/
theorem dramIsKept : Obligations.DramIsKept := by
  unfold Obligations.DramIsKept
  intro s hq
  refine ⟨fun c hc => ⟨jglCeLimit_out hq hc, jglCeLimit_asks hq hc, ?refresh, fun port hp => jglRowDisturb_cuts hq hc hp,
      fun r m v hr => ⟨jglMr4Read_exact hq hc m v hr, ?zq, ?dqs⟩, ?clean, ?stays⟩,
    ?cutEnd, fun line ecc => ⟨?off, ?scrubClean, ?corrected⟩, ?switches, ?held, ?done, ?steady⟩
  case refresh =>
    intro bank owed
    refine ⟨?idle, ?postpones, ?forced, ?limit⟩
    case idle => exact unitRow_at hc hq sameBankRefresh_idle (sameBankRefresh_holds ..) rfl
    case postpones => exact fun below => unitRow_at hc hq (sameBankRefresh_postpones below) (sameBankRefresh_holds ..) rfl
    case forced => exact fun full => unitRow_at hc hq (sameBankRefresh_forced full) (sameBankRefresh_holds ..) rfl
    case limit => exact unitRow_at hc hq rfl (refreshLimit_holds c bank s) rfl
  case zq | dqs => exact unitRow_noop (p := c < 24 ∧ r < 4) ⟨hc, hr⟩ hq rfl
  case clean =>
    intro idle degraded
    exact unitRow_at hc hq ((if_pos idle).trans (cleanWindow_degraded degraded)) (channelClean_holds c s)
      (unitTo_pending ..)
  case stays =>
    intro h
    refine unitRow_noop hc hq ?_
    unfold channelClean
    split
    next idle => exact cleanWindow_other (h.resolve_left (absurd idle))
    next => rfl
  case cutEnd => exact fun port hp => unitRow_at hp hq rfl (regCutEnd_holds port s) rfl
  case off => exact fun off => row_noop _ s hq (scrubLine_off off)
  case scrubClean => exact row_noop _ s hq scrubLine_clean
  case corrected =>
    intro on idle steady inside
    have e : scrubLine line .corrected s = dramCorrected (64 * line) s :=
      scrubLine_runs on idle steady (decide_eq_true inside)
    obtain ⟨mem, poisoned, counted⟩ := dramCorrected_reads (64 * line) s
    rw [← e] at mem poisoned counted
    exact ⟨_, row_quiet _ s hq (scrubLine_holds line .corrected s), mem, poisoned, counted⟩
  case switches =>
    exact fun free => ⟨fun high wants => row_exact hq (switchStart_low free high wants) rfl rfl,
      fun low wants => row_exact hq (switchStart_high free low wants) rfl rfl⟩
  case held => exact fun busy => row_noop _ s hq (switchStart_off busy)
  case done => exact fun d switching dest => row_exact hq (switchDone_loads switching dest) rfl rfl
  case steady => exact fun steady => row_noop _ s hq (switchDone_off steady)

end Sys2Proof
end

section
/-! SUPPORT. The channels in and out of service: retraining, the copies to a spare rank and to a spare channel, folds, re-bases,
and the show store after a new limit (R79, R234, R235, R241 to R248, R253, R421). -/

namespace Sys2Proof.Machine

/-! ### Channels as they read -/

section
variable {s : State}

theorem chanOf_congr {t : State} (h : t.jgl = s.jgl) (c : Nat) : chanOf t c = chanOf s c := by rw [chanOf, chanOf, h]

/-- Where the channels' numbers rise, a channel reads as it was changed to. -/
theorem chanOf_modChan_rises (c : Nat) (f : Chan → Chan) (h : Rises s.jgl.chans) :
    chanOf (modChan c f s) c = f (chanOf s c) := spGet_spSet_rises h

/-- A channel with a copy role reads with it. -/
theorem chanOf_setRole {c r : Nat} (role : r ≠ 0) : (chanOf (setRole c r s) c).role = r :=
  congrArg Chan.role (chanOf_modChan c (fun x => { x with role := r }) s fun e => role (congrArg Chan.role e))

/-- What of a channel is not its role stays when a role changes. -/
theorem chanOf_setRole_keeps {α : Type} (v : Chan → α) (hv : ∀ x r, v { x with role := r } = v x) (c r k : Nat)
    (h : Rises s.jgl.chans) : v (chanOf (setRole c r s) k) = v (chanOf s k) := by
  by_cases own : k = c
  · subst own
    rw [setRole, chanOf_modChan_rises k _ h, hv]
  · rw [setRole, chanOf_modChan_ne c k _ s own]

end

/-! ### The units of channels -/

/-- A channel is OFFLINE after a start without faults, for no fault (R468). -/
theorem unitDflt_channel (gen : W16) (c : Nat) : (unitDflt gen 0 c).state = .offline ∧ (unitDflt gen 0 c).cause = 1 :=
  ⟨rfl, rfl⟩

/-- A channel after a transition into another state than OFFLINE. -/
theorem channel_unitTo {c cause : Nat} {st : UState} (s : State) (h : st ≠ .offline) :
    (unitOf (unitTo 0 c st cause s) 0 c).state = st := (unitOf_unitTo (.inl fun e => h e.symm)).1

/-- A channel that a fault takes out. -/
theorem channel_removed {c : Nat} (s : State) : (unitOf (unitTo 0 c .offline 4 s) 0 c).state = .offline :=
  (unitOf_unitTo (.inr (by simp [unitDflt_channel]))).1

section
variable {cls idx : Nat} {s : State}

/-- The request whose turn it is stands at the front of the queue. -/
theorem lastingTurn_front (turn : lastingTurn s cls idx = true) :
    ∃ r rest, s.unitReqs = r :: rest ∧ r.cls = cls ∧ r.idx = idx := by
  unfold lastingTurn at turn
  split at turn
  next r front =>
    simp only [Bool.and_eq_true, beq_iff_eq] at turn
    obtain ⟨⟨⟨_, sameCls⟩, sameIdx⟩, _⟩ := turn
    unfold frontReq at front
    split at front
    · exact absurd front (by simp)
    next q rest queue =>
      split at front
      · exact absurd front (by simp)
      · obtain rfl : q = r := by simpa using front
        exact ⟨q, rest, queue, sameCls, sameIdx⟩
  · exact absurd turn (by simp)

/-- A request that leaves the queue leaves its unit's state, where that is not the state a unit starts in. -/
theorem unitReqsLeft_state (rest : List UnitReq) (moved : (unitOf s cls idx).state ≠ (unitDflt s.genBase cls idx).state) :
    (unitOf (unitReqsLeft cls idx rest s) cls idx).state = (unitOf s cls idx).state := by
  unfold unitReqsLeft
  extract_lets queues s1 s2
  have own := congrArg UnitEntry.state (unitOf_modUnit (cls := cls) (idx := idx) (fun u => { u with reqPending := false }) s1
    fun e => moved (congrArg UnitEntry.state e :))
  have cleared : (unitOf s2 cls idx).state = (unitOf s cls idx).state :=
    ite_keeps (b := modUnit cls idx _ s1) (fun u => (unitOf u cls idx).state) rfl own
  exact ite_keeps (fun u => (unitOf u cls idx).state) cleared
    ((congrArg UnitEntry.state (unitOf_of_apart (brkLevel_apart _ _ _) cls idx)).trans cleared)

theorem frontPop_state (turn : lastingTurn s cls idx = true)
    (moved : (unitOf s cls idx).state ≠ (unitDflt s.genBase cls idx).state) :
    (unitOf (frontPop s) cls idx).state = (unitOf s cls idx).state := by
  obtain ⟨r, rest, queue, rfl, rfl⟩ := lastingTurn_front turn
  have popped : frontPop s = unitReqsLeft r.cls r.idx (s.unitReqs.drop 1) s := by
    unfold frontPop
    rw [queue]
    simp [unitReqPop, queue]
  rw [popped, unitReqsLeft_state _ moved]

end

/-- A unit in service that a removal takes: DEGRADED where it was ONLINE. -/
def removing (c cause : Nat) (s : State) : State :=
  if (unitOf s 0 c).state == .online then unitTo 0 c .degraded cause s else s

section
variable (c cause : Nat) (s : State)

@[simp] theorem removing_besideUnits : besideUnits (removing c cause s) = besideUnits s :=
  ite_keeps besideUnits (unitTo_besideUnits ..) rfl

@[simp] theorem removing_jgl : (removing c cause s).jgl = s.jgl := jgl_of_units (removing_besideUnits c cause s)

@[simp] theorem removing_unitReqs : (removing c cause s).unitReqs = s.unitReqs :=
  ite_keeps State.unitReqs (congrArg State.unitReqs ((brkEvent_apart _ _).trans (logFrom_apart _ _ _ _)) :) rfl

variable {c s}

theorem removing_degraded (up : unitUp (unitOf s 0 c) = true) : (unitOf (removing c cause s) 0 c).state = .degraded := by
  unfold removing
  split
  · exact channel_unitTo s (by decide)
  next idle => simpa [unitUp, idle] using up

theorem unitOf_removing_ne {k : Nat} (other : k ≠ c) : unitOf (removing c cause s) 0 k = unitOf s 0 k :=
  ite_keeps (unitOf · 0 k) (unitOf_unitTo_ne _ _ s other) rfl

end

theorem unitUp_state {u : UnitEntry} (up : unitUp u = true) : u.state ≠ .offline := fun e => by simp [unitUp, e] at up

/-! ### Retraining (R243) -/

section
variable {c : Nat} {s : State}

theorem retrainStart_notTurn (h : lastingTurn s 0 c = false) : retrainStart c s = s := if_pos (by simp [h])

/-- A retraining that core 0 accepts: the channel is DEGRADED and takes the role of one in training. -/
theorem retrainStart_turn (turn : lastingTurn s 0 c = true) : retrainStart c s = setRole c 1
    { removing c 6 (frontPop s) with
      jgl := { s.jgl with job := some (.retrain c), jobStarted := false } } := by
  have same : (removing c 6 (frontPop s)).jgl = s.jgl := (removing_jgl ..).trans (jgl_of_units (frontPop_besideUnits s))
  rw [retrainStart, if_neg (by simp [turn]), ← same]
  rfl

theorem retrainStart_degrades (turn : lastingTurn s 0 c = true) (up : unitUp (unitOf s 0 c) = true) :
    (unitOf (retrainStart c s) 0 c).state = .degraded := by
  have popped : (unitOf (frontPop s) 0 c).state = (unitOf s 0 c).state := frontPop_state turn (unitUp_state up)
  have still : unitUp (unitOf (frontPop s) 0 c) = true := by rw [← up, unitUp, unitUp, popped]
  rw [retrainStart_turn turn]
  exact removing_degraded 6 still

/-- The job of a retraining ends, and the channel's role with it. -/
def retrained (c : Nat) (s : State) : State := setRole c 0 { s with jgl := { s.jgl with job := none, jobStarted := false } }

theorem retrainDone_passed (l : List Nat) (job : s.jgl.job = some (.retrain c)) :
    retrainDone true l s = log .jglRetrainOk [c] (retrained c s) := by
  simp only [retrainDone, job]
  rfl

theorem retrainDone_failed (l : List Nat) (job : s.jgl.job = some (.retrain c)) : retrainDone false l s =
    journalRecord .jglRetrainFail false [c] (removalStart c l true (jglErr 5 (retrained c s))) := by
  simp only [retrainDone, job]
  rfl

end

/-- A record in the journal changes MRAM and the calibration's flags alone. -/
theorem journalRecord_keeps {α : Type} (v : State → α) (hv : ∀ s m c, v { s with mram := m, cal := c } = v s)
    (name : LogName) (hw : Bool) (args : List Nat) (s : State) : v (journalRecord name hw args s) = v s := by
  unfold journalRecord journalWrite
  extract_lets m
  split
  · exact hv s _ s.cal
  · split
    · rfl
    · exact ite_keeps v (hv s _ _) (hv s _ s.cal)

/-! ### The first action that applies (R243 to R248) -/

/-- A job set up, its copy yet to move a line. -/
def jobSet (j : JglJob) (s : State) : State := { s with jgl := { s.jgl with job := some j, jobStarted := false, evacPtr := 0 } }

section
variable {c : Nat} {s : State}

theorem spareRankOn_congr {s t : State} (h : t.jgl = s.jgl) : spareRankOn t = spareRankOn s := by
  unfold spareRankOn slotChan chanOf
  rw [h]

theorem removalStart_rank {r : Nat} (on : spareRankOn s = true) (free : (chanOf s c).rankSpared = false) :
    removalStart c [r] true s = setRole c 2 (jobSet (.rankCopy c r) (removing c (removalCause s c) s)) := by
  unfold removalStart
  extract_lets s1 go
  have same : s1.jgl = s.jgl := removing_jgl c (removalCause s c) s
  have on' : spareRankOn s1 = true := (spareRankOn_congr same).trans on
  have free' : (chanOf s1 c).rankSpared = false := by rw [← free, chanOf_congr same]
  show (if true && spareRankOn s1 && !(chanOf s1 c).rankSpared then setRole c 2 (go (.rankCopy c r) s1) else _) = _
  rw [if_pos (by rw [on', free']; rfl)]
  rfl

theorem removalStart_channel {d : Nat} (spare : spareChannel (removing c (removalCause s c) s) = some d) :
    removalStart c [] true s =
      setRole d 3 (setRole c 2 (jobSet (.chanCopy c d) (removing c (removalCause s c) s))) := by
  unfold removalStart
  extract_lets s1 go
  have spare' : spareChannel s1 = some d := spare
  rw [spare']
  rfl

theorem removalStart_noSpare (spare : spareChannel (removing c (removalCause s c) s) = none) :
    removalStart c [] true s = if s.jgl.fold.isNone
      then setRole c 2 (jobSet (.foldCopy c) (removing c (removalCause s c) s))
      else jobSet (.rebase c) (removing c (removalCause s c) s) := by
  unfold removalStart
  extract_lets s1 go
  have spare' : spareChannel s1 = none := spare
  have same : s1.jgl = s.jgl := removing_jgl ..
  rw [spare']
  simp only [same]
  rfl

/-- A spare channel that can take a slot is found by the spares' units alone. -/
theorem spareChannel_congr {s t : State} (idle : t.jgl.idleSpares = s.jgl.idleSpares)
    (ready : ∀ k, ((unitOf t 0 k).state == .offline && (unitOf t 0 k).lastTest) =
      ((unitOf s 0 k).state == .offline && (unitOf s 0 k).lastTest)) : spareChannel t = spareChannel s := by
  simp only [spareChannel, idle, ready]

theorem spareChannel_offline {d : Nat} (h : spareChannel s = some d) : (unitOf s 0 d).state = .offline := by
  have found := List.find?_some h
  simp only [Bool.and_eq_true, beq_iff_eq] at found
  exact found.1

/-- A channel in service is no spare that could be taken, before its removal or after. -/
theorem spareChannel_removing (cause : Nat) (up : unitUp (unitOf s 0 c) = true) :
    spareChannel (removing c cause s) = spareChannel s := by
  refine spareChannel_congr (by rw [removing_jgl]) fun k => ?_
  by_cases own : k = c
  · subst own
    have before : ((unitOf s 0 k).state == .offline) = false := beq_eq_false_iff_ne.2 (unitUp_state up)
    rw [removing_degraded cause up, before]
    rfl
  · rw [unitOf_removing_ne cause own]

end

/-! ### A retraining that fails -/

section
variable {c : Nat} {s : State} (wf : Rises s.jgl.chans) (job : s.jgl.job = some (.retrain c))
  (up : unitUp (unitOf s 0 c) = true)

theorem spareRankOn_retrained (c : Nat) (wf : Rises s.jgl.chans) : spareRankOn (jglErr 5 (retrained c s)) = spareRankOn s := by
  have ranks (k : Nat) : (chanOf (jglErr 5 (retrained c s)) k).ranks = (chanOf s k).ranks :=
    chanOf_setRole_keeps (s := { s with jgl := { s.jgl with job := none, jobStarted := false } }) Chan.ranks
      (fun _ _ => rfl) c 0 k wf
  simp only [spareRankOn, ranks]
  rfl

include job

theorem retrainDone_keeps {α : Type} (l : List Nat) (v : State → α)
    (hv : ∀ s m c, v { s with mram := m, cal := c } = v s) :
    v (retrainDone false l s) = v (removalStart c l true (jglErr 5 (retrained c s))) := by
  rw [retrainDone_failed l job, journalRecord_keeps v hv]

include up

theorem retrainDone_rank {r : Nat} (wf : Rises s.jgl.chans) (on : spareRankOn s = true)
    (free : (chanOf s c).rankSpared = false) :
    (retrainDone false [r] s).jgl.job = some (.rankCopy c r) ∧ (chanOf (retrainDone false [r] s) c).role = 2 ∧
      (unitOf (retrainDone false [r] s) 0 c).state = .degraded ∧ bitOf (retrainDone false [r] s).jgl.err 5 = true ∧
      (retrainDone false [r] s).jgl.mem = s.jgl.mem := by
  have free' : (chanOf (jglErr 5 (retrained c s)) c).rankSpared = false :=
    (chanOf_setRole_keeps (s := { s with jgl := { s.jgl with job := none, jobStarted := false } }) Chan.rankSpared
      (fun _ _ => rfl) c 0 c wf).trans free
  have starts := removalStart_rank (r := r) ((spareRankOn_retrained c wf).trans on) free'
  have jgl := retrainDone_keeps job [r] State.jgl fun _ _ _ => rfl
  have unit := retrainDone_keeps job [r] (unitOf · 0 c) fun _ _ _ => rfl
  have chan := retrainDone_keeps job [r] (chanOf · c) fun _ _ _ => rfl
  rw [jgl, unit, chan, starts]
  generalize hf : jglErr 5 (retrained c s) = u
  have err : bitOf u.jgl.err 5 = true := by rw [← hf]; exact bitOf_setBit _ (by decide)
  have mem : u.jgl.mem = s.jgl.mem := by rw [← hf]; rfl
  have service : unitUp (unitOf u 0 c) = true := by rw [← up, ← hf]; rfl
  have same : (removing c (removalCause u c) u).jgl = u.jgl := removing_jgl ..
  refine ⟨rfl, chanOf_setRole (by decide), removing_degraded _ service, ?_, ?_⟩
  · exact (congrArg (fun j : Jgl => bitOf j.err 5) same).trans err
  · exact (congrArg Jgl.mem same).trans mem

theorem retrainDone_channel {d : Nat} (spare : spareChannel s = some d) :
    (retrainDone false [] s).jgl.job = some (.chanCopy c d) ∧ (chanOf (retrainDone false [] s) c).role = 2 ∧
      (chanOf (retrainDone false [] s) d).role = 3 ∧ bitOf (retrainDone false [] s).jgl.err 5 = true := by
  have other : c ≠ d := by
    rintro rfl
    exact unitUp_state up (spareChannel_offline spare)
  have jgl := retrainDone_keeps job [] State.jgl fun _ _ _ => rfl
  have chan (k : Nat) := retrainDone_keeps job [] (chanOf · k) fun _ _ _ => rfl
  rw [jgl, chan, chan]
  generalize hf : jglErr 5 (retrained c s) = u
  have err : bitOf u.jgl.err 5 = true := by rw [← hf]; exact bitOf_setBit _ (by decide)
  have service : unitUp (unitOf u 0 c) = true := by rw [← up, ← hf]; rfl
  have spare' : spareChannel u = some d := by rw [← spare, ← hf]; rfl
  rw [removalStart_channel ((spareChannel_removing _ service).trans spare')]
  refine ⟨rfl, ?_, chanOf_setRole (by decide), ?_⟩
  · rw [setRole, chanOf_modChan_ne d c _ _ other]
    exact chanOf_setRole (by decide)
  · exact (congrArg (fun j : Jgl => bitOf j.err 5) (removing_jgl c (removalCause u c) u)).trans err

theorem retrainDone_noSpare (spare : spareChannel s = none) : bitOf (retrainDone false [] s).jgl.err 5 = true ∧
    (retrainDone false [] s).jgl.job = some (if s.jgl.fold.isNone then .foldCopy c else .rebase c) := by
  have jgl := retrainDone_keeps job [] State.jgl fun _ _ _ => rfl
  rw [jgl]
  generalize hf : jglErr 5 (retrained c s) = u
  have err : bitOf u.jgl.err 5 = true := by rw [← hf]; exact bitOf_setBit _ (by decide)
  have fold : u.jgl.fold = s.jgl.fold := by rw [← hf]; rfl
  have service : unitUp (unitOf u 0 c) = true := by rw [← up, ← hf]; rfl
  have spare' : spareChannel u = none := by rw [← spare, ← hf]; rfl
  have kept := (congrArg (fun j : Jgl => bitOf j.err 5) (removing_jgl c (removalCause u c) u)).trans err
  rw [removalStart_noSpare ((spareChannel_removing _ service).trans spare'), fold]
  split <;> exact ⟨kept, rfl⟩

end

end Sys2Proof.Machine
end

section
/-! SUPPORT. What a copy leaves of the lines that it could not read, and the ends of the copies, the fold and the re-base (R244 to
R248, R253, R424), and the show store after a new limit (R79). -/

namespace Sys2Proof.Machine

/-! ### Lines that a copy could not read (R253) -/

/-- A state but for what the errors of lines that a copy could not read may change. -/
def besideErrors (s : State) : State := besideUnits { s with jgl := { s.jgl with err := 0, ueAddr := 0, chans := [] } }

theorem besideErrors_of_units {s t : State} (h : besideUnits t = besideUnits s) : besideErrors t = besideErrors s :=
  (congrArg (fun u : State => { u with jgl := { u.jgl with err := 0, ueAddr := 0, chans := [] } }) h :)

/-- A channel with one more lasting error counted. -/
def lastingCounted (x : Chan) : Chan := { x with ueLasting := satAdd 16 x.ueLasting 1, ueWindow := x.ueWindow + 1 }

/-- A lasting error counted, recorded and flagged, before its log entry and any request (R253). -/
def errorCounted (addr : Nat) (s : State) : State :=
  let s1 := modChan (mapAddr s addr).1 lastingCounted s
  jglErr 1 { s1 with jgl := { s1.jgl with ueAddr := addr } }

section
variable (port addr : Nat) (s : State)

theorem dramLasting_besideUnits : besideUnits (dramLasting port addr s) = besideUnits (errorCounted addr s) :=
  ite_keeps (s := errorCounted addr s) besideUnits ((unitLasting_besideUnits ..).trans (log_besideUnits ..))
    (log_besideUnits ..)

theorem dramLasting_jgl : (dramLasting port addr s).jgl = (errorCounted addr s).jgl :=
  jgl_of_units (dramLasting_besideUnits port addr s)

theorem dramLasting_besideErrors : besideErrors (dramLasting port addr s) = besideErrors s :=
  besideErrors_of_units (s := errorCounted addr s) (dramLasting_besideUnits port addr s)

theorem dramLasting_flags : bitOf (dramLasting port addr s).jgl.err 1 = true := by
  rw [dramLasting_jgl]
  exact bitOf_setBit _ (by decide)

/-- A lasting error leaves the slot of every channel. -/
theorem dramLasting_slot (k : Nat) : (chanOf (dramLasting port addr s) k).slot = (chanOf s k).slot := by
  rw [chanOf, dramLasting_jgl]
  show (chanOf (modChan (mapAddr s addr).1 lastingCounted s) k).slot = _
  by_cases own : k = (mapAddr s addr).1
  · rw [own, chanOf_modChan _ lastingCounted s
      fun e => satAdd_one_pos (n := 16) (by decide) (congrArg Chan.ueLasting e)]
    rfl
  · rw [chanOf_modChan_ne _ k _ s own]

/-- A lasting error asks core 0 for a retraining at most: it changes the state of no channel. -/
theorem dramLasting_state (k : Nat) : (unitOf (dramLasting port addr s) 0 k).state = (unitOf s 0 k).state := by
  have logged : (unitOf (log .jglUe [port, addr] (errorCounted addr s)) 0 k).state = (unitOf s 0 k).state :=
    congrArg UnitEntry.state (unitOf_of_apart (log_apart ..) 0 k)
  exact ite_keeps (fun u => (unitOf u 0 k).state) ((unitLasting_state k).trans logged) logged

end

/-- The lines that a copy could not read: each an error of its own, each poisoned where it was copied to (R253). -/
def copyLost (lines : List Nat) (s : State) : State := dramPoison lines (copyErrors lines s)

theorem mem_foldl_addOnce (l m : List Nat) (x : Nat) : x ∈ l.foldl addOnce m ↔ x ∈ m ∨ x ∈ l := by
  induction l generalizing m with
  | nil => simp
  | cons n r ih =>
    have once : x ∈ addOnce m n ↔ x ∈ m ∨ x = n := by
      unfold addOnce
      split
      next listed =>
        refine ⟨.inl, fun h => h.elim id fun e => ?_⟩
        rw [e]
        simpa using listed
      next => simp
    rw [List.foldl_cons, ih, once, List.mem_cons, or_assoc]

section
variable (lines : List Nat) (s : State)

theorem copyErrors_besideErrors : besideErrors (copyErrors lines s) = besideErrors s :=
  foldl_keeps besideErrors _ lines s fun _ _ => dramLasting_besideErrors ..

theorem copyErrors_flags (lost : lines ≠ []) : bitOf (copyErrors lines s).jgl.err 1 = true := by
  obtain ⟨before, last, rfl⟩ := List.eq_nil_or_concat lines |>.resolve_left lost
  rw [copyErrors, List.concat_eq_append, List.foldl_append]
  exact dramLasting_flags ..

@[simp] theorem copyLost_slot (k : Nat) : (chanOf (copyLost lines s) k).slot = (chanOf s k).slot :=
  foldl_keeps (fun u => (chanOf u k).slot) _ lines s fun _ _ => dramLasting_slot ..

@[simp] theorem copyLost_state (k : Nat) : (unitOf (copyLost lines s) 0 k).state = (unitOf s 0 k).state :=
  foldl_keeps (fun u => (unitOf u 0 k).state) _ lines s fun _ _ => dramLasting_state ..

/-- The Juggler after a copy that lost lines. -/
theorem copyLost_jgl : (copyLost lines s).jgl = { s.jgl with
    err := (copyLost lines s).jgl.err, ueAddr := (copyLost lines s).jgl.ueAddr, chans := (copyLost lines s).jgl.chans
    poisoned := lines.foldl addOnce s.jgl.poisoned } := by
  have same := congrArg State.jgl (copyErrors_besideErrors lines s)
  exact (congrArg (fun j : Jgl => { j with
    err := (copyErrors lines s).jgl.err, ueAddr := (copyErrors lines s).jgl.ueAddr, chans := (copyErrors lines s).jgl.chans
    poisoned := lines.foldl addOnce j.poisoned }) same :)

@[simp] theorem copyLost_unitSets : (copyLost lines s).unitSets = s.unitSets :=
  (congrArg State.unitSets (copyErrors_besideErrors lines s) :)

@[simp] theorem copyLost_th : (copyLost lines s).th = s.th := (congrArg State.th (copyErrors_besideErrors lines s) :)

@[simp] theorem mem_copyLost (x : Nat) : x ∈ (copyLost lines s).jgl.poisoned ↔ x ∈ s.jgl.poisoned ∨ x ∈ lines := by
  rw [copyLost_jgl]
  exact mem_foldl_addOnce lines s.jgl.poisoned x

theorem copyLost_flags (lost : lines ≠ []) : bitOf (copyLost lines s).jgl.err 1 = true := copyErrors_flags lines s lost

end

/-! ### The end of a job -/

theorem unitSets_of_units {s t : State} (h : besideUnits t = besideUnits s) : t.unitSets = s.unitSets :=
  (congrArg State.unitSets h :)

/-- No UNIT_STATE_SET that waits completes where none waits for the unit. -/
theorem unitSetsDone_none {st : Status} {cls idx : Nat} {s : State} (none_ : setWaits s cls idx = false) :
    unitSetsDone st cls idx s = s := by
  have free : ∀ w ∈ s.unitSets, (w.2.1 == cls && w.2.2.1 == idx) = false := by
    simpa only [setWaits, List.any_eq_false, Bool.not_eq_true] using none_
  have mine : (s.unitSets.filter fun w => w.2.1 == cls && w.2.2.1 == idx) = [] :=
    List.filter_eq_nil_iff.2 fun w hw => by simp [free w hw]
  have rest : (s.unitSets.filter fun w => !(w.2.1 == cls && w.2.2.1 == idx)) = s.unitSets :=
    List.filter_eq_self.2 fun w hw => by simp [free w hw]
  unfold unitSetsDone
  rw [mine, rest]
  rfl

/-- A commitment of the spare map changes MRAM and the calibration's marks alone. -/
theorem commitMap_keeps {α : Type} (v : State → α) (hv : ∀ s m c, v { s with mram := m, cal := c } = v s) (s : State) :
    v (commitMap true s) = v s := hv s _ _

/-- An entry of a collection, read from the list of some entries of those that a test passes. -/
theorem lkp_filterMap {α β : Type} {d : α} {m : Sparse α} {p : α → Bool} {f : α → β} {i : Nat}
    (unlisted : p d = false) (passes : p (spGet d m i) = true) :
    lkp (m.filterMap fun c => if p c.2 then some (c.1, f c.2) else none) i = some (f (spGet d m i)) := by
  induction m with
  | nil => simp [spGet, unlisted] at passes
  | cons c r ih =>
    obtain ⟨k, w⟩ := c
    by_cases here : k = i
    · subst here
      have own : p w = true := by simpa [spGet] using passes
      simp [lkp, own, spGet]
    · have rest : spGet d ((k, w) :: r) i = spGet d r i := by rw [spGet, if_neg here]
      rw [rest] at passes ⊢
      rw [← ih passes]
      cases hp : p w <;> simp [lkp, hp, here]

/-! ### The end of a rank copy (R244) -/

/-- The spare rank serves for a failing one. -/
def rankServes (c r : Nat) (s : State) : State :=
  modChan c (fun x => { x with rankReplaced := r, rankSpared := true, role := 0 }) s

section
variable {c r : Nat} {s : State}

theorem chanOf_rankServes (c r : Nat) (s : State) : chanOf (rankServes c r s) c =
    { chanOf s c with rankReplaced := r, rankSpared := true, role := 0 } :=
  chanOf_modChan c (fun x => { x with rankReplaced := r, rankSpared := true, role := 0 }) s
    fun e => Bool.noConfusion (congrArg Chan.rankSpared e : true = false)

theorem mapNow_rankServes : lkp (mapNow (rankServes c r s)).jglRank c = some r := by
  have reads := chanOf_rankServes c r s
  have spared : (spGet {} (rankServes c r s).jgl.chans c : Chan).rankSpared = true := congrArg Chan.rankSpared reads
  have replaced : (spGet {} (rankServes c r s).jgl.chans c : Chan).rankReplaced = r := congrArg Chan.rankReplaced reads
  exact (lkp_filterMap (p := Chan.rankSpared) (f := Chan.rankReplaced) rfl spared).trans (congrArg some replaced)

theorem rankCopyDone_eq (bad : List Nat) (job : s.jgl.job = some (.rankCopy c r)) :
    rankCopyDone true bad s = unitTo 0 c .online 6 (log .jglRankSpared [c, r]
      (commitMap true (rankServes c r (jobEnd (copyLost bad s))))) := by
  simp only [rankCopyDone, job]
  rfl

/-- After a rank copy: the Juggler as the spare rank serves, and the map committed. -/
theorem rankCopyDone_leaves (bad : List Nat) (job : s.jgl.job = some (.rankCopy c r)) :
    (rankCopyDone true bad s).jgl = (rankServes c r (jobEnd (copyLost bad s))).jgl ∧
      lkp (mapInForce (rankCopyDone true bad s).mram).jglRank c = some r ∧
      (unitOf (rankCopyDone true bad s) 0 c).state = .online := by
  rw [rankCopyDone_eq bad job]
  generalize hu : rankServes c r (jobEnd (copyLost bad s)) = u
  have beside : besideUnits (unitTo 0 c .online 6 (log .jglRankSpared [c, r] (commitMap true u))) =
      besideUnits (commitMap true u) := (unitTo_besideUnits ..).trans (log_besideUnits ..)
  refine ⟨(jgl_of_units beside).trans (commitMap_keeps State.jgl (fun _ _ _ => rfl) u), ?_, channel_unitTo _ (by decide)⟩
  rw [mram_of_units beside, commitMap_inForce, ← hu]
  exact mapNow_rankServes

end

/-! ### The end of a copy to a spare channel (R245) -/

/-- A spare channel takes the slot of another. -/
def channelServes (c d slot : Nat) (s : State) : State :=
  let s1 := setRole c 0 (modChan d (fun x => { x with slot := slot, role := 0 }) s)
  { s1 with jgl := { s1.jgl with
    slotMap := spMod slot s1.jgl.slotMap slot (fun _ => d), idleSpares := s1.jgl.idleSpares.erase d } }

/-- The units after a copy from one channel to another: the spare ONLINE, the other SPARED, each the other's partner. -/
def channelsPaired (c d cause : Nat) (s : State) : State := unitPair 0 c d (unitTo 0 c .spared 6 (unitTo 0 d .online cause s))

section
variable {c d : Nat} {s : State}

theorem unitPair_besideUnits (cls a b : Nat) (s : State) : besideUnits (unitPair cls a b s) = besideUnits s := rfl

theorem channelsPaired_besideUnits (cause : Nat) : besideUnits (channelsPaired c d cause s) = besideUnits s :=
  (unitPair_besideUnits ..).trans ((unitTo_besideUnits ..).trans (unitTo_besideUnits ..))

theorem channelsPaired_reads (cause : Nat) (other : c ≠ d) : (unitOf (channelsPaired c d cause s) 0 d).state = .online ∧
    (unitOf (channelsPaired c d cause s) 0 c).state = .spared ∧
    (unitOf (channelsPaired c d cause s) 0 c).partner = some d := by
  unfold channelsPaired
  generalize hu : unitTo 0 c .spared 6 (unitTo 0 d .online cause s) = u
  have spare : (unitOf u 0 d).state = .online := by
    rw [← hu, unitOf_unitTo_ne _ _ _ other.symm]
    exact channel_unitTo s (by decide)
  have failed : (unitOf u 0 c).state = .spared := by rw [← hu]; exact channel_unitTo _ (by decide)
  have pairs (k p : Nat) (v : State) : unitOf (modUnit 0 k (fun x => { x with partner := some p }) v) 0 k =
      { unitOf v 0 k with partner := some p } :=
    unitOf_modUnit (fun x => { x with partner := some p }) v
      fun e => Option.some_ne_none p (congrArg UnitEntry.partner e)
  have first : unitOf (unitPair 0 c d u) 0 c = { unitOf u 0 c with partner := some d } :=
    (unitOf_modUnit_ne _ _ other).trans (pairs c d u)
  have second : (unitOf (unitPair 0 c d u) 0 d).state = (unitOf u 0 d).state := by
    unfold unitPair
    rw [pairs, unitOf_modUnit_ne _ u other.symm]
  rw [second, first]
  exact ⟨spare, failed, rfl⟩

theorem setWaits_congr {s t : State} (h : t.unitSets = s.unitSets) (cls idx : Nat) :
    setWaits t cls idx = setWaits s cls idx := by rw [setWaits, setWaits, h]

theorem chanCopyDone_eq (bad : List Nat) (job : s.jgl.job = some (.chanCopy c d)) (none_ : setWaits s 0 c = false) :
    chanCopyDone true bad s = commitMap true (channelsPaired c d 6
      (channelServes c d (chanOf s c).slot (jobEnd (copyLost bad s)))) := by
  unfold chanCopyDone
  extract_lets u
  simp -zeta only [job]
  extract_lets slot byHost s1 j s2 s3 s4
  have lost : copyLost bad s = u := rfl
  clear_value u
  have sets : u.unitSets = s.unitSets := by rw [← lost, copyLost_unitSets]
  have waits : setWaits u 0 c = false := (setWaits_congr sets 0 c).trans none_
  have cause : removalCause u c = 6 := if_neg (by rw [waits]; decide)
  have spared : s4 = unitTo 0 c .spared 6 s3 := if_neg (by rw [show byHost = false from waits]; decide)
  have serves : s2 = channelServes c d (chanOf u c).slot (jobEnd u) := rfl
  have paired : unitPair 0 c d s4 = channelsPaired c d 6 (channelServes c d (chanOf u c).slot (jobEnd u)) := by
    rw [spared, channelsPaired, ← serves, ← cause]
  rw [paired, ← copyLost_slot bad s c, lost]
  refine unitSetsDone_none ((setWaits_congr ?_ 0 c).trans none_)
  rw [← sets, commitMap_keeps State.unitSets fun _ _ _ => rfl]
  exact unitSets_of_units (s := channelServes c d (chanOf u c).slot (jobEnd u)) (channelsPaired_besideUnits 6)

/-- After a copy to a spare channel: the Juggler with the slot moved, the map committed, and both units. -/
theorem chanCopyDone_leaves (bad : List Nat) (job : s.jgl.job = some (.chanCopy c d)) (other : c ≠ d)
    (none_ : setWaits s 0 c = false) :
    (chanCopyDone true bad s).jgl = (channelServes c d (chanOf s c).slot (jobEnd (copyLost bad s))).jgl ∧
      (mapInForce (chanCopyDone true bad s).mram).jglSlot = (chanCopyDone true bad s).jgl.slotMap ∧
      (unitOf (chanCopyDone true bad s) 0 d).state = .online ∧ (unitOf (chanCopyDone true bad s) 0 c).state = .spared ∧
      (unitOf (chanCopyDone true bad s) 0 c).partner = some d := by
  rw [chanCopyDone_eq bad job none_]
  generalize channelServes c d (chanOf s c).slot (jobEnd (copyLost bad s)) = u
  have jgl := jgl_of_units (channelsPaired_besideUnits (c := c) (d := d) (s := u) 6)
  obtain ⟨spare, failed, partner⟩ := channelsPaired_reads (s := u) 6 other
  generalize channelsPaired c d 6 u = v at jgl spare failed partner
  have unit (k : Nat) : unitOf (commitMap true v) 0 k = unitOf v 0 k := commitMap_keeps (unitOf · 0 k) (fun _ _ _ => rfl) v
  have kept : (commitMap true v).jgl = v.jgl := commitMap_keeps State.jgl (fun _ _ _ => rfl) v
  rw [unit, unit, kept, commitMap_inForce]
  exact ⟨jgl, rfl, spare, failed, partner⟩

/-- The slot of a channel that has been replaced reads as the spare's (R245). -/
theorem channelServes_slotMap {slot : Nat} (rises : Rises s.jgl.slotMap) :
    spGet slot (channelServes c d slot s).jgl.slotMap slot = d := spGet_spSet_rises rises

end

/-! ### Folds (R246, R247) -/

section
variable {c : Nat} {s : State}

theorem foldStart_eq (job : s.jgl.job = some (.foldCopy c)) (unfolded : s.jgl.fold = none) :
    let top := s.jgl.stripes - (s.jgl.stripes + s.jgl.n - 1) / s.jgl.n
    foldStart c s = { s with jgl := { s.jgl with
      fold := some (chanOf s c).slot, foldTop := top, limit := top * s.jgl.n * 256, evacPtr := 0
      report := some (storeGib (top * s.jgl.n * 256)), lostFrom := some (top * s.jgl.n * 256) } } := by
  unfold foldStart
  simp -zeta only [job]
  exact if_neg (by simp [unfolded])

theorem foldCopyDone_early (lines : List Nat) (job : s.jgl.job = some (.foldCopy c))
    (early : s.jgl.foldAck = false ∨ s.jgl.fold = none) : foldCopyDone lines s = s := by
  unfold foldCopyDone
  simp -zeta only [job]
  refine if_pos ?_
  rcases early with early | early <;> simp [copyRuns, job, early]

/-- Lines newly lost to a fold's copy. -/
def foldFresh (lines : List Nat) (s : State) : List Nat :=
  (lines.filter fun l => foldMoves s.jgl l && !s.jgl.poisoned.contains l).foldl addOnce []

/-- A fold's copy with its poisoned lines flagged and counted. -/
def foldCounted (c : Nat) (lines : List Nat) (s : State) : State :=
  let old := s.jgl.poisoned.filter (foldMoves s.jgl)
  if (foldFresh lines s).isEmpty && old.isEmpty then copyLost (foldFresh lines s) s
  else jglErr 7 (modChan c (fun x => { x with ueLasting := satAdd 16 x.ueLasting old.length })
    (copyLost (foldFresh lines s) s))

/-- The end of a fold's copy. -/
def foldEnded (c : Nat) (s : State) : State := setRole c 0 (jobEnd { s with jgl := { s.jgl with foldAck := false } })

theorem foldCounted_keeps {α : Type} (v : State → α) (lines : List Nat)
    (hv : ∀ u f, v (jglErr 7 (modChan c f u)) = v u) :
    v (foldCounted c lines s) = v (copyLost (foldFresh lines s) s) := by
  unfold foldCounted
  extract_lets old
  split
  · rfl
  · exact hv _ _

theorem foldCopyDone_eq (lines : List Nat) (job : s.jgl.job = some (.foldCopy c)) (acked : s.jgl.foldAck = true)
    (folded : s.jgl.fold.isSome) (none_ : setWaits s 0 c = false) : foldCopyDone lines s =
    log .jglFolded [c] (unitTo 0 c .offline 4 (foldEnded c (foldCounted c lines s))) := by
  have runs : copyRuns s.jgl = true := by simp [copyRuns, job, acked, folded]
  unfold foldCopyDone
  simp -zeta only [job]
  rw [if_neg (by simp [runs])]
  extract_lets fresh old s1 s2 j s3
  have sets : s3.unitSets = s.unitSets := (foldCounted_keeps State.unitSets lines fun _ _ => rfl).trans
    (copyLost_unitSets _ s)
  have ended : s3 = foldEnded c (foldCounted c lines s) := rfl
  clear_value s3
  rw [← ended]
  refine unitSetsDone_none ((setWaits_congr ?_ 0 c).trans none_)
  rw [unitSets_of_units ((log_besideUnits ..).trans (unitTo_besideUnits ..)), sets]

end

end Sys2Proof.Machine
end

section
/-! SUPPORT. What a fold and a re-base leave, and what a new limit leaves of the show store (R79, R242, R246 to R248). -/

namespace Sys2Proof.Machine

/-! ### The end of a fold's copy (R247) -/

section
variable {c : Nat} {lines : List Nat} {s : State}

theorem mem_foldFresh (x : Nat) :
    x ∈ foldFresh lines s ↔ x ∈ lines ∧ foldMoves s.jgl x = true ∧ x ∉ s.jgl.poisoned := by
  simp [foldFresh, mem_foldl_addOnce]

/-- A line that the copy moves, lost to it or poisoned before, is counted and flagged. -/
theorem foldCounted_flags {x : Nat} (moves : foldMoves s.jgl x = true) (lost : x ∈ lines ∨ x ∈ s.jgl.poisoned) :
    bitOf (foldCounted c lines s).jgl.err 7 = true := by
  have marked : ((foldFresh lines s).isEmpty && (s.jgl.poisoned.filter (foldMoves s.jgl)).isEmpty) = false := by
    by_cases old : x ∈ s.jgl.poisoned
    · have listed : x ∈ s.jgl.poisoned.filter (foldMoves s.jgl) := List.mem_filter.2 ⟨old, moves⟩
      rw [List.isEmpty_eq_false_iff.2 (List.ne_nil_of_mem listed), Bool.and_false]
    · have listed : x ∈ foldFresh lines s := (mem_foldFresh x).2 ⟨lost.resolve_right old, moves, old⟩
      rw [List.isEmpty_eq_false_iff.2 (List.ne_nil_of_mem listed), Bool.false_and]
  unfold foldCounted
  extract_lets old
  rw [if_neg (by rw [show ((foldFresh lines s).isEmpty && old.isEmpty) = false from marked]; decide)]
  exact bitOf_setBit _ (by decide)

/-- A line that the copy lost is poisoned. -/
theorem foldCounted_poisons {x : Nat} (moves : foldMoves s.jgl x = true) (lost : x ∈ lines) :
    x ∈ (foldCounted c lines s).jgl.poisoned := by
  have same : (foldCounted c lines s).jgl.poisoned = (copyLost (foldFresh lines s) s).jgl.poisoned :=
    foldCounted_keeps (fun u => u.jgl.poisoned) lines fun _ _ => rfl
  rw [same, mem_copyLost, mem_foldFresh]
  by_cases old : x ∈ s.jgl.poisoned
  · exact .inl old
  · exact .inr ⟨lost, moves, old⟩

/-- What the count leaves of the fold. -/
theorem foldCounted_jgl : (foldCounted c lines s).jgl.job = s.jgl.job ∧ (foldCounted c lines s).jgl.foldTop = s.jgl.foldTop ∧
    (foldCounted c lines s).jgl.mem = s.jgl.mem := by
  have view := foldCounted_keeps (c := c) (s := s) (fun u => (u.jgl.job, u.jgl.foldTop, u.jgl.mem)) lines fun _ _ => rfl
  rw [copyLost_jgl] at view
  simpa only [Prod.mk.injEq] using view

/-- A fold's copy has moved every line below the fold's top when it ends. -/
theorem jobEnd_fold (job : s.jgl.job = some (.foldCopy c)) : (jobEnd s).jgl.evacPtr = s.jgl.foldTop := by
  simp [jobEnd, copyActive, copyTotal, job]

theorem foldEnded_evacPtr (job : s.jgl.job = some (.foldCopy c)) : (foldEnded c s).jgl.evacPtr = s.jgl.foldTop :=
  jobEnd_fold (c := c) (s := { s with jgl := { s.jgl with foldAck := false } }) job

end

/-! ### The interleave built anew (R242, R248) -/

/-- Entries put one after the other, each with its own number as the default: each reads back. -/
theorem spGet_slots {f : Nat → Nat} {p : Nat} {l : List Nat} {m : Sparse Nat} (rises : Rises m)
    (h : spGet p m p = f p ∨ p ∈ l) : spGet p (l.foldl (fun m i => spSet i m i (f i)) m) p = f p := by
  induction l generalizing m with
  | nil => exact h.resolve_right (by simp)
  | cons k r ih =>
    refine ih (spSet_rises rises) ?_
    by_cases here : p = k
    · subst here
      exact .inl (spGet_spSet_rises rises)
    · rcases h with put | listed
      · exact .inl ((spGet_spSet_other _ _ _ _ _ _ here).trans put)
      · exact .inr ((List.mem_cons.1 listed).resolve_left here)

section
variable (chs : List Nat) (z : Nat) (s : State)

/-- The interleave of some channels, before they are told their slots. -/
def mapBuilt : State := { s with jgl := { s.jgl with
  n := chs.length, stripes := z, fold := none, foldTop := z, evacPtr := 0, limit := fullLimit chs.length z
  slotMap := (List.range chs.length).foldl (fun m i => spSet i m i (chs.getD i 0)) [] } }

theorem buildMap_keeps {α : Type} (v : State → α) (hv : ∀ c f u, v (modChan c f u) = v u) :
    v (buildMap chs z s) = v (mapBuilt chs z s) := foldl_keeps v _ _ _ fun _ _ => hv _ _ _

theorem slotChan_mapBuilt {i : Nat} (hi : i < chs.length) : slotChan (mapBuilt chs z s) i = chs.getD i 0 :=
  spGet_slots (f := fun i => chs.getD i 0) List.Pairwise.nil (.inr (List.mem_range.2 hi))

end

/-! ### Re-bases (R248) -/

theorem th_of_units {s t : State} (h : besideUnits t = besideUnits s) : t.th = s.th := (congrArg State.th h :)

/-- A byte of a memory of which a part is kept. -/
theorem memByte_memCut (d : Byte) (m : Mem) (lo hi a : Nat) :
    memByte d (memCut m lo hi) a = if lo ≤ a ∧ a < hi then memByte d m a else d := by
  split
  next inside => exact spGet_filter m (fun k => decide (lo ≤ k ∧ k < hi)) a (decide_eq_true inside)
  next outside =>
    refine spGet_of_not_mem fun c hc here => outside ?_
    rw [← here]
    simpa using (List.mem_filter.1 hc).2

theorem deviceRetime_stopped {s : State} (stopped : s.scn.state = .stopped) : deviceRetime s = s := by
  unfold deviceRetime
  split
  · exact if_pos (by simp [stopped])
  · rfl

theorem rebase_stopped {c : Nat} {s : State} (job : s.jgl.job = some (.rebase c)) (stopped : s.scn.state = .stopped) :
    rebase c s = { s with
      scene := (stagingGivenUp s).scene
      jgl := { s.jgl with
        state := .rebase, jobStarted := true, limit := 2 ^ 33, report := some 0, lostFrom := some (2 ^ 33) } } := by
  have starts : rebaseStart c s = { s with jgl := { s.jgl with
      state := .rebase, jobStarted := true, limit := 2 ^ 33, report := some 0, lostFrom := some (2 ^ 33) } } := by
    simp [rebaseStart, job]
  have passes : rebase c s = deviceRetime (stagingGivenUp (rebaseStart c s)) := by simp [rebase, job]
  rw [passes, deviceRetime_stopped (by rw [starts]; exact stopped), starts]
  rfl

theorem rebaseFinish_running {bad : List Nat} {s : State} (running : s.scn.state ≠ .stopped) : rebaseFinish bad s = s := by
  unfold rebaseFinish
  split
  · exact if_neg (by simp [running])
  · rfl

/-- The lines of the part kept that the save could not read. -/
def rebaseLost (bad : List Nat) : List Nat :=
  bad.filter fun l => decide (rebaseKeeps.1 ≤ 64 * l ∧ 64 * l < rebaseKeeps.2)

/-- The frame-working region is all that a re-base keeps (R248 step 1). -/
def rebaseKept (s : State) : State := { s with jgl := { s.jgl with
  mem := memCut s.jgl.mem rebaseKeeps.1 rebaseKeeps.2, lostFrom := none
  poisoned := s.jgl.poisoned.filter fun l => decide (rebaseKeeps.1 ≤ 64 * l ∧ 64 * l < rebaseKeeps.2) } }

/-- The Juggler in service with `n` channels after a re-base, or in NO_SERVICE (R237, R248). -/
def rebaseService (n : Nat) (s : State) : State :=
  if n < 8 then { s with jgl := { s.jgl with state := .noService } }
  else widthCheck { s with jgl := { s.jgl with
    state := if s.th.restricted then .low else .high, report := some (storeGib s.jgl.limit) } }

theorem rebaseChannels_congr {s t : State} (h : ∀ k, (unitOf t 0 k).state = (unitOf s 0 k).state) (c : Nat) :
    rebaseChannels t c = rebaseChannels s c := by simp only [rebaseChannels, unitUp, h]

section
variable (n : Nat) (s : State)

theorem widthCheck_apart : ∃ w, apart (widthCheck s) = apart { s with jgl := { s.jgl with lowWidth := w } } := by
  unfold widthCheck
  split
  · exact ⟨true, log_apart ..⟩
  · exact ⟨false, rfl⟩

theorem rebaseService_apart : ∃ w r, apart (rebaseService n s) = apart { s with jgl := { s.jgl with
    state := if n < 8 then .noService else if s.th.restricted then .low else .high, lowWidth := w, report := r } } := by
  unfold rebaseService
  split
  · exact ⟨_, _, rfl⟩
  · obtain ⟨w, e⟩ := widthCheck_apart { s with jgl := { s.jgl with
      state := if s.th.restricted then .low else .high, report := some (storeGib s.jgl.limit) } }
    exact ⟨w, _, e⟩

end

section
variable {c : Nat} {bad : List Nat} {s : State} (job : s.jgl.job = some (.rebase c)) (rebasing : s.jgl.state = .rebase)
  (stopped : s.scn.state = .stopped) (none_ : setWaits s 0 c = false)

/-- The state in which the interleave is built anew: what could not be saved is lost, and the channel OFFLINE. -/
def rebaseSaved (c : Nat) (bad : List Nat) (s : State) : State :=
  unitTo 0 c .offline 4 (jobEnd (copyLost (rebaseLost bad) s))

theorem rebaseSaved_jgl : (rebaseSaved c bad s).jgl = (jobEnd (copyLost (rebaseLost bad) s)).jgl :=
  jgl_of_units (unitTo_besideUnits ..)

/-- The Juggler as the interleave is rebuilt, its service not yet resumed. -/
def rebuilt (c : Nat) (bad : List Nat) (s : State) : State :=
  rebaseKept (buildMap (rebaseChannels s c) s.jgl.stripes (rebaseSaved c bad s))

theorem rebuilt_keeps {α : Type} (v : State → α) (hv : ∀ c f u, v (rebaseKept (modChan c f u)) = v (rebaseKept u)) :
    v (rebuilt c bad s) = v (rebaseKept (mapBuilt (rebaseChannels s c) s.jgl.stripes (rebaseSaved c bad s))) :=
  buildMap_keeps _ _ _ (fun u => v (rebaseKept u)) hv

/-- The rebuilding changes the Juggler alone. -/
theorem rebuilt_beside {α : Type} (v : State → α) (hv : ∀ u j, v { u with jgl := j } = v u) :
    v (rebuilt c bad s) = v (rebaseSaved c bad s) :=
  (rebuilt_keeps v fun _ _ u => (hv _ _).trans ((hv u _).trans (hv u _).symm)).trans ((hv _ _).trans (hv _ _))

include job rebasing stopped none_

theorem rebaseDone_eq : rebaseDone bad s = rebaseService (rebaseChannels s c).length (rebuilt c bad s) := by
  unfold rebaseDone
  simp -zeta only [job]
  rw [if_neg (by simp [rebasing, stopped])]
  extract_lets lost u chs s1 s2 j s3 j' s4
  have same : chs = rebaseChannels s c := rebaseChannels_congr (copyLost_state (rebaseLost bad) s) c
  have stripes : s1.jgl.stripes = s.jgl.stripes := by
    rw [show s1.jgl = (jobEnd (copyLost (rebaseLost bad) s)).jgl from rebaseSaved_jgl]
    exact (congrArg Jgl.stripes (copyLost_jgl (rebaseLost bad) s) :)
  have built : s3 = rebuilt c bad s := by
    rw [rebuilt, ← same, ← stripes]
    rfl
  have resumes : s4 = rebaseService chs.length s3 := rfl
  rw [resumes, same, built]
  refine unitSetsDone_none ((setWaits_congr ?_ 0 c).trans none_)
  obtain ⟨_, _, e⟩ := rebaseService_apart (rebaseChannels s c).length (rebuilt c bad s)
  have service : (rebaseService (rebaseChannels s c).length (rebuilt c bad s)).unitSets = (rebuilt c bad s).unitSets :=
    (congrArg State.unitSets e :)
  have saved : (rebaseSaved c bad s).unitSets = (copyLost (rebaseLost bad) s).unitSets :=
    unitSets_of_units (s := jobEnd (copyLost (rebaseLost bad) s)) (unitTo_besideUnits ..)
  rw [service, rebuilt_beside State.unitSets fun _ _ => rfl]
  exact saved.trans (copyLost_unitSets ..)

end

theorem rebaseFinish_stopped {c : Nat} {bad : List Nat} {s : State} (job : s.jgl.job = some (.rebase c))
    (rebasing : s.jgl.state = .rebase) (stopped : s.scn.state = .stopped) (none_ : setWaits s 0 c = false) :
    rebaseFinish bad s = rebaseService (rebaseChannels s c).length (rebuilt c bad (stagingGivenUp s)) := by
  have done : rebaseFinish bad s = rebaseDone bad (stagingGivenUp s) := by simp [rebaseFinish, job, rebasing, stopped]
  rw [done]
  exact rebaseDone_eq (s := stagingGivenUp s) job rebasing stopped none_

/-- What the rebuilding of the interleave leaves in the Juggler. -/
theorem rebuilt_jgl (c : Nat) (bad : List Nat) (s : State) :
    (rebuilt c bad s).jgl.job = none ∧ (rebuilt c bad s).jgl.n = (rebaseChannels s c).length ∧
    (rebuilt c bad s).jgl.fold = none ∧
    (rebuilt c bad s).jgl.limit = (rebaseChannels s c).length * s.jgl.stripes * 256 ∧
    (rebuilt c bad s).jgl.slotMap =
      (List.range (rebaseChannels s c).length).foldl (fun m i => spSet i m i ((rebaseChannels s c).getD i 0)) [] ∧
    (rebuilt c bad s).jgl.mem = memCut s.jgl.mem rebaseKeeps.1 rebaseKeeps.2 ∧
    (rebuilt c bad s).jgl.poisoned = ((rebaseLost bad).foldl addOnce s.jgl.poisoned).filter
      fun l => decide (rebaseKeeps.1 ≤ 64 * l ∧ 64 * l < rebaseKeeps.2) := by
  have view := rebuilt_keeps (c := c) (bad := bad) (s := s)
    (fun u => (u.jgl.job, u.jgl.n, u.jgl.fold, u.jgl.limit, u.jgl.slotMap, u.jgl.mem, u.jgl.poisoned)) fun _ _ _ => rfl
  have saved : (rebaseSaved c bad s).jgl.job = none ∧ (rebaseSaved c bad s).jgl.mem = s.jgl.mem ∧
      (rebaseSaved c bad s).jgl.poisoned = (rebaseLost bad).foldl addOnce s.jgl.poisoned := by
    have lost := copyLost_jgl (rebaseLost bad) s
    rw [rebaseSaved_jgl]
    exact ⟨rfl, (congrArg Jgl.mem lost :), (congrArg Jgl.poisoned lost :)⟩
  obtain ⟨job, mem, poisoned⟩ := saved
  simp only [Prod.mk.injEq] at view
  obtain ⟨job', n, fold, limit, slotMap, mem', poisoned'⟩ := view
  exact ⟨job'.trans job, n, fold, limit, slotMap, mem'.trans (by rw [← mem]; rfl), poisoned'.trans (by rw [← poisoned]; rfl)⟩

theorem rebuilt_units (c : Nat) (bad : List Nat) (s : State) : (unitOf (rebuilt c bad s) 0 c).state = .offline ∧
    (rebuilt c bad s).th = s.th := by
  have removed : (unitOf (rebaseSaved c bad s) 0 c).state = .offline := channel_removed _
  have saved : (rebaseSaved c bad s).th = (copyLost (rebaseLost bad) s).th :=
    th_of_units (s := jobEnd (copyLost (rebaseLost bad) s)) (unitTo_besideUnits ..)
  rw [rebuilt_beside (unitOf · 0 c) fun _ _ => rfl, rebuilt_beside State.th fun _ _ => rfl]
  exact ⟨removed, saved.trans (copyLost_th ..)⟩

/-! ### The show store after a new limit (R79) -/

section
variable {lim n : Nat} {s : State}

theorem slotRelease_storeSize : (slotRelease n s).scene.storeSize = s.scene.storeSize := by
  unfold slotRelease
  extract_lets x
  refine ite_keeps (fun u => (modSlot n (fun _ => {}) u).scene.storeSize) ?_ rfl
  unfold loadRevoke
  split <;> rfl

/-- A slot at a shrink keeps the size of the store. -/
theorem shrinkSlot_storeSize : (shrinkSlot lim n s).scene.storeSize = s.scene.storeSize := by
  unfold shrinkSlot
  extract_lets x off lost
  have logged (name : LogName) (args : List Nat) (f : SceneSlot → SceneSlot) :
      (log name args (modSlot n f s)).scene.storeSize = s.scene.storeSize :=
    (congrArg (fun u => u.scene.storeSize) (log_besideUnits name args (modSlot n f s)) :)
  split
  · rfl
  · split
    · exact logged ..
    · split
      · rfl
      · exact logged ..
    · rfl
    · exact slotRelease_storeSize
    · rfl

/-- A slot that lies below the new limit stays as it is. -/
theorem shrinkSlot_below (below : (slotOf s n).base + (slotOf s n).gib ≤ lim) : shrinkSlot lim n s = s :=
  if_pos (by simp [below])

/-- A READY slot that reaches past the new limit is DEGRADED. -/
theorem shrinkSlot_ready (ready : (slotOf s n).state = .ready) (past : lim < (slotOf s n).base + (slotOf s n).gib) :
    (slotOf (shrinkSlot lim n s) n).state = .degraded := by
  unfold shrinkSlot
  extract_lets x off lost
  have ready' : x.state = .ready := ready
  rw [if_neg (by simpa [ready'] using past), ready']
  have marked := slotOf_modSlot n (fun x => { x with state := .degraded, lost := some lost }) s
    fun e => SlotState.noConfusion (congrArg SceneSlot.state e : SlotState.degraded = .empty)
  have logged : (log .sceneDegraded [n, lost.1, lost.2]
      (modSlot n (fun x => { x with state := .degraded, lost := some lost }) s)).scene =
      (modSlot n (fun x => { x with state := .degraded, lost := some lost }) s).scene :=
    (congrArg State.scene (log_besideUnits ..) :)
  show (slotOf (log _ _ _) n).state = _
  rw [slotOf, logged]
  exact congrArg SceneSlot.state marked

theorem storeShrink_none (none_ : s.jgl.report = none) : storeShrink s = s := by
  unfold storeShrink
  rw [none_]

/-- Core 0 takes a new limit: every slot at the shrink. -/
def storeShrunk (lim : Nat) (s : State) : State :=
  eachNat (shrinkSlot lim) (s.scene.slots.map (·.1)) { s with scene := { s.scene with storeSize := lim } }

theorem storeShrink_some (report : s.jgl.report = some lim) :
    storeShrink s = { storeShrunk lim s with jgl := { (storeShrunk lim s).jgl with report := none } } := by
  unfold storeShrink
  rw [report]
  rfl

theorem storeShrunk_storeSize : (storeShrunk lim s).scene.storeSize = lim :=
  eachNat_keeps (fun u => u.scene.storeSize) _ _ _ fun _ _ => shrinkSlot_storeSize

/-- A store of one READY slot at a shrink. -/
theorem storeShrunk_one {x : SceneSlot} (one : s.scene.slots = [(n, x)]) (ready : x.state = .ready) :
    (lim < x.base + x.gib → (slotOf (storeShrunk lim s) n).state = .degraded) ∧
      (x.base + x.gib ≤ lim → (storeShrunk lim s).scene.slots = s.scene.slots) := by
  have own : slotOf { s with scene := { s.scene with storeSize := lim } } n = x := by simp [slotOf, one, spGet]
  have only : storeShrunk lim s = shrinkSlot lim n { s with scene := { s.scene with storeSize := lim } } := by
    simp [storeShrunk, one, eachNat]
  rw [only]
  exact ⟨fun past => shrinkSlot_ready (by rw [own, ready]) (by rwa [own]),
    fun below => by rw [shrinkSlot_below (by rwa [own])]⟩

end

end Sys2Proof.Machine
end

section
/-! Channels are replaced (R79, R234, R235, R241 to R248, R253, R421). -/

namespace Sys2Proof

open Machine

/-! ### What a row leaves -/

section
variable {f : State → State} {s : State} {P : State → Prop}

/-- A row's answer in a quiet state, by what its operation leaves beside the waiting commands. -/
theorem row_leaves (hq : Quiet s) (hh : holds (f s) = holds s) (h : P (f s))
    (waiting : ∀ u p, P u → P { u with pending := p }) : ∃ t, row f s = .next t ∧ P t :=
  ⟨_, row_quiet f s hq hh, waiting _ _ h⟩

theorem unitRow_leaves {p : Prop} [Decidable p] (present : p) (hq : Quiet s) (hh : holds (f s) = holds s) (h : P (f s))
    (waiting : ∀ u p, P u → P { u with pending := p }) : ∃ t, unitRow (decide p) f s = .next t ∧ P t := by
  rw [decide_eq_true present]
  exact ⟨_, unitRow_quiet f s hq hh, waiting _ _ h⟩

end

section
variable {s : State} (hq : Quiet s)
include hq

/-! ### Retraining (R243) -/

section
variable {c : Nat}

theorem jglRetrain_accepted (hc : c < 24) (turn : lastingTurn s 0 c = true) (up : unitUp (unitOf s 0 c) = true) :
    ∃ t, exec (.jglRetrain c) s = .next t ∧ t.jgl.job = some (.retrain c) ∧ (chanOf t c).role = 1 ∧
      (unitOf t 0 c).state = .degraded ∧ t.unitReqs = s.unitReqs.drop 1 ∧ t.jgl.mem = s.jgl.mem := by
  refine unitRow_leaves hc hq (retrainStart_holds c s) ?_ fun _ _ h => h
  have degraded := retrainStart_degrades turn up
  rw [retrainStart_turn turn] at degraded ⊢
  have queue : (removing c 6 (frontPop s)).unitReqs = s.unitReqs.drop 1 :=
    (removing_unitReqs ..).trans (frontPop_unitReqs s)
  exact ⟨rfl, chanOf_setRole (by decide), degraded, queue, rfl⟩

variable (job : s.jgl.job = some (.retrain c))
include job

theorem jglRetrain_passes (l : List Nat) : exec (.jglRetrainDone true l) s = .next (log .jglRetrainOk [c] (setRole c 0
    { s with jgl := { s.jgl with job := none, jobStarted := false } })) := by
  have e := retrainDone_passed l job
  exact row_exact hq e (e ▸ retrainDone_holds true l s) (log_pending ..)

variable (up : unitUp (unitOf s 0 c) = true)
include up

theorem jglRetrain_failsToRank (wf : spWf {} s.jgl.chans = true) {r : Nat} (on : spareRankOn s = true)
    (free : (chanOf s c).rankSpared = false) : ∃ t, exec (.jglRetrainDone false [r]) s = .next t ∧
      t.jgl.job = some (.rankCopy c r) ∧ (chanOf t c).role = 2 ∧ (unitOf t 0 c).state = .degraded ∧
      bitOf t.jgl.err 5 = true ∧ t.jgl.mem = s.jgl.mem :=
  row_leaves hq (retrainDone_holds false [r] s) (retrainDone_rank job up (rises_of_wf wf) on free) fun _ _ h => h

theorem jglRetrain_failsToChannel {d : Nat} (spare : spareChannel s = some d) :
    ∃ t, exec (.jglRetrainDone false []) s = .next t ∧ t.jgl.job = some (.chanCopy c d) ∧ (chanOf t c).role = 2 ∧
      (chanOf t d).role = 3 ∧ bitOf t.jgl.err 5 = true :=
  row_leaves hq (retrainDone_holds false [] s) (retrainDone_channel job up spare) fun _ _ h => h

theorem jglRetrain_failsToFold (spare : spareChannel s = none) : ∃ t, exec (.jglRetrainDone false []) s = .next t ∧
    bitOf t.jgl.err 5 = true ∧ t.jgl.job = some (if s.jgl.fold.isNone then .foldCopy c else .rebase c) :=
  row_leaves hq (retrainDone_holds false [] s) (retrainDone_noSpare job up spare) fun _ _ h => h

end

/-! ### The ends of the copies (R244, R245, R247, R253) -/

theorem jglRankCopy_ends {c r : Nat} (bad : List Nat) (job : s.jgl.job = some (.rankCopy c r)) :
    ∃ t, exec (.jglRankCopyDone true bad) s = .next t ∧ t.jgl.job = none ∧ (chanOf t c).rankSpared = true ∧
      (chanOf t c).rankReplaced = r ∧ (unitOf t 0 c).state = .online ∧ lkp (mapInForce t.mram).jglRank c = some r ∧
      t.jgl.mem = s.jgl.mem ∧ (∀ l ∈ bad, l ∈ t.jgl.poisoned) ∧ (bad ≠ [] → bitOf t.jgl.err 1 = true) := by
  obtain ⟨jgl, committed, unit⟩ := rankCopyDone_leaves bad job
  have chan : chanOf (rankCopyDone true bad s) c = _ :=
    (chanOf_congr jgl c).trans (chanOf_rankServes c r (jobEnd (copyLost bad s)))
  have mem : (copyLost bad s).jgl.mem = s.jgl.mem := (congrArg Jgl.mem (copyLost_jgl bad s) :)
  refine row_leaves hq (rankCopyDone_holds true bad s) ?_ fun _ _ h => h
  rw [chan, jgl]
  exact ⟨rfl, rfl, rfl, unit, committed, mem, fun l hl => (mem_copyLost bad s l).2 (.inr hl), copyLost_flags bad s⟩

theorem jglChannelCopy_ends {c d : Nat} (bad : List Nat) (job : s.jgl.job = some (.chanCopy c d)) (other : c ≠ d)
    (none_ : setWaits s 0 c = false) (rises : Rises s.jgl.slotMap) :
    ∃ t, exec (.jglChannelCopyDone true bad) s = .next t ∧ t.jgl.job = none ∧ t.jgl.mem = s.jgl.mem ∧
      (∀ l ∈ bad, l ∈ t.jgl.poisoned) ∧ slotChan t (chanOf s c).slot = d ∧ (unitOf t 0 d).state = .online ∧
      (unitOf t 0 c).state = .spared ∧ (unitOf t 0 c).partner = some d ∧
      spGet (chanOf s c).slot (mapInForce t.mram).jglSlot (chanOf s c).slot = d := by
  obtain ⟨jgl, committed, spare, failed, partner⟩ := chanCopyDone_leaves bad job other none_
  have lost := copyLost_jgl bad s
  have mem : (copyLost bad s).jgl.mem = s.jgl.mem := (congrArg Jgl.mem lost :)
  have slots : (copyLost bad s).jgl.slotMap = s.jgl.slotMap := (congrArg Jgl.slotMap lost :)
  have serves := channelServes_slotMap (c := c) (d := d) (s := jobEnd (copyLost bad s)) (slot := (chanOf s c).slot)
    (slots ▸ rises)
  refine row_leaves hq (chanCopyDone_holds true bad s) ?_ fun _ _ h => h
  rw [committed, slotChan, jgl]
  exact ⟨rfl, mem, fun l hl => (mem_copyLost bad s l).2 (.inr hl), serves, spare, failed, partner, serves⟩

theorem jglFold_starts {c : Nat} (hc : c < 24) (job : s.jgl.job = some (.foldCopy c)) (unfolded : s.jgl.fold = none) :
    let top := s.jgl.stripes - (s.jgl.stripes + s.jgl.n - 1) / s.jgl.n
    exec (.jglFold c) s = .next { s with jgl := { s.jgl with
      fold := some (chanOf s c).slot, foldTop := top, limit := top * s.jgl.n * 256, evacPtr := 0
      report := some (storeGib (top * s.jgl.n * 256)), lostFrom := some (top * s.jgl.n * 256) } } :=
  unitRow_at hc hq (foldStart_eq job unfolded) (foldStart_holds c s) rfl

theorem jglFoldCopy_ends {c : Nat} (l : List Nat) (job : s.jgl.job = some (.foldCopy c)) (acked : s.jgl.foldAck = true)
    (folded : s.jgl.fold.isSome) (none_ : setWaits s 0 c = false) : ∃ t, exec (.jglFoldCopyDone l) s = .next t ∧
      t.jgl.job = none ∧ (unitOf t 0 c).state = .offline ∧ t.jgl.foldAck = false ∧ t.jgl.evacPtr = s.jgl.foldTop ∧
      t.jgl.mem = s.jgl.mem ∧ (∀ x ∈ l, foldMoves s.jgl x = true → x ∈ t.jgl.poisoned ∧ bitOf t.jgl.err 7 = true) ∧
      (∀ x ∈ s.jgl.poisoned, foldMoves s.jgl x = true → bitOf t.jgl.err 7 = true) := by
  obtain ⟨job', top, mem⟩ := foldCounted_jgl (c := c) (lines := l) (s := s)
  have moved := foldEnded_evacPtr (s := foldCounted c l s) (job'.trans job)
  refine row_leaves hq (foldCopyDone_holds l s) ?_ fun _ _ h => h
  rw [foldCopyDone_eq l job acked folded none_]
  generalize hu : foldEnded c (foldCounted c l s) = u at moved
  have jgl : (log .jglFolded [c] (unitTo 0 c .offline 4 u)).jgl = u.jgl :=
    (log_jgl ..).trans (jgl_of_units (unitTo_besideUnits ..))
  have unit : unitOf (log .jglFolded [c] (unitTo 0 c .offline 4 u)) 0 c = unitOf (unitTo 0 c .offline 4 u) 0 c :=
    unitOf_of_apart (log_apart ..) 0 c
  rw [jgl, unit]
  refine ⟨?_, channel_removed u, ?_, moved.trans top, ?_, fun x hx moves => ⟨?_, ?_⟩, fun x hx moves => ?_⟩ <;> rw [← hu]
  · rfl
  · rfl
  · exact mem
  · exact foldCounted_poisons moves hx
  · exact foldCounted_flags moves (.inl hx)
  · exact foldCounted_flags moves (.inr hx)

/-! ### Re-bases (R248) -/

theorem jglRebase_ends {c : Nat} (bad : List Nat) (job : s.jgl.job = some (.rebase c)) (rebasing : s.jgl.state = .rebase)
    (stopped : s.scn.state = .stopped) (none_ : setWaits s 0 c = false) :
    ∃ t, exec (.jglRebaseDone bad) s = .next t ∧ t.jgl.job = none ∧ (unitOf t 0 c).state = .offline ∧
      (∀ l ∈ bad, 0x1B8000000 ≤ 64 * l → 64 * l < 0x200000000 → l ∈ t.jgl.poisoned) ∧
      t.jgl.n = (rebaseChannels s c).length ∧ t.jgl.fold = none ∧
      t.jgl.limit = (rebaseChannels s c).length * s.jgl.stripes * 256 ∧
      (∀ i, i < (rebaseChannels s c).length → slotChan t i = (rebaseChannels s c).getD i 0) ∧
      t.jgl.state = (if (rebaseChannels s c).length < 8 then .noService else if s.th.restricted then .low else .high) ∧
      (∀ a, memByte 0 t.jgl.mem a =
        if 0x1B8000000 ≤ a ∧ a < 0x200000000 then memByte 0 s.jgl.mem a else 0) := by
  refine row_leaves hq (rebaseFinish_holds bad s) ?_ fun _ _ h => h
  rw [rebaseFinish_stopped job rebasing stopped none_]
  have built := rebuilt_jgl c bad (stagingGivenUp s)
  have channels : rebaseChannels (stagingGivenUp s) c = rebaseChannels s c := rfl
  obtain ⟨unit, th⟩ := rebuilt_units c bad (stagingGivenUp s)
  rw [channels] at built
  generalize rebuilt c bad (stagingGivenUp s) = u at built unit th
  obtain ⟨job', n, fold, limit, slots, mem, poisoned⟩ := built
  obtain ⟨w, r, e⟩ := rebaseService_apart (rebaseChannels s c).length u
  have jgl := congrArg State.jgl e
  refine ⟨(congrArg Jgl.job jgl).trans job', (congrArg UnitEntry.state (unitOf_of_apart e 0 c)).trans unit,
    fun l hl low high => ?poisoned, (congrArg Jgl.n jgl).trans n, (congrArg Jgl.fold jgl).trans fold,
    (congrArg Jgl.limit jgl).trans limit, fun i hi => ?slot, (congrArg Jgl.state jgl).trans ?state, fun a => ?byte⟩
  case poisoned =>
    have kept := (congrArg Jgl.poisoned jgl).trans poisoned
    rw [show (rebaseService _ u).jgl.poisoned = _ from kept]
    have inside : decide (rebaseKeeps.1 ≤ 64 * l ∧ 64 * l < rebaseKeeps.2) = true := decide_eq_true ⟨low, high⟩
    exact List.mem_filter.2 ⟨(mem_foldl_addOnce ..).2 (.inr (List.mem_filter.2 ⟨hl, inside⟩)), inside⟩
  case slot =>
    rw [slotChan, show (rebaseService _ u).jgl.slotMap = _ from (congrArg Jgl.slotMap jgl).trans slots]
    exact slotChan_mapBuilt (rebaseChannels s c) 0 s hi
  case state => rw [th]; rfl
  case byte =>
    rw [show (rebaseService _ u).jgl.mem = _ from (congrArg Jgl.mem jgl).trans mem]
    exact memByte_memCut ..

/-! ### The show store (R79, R247, R248) -/

theorem storeShrink_takes {lim : Nat} (report : s.jgl.report = some lim) : ∃ t, exec .storeShrink s = .next t ∧
    t.scene.storeSize = lim ∧ t.jgl.report = none ∧ (∀ n x, s.scene.slots = [(n, x)] → x.state = .ready →
      (lim < x.base + x.gib → (slotOf t n).state = .degraded) ∧ (x.base + x.gib ≤ lim → t.scene.slots = s.scene.slots)) := by
  refine row_leaves hq (storeShrink_holds s) ?_ fun _ _ h => h
  rw [storeShrink_some report]
  have size : (storeShrunk lim s).scene.storeSize = lim := storeShrunk_storeSize
  have shrinks (n : Nat) (x : SceneSlot) := storeShrunk_one (lim := lim) (n := n) (x := x) (s := s)
  generalize storeShrunk lim s = u at size shrinks
  exact ⟨size, rfl, shrinks⟩

end

/-- Settles O49: event by event; a copy's end through what the lines that it could not read leave, and a re-base's through
the interleave as it is built anew. -/
theorem channelsAreReplaced : Obligations.ChannelsAreReplaced := by
  unfold Obligations.ChannelsAreReplaced
  intro s hq wf
  refine ⟨fun c hc => ⟨fun h => unitRow_noop hc hq (retrainStart_notTurn h), jglRetrain_accepted hq hc⟩,
    fun c job up => ⟨jglRetrain_passes hq job, fun r => jglRetrain_failsToRank hq job up wf,
      fun d => jglRetrain_failsToChannel hq job up, jglRetrain_failsToFold hq job up⟩,
    fun c r bad job => jglRankCopy_ends hq bad job,
    fun c d bad job other none_ rises => jglChannelCopy_ends hq bad job other none_ rises,
    fun c hc job unfolded => jglFold_starts hq hc job unfolded,
    fun c l job => ⟨fun early => row_noop _ s hq (foldCopyDone_early l job early), jglFoldCopy_ends hq l job⟩,
    fun c hc job stopped => ?rebase, fun bad running => row_noop _ s hq (rebaseFinish_running running),
    fun c bad job rebasing stopped none_ => jglRebase_ends hq bad job rebasing stopped none_,
    fun none_ => row_noop _ s hq (storeShrink_none none_), fun lim report => storeShrink_takes hq report⟩
  case rebase => exact unitRow_at hc hq (rebase_stopped job stopped) (rebase_holds c s) rfl

end Sys2Proof
end

section
/-! SUPPORT. The Scratchpad: how its memory reads after an erasure and a move, an access of one word, and the banks that take a
spare's place (R259, R260, R263 to R266, R327). -/

namespace Sys2Proof.Machine

/-! ### Bytes -/

section
variable {d : Byte} {m n : Mem} {a : Nat}

theorem spGet_append_of_left (h : ∀ c ∈ n, c.1 ≠ a) : spGet d (m ++ n) a = spGet d m a := by
  rw [spGet_append]
  split
  · rfl
  next none_ => rw [spGet_of_not_mem h, spGet_of_not_mem fun c hc here => none_ ⟨c, hc, here⟩]

theorem spGet_append_of_right (h : ∀ c ∈ m, c.1 ≠ a) : spGet d (m ++ n) a = spGet d n a := by
  rw [spGet_append, if_neg fun ⟨c, hc, here⟩ => h c hc here]

/-- Cells moved by one distance read as they did where they came from. -/
theorem spGet_moved {lo b x : Nat} (low : ∀ c ∈ m, lo ≤ c.1) (hx : b ≤ x) :
    spGet d (m.map fun c => (c.1 - lo + b, c.2)) x = spGet d m (x - b + lo) := by
  induction m with
  | nil => rfl
  | cons c r ih =>
    obtain ⟨k, v⟩ := c
    have above : lo ≤ k := low (k, v) (List.mem_cons_self ..)
    have here : k - lo + b = x ↔ k = x - b + lo := by omega
    rw [List.map_cons, spGet, spGet, ih fun c hc => low c (List.mem_cons_of_mem _ hc)]
    simp only [here]

end

/-- A byte of a memory of which a stretch is erased. -/
theorem memByte_spErase (d : Byte) (m : Mem) (lo hi a : Nat) :
    memByte d (spErase m lo hi) a = if lo ≤ a ∧ a < hi then d else memByte d m a := by
  split
  next inside =>
    refine spGet_of_not_mem fun c hc here => ?_
    have kept := List.of_mem_filter hc
    simp only [decide_eq_true_eq] at kept
    omega
  next outside => exact spGet_filter m (fun k => decide (k < lo ∨ hi ≤ k)) a (decide_eq_true (by omega))

/-- A byte of a memory over which a stretch of another is laid. -/
theorem memByte_memMove (d : Byte) (src m : Mem) (a b n x : Nat) : memByte d (memMove src a b n m) x =
    if b ≤ x ∧ x < b + n then memByte d src (x - b + a) else memByte d m x := by
  have below : ∀ c ∈ m.filter (fun c => decide (c.1 < b)), c.1 < b := fun c hc => by simpa using List.of_mem_filter hc
  have above : ∀ c ∈ m.filter (fun c => decide (b + n ≤ c.1)), b + n ≤ c.1 := fun c hc => by
    simpa using List.of_mem_filter hc
  have cut : ∀ c ∈ memCut src a (a + n), a ≤ c.1 ∧ c.1 < a + n := fun c hc => by simpa using List.of_mem_filter hc
  have moved : ∀ c ∈ (memCut src a (a + n)).map (fun c => (c.1 - a + b, c.2)), b ≤ c.1 ∧ c.1 < b + n := fun c hc => by
    obtain ⟨z, hz, rfl⟩ := List.mem_map.1 hc
    have := cut z hz
    dsimp only
    omega
  unfold memMove memByte
  split
  next inside =>
    rw [spGet_append_of_left fun c hc => by have := above c hc; omega,
      spGet_append_of_right fun c hc => by have := below c hc; omega, spGet_moved (fun c hc => (cut c hc).1) inside.1]
    exact spGet_filter src (fun k => decide (a ≤ k ∧ k < a + n)) _ (decide_eq_true (by omega))
  next outside =>
    by_cases low : x < b
    · rw [List.append_assoc, spGet_append_of_left]
      · exact spGet_filter m (fun k => decide (k < b)) x (decide_eq_true low)
      · intro c hc
        rcases List.mem_append.1 hc with hc | hc
        · have := moved c hc
          omega
        · have := above c hc
          omega
    · rw [spGet_append_of_right]
      · exact spGet_filter m (fun k => decide (b + n ≤ k)) x (decide_eq_true (by omega))
      · intro c hc
        rcases List.mem_append.1 hc with hc | hc
        · have := below c hc
          omega
        · have := moved c hc
          omega

/-! ### An access of one word (R263) -/

section
variable {a : Nat} {bs : List Byte} {s : State}

@[simp] theorem spmWrite_nil (a : Nat) (s : State) : spmWrite a [] s = s := rfl

@[simp] theorem spmRead_zero (eccs : List Ecc) (a : Nat) (s : State) : spmRead eccs a 0 s = (([], false), s) := rfl

/-- A write that stays in a word is that word's. -/
theorem spmWrite_word (some_ : bs ≠ []) (one : a % 32 + bs.length ≤ 32) : spmWrite a bs s = wordWrite a bs s := by
  have whole : pieceLen a bs.length = bs.length := by unfold pieceLen; omega
  have ends (n k : Nat) (u : State) : spmWriteN n k [] u = u := by cases n <;> rfl
  show spmWriteN (bs.length / 32 + 1 + 1) a bs s = _
  rw [spmWriteN, if_neg (by simpa using some_), whole]
  simp only [List.take_length, List.drop_length, ends]

/-- A read that stays in a word is that word's. -/
theorem spmRead_word {n : Nat} (some_ : n ≠ 0) (one : a % 32 + n ≤ 32) :
    spmRead [] a n s = wordRead .clean a n s := by
  have whole : pieceLen a n = n := by unfold pieceLen; omega
  have ends (k l : Nat) (u : State) : spmReadN k [] l 0 u = (([], false), u) := by cases k <;> rfl
  show spmReadN (n / 32 + 1 + 1) [] a n s = _
  rw [spmReadN, if_neg some_]
  simp only [whole, Nat.sub_self, List.headD_nil, List.drop_nil, ends, List.append_nil, Bool.or_false]

end

section
variable {a : Nat} {bs : List Byte} {s : State} (beside : 16 ≤ a / bankSize)
include beside

/-- R264: an access of a bank that is OFF does nothing but leave its flag. -/
theorem wordWrite_off (off : (bankOf s (bankPhys s (a / bankSize))).power = .off) :
    wordWrite a bs s = bankOffAccess (bankPhys s (a / bankSize)) s := by
  unfold wordWrite
  extract_lets l b
  rw [if_neg (by simp [l, beside]), if_pos (by simp [b, l, off])]

variable (on : (bankOf s (bankPhys s (a / bankSize))).power = .on)
include on

/-- A write of a word of a bank that is ON reaches the physical bank alone, where no spare mirrors. -/
theorem wordWrite_on (alone : s.spm.bringIn = none) : wordWrite a bs s =
    bankStore (bankPhys s (a / bankSize)) (a % bankSize) bs (bankWake (bankPhys s (a / bankSize)) s) := by
  unfold wordWrite
  extract_lets l b off s1
  rw [if_neg (by simp [l, beside]), if_neg (by simp [b, l, on]), mirrorOf_none (s := s1) alone]

theorem wordRead_on {n : Nat} : wordRead .clean a n s =
    ((memRead 0 s.spm.mem (bankPhys s (a / bankSize) * bankSize + a % bankSize) n, s.spm.poisoned.contains (spmWord s a)),
      bankWake (bankPhys s (a / bankSize)) s) := by
  unfold wordRead
  extract_lets l b off s1
  rw [if_neg (by simp [l, beside]), if_neg (by simp [b, l, on])]
  simp only [eccFailed, Bool.or_false, bankEcc]
  rfl

end

/-- An access of a bank that is OFF: the flag and perhaps an entry, and no byte. -/
theorem bankOffAccess_flags (b : Nat) (s : State) :
    bitOf (bankOffAccess b s).spm.err 2 = true ∧ (bankOffAccess b s).spm.mem = s.spm.mem := by
  unfold bankOffAccess
  extract_lets s1
  have flag : bitOf s1.spm.err 2 = true := bitOf_setBit _ (by decide)
  split
  · exact ⟨flag, rfl⟩
  · rw [log_spm]
    exact ⟨flag, rfl⟩

/-! ### Accesses through BAR2 (R262, R263, R327) -/

section
variable {a n : Nat}

/-- What of a word's access lies in the secure part is all of it, or nothing. -/
theorem secureBytes_inside (secure : a / bankSize < 16) (one : a % 32 + n ≤ 32) : secureBytes a n = n := by
  unfold secureBytes
  unfold bankSize at *
  omega

theorem secureBytes_beside (beside : 16 ≤ a / bankSize) : secureBytes a n = 0 := by
  unfold secureBytes
  unfold bankSize at *
  omega

end

section
variable {a busy : Nat} {bs : List Byte} {s : State} (one : a % 32 + bs.length ≤ 32)
include one

theorem bar2Write_secure (secure : a / bankSize < 16) :
    bar2Access a (.write bs) ⟨[], .clean, busy⟩ s = spmBusy busy s := by
  simp only [bar2Access, secureBytes_inside secure one, List.drop_length, spmWrite_nil]

theorem bar2Read_secure (secure : a / bankSize < 16) :
    bar2Access a (.read bs.length) ⟨[], .clean, busy⟩ s =
      emit (.readData (fill bs.length 0) false) (spmBusy busy s) := by
  simp only [bar2Access, secureBytes_inside secure one, Nat.sub_self, spmRead_zero, List.append_nil]

variable (some_ : bs ≠ [])
include some_

theorem bar2Write_word (beside : 16 ≤ a / bankSize) :
    bar2Access a (.write bs) ⟨[], .clean, busy⟩ s = wordWrite a bs (spmBusy busy s) := by
  simp only [bar2Access, secureBytes_beside beside, Nat.add_zero, List.drop_zero, spmWrite_word some_ one]

theorem bar2Read_word (beside : 16 ≤ a / bankSize) :
    bar2Access a (.read bs.length) ⟨[], .clean, busy⟩ s =
      emit (.readData (wordRead .clean a bs.length (spmBusy busy s)).1.1 (wordRead .clean a bs.length (spmBusy busy s)).1.2)
        (wordRead .clean a bs.length (spmBusy busy s)).2 := by
  have some' : bs.length ≠ 0 := by simpa using some_
  simp only [bar2Access, secureBytes_beside beside, Nat.add_zero, Nat.sub_zero, List.drop_nil, spmRead_word some' one]
  rfl

end

/-! ### Banks replaced (R265, R266) -/

/-- What events, log entries and units leave alone of the Scratchpad. -/
theorem spm_of_units {s t : State} (h : besideUnits t = besideUnits s) : t.spm = s.spm := (congrArg State.spm h :)

/-- A byte after a bank's content is lost. -/
theorem memByte_bankLose (b : Nat) (s : State) (a : Nat) : memByte 0 (bankLose b s).spm.mem a =
    if b * bankSize ≤ a ∧ a < (b + 1) * bankSize then 0 else memByte 0 s.spm.mem a := memByte_spErase ..

/-- A byte after a bank's content is copied to another. -/
theorem memByte_bankCopy (b c : Nat) (s : State) (a : Nat) : memByte 0 (bankCopy b c s).spm.mem a =
    if c * bankSize ≤ a ∧ a < (c + 1) * bankSize then memByte 0 s.spm.mem (a - c * bankSize + b * bankSize)
    else memByte 0 s.spm.mem a := by
  rw [Nat.succ_mul]
  exact memByte_memMove ..

section
variable {b sp : Nat} {s : State}

/-- R265: the spare that is brought in is powered ON, and reads 0. -/
theorem bankBringIn_reads (byHost : Bool) : (bankBringIn b sp byHost s).spm.bringIn = some (b, sp, false, byHost) ∧
    (bankBringIn b sp byHost s).unitReqs = s.unitReqs ∧
    (∀ a, memByte 0 (bankBringIn b sp byHost s).spm.mem a =
      if sp * bankSize ≤ a ∧ a < (sp + 1) * bankSize then 0 else memByte 0 s.spm.mem a) ∧
    (512 ≤ sp → (bankOf (bankBringIn b sp byHost s) sp).power = .on) := by
  refine ⟨rfl, rfl, memByte_bankLose sp s, fun spare => ?_⟩
  have on := bankOf_modBank (s := bankLose sp s) (b := sp) (fun x => { x with power := .on, req := 0, zeroing := false })
    fun e => by
      have power := (bankDflt_power e).1
      have default := congrArg Bank.req e
      simp [bankDflt, Nat.not_lt.2 spare] at default
  exact congrArg Bank.power on

theorem bankSpare_notTurn (h : lastingTurn s 1 b = false) : bankSpare b s = s := if_pos (by simp [h])

theorem bankSpare_bringsIn (turn : lastingTurn s 1 b = true) (spare : spareBank (frontPop s) = some sp) :
    bankSpare b s = bankBringIn b sp false (frontPop s) := by
  unfold bankSpare
  simp only [turn, spare]
  rfl

/-- R265: without a spare the bank stays in service, DEGRADED. -/
theorem bankSpare_none (turn : lastingTurn s 1 b = true) (none_ : spareBank (frontPop s) = none) : bankSpare b s =
    if (unitOf (spmErr 4 (frontPop s)) 1 b).state == .online then unitTo 1 b .degraded 11 (spmErr 4 (frontPop s))
    else spmErr 4 (frontPop s) := by
  unfold bankSpare
  simp only [turn, none_]
  rfl

end

/-- No bank is DEGRADED after a start without faults. -/
theorem unitDflt_bank (gen : W16) (b : Nat) : (unitDflt gen 1 b).state ≠ .degraded := by
  show UnitEntry.state (if b < 512 then _ else _) ≠ _
  split <;> simp

theorem bank_degraded (b cause : Nat) (s : State) : (unitOf (unitTo 1 b .degraded cause s) 1 b).state = .degraded :=
  (unitOf_unitTo (.inl (unitDflt_bank _ b))).1

/-- R265: a bank in service for which no spare is left is DEGRADED, keeps its content and its place, and is flagged. -/
theorem bankSpare_degrades {b : Nat} {s : State} (turn : lastingTurn s 1 b = true) (none_ : spareBank (frontPop s) = none)
    (up : unitUp (unitOf (frontPop s) 1 b) = true) : bitOf (bankSpare b s).spm.err 4 = true ∧
      (unitOf (bankSpare b s) 1 b).state = .degraded ∧ (bankSpare b s).spm.mem = s.spm.mem ∧
      (bankSpare b s).spm.map = s.spm.map := by
  have popped : (frontPop s).spm = s.spm := spm_of_units (frontPop_besideUnits s)
  have kept : (bankSpare b s).spm = (spmErr 4 (frontPop s)).spm := by
    rw [bankSpare_none turn none_]
    exact ite_keeps State.spm (spm_of_units (unitTo_besideUnits ..)) rfl
  refine ⟨?flag, ?state, ?mem, ?map⟩
  case flag => rw [kept]; exact bitOf_setBit _ (by decide)
  case state =>
    rw [bankSpare_none turn none_]
    split
    · exact bank_degraded ..
    next other =>
      have still : unitUp (unitOf (spmErr 4 (frontPop s)) 1 b) = true := up
      simpa [unitUp, other] using still
  case mem => rw [kept]; exact (congrArg Spm.mem popped :)
  case map => rw [kept]; exact (congrArg Spm.map popped :)

/-! ### The end of a copy (R265, R266) -/

/-- A state but for what the errors of words that a copy could not read may change. -/
def besideWordErrors (s : State) : State := besideUnits { s with spm := { s.spm with err := 0, banks := [] } }

/-- The words that a copy could not read, each an error of its own (R260). -/
def wordErrors (b : Nat) (words : List Nat) (s : State) : State := words.foldl (fun s w => bankEcc b w .lasting s) s

section
variable (b w : Nat) (words : List Nat) (s : State)

/-- A lasting error of a word: what it changes beside units and events is its count and its flag. -/
theorem bankLasting_besideUnits : besideUnits (bankEcc b w .lasting s) =
    besideUnits (spmErr 1 (modBank b (fun x => { x with ueLasting := satAdd 16 x.ueLasting 1 }) s)) :=
  (unitLasting_besideUnits ..).trans (log_besideUnits ..)

theorem bankLasting_besideWordErrors : besideWordErrors (bankEcc b w .lasting s) = besideWordErrors s :=
  (congrArg (fun u : State => { u with spm := { u.spm with err := 0, banks := [] } }) (bankLasting_besideUnits b w s) :)

theorem bankLasting_flags : bitOf (bankEcc b w .lasting s).spm.err 1 = true := by
  rw [spm_of_units (bankLasting_besideUnits b w s)]
  exact bitOf_setBit _ (by decide)

theorem wordErrors_besideWordErrors : besideWordErrors (wordErrors b words s) = besideWordErrors s :=
  foldl_keeps besideWordErrors _ words s fun _ _ => bankLasting_besideWordErrors ..

@[simp] theorem wordErrors_mem : (wordErrors b words s).spm.mem = s.spm.mem :=
  (congrArg (fun u : State => u.spm.mem) (wordErrors_besideWordErrors b words s) :)

theorem wordErrors_flags {words : List Nat} (lost : words ≠ []) : bitOf (wordErrors b words s).spm.err 1 = true := by
  obtain ⟨before, last, rfl⟩ := List.eq_nil_or_concat words |>.resolve_left lost
  rw [wordErrors, List.concat_eq_append, List.foldl_append]
  exact bankLasting_flags ..

end

/-- The spare as the copy to it ends: wiped in the place of a bank of the secure part, else with the bank's content, and the
words that could not be read poisoned. -/
def spareFilled (b sp : Nat) (bad : List Nat) (s : State) : State :=
  let words := bad.filter (· < 16384)
  if bankSecure s b then bankLose sp (wordErrors b words s)
  else wordsPoison (words.map (sp * 16384 + ·)) (bankCopy b sp (wordErrors b words s))

theorem bankCopyDone_none {bad : List Nat} {s : State} (none_ : s.spm.bringIn = none) : bankCopyDone bad s = s := by
  unfold bankCopyDone
  rw [none_]

section
variable {b sp : Nat} {x f : Bool} {bad : List Nat} {s : State}

theorem bankCopyDone_some (bringIn : s.spm.bringIn = some (b, sp, x, f)) : bankCopyDone bad s =
    { spareFilled b sp bad s with spm := { (spareFilled b sp bad s).spm with bringIn := some (b, sp, true, f) } } := by
  unfold bankCopyDone
  rw [bringIn]
  rfl

theorem spareFilled_clean : spareFilled b sp [] s = { s with spm := (spareFilled b sp [] s).spm } := by
  unfold spareFilled
  dsimp only
  split <;> rfl

/-- R260, R265: a word that could not be read is poisoned where it was copied to, and flagged. -/
theorem spareFilled_poisons {w : Nat} (lost : w ∈ bad) (low : w < 16384) (plain : bankSecure s b = false) :
    sp * 16384 + w ∈ (spareFilled b sp bad s).spm.poisoned ∧ bitOf (spareFilled b sp bad s).spm.err 1 = true := by
  have listed : w ∈ bad.filter (· < 16384) := List.mem_filter.2 ⟨lost, decide_eq_true low⟩
  rw [spareFilled, if_neg (by simp [plain])]
  refine ⟨(mem_foldl_addOnce ..).2 (.inr (List.mem_map.2 ⟨w, listed, rfl⟩)), ?_⟩
  exact wordErrors_flags b s (List.ne_nil_of_mem listed)

theorem memByte_spareFilled (a : Nat) : memByte 0 (spareFilled b sp bad s).spm.mem a =
    if sp * bankSize ≤ a ∧ a < (sp + 1) * bankSize then
      (if bankSecure s b then 0 else memByte 0 s.spm.mem (a - sp * bankSize + b * bankSize))
    else memByte 0 s.spm.mem a := by
  unfold spareFilled
  dsimp only
  split
  · rw [memByte_bankLose, wordErrors_mem]
  · exact (memByte_bankCopy ..).trans (by rw [wordErrors_mem])

end

end Sys2Proof.Machine
end

section
/-! Banks are served: BAR2, spares, copies (R259, R260, R263 to R266, R327). -/

namespace Sys2Proof

open Machine

section
variable {s : State} (hq : Quiet s)
include hq

/-! ### Accesses through BAR2 (R263, R327) -/

section
variable {a busy : Nat} {bs : List Byte} (port : Port) (one : a % 32 + bs.length ≤ 32)
include one

theorem bar2_secure (secure : a / bankSize < 16) :
    exec (.bar2Access port a (.write bs) [] busy) s =
        .next { s with spm := { s.spm with busyCount := satAdd 32 s.spm.busyCount busy } } ∧
      exec (.bar2Access port a (.read bs.length) [] busy) s = .next { s with
        spm := { s.spm with busyCount := satAdd 32 s.spm.busyCount busy }
        out := .readData (fill bs.length 0) false :: s.out } :=
  ⟨row_exact hq (bar2Write_secure one secure) rfl rfl, row_exact hq (bar2Read_secure one secure) rfl rfl⟩

variable (some_ : bs ≠ []) (beside : 16 ≤ a / bankSize)
include some_ beside

theorem bar2_on (on : (bankOf s (bankPhys s (a / bankSize))).power = .on) (alone : s.spm.bringIn = none) :
    (∃ t, exec (.bar2Access port a (.write bs) [] busy) s = .next t ∧
      t.spm.mem = memWrite 0 s.spm.mem (bankPhys s (a / bankSize) * bankSize + a % bankSize) bs ∧
      (bs.length ≠ 32 → t.spm.poisoned = s.spm.poisoned) ∧ t = { s with spm := t.spm }) ∧
    ∃ t, exec (.bar2Access port a (.read bs.length) [] busy) s = .next t ∧ t.spm.mem = s.spm.mem ∧
      t = { s with
        spm := t.spm
        out := .readData (memRead 0 s.spm.mem (bankPhys s (a / bankSize) * bankSize + a % bankSize) bs.length)
          (s.spm.poisoned.contains (bankPhys s (a / bankSize) * 16384 + a % bankSize / 32)) :: s.out } := by
  have write := (bar2Write_word (busy := busy) one some_ beside).trans (wordWrite_on (s := spmBusy busy s) beside on alone)
  have read := bar2Read_word (s := s) (busy := busy) one some_ beside
  rw [wordRead_on (s := spmBusy busy s) beside on] at read
  refine ⟨⟨_, row_exact hq write rfl rfl, rfl, fun part => if_neg part, rfl⟩, ⟨_, row_exact hq read rfl rfl, rfl, rfl⟩⟩

theorem bar2_off (off : (bankOf s (bankPhys s (a / bankSize))).power = .off) :
    ∃ t, exec (.bar2Access port a (.write bs) [] busy) s = .next t ∧ bitOf t.spm.err 2 = true ∧ t.spm.mem = s.spm.mem := by
  have write := (bar2Write_word (busy := busy) one some_ beside).trans (wordWrite_off (s := spmBusy busy s) beside off)
  refine row_leaves hq (by rw [write]; simp) ?_ fun _ _ h => h
  rw [write]
  exact bankOffAccess_flags _ _

end

/-! ### Banks replaced (R260, R264, R265) -/

section
variable {b : Nat} (hb : b < 544)
include hb

theorem spmCeLimit_asks (up : unitUp (unitOf s 1 b) = true)
    (free : (s.unitReqs.any fun r => r.cls == 1 && r.idx == b) = false) :
    ∃ t, exec (.spmCeLimit b) s = .next t ∧ t.spm = s.spm ∧
      t.unitReqs = s.unitReqs ++ [⟨1, b, (unitOf s 1 b).state, true⟩] := by
  refine unitRow_leaves hb hq (spmCeLimit_holds b s) ⟨spm_of_units (unitLasting_besideUnits ..), ?_⟩ fun _ _ h => h
  have unasked (lasting : Bool) : (s.unitReqs.any fun r => r.cls == 1 && r.idx == b && r.lasting == lasting) = false := by
    simp only [List.any_eq_false, Bool.and_eq_true, beq_iff_eq, not_and] at free ⊢
    exact fun r hr h => absurd h.2 (free r hr h.1)
  have reports : reported 1 b s = (unitOf s 1 b).state := if_neg (by
    simp only [List.any_eq_false, Bool.and_eq_true, beq_iff_eq, not_and] at free
    simpa using fun r hr h h' => absurd h' (free r hr h))
  rw [spmCeLimit, unitLasting, if_pos up, unitReq_queue (unasked true), reports]

theorem spmBankSpare_bringsIn {sp : Nat} (turn : lastingTurn s 1 b = true) (spare : spareBank (frontPop s) = some sp) :
    ∃ t, exec (.spmBankSpare b) s = .next t ∧ t.spm.bringIn = some (b, sp, false, false) ∧
      t.unitReqs = s.unitReqs.drop 1 ∧
      (∀ a, memByte 0 t.spm.mem a =
        if sp * bankSize ≤ a ∧ a < (sp + 1) * bankSize then 0 else memByte 0 s.spm.mem a) ∧
      (512 ≤ sp → (bankOf t sp).power = .on) := by
  refine unitRow_leaves hb hq (bankSpare_holds b s) ?_ fun _ _ h => h
  obtain ⟨bringIn, reqs, mem, power⟩ := bankBringIn_reads (b := b) (sp := sp) (s := frontPop s) false
  rw [bankSpare_bringsIn turn spare]
  exact ⟨bringIn, reqs.trans (frontPop_unitReqs s),
    fun a => by rw [mem, spm_of_units (frontPop_besideUnits s)], power⟩

theorem spmBankSpare_degrades (turn : lastingTurn s 1 b = true) (none_ : spareBank (frontPop s) = none)
    (up : unitUp (unitOf (frontPop s) 1 b) = true) : ∃ t, exec (.spmBankSpare b) s = .next t ∧
      bitOf t.spm.err 4 = true ∧ (unitOf t 1 b).state = .degraded ∧ t.spm.mem = s.spm.mem ∧ t.spm.map = s.spm.map :=
  unitRow_leaves hb hq (bankSpare_holds b s) (bankSpare_degrades turn none_ up) fun _ _ h => h

end

theorem spmBankCopy_ends {b sp : Nat} {x f : Bool} (bad : List Nat) (bringIn : s.spm.bringIn = some (b, sp, x, f)) :
    ∃ t, exec (.spmBankCopyDone bad) s = .next t ∧
      t.spm.bringIn = some (b, sp, true, f) ∧ (bad = [] → t = { s with spm := t.spm }) ∧
      (∀ w ∈ bad, w < 16384 → bankSecure s b = false → sp * 16384 + w ∈ t.spm.poisoned ∧ bitOf t.spm.err 1 = true) ∧
      (∀ a, memByte 0 t.spm.mem a = if sp * bankSize ≤ a ∧ a < (sp + 1) * bankSize then
          (if bankSecure s b then 0 else memByte 0 s.spm.mem (a - sp * bankSize + b * bankSize))
        else memByte 0 s.spm.mem a) := by
  refine ⟨_, row_quiet _ s hq (bankCopyDone_holds bad s), ?_⟩
  rw [bankCopyDone_some bringIn]
  refine ⟨rfl, ?_, fun w lost low plain => spareFilled_poisons lost low plain, memByte_spareFilled⟩
  rintro rfl
  rw [spareFilled_clean]

end

/-- Settles O51: an access of a word by the bank behind it, a sparing request at its turn by whether a spare is left, and the
end of a copy by whether the bank serves the secure part. -/
theorem banksAreServed : Obligations.BanksAreServed := by
  unfold Obligations.BanksAreServed
  intro s hq
  refine ⟨fun port a bs busy some_ one => ⟨bar2_secure hq port one, bar2_on hq port one some_, bar2_off hq port one some_⟩,
    fun b hb => ⟨?zeroed, ?out, spmCeLimit_asks hq hb, ?early, fun sp => spmBankSpare_bringsIn hq hb,
      spmBankSpare_degrades hq hb, ?clean, ?stays⟩, ?idle, fun bad b sp x f => spmBankCopy_ends hq bad⟩
  case zeroed => exact unitRow_at hb hq rfl (bankZeroed_holds b s) rfl
  case out => exact fun out => unitRow_noop hb hq (unitLasting_out out)
  case early => exact fun early => unitRow_noop hb hq (bankSpare_notTurn early)
  case clean => exact fun degraded => unitRow_at hb hq (cleanWindow_degraded degraded) (bankClean_holds b s) (unitTo_pending ..)
  case stays => exact fun other => unitRow_noop hb hq (cleanWindow_other other)
  case idle => exact fun bad none_ => row_noop _ s hq (bankCopyDone_none none_)

end Sys2Proof
end

section
/-! SUPPORT. The wipe of the Scratchpad's secure part, what tamper adds to it, and LREFCLK (R266, R402, R451, R455). -/

namespace Sys2Proof.Machine

/-! ### The wipe begins (R266) -/

/-- The banks behind some logical ones lose their content. -/
def banksLost (l : List Nat) (s : State) : State := eachNat (fun n s => bankLose (bankPhys s n) s) l s

/-- The Scratchpad as a wipe of some cause runs. -/
def wiping (cause : Nat) (p : Spm) : Spm :=
  { p with wipeActive := true, wipePassed := false, wipeCause := cause, wipeRetry := [] }

theorem wiping_mem (cause : Nat) (p : Spm) : (wiping cause p).mem = p.mem := rfl

theorem wipeStart_spm (cause : Nat) (s : State) :
    (wipeStart cause s).spm = wiping cause (banksLost (List.range 16) s).spm := by
  unfold wipeStart banksLost
  generalize eachNat _ (List.range 16) s = u
  rfl

/-- A byte that is 0, or lies in a bank of the list, is 0 once the list's banks are lost. -/
theorem memByte_banksLost {l : List Nat} {s : State} {x : Nat} (h : memByte 0 s.spm.mem x = 0 ∨
      ∃ n ∈ l, bankPhys s n * bankSize ≤ x ∧ x < (bankPhys s n + 1) * bankSize) :
    memByte 0 (banksLost l s).spm.mem x = 0 := by
  induction l generalizing s with
  | nil => exact h.resolve_right (by simp)
  | cons n r ih =>
    refine ih (s := bankLose (bankPhys s n) s) ?_
    rw [memByte_bankLose]
    rcases h with zero | ⟨k, hk, inside⟩
    · exact .inl (by split <;> [rfl; exact zero])
    · rcases List.mem_cons.1 hk with rfl | hk
      · exact .inl (if_pos inside)
      · exact .inr ⟨k, hk, inside⟩

/-- R266: every byte of the secure part reads 0 as its wipe begins. -/
theorem memByte_wipeStart (cause : Nat) {s : State} {l a : Nat} (hl : l < 16) (ha : a < bankSize) :
    memByte 0 (wipeStart cause s).spm.mem (bankPhys s l * bankSize + a) = 0 := by
  rw [wipeStart_spm, wiping_mem]
  exact memByte_banksLost (.inr ⟨l, List.mem_range.2 hl, by rw [Nat.succ_mul]; omega⟩)

/-- A wipe changes the Scratchpad alone. -/
theorem wipeStart_keeps {α : Type} (v : State → α) (hv : ∀ s p, v { s with spm := p } = v s) (cause : Nat) (s : State) :
    v (wipeStart cause s) = v s := by
  have lost : v (banksLost (List.range 16) s) = v s := eachNat_keeps v _ _ s fun _ _ => hv _ _
  unfold wipeStart
  rw [hv]
  exact lost

/-- What a wipe leaves of the Scratchpad comes from the Scratchpad alone. -/
theorem wipeStart_congr (cause : Nat) {s t : State} (h : s.spm = t.spm) : (wipeStart cause s).spm = (wipeStart cause t).spm := by
  have lost (l : List Nat) {u v : State} (h : u.spm = v.spm) : (banksLost l u).spm = (banksLost l v).spm := by
    induction l generalizing u v with
    | nil => exact h
    | cons n r ih =>
      exact ih (u := bankLose (bankPhys u n) u) (v := bankLose (bankPhys v n) v) (by simp only [bankLose, bankPhys, h])
  rw [wipeStart_spm, wipeStart_spm, lost _ h]

/-! ### A wipe ends (R266) -/

theorem wipeDone_idle {failed : List Nat} {s : State} (idle : s.spm.wipeActive = false) : wipeDone failed s = s :=
  if_pos (by simp [idle])

/-- A wipe that has ended, before its entry in the log. -/
def wipeEnded (passed : Bool) (s : State) : State := { s with spm := { s.spm with
  wipeActive := false, wipeRetry := [], wipePassed := passed, wipes := satAdd 16 s.spm.wipes 1 } }

section
variable {failed : List Nat} {s : State} (active : s.spm.wipeActive = true)
include active

theorem wipeDone_passes : wipeDone [] s = log .spmWipe [s.spm.wipeCause, 1] (wipeEnded true s) := by
  unfold wipeDone
  simp [active]
  rfl

theorem wipeDone_again (lost : failed ≠ []) (first : s.spm.wipeRetry = []) :
    wipeDone failed s = { s with spm := { s.spm with wipeRetry := failed } } := by
  unfold wipeDone
  simp [active, lost, first]

/-- The banks that have failed twice. -/
def failedTwice (failed : List Nat) (s : State) : List Nat :=
  failed.filter fun l => decide (l < 16) && s.spm.wipeRetry.contains l

theorem wipeDone_fails {l : Nat} (second : l ∈ failed) (first : l ∈ s.spm.wipeRetry) (hl : l < 16) :
    wipeDone failed s = log .spmWipe [s.spm.wipeCause, 0]
      (spmErr 3 (eachNat wipeBankFail (failedTwice failed s) (wipeEnded false s))) := by
  have twice : l ∈ failedTwice failed s := List.mem_filter.2 ⟨second, by simp [hl, first]⟩
  have some_ : (failedTwice failed s).isEmpty = false := List.isEmpty_eq_false_iff.2 (List.ne_nil_of_mem twice)
  have again : s.spm.wipeRetry.isEmpty = false := List.isEmpty_eq_false_iff.2 (List.ne_nil_of_mem first)
  unfold wipeDone
  extract_lets p bad passed s1 s2
  have failed_ : passed = false := some_
  rw [if_neg (by simp [active]), if_neg (by simp [again])]
  simp only [s2, s1, failed_]
  rfl

end

/-! ### Banks that fail twice (R266) -/

/-- A state but for what the failure of banks changes. -/
def besideBanks (s : State) : State := besideUnits { s with spm := { s.spm with banks := [], mem := [], poisoned := [] } }

section
variable {l : Nat} {s : State}

theorem wipeBankFail_besideUnits : besideUnits (wipeBankFail l s) =
    besideUnits (modBank (bankPhys s l) (fun x => { x with power := .off }) (bankLose (bankPhys s l) s)) :=
  unitLasting_besideUnits ..

theorem besideBanks_of_units {t : State} (h : besideUnits t = besideUnits s) : besideBanks t = besideBanks s :=
  (congrArg (fun u : State => { u with spm := { u.spm with banks := [], mem := [], poisoned := [] } }) h :)

theorem wipeBankFail_besideBanks : besideBanks (wipeBankFail l s) = besideBanks s :=
  (besideBanks_of_units wipeBankFail_besideUnits).trans rfl

theorem bankPhys_of_banks {t : State} (h : besideBanks t = besideBanks s) (n : Nat) : bankPhys t n = bankPhys s n :=
  (congrArg (fun u : State => bankPhys u n) h :)

theorem bankOf_modBank_ne {b c : Nat} (f : Bank → Bank) (s : State) (other : c ≠ b) :
    bankOf (modBank b f s) c = bankOf s c := spGet_spSet_other _ _ _ _ _ _ other

variable {b : Nat} (data : b < 512)
include data

/-- A bank of data that fails is OFF, and one that is OFF stays so. -/
theorem wipeBankFail_off (h : (bankOf s b).power = .off ∨ bankPhys s l = b) :
    (bankOf (wipeBankFail l s) b).power = .off := by
  have units := spm_of_units (wipeBankFail_besideUnits (l := l) (s := s))
  have same : bankOf (wipeBankFail l s) b =
      bankOf (modBank (bankPhys s l) (fun x => { x with power := .off }) (bankLose (bankPhys s l) s)) b := by
    rw [bankOf, units, bankOf]
  rw [same]
  by_cases own : bankPhys s l = b
  · rw [own, bankOf_modBank]
    intro e
    have on := congrArg Bank.power e
    simp [bankDflt, data] at on
  · rw [bankOf_modBank_ne _ _ (Ne.symm own)]
    exact h.resolve_right own

theorem banksFailed_off {bad : List Nat} (h : (bankOf s b).power = .off ∨ ∃ l ∈ bad, bankPhys s l = b) :
    (bankOf (eachNat wipeBankFail bad s) b).power = .off := by
  induction bad generalizing s with
  | nil => exact h.resolve_right (by simp)
  | cons n r ih =>
    refine ih ?_
    rcases h with off | ⟨l, hl, own⟩
    · exact .inl (wipeBankFail_off data (.inl off))
    · rcases List.mem_cons.1 hl with rfl | hl
      · exact .inl (wipeBankFail_off data (.inr own))
      · exact .inr ⟨l, hl, (bankPhys_of_banks wipeBankFail_besideBanks l).trans own⟩

end

/-- What the second failure of a bank leaves of a wipe: it has failed, the flag is set, and a bank of data is OFF. -/
theorem wipeDone_failed {failed : List Nat} {l : Nat} {s : State} (active : s.spm.wipeActive = true) (second : l ∈ failed)
    (first : l ∈ s.spm.wipeRetry) (hl : l < 16) : (wipeDone failed s).spm.wipeActive = false ∧
      (wipeDone failed s).spm.wipePassed = false ∧ bitOf (wipeDone failed s).spm.err 3 = true ∧
      (bankPhys s l < 512 → (bankOf (wipeDone failed s) (bankPhys s l)).power = .off) := by
  have logged := log_spm .spmWipe [s.spm.wipeCause, 0]
    (spmErr 3 (eachNat wipeBankFail (failedTwice failed s) (wipeEnded false s)))
  have banks := eachNat_keeps besideBanks wipeBankFail (failedTwice failed s) (wipeEnded false s)
    fun _ _ => wipeBankFail_besideBanks
  rw [wipeDone_fails active second first hl, logged, bankOf, logged]
  refine ⟨(congrArg (fun u : State => u.spm.wipeActive) banks :), (congrArg (fun u : State => u.spm.wipePassed) banks :),
    bitOf_setBit _ (by decide), fun data => ?_⟩
  exact banksFailed_off (s := wipeEnded false s) data
    (.inr ⟨l, List.mem_filter.2 ⟨second, by simp [hl, first]⟩, rfl⟩)

/-! ### What tamper adds (R402, R415) -/

/-- A record in the journal is no matter of the Scratchpad and of the Ringmaster. -/
theorem tamperNote_reads (s : State) : (tamperNote s).spm = s.spm ∧ (tamperNote s).rm =
    { s.rm with tamperSeen := true, tamperWipes := satAdd 8 s.rm.tamperWipes 1 } :=
  ⟨journalRecord_keeps State.spm (fun _ _ _ => rfl) .., journalRecord_keeps State.rm (fun _ _ _ => rfl) ..⟩

/-- An update session ends; the Ringmaster, the Scratchpad and the link key are no matter of it. -/
theorem sessionAbort_reads (s : State) : (sessionAbort s).fw.session = .idle ∧ (sessionAbort s).rm = s.rm ∧
    (sessionAbort s).spm = s.spm ∧ (sessionAbort s).trz.key = s.trz.key := by
  unfold sessionAbort
  split
  next idle => exact ⟨by simpa using idle, rfl, rfl, rfl⟩
  next =>
    extract_lets s1 s2
    have emptied : (s1.rm, s1.spm, s1.trz.key) = (s.rm, s.spm, s.trz.key) :=
      ite_keeps (fun u : State => (u.rm, u.spm, u.trz.key)) (by unfold modFwSlot; split <;> rfl) rfl
    have ended : (s2.rm, s2.spm, s2.trz.key) = (s1.rm, s1.spm, s1.trz.key) := by
      simp only [s2]
      split
      next h _ => exact (congrArg (fun u : State => (u.rm, u.spm, u.trz.key)) (complete_apart (opFor h s1) h .aborted 0 s1) :)
      next => rfl
    have both := ended.trans emptied
    simp only [Prod.mk.injEq] at both
    exact ⟨rfl, both⟩

/-- What the mesh leaves of the blocks that tamper changes. -/
theorem blocks_of_besideMesh {s t : State} (h : besideMesh t = besideMesh s) :
    t.rm = s.rm ∧ t.spm = s.spm ∧ t.fw = s.fw ∧ t.trz.key = s.trz.key :=
  ⟨(congrArg State.rm h :), (congrArg State.spm h :), (congrArg State.fw h :), (congrArg (fun u : State => u.trz.key) h :)⟩

/-- R402: the link key is destroyed, and the update session ends. -/
theorem secureLost_reads (s : State) : (secureLost s).trz.key = none ∧ (secureLost s).fw.session = .idle ∧
    (secureLost s).rm = s.rm ∧ (secureLost s).spm = s.spm := by
  have ports := eachNat_keeps besideMesh (fun p => modMesh p fun m => { m with session := none }) (List.range 6)
    (sessionAbort { s with trz := { s.trz with key := none } }) fun _ _ => modMesh_besideMesh ..
  obtain ⟨session, rm, spm, key⟩ := sessionAbort_reads { s with trz := { s.trz with key := none } }
  obtain ⟨rm', spm', fw', key'⟩ := blocks_of_besideMesh ports
  exact ⟨key'.trans key, (congrArg Fw.session fw').trans session, rm'.trans rm, spm'.trans spm⟩

theorem secureMesh_besideMesh (s : State) : besideMesh (secureMesh s) = besideMesh s :=
  eachNat_keeps besideMesh _ _ s fun p u => ite_keeps besideMesh (meshAuth_goes p u).beside rfl

theorem tamperAssert_latched {s : State} (por : s.rm.stage = .por) : tamperAssert s =
    { s with rm := { s.rm with tamperNow := true, tamperLatch := true } } := if_pos (by simp [por])

/-- R266, R402: TAMPER_N out of reset is carried out at once. -/
theorem tamperAssert_wipes {s : State} (out : s.rm.stage ≠ .por) :
    (tamperAssert s).rm = { s.rm with
      tamperNow := true, tamperSeen := true, tamperWipes := satAdd 8 s.rm.tamperWipes 1 } ∧
    (tamperAssert s).trz.key = none ∧ (tamperAssert s).fw.session = .idle ∧
    (tamperAssert s).spm = (wipeStart 1 s).spm := by
  have e : tamperAssert s = secureMesh (secureLost (tamperNote (wipeStart 1 { s with rm := { s.rm with tamperNow := true } }))) :=
    if_neg (by simpa using out)
  rw [e]
  obtain ⟨w, hw⟩ : ∃ w, w = wipeStart 1 { s with rm := { s.rm with tamperNow := true } } := ⟨_, rfl⟩
  rw [← hw]
  have wiped : w.rm = { s.rm with tamperNow := true } := by
    rw [hw, wipeStart_keeps State.rm fun _ _ => rfl]
  have lost : w.spm = (wipeStart 1 s).spm := hw ▸ wipeStart_congr 1 rfl
  obtain ⟨spm, rm⟩ := tamperNote_reads w
  obtain ⟨key, session, rm', spm'⟩ := secureLost_reads (tamperNote w)
  have mesh := secureMesh_besideMesh (secureLost (tamperNote w))
  have ringmaster := rm'.trans rm
  rw [wiped] at ringmaster
  obtain ⟨rm_, spm_, fw_, key_⟩ := blocks_of_besideMesh mesh
  exact ⟨rm_.trans ringmaster, key_.trans key, (congrArg Fw.session fw_).trans session,
    spm_.trans (spm'.trans (spm.trans lost))⟩

/-! ### LREFCLK (R455) -/

theorem lrefLost_gone {s : State} (gone : s.rm.lref = false) : lrefLost s = s := if_pos (by simp [gone])

theorem lrefReturn_present {s : State} (present : s.rm.lref = true) : lrefReturn s = s := if_pos present

theorem jgl_of_apart {s t : State} (h : apart s = apart t) : s.jgl = t.jgl := (congrArg State.jgl h :)

theorem rm_of_units {s t : State} (h : besideUnits t = besideUnits s) : t.rm = s.rm := (congrArg State.rm h :)

/-- DRAM in self-refresh. -/
def selfRefreshed (s : State) : State := { s with jgl := { s.jgl with selfRefresh := true } }

theorem meshRetrain_untouched (p : Nat) (s : State) : apart (meshRetrain p s) = apart s := by
  unfold meshRetrain
  split
  · exact (meshTrain_apart ..).trans (modMesh_apart ..)
  · exact (meshTrain_apart ..).trans (modMesh_apart ..)
  · rfl

section
variable {s : State} (present : s.rm.lref = true)
include present

theorem lrefLost_por (por : s.rm.stage = .por) : lrefLost s = { s with rm := { s.rm with lref := false } } := by
  unfold lrefLost
  rw [if_neg (by simp [present])]
  simp only [por]

theorem lrefLost_start (start : s.rm.stage = .rom ∨ s.rm.stage = .load ∨ s.rm.stage = .train) :
    lrefLost s = log .clkLrefAbsent [] { s with rm := { s.rm with lref := false } } := by
  unfold lrefLost
  rw [if_neg (by simp [present])]
  rcases start with e | e | e <;> simp only [e]

theorem lrefLost_running (ready : s.rm.stage = .ready) : lrefLost s = log .clkLrefLost [] (eachNat meshRetrain (List.range 6)
    (selfRefreshed (fastPowerDown { s with rm := { s.rm with lref := false } }))) := by
  unfold lrefLost
  rw [if_neg (by simp [present])]
  simp only [ready]
  rfl

/-- R455: LREFCLK lost while the device runs brings DRAM into self-refresh. -/
theorem lrefLost_ready (ready : s.rm.stage = .ready) :
    (lrefLost s).rm.lref = false ∧ (lrefLost s).jgl.selfRefresh = true := by
  rw [lrefLost_running present ready]
  have down : (fastPowerDown { s with rm := { s.rm with lref := false } }).rm = { s.rm with lref := false } :=
    fastPowerDown_rm _
  generalize fastPowerDown { s with rm := { s.rm with lref := false } } = u at down
  have ports := (log_apart .clkLrefLost [] (eachNat meshRetrain (List.range 6) (selfRefreshed u))).trans
    (eachNat_keeps apart meshRetrain (List.range 6) (selfRefreshed u) fun _ _ => meshRetrain_untouched ..)
  rw [rm_of_apart ports, jgl_of_apart ports]
  exact ⟨(congrArg Rm.lref down).trans rfl, rfl⟩

end

section
variable {s : State} (gone : s.rm.lref = false)
include gone

theorem lrefReturn_awake (awake : s.jgl.selfRefresh = false) : lrefReturn s = { s with rm := { s.rm with lref := true } } := by
  unfold lrefReturn
  simp [gone, awake]

/-- R455: the return of LREFCLK takes DRAM out of self-refresh. -/
theorem lrefReturn_wakes (asleep : s.jgl.selfRefresh = true) (steady : s.jgl.state ≠ .switching) :
    (lrefReturn s).rm.lref = true ∧ (lrefReturn s).jgl.selfRefresh = false := by
  unfold lrefReturn
  extract_lets r s1 j s2 s3
  rw [if_neg (by simp [gone]), if_neg (by simp [s1, asleep])]
  have units : besideUnits s3 = besideUnits s2 :=
    eachNat_keeps besideUnits _ _ s2 fun _ _ => ite_keeps besideUnits (unitLasting_besideUnits ..) rfl
  have present : s3.rm.lref = true := by rw [rm_of_units units]
  have awake : s3.jgl.selfRefresh = false := by
    rw [jgl_of_units units]
    exact beq_eq_false_iff_ne.2 steady
  clear_value s3
  split
  · exact ⟨present, awake⟩
  · exact ⟨present, awake⟩

end

end Sys2Proof.Machine
end

section
/-! Tamper, the ends of a wipe, and LREFCLK (R266, R402, R451, R455). -/

namespace Sys2Proof

open Machine

section
variable {s : State} (hq : Quiet s)
include hq

theorem tamper_wipes (out : s.rm.stage ≠ .por) : ∃ t, exec .tamperAssert s = .next t ∧ t.rm.tamperNow = true ∧
    t.rm.tamperSeen = true ∧ t.rm.tamperWipes = satAdd 8 s.rm.tamperWipes 1 ∧ t.trz.key = none ∧ t.fw.session = .idle ∧
    t.spm.wipeActive = true ∧ t.spm.wipeCause = 1 ∧ t.spm.wipePassed = false ∧
    (∀ l a, l < 16 → a < bankSize → memByte 0 t.spm.mem (bankPhys s l * bankSize + a) = 0) := by
  refine row_leaves hq (tamperAssert_holds s) ?_ fun _ _ h => h
  obtain ⟨rm, key, session, spm⟩ := tamperAssert_wipes out
  rw [rm, spm]
  refine ⟨rfl, rfl, rfl, key, session, ?active, ?cause, ?passed, fun l a hl ha => memByte_wipeStart 1 hl ha⟩
  case active | cause | passed => rw [wipeStart_spm, wiping]

theorem wipe_passes (active : s.spm.wipeActive = true) : exec (.secureWipeDone []) s =
    .next (log .spmWipe [s.spm.wipeCause, 1] { s with spm := { s.spm with
      wipeActive := false, wipeRetry := [], wipePassed := true, wipes := satAdd 16 s.spm.wipes 1 } }) :=
  row_exact hq (wipeDone_passes active) (log_holds ..) (log_pending ..)

theorem wipe_fails {failed : List Nat} {l : Nat} (second : l ∈ failed) (first : l ∈ s.spm.wipeRetry) (hl : l < 16)
    (active : s.spm.wipeActive = true) : ∃ t, exec (.secureWipeDone failed) s = .next t ∧
      t.spm.wipeActive = false ∧ t.spm.wipePassed = false ∧ bitOf t.spm.err 3 = true ∧
      (bankPhys s l < 512 → (bankOf t (bankPhys s l)).power = .off) :=
  row_leaves hq (wipeDone_holds failed s) (wipeDone_failed active second first hl) fun _ _ h => h

theorem lref_leaves (present : s.rm.lref = true) :
    (s.rm.stage = .por → exec .clkLrefLost s = .next { s with rm := { s.rm with lref := false } }) ∧
    ((s.rm.stage = .rom ∨ s.rm.stage = .load ∨ s.rm.stage = .train) → exec .clkLrefLost s =
      .next (log .clkLrefAbsent [] { s with rm := { s.rm with lref := false } })) ∧
    (s.rm.stage = .ready → ∃ t, exec .clkLrefLost s = .next t ∧ t.rm.lref = false ∧ t.jgl.selfRefresh = true) ∧
    exec .clkLrefReturn s = .next s :=
  ⟨fun por => row_exact hq (lrefLost_por present por) rfl rfl,
    fun start => row_exact hq (lrefLost_start present start) (log_holds ..) (log_pending ..),
    fun ready => row_leaves hq (lrefLost_holds s) (lrefLost_ready present ready) fun _ _ h => h,
    row_noop _ s hq (lrefReturn_present present)⟩

theorem lref_returns (gone : s.rm.lref = false) : exec .clkLrefLost s = .next s ∧
    (s.jgl.selfRefresh = false → exec .clkLrefReturn s = .next { s with rm := { s.rm with lref := true } }) ∧
    (s.jgl.selfRefresh = true → s.jgl.state ≠ .switching → ∃ t, exec .clkLrefReturn s = .next t ∧
      t.rm.lref = true ∧ t.jgl.selfRefresh = false) :=
  ⟨row_noop _ s hq (lrefLost_gone gone), fun awake => row_exact hq (lrefReturn_awake gone awake) rfl rfl,
    fun asleep steady => row_leaves hq (lrefReturn_holds s) (lrefReturn_wakes gone asleep steady) fun _ _ h => h⟩

end

/-- Settles O41: TAMPER_N by the stage, the end of a wipe by what has failed before, LREFCLK by the stage and by DRAM's
self-refresh. -/
theorem tamperAndClock : Obligations.TamperAndClock := by
  unfold Obligations.TamperAndClock
  intro s hq
  exact ⟨fun por => row_exact hq (tamperAssert_latched por) rfl rfl, tamper_wipes hq,
    fun failed idle => row_noop _ s hq (wipeDone_idle idle), wipe_passes hq,
    fun failed lost active first => row_exact hq (wipeDone_again active lost first) rfl rfl,
    fun failed l => wipe_fails hq, lref_leaves hq, lref_returns hq⟩

end Sys2Proof
end

section
/-! SUPPORT. POR and ROM: the boot counted, a latched tamper carried out, and the slot that runs (R266, R393, R396, R399,
R400). -/

namespace Sys2Proof.Machine

/-! ### A wipe from its start to its end (R266) -/

/-- A state but for the Scratchpad and what events and units change. -/
def besideSpm (s : State) : State := besideUnits { s with spm := {} }

theorem besideSpm_of_units {s t : State} (h : besideUnits t = besideUnits s) : besideSpm t = besideSpm s :=
  (congrArg (fun u : State => { u with spm := {} }) h :)

theorem besideSpm_of_banks {s t : State} (h : besideBanks t = besideBanks s) : besideSpm t = besideSpm s :=
  (congrArg (fun u : State => { u with spm := {} }) h :)

theorem rm_of_besideSpm {s t : State} (h : besideSpm t = besideSpm s) : t.rm = s.rm := (congrArg State.rm h :)

/-- What a wipe's end leaves alone. -/
theorem wipeDone_besideSpm (failed : List Nat) (s : State) : besideSpm (wipeDone failed s) = besideSpm s := by
  unfold wipeDone
  extract_lets p bad passed s1 s2
  refine ite_keeps besideSpm rfl (ite_keeps besideSpm rfl ?_)
  have failures : besideSpm (eachNat wipeBankFail bad s1) = besideSpm s1 :=
    eachNat_keeps besideSpm _ _ _ fun _ _ => besideSpm_of_banks wipeBankFail_besideBanks
  have ended : besideSpm s2 = besideSpm s1 := ite_keeps besideSpm rfl failures
  exact (besideSpm_of_units (log_besideUnits ..)).trans (ended.trans rfl)

theorem wipeDone_cause (failed : List Nat) (s : State) : (wipeDone failed s).spm.wipeCause = s.spm.wipeCause := by
  unfold wipeDone
  extract_lets p bad passed s1 s2
  refine ite_keeps (fun u : State => u.spm.wipeCause) rfl (ite_keeps (fun u : State => u.spm.wipeCause) rfl ?_)
  have failures : besideBanks (eachNat wipeBankFail bad s1) = besideBanks s1 :=
    eachNat_keeps besideBanks _ _ _ fun _ _ => wipeBankFail_besideBanks
  have ended : s2.spm.wipeCause = s1.spm.wipeCause :=
    ite_keeps (fun u : State => u.spm.wipeCause) rfl (congrArg (fun u : State => u.spm.wipeCause) failures :)
  exact (congrArg Spm.wipeCause (log_spm ..)).trans ended

section
variable (first second : List Nat) (s : State)

theorem wipeRun_keeps {α : Type} (v : State → α) (hv : ∀ failed s, v (wipeDone failed s) = v s) :
    v (wipeRun first second s) = v s := by
  unfold wipeRun
  extract_lets s1
  exact ite_keeps v ((hv ..).trans (hv ..)) (hv ..)

theorem wipeRun_besideSpm : besideSpm (wipeRun first second s) = besideSpm s :=
  wipeRun_keeps _ _ _ besideSpm wipeDone_besideSpm

theorem wipeRun_cause : (wipeRun first second s).spm.wipeCause = s.spm.wipeCause :=
  wipeRun_keeps _ _ _ (fun u : State => u.spm.wipeCause) wipeDone_cause

end

section
variable {first second : List Nat} {s : State} (active : s.spm.wipeActive = true)
include active

/-- A wipe that verifies at once has passed. -/
theorem wipeRun_passes : (wipeRun [] second s).spm.wipeActive = false ∧ (wipeRun [] second s).spm.wipePassed = true := by
  have passed : (wipeDone [] s).spm = (wipeEnded true s).spm := by rw [wipeDone_passes active, log_spm]
  have once : wipeRun [] second s = wipeDone [] s := by
    unfold wipeRun
    exact if_neg (by rw [passed]; exact Bool.false_ne_true)
  rw [once, passed]
  exact ⟨rfl, rfl⟩

/-- A wipe of which a bank fails twice has failed. -/
theorem wipeRun_fails {l : Nat} (fresh : s.spm.wipeRetry = []) (hf : l ∈ first) (hs : l ∈ second) (hl : l < 16) :
    (wipeRun first second s).spm.wipePassed = false ∧ bitOf (wipeRun first second s).spm.err 3 = true := by
  have again := wipeDone_again active (List.ne_nil_of_mem hf) fresh
  have twice : wipeRun first second s = wipeDone second (wipeDone first s) := by
    unfold wipeRun
    exact if_pos (by rw [again]; exact active)
  rw [twice, again]
  obtain ⟨_, passed, flag, _⟩ := wipeDone_failed (s := { s with spm := { s.spm with wipeRetry := first } }) active hs hf hl
  exact ⟨passed, flag⟩

end

/-! ### POR (R266, R393) -/

theorem tamperNote_pending (s : State) : (tamperNote s).mram.pending = s.mram.pending := by
  unfold tamperNote journalRecord journalWrite
  extract_lets m
  split
  · rfl
  · split
    · rfl
    · exact ite_keeps (fun u : State => u.mram.pending) (b := { s with mram := _, rm := _ }) rfl rfl

/-- A latched tamper as its wipe begins. -/
def tamperBegun (s : State) : State := tamperNote (wipeStart 1 { s with rm := { s.rm with tamperLatch := false } })

theorem tamperLatched_none {w : WipeEnv} {s : State} (none_ : s.rm.tamperLatch = false) : tamperLatched w s = s :=
  if_neg (by simp [none_])

theorem tamperLatched_wipes {w : WipeEnv} {s : State} (latched : s.rm.tamperLatch = true) :
    tamperLatched w s = wipeRun w.first w.second (tamperBegun s) := if_pos latched

theorem tamperBegun_spm (s : State) : (tamperBegun s).spm = wiping 1 (banksLost (List.range 16) s).spm :=
  ((tamperNote_reads _).1.trans
    (wipeStart_congr 1 (s := { s with rm := { s.rm with tamperLatch := false } }) (t := s) rfl)).trans (wipeStart_spm 1 s)

theorem tamperBegun_rm (s : State) : (tamperBegun s).rm = { s.rm with
    tamperLatch := false, tamperSeen := true, tamperWipes := satAdd 8 s.rm.tamperWipes 1 } := by
  rw [tamperBegun, (tamperNote_reads _).2, wipeStart_keeps State.rm fun _ _ => rfl]

theorem tamperBegun_pending (s : State) : (tamperBegun s).mram.pending = s.mram.pending := by
  rw [tamperBegun, tamperNote_pending, wipeStart_keeps State.mram fun _ _ => rfl]

theorem lcCarry_none {w : WipeEnv} {s : State} (none_ : s.mram.pending = none) : lcCarry w s = s :=
  if_pos (by simp [none_])

theorem porDone_elsewhere {v w : WipeEnv} {s : State} (other : s.rm.stage ≠ .por) : porDone v w s = s :=
  if_pos (by simp [other])

/-- The boot counted. -/
def bootCounted (s : State) : State := { s with mram := { s.mram with bootCount := (s.mram.bootCount + 1) % 2 ^ 32 } }

/-- The stage ROM entered, with an entry where LREFCLK is absent. -/
def romEntered (lref : Bool) (s : State) : State :=
  if lref then { s with rm := { s.rm with stage := .rom } }
  else log .clkLrefAbsent [] { s with rm := { s.rm with stage := .rom } }

theorem romEntered_reads (lref : Bool) (s : State) : (romEntered lref s).rm = { s.rm with stage := .rom } ∧
    (romEntered lref s).spm = s.spm := by
  unfold romEntered
  split
  · exact ⟨rfl, rfl⟩
  · rw [log_rm, log_spm]
    exact ⟨rfl, rfl⟩

section
variable {v w : WipeEnv} {s : State} (por : s.rm.stage = .por) (powered : s.rm.brown = none) (cool : s.rm.tripped = false)
  (vaon : s.rm.vaon = true) (none_ : s.mram.pending = none)
include por powered cool vaon

theorem porDone_runs : porDone v w s = romEntered s.rm.lref (lcCarry w (tamperLatched v (bootCounted s))) := by
  unfold porDone
  rw [if_neg (by simp [por, powered, cool, vaon])]
  rfl

include none_

theorem porDone_plain (untouched : s.rm.tamperLatch = false) : porDone v w s = romEntered s.rm.lref (bootCounted s) := by
  rw [porDone_runs por powered cool vaon, tamperLatched_none (s := bootCounted s) untouched,
    lcCarry_none (s := bootCounted s) none_]

theorem porDone_tampered (latched : s.rm.tamperLatch = true) :
    porDone v w s = romEntered s.rm.lref (wipeRun v.first v.second (tamperBegun (bootCounted s))) := by
  have pending : (wipeRun v.first v.second (tamperBegun (bootCounted s))).mram.pending = none := by
    have same := wipeRun_besideSpm v.first v.second (tamperBegun (bootCounted s))
    exact (congrArg (fun u : State => u.mram.pending) same :).trans ((tamperBegun_pending _).trans none_)
  rw [porDone_runs por powered cool vaon, tamperLatched_wipes (s := bootCounted s) latched, lcCarry_none pending]

/-- R266: a latched tamper is carried out before ROM, and what of its wipe fails twice shows. -/
theorem porDone_wipes (latched : s.rm.tamperLatch = true) : (porDone v w s).rm.stage = .rom ∧
    (porDone v w s).rm.tamperLatch = false ∧ (porDone v w s).rm.tamperSeen = true ∧ (porDone v w s).spm.wipeCause = 1 ∧
    (v.first = [] → (porDone v w s).spm.wipeActive = false ∧ (porDone v w s).spm.wipePassed = true) ∧
    (∀ l, l ∈ v.first → l ∈ v.second → l < 16 →
      (porDone v w s).spm.wipePassed = false ∧ bitOf (porDone v w s).spm.err 3 = true) := by
  rw [porDone_tampered por powered cool vaon none_ latched]
  obtain ⟨rm, spm⟩ := romEntered_reads s.rm.lref (wipeRun v.first v.second (tamperBegun (bootCounted s)))
  have begun := tamperBegun_spm (bootCounted s)
  have ringmaster := tamperBegun_rm (bootCounted s)
  have same := rm_of_besideSpm (wipeRun_besideSpm v.first v.second (tamperBegun (bootCounted s)))
  rw [rm, spm, same, ringmaster, wipeRun_cause, begun]
  generalize tamperBegun (bootCounted s) = u at begun
  have active : u.spm.wipeActive = true := by rw [begun, wiping]
  have fresh : u.spm.wipeRetry = [] := by rw [begun, wiping]
  refine ⟨rfl, rfl, rfl, by rw [wiping], fun once => ?_, fun l => wipeRun_fails active fresh⟩
  rw [once]
  exact wipeRun_passes active

end

end Sys2Proof.Machine
end

section
/-! SUPPORT. ROM: the slot that is selected, verified and run (R396, R399, R400). -/

namespace Sys2Proof.Machine

/-! ### A slot's directory entry and image -/

theorem fwSlot_modFwSlot_same (i : Nat) (f : FwSlot → FwSlot) (s : State) :
    fwSlot (modFwSlot i f s) i = f (fwSlot s i) := by
  unfold fwSlot modFwSlot
  split <;> rfl

theorem fwSlot_modFwSlot_other {i : Nat} (hi : i < 2) (f : FwSlot → FwSlot) (s : State) :
    fwSlot (modFwSlot i f s) (1 - i) = fwSlot s (1 - i) := by
  match i, hi with
  | 0, _ => rfl
  | 1, _ => rfl

theorem modFwSlot_flash (i : Nat) (f : FwSlot → FwSlot) (s : State) : (modFwSlot i f s).fw.flash = s.fw.flash := by
  unfold modFwSlot
  dsimp only
  split <;> rfl

/-- An image is a matter of the serial flash alone. -/
theorem imgAt_of_flash {s t : State} (h : t.fw.flash = s.fw.flash) : imgAt t = imgAt s := by
  have same : flashRead t = flashRead s := by
    funext a n
    rw [flashRead, flashRead, h]
  unfold imgAt
  rw [same]

/-- An image is verified against MRAM alone. -/
theorem imgOk_of_mram {s t : State} (h : t.mram = s.mram) (kind : Nat) (b : List Byte) : imgOk t kind b = imgOk s kind b := by
  simp only [imgOk, imgBindOk, imgSigOk, kindDigest, h]

theorem slotIn_some {s : State} {st : FwSlotState} {i : Nat} (h : slotIn s st = some i) :
    i < 2 ∧ (fwSlot s i).state = st := by
  unfold slotIn at h
  split at h
  next first =>
    obtain rfl : 0 = i := Option.some.inj h
    exact ⟨by omega, beq_iff_eq.1 first⟩
  next =>
    split at h
    next second =>
      obtain rfl : 1 = i := Option.some.inj h
      exact ⟨by omega, beq_iff_eq.1 second⟩
    next => exact absurd h.symm (Option.some_ne_none i)

/-! ### The selection (R396 rules 1 to 4) -/

/-- A PENDING slot taken as a TRIAL. -/
def trialTaken (i : Nat) (s : State) : State :=
  let s1 := modFwSlot i (fun x => { x with state := .trial }) s
  { s1 with fw := { s1.fw with trialBoot := 1, confirms := 0, bootConfirmed := false } }

theorem slotSelect_pending {s : State} {i : Nat} (pending : slotIn s .pending = some i) :
    slotSelect s = (some i, trialTaken i s) := by
  rw [slotSelect, pending]
  rfl

theorem slotSelect_confirmed {s : State} {i : Nat} (pending : slotIn s .pending = none) (trial : slotIn s .trial = none)
    (confirmed : slotIn s .confirmed = some i) : slotSelect s = (some i, s) := by
  simp only [slotSelect, pending, trial, confirmed]

theorem slotSelect_none {s : State} (pending : slotIn s .pending = none) (trial : slotIn s .trial = none)
    (confirmed : slotIn s .confirmed = none) (valid : slotIn s .valid = none) : slotSelect s = (none, s) := by
  simp only [slotSelect, pending, trial, confirmed, valid]

theorem slotBoot_passes {s u : State} {i : Nat} (selected : slotSelect s = (some i, u))
    (passes : imgOk u 0 (slotImage u i) = true) (n : Nat) : slotBoot (n + 1) s = (some i, u) := by
  rw [slotBoot, selected]
  exact if_pos passes

theorem slotBoot_none {s u : State} (selected : slotSelect s = (none, u)) (n : Nat) : slotBoot (n + 1) s = (none, u) := by
  rw [slotBoot, selected]

/-! ### The end of ROM (R393, R396, R399, R400) -/

/-- The image of a slot runs. -/
def slotRuns (i : Nat) (s : State) : State :=
  let trial := if (fwSlot s i).state == .trial then s.fw.trialBoot else 0
  { s with rm := { s.rm with stage := .load, runSlot := i, trialIndex := trial, wdogRunning := true, wdogStart := mtOf s } }

/-- No image runs. -/
def recoveryEntered (s : State) : State :=
  { s with rm := { s.rm with stage := .recovery, trialIndex := 0, wdogRunning := true, wdogStart := mtOf s } }

section
variable {s u : State}

theorem romDone_elsewhere (other : s.rm.stage ≠ .rom) : romDone s = s := if_pos (by simp [other])

variable (rom : s.rm.stage = .rom)
include rom

theorem romDone_retired (retired : s.mram.lifecycle = .retired) : romDone s = recoveryEntered s := by
  simp only [romDone, rom, retired]
  rfl

variable (serves : s.mram.lifecycle ≠ .retired)
include serves

theorem romDone_boots {i : Nat} (boots : slotBoot 3 s = (some i, u)) : romDone s = slotRuns i u := by
  have alive : (s.mram.lifecycle == .retired) = false := by simp [serves]
  simp only [romDone, rom, alive, Bool.false_eq_true, if_false, boots]
  rfl

theorem romDone_recovery (none_ : slotBoot 3 s = (none, u)) : romDone s = recoveryEntered u := by
  have alive : (s.mram.lifecycle == .retired) = false := by simp [serves]
  simp only [romDone, rom, alive, Bool.false_eq_true, if_false, none_]
  rfl

/-- R396: the CONFIRMED slot runs where no slot is PENDING or in TRIAL. -/
theorem romDone_confirmed {i : Nat} (pending : slotIn s .pending = none) (trial : slotIn s .trial = none)
    (confirmed : slotIn s .confirmed = some i) (ok : imgOk s 0 (slotImage s i) = true) :
    romDone s = { s with rm := { s.rm with
      stage := .load, runSlot := i, trialIndex := 0, wdogRunning := true, wdogStart := mtOf s } } := by
  rw [romDone_boots rom serves (slotBoot_passes (slotSelect_confirmed pending trial confirmed) ok 2), slotRuns,
    (slotIn_some confirmed).2]
  rfl

/-- R396, R399: a PENDING slot becomes a TRIAL, its first boot, and runs. -/
theorem romDone_pending {i : Nat} (pending : slotIn s .pending = some i) (ok : imgOk s 0 (slotImage s i) = true) :
    romDone s = slotRuns i (trialTaken i s) := by
  have image : slotImage (trialTaken i s) i = slotImage s i := by
    rw [slotImage, imgAt_of_flash (t := trialTaken i s) (modFwSlot_flash ..), slotImage]
  refine romDone_boots rom serves (slotBoot_passes (slotSelect_pending pending) ?_ 2)
  rw [image]
  exact (imgOk_of_mram (s := s) (t := trialTaken i s) rfl 0 (slotImage s i)).trans ok

theorem romDone_noSlot (pending : slotIn s .pending = none) (trial : slotIn s .trial = none)
    (confirmed : slotIn s .confirmed = none) (valid : slotIn s .valid = none) : romDone s = recoveryEntered s :=
  romDone_recovery rom serves (slotBoot_none (slotSelect_none pending trial confirmed valid) 2)

end

/-- What runs of a slot that was PENDING. -/
theorem slotRuns_trial {i : Nat} (hi : i < 2) (s : State) :
    let t := slotRuns i (trialTaken i s)
    t.rm.stage = .load ∧ t.rm.runSlot = i ∧ t.rm.trialIndex = 1 ∧ (fwSlot t i).state = .trial ∧
      fwSlot t (1 - i) = fwSlot s (1 - i) ∧ t.fw.trialBoot = 1 ∧ t = { s with rm := t.rm, fw := t.fw } := by
  have trial : (fwSlot (trialTaken i s) i).state = .trial :=
    (congrArg FwSlot.state (fwSlot_modFwSlot_same i (fun x => { x with state := .trial }) s) :)
  have index : (slotRuns i (trialTaken i s)).rm.trialIndex = 1 := if_pos (by rw [trial]; rfl)
  exact ⟨rfl, rfl, index, trial, fwSlot_modFwSlot_other hi _ s, rfl, rfl⟩

end Sys2Proof.Machine
end

section
/-! SUPPORT. LOAD: the three copies of the waveform image that are laid, and the configuration that is taken (R148, R393,
R398). -/

namespace Sys2Proof.Machine

/-! ### A copy laid into banks that are as they are at reset (R148, R260) -/

/-- A byte of the physical banks; none where its word is poisoned. -/
def cellAt (p : Spm) (x : Nat) : Option Byte := if p.poisoned.contains (x / 32) then none else some (memByte 0 p.mem x)

/-- The banks are as they are at reset. -/
structure BanksFresh (p : Spm) : Prop where
  map : p.map = []
  banks : p.banks = []
  bringIn : p.bringIn = none

theorem spmCell_fresh {s : State} (h : BanksFresh s.spm) (x : Nat) : spmCell s x = cellAt s.spm x := by
  have word : spmWord s x = x / 32 := by
    rw [spmWord, bankPhys_unmapped h.map]
    simp only [bankSize]
    omega
  rw [spmCell, word, bankPhys_unmapped h.map, Nat.div_add_mod']
  rfl

/-- Bytes laid over whole words replace their bytes and their marks. -/
theorem cellAt_laid {p q : Spm} {src : Mem} {a lo n : Nat} (hlo : lo % 32 = 0) (hn : n % 32 = 0)
    (mem : q.mem = memMove src a lo n p.mem)
    (poisoned : q.poisoned = p.poisoned.filter fun w => !decide (lo ≤ 32 * w ∧ 32 * w + 32 ≤ lo + n)) (x : Nat) :
    cellAt q x = if lo ≤ x ∧ x < lo + n then some (memByte 0 src (x - lo + a)) else cellAt p x := by
  have whole : (lo ≤ 32 * (x / 32) ∧ 32 * (x / 32) + 32 ≤ lo + n) ↔ (lo ≤ x ∧ x < lo + n) := by omega
  have mark : q.poisoned.contains (x / 32) = (p.poisoned.contains (x / 32) && !decide (lo ≤ x ∧ x < lo + n)) := by
    rw [Bool.eq_iff_iff, poisoned]
    simp only [List.contains_iff_mem, List.mem_filter, Bool.and_eq_true, Bool.not_eq_true', decide_eq_false_iff_not, whole]
  rw [cellAt, mark, mem, memByte_memMove, cellAt]
  by_cases inside : lo ≤ x ∧ x < lo + n <;> simp [inside]

theorem bankOf_fresh {s : State} (h : BanksFresh s.spm) (l : Nat) : bankOf s l = bankDflt l := by
  rw [bankOf, h.banks, spGet]

theorem bankWoken_fresh {l : Nat} (hl : l < 512) :
    spMod (bankDflt l) [] l (fun x => { x with power := if x.power == .ret then .on else x.power }) = [] := by
  have power : (bankDflt l).power = .on := if_pos hl
  have same : { bankDflt l with power := if (bankDflt l).power == .ret then .on else (bankDflt l).power } = bankDflt l := by
    rw [power]
    exact congrArg (fun p => { bankDflt l with power := p }) power.symm
  rw [spMod, spGet, same, spSet, if_pos rfl]

/-- The bytes of copy `n` that a memory gives, in the banks where they are laid. -/
def laidCell (n : Nat) (src : Mem) (banks : List Nat) (x : Nat) (old : Option Byte) : Option Byte :=
  if x / bankSize ∈ banks ∧ waveAddr n 0 ≤ x ∧ x < waveAddr n imageLen then some (memByte 0 src (x - waveAddr n 0)) else old

theorem laidCell_laidCell (n : Nat) (src : Mem) (l : Nat) (r : List Nat) (x : Nat) (old : Option Byte) :
    laidCell n src r x (laidCell n src [l] x old) = laidCell n src (l :: r) x old := by
  unfold laidCell
  by_cases later : x / bankSize ∈ r ∧ waveAddr n 0 ≤ x ∧ x < waveAddr n imageLen
  · rw [if_pos later, if_pos ⟨.tail _ later.1, later.2⟩]
  · rw [if_neg later]
    refine if_congr ⟨fun ⟨here, wave⟩ => ⟨?_, wave⟩, fun ⟨listed, wave⟩ => ⟨?_, wave⟩⟩ rfl rfl
    · exact List.mem_cons.2 (.inl (List.mem_singleton.1 here))
    · exact List.mem_singleton.2 ((List.mem_cons.1 listed).resolve_right fun later_ => later ⟨later_, wave⟩)

/-- The part of copy `n` in a bank is the bytes of both. -/
theorem laidCell_part {n l lo hi : Nat} (src : Mem) (x : Nat) (old : Option Byte) (hlo : lo = max (waveAddr n 0) (l * bankSize))
    (hhi : hi = min (waveAddr n imageLen) ((l + 1) * bankSize)) :
    (if lo ≤ x ∧ x < lo + (hi - lo) then some (memByte 0 src (x - lo + (0 + (lo - waveAddr n 0)))) else old) =
      laidCell n src [l] x old := by
  simp only [bankSize] at hlo hhi
  have part : (lo ≤ x ∧ x < lo + (hi - lo)) ↔ (x / bankSize ∈ [l] ∧ waveAddr n 0 ≤ x ∧ x < waveAddr n imageLen) := by
    rw [List.mem_singleton, bankSize]
    omega
  rw [laidCell]
  by_cases inside : lo ≤ x ∧ x < lo + (hi - lo)
  · have place : x - lo + (0 + (lo - waveAddr n 0)) = x - waveAddr n 0 := by omega
    rw [if_pos inside, if_pos (part.1 inside), place]
  · rw [if_neg inside, if_neg (inside ∘ part.2)]

theorem layPart_fresh {n l : Nat} (src : Mem) {s : State} (h : BanksFresh s.spm) (hl : l < 512) (hw : waveIn l n = true) :
    BanksFresh (layPart n src 0 l s).spm ∧
    ∀ x, cellAt (layPart n src 0 l s).spm x = laidCell n src [l] x (cellAt s.spm x) := by
  have power : (bankDflt l).power = .on := if_pos hl
  have wave := of_decide_eq_true hw
  have on : (bankOf s l).power ≠ .off := by rw [bankOf_fresh h, power]; decide
  generalize hlo : max (waveAddr n 0) (l * bankSize) = lo
  generalize hhi : min (waveAddr n imageLen) ((l + 1) * bankSize) = hi
  have laid := bankLay_spm (off := lo % bankSize) (n := hi - lo) (src := src) (a := 0 + (lo - waveAddr n 0)) h.map h.bringIn on
  simp only [waveAddr, bankSize, imageLen] at wave hlo hhi
  have start : l * bankSize + lo % bankSize = lo := by rw [bankSize]; omega
  have words : lo % 32 = 0 ∧ (hi - lo) % 32 = 0 := by omega
  rw [start, h.banks, bankWoken_fresh hl] at laid
  have part : layPart n src 0 l s = bankLay l (lo % bankSize) (hi - lo) src (0 + (lo - waveAddr n 0)) s := by
    rw [layPart]
    simp only [waveAddr, bankSize, imageLen, hlo, hhi]
  refine ⟨?_, fun x => ?_⟩
  · rw [part, laid]
    exact ⟨h.map, rfl, h.bringIn⟩
  · rw [part, cellAt_laid words.1 words.2 (congrArg Spm.mem laid :) (congrArg Spm.poisoned laid :) x]
    exact laidCell_part src x _ hlo.symm hhi.symm

/-- What is laid in a list of banks. -/
theorem layParts_fresh {n : Nat} (src : Mem) (banks : List Nat) {s : State} (h : BanksFresh s.spm)
    (hb : ∀ l ∈ banks, l < 512 ∧ waveIn l n = true) : BanksFresh (eachNat (layPart n src 0) banks s).spm ∧
    ∀ x, cellAt (eachNat (layPart n src 0) banks s).spm x = laidCell n src banks x (cellAt s.spm x) := by
  induction banks generalizing s with
  | nil => exact ⟨h, fun x => (if_neg fun inside => absurd inside.1 List.not_mem_nil).symm⟩
  | cons l r ih =>
    obtain ⟨hl, hr⟩ := List.forall_mem_cons.1 hb
    obtain ⟨fresh, cell⟩ := layPart_fresh src h hl.1 hl.2
    obtain ⟨fresh', cell'⟩ := ih fresh hr
    refine ⟨fresh', fun x => ?_⟩
    rw [eachNat, cell', cell, laidCell_laidCell]

/-- The banks where copy `m` has bytes. -/
def copyBanks (m : Nat) : List Nat := ((List.range 8).map (430 + ·)).filter (waveIn · m)

theorem mem_copyBanks {l m : Nat} : l ∈ copyBanks m ↔ (430 ≤ l ∧ l < 438) ∧ waveIn l m = true := by
  rw [copyBanks, List.mem_filter, List.mem_map]
  refine and_congr_left fun _ => ⟨?_, fun ⟨lower, upper⟩ => ⟨l - 430, List.mem_range.2 (by omega), by omega⟩⟩
  rintro ⟨k, hk, rfl⟩
  have := List.mem_range.1 hk
  omega

/-- A byte of a copy lies in a bank where the copy has bytes, and in no other copy. -/
theorem waveAddr_place {m off : Nat} (hm : m < 3) (ho : off < imageLen) : waveAddr m off / bankSize ∈ copyBanks m := by
  rw [mem_copyBanks, waveIn, decide_eq_true_eq]
  simp only [waveAddr, bankSize, imageLen] at ho ⊢
  omega

theorem waveAddr_within {m n off : Nat} (ho : off < imageLen) :
    (waveAddr m 0 ≤ waveAddr n off ∧ waveAddr n off < waveAddr m imageLen) ↔ m = n := by
  simp only [waveAddr, imageLen] at ho ⊢
  omega

/-- R148: a copy replaced holds the memory's bytes, and another copy those it held. -/
theorem setCopy_fresh {m n off : Nat} (src : Mem) {s : State} (h : BanksFresh s.spm) (hm : m < 3) (ho : off < imageLen) :
    BanksFresh (setCopy m src 0 s).spm ∧ cellAt (setCopy m src 0 s).spm (waveAddr n off) =
      if m = n then some (memByte 0 src off) else cellAt s.spm (waveAddr n off) := by
  have copy : setCopy m src 0 s = eachNat (layPart m src 0) (copyBanks m) s := setCopy_eq ..
  obtain ⟨fresh, cell⟩ := layParts_fresh (n := m) src (copyBanks m) h fun l hl =>
    ⟨by have := mem_copyBanks.1 hl; omega, (mem_copyBanks.1 hl).2⟩
  rw [copy]
  refine ⟨fresh, ?_⟩
  rw [cell, laidCell]
  by_cases same : m = n
  · subst same
    have offset : waveAddr m off - waveAddr m 0 = off := by simp only [waveAddr]; omega
    rw [if_pos ⟨waveAddr_place hm ho, (waveAddr_within ho).2 rfl⟩, if_pos rfl, offset]
  · rw [if_neg fun inside => same ((waveAddr_within ho).1 inside.2), if_neg same]

/-- R148, R393: every copy laid holds the memory's bytes. -/
theorem setCopies_fresh {n off : Nat} (src : Mem) (copies : List Nat) {s : State} (h : BanksFresh s.spm)
    (hc : ∀ m ∈ copies, m < 3) (ho : off < imageLen) :
    BanksFresh (eachNat (fun m => setCopy m src 0) copies s).spm ∧
    cellAt (eachNat (fun m => setCopy m src 0) copies s).spm (waveAddr n off) =
      if n ∈ copies then some (memByte 0 src off) else cellAt s.spm (waveAddr n off) := by
  induction copies generalizing s with
  | nil => exact ⟨h, by rw [eachNat, if_neg List.not_mem_nil]⟩
  | cons m r ih =>
    obtain ⟨hm, hr⟩ := List.forall_mem_cons.1 hc
    obtain ⟨fresh, cell⟩ := setCopy_fresh (n := n) src h hm ho
    obtain ⟨fresh', cell'⟩ := ih fresh hr
    rw [eachNat]
    refine ⟨fresh', ?_⟩
    rw [cell', cell]
    by_cases here : n = m <;> by_cases later : n ∈ r <;> simp [here, later, Ne.symm]

end Sys2Proof.Machine
end

section
/-! SUPPORT. LOAD as a whole: the sections, the active configuration copy and the factory record (R393, R397, R398). -/

namespace Sys2Proof.Machine

theorem policyLoad_keeps {α : Type} (v : State → α) (hv : ∀ s t, v { s with trn := t } = v s) (l : List PolicyEntry)
    (s : State) : v (policyLoad l s) = v s := by
  unfold policyLoad
  extract_lets one s1
  have entries : v s1 = v s := (foldl_keeps v one l _ fun u p => ite_keeps v (hv _ _) rfl).trans (hv _ _)
  exact (hv s1 _).trans entries

theorem declareUnits_keeps {α : Type} (v : State → α) (hv : ∀ s u, v { s with units := u } = v s) (s : State) :
    v (declareUnits s) = v s :=
  eachNat_keeps v _ _ s fun _ _ => ite_keeps v (hv _ _) rfl

theorem factoryLoad_keeps {α : Type} (v : State → α) (hv : ∀ s c, v { s with cal := c } = v s) (b : List Byte) (s : State) :
    v (factoryLoad b s) = v s :=
  ite_keeps v ((eachNat_keeps v _ _ _ fun _ _ => hv _ _).trans (hv _ _)) (hv _ _)

/-- R299, R326: what a configuration writes before its policy. -/
theorem configApply_writes (c : ConfigItems) (s : State) : ∃ h z t f j,
    configApply c s = declareUnits (policyLoad c.policy { s with hq := h, trz := z, th := t, fw := f, jgl := j }) ∧
      h.portLock = true ∧ h.subsystem = c.subsystem ∧ f.confirmLock = true := ⟨_, _, _, _, _, rfl, rfl, rfl, rfl⟩

theorem policied_keeps {α : Type} (v : State → α) (hv : ∀ s t u, v { s with trn := t, units := u } = v s)
    (l : List PolicyEntry) (s : State) : v (declareUnits (policyLoad l s)) = v s :=
  (declareUnits_keeps v (fun u w => hv u u.trn w) _).trans (policyLoad_keeps v (fun u w => hv u w u.units) l s)

/-- R299, R326, R406: a configuration applied locks what it loads, and changes nothing of the blocks named. -/
theorem configApply_reads (c : ConfigItems) (s : State) :
    let t := configApply c s
    (t.hq.portLock = true ∧ t.trn.lock = true ∧ t.fw.confirmLock = true ∧ t.hq.subsystem = c.subsystem) ∧
      t.rm = s.rm ∧ t.spm = s.spm ∧ t.log = s.log ∧ t.px = s.px := by
  obtain ⟨h, z, t, f, j, eq, port, subsystem, confirm⟩ := configApply_writes c s
  rw [eq]
  have hq := policied_keeps State.hq (fun _ _ _ => rfl) c.policy { s with hq := h, trz := z, th := t, fw := f, jgl := j }
  have fw := policied_keeps State.fw (fun _ _ _ => rfl) c.policy { s with hq := h, trz := z, th := t, fw := f, jgl := j }
  have rest := policied_keeps (fun u => (u.rm, u.spm, u.log, u.px)) (fun _ _ _ => rfl) c.policy
    { s with hq := h, trz := z, th := t, fw := f, jgl := j }
  have lock := declareUnits_keeps State.trn (fun _ _ => rfl)
    (policyLoad c.policy { s with hq := h, trz := z, th := t, fw := f, jgl := j })
  generalize declareUnits _ = w at hq fw rest lock ⊢
  obtain ⟨rm, spm, log_, px⟩ : w.rm = s.rm ∧ w.spm = s.spm ∧ w.log = s.log ∧ w.px = s.px := by
    simpa only [Prod.mk.injEq] using rest
  refine ⟨⟨?_, ?_, ?_, ?_⟩, rm, spm, log_, px⟩
  · rw [hq, port]
  · rw [lock, policyLoad]
  · rw [fw, confirm]
  · rw [hq, subsystem]

/-- The configuration copy taken shows, and a copy that failed. -/
theorem configLoad_reads (c : ConfigItems) (s : State) :
    (configLoad c s).spm = s.spm ∧ (configLoad c s).log = s.log ∧ (configLoad c s).px = s.px := by
  have taken (u : State) := (configApply_reads c u).2.2
  unfold configLoad
  split
  · extract_lets s'
    have kept : s'.spm = s.spm ∧ s'.log = s.log ∧ s'.px = s.px := by
      unfold s'
      split <;> exact ⟨rfl, rfl, rfl⟩
    obtain ⟨spm, log_, px⟩ := taken { s' with rm := { s'.rm with cfgCopy := _ } }
    exact ⟨spm.trans kept.1, log_.trans kept.2.1, px.trans kept.2.2⟩
  · exact ⟨rfl, rfl, rfl⟩

/-- A configuration copy named as the one taken. -/
def copyTaken (i : Nat) (s : State) : State := { s with rm := { s.rm with cfgCopy := i } }

/-- R398: the active copy is taken where it passes. -/
theorem configLoad_active (c : ConfigItems) {s : State} (active : s.fw.activeCfg < 2)
    (ok : imgOk s 1 (copyImage s s.fw.activeCfg) = true) : configLoad c s = configApply c (copyTaken s.fw.activeCfg s) := by
  have low : s.fw.activeCfg % 2 = s.fw.activeCfg := Nat.mod_eq_of_lt active
  have used : copyUsed s = some s.fw.activeCfg := by
    simp only [copyUsed, low, ok, if_true]
  unfold configLoad
  rw [used]
  exact congrArg (fun u : State => configApply c (copyTaken s.fw.activeCfg u)) (if_pos low.symm)

/-! ### LOAD ends (R393) -/

/-- The three copies of the waveform image laid. -/
@[irreducible] def copiesLaid (wave : Mem) (s : State) : State := eachNat (fun n => setCopy n wave 0) (List.range 3) s

/-- The dictionary and the partner's configuration taken. -/
def sectionsTaken (c : ConfigItems) (s : State) : State := { s with
  log := { s.log with codes := c.dictCodes, sources := c.dictSources }
  px := { s.px with config := c.partnerConfig } }

/-- The firmware's sections laid and taken. -/
def sectionsLaid (c : ConfigItems) (s : State) : State :=
  sectionsTaken c (copiesLaid (memWrite 0 [] 0 (sectionOf (slotImage s s.rm.runSlot) 3)) s)

/-- The stage TRAIN entered. -/
def trainEntered (s : State) : State := { s with rm := { s.rm with stage := .train } }

theorem loadDone_elsewhere (c : ConfigItems) {s : State} (other : s.rm.stage ≠ .load) : loadDone c s = s :=
  if_pos (by simp [other])

theorem setCopy_besideSpm (n : Nat) (src : Mem) (a : Nat) (s : State) : besideSpm (setCopy n src a s) = besideSpm s := by
  refine eachNat_keeps besideSpm _ _ s fun l u => ?_
  extract_lets lo hi
  unfold bankLay
  extract_lets lay b s1
  have off : besideSpm (bankOffAccess b u) = besideSpm u :=
    ite_keeps besideSpm rfl ((besideSpm_of_units (log_besideUnits ..)).trans rfl)
  refine ite_keeps besideSpm off ?_
  split <;> rfl

theorem copiesLaid_besideSpm (wave : Mem) (s : State) : besideSpm (copiesLaid wave s) = besideSpm s := by
  unfold copiesLaid
  exact eachNat_keeps besideSpm _ _ s fun n u => setCopy_besideSpm n wave 0 u

theorem sectionsLaid_keeps (c : ConfigItems) (s : State) : (sectionsLaid c s).fw = s.fw ∧ (sectionsLaid c s).mram = s.mram := by
  have same := copiesLaid_besideSpm (memWrite 0 [] 0 (sectionOf (slotImage s s.rm.runSlot) 3)) s
  exact ⟨(congrArg State.fw same :), (congrArg State.mram same :)⟩

theorem copiesLaid_fresh (wave : Mem) {s : State} {n off : Nat} (h : BanksFresh s.spm) (hn : n < 3) (ho : off < imageLen) :
    BanksFresh (copiesLaid wave s).spm ∧
    cellAt (copiesLaid wave s).spm (waveAddr n off) = some (memByte 0 wave off) := by
  unfold copiesLaid
  obtain ⟨fresh, cell⟩ := setCopies_fresh (n := n) wave (List.range 3) h (fun _ => List.mem_range.1) ho
  exact ⟨fresh, cell.trans (if_pos (List.mem_range.2 hn))⟩

section
variable (c : ConfigItems) {s : State} (stage : s.rm.stage = .load)
include stage

theorem loadDone_eq : loadDone c s = trainEntered (factoryLoad c.factoryRecord (configLoad c (sectionsLaid c s))) := by
  unfold loadDone
  rw [if_neg (by simp [stage])]
  extract_lets wave s0 s1 s3
  have laid : s0 = copiesLaid wave s := by
    unfold copiesLaid
    rfl
  clear_value s0
  subst laid
  rfl

theorem loadDone_configured : ∃ u, u = configLoad c (sectionsLaid c s) ∧
    ((loadDone c s).rm.stage = .train ∧ (loadDone c s).rm.cfgCopy = u.rm.cfgCopy) ∧ (loadDone c s).spm = u.spm ∧ (loadDone c s).log = u.log ∧
    (loadDone c s).px = u.px ∧ (loadDone c s).hq = u.hq ∧ (loadDone c s).trn = u.trn ∧ (loadDone c s).fw = u.fw := by
  refine ⟨_, rfl, ?_⟩
  rw [loadDone_eq c stage]
  generalize configLoad c (sectionsLaid c s) = u
  have kept := factoryLoad_keeps (fun w => { w with cal := {} }) (fun _ _ => rfl) c.factoryRecord u
  generalize factoryLoad c.factoryRecord u = w at kept ⊢
  exact ⟨⟨rfl, (congrArg (fun x : State => x.rm.cfgCopy) kept :)⟩, (congrArg State.spm kept :),
    (congrArg State.log kept :), (congrArg State.px kept :), (congrArg State.hq kept :), (congrArg State.trn kept :),
    (congrArg State.fw kept :)⟩

/-- R148, R393: what LOAD lays and takes. -/
theorem loadDone_lays : (loadDone c s).rm.stage = .train ∧
    (s.spm.map = [] → s.spm.banks = [] → s.spm.bringIn = none → ∀ n off, n < 3 → off < imageLen →
      waveCell (loadDone c s) n off =
        some (memByte 0 (memWrite 0 [] 0 (sectionOf (slotImage s s.rm.runSlot) 3)) off)) ∧
    (loadDone c s).log.codes = c.dictCodes ∧ (loadDone c s).px.config = c.partnerConfig := by
  obtain ⟨u, hu, ⟨stage_, -⟩, spm, log_, px, -⟩ := loadDone_configured c stage
  obtain ⟨spm', log', px'⟩ := configLoad_reads c (sectionsLaid c s)
  refine ⟨stage_, fun map banks bringIn n off hn ho => ?_, by rw [log_, hu, log']; rfl, by rw [px, hu, px']; rfl⟩
  have laid : (loadDone c s).spm = (copiesLaid (memWrite 0 [] 0 (sectionOf (slotImage s s.rm.runSlot) 3)) s).spm := by
    rw [spm, hu, spm', sectionsLaid, sectionsTaken]
  generalize memWrite 0 [] 0 (sectionOf (slotImage s s.rm.runSlot) 3) = wave at laid ⊢
  obtain ⟨fresh, cell⟩ := copiesLaid_fresh wave ⟨map, banks, bringIn⟩ hn ho
  rw [waveCell, spmCell_fresh (laid ▸ fresh), laid, cell]

/-- R398: what LOAD takes of the active configuration copy. -/
theorem loadDone_takes (active : s.fw.activeCfg < 2) (ok : imgOk s 1 (copyImage s s.fw.activeCfg) = true) :
    (loadDone c s).rm.cfgCopy = s.fw.activeCfg ∧ (loadDone c s).hq.portLock = true ∧ (loadDone c s).trn.lock = true ∧
      (loadDone c s).fw.confirmLock = true ∧ (loadDone c s).hq.subsystem = c.subsystem := by
  obtain ⟨u, hu, ⟨-, copy⟩, -, -, -, hq, trn, fw⟩ := loadDone_configured c stage
  obtain ⟨fw', mram'⟩ := sectionsLaid_keeps c s
  rw [copy, hq, trn, fw, hu]
  generalize sectionsLaid c s = t at fw' mram' ⊢
  have ok' : imgOk t 1 (copyImage t t.fw.activeCfg) = true := by
    rw [imgOk_of_mram mram', copyImage, imgAt_of_flash (congrArg Fw.flash fw' :), fw']
    exact ok
  rw [configLoad_active c (fw' ▸ active) ok', fw']
  obtain ⟨⟨port, lock, confirm, subsystem⟩, ringmaster, -⟩ := configApply_reads c (copyTaken s.fw.activeCfg t)
  rw [ringmaster]
  exact ⟨rfl, port, lock, confirm, subsystem⟩

end

end Sys2Proof.Machine
end

section
/-! SUPPORT. TRAIN and CHECK: the committed spare map, the backing copies, and READY (R131, R148, R348, R388, R393, R394,
R424). -/

namespace Sys2Proof.Machine

/-! ### TRAIN leaves every block but the Juggler's tables alone (R234, R237, R239, R242) -/

/-- A state but for what start training may change beside the bytes of DRAM. -/
def besideTrain (s : State) : State := besideUnits { s with mram := {}, cal := {}, scene := {}, jgl := { mem := s.jgl.mem } }

theorem besideTrain_of_units {s t : State} (h : besideUnits t = besideUnits s) : besideTrain t = besideTrain s :=
  (congrArg (fun u : State => { u with mram := {}, cal := {}, scene := {}, jgl := { mem := u.jgl.mem } }) h :)

theorem chanTrained_besideTrain (m : SpareMap) (rankSpare : Bool) (t : ChannelTrain) (s : State) :
    besideTrain (chanTrained m rankSpare t s) = besideTrain s := by
  unfold chanTrained
  extract_lets v c rank s1
  have channel : besideTrain s1 = besideTrain s := rfl
  clear_value s1 rank v
  cases v <;> exact channel

theorem widthCheck_besideTrain (s : State) : besideTrain (widthCheck s) = besideTrain s :=
  ite_keeps besideTrain ((besideTrain_of_units (log_besideUnits ..)).trans rfl) rfl

theorem unitPair_besideTrain (cls a b : Nat) (s : State) : besideTrain (unitPair cls a b s) = besideTrain s := rfl

theorem buildMap_besideTrain (chs : List Nat) (z : Nat) (s : State) : besideTrain (buildMap chs z s) = besideTrain s :=
  (buildMap_keeps chs z s besideTrain fun _ _ _ => rfl).trans rfl

theorem jglTrain_besideTrain (t : TrainEnv) (s : State) : besideTrain (jglTrain t s) = besideTrain s := by
  unfold jglTrain
  extract_lets m present keep rankSpare slots0 s1 idle
  split
  next slots used filled =>
    extract_lets s2 s2' s3 s4 _ s5 _ s6 s7
    have channels : besideTrain s1 = besideTrain s := foldl_keeps besideTrain _ _ _ fun u c => chanTrained_besideTrain ..
    have online : besideTrain s2 = besideTrain s1 :=
      foldl_keeps besideTrain _ _ _ fun u c => besideTrain_of_units (unitTo_besideUnits ..)
    have pairs : besideTrain s2' = besideTrain s2 := foldl_keeps besideTrain _ _ _ fun u i => ite_keeps besideTrain rfl rfl
    have spares : besideTrain s3 = besideTrain s2' :=
      foldl_keeps besideTrain _ _ _ fun u c => (unitPair_besideTrain ..).trans (besideTrain_of_units (unitTo_besideUnits ..))
    have built : besideTrain s4 = besideTrain s3 := buildMap_besideTrain ..
    clear_value s4
    have sized : besideTrain s6 = besideTrain s4 := rfl
    have width : besideTrain s7 = besideTrain s6 := ite_keeps besideTrain rfl (widthCheck_besideTrain s6)
    have trained := width.trans (sized.trans (built.trans (spares.trans (pairs.trans (online.trans channels)))))
    exact (ite_keeps besideTrain rfl (commitMap_keeps besideTrain (fun _ _ _ => rfl) s7)).trans trained

/-! ### The spare map and the backing copies (R131, R148, R424) -/

theorem mapUnits_keeps {α : Type} (v : State → α) (hv : ∀ s u, v { s with units := u } = v s) (cls : Nat)
    (spared : List Nat) (serving : List (Nat × Nat)) (s : State) : v (mapUnits cls spared serving s) = v s := by
  unfold mapUnits
  extract_lets s1
  have out : v s1 = v s := foldl_keeps v _ _ _ fun _ _ => hv _ _
  exact (foldl_keeps v _ _ _ fun _ _ => (hv _ _).trans ((hv _ _).trans (hv _ _))).trans out

/-- What the committed map changes, beside the mesh and the units. -/
theorem mapApply_keeps {α : Type} (v : State → α) (units : ∀ s u, v { s with units := u } = v s)
    (mesh : ∀ s z, v { s with trz := z } = v s) (m : SpareMap) (s : State) : ∃ banks sensors, v (mapApply m s) = v { s with
      hom := { s.hom with pipeMap := m.homMap }
      spm := { s.spm with map := m.spmMap, banks := banks }
      px := { s.px with sliceMap := m.pxMap }
      th := { s.th with sensors := sensors } } := by
  unfold mapApply
  extract_lets banks _ _ _ _ s1 s2
  have ports : v s2 = v s1 := eachNat_keeps v _ _ s1 fun _ _ => by exact mesh ..
  clear_value s2
  have serving (cls : Nat) (l : List Nat) (r : List (Nat × Nat)) (u : State) : v (mapUnits cls l r u) = v u :=
    mapUnits_keeps v units cls l r u
  exact ⟨_, _, (serving ..).trans ((serving ..).trans ((serving ..).trans ((serving ..).trans ports)))⟩

/-- R424: the committed map stands in every block but the Juggler. -/
theorem mapApply_reads (m : SpareMap) (s : State) : (mapApply m s).hom.pipeMap = m.homMap ∧
    (mapApply m s).spm.map = m.spmMap ∧ (mapApply m s).px.sliceMap = m.pxMap ∧ (mapApply m s).jgl = s.jgl ∧
    (mapApply m s).clr = s.clr := by
  obtain ⟨banks, sensors, same⟩ :=
    mapApply_keeps (fun u => { u with units := [], trz := {} }) (fun _ _ => rfl) (fun _ _ => rfl) m s
  generalize mapApply m s = t at same ⊢
  exact ⟨(congrArg (fun u : State => u.hom.pipeMap) same :), (congrArg (fun u : State => u.spm.map) same :),
    (congrArg (fun u : State => u.px.sliceMap) same :), (congrArg State.jgl same :), (congrArg State.clr same :)⟩

/-- A state but for DRAM and what an entry may change. -/
def besideDram (s : State) : State := besideUnits { s with jgl := {} }

theorem besideDram_of_units {s t : State} (h : besideUnits t = besideUnits s) : besideDram t = besideDram s :=
  (congrArg (fun u : State => { u with jgl := {} }) h :)

theorem dramRange_reads (port addr : Nat) (s : State) : besideDram (dramRange port addr s) = besideDram s ∧
    (dramRange port addr s).jgl.limit = s.jgl.limit := by
  unfold dramRange
  extract_lets s1
  split
  · exact ⟨(besideDram_of_units (log_besideUnits ..)).trans rfl, by rw [log_jgl]; rfl⟩
  · exact ⟨rfl, rfl⟩

theorem dramStore_reads (port addr : Nat) (bs : List Byte) (s : State) :
    besideDram (dramStore port addr bs s) = besideDram s ∧ (dramStore port addr bs s).jgl.limit = s.jgl.limit := by
  unfold dramStore
  split
  · exact ⟨rfl, rfl⟩
  · split
    · exact dramRange_reads ..
    · exact ⟨rfl, rfl⟩

theorem dramStore_inside {port addr : Nat} {bs : List Byte} {s : State} (some_ : bs ≠ []) (inside : addr + bs.length ≤ s.jgl.limit) :
    dramStore port addr bs s = dramPut addr bs s := by
  rw [dramStore, if_neg (by simp [some_]), if_neg (by simp [dramInside, inside])]

theorem trainStageDone_waits {e : TrainEnv} {s : State} (waits : s.rm.stage ≠ .train ∨ s.rm.lref = false) :
    trainStageDone e s = s := by
  refine if_pos ?_
  rcases waits with other | absent
  · simp [other]
  · simp [absent]

/-- The stage CHECK entered, with the backing copy of the tables. -/
def checkEntered (s : State) : State :=
  { s with rm := { s.rm with stage := .check }, clr := { s.clr with backing := s.clr.tblAct } }

theorem trainStageDone_eq {s : State} (stage : s.rm.stage = .train) (lref : s.rm.lref = true) (e : TrainEnv) :
    trainStageDone e s = checkEntered (dramStore portRm waveBacking (sectionOf (slotImage s s.rm.runSlot) 3)
      (jglTrain e (mapApply (mapInForce s.mram) s))) := if_neg (by simp [stage, lref])

/-- R131, R148, R393, R424: what TRAIN leaves. -/
theorem trainStageDone_reads {s : State} (stage : s.rm.stage = .train) (lref : s.rm.lref = true) (e : TrainEnv) :
    let t := trainStageDone e s
    t.rm.stage = .check ∧
      (∀ w, w = sectionOf (slotImage s s.rm.runSlot) 3 → w ≠ [] → waveBacking + w.length ≤ t.jgl.limit →
        t.jgl.mem = memWrite 0 s.jgl.mem waveBacking w) ∧
      t.clr.backing = s.clr.tblAct ∧ t.hom.pipeMap = (mapInForce s.mram).homMap ∧
      t.spm.map = (mapInForce s.mram).spmMap ∧ t.px.sliceMap = (mapInForce s.mram).pxMap := by
  rw [trainStageDone_eq stage lref]
  obtain ⟨hom, spm, px, jgl, clr⟩ := mapApply_reads (mapInForce s.mram) s
  generalize mapApply (mapInForce s.mram) s = u at hom spm px jgl clr ⊢
  have trained := jglTrain_besideTrain e u
  generalize jglTrain e u = v at trained ⊢
  have mem : v.jgl.mem = s.jgl.mem := by
    rw [← jgl]
    exact (congrArg (fun x : State => x.jgl.mem) trained :)
  generalize sectionOf (slotImage s s.rm.runSlot) 3 = wave
  obtain ⟨stored, limit⟩ := dramStore_reads portRm waveBacking wave v
  have beside : besideTrain { dramStore portRm waveBacking wave v with jgl := v.jgl } = besideTrain u :=
    (congrArg (fun x : State => besideTrain { x with jgl := v.jgl }) stored :).trans trained
  refine ⟨rfl, ?_, ?_, ?_, ?_, ?_⟩
  · rintro w rfl some_ inside
    have fits : waveBacking + w.length ≤ v.jgl.limit := limit ▸ inside
    rw [checkEntered, dramStore_inside some_ fits, dramPut, mem]
  · exact (congrArg (fun x : State => x.clr.tblAct) beside :).trans (congrArg Clr.tblAct clr)
  · exact (congrArg (fun x : State => x.hom.pipeMap) beside :).trans hom
  · exact (congrArg (fun x : State => x.spm.map) beside :).trans spm
  · exact (congrArg (fun x : State => x.px.sliceMap) beside :).trans px

end Sys2Proof.Machine
end

section
/-! CHECK, READY and the stages of start as a whole (R348, R388, R393, R394, R423, R424). -/

namespace Sys2Proof.Machine

/-! ### CHECK and READY (R348, R388, R394) -/

theorem startTestFail_keeps {α : Type} (v : State → α) (hv : ∀ s u, v { s with units := u } = v s) (cls i : Nat) (s : State) :
    v (startTestFail cls i s) = v s := ite_keeps v (hv _ _) rfl

theorem tripSlot_of_mram {s t : State} (h : t.mram = s.mram) : tripSlot t = tripSlot s := by
  have held : tripHeld t = tripHeld s := by
    funext i
    rw [tripHeld, tripHeld, h]
  rw [tripSlot, tripSlot, ringOrder, ringOrder, held, h]

/-- R388: an uncleared trip record restricts the device. -/
theorem tripCheck_reads (s : State) : (tripCheck s).hq = s.hq ∧ (tripCheck s).genBase = s.genBase ∧
    ((tripSlot s).isSome → (tripCheck s).th.restricted = true) := by
  unfold tripCheck
  split
  next none_ => exact ⟨rfl, rfl, fun held => absurd none_ (by simp [Option.isSome_iff_ne_none.1 held])⟩
  next =>
    extract_lets _ s1
    split <;> exact ⟨rfl, rfl, fun _ => rfl⟩

theorem meshStartAll_apart (s : State) : apart (meshStartAll s) = apart s :=
  eachNat_keeps apart _ _ s fun _ _ => ite_keeps apart ((meshTrain_apart ..).trans (modMesh_apart ..)) rfl

theorem bootConfirm_keeps {α : Type} (v : State → α) (hv : ∀ s f m, v { s with fw := f, mram := m } = v s) (s : State) :
    v (bootConfirm s) = v s := by
  have slot (i : Nat) (f : FwSlot → FwSlot) (u : State) : v (modFwSlot i f u) = v u := hv u _ u.mram
  unfold bootConfirm
  extract_lets n _ s1 run svn s2
  have begun : v s1 = v s := hv s _ s.mram
  have slots : v s2 = v s1 := (slot ..).trans (slot ..)
  exact ite_keeps v begun ((hv s2 s2.fw _).trans (slots.trans begun))

/-- R394: READY with nothing held. -/
theorem readyEnter_reads {s : State} (none_ : s.hq.early = []) : (readyEnter s).rm.stage = .ready ∧
    (readyEnter s).genBase = s.genBase ∧ (readyEnter s).th = s.th := by
  unfold readyEnter
  extract_lets held _ _ s1 s2 _ s' s3
  have nothing : held = [] := none_
  have entered : s2 = s1 := congrArg (applyEarly · s1) nothing
  have window : (s3.rm, s3.genBase, s3.th) = (s2.rm, s2.genBase, s2.th) := by
    let v (u : State) := (u.rm, u.genBase, u.th)
    exact ite_keeps v (ite_keeps v ((bootConfirm_keeps v (fun _ _ _ => rfl) _).trans rfl) rfl) rfl
  rw [entered] at window
  clear_value s3
  obtain ⟨rm, gen, th⟩ : s3.rm = s1.rm ∧ s3.genBase = s1.genBase ∧ s3.th = s1.th := by
    simpa only [Prod.mk.injEq] using window
  have mesh := meshStartAll_apart s3
  generalize meshStartAll s3 = t at mesh ⊢
  refine ⟨?_, (congrArg State.genBase mesh :).trans gen, (congrArg State.th mesh :).trans th⟩
  rw [rm_of_apart mesh, rm]

/-- Every unit tested at start. -/
def startTested (e : CheckEnv) (s : State) : State :=
  (e.sparesFailed.filter fun i => decide (36 ≤ i ∧ i < 40)).foldl (fun s i => startTestFail 5 i s)
    ((e.banksFailed.filter (· < 544)).foldl (fun s b => startTestFail 1 b s) s)

theorem startTested_keeps {α : Type} (v : State → α) (hv : ∀ s u, v { s with units := u } = v s) (e : CheckEnv) (s : State) :
    v (startTested e s) = v s :=
  (foldl_keeps v _ _ _ fun _ _ => startTestFail_keeps v hv ..).trans (foldl_keeps v _ _ _ fun _ _ => startTestFail_keeps v hv ..)

theorem checkDone_elsewhere {e : CheckEnv} {s : State} (other : s.rm.stage ≠ .check) : checkDone e s = s :=
  if_pos (by simp [other])

theorem checkDone_eq {s : State} (stage : s.rm.stage = .check) (e : CheckEnv) :
    checkDone e s = readyEnter (tripCheck (gensStart (startTested e s))) := if_neg (by simp [stage])

/-- R348, R388, R394: the end of CHECK. -/
theorem checkDone_reads {s : State} (stage : s.rm.stage = .check) (none_ : s.hq.early = []) (e : CheckEnv) :
    let t := checkDone e s
    t.rm.stage = .ready ∧ t.genBase = BitVec.ofNat 16 (256 * s.mram.bootCount) ∧
      ((tripSlot s).isSome → t.th.restricted = true) := by
  rw [checkDone_eq stage]
  have mram : (startTested e s).mram = s.mram := startTested_keeps State.mram (fun _ _ => rfl) e s
  have hq : (startTested e s).hq = s.hq := startTested_keeps State.hq (fun _ _ => rfl) e s
  generalize startTested e s = u at mram hq ⊢
  obtain ⟨hq', gen, restricted⟩ := tripCheck_reads (gensStart u)
  have early : (tripCheck (gensStart u)).hq.early = [] := by
    rw [hq']
    exact (congrArg Hq.early hq).trans none_
  obtain ⟨ready, gen', th⟩ := readyEnter_reads early
  refine ⟨ready, ?_, fun held => ?_⟩
  · rw [gen', gen, ← mram]
    rfl
  · rw [th]
    exact restricted (tripSlot_of_mram (t := gensStart u) mram ▸ held)

/-! ### A commitment that failed (R423, R424) -/

theorem commitRetry_none {ok : Bool} {s : State} (none_ : s.cal.retryMap = false) : commitRetry ok s = s :=
  if_neg (by simp [none_])

theorem commitRetry_again {ok : Bool} {s : State} (again : s.cal.retryMap = true) : commitRetry ok s = commitMap ok s :=
  if_pos again

/-- R424: a commitment that fails once more is tried again, and MRAM_COMMIT shows. -/
theorem commitMap_fails (s : State) : (commitMap false s).cal.retryMap = true ∧ bitOf (commitMap false s).cal.err 3 = true ∧
    (commitMap false s).mram = s.mram := by
  rw [commitMap, if_neg Bool.false_ne_true]
  have logged := log_besideUnits .calMramFail [] (calErr 3 { s with cal := { s.cal with retryMap := true } })
  have cal : (log .calMramFail [] (calErr 3 { s with cal := { s.cal with retryMap := true } })).cal = _ :=
    (congrArg State.cal logged :)
  refine ⟨congrArg Cal.retryMap cal, ?_, (mram_of_units logged).trans rfl⟩
  rw [cal]
  exact bitOf_setBit _ (by omega)

end Sys2Proof.Machine

namespace Sys2Proof

open Machine

section
variable {s : State} (hq : Quiet s)
include hq

theorem por_stage : (∀ v w, s.rm.stage ≠ .por → exec (.bootPorDone v w) s = .next s) ∧
    (s.rm.stage = .por → s.rm.brown = none → s.rm.tripped = false → s.rm.vaon = true → s.rm.tamperLatch = false →
      s.mram.pending = none → s.rm.lref = true → ∀ v w, exec (.bootPorDone v w) s = .next { s with
        mram := { s.mram with bootCount := (s.mram.bootCount + 1) % 2 ^ 32 }
        rm := { s.rm with stage := .rom } }) ∧
    (s.rm.stage = .por → s.rm.brown = none → s.rm.tripped = false → s.rm.vaon = true → s.rm.tamperLatch = true →
      s.mram.pending = none → ∀ v w, ∃ t, exec (.bootPorDone v w) s = .next t ∧ t.rm.stage = .rom ∧
        t.rm.tamperLatch = false ∧ t.rm.tamperSeen = true ∧ t.spm.wipeCause = 1 ∧
        (v.first = [] → t.spm.wipeActive = false ∧ t.spm.wipePassed = true) ∧
        (∀ l, l ∈ v.first → l ∈ v.second → l < 16 → t.spm.wipePassed = false ∧ bitOf t.spm.err 3 = true)) := by
  refine ⟨fun v w other => row_noop _ s hq (porDone_elsewhere other), ?_, ?_⟩
  · intro por powered cool vaon untouched none_ lref v w
    refine row_exact hq ((porDone_plain por powered cool vaon none_ untouched).trans ?_) rfl rfl
    rw [lref]
    rfl
  · intro por powered cool vaon latched none_ v w
    exact row_leaves hq (porDone_holds v w s) (porDone_wipes por powered cool vaon none_ latched) fun _ _ h => h

theorem rom_stage (rom : s.rm.stage = .rom) (serves : s.mram.lifecycle ≠ .retired) :
    (∀ i, slotIn s .pending = none → slotIn s .trial = none → slotIn s .confirmed = some i →
      imgOk s 0 (slotImage s i) = true → exec .bootRomDone s = .next { s with rm := { s.rm with
        stage := .load, runSlot := i, trialIndex := 0, wdogRunning := true, wdogStart := mtOf s } }) ∧
    (∀ i, slotIn s .pending = some i → imgOk s 0 (slotImage s i) = true →
      ∃ t, exec .bootRomDone s = .next t ∧ t.rm.stage = .load ∧ t.rm.runSlot = i ∧ t.rm.trialIndex = 1 ∧
        (fwSlot t i).state = .trial ∧ fwSlot t (1 - i) = fwSlot s (1 - i) ∧ t.fw.trialBoot = 1 ∧
        t = { s with rm := t.rm, fw := t.fw }) ∧
    (slotIn s .pending = none → slotIn s .trial = none → slotIn s .confirmed = none → slotIn s .valid = none →
      ∃ t, exec .bootRomDone s = .next t ∧ t.rm.stage = .recovery ∧ t = { s with rm := t.rm }) :=
  ⟨fun _ pending trial confirmed ok => row_exact hq (romDone_confirmed rom serves pending trial confirmed ok) rfl rfl,
    fun _ pending ok => ⟨_, row_exact hq (romDone_pending rom serves pending ok) rfl rfl,
      slotRuns_trial (slotIn_some pending).1 s⟩,
    fun pending trial confirmed valid =>
      ⟨_, row_exact hq (romDone_noSlot rom serves pending trial confirmed valid) rfl rfl, rfl, rfl⟩⟩

theorem rom_retired (rom : s.rm.stage = .rom) (retired : s.mram.lifecycle = .retired) :
    ∃ t, exec .bootRomDone s = .next t ∧ t.rm.stage = .recovery ∧ t = { s with rm := t.rm } :=
  ⟨_, row_exact hq (romDone_retired rom retired) rfl rfl, rfl, rfl⟩

theorem load_stage (c : ConfigItems) (load : s.rm.stage = .load) : ∃ t, exec (.bootLoadDone c) s = .next t ∧
    t.rm.stage = .train ∧
    (s.spm.map = [] → s.spm.banks = [] → s.spm.bringIn = none → ∀ n off, n < 3 → off < imageLen →
      waveCell t n off = some (memByte 0 (memWrite 0 [] 0 (sectionOf (slotImage s s.rm.runSlot) 3)) off)) ∧
    t.log.codes = c.dictCodes ∧ t.px.config = c.partnerConfig ∧
    (s.fw.activeCfg < 2 → imgOk s 1 (copyImage s s.fw.activeCfg) = true →
      t.rm.cfgCopy = s.fw.activeCfg ∧ t.hq.portLock = true ∧ t.trn.lock = true ∧ t.fw.confirmLock = true ∧
      t.hq.subsystem = c.subsystem) := by
  obtain ⟨train, waves, codes, config⟩ := loadDone_lays c load
  exact row_leaves hq (loadDone_holds c s) ⟨train, waves, codes, config, loadDone_takes c load⟩ fun _ _ h => h

end

/-- Settles O42, stage by stage: each operation's case for the stage it belongs to, and nothing in any other. -/
theorem startStages : Obligations.StartStages := by
  unfold Obligations.StartStages
  intro s hq
  obtain ⟨elsewhere, plain, tampered⟩ := por_stage hq
  exact ⟨elsewhere, plain, tampered, fun other => row_noop _ s hq (romDone_elsewhere other), rom_stage hq, rom_retired hq,
    fun c other => row_noop _ s hq (loadDone_elsewhere c other), load_stage hq,
    fun e waits => row_noop _ s hq (trainStageDone_waits waits),
    fun e train lref => row_leaves hq (trainStageDone_holds e s) (trainStageDone_reads train lref e) fun _ _ h => h,
    fun e other => row_noop _ s hq (checkDone_elsewhere other),
    fun e check none_ => row_leaves hq (checkDone_holds e s) (checkDone_reads check none_ e) fun _ _ h => h,
    fun ok none_ => row_noop _ s hq (commitRetry_none none_),
    fun again => row_leaves hq (commitRetry_holds true s)
      (commitRetry_again again ▸ ⟨rfl, commitMap_inForce s⟩) fun _ _ h => h,
    fun again => row_leaves hq (commitRetry_holds false s) (commitRetry_again again ▸ commitMap_fails s) fun _ _ h => h⟩

end Sys2Proof
end

section
/-! SUPPORT. The Contortionist's reads of DRAM behind a command, and the checks that SAVE and RESTORE share (R250, R277,
R279). -/

namespace Sys2Proof.Machine

/-! ### The commands of the job engine (R237, R276, R279) -/

section
variable (h : Hdr) (v : State)

theorem runCmd_ctnEncode (p : CtnJobP) : runCmd h (.ctnEncode p) v =
    if noService v then complete (opcodeOf (.ctnEncode p)) h .noResource 0 v else doJob false h p v := by
  simp only [runCmd, privChannel, needsService, Bool.false_eq_true, if_false, Bool.true_and]

theorem runCmd_ctnDecode (p : CtnJobP) : runCmd h (.ctnDecode p) v =
    if noService v then complete (opcodeOf (.ctnDecode p)) h .noResource 0 v else doJob true h p v := by
  simp only [runCmd, privChannel, needsService, Bool.false_eq_true, if_false, Bool.true_and]

theorem runCmd_ctnSave (p : CtnStateP) : runCmd h (.ctnSave p) v =
    if noService v then complete (opcodeOf (.ctnSave p)) h .noResource 0 v else doCtxSave h p v := by
  simp only [runCmd, privChannel, needsService, Bool.false_eq_true, if_false, Bool.true_and]

theorem runCmd_ctnRestore (p : CtnStateP) : runCmd h (.ctnRestore p) v =
    if noService v then complete (opcodeOf (.ctnRestore p)) h .noResource 0 v else doCtxRestore h p v := by
  simp only [runCmd, privChannel, needsService, Bool.false_eq_true, if_false, Bool.true_and]

end

/-! ### The job engine's state with a command in flight, and with tokens spent -/

section
variable (op : Byte) (h : Hdr) (s : State)

theorem toFlight_ctn : (toFlight op h s).ctn = s.ctn := toFlight_keeps State.ctn op h s fun _ => rfl
theorem toFlight_jgl : (toFlight op h s).jgl = s.jgl := toFlight_keeps State.jgl op h s fun _ => rfl

end

theorem ctxOf_of_ctn {s t : State} (h : t.ctn = s.ctn) (c : Nat) : ctxOf t c = ctxOf s c := by
  rw [ctxOf, h, ctxOf]

/-- A read of DRAM is a matter of its bytes, its poisoned lines and its limit. -/
structure SameDram (t s : State) : Prop where
  mem : t.jgl.mem = s.jgl.mem
  poisoned : t.jgl.poisoned = s.jgl.poisoned
  limit : t.jgl.limit = s.jgl.limit

namespace SameDram
variable {s t u : State}

theorem of_jgl (h : t.jgl = s.jgl) : SameDram t s := ⟨by rw [h], by rw [h], by rw [h]⟩

theorem drained (p k : Nat) (h : SameDram t s) : SameDram (regDrain p k t) s := ⟨h.mem, h.poisoned, h.limit⟩

variable (h : SameDram t s) (a n : Nat)
include h

theorem bytes : dramBytes t a n = dramBytes s a n := by
  rw [dramBytes, dramBytes, h.mem, h.limit]

theorem inside : dramInside t a n = dramInside s a n := by
  rw [dramInside, dramInside, h.limit]

theorem marked : dramPoisoned t a n = dramPoisoned s a n := by
  rw [dramPoisoned, dramPoisoned, h.inside, lineMarked, lineMarked, h.poisoned]

end SameDram

/-- A read of DRAM that the Turnstile passes, below JGL_LIMIT, each of its lines clean. -/
theorem jobRead_clean {m a n : Nat} {s : State} (pass : trnCheck s 0 m .r a n = .pass) (inside : dramInside s a n = true) :
    jobRead m false a n [] s = (none, ⟨dramBytes s a n, dramPoisoned s a n, false⟩, s) := by
  have read : dramRead 9 a n [] s = (⟨dramBytes s a n, dramPoisoned s a n, false⟩, s) := by
    rw [dramRead, if_neg (by simp [inside])]
    simp [eccRun]
  simp only [jobRead, Bool.false_eq_true, if_false, trnAccess_pass pass, read]

/-! ### SAVE and RESTORE (R279) -/

section
variable {op : Byte} {h : Hdr} {p : CtnStateP} {go : State → State} {s : State}

theorem ctxCommand_disabled (off : bitOf s.ctn.ctrl 0 = false) : ctxCommand op h p go s = complete op h .unsupported 0 s :=
  if_pos (by simp [off])

variable (on : bitOf s.ctn.ctrl 0 = true) (len : p.length = 33024) (fits : p.addr.toNat + 33024 ≤ s.jgl.limit)
  (ctx : p.ctx.toNat < 64) (aligned : p.addr.toNat % 64 = 0) (rsvd : p.rsvd = false)
include on len fits ctx aligned rsvd

theorem ctxCommand_passes : ctxCommand op h p go s =
    if (ctxOf s p.ctx.toNat).state == .running then complete op h .busy 0 s
    else regBulk 9 (flits p.addr.toNat 33024) go s := by
  unfold ctxCommand
  extract_lets fin
  rw [if_neg (by simp [on]), if_neg (by simp [len]), if_neg (by simp [len]), if_neg (by simp [spaceOk, fits]),
    if_neg (by simp [aligned, rsvd, ctx])]

theorem ctxCommand_busy (running : (ctxOf s p.ctx.toNat).state = .running) :
    ctxCommand op h p go s = complete op h .busy 0 s := by
  rw [ctxCommand_passes on len fits ctx aligned rsvd, if_pos (by simp [running])]

theorem ctxCommand_goes (idle : (ctxOf s p.ctx.toNat).state ≠ .running)
    (issues : regIssues 9 (flits p.addr.toNat 33024) s = true) :
    ctxCommand op h p go s = go (regDrain 9 (flits p.addr.toNat 33024) s) := by
  rw [ctxCommand_passes on len fits ctx aligned rsvd, if_neg (by simp [idle]), regBulk,
    if_neg (by simp [flits_ne_zero]), if_pos issues]

end

section
variable {h : Hdr} {p : CtnStateP} {s : State}

/-- The state in which SAVE or RESTORE moves its image. -/
def imageMoves (op : Byte) (h : Hdr) (p : CtnStateP) (s : State) : State :=
  regDrain 9 (flits p.addr.toNat 33024) (toFlight op h s)

theorem imageMoves_ctx (op : Byte) (c : Nat) : ctxOf (imageMoves op h p s) c = ctxOf s c := ctxOf_of_ctn (toFlight_ctn op h s) c

theorem imageMoves_dram (op : Byte) : SameDram (imageMoves op h p s) s := (SameDram.of_jgl (toFlight_jgl op h s)).drained _ _

theorem imageMoves_trnCheck (op : Byte) {perm : Perm} (pass : trnCheck s 0 (srcMaster s h.src) perm p.addr.toNat 33024 = .pass) :
    trnCheck (imageMoves op h p s) 0 (srcMaster (imageMoves op h p s) h.src) perm p.addr.toNat 33024 = .pass := by
  have master : srcMaster (imageMoves op h p s) h.src = srcMaster s h.src := by
    rw [← srcMaster_toFlight op h s]
    cases h.src <;> rfl
  have trn : (imageMoves op h p s).trn = s.trn := toFlight_trn op h s
  rw [master, trnCheck_congr trn, pass]

variable (on : bitOf s.ctn.ctrl 0 = true) (len : p.length = 33024) (fits : p.addr.toNat + 33024 ≤ s.jgl.limit)
  (ctx : p.ctx.toNat < 64) (aligned : p.addr.toNat % 64 = 0) (rsvd : p.rsvd = false)
include on len fits ctx aligned rsvd

theorem ctxCommand_flies_busy (op : Byte) (go : State → State) (running : (ctxOf s p.ctx.toNat).state = .running) :
    ctxCommand op h p go (toFlight op h s) = complete op h .busy 0 (toFlight op h s) := by
  have ctn := toFlight_ctn op h s
  refine ctxCommand_busy (by rw [ctn, on]) len ?_ ctx aligned rsvd (by rw [ctxOf_of_ctn ctn, running])
  rw [toFlight_jgl]
  exact fits

theorem ctxCommand_flies (op : Byte) (go : State → State) (idle : (ctxOf s p.ctx.toNat).state ≠ .running)
    (issues : regIssues 9 (flits p.addr.toNat 33024) s = true) :
    ctxCommand op h p go (toFlight op h s) = go (imageMoves op h p s) := by
  have ctn := toFlight_ctn op h s
  refine ctxCommand_goes (by rw [ctn, on]) len ?_ ctx aligned rsvd (by rw [ctxOf_of_ctn ctn]; exact idle) ?_
  · rw [toFlight_jgl]
    exact fits
  · rw [regIssues_toFlight, issues]

variable (idle : (ctxOf s p.ctx.toNat).state ≠ .running) (issues : regIssues 9 (flits p.addr.toNat 33024) s = true)
include idle issues

/-- R279: SAVE stores the image of its context. -/
theorem doCtxSave_stores (pass : trnCheck s 0 (srcMaster s h.src) .w p.addr.toNat 33024 = .pass) :
    doCtxSave h p (toFlight 0x62 h s) = complete 0x62 h .ok 0
      (dramStore 9 p.addr.toNat (ctxImage (ctxOf s p.ctx.toNat)) (imageMoves 0x62 h p s)) := by
  rw [doCtxSave, ctxCommand_flies on len fits ctx aligned rsvd 0x62 _ idle issues,
    trnAccess_pass (imageMoves_trnCheck 0x62 pass)]
  dsimp only
  rw [imageMoves_ctx]

/-- R279: RESTORE reads an image, and takes it where it checks. -/
theorem doCtxRestore_reads (pass : trnCheck s 0 (srcMaster s h.src) .r p.addr.toNat 33024 = .pass)
    (clean : dramPoisoned s p.addr.toNat 33024 = false) :
    doCtxRestore h p (toFlight 0x63 h s) =
      if imageOk (dramBytes s p.addr.toNat 33024) = true then complete 0x63 h .ok 0
        (modCtx p.ctx.toNat (fun x => { imageCtx (dramBytes s p.addr.toNat 33024) with lastStatus := x.lastStatus })
          (imageMoves 0x63 h p s))
      else complete 0x63 h .integrity 0 (ctnErr 4 (imageMoves 0x63 h p s)) := by
  have same := imageMoves_dram (h := h) (p := p) (s := s) 0x63
  have inside : dramInside (imageMoves 0x63 h p s) p.addr.toNat 33024 = true := by
    rw [same.inside]
    exact decide_eq_true fits
  rw [doCtxRestore, ctxCommand_flies on len fits ctx aligned rsvd 0x63 _ idle issues,
    jobRead_clean (imageMoves_trnCheck 0x63 pass) inside]
  dsimp only
  rw [same.marked, clean, if_neg Bool.false_ne_true, same.bytes]
  by_cases ok : imageOk (dramBytes s p.addr.toNat 33024) = true
  · rw [if_neg (by simp [ok]), if_pos ok]
  · rw [if_pos (by simpa using ok), if_neg ok]

end

end Sys2Proof.Machine

namespace Sys2Proof

open Machine

section
variable {h : Hdr} {p : CtnStateP} {s : State}

theorem save_ends {st : Status} {u : State} {P : State → Prop} (hs : Starts h (.ctnSave p) s)
    (hr : doCtxSave h p (toFlight 0x62 h s) = complete 0x62 h st 0 u)
    (hu : u.hq.inflight = (toFlight 0x62 h s).hq.inflight) (hP : P u) : Ends (.ctnSaveState h p) 0x62 h st 0 s P :=
  served_ends rfl hs rfl rfl (runCmd_ctnSave h · p) (doCtxSave_holds h p) hr hu hP

theorem restore_ends {st : Status} {u : State} {P : State → Prop} (hs : Starts h (.ctnRestore p) s)
    (hr : doCtxRestore h p (toFlight 0x63 h s) = complete 0x63 h st 0 u)
    (hu : u.hq.inflight = (toFlight 0x63 h s).hq.inflight) (hP : P u) : Ends (.ctnRestoreState h p) 0x63 h st 0 s P :=
  served_ends rfl hs rfl rfl (runCmd_ctnRestore h · p) (doCtxRestore_holds h p) hr hu hP

end

/-- Settles O29: the checks that both commands share, then what moves between the context and its image. -/
theorem contextIsSavedAndRestored : Obligations.ContextIsSavedAndRestored := by
  unfold Obligations.ContextIsSavedAndRestored
  intro h p s len fits ctx aligned rsvd c k
  refine ⟨fun off => ⟨fun hs => ?_, fun hs => ?_⟩, fun on issues => ⟨fun hs => ⟨fun running => ?_, fun idle pass => ?_⟩,
    fun hs => ⟨fun running => ?_, fun idle pass clean => ⟨fun ok => ?_, fun bad => ?_⟩⟩⟩⟩
  · exact save_ends hs (ctxCommand_disabled (by rw [toFlight_ctn, off])) rfl rfl
  · exact restore_ends hs (ctxCommand_disabled (by rw [toFlight_ctn, off])) rfl rfl
  · exact save_ends hs (ctxCommand_flies_busy on len fits ctx aligned rsvd 0x62 _ running) rfl rfl
  · exact save_ends hs (doCtxSave_stores on len fits ctx aligned rsvd idle issues pass) (dramStore_inflight ..) rfl
  · exact restore_ends hs (ctxCommand_flies_busy on len fits ctx aligned rsvd 0x63 _ running) rfl rfl
  · exact restore_ends hs ((doCtxRestore_reads on len fits ctx aligned rsvd idle issues pass clean).trans (if_pos ok)) rfl rfl
  · exact restore_ends hs
      ((doCtxRestore_reads on len fits ctx aligned rsvd idle issues pass clean).trans (if_neg (by simp [bad]))) rfl
      ⟨(congrArg Ctn.ctxs (toFlight_ctn 0x63 h s) :), rfl⟩

end Sys2Proof
end

section
/-! SUPPORT. A coder job from its acceptance to its end (R250, R274, R276 to R278, R281). -/

namespace Sys2Proof.Machine

/-! ### Acceptance (R276, R277, R281) -/

/-- A job counted. -/
def jobCounted (s : State) : State := { s with ctn := { s.ctn with jobCount := satAdd 32 s.ctn.jobCount 1 } }

/-- A status told as the last of a context. -/
def jobTold (c : Nat) (st : Status) (s : State) : State := modCtx c (fun x => { x with lastStatus := statusCode st }) s

section
variable {decode : Bool} {h : Hdr} {p : CtnJobP} {s : State} (on : bitOf s.ctn.ctrl 0 = true)
  (range : jobRangeBad s p = false) (param : jobParamBad decode p = false)

theorem ctx_of_jobParam (param : jobParamBad decode p = false) : p.ctx.toNat < 64 := by
  unfold jobParamBad at param
  extract_lets coder elem fixed part at param
  simp only [Bool.or_eq_false_iff, decide_eq_false_iff_not] at param
  omega

include on range param

theorem doJob_checked : doJob decode h p s =
    if (ctxOf s p.ctx.toNat).state == .running then jobAtOnce decode h p.ctx.toNat .busy s
    else if jobStateBad decode p (ctxOf s p.ctx.toNat) then jobAtOnce decode h p.ctx.toNat .badParam s
    else if !jobResume p && p.srcLen == 0 && (decode || !jobLast p) then jobAtOnce decode h p.ctx.toNat .ok s
    else modCtx p.ctx.toNat (jobCtx decode h p (srcMaster s h.src)) s := by
  unfold doJob
  extract_lets c fin x
  rw [if_neg (by simp [on]), if_neg (by simp [range]), if_neg (by simp [param])]

/-- R277: a RUNNING context takes no other job. -/
theorem doJob_busy (running : (ctxOf s p.ctx.toNat).state = .running) :
    doJob decode h p s = complete (jobOp decode) h .busy 0 (jobCounted s) := by
  rw [doJob_checked on range param, if_pos (by simp [running]), jobAtOnce, if_pos (.inr running)]
  rfl

variable (still : (ctxOf s p.ctx.toNat).state ≠ .running)
include still

/-- R277, R281: a collision completes the job, and its context tells so. -/
theorem doJob_collides (bad : jobStateBad decode p (ctxOf s p.ctx.toNat) = true) :
    doJob decode h p s = complete (jobOp decode) h .badParam 0 (jobTold p.ctx.toNat .badParam (jobCounted s)) := by
  have told : ¬ (64 ≤ p.ctx.toNat ∨ (ctxOf s p.ctx.toNat).state = .running) := by
    rintro (high | running)
    · exact absurd (ctx_of_jobParam param) (by omega)
    · exact still running
  rw [doJob_checked on range param, if_neg (by simp [still]), if_pos bad, jobAtOnce, if_neg told]
  rfl

/-- R277: a job that its context can take, with a source, starts on it. -/
theorem doJob_starts (fits : jobStateBad decode p (ctxOf s p.ctx.toNat) = false)
    (source : jobResume p = true ∨ p.srcLen.toNat ≠ 0) :
    doJob decode h p s = modCtx p.ctx.toNat (jobCtx decode h p (srcMaster s h.src)) s := by
  have work : (!jobResume p && p.srcLen == 0 && (decode || !jobLast p)) = false := by
    rcases source with resumed | some_
    · simp [resumed]
    · have some_' : (p.srcLen == 0) = false := beq_eq_false_iff_ne.2 fun none_ => some_ (congrArg BitVec.toNat none_)
      rw [some_', Bool.and_false, Bool.false_and]
  rw [doJob_checked on range param, if_neg (by simp [still]), if_neg (by simp [fits]), work, if_neg Bool.false_ne_true]

end

/-! ### The collisions of R277, and a job on its context -/

section
variable {decode : Bool} {p : CtnJobP} {x : Ctx}

theorem jobStateBad_new (first : jobFirst p = false) (resume : jobResume p = false)
    (none_ : x.state = .idle ∨ x.state = .error) : jobStateBad decode p x = true := by
  rcases none_ with idle | error
  · simp [jobStateBad, first, resume, idle]
  · simp [jobStateBad, first, resume, error]

theorem jobStateBad_resume (resume : jobResume p = true) (other : x.state ≠ .suspended) : jobStateBad decode p x = true := by
  simp [jobStateBad, resume, other]

theorem jobStateBad_first (first : jobFirst p = true) (resume : jobResume p = false) : jobStateBad decode p x = false := by
  simp [jobStateBad, first, resume]

theorem jobStateBad_resumes (resume : jobResume p = true) (first : jobFirst p = false) (suspended : x.state = .suspended)
    (dir : x.dir = decode) : jobStateBad decode p x = false := by
  simp [jobStateBad, first, resume, suspended, dir]

variable (decode) (h : Hdr) (m : Nat)

theorem jobCtx_state : (jobCtx decode h p m x).state = .running := by
  unfold jobCtx
  split <;> rfl

/-- R277: FIRST begins a new stream. -/
theorem jobCtx_first (first : jobFirst p = true) (resume : jobResume p = false) :
    let y := jobCtx decode h p m x
    y.state = .running ∧ y.coder = p.coder.toNat ∧ y.dir = decode ∧ y.srcNext = p.srcAddr.toNat ∧
      y.srcLeft = p.srcLen.toNat ∧ y.history = [] ∧ y.job = some (h, p, m) := by
  rw [jobCtx, if_neg (by simp [resume]), if_pos first]
  exact ⟨rfl, rfl, rfl, rfl, rfl, rfl, rfl⟩

theorem jobCtx_resume (resume : jobResume p = true) :
    jobCtx decode h p m x = { x with state := .running, job := some (h, p, m) } := if_pos resume

end

/-- The state with a job on its context. -/
def jobStarted (decode : Bool) (h : Hdr) (p : CtnJobP) (s : State) : State :=
  modCtx p.ctx.toNat (jobCtx decode h p (srcMaster s h.src)) (toFlight (jobOp decode) h s)

section
variable (decode : Bool) (h : Hdr) (p : CtnJobP) (s : State)

theorem jobStarted_reads : ctxOf (jobStarted decode h p s) p.ctx.toNat =
      jobCtx decode h p (srcMaster s h.src) (ctxOf s p.ctx.toNat) ∧
    (∀ k, k ≠ p.ctx.toNat → ctxOf (jobStarted decode h p s) k = ctxOf s k) ∧
    jobStarted decode h p s = { toFlight (jobOp decode) h s with ctn := { s.ctn with ctxs := (jobStarted decode h p s).ctn.ctxs } } := by
  have ctn := toFlight_ctn (jobOp decode) h s
  refine ⟨?_, fun k other => ?_, ?_⟩
  · rw [jobStarted, ctxOf_modCtx, ctxOf_of_ctn ctn]
    exact fun none_ => absurd ((jobCtx_state ..).symm.trans (congrArg Ctx.state none_)) (by decide)
  · rw [jobStarted, ctxOf_modCtx_ne _ _ _ _ other, ctxOf_of_ctn ctn]
  · rw [← ctn]
    rfl

theorem jobCounted_toFlight (op : Byte) : jobCounted (toFlight op h s) =
    { toFlight op h s with ctn := { s.ctn with jobCount := satAdd 32 s.ctn.jobCount 1 } } := by
  rw [jobCounted, toFlight_ctn]

variable {decode h p s} (on : bitOf s.ctn.ctrl 0 = true) (range : jobRangeBad s p = false)
  (param : jobParamBad decode p = false)
include on range param

theorem doJob_flies_busy (running : (ctxOf s p.ctx.toNat).state = .running) :
    doJob decode h p (toFlight (jobOp decode) h s) =
      complete (jobOp decode) h .busy 0 (jobCounted (toFlight (jobOp decode) h s)) := by
  have ctn := toFlight_ctn (jobOp decode) h s
  refine doJob_busy (by rw [ctn, on]) ?_ param (by rw [ctxOf_of_ctn ctn, running])
  exact (toFlight_keeps (jobRangeBad · p) _ h s fun _ => rfl).trans range

variable (still : (ctxOf s p.ctx.toNat).state ≠ .running)
include still

theorem doJob_flies_bad (bad : jobStateBad decode p (ctxOf s p.ctx.toNat) = true) :
    doJob decode h p (toFlight (jobOp decode) h s) =
      complete (jobOp decode) h .badParam 0 (jobTold p.ctx.toNat .badParam (jobCounted (toFlight (jobOp decode) h s))) := by
  have ctn := toFlight_ctn (jobOp decode) h s
  refine doJob_collides (by rw [ctn, on]) ?_ param (by rw [ctxOf_of_ctn ctn]; exact still) (by rw [ctxOf_of_ctn ctn, bad])
  exact (toFlight_keeps (jobRangeBad · p) _ h s fun _ => rfl).trans range

theorem doJob_flies (fits : jobStateBad decode p (ctxOf s p.ctx.toNat) = false)
    (source : jobResume p = true ∨ p.srcLen.toNat ≠ 0) :
    doJob decode h p (toFlight (jobOp decode) h s) = jobStarted decode h p s := by
  have ctn := toFlight_ctn (jobOp decode) h s
  rw [jobStarted, ← srcMaster_toFlight (jobOp decode) h s]
  refine doJob_starts (by rw [ctn, on]) ?_ param (by rw [ctxOf_of_ctn ctn]; exact still) (by rw [ctxOf_of_ctn ctn, fits]) source
  exact (toFlight_keeps (jobRangeBad · p) _ h s fun _ => rfl).trans range

end

/-! ### The end of a job (R277, R278) -/

theorem memWalk_length (d : Byte) (n a : Nat) (m : Mem) : (memWalk d n a m).length = n := by
  fun_induction memWalk d n a m with
  | case1 => rfl
  | case2 k a ih | case3 k v a r ih | case4 k a b v r other ih => rw [List.length_cons, ih]

/-- A job ended with nothing used and nothing made. -/
def jobEnded (c : Nat) (st : Status) (state : CtxState) (s : State) : State :=
  { s with ctn := { s.ctn with
    ctxs := spMod {} s.ctn.ctxs c fun x => { x with state := state, job := none, lastStatus := statusCode st }
    jobCount := satAdd 32 s.ctn.jobCount 1
    suspendCount := if st == .noResource then satAdd 32 s.ctn.suspendCount 1 else s.ctn.suspendCount } }

theorem jobFinish_nothing {c m : Nat} {h : Hdr} {p : CtnJobP} {s : State} (st : Status) (state : CtxState)
    (job : (ctxOf s c).job = some (h, p, m)) :
    jobFinish c st state 0 0 s = complete (jobOp (ctxOf s c).dir) h st 0 (jobEnded c st state s) := by
  simp only [jobFinish, job]
  rfl

theorem ctxOf_jobEnded {c : Nat} {st : Status} {state : CtxState} {s : State} (ended : state ≠ .idle) :
    ctxOf (jobEnded c st state s) c = { ctxOf s c with state := state, job := none, lastStatus := statusCode st } ∧
      ∀ k, k ≠ c → ctxOf (jobEnded c st state s) k = ctxOf s k := by
  have same : ∀ k, ctxOf (jobEnded c st state s) k =
      ctxOf (modCtx c (fun x => { x with state := state, job := none, lastStatus := statusCode st }) s) k := fun _ => rfl
  refine ⟨?_, fun k other => by rw [same, ctxOf_modCtx_ne _ _ _ _ other]⟩
  rw [same, ctxOf_modCtx]
  exact fun none_ => ended (congrArg Ctx.state none_)

/-- The Turnstile's note of a refusal changes its own block, and what an entry may change. -/
def besideTrn (s : State) : State := besideUnits { s with trn := State.reset.trn }

theorem trnNote_besideTrn (target m : Nat) (perm : Perm) (addr : Nat) (entry : Option Nat) (fence : Bool) (s : State) :
    besideTrn (trnNote target m perm addr entry fence s) = besideTrn s := by
  have logged (name : LogName) (args : List Nat) (u : State) : besideTrn (log name args u) = besideTrn u :=
    (congrArg (fun u : State => { u with trn := State.reset.trn }) (log_besideUnits name args u) :)
  unfold trnNote
  extract_lets t first info t1
  exact ite_keeps besideTrn ((logged ..).trans rfl) (ite_keeps besideTrn rfl ((logged ..).trans rfl))

/-- What a job leaves of a state before it puts anything out. -/
structure JobKept (u s : State) : Prop where
  mem : u.jgl.mem = s.jgl.mem
  poisoned : u.jgl.poisoned = s.jgl.poisoned
  spm : u.spm.mem = s.spm.mem
  ctn : u.ctn = s.ctn
  pending : u.pending = s.pending

theorem JobKept.trnNote {u s : State} (kept : JobKept u s) (target m : Nat) (perm : Perm) (addr : Nat) (entry : Option Nat)
    (fence : Bool) : JobKept (trnNote target m perm addr entry fence u) s := by
  have noted := trnNote_besideTrn target m perm addr entry fence u
  generalize Machine.trnNote target m perm addr entry fence u = w at noted ⊢
  exact ⟨(congrArg (fun u : State => u.jgl.mem) noted :).trans kept.mem,
    (congrArg (fun u : State => u.jgl.poisoned) noted :).trans kept.poisoned,
    (congrArg (fun u : State => u.spm.mem) noted :).trans kept.spm, (congrArg State.ctn noted :).trans kept.ctn,
    (congrArg State.pending noted :).trans kept.pending⟩

/-- The state in which a job reads its source: the Scratchpad's stall counted. -/
def jobReads (p : CtnJobP) (env : MemEnv) (s : State) : State :=
  if jobSrcSpm p || jobDstSpm p then spmBusy env.busy s else s

section
variable {c m : Nat} {p : CtnJobP} {env : MemEnv} {s u : State} {r : MemRes} (src : jobSrcSpm p = false)
  (reads : env.reads = [])
include src reads

/-- R277: a source that the Turnstile refuses fails its job. -/
theorem jobRun_refused {st : Status}
    (read : jobRead m false (ctxOf s c).srcNext (ctxOf s c).srcLeft [] (jobReads p env s) = (some st, r, u)) :
    jobRun c m p env s = jobFinish c st .error 0 0 (jobErrs st u) := by
  rw [jobRun, src, reads]
  rw [jobReads, src] at read
  simp only [read]

variable (read : jobRead m false (ctxOf s c).srcNext (ctxOf s c).srcLeft [] (jobReads p env s) = (none, r, u))
include read

/-- R278: a poisoned source fails its job. -/
theorem jobRun_poisoned (poison : r.poison = true) :
    jobRun c m p env s = jobFinish c .uncorrectable .error 0 0 (ctnErr 1 u) := by
  rw [jobRun, src, reads]
  rw [jobReads, src] at read
  simp only [read, poison, if_true]
  rfl

/-- R274: a lossless decode with a clean source. -/
theorem jobRun_decodes (clean : r.poison = false) (dir : (ctxOf s c).dir = true) (coder : (ctxOf s c).coder = 1) :
    ∃ env1 : MemEnv, jobRun c m p env s = runDecode c m p env1 (ctxOf s c) r.bytes r.retried u := by
  have lossless : ((ctxOf s c).dir && (ctxOf s c).coder == 1) = true := by rw [dir, coder]; rfl
  rw [jobRun, src, reads]
  rw [jobReads, src] at read
  simp only [read, clean, lossless, Bool.false_eq_true, if_false, if_true]
  exact ⟨_, rfl⟩

end

section
variable {c m : Nat} {p : CtnJobP} {env : MemEnv} {x : Ctx} {b : List Byte} {retried : Bool} {s : State}
  (new : x.headerDone = false)
include new

/-- R274: a source that is shorter than the header. -/
theorem runDecode_short (short : b.length < 8) : runDecode c m p env x b retried s =
    jobFinish c (jobVerdict .done (jobLast p) false retried).1 (jobVerdict .done (jobLast p) false retried).2 0 0
      (jobErrs (jobVerdict .done (jobLast p) false retried).1 s) := by
  rw [runDecode, if_neg (by simp [new]), if_pos short]

/-- R274, R278: a header that does not check. -/
theorem runDecode_badHeader (long : 8 ≤ b.length) (bad : lzHeaderOk (b.take 8) = false) :
    runDecode c m p env x b retried s = jobFinish c .integrity .error 0 0 (ctnErr 2 s) := by
  rw [runDecode, if_neg (by simp [new]), if_neg (by omega), if_pos (by simp [bad])]
  rfl

end

section
variable (n : Nat) (p : CtnJobP) (env : MemEnv) (s : State)

theorem jobReads_keeps {α : Type} (v : State → α) (tokens : v (regDrain 9 n s) = v s) (busy : ∀ u, v (spmBusy env.busy u) = v u) :
    v (jobReads p env (drained 9 n s)) = v s := by
  have spent : v (drained 9 n s) = v s := ite_keeps v rfl tokens
  unfold jobReads
  split
  · exact (busy _).trans spent
  · exact spent

theorem jobReads_kept : JobKept (jobReads p env (drained 9 n s)) s :=
  ⟨jobReads_keeps n p env s (fun u => u.jgl.mem) rfl fun _ => rfl,
    jobReads_keeps n p env s (fun u => u.jgl.poisoned) rfl fun _ => rfl,
    jobReads_keeps n p env s (fun u => u.spm.mem) rfl fun _ => rfl,
    jobReads_keeps n p env s State.ctn rfl fun _ => rfl, jobReads_keeps n p env s State.pending rfl fun _ => rfl⟩

theorem jobReads_dram : SameDram (jobReads p env (drained 9 n s)) s :=
  ⟨(jobReads_kept n p env s).mem, (jobReads_kept n p env s).poisoned,
    jobReads_keeps n p env s (fun u => u.jgl.limit) rfl fun _ => rfl⟩

theorem jobReads_trnCheck (m : Nat) (perm : Perm) (a k : Nat) :
    trnCheck (jobReads p env (drained 9 n s)) 0 m perm a k = trnCheck s 0 m perm a k :=
  trnCheck_congr (jobReads_keeps n p env s State.trn rfl fun _ => rfl) ..

end

theorem ctxOf_drained (k n : Nat) (s : State) (c : Nat) : ctxOf (drained k n s) c = ctxOf s c :=
  ctxOf_of_ctn (congrArg State.ctn (drained_eq k n s) :) c

theorem jobRead_source {c m : Nat} (n : Nat) (p : CtnJobP) (env : MemEnv) {s : State}
    (pass : trnCheck s 0 m .r (ctxOf s c).srcNext (ctxOf s c).srcLeft = .pass)
    (inside : dramInside s (ctxOf s c).srcNext (ctxOf s c).srcLeft = true) :
    jobRead m false (ctxOf (drained 9 n s) c).srcNext (ctxOf (drained 9 n s) c).srcLeft []
    (jobReads p env (drained 9 n s)) = (none, ⟨dramBytes s (ctxOf s c).srcNext (ctxOf s c).srcLeft,
      dramPoisoned s (ctxOf s c).srcNext (ctxOf s c).srcLeft, false⟩, jobReads p env (drained 9 n s)) := by
  have dram := jobReads_dram n p env s
  rw [ctxOf_drained, jobRead_clean ((jobReads_trnCheck n p env s m .r _ _).trans pass) ((dram.inside _ _).trans inside), dram.bytes,
    dram.marked]

section
variable {c m n : Nat} {h : Hdr} {p : CtnJobP} {env : MemEnv} {s : State} (running : (ctxOf s c).state = .running)
  (job : (ctxOf s c).job = some (h, p, m)) (src : jobSrcSpm p = false)
  (hn : n = flits (ctxOf s c).srcNext (ctxOf s c).srcLeft + if jobDstSpm p then 0 else 1)
  (issued : n = 0 ∨ regIssues 9 n s = true)
include running job src hn issued

/-- R250: a RUNNING job runs with its tokens spent. -/
theorem jobEndEvent_runs : jobEndEvent c env s = jobRun c m p env (drained 9 n s) := by
  simp only [jobEndEvent, running, job, src, Bool.false_eq_true, if_false]
  rw [← hn, regBulk_issued _ (.inr issued)]

variable (reads : env.reads = [])
include reads

/-- R277: a job whose source access is refused. -/
theorem jobEndEvent_refused {g : Nat} {e : Option Nat}
    (refused : trnCheck s 0 m .r (ctxOf s c).srcNext (ctxOf s c).srcLeft = .refused g e false) :
    ∃ w, JobKept w s ∧ jobEndEvent c env s = jobFinish c .access .error 0 0 (ctnErr 3 w) := by
  have same : ctxOf (drained 9 n s) c = ctxOf s c := ctxOf_drained ..
  have check := (jobReads_trnCheck n p env s m .r _ _).trans refused
  have read : jobRead m false (ctxOf (drained 9 n s) c).srcNext (ctxOf (drained 9 n s) c).srcLeft []
      (jobReads p env (drained 9 n s)) =
      (some .access, ⟨[], false, false⟩, trnNote 0 m .r g e false (jobReads p env (drained 9 n s))) := by
    rw [same]
    simp only [jobRead, trnAccess, Bool.false_eq_true, if_false, check]
  exact ⟨_, (jobReads_kept n p env s).trnNote .., (jobEndEvent_runs running job src hn issued).trans
    (jobRun_refused src reads read)⟩

variable (pass : trnCheck s 0 m .r (ctxOf s c).srcNext (ctxOf s c).srcLeft = .pass)
  (inside : dramInside s (ctxOf s c).srcNext (ctxOf s c).srcLeft = true)
include pass inside

/-- R278: a job whose source is poisoned. -/
theorem jobEndEvent_poisoned (poisoned : dramPoisoned s (ctxOf s c).srcNext (ctxOf s c).srcLeft = true) :
    jobEndEvent c env s =
      jobFinish c .uncorrectable .error 0 0 (ctnErr 1 (jobReads p env (drained 9 n s))) :=
  (jobEndEvent_runs running job src hn issued).trans (jobRun_poisoned src reads
    (jobRead_source n p env pass inside) poisoned)

variable (clean : dramPoisoned s (ctxOf s c).srcNext (ctxOf s c).srcLeft = false) (dir : (ctxOf s c).dir = true)
  (coder : (ctxOf s c).coder = 1)
include clean dir coder

theorem jobEndEvent_decodes : ∃ env1 : MemEnv, jobEndEvent c env s = runDecode c m p env1 (ctxOf s c)
    (dramBytes s (ctxOf s c).srcNext (ctxOf s c).srcLeft) false (jobReads p env (drained 9 n s)) := by
  have same : ctxOf (drained 9 n s) c = ctxOf s c := ctxOf_drained ..
  obtain ⟨env1, run⟩ := jobRun_decodes src reads (jobRead_source n p env pass inside) clean
    (same ▸ dir) (same ▸ coder)
  exact ⟨env1, (jobEndEvent_runs running job src hn issued).trans (run.trans (by rw [same]))⟩

variable (new : (ctxOf s c).headerDone = false)
include new

/-- R274, R278: a decode of a header that does not check. -/
theorem jobEndEvent_badHeader (long : 8 ≤ (ctxOf s c).srcLeft)
    (bad : lzHeaderOk ((dramBytes s (ctxOf s c).srcNext (ctxOf s c).srcLeft).take 8) = false) :
    jobEndEvent c env s = jobFinish c .integrity .error 0 0 (ctnErr 2 (jobReads p env (drained 9 n s))) := by
  obtain ⟨env1, run⟩ := jobEndEvent_decodes running job src hn issued reads pass inside clean dir coder
  rw [run, runDecode_badHeader new (by rw [dramBytes, memWalk_length]; exact long) bad]

/-- R274: a decode of a source that is shorter than the header. -/
theorem jobEndEvent_short (short : (ctxOf s c).srcLeft < 8) :
    jobEndEvent c env s = jobFinish c (jobVerdict .done (jobLast p) false false).1 (jobVerdict .done (jobLast p) false false).2
      0 0 (jobErrs (jobVerdict .done (jobLast p) false false).1 (jobReads p env (drained 9 n s))) := by
  obtain ⟨env1, run⟩ := jobEndEvent_decodes running job src hn issued reads pass inside clean dir coder
  rw [run, runDecode_short new (by rw [dramBytes, memWalk_length]; exact short)]

end

/-- What a job that fails before it puts anything out leaves. -/
theorem jobFinish_fails {c m i : Nat} {h : Hdr} {p : CtnJobP} {s w : State} (st : Status)
    (job : (ctxOf s c).job = some (h, p, m)) (kept : JobKept w s) (hi : i < 32) :
    let u := jobEnded c st .error (ctnErr i w)
    jobFinish c st .error 0 0 (ctnErr i w) = complete (jobOp (ctxOf s c).dir) h st 0 u ∧ u.pending = s.pending ∧
      ctxOf u c = { ctxOf s c with state := .error, job := none, lastStatus := statusCode st } ∧ bitOf u.ctn.err i = true ∧
      u.jgl.mem = s.jgl.mem ∧ u.jgl.poisoned = s.jgl.poisoned ∧ u.spm.mem = s.spm.mem ∧
      u.ctn.jobCount = satAdd 32 s.ctn.jobCount 1 ∧ (∀ k, k ≠ c → ctxOf u k = ctxOf s k) := by
  have same (k : Nat) : ctxOf (ctnErr i w) k = ctxOf s k := (rfl : ctxOf (ctnErr i w) k = ctxOf w k).trans (ctxOf_of_ctn kept.ctn k)
  obtain ⟨ended, others⟩ := ctxOf_jobEnded (c := c) (st := st) (state := .error) (s := ctnErr i w) (by decide)
  refine ⟨?_, kept.pending, by rw [ended, same], bitOf_setBit _ hi, kept.mem, kept.poisoned, kept.spm, ?_,
    fun k other => (others k other).trans (same k)⟩
  · rw [jobFinish_nothing st .error (by rw [same]; exact job), same]
  · rw [← kept.ctn]
    rfl

theorem jobErrs_reads (st : Status) (s : State) :
    (jobErrs st s).ctn.ctxs = s.ctn.ctxs ∧ jobErrs st s = { s with ctn := (jobErrs st s).ctn } := by
  unfold jobErrs
  split <;> exact ⟨rfl, rfl⟩

/-- What a job that puts nothing out leaves. -/
theorem jobFinish_quiet {c m : Nat} {h : Hdr} {p : CtnJobP} {s w : State} (st : Status) {state : CtxState}
    (job : (ctxOf s c).job = some (h, p, m)) (ctn : w.ctn = s.ctn) (ended : state ≠ .idle) :
    let u := jobEnded c st state (jobErrs st w)
    jobFinish c st state 0 0 (jobErrs st w) = complete (jobOp (ctxOf s c).dir) h st 0 u ∧
      ctxOf u c = { ctxOf s c with state := state, job := none, lastStatus := statusCode st } ∧ u = { w with ctn := u.ctn } := by
  obtain ⟨ctxs, beside⟩ := jobErrs_reads st w
  have same : ctxOf (jobErrs st w) c = ctxOf s c := by rw [ctxOf, ctxs, ctn, ctxOf]
  refine ⟨?_, by rw [(ctxOf_jobEnded ended).1, same], ?_⟩
  · rw [jobFinish_nothing st state (by rw [same]; exact job), same]
  · exact (congrArg (fun u : State => jobEnded c st state u) beside).trans rfl

theorem jobVerdict_short (last : Bool) : jobVerdict .done last false false = if last then (.integrity, .error) else (.ok, .open_) := by
  cases last <;> rfl

end Sys2Proof.Machine

namespace Sys2Proof

open Machine

section
variable {h : Hdr} {p : CtnJobP} {s u : State} {P : State → Prop}

theorem encode_ends {st : Status} (hs : Starts h (.ctnEncode p) s)
    (hr : doJob false h p (toFlight 0x60 h s) = complete 0x60 h st 0 u)
    (hu : u.hq.inflight = (toFlight 0x60 h s).hq.inflight) (hP : P u) : Ends (.ctnEncode h p) 0x60 h st 0 s P :=
  served_ends rfl hs rfl rfl (runCmd_ctnEncode h · p) (doJob_holds false h p) hr hu hP

theorem decode_ends {st : Status} (hs : Starts h (.ctnDecode p) s)
    (hr : doJob true h p (toFlight 0x61 h s) = complete 0x61 h st 0 u)
    (hu : u.hq.inflight = (toFlight 0x61 h s).hq.inflight) (hP : P u) : Ends (.ctnDecode h p) 0x61 h st 0 s P :=
  served_ends rfl hs rfl rfl (runCmd_ctnDecode h · p) (doJob_holds true h p) hr hu hP

theorem encode_goes_on (hs : Starts h (.ctnEncode p) s) (hr : doJob false h p (toFlight 0x60 h s) = u)
    (hu : u.hq.inflight = (toFlight 0x60 h s).hq.inflight) (hP : P u) : GoesOn (.ctnEncode h p) 0x60 h s P :=
  served_goes_on rfl hs rfl rfl (runCmd_ctnEncode h · p) (doJob_holds false h p) nofun nofun hr hu hP

theorem decode_goes_on (hs : Starts h (.ctnDecode p) s) (hr : doJob true h p (toFlight 0x61 h s) = u)
    (hu : u.hq.inflight = (toFlight 0x61 h s).hq.inflight) (hP : P u) : GoesOn (.ctnDecode h p) 0x61 h s P :=
  served_goes_on rfl hs rfl rfl (runCmd_ctnDecode h · p) (doJob_holds true h p) nofun nofun hr hu hP

end

/-- A job that fails before it puts anything out, as its row answers. -/
theorem job_fails {c m i : Nat} {h : Hdr} {p : CtnJobP} {env : MemEnv} {s w : State} {st : Status} (hc : c < 64) (hq : Quiet s)
    (job : (ctxOf s c).job = some (h, p, m)) (kept : JobKept w s) (hi : i < 32)
    (run : jobEndEvent c env s = jobFinish c st .error 0 0 (ctnErr i w)) :
    ∃ u, exec (.ctnJobEnd c env) s = .next (complete (jobOp (ctxOf s c).dir) h st 0 u) ∧
      ctxOf u c = { ctxOf s c with state := .error, job := none, lastStatus := statusCode st } ∧ bitOf u.ctn.err i = true ∧
      u.jgl.mem = s.jgl.mem ∧ u.jgl.poisoned = s.jgl.poisoned ∧ u.spm.mem = s.spm.mem ∧
      u.ctn.jobCount = satAdd 32 s.ctn.jobCount 1 ∧ (∀ k, k ≠ c → ctxOf u k = ctxOf s k) := by
  obtain ⟨answer, pending, left⟩ := jobFinish_fails st job kept hi
  exact ⟨_, unitRow_at hc hq (run.trans answer) (jobEndEvent_holds c env s) ((complete_pending ..).trans pending), left⟩

/-- A decode that is short of its header, as its row answers. -/
theorem job_short {c m n : Nat} {h : Hdr} {p : CtnJobP} {env : MemEnv} {s : State} {st : Status} {state : CtxState}
    (hc : c < 64) (hq : Quiet s) (job : (ctxOf s c).job = some (h, p, m)) (src : jobSrcSpm p = false)
    (dst : jobDstSpm p = false) (hn : n ≠ 0) (dir : (ctxOf s c).dir = true) (ended : state ≠ .idle)
    (run : jobEndEvent c env s = jobFinish c st state 0 0 (jobErrs st (jobReads p env (drained 9 n s)))) :
    ∃ u, exec (.ctnJobEnd c env) s = .next (complete 0x61 h st 0 u) ∧
      ctxOf u c = { ctxOf s c with state := state, job := none, lastStatus := statusCode st } ∧
      u = { regDrain 9 n s with ctn := u.ctn } := by
  have reads : jobReads p env (drained 9 n s) = regDrain 9 n s := by
    rw [jobReads, src, dst, if_neg (by decide), drained, if_neg (by omega)]
  rw [reads] at run
  obtain ⟨answer, ctx, beside⟩ := jobFinish_quiet (w := regDrain 9 n s) st job rfl ended
  rw [dir] at answer
  refine ⟨_, unitRow_at hc hq (run.trans answer) (jobEndEvent_holds c env s) ?_, ctx, beside⟩
  rw [complete_pending, beside]
  rfl

/-- Settles O28: the checks of a job and its start on its context, then how its read of the source ends it. -/
theorem coderJobs : Obligations.CoderJobs := by
  unfold Obligations.CoderJobs
  refine ⟨?_, ?_, ?_⟩
  · intro h p s on range c x counted bad job
    have rules (decode : Bool) (i : Instr) (cmd : Cmd)
        (ends : Starts h cmd s → ∀ {st u P}, doJob decode h p (toFlight (jobOp decode) h s) = complete (jobOp decode) h st 0 u →
          u.hq.inflight = (toFlight (jobOp decode) h s).hq.inflight → P u → Ends i (jobOp decode) h st 0 s P)
        (goes : Starts h cmd s → ∀ {u P}, doJob decode h p (toFlight (jobOp decode) h s) = u →
          u.hq.inflight = (toFlight (jobOp decode) h s).hq.inflight → P u → GoesOn i (jobOp decode) h s P) :
        job decode i cmd := by
      intro hs param
      have count := jobCounted_toFlight h s (jobOp decode)
      refine ⟨fun running => ends hs (doJob_flies_busy on range param running) rfl count, fun still =>
        ⟨fun first resume none_ => ends hs (doJob_flies_bad on range param still (jobStateBad_new first resume none_)) rfl ?_,
          fun resume other => ends hs (doJob_flies_bad on range param still (jobStateBad_resume resume other)) rfl ?_,
          fun first resume source => ?_, fun resume first suspended dir => ?_⟩⟩
      · rw [count]
        rfl
      · rw [count]
        rfl
      · obtain ⟨here, others, beside⟩ := jobStarted_reads decode h p s
        obtain ⟨state, coder, dir, next, left, history, job_⟩ :=
          jobCtx_first (x := ctxOf s p.ctx.toNat) decode h (srcMaster s h.src) first resume
        refine goes hs (doJob_flies on range param still (jobStateBad_first first resume) (.inr source)) rfl ?_
        rw [here]
        exact ⟨state, coder, dir, next, left, history, job_, others, beside⟩
      · obtain ⟨here, others, beside⟩ := jobStarted_reads decode h p s
        refine goes hs (doJob_flies on range param still (jobStateBad_resumes resume first suspended dir) (.inl resume)) rfl ?_
        exact ⟨here.trans (jobCtx_resume decode h _ resume), others, beside⟩
    exact ⟨rules false _ _ (fun hs => encode_ends hs) (fun hs => encode_goes_on hs),
      rules true _ _ (fun hs => decode_ends hs) (fun hs => decode_goes_on hs)⟩
  · intro c m h p env s hc hq running job src reads x n issued failed kept
    refine ⟨fun g e refused => ?_, fun pass inside => ⟨fun poisoned => ?_, fun clean dir coder new long bad => ?_⟩⟩
    · obtain ⟨w, kept_, run⟩ := jobEndEvent_refused running job src rfl issued reads refused
      exact job_fails hc hq job kept_ (by omega) run
    · exact job_fails hc hq job (jobReads_kept n p env s) (by omega)
        (jobEndEvent_poisoned running job src rfl issued reads pass inside poisoned)
    · exact job_fails hc hq job (jobReads_kept n p env s) (by omega)
        (jobEndEvent_badHeader running job src rfl issued reads pass inside clean dir coder new long bad)
  · intro c m h p env s hc hq running job src dst reads dir coder new short n issued pass inside clean
    have run := jobEndEvent_short running job src (by rw [dst]; rfl) (.inr issued) reads pass inside clean dir coder new short
    rw [jobVerdict_short] at run
    refine ⟨fun open_ => ?_, fun last => ?_⟩
    · rw [open_] at run
      exact job_short hc hq job src dst (Nat.succ_ne_zero _) dir (by decide) run
    · rw [last] at run
      exact job_short hc hq job src dst (Nat.succ_ne_zero _) dir (by decide) run

end Sys2Proof
end

section
/-! SUPPORT. The channels of the Sideshow: their heads as every round looks at them, commands that enter, commands that leave
(R282, R287, R289, R290, R292). -/

namespace Sys2Proof.Machine

/-! ### The channels of a state (R293) -/

theorem chanShw_of_shw {s t : State} (h : t.shw = s.shw) (c : Nat) : chanShw t c = chanShw s c := by
  rw [chanShw, h, chanShw]

theorem chanShw_modCh {c : Nat} {f : Channel → Channel} {s : State} (h : f (chanShw s c) ≠ chDflt c) :
    chanShw (modCh c f s) c = f (chanShw s c) := spGet_spMod_eq _ _ _ _ h

theorem chanShw_modCh_ne {c k : Nat} (f : Channel → Channel) (s : State) (h : k ≠ c) :
    chanShw (modCh c f s) k = chanShw s k := spGet_spSet_other _ _ _ _ _ _ h

/-- A change of a channel is a matter of what it makes of that channel. -/
theorem modCh_congr {c : Nat} {f g : Channel → Channel} {s : State} (h : f (chanShw s c) = g (chanShw s c)) :
    modCh c f s = modCh c g s := by
  have same : spMod (chDflt c) s.shw.chans c f = spMod (chDflt c) s.shw.chans c g :=
    congrArg (spSet (chDflt c) s.shw.chans c) h
  rw [modCh, same, modCh]

/-- A channel that is not IDLE has left its state after reset. -/
theorem ne_chDflt_of_state {x : Channel} {c : Nat} (h : x.state ≠ .idle) : x ≠ chDflt c :=
  fun e => h (congrArg Channel.state e)

theorem complete_shw (op : Byte) (h : Hdr) (st : Status) (d : W64) (s : State) : (complete op h st d s).shw = s.shw :=
  (congrArg State.shw (complete_apart op h st d s) :)

theorem toFlight_shw (op : Byte) (h : Hdr) (s : State) : (toFlight op h s).shw = s.shw :=
  toFlight_keeps State.shw op h s fun _ => rfl

/-! ### The rounds over the heads (R282, R289, R290) -/

/-- Nothing at the head of a channel waits to be looked at. -/
def ChanStill (s : State) (k : Nat) : Prop :=
  (chanShw s k).state ≠ .waiting ∧ ((chanShw s k).state = .idle → (chanShw s k).fifo = [])

theorem chanStill_congr {s t : State} {k : Nat} (e : chanShw t k = chanShw s k) (h : ChanStill s k) : ChanStill t k := by
  rw [ChanStill, e]
  exact h

theorem chanKick1_still {s : State} {c : Nat} (h : ChanStill s c) : chanKick1 c s = s := by
  obtain ⟨moving, empty⟩ := h
  unfold chanKick1
  dsimp only
  split
  next idle head => exact absurd ((empty idle).symm.trans head) nofun
  next waiting _ => exact absurd waiting moving
  next => rfl

/-- A round that finds nothing to do, one operation after another. -/
theorem eachNat_fixed {f : Nat → State → State} {l : List Nat} {s : State} (h : ∀ k ∈ l, f k s = s) :
    eachNat f l s = s := by
  induction l with
  | nil => rfl
  | cons n l ih =>
    rw [eachNat, h n List.mem_cons_self]
    exact ih fun k hk => h k (List.mem_cons_of_mem _ hk)

/-- A round in which one operation alone has something to do, and leaves nothing to the others. -/
theorem eachNat_once {f : Nat → State → State} {l : List Nat} {s t : State} {n : Nat} (hn : n ∈ l) (acts : f n s = t)
    (before : ∀ k ∈ l, k ≠ n → f k s = s) (after : ∀ k ∈ l, f k t = t) : eachNat f l s = t := by
  induction l with
  | nil => exact absurd hn List.not_mem_nil
  | cons k l ih =>
    rw [eachNat]
    by_cases here : k = n
    · rw [here, acts]
      exact eachNat_fixed fun j hj => after j (List.mem_cons_of_mem _ hj)
    · rw [before k List.mem_cons_self here]
      exact ih ((List.mem_cons.1 hn).resolve_left (Ne.symm here)) (fun j hj => before j (List.mem_cons_of_mem _ hj))
        fun j hj => after j (List.mem_cons_of_mem _ hj)

theorem chansKick_still {s : State} (h : ∀ k, k < 8 → ChanStill s k) : chansKick s = s :=
  List.foldl_fixed' (fun _ => eachNat_fixed fun k hk => chanKick1_still (h k (List.mem_range.1 hk))) _

/-- Where one head alone is to be looked at, it alone moves. -/
theorem chansKick_one {s t : State} {n : Nat} (hn : n < 8) (acts : chanKick1 n s = t)
    (before : ∀ k, k < 8 → k ≠ n → ChanStill s k) (after : ∀ k, k < 8 → ChanStill t k) : chansKick s = t := by
  have first : eachNat chanKick1 (List.range 8) s = t :=
    eachNat_once (List.mem_range.2 hn) acts (fun k hk other => chanKick1_still (before k (List.mem_range.1 hk) other))
      fun k hk => chanKick1_still (after k (List.mem_range.1 hk))
  have rounds : List.range 17 = 0 :: (List.range 16).map Nat.succ := List.range_succ_eq_map
  unfold chansKick
  dsimp only
  rw [rounds, List.foldl_cons, first]
  exact List.foldl_fixed' (fun _ => eachNat_fixed fun k hk => chanKick1_still (after k (List.mem_range.1 hk))) _

/-! ### A command that enters its channel (R282, R287, R290) -/

/-- The state in which a command that need not stage begins at the head of its channel. -/
def headState (b : Blit) : ChState := if bitOf b.p.flags 2 then .armed else .running

theorem headState_moves (b : Blit) : headState b ≠ .idle ∧ headState b ≠ .waiting := by
  unfold headState
  split <;> decide

theorem chanKick1_head {s : State} {c : Nat} {b : Blit} {rest : List Blit} (idle : (chanShw s c).state = .idle)
    (head : (chanShw s c).fifo = b :: rest) (work : b.empty = false)
    (begins : bitOf b.p.flags 2 = true ∨ staged b = false) :
    chanKick1 c s = modCh c (fun x => { x with state := headState b }) s := by
  unfold chanKick1
  dsimp only
  rw [idle, head]
  dsimp only
  rw [work, if_neg Bool.false_ne_true, headState]
  by_cases arm : bitOf b.p.flags 2 = true
  · rw [if_pos arm, if_pos arm]
  · have now : staged b = false := begins.resolve_left arm
    rw [if_neg arm, if_neg arm, blitStart, now]
    rfl

/-- The state with a command at the head of an IDLE channel, begun. -/
def blitEntered (b : Blit) (n : Nat) (s : State) : State :=
  modCh n (fun x => { x with state := headState b }) (modCh n (fun x => { x with fifo := x.fifo ++ [b] }) s)

section
variable {b : Blit} {n : Nat} {s : State}

theorem blitQueued_chan : chanShw (modCh n (fun x => { x with fifo := x.fifo ++ [b] }) s) n =
    { chanShw s n with fifo := (chanShw s n).fifo ++ [b] } :=
  chanShw_modCh fun e => absurd (congrArg Channel.fifo e) (List.append_ne_nil_of_right_ne_nil _ nofun)

theorem blitEntered_chan (first : (chanShw s n).fifo = []) :
    chanShw (blitEntered b n s) n = { chanShw s n with state := headState b, fifo := [b] } := by
  rw [blitEntered, chanShw_modCh (ne_chDflt_of_state (headState_moves b).1), blitQueued_chan, first]
  rfl

theorem blitEntered_chan_ne {k : Nat} (other : k ≠ n) : chanShw (blitEntered b n s) k = chanShw s k := by
  rw [blitEntered, chanShw_modCh_ne _ _ other, chanShw_modCh_ne _ _ other]

/-- The rounds after a command has entered an IDLE channel begin it, and move nothing else. -/
theorem chansKick_entered (hn : n < 8) (still : ∀ k, k < 8 → ChanStill s k) (idle : (chanShw s n).state = .idle)
    (work : b.empty = false) (begins : bitOf b.p.flags 2 = true ∨ staged b = false) :
    chansKick (modCh n (fun x => { x with fifo := x.fifo ++ [b] }) s) = blitEntered b n s := by
  have first : (chanShw s n).fifo = [] := (still n hn).2 idle
  refine chansKick_one hn (chanKick1_head (rest := []) ?_ ?_ work begins) ?_ ?_
  · rw [blitQueued_chan]
    exact idle
  · rw [blitQueued_chan, first]
    rfl
  · exact fun k hk other => chanStill_congr (chanShw_modCh_ne _ _ other) (still k hk)
  · intro k hk
    by_cases here : k = n
    · rw [here, ChanStill, blitEntered_chan first]
      exact ⟨(headState_moves b).2, fun rests => absurd rests (headState_moves b).1⟩
    · exact chanStill_congr (blitEntered_chan_ne here) (still k hk)

end

section
variable {kind : BlitKind} {h : Hdr} {p : BlitP} {s : State}

/-- A command that passes its checks names one of the eight channels, and one that its submitter may name. -/
theorem chan_of_passes (passes : blitRefusal kind h p s = none) :
    (h.src = .fw ∨ 2 ≤ p.chan.toNat) ∧ p.chan.toNat < 8 := by
  unfold blitRefusal at passes
  dsimp only at passes
  split at passes
  next => exact absurd passes nofun
  next open_ =>
    split at passes
    next => exact absurd passes nofun
    next =>
      split at passes
      next => exact absurd passes nofun
      next low =>
        have ordinary (host : h.src ≠ .fw) : 1 < p.chan.toNat := by simpa [host] using open_
        exact ⟨Classical.or_iff_not_imp_left.2 ordinary, Nat.lt_of_not_le low⟩

theorem doBlit_enters (passes : blitRefusal kind h p s = none) (still : ∀ k, k < 8 → ChanStill s k)
    (idle : (chanShw s p.chan.toNat).state = .idle) (work : (blitOf kind h p s).empty = false)
    (begins : bitOf p.flags 2 = true ∨ staged (blitOf kind h p s) = false) :
    doBlit kind h p s = blitEntered (blitOf kind h p s) p.chan.toNat s := by
  have hn := (chan_of_passes passes).2
  have room : fifoFull s p.chan.toNat = false := by
    rw [fifoFull, (still _ hn).2 idle]
    rfl
  unfold doBlit
  rw [passes, room]
  dsimp only
  rw [if_neg Bool.false_ne_true]
  exact chansKick_entered hn still idle work begins

/-- Firmware names any channel, another submitter channels 2 to 7. -/
theorem blit_open (may : h.src = .fw ∨ 2 ≤ p.chan.toNat) : (h.src != .fw && decide (p.chan.toNat < 2)) = false := by
  rcases may with fw | ordinary
  · simp [fw]
  · simp [Nat.not_lt.2 ordinary]

theorem blitRefusal_disabled (may : h.src = .fw ∨ 2 ≤ p.chan.toNat) (off : bitOf s.shw.ctrl 0 = false) :
    blitRefusal kind h p s = some .unsupported := by
  unfold blitRefusal
  dsimp only
  rw [blit_open may, off]
  rfl

theorem doBlit_refused {st : Status} (refused : blitRefusal kind h p s = some st) :
    doBlit kind h p s = complete (blitOp kind) h st 0 s := by
  unfold doBlit
  rw [refused]

variable (kind h p s)

theorem blitOf_toFlight (op : Byte) : blitOf kind h p (toFlight op h s) = blitOf kind h p s := by
  rw [blitOf, srcMaster_toFlight, blitOf]

theorem blitRefusal_toFlight (op : Byte) : blitRefusal kind h p (toFlight op h s) = blitRefusal kind h p s := by
  have range : blitRangeBad (toFlight op h s) = blitRangeBad s := toFlight_keeps blitRangeBad op h s fun _ => rfl
  rw [blitRefusal, blitOf_toFlight, range, toFlight_shw, blitRefusal]

end

/-! ### The three commands (R286, R339) -/

/-- The Sideshow command of a kind. -/
def blitCmd (p : BlitP) : BlitKind → Cmd | .fill => .blitFill p | .copy => .blitCopy p | .convert => .blitConvert p

/-- The row of a Sideshow command. -/
def blitRow (h : Hdr) (p : BlitP) : BlitKind → Instr
  | .fill => .blitFill h p | .copy => .blitCopy h p | .convert => .blitConvert h p

section
variable (h : Hdr) (p : BlitP) (kind : BlitKind) (s : State)

theorem blitCmd_op : opcodeOf (blitCmd p kind) = blitOp kind := by cases kind <;> rfl

theorem blitRow_exec : exec (blitRow h p kind) s = row (submit h (blitCmd p kind)) s := by cases kind <;> rfl

theorem blitCmd_needsService : needsService (blitCmd p kind) = true := by cases kind <;> rfl

theorem blitCmd_awaitsData : awaitsData (blitCmd p kind) = false := by cases kind <;> rfl

theorem blitCmd_priv : privChannel h (blitCmd p kind) = (h.src != .fw && decide (p.chan.toNat < 2)) := by
  cases kind <;> rfl

theorem runCmd_blit : runCmd h (blitCmd p kind) s =
    if h.src != .fw && decide (p.chan.toNat < 2) then complete (opcodeOf (blitCmd p kind)) h .access 0 s
    else if noService s then complete (opcodeOf (blitCmd p kind)) h .noResource 0 s else doBlit kind h p s := by
  unfold runCmd
  rw [blitCmd_priv, blitCmd_needsService, Bool.true_and]
  cases kind <;> rfl

end

/-! ### Commands that leave (R282, R292) -/

/-- A channel without its head command, which has completed. -/
def headOff (x : Channel) : Channel :=
  { x with
    state := .idle, fifo := x.fifo.drop 1, rows := 0, burst := 0, progressed := false, retried := false,
    poisonBursts := 0, area := none, stagedPoison := [], done := satAdd 32 x.done 1 }

/-- The state in which the head command of a channel, taken out of its FIFO, completes. -/
def headGone (c : Nat) (s : State) : State :=
  let s1 := modCh c headOff s
  { s1 with shw := { s1.shw with staging := if s1.shw.staging = some c then none else s1.shw.staging } }

section
variable {c : Nat} {s : State}

theorem chanPop_head {b : Blit} {rest : List Blit} (st : Status) (d : W64) (head : (chanShw s c).fifo = b :: rest) :
    chanPop c st d s = complete (blitOp b.kind) b.hdr st d (headGone c s) := by
  unfold chanPop
  rw [head]
  rfl

theorem headGone_chan : chanShw (headGone c s) c = headOff (chanShw s c) := by
  have counted (n : Nat) : satAdd 32 n 1 ≠ 0 := by
    unfold satAdd
    omega
  exact chanShw_modCh (s := s) (f := headOff) fun e => absurd (congrArg Channel.done e) (counted _)

theorem headGone_chan_ne {k : Nat} (other : k ≠ c) : chanShw (headGone c s) k = chanShw s k :=
  chanShw_modCh_ne (c := c) headOff s other

theorem shwAbort_ends {b : Blit} (busy : (chanShw s c).state ≠ .idle) (head : (chanShw s c).fifo = [b])
    (still : ∀ k, k < 8 → k ≠ c → ChanStill s k) : shwAbort c s =
      complete (blitOp b.kind) b.hdr .aborted (put (chanShw s c).rows 0) (headGone c (shwErr 3 s)) := by
  unfold shwAbort
  dsimp only
  rw [if_neg (by simp [busy]), chanPop_head (s := shwErr 3 s) _ _ head]
  refine chansKick_still fun k hk => chanStill_congr (chanShw_of_shw (complete_shw ..) k) ?_
  by_cases here : k = c
  · rw [here, ChanStill, headGone_chan]
    exact ⟨nofun, fun _ => congrArg (List.drop 1) head⟩
  · exact chanStill_congr (headGone_chan_ne here) (still k hk here)

/-- R293: firmware may abort on any channel, another master on channels 2 to 7. -/
theorem chAbortWrite_may {m : Nat} (may : 2 ≤ s.shw.chSel ∨ fwMaster m = true) :
    chAbortWrite m s = shwAbort s.shw.chSel s := by
  refine if_neg ?_
  rcases may with ordinary | fw
  · simp [Nat.not_lt.2 ordinary]
  · simp [fw]

end

/-! ### Staging (R289) -/

theorem stagingDone_issued {c k : Nat} {b : Blit} {rest : List Blit} {env : MemEnv} {s : State}
    (staging : (chanShw s c).state = .staging) (head : (chanShw s c).fifo = b :: rest) (area : (chanShw s c).area = some k) :
    let n := b.p.width.toNat * b.p.height.toNat * blitSize b.p.srcFmt.toNat / 64 * (if srcSpm b then 1 else 2) + 1
    let bursts := (List.range b.p.height.toNat).flatMap fun y => (List.range (rowBursts b)).map fun j => (y, j)
    let s0 := regDrain 8 n s
    regIssues 8 n s = true →
    ∀ s1, stageReads c k b bursts env.reads env.write (if srcSpm b then spmBusy env.busy s0 else s0) = (none, s1) →
    stagingDone c env s = chansKick (modCh c (fun x => { x with state := .running })
      { s1 with shw := { s1.shw with staging := none } }) := by
  intro n bursts s0 issues s1 reads
  unfold stagingDone
  dsimp only
  rw [staging, head, area]
  dsimp only
  rw [regBulk, if_neg (by simp), if_pos issues, reads]

end Sys2Proof.Machine
end

section
/-! The Sideshow's commands wait, stage and end (R282, R287, R289, R292). -/

namespace Sys2Proof

open Machine

section
variable {h : Hdr} {p : BlitP} {kind : BlitKind} {s : State}

/-- R282, R287: ACCESS before any other check. -/
theorem blit_privileged (hs : Starts h (blitCmd p kind) s) (host : h.src ≠ .fw) (low : p.chan.toNat < 2) :
    Ends (blitRow h p kind) (blitOp kind) h .access 0 s fun u => u = toFlight (blitOp kind) h s := by
  have run : runCmd h (blitCmd p kind) (toFlight (opcodeOf (blitCmd p kind)) h s) =
      complete (opcodeOf (blitCmd p kind)) h .access 0 (toFlight (opcodeOf (blitCmd p kind)) h s) := by
    rw [runCmd_blit, if_pos (by simp [host, low])]
  rw [← blitCmd_op p kind]
  exact starts_ends h _ _ s _ _ .access 0 _ (blitRow_exec h p kind s) hs (by simp [blitCmd_awaitsData]) run rfl (by simp) rfl

variable (hs : Starts h (blitCmd p kind) s) (may : h.src = .fw ∨ 2 ≤ p.chan.toNat)
include may

/-- A command that its submitter may give runs where the Juggler serves. -/
theorem runCmd_blit_may (v : State) : runCmd h (blitCmd p kind) v =
    if noService v then complete (opcodeOf (blitCmd p kind)) h .noResource 0 v else doBlit kind h p v := by
  rw [runCmd_blit, blit_open may, if_neg Bool.false_ne_true]

include hs

/-- R292: EN = 0. -/
theorem blit_disabled (off : bitOf s.shw.ctrl 0 = false) :
    Ends (blitRow h p kind) (blitOp kind) h .unsupported 0 s fun u => u = toFlight (blitOp kind) h s := by
  have refused : doBlit kind h p (toFlight (blitOp kind) h s) =
      complete (blitOp kind) h .unsupported 0 (toFlight (blitOp kind) h s) :=
    doBlit_refused ((blitRefusal_toFlight ..).trans (blitRefusal_disabled may off))
  rw [← blitCmd_op p kind] at refused ⊢
  exact served_refused (blitRow_exec h p kind s) hs (blitCmd_needsService p kind) (blitCmd_awaitsData p kind)
    (runCmd_blit_may may) (doBlit_holds kind h p) refused

end

/-- R282, R290: on an IDLE channel a command that need not stage begins at once. -/
theorem blit_begins {h : Hdr} {p : BlitP} {kind : BlitKind} {s : State} (hs : Starts h (blitCmd p kind) s)
    (passes : blitRefusal kind h p s = none) (still : ∀ k, k < 8 → ChanStill s k)
    (idle : (chanShw s p.chan.toNat).state = .idle) (work : (blitOf kind h p s).empty = false)
    (begins : bitOf p.flags 2 = true ∨ staged (blitOf kind h p s) = false) :
    GoesOn (blitRow h p kind) (blitOp kind) h s fun u =>
      chanShw u p.chan.toNat = { chanShw s p.chan.toNat with
        state := headState (blitOf kind h p s), fifo := [blitOf kind h p s] } ∧
      (∀ k, k ≠ p.chan.toNat → chanShw u k = chanShw s k) ∧
      u = { toFlight (blitOp kind) h s with shw := { s.shw with chans := u.shw.chans } } := by
  have shw := toFlight_shw (blitOp kind) h s
  have chan (k : Nat) : chanShw (toFlight (blitOp kind) h s) k = chanShw s k := chanShw_of_shw shw k
  have same := blitOf_toFlight kind h p s (blitOp kind)
  have enters : doBlit kind h p (toFlight (blitOp kind) h s) =
      blitEntered (blitOf kind h p s) p.chan.toNat (toFlight (blitOp kind) h s) := by
    rw [← same] at work begins ⊢
    exact doBlit_enters ((blitRefusal_toFlight ..).trans passes) (fun k hk => chanStill_congr (chan k) (still k hk))
      ((congrArg Channel.state (chan _)).trans idle) work begins
  have first : (chanShw (toFlight (blitOp kind) h s) p.chan.toNat).fifo = [] := by
    rw [chan]
    exact (still _ (chan_of_passes passes).2).2 idle
  rw [← blitCmd_op p kind] at enters ⊢
  refine served_goes_on (blitRow_exec h p kind s) hs (blitCmd_needsService p kind) (blitCmd_awaitsData p kind)
    (runCmd_blit_may (chan_of_passes passes).1) (doBlit_holds kind h p) (by cases kind <;> nofun) (by cases kind <;> nofun)
    enters rfl ⟨?_, fun k other => ?_, ?_⟩
  all_goals rw [blitCmd_op]
  · rw [blitEntered_chan first, chan]
  · rw [blitEntered_chan_ne other, chan]
  · rw [← shw]
    rfl

/-- Settles O25: a command by its checks and its flags; the end of a staging, an abort and a clearing of EN do each its own
operation in a quiet state. -/
theorem blitsWaitAndStage : Obligations.BlitsWaitAndStage := by
  unfold Obligations.BlitsWaitAndStage
  refine ⟨?_, fun s hq => ⟨?_, ?_, ?_⟩⟩
  · intro h p s n enters
    have rules (kind : BlitKind) : enters (blitRow h p kind) kind (blitCmd p kind) := by
      refine fun hs => ⟨blit_privileged hs, blit_disabled hs, fun passes still idle => ⟨fun work now alone => ?_,
        fun work arm => ?_⟩⟩
      · have runs : headState (blitOf kind h p s) = .running := if_neg (by simp [blitOf, now])
        exact runs ▸ blit_begins hs passes still idle work (.inr alone)
      · have waits : headState (blitOf kind h p s) = .armed := if_pos arm
        exact waits ▸ blit_begins hs passes still idle work (.inl arm)
    exact ⟨rules .fill, rules .copy, rules .convert⟩
  · intro c b rest k env s1 hc staging head area n s0 issues reads
    have run := stagingDone_issued staging head area issues s1 reads
    have kept := stagingDone_holds c env s
    show unitRow (decide (c < 8)) (stagingDone c env) s = _
    rw [decide_eq_true hc, unitRow_quiet _ s hq kept, run]
  · intro m b open_ may busy head still
    have run := (chAbortWrite_may may).trans (shwAbort_ends busy head still)
    have gone := headGone_chan (c := s.shw.chSel) (s := shwErr 3 s)
    have empty := (congrArg Channel.fifo gone).trans (congrArg (List.drop 1) head)
    refine ⟨_, ?_, congrArg Channel.state gone, empty, bitOf_setBit s.shw.err (by decide), rfl⟩
    refine row_exact hq ((barWrite_open m 0x1600024 (chAbortWrite m) s open_).trans run) ?_ (complete_pending ..)
    rw [← run]
    exact (congrArg holds (chAbortWrite_may may)).trans (shwAbort_holds ..)
  · exact fun m open_ => row_write_quiet m 0x1600004 shwDisable s hq open_ (shwDisable_holds s)

end Sys2Proof
end

section
/-! SUPPORT. One burst of a fill: the clock and the tokens before it, its bytes, and the channel behind it (R250, R283, R286,
R287). -/

namespace Sys2Proof.Machine

/-! ### The clock and the tokens leave the Sideshow alone (R20, R250) -/

/-- What a burst finds in a state besides the clock, the tokens and the log: the channels, the Turnstiles, DRAM's bytes and
limit, and the queue of commands. -/
def burstView (s : State) : Shw × Trn × Mem × Nat × List Instr := (s.shw, s.trn, s.jgl.mem, s.jgl.limit, s.pending)

theorem burstView_of_apart {s t : State} (h : apart s = apart t) : burstView s = burstView t := (congrArg burstView h :)

theorem refillAll_burstView (k : Nat) (s : State) : burstView (refillAll k s) = burstView s := by
  have refilled (l : List Nat) : burstView (l.foldl (fun s p => modReg p (regRefills k) s) s) = burstView s :=
    foldl_keeps _ _ _ _ fun _ _ => rfl
  exact ite_keeps burstView rfl (ite_keeps burstView (Eq.trans (by rfl) (refilled _)) (refilled _))

theorem clockRun_burstView (n : Nat) (s : State) : burstView (clockRun n s) = burstView s := by
  unfold clockRun
  extract_lets c after i1 sl s1 fab s2 s3
  have clocked : burstView s1 = burstView s := rfl
  have logged : burstView s2 = burstView s1 := burstView_of_apart (logDrainN_apart ..)
  have refilled : burstView s3 = burstView s := (refillAll_burstView ..).trans (logged.trans clocked)
  exact ite_keeps burstView refilled (Eq.trans (by rfl) refilled)

theorem deadPass_burstView (c : Nat) (s : State) : burstView (deadPass c s) = burstView s :=
  ite_keeps burstView rfl (clockRun_burstView ..)

theorem regSpend_burstView (p k : Nat) (s : State) : burstView (regSpend p k s) = burstView s := by
  unfold regSpend
  extract_lets r n s1
  have clocked : burstView s1 = burstView s := ite_keeps burstView rfl (clockRun_burstView ..)
  exact Eq.trans rfl clocked

/-- The state in which a burst's flits are spent. -/
def flitsSpent (k : Nat) (s : State) : State := if k = 0 then s else regSpend 8 k s

theorem flitsSpent_burstView (k : Nat) (s : State) : burstView (flitsSpent k s) = burstView s :=
  ite_keeps burstView rfl (regSpend_burstView ..)

/-- What a burst's Turnstile and DRAM see behind its dead time and its flits is what they saw before. -/
theorem burstView_parts {s t : State} (h : burstView t = burstView s) : t.shw = s.shw ∧ t.trn = s.trn ∧
    t.jgl.mem = s.jgl.mem ∧ t.jgl.limit = s.jgl.limit ∧ t.pending = s.pending := by
  simpa only [burstView, Prod.mk.injEq] using h

/-! ### The bytes of a burst (R283, R286) -/

/-- A store below JGL_LIMIT puts its bytes, leaves every other byte, and changes DRAM's bytes and marks alone. -/
theorem dramStore_puts {port addr : Nat} {bs : List Byte} {s : State} (inside : dramInside s addr bs.length = true) :
    let t := dramStore port addr bs s
    (∀ i, i < bs.length → memByte 0 t.jgl.mem (addr + i) = bs.getD i 0) ∧
      (∀ a, (a < addr ∨ addr + bs.length ≤ a) → memByte 0 t.jgl.mem a = memByte 0 s.jgl.mem a) ∧
      t = { s with jgl := { s.jgl with mem := t.jgl.mem, poisoned := t.jgl.poisoned } } := by
  by_cases none_ : bs = []
  · subst none_
    exact ⟨nofun, fun _ _ => rfl, rfl⟩
  · rw [dramStore_inside none_ (by simpa [dramInside] using inside)]
    exact ⟨memByte_write_in 0 s.jgl.mem addr bs, memByte_write_out 0 s.jgl.mem addr bs, rfl⟩

section
variable {c : Nat} {b : Blit} {s : State} (fill : b.kind = .fill) (dram : dstSpm b = false)
include fill

/-- A fill's burst is the element, again and again. -/
theorem burstBytes_fill (n : Nat) (src : List Byte) : burstBytes b n src =
    (List.range n).flatMap fun _ => leBytes (blitSize b.p.dstFmt.toNat) b.p.src.toNat := by
  unfold burstBytes
  rw [fill]

theorem burstBytes_fill_length (n : Nat) (src : List Byte) :
    (burstBytes b n src).length = n * blitSize b.p.dstFmt.toNat := by
  simp [burstBytes_fill fill]

include dram

/-- A fill reads nothing: its flits are those of its write. -/
theorem burstFlits_fill (x0 n y : Nat) :
    burstFlits c b x0 n y s = flits (dstAt b.p x0 y) (burstBytes b n []).length := by
  rw [burstBytes_fill_length fill, burstFlits, dram, fill]
  exact Nat.zero_add _

/-- A fill's burst that the Turnstile passes, below JGL_LIMIT, its write checks clean, is stored. -/
theorem burstRun_fill {env : MemEnv} {addr : Nat} {bytes : List Byte} (clean : env.write = .clean)
    (at_ : dstAt b.p (burstSpan b (chanShw s c).burst).1 (rowOf b (chanShw s c).rows) = addr)
    (element : burstBytes b (burstSpan b (chanShw s c).burst).2 [] = bytes)
    (pass : trnCheck s 0 b.master .w addr bytes.length = .pass) (inside : dramInside s addr bytes.length = true) :
    burstRun c b env s = chansKick (burstWritten c b false (dramStore 8 addr bytes s)) := by
  have away : (srcSpm b || dstSpm b) = false := by simp [srcSpm, fill, dram]
  have source (x0 n y : Nat) : burstSource c b x0 n y env.reads s = (none, ⟨[], false, false⟩, s) :=
    if_pos (by simp [fill])
  have stored : (dramWrite 8 addr bytes env.write s).2 = dramStore 8 addr bytes s := by
    rw [dramWrite, clean, inside]
    split <;> rfl
  have written : shwWrite b.master false addr bytes false env.write s = (none, dramStore 8 addr bytes s) := by
    unfold shwWrite
    rw [if_neg Bool.false_ne_true, trnAccess_pass pass, ← stored]
    rfl
  unfold burstRun
  dsimp only
  rw [away, if_neg Bool.false_ne_true, source, dram, at_]
  dsimp only
  rw [if_neg Bool.false_ne_true, element, written]

end

/-! ### A burst within its row (R283, R291) -/

section
variable {c : Nat} {b : Blit} {s : State}

theorem burstWritten_within (within : (chanShw s c).burst + 1 < rowBursts b) (rows : (chanShw s c).rows < b.p.height.toNat) :
    burstWritten c b false s = modCh c (fun x => { x with burst := x.burst + 1 }) s := by
  have part : decide (rowBursts b ≤ (chanShw s c).burst + 1) = false := decide_eq_false (Nat.not_le.2 within)
  unfold burstWritten
  dsimp only
  rw [part]
  simp only [Bool.false_eq_true, if_false, Bool.false_and, if_pos rows]
  exact modCh_congr rfl

/-- A running channel in its turn issues its burst as soon as its port has spent the tokens. -/
theorem burstDone_issued {rest : List Blit} {env : MemEnv} (running : (chanShw s c).state = .running)
    (head : (chanShw s c).fifo = b :: rest) (turn : burstTurn c (deadPass c s) = true) :
    let s0 := deadPass c s
    let span := burstSpan b (chanShw s c).burst
    let k := burstFlits c b span.1 span.2 (rowOf b (chanShw s c).rows) s0
    regIssues 8 k s0 = true → burstDone c env s = burstRun c b env (burstIssued c (flitsSpent k s0)) := by
  intro s0 span k issues
  have chan : chanShw (deadPass c s) c = chanShw s c := chanShw_of_shw (burstView_parts (deadPass_burstView c s)).1 c
  have offered : (k != 0 && !regIssues 8 k s0) = false := by rw [issues, Bool.not_true, Bool.and_false]
  unfold burstDone
  rw [running, head]
  dsimp only
  rw [turn, Bool.not_true, if_neg Bool.false_ne_true, chan, if_neg (ne_true_of_eq_false offered), regulated, flitsSpent]
  by_cases none_ : k = 0
  · rw [if_pos (.inr none_), if_pos none_]
  · rw [if_neg (by simpa using none_), if_pos issues, if_neg none_]

theorem dramStore_shw (port addr : Nat) (bs : List Byte) (s : State) : (dramStore port addr bs s).shw = s.shw :=
  (congrArg State.shw (dramStore_reads port addr bs s).1 :)

theorem burstIssued_chan (running : (chanShw s c).state = .running) : chanShw (burstIssued c s) c =
    { chanShw s c with readyAt := fabricCycles s.clp.cycle + (chanShw s c).dead } :=
  chanShw_modCh (s := s) (f := fun x => { x with readyAt := fabricCycles s.clp.cycle + x.dead })
    (ne_chDflt_of_state fun e => absurd (running.symm.trans e) nofun)

theorem burstIssued_chan_ne {k : Nat} (other : k ≠ c) : chanShw (burstIssued c s) k = chanShw s k :=
  chanShw_modCh_ne (c := c) (fun x => { x with readyAt := fabricCycles s.clp.cycle + x.dead }) s other

/-- The state with one burst more of its row behind a channel, which wrote some bytes. -/
def burstStored (c addr : Nat) (bs : List Byte) (s : State) : State :=
  modCh c (fun x => { x with burst := x.burst + 1 }) (dramStore 8 addr bs (burstIssued c s))

theorem burstStored_chan {addr : Nat} {bs : List Byte} (running : (chanShw s c).state = .running) :
    chanShw (burstStored c addr bs s) c = { chanShw s c with
      burst := (chanShw s c).burst + 1, readyAt := fabricCycles s.clp.cycle + (chanShw s c).dead } := by
  have chan := (chanShw_of_shw (dramStore_shw 8 addr bs (burstIssued c s)) c).trans (burstIssued_chan running)
  have counted : (chanShw (dramStore 8 addr bs (burstIssued c s)) c).state ≠ .idle := by
    rw [chan]
    exact fun e => absurd (running.symm.trans e) nofun
  rw [burstStored, chanShw_modCh (ne_chDflt_of_state counted), chan]

theorem burstStored_chan_ne {addr k : Nat} {bs : List Byte} (other : k ≠ c) :
    chanShw (burstStored c addr bs s) k = chanShw s k := by
  rw [burstStored, chanShw_modCh_ne _ _ other, chanShw_of_shw (dramStore_shw ..), burstIssued_chan_ne other]

/-- R283: the burst's bytes stand in DRAM, and nothing else changes but its channel. -/
theorem burstStored_reads {addr : Nat} {bs : List Byte} (inside : dramInside s addr bs.length = true) :
    let t := burstStored c addr bs s
    (∀ i, i < bs.length → memByte 0 t.jgl.mem (addr + i) = bs.getD i 0) ∧
      (∀ a, (a < addr ∨ addr + bs.length ≤ a) → memByte 0 t.jgl.mem a = memByte 0 s.jgl.mem a) ∧
      t = { s with
        shw := { s.shw with chans := t.shw.chans, lastBurst := c }
        jgl := { s.jgl with mem := t.jgl.mem, poisoned := t.jgl.poisoned } } := by
  obtain ⟨put_, rest, beside⟩ := dramStore_puts (port := 8) (s := burstIssued c s) inside
  obtain ⟨mem, poisoned, stored⟩ : ∃ mem poisoned, dramStore 8 addr bs (burstIssued c s) =
      { burstIssued c s with jgl := { s.jgl with mem := mem, poisoned := poisoned } } := ⟨_, _, beside⟩
  refine ⟨put_, rest, ?_⟩
  dsimp only
  rw [burstStored, stored]
  rfl

section
variable {env : MemEnv} (running : (chanShw s c).state = .running) (fill : b.kind = .fill) (dram : dstSpm b = false)
  (still : ∀ k, k < 8 → ChanStill s k) (clean : env.write = .clean) (within : (chanShw s c).burst + 1 < rowBursts b)
  (rows : (chanShw s c).rows < b.p.height.toNat)
include running fill dram still clean within rows

/-- A fill's burst within its row, issued: what it writes, and nothing that its channel's or another's head waited for. -/
theorem burstRun_within {addr : Nat} {bytes : List Byte}
    (at_ : dstAt b.p (burstSpan b (chanShw s c).burst).1 (rowOf b (chanShw s c).rows) = addr)
    (element : burstBytes b (burstSpan b (chanShw s c).burst).2 [] = bytes)
    (pass : trnCheck s 0 b.master .w addr bytes.length = .pass) (inside : dramInside s addr bytes.length = true) :
    burstRun c b env (burstIssued c s) = burstStored c addr bytes s := by
  have issued := burstIssued_chan running
  have stored := (chanShw_of_shw (dramStore_shw 8 addr bytes (burstIssued c s)) c).trans issued
  have passes : trnCheck (burstIssued c s) 0 b.master .w addr bytes.length = .pass :=
    (trnCheck_congr (s := burstIssued c s) (t := s) rfl ..).trans pass
  have run := burstRun_fill fill dram clean (by rw [issued, at_]) (by rw [issued, element]) passes inside
  rw [run, burstWritten_within (by rwa [stored]) (by rwa [stored])]
  refine chansKick_still (s := burstStored c addr bytes s) fun k hk => ?_
  by_cases own : k = c
  · rw [own, ChanStill, burstStored_chan running, running]
    exact ⟨nofun, nofun⟩
  · exact chanStill_congr (burstStored_chan_ne own) (still k hk)

/-- R250, R283: a burst of a fill to DRAM, from its dead time to its bytes. -/
theorem burstDone_fill {rest : List Blit} {addr : Nat} {bytes : List Byte} (head : (chanShw s c).fifo = b :: rest)
    (at_ : dstAt b.p (burstSpan b (chanShw s c).burst).1 (rowOf b (chanShw s c).rows) = addr)
    (element : burstBytes b (burstSpan b (chanShw s c).burst).2 [] = bytes)
    (turn : burstTurn c (deadPass c s) = true) (issues : regIssues 8 (flits addr bytes.length) (deadPass c s) = true)
    (pass : trnCheck s 0 b.master .w addr bytes.length = .pass) (inside : dramInside s addr bytes.length = true) :
    burstDone c env s = burstStored c addr bytes (flitsSpent (flits addr bytes.length) (deadPass c s)) := by
  have view := (flitsSpent_burstView (flits addr bytes.length) (deadPass c s)).trans (deadPass_burstView c s)
  obtain ⟨shw, trn, -, limit, -⟩ := burstView_parts view
  have chan (k : Nat) := chanShw_of_shw shw k
  have spent := burstFlits_fill (c := c) (s := deadPass c s) fill dram (burstSpan b (chanShw s c).burst).1
    (burstSpan b (chanShw s c).burst).2 (rowOf b (chanShw s c).rows)
  rw [at_, element] at spent
  rw [burstDone_issued running head turn (by rwa [spent]), spent]
  generalize flitsSpent (flits addr bytes.length) (deadPass c s) = t at trn limit chan
  exact burstRun_within (by rwa [chan]) fill dram (fun k hk => chanStill_congr (chan k) (still k hk)) clean (by rwa [chan])
    (by rwa [chan]) (by rwa [chan]) (by rwa [chan]) ((trnCheck_congr trn ..).trans pass) (by rwa [dramInside, limit])

end

end

end Sys2Proof.Machine
end

section
/-! A burst of a fill is written (R250, R283, R286 to R288). -/

namespace Sys2Proof

open Machine

/-- Settles O26: the burst as its bytes, its channel and its tokens leave it. -/
theorem fillBurstIsWritten : Obligations.FillBurstIsWritten := by
  unfold Obligations.FillBurstIsWritten
  intro c b rest env s hc hq running head fill dram still clean within rows span addr bytes s0 k s1 turn issues pass inside
  have done := burstDone_fill running fill dram still clean within rows head rfl (burstBytes_fill fill ..) turn issues pass
    inside
  obtain ⟨shw, -, mem, limit, pending⟩ := burstView_parts ((flitsSpent_burstView k s0).trans (deadPass_burstView c s))
  have chan (j : Nat) := chanShw_of_shw shw j
  obtain ⟨stored, rest_, beside⟩ := burstStored_reads (c := c) (s := flitsSpent k s0) (addr := addr) (bs := bytes)
    (by rwa [dramInside, limit])
  have own := burstStored_chan (s := flitsSpent k s0) (addr := addr) (bs := bytes) (by rwa [chan])
  have kept := (congrArg State.pending beside :).trans pending
  rw [chan] at own
  refine ⟨_, unitRow_at hc hq done (burstDone_holds c env s) kept, stored, fun a out => ?_, own,
    fun j off => (burstStored_chan_ne off).trans (chan j), ?_⟩
  · rw [← mem]
    exact rest_ a out
  · rw [← pending]
    exact beside

end Sys2Proof
end
